-- ==== Sys2Proof/Word.lean ====
section
/-! DEFINITION. Words and bytes: the plain types that the rest of the model is written in, and their
plainest arithmetic. -/

namespace Sys2Proof

/-- One byte. -/
abbrev Byte := BitVec 8

/-- A run of bytes, lowest offset first. -/
abbrev Bytes := List Byte

/-- A 32-bit word: an FP32 or INT32 vat element, a lane value. -/
abbrev Word := BitVec 32

/-- The value 2^n. -/
def pow2 (n : Nat) : Nat := 2 ^ n

/-- All ones in 64 bits: a course stamp taken while the count is not known (R4, R8). -/
def allOnes64 : Nat := 0xFFFFFFFFFFFFFFFF

end Sys2Proof
end

