-- ==== Sys2Proof/Syntax.lean ====
section
/-! DEFINITION. The commands of the block: one constructor of `Instr` per row of spec/opcode_table.json, with
the operands that come from outside the module. A command whose effect is fixed by the state alone has none. -/

namespace Sys2Proof

/-- What the (72,64) code found in the words of one access (R200, R202). -/
inductive Ecc where
  /-- No error. -/
  | clean
  /-- That many words had one wrong bit, and were corrected. -/
  | corrected (words : Nat)
  /-- An uncorrectable word, at this 48-bit module address. -/
  | uncorrectable (address : Nat)
  deriving DecidableEq, Repr

/-- Where and when an instruction issues, and what the memory code found for it: the core (cluster index × 8 + logical
position, R45), the queue (0–3 A0–A3, 4 V, 5 M, 6 N, 7 Q; R133, R146), the cycle 0 to 511 of the plan course in progress
(R116, R135), the words corrected in the core's instruction store and hods for this issue (R48), and the finding in the
store words that the instruction reads, where its row has no operand of its own for it (R200, R202). -/
structure Issue where
  core : Nat
  queue : Nat
  cycle : Nat
  corrected : Nat
  ecc : Ecc
  deriving DecidableEq, Repr

/-- The arrival that lets the queues of a plumb go (R146): the mark, and the cycle in which the last named queue
arrives. -/
structure PlumbMark where
  mark : Nat
  cycle : Nat
  deriving DecidableEq, Repr

/-- The fields of a 64-bit instruction word (R137), less the opcode, which the constructor names. -/
structure Fields where
  dst : Nat
  srcA : Nat
  srcB : Nat
  fmt : Nat
  flags : Nat
  imm : Nat
  deriving DecidableEq, Repr

/-- How a stored tile's bytes, as a reader receives them, differ from the bytes the store holds:
(offset in the stored tile, mask of the bits that arrive inverted). Empty: received as stored. -/
abbrev Errors := List (Nat × Nat)

/-- The path of a dictionary request (R423): the chain, with the requester's MAC address, or a gateway slot. -/
inductive Via where
  | chain (mac : Nat)
  | pcie (slot : Nat)
  deriving DecidableEq, Repr

/-- The three checking readers of R192 and R539. -/
inductive Consumer where
  /-- The weight feeder of array A`engine` of a core. -/
  | feeder (core engine : Nat)
  /-- The N queue's `sndt`. -/
  | nQueue (core : Nat)
  /-- The M queue's tile `copy`. -/
  | mQueue (core : Nat)
  deriving DecidableEq, Repr

/-- One store instance (R179). -/
inductive StoreUnit where
  | localStore (core : Nat)
  | cluster (cluster : Nat)
  | stack (brick : Nat)
  deriving DecidableEq, Repr

/-- One sample of the rail, temperature and coolant sensors (R457, R458, R563, R566). Temperatures and the
other FP32 entries are given as their bit patterns; `tenths` is the hottest temperature in tenths of a degree. -/
structure Sensors where
  /-- Measured energy of the last course, in nJ (R457). -/
  energy : Nat
  /-- Hottest brick or Keystone sensor, in tenths of a degree Celsius. -/
  tenths : Nat
  /-- The sensor's brick, 0xFF for the Keystone. -/
  brick : Nat
  /-- Coolant flow, in hundredths of a litre per minute. -/
  flow : Nat
  /-- FP32 patterns of the entries of R461 and R566. -/
  hottest : Nat
  voltage : Nat
  current : Nat
  inlet : Nat
  outlet : Nat
  flowBits : Nat
  /-- The flow lies below CoolantFlowLimit (R563). -/
  flowLow : Bool
  deriving DecidableEq, Repr

/-- How a level's module root node joins other modules (R265): the optical port, DeviceId and brick of its parent, and of
each child module. -/
structure LevelLinks where
  level : Nat
  parent : Option (Nat × Nat × Nat)
  children : List (Nat × Nat × Nat)
  deriving DecidableEq, Repr

/-- What the loader knows of a plan beside its image: the slot binding of its shared passes (R348) and how its levels join
other modules (R265). The sections of R278 carry neither. -/
structure Schedule where
  /-- The batches of R348, in the loader's order: the slots each serves. -/
  batches : List (List Nat)
  /-- The level trees across modules (R265). -/
  levels : List LevelLinks
  deriving DecidableEq, Repr

/-- A received Ethernet frame as the port's address filter sees it (R386, R387). -/
structure EthFrame where
  /-- The frame carries a valid SecTAG under this association number. -/
  secAn : Option Nat
  /-- Addressed to the port's MAC address and tagged as VlanTag requires. -/
  addressed : Bool
  /-- What the frame carries: 0 UDP port 4791 to the port's address, 1 ARP request or Neighbor Solicitation
  for the port's address, 2 a pause of the priority of PfcPriority, 4 the end of that pause, 3 anything else. -/
  kind : Nat
  /-- It found the receive buffer full. -/
  bufferFull : Bool
  deriving DecidableEq, Repr

/-- The inbound RoCEv2 operations of R389, and the acknowledgements of R395. -/
inductive RoceOp where
  | sendOnly (data : Bytes)
  | sendOnlyImm (imm : Nat) (data : Bytes)
  | sendSegment
  | write (address rkey : Nat) (data : Bytes)
  | writeImm
  | readRequest
  | atomic
  /-- Acknowledges that many outstanding messages. -/
  | ack (count : Nat)
  | nak
  | cnp
  deriving DecidableEq, Repr

/-- What resets the PCI Express function (R399). -/
inductive FunctionReset where
  | functionLevel | hot | fundamental | linkLoss
  deriving DecidableEq, Repr

/-- An SPDM request on the DOE mailbox (R481). -/
inductive SpdmRequest where
  | getCertificate (slot : Nat)
  | getMeasurements (index : Nat) (nonce : Bytes)
  | other
  deriving DecidableEq, Repr

/-- The commands: one constructor per row of spec/opcode_table.json, in the table's order. -/
inductive Instr where
  /-- COURSE_START (R9). A course begins at cycle 0, taken from the reference edge after RefDelay or from the parent's course mark. -/
  | courseStart
  /-- EPOCH_COURSE (R12). An epoch course arrives: the count is realigned or loaded, or a mismatch is detected, and epoch-interval counters and retraining retries are serviced. -/
  | epochCourse (phase8 keeperOffset : Int) (ber : List (Nat × Nat))
  /-- REFERENCE_INVALID (R10). The reference fails its frequency or epoch-spacing test and is treated as invalid until two correctly spaced pulses arrive. -/
  | referenceInvalid
  /-- COURSE_SOURCE_WRITE (R11). A write of CourseSource selects Auto, Reference, Fabric or Free-run; it is refused while a plan is armed or running. -/
  | courseSourceWrite (v : Via) (value : Nat)
  /-- COURSE_LOAD (R12). A CourseLoad write sets the count of the next epoch course on a root, or is refused with RangeError or StateRefused. -/
  | courseLoad (v : Via) (value : Nat)
  /-- COURSE_MARK (R14). A 128-bit course mark arrives on a fabric port; it is checked, grouped by Count, and may change the choice of course parent. -/
  | courseMark (port mark : Nat) (phase8 : Int)
  /-- PARENT_RESELECT (R15). After 4 courses without a valid mark from the parent, the module selects a new parent under R14, or enters Holdover if no port qualifies. -/
  | parentReselect
  /-- COURSE_HOLDOVER (R19). A module that holds a count loses its source, enters Holdover, counts on from the PLL and sends CourseHoldover. -/
  | courseHoldover
  /-- COURSE_LOCKED (R18). The module reaches Locked after a CourseLoad or after accepting a parent, and sends CourseLocked. -/
  | courseLocked
  /-- SOURCE_RETURN (R19). A lost source returns; the module compares count and phase with it and either slews the phase or schedules a phase step. -/
  | sourceReturn (count : Nat) (phase8 : Int)
  /-- PHASE_STEP (R19). At a course boundary the module spends one course without plan work, steps its PLL phase and takes the source's count. -/
  | phaseStep
  /-- LEAD_COURSE (R19). While its plan course exceeds the external count, the module idles without plan work and counts the course in LeadCourses. -/
  | leadCourse
  /-- DELAY_PROBE (R16). A delay probe is sent and echoed on a fabric link, and the one-way delay is measured into PortDelay. -/
  | delayProbe (port roundTrip8 turnaround8 : Nat)
  /-- DUE_CHECK (R23). At cycle 543 the module checks every input due at or before its plan course and decides whether the next course runs the next plan course or slips. -/
  | dueCheck
  /-- PLAN_STALLED (R27). The run of consecutive slip courses reaches StallLimit, and the module sends PlanStalled. -/
  | planStalled
  /-- REST_COURSE (R28). A rest course without plan work is forced; it adds one to the lag and is counted in RestsTotal. -/
  | restCourse
  /-- LINK_RETRY (R228). In a joint, or in a course without plan work, the sender resends the oldest queued failed flit on a lane. -/
  | linkRetry (port lane : Nat)
  /-- TILE_REREAD (R121). The one re-read of a tile that failed check 1 runs and lands, and then passes or fails check 1 again. -/
  | tileReread (consumer : Consumer) (err : Errors)
  /-- SCRUB_STEP (R201). A bank or slice not claimed by a re-read reads, corrects and writes back one granule in the joint or in a course without plan work. -/
  | scrubStep (unit : StoreUnit) (bank : Nat) (claimed : Bool) (ecc : Ecc)
  /-- POINTING_HOUSEKEEPING (R20). Pointing routers perform housekeeping in joint cycles 512 to 535, or defer it. -/
  | pointingHousekeeping (fits : Bool)
  /-- SENSOR_SAMPLE (R457). The power controller samples rail, temperature and coolant sensors and decides whether to force power rests or change the thermal level. -/
  | sensorSample (fits : Bool) (reading : Sensors)
  /-- MAINTENANCE_MICROSTEP (R50). A maintenance micro-step runs in free joint cycles, such as one portion of a spare substitution copy. -/
  | maintenanceMicrostep (cluster bytes : Nat)
  /-- LAUNCH_COURSE_WRITE (R568). A LaunchCourse write is judged in order against the plan, course, energy, slot-context and port conditions, and arms the plan or is refused. -/
  | launchCourseWrite (v : Via) (value : Nat)
  /-- LAUNCH (R32). An armed plan starts at its launch course or when it becomes ready, sending LaunchLate if it starts with a lag. -/
  | launch
  /-- LAUNCH_REFUSED (R32). A module that has not started by LaunchCourse + LaunchLateLimit is refused at that cycle and sends LaunchRefused. -/
  | launchRefused
  /-- QUOIN_COURSE (R126). At cycle 0 of a quoin course, vats are marked unopened, Q restarts at the variant's entry, and pending swaps and switches take effect. -/
  | quoinCourse
  /-- CORRECTED_THRESHOLD (R48). A core's corrected-error count reaches CorrectedThreshold within an epoch interval, and a substitution starts or SpareExhausted is sent. -/
  | correctedThreshold (cluster position : Nat)
  /-- SUBSTITUTE_CORE (R64). A SubstituteCore write requests a spare substitution for a named core. -/
  | substituteCore (v : Via) (value : Nat)
  /-- SUBSTITUTION_REGISTER_COPY (R50). In the joint before the quoin course, or after the store copy ends, the failing core's register state is copied to the spare. -/
  | substitutionRegisterCopy (cluster : Nat) (fits : Bool)
  /-- SUBSTITUTION_SWAP (R50). The spare takes the logical position at a quoin course or a course boundary, and SubstitutionDone is sent. -/
  | substitutionSwap (cluster : Nat)
  /-- UNIT_MAP_CHANGE (R58). The unit map, its digest and MapSerial change at a quoin course or an idle boundary, and UnitMapChanged is sent. -/
  | unitMapChange
  /-- ENGINE_FLAGS_CLEAR (R106). A W1C write clears sticky flags of one engine under the set-wins rule. -/
  | engineFlagsClear (v : Via) (cluster position engine value raised : Nat)
  /-- CLEAR_ALL_FLAGS (R107). A ClearAllFlags write applies its mask as a W1C write to every EngineFlags entry at once. -/
  | clearAllFlags (v : Via) (value : Nat) (raised : List (Nat × Nat))
  /-- NOP (R148). The instruction does nothing for one cycle. -/
  | nop (q : Issue) (f : Fields)
  /-- WAIT (R148). The instruction holds the next issue of its queue for n cycles. -/
  | wait (q : Issue) (f : Fields)
  /-- PLUMB (R146). A queue arrives at a plumb and is held until every queue named in the mask has arrived. -/
  | plumb (q : Issue) (f : Fields)
  /-- PLUMB_RELEASE (R146). The last named queue arrives, and every queue held at the plumb issues its next instruction in the following cycle. -/
  | plumbRelease (core : Nat) (arrival : PlumbMark)
  /-- CALL (R165). The instruction runs a Pattern Book routine with its parameters substituted. -/
  | callRoutine (q : Issue) (f : Fields)
  /-- RET (R148). The instruction returns from a Pattern Book routine to its caller. -/
  | ret (q : Issue) (f : Fields)
  /-- END (R148). The instruction ends the bundle that a queue is running. -/
  | endBundle (q : Issue) (f : Fields)
  /-- FMODE (R147). The instruction sets the issuing queue's flush mode bit. -/
  | fmode (q : Issue) (f : Fields)
  /-- BUNDLE_START (R134). A released bundle starts when its queue becomes idle. -/
  | bundleStart (core queue : Nat)
  /-- TSET (R149). The instruction writes a tile descriptor with its slot binding or expected generation. -/
  | tset (q : Issue) (f : Fields)
  /-- TFILL (R149). The instruction starts the weight feeder filling the pending plane with one stored tile. -/
  | tfill (q : Issue) (f : Fields) (batch : Option Nat) (err : Errors)
  /-- TILE_VERDICT (R120). Two cycles after a tile's last byte, the feeder judges its Check, format, codebook, tint and generation. -/
  | tileVerdict (core engine : Nat)
  /-- SUSPENSION_END (R121). When 544 cycles of suspension end, the plan resumes if the replay is done, or the suspension extends by one course. -/
  | suspensionEnd
  /-- MMA (R150). The instruction opens a pass of vectors through an array, with or without a new tile front. -/
  | mma (q : Issue) (f : Fields) (batch : Option Nat)
  /-- VRD (R151). The instruction reads a vat row and pushes it to a hod. -/
  | vrd (q : Issue) (f : Fields)
  /-- ADD (R154). The Glaze instruction adds two lane vectors. -/
  | addLane (q : Issue) (f : Fields)
  /-- SUB (R154). The Glaze instruction subtracts two lane vectors. -/
  | subLane (q : Issue) (f : Fields)
  /-- MUL (R154). The Glaze instruction multiplies two lane vectors. -/
  | mulLane (q : Issue) (f : Fields)
  /-- FMA (R154). The Glaze instruction computes a × b + c with one rounding. -/
  | fma (q : Issue) (f : Fields)
  /-- DIV (R154). The Glaze instruction divides two lane vectors, correctly rounded. -/
  | divLane (q : Issue) (f : Fields)
  /-- SQRT (R154). The Glaze instruction takes the square root of a lane vector. -/
  | sqrt (q : Issue) (f : Fields)
  /-- MIN (R154). The Glaze instruction takes the lane-wise minimum. -/
  | minLane (q : Issue) (f : Fields)
  /-- MAX (R154). The Glaze instruction takes the lane-wise maximum. -/
  | maxLane (q : Issue) (f : Fields)
  /-- FN (R95). The Glaze instruction applies one correctly rounded function chosen by its immediate. -/
  | fn (q : Issue) (f : Fields)
  /-- TBL (R96). The Glaze instruction evaluates a table activation. -/
  | tbl (q : Issue) (f : Fields)
  /-- RED (R97). The Glaze instruction reduces c chunks by sum or max to one scalar. -/
  | red (q : Issue) (f : Fields)
  /-- SQA (R154). The Glaze instruction reduces c chunks to a sum of squares. -/
  | sqa (q : Issue) (f : Fields)
  /-- ROT (R100). The Glaze instruction applies the rotary assist to element pairs. -/
  | rot (q : Issue) (f : Fields)
  /-- AMAX (R101). The Glaze instruction returns the argmax index and value over c chunks. -/
  | amax (q : Issue) (f : Fields)
  /-- TOPK (R101). The Glaze instruction returns k index-value pairs in rank order. -/
  | topk (q : Issue) (f : Fields)
  /-- RNG (R102). The Glaze instruction produces Philox draws for one lane vector. -/
  | rng (q : Issue) (f : Fields)
  /-- CVT (R154). The Glaze instruction converts a lane vector to another format, packing or spreading the result. -/
  | cvt (q : Issue) (f : Fields)
  /-- DUP (R154). The Glaze instruction pushes a popped lane vector to two hods. -/
  | dup (q : Issue) (f : Fields)
  /-- LD (R155). The move instruction loads n packed vectors from a store into a hod. -/
  | ld (q : Issue) (f : Fields) (ecc : Ecc)
  /-- ST (R155). The move instruction stores n vectors from a hod, packed, to a store. -/
  | st (q : Issue) (f : Fields)
  /-- STA (R194). The move instruction stores vectors that accumulate on write at the bank. -/
  | sta (q : Issue) (f : Fields)
  /-- LDI (R155). The move instruction loads one vector at a data-indexed offset within the named window. -/
  | ldi (q : Issue) (f : Fields) (ecc : Ecc)
  /-- STI (R155). The move instruction stores one vector at a data-indexed offset within the named window. -/
  | sti (q : Issue) (f : Fields)
  /-- WCOL (R156). The move instruction writes one column of a tint-owned tile; the write is checked, or dropped if the slot is not Stamped. -/
  | wcol (q : Issue) (f : Fields)
  /-- WROW (R156). The move instruction writes one row of a tint-owned tile; the write is checked, or dropped if the slot is not Stamped. -/
  | wrow (q : Issue) (f : Fields)
  /-- FILL (R196). The move instruction queues a fill of a raw range, or a clear of whole tiles in an Owned window, on the fill and copy engine. -/
  | fill (q : Issue) (f : Fields)
  /-- COPY (R196). The move instruction queues a copy within one store on the fill and copy engine; tile copies are checked. -/
  | copy (q : Issue) (f : Fields) (err : Errors)
  /-- SND (R159). The mortar instruction sends hod entries on a route, optionally adding in routers. -/
  | snd (q : Issue) (f : Fields)
  /-- SNDT (R158). The mortar instruction checks one stored tile and sends it whole on a route. -/
  | sndt (q : Issue) (f : Fields) (err : Errors)
  /-- DUE (R158). The instruction declares an input that must land by a later plan course. -/
  | due (q : Issue) (f : Fields)
  /-- TSIG (R159). The instruction sends a tie signal with its operand and operation to a tie table target. -/
  | tsig (q : Issue) (f : Fields)
  /-- LVA (R159). The instruction arrives at a level. -/
  | lva (q : Issue) (f : Fields)
  /-- REL (R164). The sequencer instruction releases a bundle to a queue. -/
  | rel (q : Issue) (f : Fields)
  /-- LP (R161). The sequencer instruction starts a hardware loop. -/
  | lp (q : Issue) (f : Fields)
  /-- SET (R164). The sequencer instruction writes a count register. -/
  | setCount (q : Issue) (f : Fields)
  /-- ADDC (R164). The sequencer instruction adds an immediate to a count register. -/
  | addc (q : Issue) (f : Fields)
  /-- KSET (R160). The sequencer instruction configures a comparator. -/
  | kset (q : Issue) (f : Fields)
  /-- BK (R162). The sequencer instruction branches forward on a comparator. -/
  | bk (q : Issue) (f : Fields)
  /-- WCRS (R164). The sequencer instruction waits until a named plan cycle. -/
  | wcrs (q : Issue) (f : Fields)
  /-- AO (R145). The sequencer instruction sets a queue's address offset register. -/
  | ao (q : Issue) (f : Fields)
  /-- TWAIT (R164). The sequencer instruction declares a tie condition as an input of the next plan course. -/
  | twait (q : Issue) (f : Fields)
  /-- LVW (R266). The sequencer instruction declares level completion as an input of the next plan course. -/
  | lvw (q : Issue) (f : Fields)
  /-- SWAP_ARM (R170). A SwapArm write arms the instruction-bank swap for the next quoin course. -/
  | swapArm (v : Via) (value : Nat)
  /-- BANK_SWAP (R170). The instruction banks of every core swap together, and BankSwapped is sent. -/
  | bankSwap
  /-- HANDOFF_SWAP (R173). The halves of a cluster's handoff region swap at the plan course that the Trowel named. -/
  | handoffSwap (cluster : Nat)
  /-- TROWEL_FAULT (R538). A Trowel faults, sends TrowelFault and restarts from its active bank. -/
  | trowelFault (cluster cause : Nat)
  /-- SLOT_CLEARING_DONE (R198). Every engine has cleared every window of a slot, and the slot becomes Clear at the next course boundary. -/
  | slotClearingDone (slot : Nat)
  /-- SLOT_STAMPING_DONE (R198). The last sideband of a slot has been stamped, and the slot becomes Stamped at the next course boundary. -/
  | slotStampingDone (slot : Nat)
  /-- EDGE_BLOCK_FAILURE (R221). A die-to-die block fails its check; the plan is suspended for one course and the block is resent. -/
  | edgeBlockFailure (edge : Nat)
  /-- EDGE_RETRAIN (R221). A resent edge block fails again, the edge retrains, and the module stays suspended until the edge is up. -/
  | edgeRetrain (edge : Nat)
  /-- FLIT_RECEIVED (R232). A flit arrives on a fabric lane and is checked against its landing map, then buffered, written or marked failed. -/
  | flitReceived (port lane slot : Nat) (flit : Bytes) (fecOk : Bool) (corrected : Nat)
  /-- LATE_FLIT_WRITE (R232). A flit that arrived after its write cycle is written in joint cycles or in a course without plan work. -/
  | lateFlitWrite (port : Nat)
  /-- LINK_REPORT (R227). A link control report in control slot 1 arrives; it releases flits or queues failed flits for retry. -/
  | linkReport (port lane word : Nat)
  /-- REPORT_TIMEOUT (R229). No valid report arrives within 4 courses, and every non-idle flit of that course is queued for retry. -/
  | reportTimeout (port lane course : Nat)
  /-- RELAY_FORWARD (R235). A relay module forwards a landed flit on its egress port in its own plan course. -/
  | relayForward (port route flitIndex egress lane slot : Nat)
  /-- LANE_DOWN (R243). A lane is lost, or reaches LaneErrorLimit, goes down, and starts a fast retrain. -/
  | laneDown (port lane cause : Nat)
  /-- LANE_RETRAIN_DONE (R243). A fast retrain or full training of a lane completes or fails, and LinkState and the notices follow. -/
  | laneRetrainDone (port lane : Nat) (full ok : Bool)
  /-- RETRAIN (R246). A Retrain write requests a fast retrain of every lane of a port, subject to the governor. -/
  | retrain (v : Via) (port value : Nat)
  /-- PARTNER_CHANGE (R245). A port's partner changes while Up, and the module sends LinkDown and PartnerMismatch. -/
  | partnerChange (port deviceId partnerPort : Nat)
  /-- POINTING_MESSAGE (R253). A slot 2 pointing message arrives; it is accepted in Seq order and delivered, relayed or discarded. -/
  | pointingMessage (port lane word : Nat)
  /-- POINTING_RESEND (R253). A pointing message is unacknowledged after 3 courses, and it is resent with every later message. -/
  | pointingResend (port : Nat)
  /-- SIGNAL_ARRIVAL (R259). A tie signal, ingress set or level release reaches its router and is held until its landing course. -/
  | signalArrival (packet : Nat)
  /-- LEVEL_ARRIVAL (R265). An arrival reaches a level node; when Arrived reaches Expected, the node sends an arrival upward or releases the level. -/
  | levelArrival (packet : Nat)
  /-- LEVEL_RELEASE (R265). A level release travels down the tree and lands at brick nodes, adding one to Completions. -/
  | levelRelease (packet : Nat)
  /-- INGRESS_RECORD (R263). A record for an ingress window is judged by its sequence number and credit, and is written or discarded. -/
  | ingressRecord (qp window : Nat) (record : Bytes)
  /-- BAR2_WRITE (R275). A host write to the BAR2 staging area stores image bytes, or is discarded and counted while the loader is checking. -/
  | bar2Write (offset : Nat) (data : Bytes)
  /-- PLAN_LOAD (R275). A PlanLoad write starts the loader on the staged image, or is refused. -/
  | planLoad (v : Via) (value : Nat)
  /-- PLAN_LOADER_DONE (R293). The loader finishes its ordered checks and either installs the plan as Loaded or refuses it, sending PlanLoaded or PlanRefused. -/
  | planLoaderDone (schedule : Schedule)
  /-- PLAN_DISCARD (R276). A PlanDiscard write returns a Loaded or Refused plan to Empty and clears the shadow banks. -/
  | planDiscard (v : Via) (value : Nat)
  /-- PLAN_HALT (R297). A PlanHalt write names the quoin plan course at which the running plan stops. -/
  | planHalt (v : Via) (value : Nat)
  /-- PLAN_HALTED (R331). At the halt course the plan stops, held tints end with reason 9, members release their slots, and PlanHalted is sent. -/
  | planHalted
  /-- DESCRIPTOR (R311). A 256-byte request descriptor arrives on a request queue pair and is sequence-judged and queued for admission. -/
  | descriptor (qp : Nat) (message : Bytes)
  /-- BATCH_BUILD (R312). At X − OrderLead the head builds the order batch for admission course X, judges queued descriptors and sends the replies. -/
  | batchBuild
  /-- ORDER_BATCH (R315). A member receives an order batch on its order queue pair and judges its sequence number. -/
  | orderBatch (qp : Nat) (message : Bytes)
  /-- ORDER_APPLY (R316). At admission course X every module applies the batch's admit, release, variant and takeover orders. -/
  | orderApply
  /-- ABORT_REPORT (R317). The head receives an abort report, aborts the tint at the earliest fault course, and orders its release. -/
  | abortReport (qp : Nat) (message : Bytes)
  /-- GOVERNOR_EVALUATION (R323). At segment position S/2 the governor computes the prefill fraction and may order a variant switch. -/
  | governorEvaluation (unprocessed : Nat)
  /-- TOKEN_RECORD (R329). The stop matcher judges a token record for stops, rewrites its fields, and adjusts the draft length at a round end. -/
  | tokenRecord (record : Bytes)
  /-- RECORD_SEND (R333). Buffered token records leave in position order as a SEND on their return queue pair, once the pair is not held. -/
  | recordSend (qp : Nat)
  /-- LOAD_GENERATION (R354). A LoadGeneration write starts a generation load session on an Empty side, or is refused. -/
  | loadGeneration (v : Via) (value : Nat)
  /-- LOAD_ADAPTER (R365). A LoadAdapter write starts an adapter load session, or is refused. -/
  | loadAdapter (v : Via) (value : Nat)
  /-- LOAD_ABORT (R361). A LoadAbort write ends the active load session. -/
  | loadAbort (v : Via) (value : Nat)
  /-- WEIGHT_RECORD (R358). A landed weight record is checked, kept, digested and forwarded in sequence order; the last record completes the session. -/
  | weightRecord
  /-- CREDIT_MESSAGE (R360). A credit message arrives from downstream and updates the sender's release and resend state. -/
  | creditMessage (message : Bytes)
  /-- CREDIT_SEND (R360). On the storage path the module sends a credit SEND every 16 courses, and once at completion or abort. -/
  | creditSend
  /-- SWITCH_COURSE (R362). A SwitchCourse write names the plan course at which the Loaded side becomes InForce, or is refused. -/
  | switchCourse (v : Via) (value : Nat)
  /-- GENERATION_SWITCH (R362). At the switch course the Loaded side becomes InForce and the former side becomes Retiring or Empty. -/
  | generationSwitch
  /-- GENERATION_DISCARD (R364). A GenerationDiscard write empties a Loaded side at the next admission course, or is refused. -/
  | generationDiscard (v : Via) (value : Nat)
  /-- ADAPTER_UNLOAD (R366). An AdapterUnload write zero-fills the adapter's places and empties it, or is refused. -/
  | adapterUnload (v : Via) (value : Nat)
  /-- TRAINING_PHASE (R382). A link training phase completes when both sides report Ready, and the port moves to the next phase or to Up. -/
  | trainingPhase (port word : Nat)
  /-- TRAINING_TIMEOUT (R382). A training phase overruns its limit, and training restarts from phase 1. -/
  | trainingTimeout (port : Nat)
  /-- PORT_ROLE_MISMATCH (R384). In phase 5 the partner's role differs; the port stays Down, retries every 2^20 courses, and sends PortRoleMismatch. -/
  | portRoleMismatch (port partnerRole partnerDevice : Nat)
  /-- ETH_FRAME (R386). An Ethernet frame arrives on an ingress port and is passed to RoCEv2, answered, or dropped. -/
  | ethFrame (ingress : Nat) (frame : EthFrame)
  /-- TX_SAK (R387). A TxSak write installs a transmit MACsec key, used from the next frame. -/
  | txSak (v : Via) (ingress : Nat) (value : Bytes)
  /-- RX_SAK (R387). An RxSak write installs a receive MACsec key for an association number. -/
  | rxSak (v : Via) (ingress : Nat) (value : Bytes)
  /-- ROCE_PACKET (R389). A RoCEv2 packet for a queue pair is accepted by its purpose, answered with a NAK, or dropped. -/
  | rocePacket (ingress qpn : Nat) (op : RoceOp) (icrcOk ce : Bool)
  /-- RDMA_WRITE (R392). An inbound RDMA WRITE is judged for access, sequence and position into an ingress window or the ring. -/
  | rdmaWrite (qp address rkey : Nat) (data : Bytes)
  /-- QP_CONFIG (R391). A QpConfig write moves a queue pair to Ready with a fresh R_Key, or is refused. -/
  | qpConfig (v : Via) (value : Bytes)
  /-- QP_RESET (R391). A QpReset write returns a queue pair to Reset from any state. -/
  | qpReset (v : Via) (value : Nat)
  /-- QP_RETRY_TIMEOUT (R395). An outbound message is unacknowledged for RetryTimeout courses and is retransmitted; after seven retransmissions the QP goes to Error. -/
  | qpRetryTimeout (qp : Nat)
  /-- FUNCTION_RESET (R399). A function level, hot or fundamental reset, or a loss of the PCI Express link, resets only the function. -/
  | functionReset (kind : FunctionReset)
  /-- CLAIM (R401). An unaddressed module with CHAIN_IN asserted answers a Claim in the next claim opportunity. -/
  | claim (node : Nat) (chainIn : Bool)
  /-- CONFIRM (R401). A Confirm for the module's serial gives it a node number; it asserts CHAIN_OUT and sends ChainAddressed. -/
  | confirm (node : Nat) (serial : Bytes)
  /-- CLAIM_TIMEOUT (R401). No Confirm arrives within 2^16 courses of an Answer, and the module stays unaddressed. -/
  | claimTimeout
  /-- DEVICE_ID_WRITE (R404). A DeviceId write sets the module's identity and returns its fabric and bond ports to training phase 5. -/
  | deviceIdWrite (v : Via) (value : Nat)
  /-- DICTIONARY_FRAME (R426). A dictionary frame arrives on the chain, is replayed if its sequence is known, or is executed. -/
  | dictionaryFrame (mac : Nat) (frame : Bytes)
  /-- GATEWAY_SUBMIT (R430). The host sets Owner on a gateway slot, submitting its request; on completion the module clears Owner and may raise a vector. -/
  | gatewaySubmit (slot : Nat)
  /-- READ_SEGMENT (R424). A Read of a STR or BLOB entry latches the value at offset 0 or serves a later segment from the latch. -/
  | readSegment (v : Via) (index sub typ offset : Nat)
  /-- REGISTER_WRITE (R414). A write to an entry that has no row of its own is judged under R419 and applied. -/
  | registerWrite (v : Via) (index sub typ offset total : Nat) (last : Bool) (value : Bytes)
  /-- WRITE_SEGMENT_TIMEOUT (R425). An incomplete segmented write gets no segment for 2^16 courses and is discarded. -/
  | writeSegmentTimeout (v : Via)
  /-- DESCRIBE (R427). A Describe request returns the DOMAIN descriptor of an entry. -/
  | describe (v : Via) (index sub : Nat)
  /-- NEXT (R427). A Next request returns the descriptor of the next defined entry, or Absent. -/
  | nextEntry (v : Via) (index sub : Nat)
  /-- NOTICE_RAISE (R439). A notice is raised; it is rate-limited, given a Sequence and queued on each enabled path, or suppressed. -/
  | noticeRaise (code cls source : Nat) (payload : Bytes)
  /-- NOTICE_SEND_CHAIN (R434). A queued notice is sent as a chain frame in the module's PLCA transmit opportunity. -/
  | noticeSendChain
  /-- NOTICE_RING_WRITE (R436). A queued notice is written to the host ring once there is room, followed by ProducerIndex and MSI-X. -/
  | noticeRingWrite (ok : Bool)
  /-- RING_CONTROL (R435). A RingControl write enables the notice ring, clearing its indices or faulting it, or disables it. -/
  | ringControl (value : Nat)
  /-- POWER_REQUEST (R451). A PowerRequest write names a target power state and is accepted or refused. -/
  | powerRequest (v : Via) (value : Nat)
  /-- POWER_TRANSITION_START (R450). A requested transition starts at the first course at least 2 courses after the write. -/
  | powerTransitionStart
  /-- POWER_TRANSITION_DONE (R450). A power transition completes in the new state, and PowerStateChanged is sent. -/
  | powerTransitionDone
  /-- SLEEP_ENTRY (R449). Before Sleep the module waits for its notice queues to drain, for at most 1 ms, then drops its rails. -/
  | sleepEntry
  /-- WAKE_AT_COURSE (R454). The keeper count reaches WakeCourse − WakeLead − m, and the wake sequence starts. -/
  | wakeAtCourse
  /-- CHAIN_WAKE_FRAME (R454). A chain wake frame arrives in Sleep and starts the wake sequence. -/
  | chainWakeFrame (dest : Nat) (frame : Bytes)
  /-- WAKE_N_LOW (R454). WAKE_N held low for 4 courses in Sleep starts the wake sequence. -/
  | wakeNLow
  /-- SUPPLY_LOW (R454). The input is below 46 V for 16 courses; Awake, the module is forced to Sleep, and in Sleep a SupplyLoss is counted. -/
  | supplyLow (lowest : Nat)
  /-- SUPPLY_RETURN (R454). The input is back above 48 V for 3,125 courses after a supply loss, and the module may wake. -/
  | supplyReturn
  /-- OVER_VOLTAGE (R560). The input is above 58 V for 16 courses while Awake, and the module is forced into Sleep. -/
  | overVoltage
  /-- SLEEP_TEMP_EVENT (R454). In Sleep the package sensor exceeds SleepTempLimit, THERM_ALERT is asserted, and the event is counted. -/
  | sleepTempEvent
  /-- WOKEN (R455). The wake sequence completes, and the module enters WakeTarget and sends Woken. -/
  | woken (source : Option Nat)
  /-- THERMAL_SHUTDOWN (R458). At 118 °C the island forces Sleep without firmware. -/
  | thermalShutdown
  /-- COOLANT_FLOW_LOW (R563). Coolant flow stays below CoolantFlowLimit for 3,125 courses, and CoolantFlowLow is sent. -/
  | coolantFlowLow
  /-- ATTEST_NONCE (R480). An AttestNonce write starts building a dual-signed attestation report from values captured at cycle 543. -/
  | attestNonce (v : Via) (value : Bytes)
  /-- ATTEST_COMPLETE (R480). The attestation report is complete and readable in AttestReport. -/
  | attestComplete
  /-- SPDM_REQUEST (R481). An SPDM request on the DOE mailbox is answered with certificates or measurements. -/
  | spdmRequest (request : SpdmRequest)
  /-- OWNER_ENROLL (R477). An OwnerEnroll write enrolls the owner's key digests, or is refused. -/
  | ownerEnroll (v : Via) (value : Bytes)
  /-- OWNER_CHANGE (R477). An owner-signed kind 4 item changes or removes the owner enrolment. -/
  | ownerChange (v : Via) (value : Bytes)
  /-- LIFECYCLE_TOKEN (R483). A kind 5 token moves the lifecycle state, with erasure and a restart where the move requires them. -/
  | lifecycleToken (v : Via) (value : Bytes)
  /-- DEBUG_REQUEST (R491). A DebugRequest write lowers the debug level or raises it where no token is needed, or is refused. -/
  | debugRequest (v : Via) (value : Nat)
  /-- DEBUG_TOKEN (R491). A verified kind 3 token sets the debug level and consumes the nonce. -/
  | debugToken (v : Via) (value : Bytes)
  /-- DEBUG_READ (R492). A DebugRead returns DebugLength bytes from DebugAddress, within the level's limits. -/
  | debugRead (v : Via)
  /-- DEBUG_WRITE (R492). A DebugWrite writes bytes at DebugAddress at D3 in Hold with no plan armed or running. -/
  | debugWrite (v : Via) (value : Bytes)
  /-- TRACE_START (R492). The plan course reaches TraceStart, and the issue trace of TraceCore begins capturing. -/
  | traceStart
  /-- SECURITY_VERSION_COMMIT (R476). A SecurityVersionCommit write raises SecurityVersionFused to the running version, or is refused. -/
  | securityVersionCommit (v : Via) (value : Nat)
  /-- NOTAFTER_PASSED (R473). When the count is first known and has passed the running image's NotAfter, the module sends ImageRefused and keeps running. -/
  | notafterPassed
  /-- BOND_MODE_WRITE (R502). A BondMode write enters a paired mode to wait for the partner, or ends the bond with Solo. -/
  | bondModeWrite (v : Via) (value : Nat)
  /-- BOND_YIELD (R505). A BondYield write makes the module set Yield, asking its partner to take over. -/
  | bondYield (v : Via) (value : Nat)
  /-- HEARTBEAT (R504). A heartbeat word arrives on a bond lane and updates the partner's mode, marks and KeyTag. -/
  | heartbeat (bond lane word : Nat)
  /-- PARTNER_LOST (R505). HeartbeatLimit consecutive courses are missed; the partner is lost, leading to a takeover, a bond report or a return to Solo. -/
  | partnerLost
  /-- BOND_REPORT (R510). The head receives a bond report from a member and orders a takeover in its next batch. -/
  | bondReport (qp : Nat) (message : Bytes)
  /-- BOND_TAKEOVER (R511). At takeover course T the survivor resumes, aborts or clears each mirrored slot and becomes Solo. -/
  | bondTakeover
  /-- BOND_TAKEN_OVER (R513). A lost partner that is still alive sees TookOver, sets Solo and sends BondTakenOver. -/
  | bondTakenOver
  /-- MIRROR_RECORD (R508). A mirror record is applied in order within the ingress share, and AppliedMark advances. -/
  | mirrorRecord (record : Bytes)
  /-- MIRROR_BUFFER_FULL (R508). The sender's mirror buffer fills, the bond becomes Degraded and MirrorLagging is sent. -/
  | mirrorBufferFull
  /-- BOND_DEGRADED (R509). KeyTags differ for 64 consecutive courses, and the bond becomes Degraded. -/
  | bondDegraded
  /-- RESYNC_DONE (R514). The last slot of both sides has been copied with equal KeyTags, the bond becomes Protected, and ResyncDone is sent. -/
  | resyncDone
  /-- REPAIR_REQUEST (R541). A holder receives a repair request and sends the checked tile or a refusal. -/
  | repairRequest (port : Nat) (granule : Bytes)
  /-- REPAIR_TILE (R542). A repaired tile or a refusal arrives, and the requester writes the tile and re-reads it or moves to the next source. -/
  | repairTile (granule tile : Bytes)
  /-- REPAIR_TIMEOUT (R539). A repair source has not delivered within RepairTimeout courses and counts as refused. -/
  | repairTimeout
  /-- NO_REPAIR_SOURCE (R543). No source delivers; the pass yields no data, the module resumes, and the side is marked Damaged or the tints are aborted. -/
  | noRepairSource
  /-- DAMAGE_REPORT (R544). The head receives a damage report and withholds the generation from admission. -/
  | damageReport (qp : Nat) (message : Bytes)
  /-- FIRMWARE_ACTIVATE (R516). A FirmwareActivate write arms a firmware activation at a quoin course, or is refused. -/
  | firmwareActivate (v : Via) (value : Nat)
  /-- FIRMWARE_ACTIVATION (R516). At the named course the Trowels swap banks, patch RAM is loaded, and the Keystone restarts through the ROM. -/
  | firmwareActivation
  /-- KEYSTONE_RESTART_DONE (R516). The Keystone finishes its restart, executes the waiting requests and sends FirmwareActivated. -/
  | keystoneRestartDone
  /-- PATCH_LOAD (R517). A PatchLoad write checks a staged Pattern Book patch item for loading into patch RAM. -/
  | patchLoad (v : Via) (value : Nat)
  /-- PATCH_ACTIVATE (R517). A PatchActivate write names the quoin course at which the patch RAM halves swap. -/
  | patchActivate (v : Via) (value : Nat)
  /-- PATCH_SWAP (R169). At the named quoin course the patch takes effect, and PatchActivated is sent. -/
  | patchSwap
  /-- RETIRE_CLUSTER (R518). A RetireCluster write marks a cluster for retirement or cancels a pending one. -/
  | retireCluster (v : Via) (value : Nat)
  /-- MAINTENANCE_RELEASE (R520). A held maintenance request is started once nothing blocks it, or is dropped if its conditions now fail. -/
  | maintenanceRelease
  /-- ATTEMPT_START (R530). With the input in range, PWR_GOOD asserted and RESET_N high, a start attempt runs the ROM, firmware, self-test and zero-fill steps. -/
  | attemptStart (failing : List Nat)
  /-- RESET_N (R529). A RESET_N low pulse of at least 16 courses resets the module until release. -/
  | resetN (low : Nat)
  /-- PWR_GOOD_DEASSERT (R529). PWR_GOOD is deasserted for 16 courses while Awake, and the module enters Sleep with cause 3. -/
  | pwrGoodDeassert
  /-- POWER_LOSS (R560). The input falls below 36 V, and the module is Off. -/
  | powerLoss
  /-- START_CONFIRMED (R531). StartState stays Operational for 2^20 courses, FailedStarts is cleared and StartConfirmed is sent. -/
  | startConfirmed
  /-- START_FAILED (R531). An attempt fails for a listed reason, is recorded, and a new attempt starts through an internal reset. -/
  | startFailed (reason detail : Nat)
  /-- START_RETRY (R535). A StartRetry write in Limewash clears FailedStarts and starts a new attempt. -/
  | startRetry (v : Via) (value : Nat)
  /-- SLOT_SELECT (R532). A SlotSelect write chooses the firmware slot to be written, or is refused for the running slot. -/
  | slotSelect (v : Via) (value : Nat)
  /-- SLOT_IMAGE (R532). A SlotImage write erases a firmware slot and writes an image, which is verified on completion. -/
  | slotImage (v : Via) (value : Bytes)
  /-- SLOT_STAGE (R532). A SlotStage write copies an image staged in BAR2 into the selected firmware slot for verification. -/
  | slotStage (v : Via) (value : Nat)
  /-- DIAGNOSTIC_RUN (R552). A DiagnosticRun write in Limewash runs a core self-test, store march or optical loopback. -/
  | diagnosticRun (v : Via) (value : Nat) (failing : List Nat)
  /-- CLEAR_WITHHELD (R551). A ClearWithheld write clears a generation's withheld bit. -/
  | clearWithheld (v : Via) (value : Nat)
  /-- HARD_FAULT (R54). An uncorrectable fault in a core, cluster store or stack group is detected, and HardFault is sent. -/
  | hardFault (kind unit : Nat)
  /-- PLAN_STOP (R545). At the next course boundary after a hard fault, the plan stops, its state is lost, and tints are yielded or aborted. -/
  | planStop
  /-- STORE_STUCK (R546). A raw stack granule rewritten with zeros fails again, it is recorded in StuckAddress, and StoreStuck is sent. -/
  | storeStuck (address : Nat)
  /-- FATAL_FAULT (R547). A fatal fault restarts the module through an internal reset, and FatalReset follows once it is Operational. -/
  | fatalFault (cause : Nat)
  /-- BAR0_WRITE (R397). A host write to BAR0 outside the gateway Owner bit (a reserved offset, a gateway slot while Owner is 1, or a notice-ring register such as ConsumerIndex) is discarded and counted or updates the ring state. -/
  | bar0Write (offset length value : Nat)
  /-- INGRESS_LINK_CHANGE (R405). An ingress port's Ethernet link goes up or down, EthLinkState changes and IngressLinkChange is sent. -/
  | ingressLinkChange (ingress : Nat) (up : Bool)
  /-- PCIE_LINK_CHANGE (R412). The PCI Express link trains up, changes rate or width, and PcieLinkState changes with PcieLinkChange sent. -/
  | pcieLinkChange (state rate width : Nat)
  /-- IDE_KM_EXCHANGE (R396). An IDE_KM exchange over DOE programs keys and starts or ends an IDE stream, changing IdeActive. -/
  | ideKmExchange (active : Bool)
  /-- EDGE_LOSS_OF_LOCK (R249). A die-to-die edge loses lock, retrains, and EdgeRetrain is sent with cause 2. -/
  | edgeLossOfLock (edge : Nat)
  /-- EDGE_RETRAIN_DONE (R221). A retraining edge comes up again, EdgeState returns to Up and the module's suspension can end. -/
  | edgeRetrainDone (edge : Nat)
  /-- SPARE_FAULT (R53). The spare core reports a fault during a substitution, the substitution is abandoned and SpareState becomes Spare failed. -/
  | spareFault (cluster : Nat)
  /-- TROWEL_RESTART_DONE (R538). A faulted Trowel finishes its restart from its active bank within 1 ms, TrowelState returns to Running and its handoff half is written again. -/
  | trowelRestartDone (cluster : Nat)
  deriving DecidableEq, Repr

end Sys2Proof
end

