-- ==== Sys2Proof/Config.lean ====
section
/-! DEFINITION. What the part and its environment fix and the spec does not: the free values, none of which has a
body, and the functions of published standards that the spec names without restating them. -/

namespace Sys2Proof.Config

/-- The fresh random R_Key of R391, at the n-th draw (assumption 7). -/
opaque freeRKey : Nat → BitVec 32

/-- One random byte of a DebugNonce (R491), at the n-th draw (assumption 7). -/
opaque freeByte : Nat → Byte

/-- A random number drawn where the spec says random and no more (R483 erasure keys and the like). -/
opaque freeWord : Nat → BitVec 64

/-- The content of vat columns that a transposed pass opens without writing them (R125, R127), by draw and column
(assumption 18). -/
opaque freeVat : Nat → Nat → BitVec 32

/-- Whether a fused multiply-add of an infinity, a zero and a NaN raises IV (assumption 15). -/
opaque fmaInvalid : Nat → Nat → Nat → Bool

/-- A function of R95 at an input for which the brackets do not settle the rounding (assumption 17): code and
flags. -/
opaque freeFn : Nat → Nat → BitVec 32 × BitVec 5

/-- RFC 8032: the public key of a 32-byte seed (R467; assumption 8). -/
opaque ed25519Public : Bytes → Bytes

/-- FIPS 204: the ML-DSA-65 public key of a 32-byte seed ξ (R467; assumption 8). -/
opaque mlDsaPublic : Bytes → Bytes

/-- Whether an Ed25519 signature (public key, message, signature) verifies. -/
opaque ed25519Verify : Bytes → Bytes → Bytes → Bool

/-- Whether an ML-DSA-65 signature (public key, message, signature) verifies. -/
opaque mlDsaVerify : Bytes → Bytes → Bytes → Bool

/-- The Ed25519 signature of a message under a seed. -/
opaque ed25519Sign : Bytes → Bytes → Bytes

/-- The ML-DSA-65 signature of a message under a seed. -/
opaque mlDsaSign : Bytes → Bytes → Bytes

/-- The SHA3-256 digests of the vendor anchors that the ROM holds (R475): 0 to 3 Ed25519, 4 to 7 ML-DSA-65. -/
opaque anchorDigest : Nat → Bytes

/-- A DER certificate chain of the part for its present keys: false Ed25519, true ML-DSA-65 (R496). -/
opaque certChain : Bool → Bytes → Bytes

/-- The manifest records that a Pattern Book patch body carries (R169), and those of a firmware image (R569). -/
opaque patchRecords : Bytes → Bytes
opaque imageManifest : Bytes → Bytes

/-- The Pattern Book ROM code that goes with a firmware image's header (R174). -/
opaque patternRom : Bytes → Bytes

/-- The fixed 256-byte Limewash header of the ROM (R536). -/
opaque limewashHeader : Bytes

/-- The firmware image that a new part's slot 0 holds (R550: per part; assumption 4). -/
opaque factoryImage : Bytes

/-- The Pattern Book patches that the body of a firmware image carries (R516). -/
opaque imagePatches : Bytes → Bytes

/-- The Trowel image version that goes with a firmware image's header (R176: per firmware). -/
opaque trowelVersion : Bytes → BitVec 32

/-- What a diagnostic finds that is started with no finding given (R552): the failing units, by draw and test
(assumption 47). -/
opaque freeDiagnosis : Nat → Nat → List (BitVec 32)

end Sys2Proof.Config
end

