-- ==== Sys2Proof/Machine/Bits.lean ====
section
/-! DEFINITION. Little-endian values in byte strings (R5), bit fields, and signed values. -/

namespace Sys2Proof.Machine

/-- The `n` low bytes of `v`, lowest first. -/
def leBytes (n v : Nat) : Bytes :=
  match n with
  | 0 => []
  | n + 1 => BitVec.ofNat 8 v :: leBytes n (v / 256)

/-- The value of a little-endian byte string. -/
def leVal (bs : Bytes) : Nat :=
  match bs with
  | [] => 0
  | b :: r => b.toNat + 256 * leVal r

/-- `n` zero bytes. -/
def zeros (n : Nat) : Bytes := List.replicate n 0

/-- The `n` bytes at an offset; bytes beyond the end read 0. -/
def slice (bs : Bytes) (off n : Nat) : Bytes :=
  let t := (bs.drop off).take n
  t ++ zeros (n - t.length)

/-- The unsigned field of `n` bytes at an offset. -/
def field (bs : Bytes) (off n : Nat) : Nat := leVal (slice bs off n)

/-- One byte at an offset. -/
def byteAt (bs : Bytes) (off : Nat) : Nat := (bs.getD off 0).toNat

/-- A byte string of exactly `n` bytes: cut or padded with zeros. -/
def padTo (n : Nat) (bs : Bytes) : Bytes := slice bs 0 n

/-- The field [lo + n − 1 : lo] of a value. -/
def bits (v lo n : Nat) : Nat := v / 2 ^ lo % 2 ^ n

/-- Bit `i` of a value. -/
def bit (v i : Nat) : Bool := v / 2 ^ i % 2 == 1

/-- 1 or 0. -/
def flagNat (b : Bool) : Nat := if b then 1 else 0

/-- The two's complement value of `w` bits. -/
def toSigned (w v : Nat) : Int :=
  let u := v % 2 ^ w
  if u < 2 ^ (w - 1) then (u : Int) else (u : Int) - (2 ^ w : Nat)

/-- The `w`-bit pattern of an integer, modulo 2^w. -/
def ofSigned (w : Nat) (i : Int) : Nat := (i % (2 ^ w : Nat)).toNat

/-- Set bits of `v` among the low `n`. -/
def countBits (n v : Nat) : Nat :=
  match n with
  | 0 => 0
  | n + 1 => v % 2 + countBits n (v / 2)

/-- Bitwise operations on values below 2^64. -/
def andMask (a b : Nat) : Nat := a &&& b
def orMask (a b : Nat) : Nat := a ||| b
def xorMask (a b : Nat) : Nat := a ^^^ b

/-- `a` with the bits of `b` cleared. -/
def clearBits (a b : Nat) : Nat := a - (a &&& b)

/-- ⌈a / b⌉ for b > 0. -/
def ceilDiv (a b : Nat) : Nat := (a + b - 1) / b

/-- Every byte is 0. -/
def allZero (bs : Bytes) : Bool := bs.all (fun b => b == 0)

/-- ASCII bytes of a string. -/
def ascii (s : String) : Bytes := s.toList.map (fun c => BitVec.ofNat 8 c.toNat)

/-- The bit set of a list of numbers. -/
def bitSet (l : List Nat) : Nat := l.foldl (fun a i => a ||| 2 ^ i) 0

/-- The positions below `n` at which a mask has a 1, rising. -/
def bitList (n v : Nat) : List Nat := (List.range n).filter (fun i => bit v i)

end Sys2Proof.Machine
end

