-- ==== Sys2Proof/Machine/State.lean ====
section
/-! DEFINITION. The state of one Prapol module as plain data, the reasons a step can stop, and the state after
reset. Every fixed-width dictionary entry that is not computed from other state is a register in `regs`, keyed
index × 256 + sub; every STR or BLOB entry that holds a value of its own is in `blobs` under the same key. A
`Map` lists only keys whose value differs from the default its accessor names. -/

namespace Sys2Proof.Machine

/-- A sparse table: keys strictly rising, no entry equal to what an unlisted key reads as. -/
abbrev Map (α : Type) := List (Nat × α)

/-- Addressed bytes in the same canonical form (R181 addresses; BAR2 offsets). -/
abbrev Memory := List Host.Cell

/-- A running SHA3-256 sponge: 25 lanes of 64 bits, and the bytes not yet absorbed. -/
structure Sponge where
  lanes : List Nat
  pending : Bytes
  deriving DecidableEq, Repr

/-- The power states of R446, and the module held in reset (R529). -/
inductive PowerMode where
  | run | hold | doze | sleep | off | inReset
  deriving DecidableEq, Repr

/-- The latest course mark of a port (R13), with the local count of the course it arrived in. -/
structure Mark where
  count : Nat
  depth : Nat
  holdover : Bool
  epoch : Bool
  senderLag : Nat
  rootId : Nat
  phase8 : Int
  arrived : Nat
  deriving DecidableEq, Repr

/-- Time as the module knows it (R7 to R19, R439, R453). -/
structure Time where
  /-- L of R439: courses of the module's own grid since reset or wake. -/
  localCount : Nat
  /-- The external count is known and confirmed (R8, R453). -/
  known : Bool
  /-- The external course count. -/
  count : Nat
  /-- The present course is an epoch course (R9). -/
  epoch : Bool
  /-- The keeper's count and its stored frequency offset (R453). -/
  keeper : Nat
  keeperOffset : Int
  /-- Keeper courses at entry to Sleep. -/
  sleptAt : Nat
  /-- COURSE_REF and EPOCH are valid (R10), the good pulses since they last were not (2 at most), and the local course
  of the latest EPOCH pulse. -/
  refValid : Bool
  goodPulses : Nat
  lastPulse : Option Nat
  /-- A CourseLoad value that waits for its course (R12). -/
  load : Option Nat
  /-- Consecutive courses without a valid mark from the parent (R15), and whether the present course has brought one. -/
  markless : Nat
  marked : Bool
  /-- Latest marks by port (R14), and the ports counted in CourseMarkConflict for the present course. -/
  marks : Map Mark
  conflicts : List Nat
  /-- The marks of the present course wait until a pending CourseLoad has been taken or not (R12, R13). -/
  marksOwed : Bool
  /-- Parent accepted in this local course, not yet Locked (R18). -/
  acquiring : Option Nat
  /-- A phase step that waits for the next course boundary (R19): the source's count, and its phase in 1/8 cycles. -/
  step : Option (Nat × Int)
  /-- Phase still to be slewed, in 1/8 cycles (R19). -/
  slew : Int
  deriving DecidableEq, Repr

/-- What an external course carries (R22). -/
inductive CourseKind where
  /-- No plan is running. -/
  | idle
  /-- Runs this plan course. -/
  | work (p : Nat)
  /-- A slip course with the LastSlipCause code of R37. -/
  | slip (cause : Nat)
  /-- A rest course (R28); the flag tells a thermal from a power rest. -/
  | rest (thermal : Bool)
  /-- Idles through this grout course (R30). -/
  | grout (p : Nat)
  /-- Idles until the external count reaches the plan course (R19). -/
  | lead
  /-- The phase step of R19. -/
  | phase
  /-- A course in Hold (R447). -/
  | held
  deriving DecidableEq, Repr

/-- What an input of R23 waits for. -/
inductive Need where
  /-- That many granules of a route (R158). -/
  | granules (route count : Nat)
  /-- A tie of a core holding at least, or exactly, a value (R164, R258). -/
  | tie (core tie value : Nat) (exact : Bool)
  /-- A level complete for a core (R266). -/
  | level (core level : Nat)
  /-- A flit that this module relays (R235). -/
  | relay (port route flit : Nat)
  deriving DecidableEq, Repr

/-- A declared input: due by cycle 543 of plan course `due`; missing, it slips with `cause`. -/
structure Input where
  need : Need
  due : Nat
  cause : Nat
  deriving DecidableEq, Repr

/-- A tile that failed check 1 and waits for its re-read (R121, R158, R192): its reader, its module address, its
format, where a tile copy writes it (or the route and granule to which `sndt` sends it), and whether the one
re-read has failed as well (R539). -/
structure TileWait where
  consumer : Consumer
  address : Nat
  fmt : Nat
  dest : Nat
  failed : Bool
  deriving DecidableEq, Repr

/-- A suspension of the whole plan (R121, R221, R539). -/
structure Suspension where
  /-- Readers whose tile has not yet been re-read and replayed. -/
  waiting : List TileWait
  /-- Edges whose block has not yet been delivered. -/
  edges : List Nat
  /-- Courses the suspension spans, the present one included. -/
  courses : Nat
  /-- LastSlipCause: 3 a tile re-read, 1 an edge block. -/
  cause : Nat
  deriving DecidableEq, Repr

/-- The counters of R37 as they stand; the entries at 0x2010 are their snapshot of cycle 543. -/
structure Counts where
  slips : Nat
  rests : Nat
  skipped : Nat
  idled : Nat
  lagSlips : Nat
  cause : Nat
  course : Nat
  maxLag : Nat
  lead : Nat
  deriving DecidableEq, Repr

/-- Plan progress (R23 to R38). -/
structure Progress where
  /-- A plan is running. -/
  running : Bool
  /-- P: the last plan course executed. -/
  course : Nat
  launchCourse : Nat
  /-- The present external course, and the one that follows it. -/
  kind : CourseKind
  next : CourseKind
  /-- The present course has skipped the grout course before it (R30). -/
  jumped : Bool
  /-- The run of slip courses of R27, and PlanStalled sent in it. -/
  stall : Nat
  stalled : Bool
  counts : Counts
  /-- Rest causes waiting to be forced: power (R457), thermal (R458). -/
  restPower : Bool
  restThermal : Bool
  /-- Courses since the latest thermal rest (R458). -/
  sinceRest : Nat
  inputs : List Input
  /-- Granules landed of each route and not yet consumed by a `due`. -/
  landed : Map Nat
  /-- Sends made on each fabric route in the present segment (R280). -/
  sends : Map Nat
  suspension : Option Suspension
  /-- The suspension ended in the present course, in which its plan course therefore ends too (R121). -/
  resumed : Bool
  /-- PlanHalt course (R297). -/
  halt : Option Nat
  /-- An ordered variant switch: variant and quoin course (R316). -/
  variant : Option (Nat × Nat)
  deriving DecidableEq, Repr

/-- A tile descriptor TDn (R149). -/
structure TileDesc where
  slotKind : Bool
  slot : Nat
  generation : Nat
  deriving DecidableEq, Repr

/-- What the front that takes a tile names for it (R113, R120, R150): the weight format of its pairing, the tint slot
or none for a shared tile, and the expected generation, none where no generation is bound or in force. -/
structure Front where
  wt : Nat
  slot : Option Nat
  expected : Option Nat
  deriving DecidableEq, Repr

/-- A fill of the weight feeder (R149): where from, how the tile arrived, what is known of it. -/
structure Fill where
  address : Nat
  fmt : Nat
  /-- The descriptor as it stood at issue is that of a shared tile, and the generation E that it gave (R350). -/
  shared : Bool
  expected : Option Nat
  /-- The batch of R348 that the pass serves. -/
  batch : Option Nat
  /-- The bytes as received: sideband, strip, elements (R119). -/
  bytes : Bytes
  /-- The front that takes the tile, once its pass has issued. -/
  front : Option Front
  /-- The cycle of the verdict has come (R119). -/
  arrived : Bool
  /-- The verdict of R120: `none` not yet given, `some true` data, `some false` no data (R122). -/
  verdict : Option Bool
  /-- The flush bit of cycle F, by which the tile was decoded (R119). -/
  flush : Bool
  deriving DecidableEq, Repr

/-- A pass (R113, R150). -/
structure Pass where
  /-- A front: the pass takes the next fill. -/
  fresh : Bool
  act : Nat
  wt : Nat
  opening : Bool
  saturate : Bool
  transposed : Bool
  base : Nat
  stride : Nat
  quarter : Nat
  /-- Its vectors, and the hod they come from. -/
  count : Nat
  hod : Nat
  /-- Its start cycle s as a plan position, course × 512 + cycle (R115, R150). -/
  start : Nat
  /-- The descriptor that SrcB named (R150): the tint slot, and the generation of a shared one, 0 for none; the
  generation that R350 gives a shared tile of its batch. -/
  slot : Option Nat
  generation : Nat
  expected : Option Nat
  /-- The flush bit of its A queue in cycle s, once that cycle has passed (R147). -/
  flush : Option Bool
  deriving DecidableEq, Repr

/-- A vat row (R123): unopened, format tag, 128 columns. -/
structure VatRow where
  opened : Bool
  int : Bool
  cols : List Word
  deriving DecidableEq, Repr

/-- A pass whose additions a vat read may not yet see (R124): the pass with its flush bit and its vectors (scale code
and element codes), its tile, and the vat before it. -/
structure Recent where
  pass : Pass
  flush : Bool
  vectors : List (Nat × List Nat)
  tile : Fill
  seed : Nat
  before : Map VatRow
  deriving DecidableEq, Repr

/-- One array: descriptors, fills in issue order, the active plane, passes waiting, the vat, the latest passes, and the
plan position up to which BusyCycles has counted (R130). -/
structure ArrayState where
  descs : Map TileDesc
  fills : List Fill
  /-- The tile latched in the active plane (R118), with its verdict. -/
  active : Option Fill
  passes : List Pass
  vat : Map VatRow
  recent : List Recent
  busyTo : Nat
  deriving DecidableEq, Repr

/-- A Pattern Book call in progress (R165): routine, the caller's parameters P0 to P2, format and W. -/
structure Call where
  routine : Nat
  p0 : Nat
  p1 : Nat
  p2 : Nat
  fmt : Nat
  word : Nat
  deriving DecidableEq, Repr

/-- One instruction queue (R133 to R135, R145 to R147). -/
structure QueueState where
  /-- Released bundles not yet started (R134), and the bundle that runs. -/
  released : List Nat
  bundle : Option Nat
  calls : List Call
  /-- Held at a plumb with this mark and mask (R146), from this plan position on. -/
  plumb : Option (Nat × Nat)
  plumbAt : Nat
  flush : Bool
  /-- Address offset register (R145), and the values set whose plan position has perhaps not come, oldest first. -/
  ao : Nat
  aoSoon : List (Nat × Nat)
  /-- The plan position before which nothing more issues (R135). -/
  busy : Nat
  /-- Index of the next instruction (R133, R492). -/
  index : Nat
  deriving DecidableEq, Repr

/-- A comparator K (R160, R492). -/
structure Comparator where
  left : Nat
  right : Nat
  imm : Nat
  relation : Nat
  useImm : Bool
  deriving DecidableEq, Repr

/-- A hardware loop (R161): first body index, body length, iterations left, the ending comparator. -/
structure Loop where
  start : Nat
  length : Nat
  left : Nat
  until_ : Option Nat
  deriving DecidableEq, Repr

/-- What a Q wait slot holds (R258). -/
inductive WaitSlot where
  | tie (tie value : Nat) (exact : Bool)
  | level (level : Nat)
  deriving DecidableEq, Repr

/-- The sequencer (R160 to R164). -/
structure Sequencer where
  counts : Map Nat
  comparators : Map Comparator
  loops : List Loop
  /-- Plan course and cycle that `wcrs` waits for; 0, 0 for none. -/
  until_ : Nat × Nat
  /-- W0 to W7 in use. -/
  waits : Map WaitSlot
  /-- `lva` instructions since launch by level (R266). -/
  arrivals : Map Nat
  deriving DecidableEq, Repr

/-- The pop of a pass, or of the passes that share it (R139, R140): hod, start position, share mask, format, mode,
vectors, the entries that it takes in all, those taken, the arrays that have joined it, and those that still need
them. -/
structure Take where
  hod : Nat
  start : Nat
  mask : Nat
  fmt : Nat
  transposed : Bool
  count : Nat
  need : Nat
  entries : List Bytes
  joined : List Nat
  left : List Nat
  deriving DecidableEq, Repr

/-- One scheduled core: hods (each a list of 64-byte entries, oldest first), arrays, queues, sequencer. -/
structure Core where
  hods : Map (List Bytes)
  takes : List Take
  arrays : Map ArrayState
  queues : Map QueueState
  seq : Sequencer
  deriving DecidableEq, Repr

/-- A region of a plan (R278, R279), placed: `base` is its 48-bit module address. -/
structure Region where
  id : Nat
  space : Nat
  kind : Nat
  brick : Nat
  cluster : Nat
  position : Nat
  group : Nat
  granule : Nat
  size : Nat
  fmt : Nat
  slot : Nat
  base : Nat
  deriving DecidableEq, Repr

/-- A slot entry of a fabric route (R280). -/
structure RouteSlot where
  ordinal : Nat
  flit : Nat
  port : Nat
  lane : Nat
  slot : Nat
  offset : Nat
  deriving DecidableEq, Repr

/-- A route (R218, R280). -/
structure Route where
  kind : Nat
  fmt : Nat
  add : Bool
  source : Nat
  destDevice : Nat
  destBrick : Nat
  destSpace : Nat
  destCore : Nat
  destGranule : Nat
  tree : Nat
  node : Nat
  relays : List Nat
  slots : List RouteSlot
  deriving DecidableEq, Repr

/-- A reduction tree node (R236, R278). -/
structure TreeNode where
  tree : Nat
  node : Nat
  parent : Nat
  fmt : Nat
  inputs : Nat
  brick : Nat
  port : Nat
  deriving DecidableEq, Repr

/-- A tie-table entry (R256, R280). -/
structure TieTarget where
  device : Nat
  brick : Nat
  core : Nat
  tie : Nat
  offset : Nat
  path : Nat
  announced : Nat
  deriving DecidableEq, Repr

/-- A level a plan declares (R265, R278). -/
structure LevelDecl where
  level : Nat
  rho : Nat
  rootBrick : Nat
  rootDevice : Nat
  /-- Port, DeviceId and brick of the parent module and of each child module (R265). -/
  parent : Option (Nat × Nat × Nat)
  children : List (Nat × Nat × Nat)
  deriving DecidableEq, Repr

/-- A neighbour-table entry (R240, R278). -/
structure Neighbour where
  port : Nat
  partnerPort : Nat
  partnerDevice : Nat
  dmax : Nat
  allowance : Nat
  deriving DecidableEq, Repr

/-- A landing-map entry (R232, R278). -/
structure Landing where
  variant : Nat
  port : Nat
  lane : Nat
  slot : Nat
  position : Nat
  route : Nat
  flit : Nat
  delta : Nat
  write : Nat
  deriving DecidableEq, Repr

/-- A remote-tier window (R204, R278). -/
structure RemoteWindow where
  window : Nat
  fmt : Nat
  device : Nat
  source : Nat
  landing : Nat
  size : Nat
  route : Nat
  deriving DecidableEq, Repr

/-- An ingress window (R263, R278). -/
structure IngressWindow where
  window : Nat
  region : Nat
  granules : Nat
  positions : Nat
  counter : Nat
  credit : Nat
  deriving DecidableEq, Repr

/-- A variant (R286): roles, Q entry index of each logical core, energy by position, grout positions. -/
structure Variant where
  number : Nat
  skeleton : Bytes
  roles : List Nat
  entries : List Nat
  energy : List Nat
  grout : List Nat
  deriving DecidableEq, Repr

/-- A clearing share (R198, R278). -/
structure Share where
  store : Nat
  brick : Nat
  unit : Nat
  first : Nat
  count : Nat
  deriving DecidableEq, Repr

/-- A plan image that passed the loader's checks, relocated, patched and placed (R275 to R293). -/
structure Plan where
  digest : Bytes
  name : Bytes
  segment : Nat
  defaultVariant : Nat
  tintSlots : Nat
  /-- Physical cluster index of each logical cluster, in order (R283). -/
  placement : List Nat
  canonical : Bool
  /-- Physical brick of each logical brick, in order. -/
  bricks : List Nat
  /-- Instruction words of each placed core. -/
  code : Map (List Nat)
  regions : List Region
  routes : List Route
  trees : List TreeNode
  ties : List TieTarget
  levels : List LevelDecl
  neighbours : List Neighbour
  landings : List Landing
  remotes : List RemoteWindow
  windows : List IngressWindow
  variants : List Variant
  shares : List Share
  /-- (destination address, bytes) of the InitialData section (R278). -/
  initial : List (Nat × Bytes)
  batches : List (List Nat)
  padded : Nat
  pinned : Nat
  worstOverrun : Nat
  treeNodes : Nat
  /-- Assumed cycles of the Pattern Book routines, by item (R165, R287). -/
  assumed : Map Nat
  peakEnergy : Nat
  meanEnergy : Nat
  /-- Loaded against a pending retirement (R518): the cluster, or none. -/
  pendingRetire : Option Nat
  deriving DecidableEq, Repr

/-- The loader and the instruction banks (R170, R275, R276). -/
structure PlanStore where
  /-- Length written to PlanLoad while the loader checks. -/
  checking : Option Nat
  loaded : Option Plan
  running : Option Plan
  /-- Instruction words of each core in banks 0 and 1. -/
  bank0 : Map (List Nat)
  bank1 : Map (List Nat)
  /-- The bank that the loader wrote last. -/
  wrote : Nat
  deriving DecidableEq, Repr

/-- A tie (R255): the fields of its record of R269. -/
structure Tie where
  value : Nat
  waiters : Nat
  lastCourse : Nat
  lastLanding : Nat
  device : Nat
  brick : Nat
  cluster : Nat
  position : Nat
  source : Nat
  op : Nat
  deriving DecidableEq, Repr

/-- A pointing packet held in a router until it lands (R251, R259). Kind 0 tie signal, 1 ingress set, 3 level
release; `op` 4 is an ingress set. -/
structure Signal where
  kind : Nat
  /-- Core of the tie, or brick of the level node. -/
  target : Nat
  /-- Tie number or level. -/
  number : Nat
  op : Nat
  operand : Nat
  landing : Nat
  device : Nat
  brick : Nat
  cluster : Nat
  position : Nat
  source : Nat
  /-- It waited for its landing course, and has been counted (R259). -/
  counted : Bool
  deriving DecidableEq, Repr

/-- A level node's counters (R265, R272); `lastRelease` is kept at the module root node. -/
structure LevelNode where
  expected : Nat
  arrived : Nat
  latest : Nat
  completions : Nat
  lastRelease : Nat
  deriving DecidableEq, Repr

/-- A message of a fabric port's outgoing pointing queue (R253). -/
structure PointMsg where
  seq : Nat
  word : Nat
  /-- Local course in which it was last sent; none before. -/
  sentAt : Option Nat
  deriving DecidableEq, Repr

/-- Ties, levels and the pointing network (R250 to R268). -/
structure Pointing where
  /-- Key: core × 64 + tie. -/
  ties : Map Tie
  signals : List Signal
  /-- Module root nodes, by level; brick nodes, by 256 × (brick + 1) + level. -/
  levels : Map LevelNode
  deriving DecidableEq, Repr

/-- A flit that waits in a port's landing buffer (R232) or in a lane's retry buffer (R230). -/
structure Flit where
  route : Nat
  index : Nat
  slot : Nat
  tag : Nat
  count : Nat
  payload : Bytes
  deriving DecidableEq, Repr

/-- A fabric lane (R222 to R230, R243): status 0 down, 1 training, 2 up, 3 retraining. -/
structure Lane where
  status : Nat
  /-- Flits sent and not yet released, each with the external course in which it left. -/
  sent : List (Nat × Flit)
  retries : List Flit
  /-- Flits resent, with the sender course tag and the position in that course (28 the retry slot), until a report
  covers them. -/
  retried : List (Nat × Nat × Flit)
  /-- Uncorrectable codewords in this epoch interval. -/
  errors : Nat
  /-- The verdict map being built for the present sender course, and the one before: (tag, map). -/
  reportA : Option (Nat × Nat)
  reportB : Option (Nat × Nat)
  /-- The latest external course in which flits were resent, and how many (R226). -/
  resent : Nat × Nat
  deriving DecidableEq, Repr

/-- One optical port: lanes, landing buffer, pointing queue, training phase (R232, R253, R382). -/
structure Port where
  lanes : Map Lane
  landing : List Flit
  /-- Flits that came after their write cycle (R232). -/
  late : List Flit
  /-- (route, FlitIndex, CourseTag) already landed (R229). -/
  seen : List (Nat × Nat × Nat)
  queue : List PointMsg
  /-- Sequence numbers of messages to be sent again (R253). -/
  resend : List Nat
  nextSeq : Nat
  lastSeq : Option Nat
  acked : Option Nat
  phase : Nat
  /-- The phase 5 word last recorded: role, DeviceId, port. -/
  identity : Option (Nat × Nat × Nat)
  /-- A retrain asked for through Retrain is in progress (R520). -/
  requested : Bool
  deriving DecidableEq, Repr

/-- Granules that wait at a tree node for its other inputs (R236): (input port, granules). -/
abbrev NodeInputs := List (Nat × List Bytes)

/-- A record in a queue pair's share of the port buffer (R333): 0 a token, 1 a final token, 2 a final record without a
token, 3 a digest record. -/
structure Queued where
  kind : Nat
  slot : Nat
  data : Bytes
  deriving DecidableEq, Repr

/-- An RC queue pair (R389 to R395). -/
structure Qp where
  /-- 0 Reset, 1 Ready, 2 Error. -/
  state : Nat
  record : Bytes
  rkey : Nat
  /-- C of R311. -/
  received : Nat
  /-- Latest sequence numbers of replies, status, credit, reports. -/
  replies : Nat
  statuses : Nat
  credits : Nat
  reports : Nat
  /-- Unacknowledged messages, oldest first: (immediate, bytes); retransmissions of the oldest. -/
  outstanding : List (Nat × Bytes)
  /-- Messages that wait while the queue pair is held (R395). -/
  held : List (Nat × Bytes)
  retries : Nat
  /-- Held by pause (R386). -/
  paused : Bool
  /-- Token, final and digest records waiting to be sent, oldest first (R333). -/
  buffer : List Queued
  /-- Course of the latest window status, by window, and windows whose status is due (reason). -/
  statusAt : Map Nat
  statusDue : Map (Nat × Nat)
  /-- Local course of the latest CNP. -/
  cnpAt : Option Nat
  deriving DecidableEq, Repr

/-- A slot of the plan (R308, R320, R343). -/
structure Slot where
  state : Nat
  tint : Nat
  /-- 0 none, 1 waiting, 2 prefill, 3 decode, 4 resume. -/
  phase : Nat
  epoch : Nat
  start : Nat
  admission : Nat
  generation : Nat
  adapter : Nat
  request : Nat
  qp : Nat
  promptLength : Nat
  promptFirst : Nat
  promptWindow : Nat
  /-- Descriptor bytes 32 to 243. -/
  params : Bytes
  inputDigest : Bytes
  committed : Nat
  nextToken : Nat
  generated : Nat
  /-- Generated tokens, latest first; after a takeover the 15 that the mirror held come last (R512). -/
  recent : List Nat
  /-- The OutputDigest that the tokens of `formed` continue: empty, or the mirrored state (R512). -/
  output : Sponge
  draft : Nat
  zeroRun : Nat
  /-- Tokens left of the pause of R328. -/
  paused : Nat
  /-- Accepted drafts of the round in progress. -/
  accepted : Nat
  reason : Nat
  /-- Plan course at which a release became due (stop, abort, cancel), and whether it has been ordered. -/
  due : Option Nat
  ordered : Bool
  cancelled : Bool
  /-- Earliest fault course of an aborted tint, and the reasons already reported to the head (R317). -/
  fault : Option Nat
  reported : List Nat
  finalSent : Bool
  /-- (position, plan course formed) of the records formed since admission, latest first. -/
  formed : List (Nat × Nat)
  /-- Highest position emitted before a takeover (R513). -/
  emitted : Nat
  reemit : Nat
  /-- Local course and plan course of the latest release. -/
  releasedAt : Nat
  releaseCourse : Nat
  unrecoverable : Bool
  /-- (plan course, Phase, DraftLength) after the records formed in that course, latest first (R321). -/
  history : List (Nat × Nat × Nat)
  deriving DecidableEq, Repr

/-- An order (R314). -/
structure Order where
  kind : Nat
  reason : Nat
  slot : Nat
  tint : Nat
  generation : Nat
  variant : Nat
  adapter : Nat
  start : Nat
  quoin : Nat
  resume : Nat
  /-- On the head, of an admit order: return queue pair, descriptor and InputDigest (R311, R335). -/
  qp : Nat
  descriptor : Bytes
  input : Bytes
  deriving DecidableEq, Repr

/-- A batch of orders (R314). -/
structure Batch where
  seq : Nat
  effect : Nat
  orders : List Order
  deriving DecidableEq, Repr

/-- Serving (R303 to R336). -/
structure Serving where
  slots : Map Slot
  /-- The admission queue (R311): queue pair and descriptor. -/
  queue : List (Nat × Bytes)
  /-- Batches landed, or built here, that have not reached their course. -/
  batches : List Batch
  /-- Sequence of the latest batch sent, and of the latest received. -/
  batchOut : Nat
  batchIn : Nat
  /-- One more than the latest admission course whose batch this head has built; 0 for none. -/
  built : Nat
  /-- Slips for a batch since the latest one applied (R344). -/
  late : Nat
  /-- The governor's choice of the previous evaluation, and a switch chosen and not yet ordered, with its f. -/
  lastChoice : Option Nat
  chosen : Option (Nat × Nat)
  /-- The batch's generation binding, by batch index (R348). -/
  bindings : Map Nat
  /-- By cluster, one more than the admission course at which its handoff halves last swapped (R173, R321). -/
  handoff : Map Nat
  /-- MemberNotReady already sent for these slots (R316). -/
  notReady : List Nat
  /-- Slots whose clearing goes on after their plan was lost in Doze: slot, released tint, and windows (R207). -/
  clearing : List (Nat × Nat × List Region)
  deriving DecidableEq, Repr

/-- A KeepTable entry (R355). -/
structure Keep where
  first : Nat
  count : Nat
  region : Nat
  target : Nat
  deriving DecidableEq, Repr

/-- A load session (R354 to R361). -/
structure Session where
  /-- A generation session, otherwise an adapter session. -/
  generation : Bool
  /-- The generation, or the adapter id. -/
  id : Nat
  side : Nat
  base : Nat
  keep : List Keep
  /-- From a distribution route (LoadSource 1), otherwise from storage. -/
  fabric : Bool
  port : Nat
  /-- The upstream module on the fabric path. -/
  upstream : Nat
  /-- RecordGranules and positions of the ring (R352), and its base address. -/
  granules : Nat
  positions : Nat
  ring : Nat
  /-- C of R357: highest record accepted at the ring. -/
  accepted : Nat
  processed : Nat
  total : Nat
  digest : Sponge
  resend : Nat
  /-- Local course of the session's start. -/
  started : Nat
  deriving DecidableEq, Repr

/-- Records on their way downstream (R358, R360): kept by number, with the course in which they were processed, until
processed there; the next to send and its granules already sent; and the latest credit. -/
structure Forward where
  records : Map (Nat × Bytes)
  next : Nat
  sent : Nat
  processed : Nat
  released : Nat
  positions : Nat
  deriving DecidableEq, Repr

/-- Weights and generations (R345 to R367, R541). -/
structure Weights where
  session : Option Session
  /-- The latest session that has ended, of which the return route still tells (R360). -/
  ended : Option Session
  forward : Forward
  /-- KeepTables kept with sides 0 and 1 (R541). -/
  keep0 : List Keep
  keep1 : List Keep
  /-- A Loaded side to be emptied at the next admission course (R364). -/
  discard : Option Nat
  /-- Adapters being unloaded (R366). -/
  unloading : List Nat
  adapterDigests : Map Bytes
  /-- Distribution flits that wait for an earlier one (R360): (sender course, lane, slot), granules. -/
  flits : List ((Nat × Nat × Nat) × List Bytes)
  /-- Failed distribution flits whose retry may still come. -/
  missing : List (Nat × Nat × Nat)
  /-- Granules in order that do not yet make up a record. -/
  partialRecord : Bytes
  deriving DecidableEq, Repr

/-- A notice formed for delivery (R431). -/
structure Notice where
  code : Nat
  cls : Nat
  seq : Nat
  stamp : Nat
  source : Nat
  suppressed : Nat
  payload : Bytes
  deriving DecidableEq, Repr

/-- A notice bucket (R439): credits spent, next refill, suppressed. -/
structure Bucket where
  credit : Nat
  nextRefill : Nat
  suppressed : Nat
  deriving DecidableEq, Repr

/-- A latched read value (R424). -/
structure Latch where
  via : Via
  key : Nat
  value : Bytes
  at_ : Nat
  deriving DecidableEq, Repr

/-- An incomplete segmented write (R425). -/
structure Partial where
  via : Via
  key : Nat
  total : Nat
  value : Bytes
  at_ : Nat
  deriving DecidableEq, Repr

/-- A gateway slot (R429). -/
structure GatewaySlot where
  owner : Bool
  header : Bytes
  value : Bytes
  deriving DecidableEq, Repr

/-- A request that waits for the Keystone restart (R516). -/
inductive Waiting where
  | frame (mac : Nat) (data : Bytes)
  | slot (slot : Nat)
  | write (via : Via) (index sub typ : Nat) (value : Bytes)
  | request (via : Via) (op index sub typ offset total : Nat) (last : Bool) (value : Bytes)
  deriving DecidableEq, Repr

/-- The notice ring registers (R435). -/
structure Ring where
  base : Nat
  entries : Nat
  control : Nat
  producer : Nat
  consumer : Nat
  vectorMask : Nat
  gatewayVector : Nat
  /-- 0 Disabled, 1 Running, 2 Faulted. -/
  state : Nat
  deriving DecidableEq, Repr

/-- Dictionary paths and notices (R419 to R439). -/
structure Paths where
  latches : List Latch
  partials : List Partial
  /-- The last 64 (MAC, Sequence) answered, with their responses, latest first (R428). -/
  replies : List (Nat × Nat × Bytes)
  /-- Responses waiting for a PLCA opportunity. -/
  responses : List (Nat × Bytes)
  gateway : Map GatewaySlot
  waiting : List Waiting
  ring : Ring
  chainQueue : List Notice
  ringQueue : List Notice
  buckets : Map Bucket
  /-- Claim answered in this local course (R401), and the node it offered. -/
  answered : Option Nat
  /-- MSI-X vectors raised and pending, and the vector table. -/
  msix : Map Nat
  deriving DecidableEq, Repr

/-- Installed MACsec keys of an ingress port (R387): current and previous receive SA, transmit SA. -/
structure Macsec where
  tx : Option Bytes
  rx : Option Bytes
  rxOld : Option Bytes
  deriving DecidableEq, Repr

/-- Power (R446 to R458, R560, R563). -/
structure Power where
  mode : PowerMode
  /-- Target, course at which a requested transition starts (by local count), and whether it has started. -/
  target : Option Nat
  startsAt : Nat
  started : Bool
  cause : Nat
  /-- Energy samples of the last 4,096 Awake courses, latest first (R457), in nJ. -/
  energy : List Nat
  /-- A thermal trip stands (R451). -/
  tripped : Bool
  /-- Supply, PWR_GOOD and RESET_N as the module last saw them. -/
  supplyLow : Bool
  pwrGood : Bool
  /-- A wake sequence is under way, with its source (1–4). -/
  waking : Option Nat
  /-- Consecutive courses of low coolant flow (R563). -/
  flowLow : Nat
  /-- The Sleep comparator asserts THERM_ALERT (R454). -/
  sleepAlert : Bool
  /-- Lowest input voltage (FP32) of a supply loss not yet reported (R454, R463). -/
  lowest : Option Nat
  deriving DecidableEq, Repr

/-- An attestation report being built (R480): the captured bytes 0 to 383. -/
structure Attest where
  nonce : Bytes
  body : Bytes
  deriving DecidableEq, Repr

/-- Security and debug (R464 to R495). -/
structure Security where
  /-- The unique device secret (R466); none once its field is blown (R485). -/
  uds : Option Nat
  owner : Option Bytes
  /-- Header of the running firmware image. -/
  image : Bytes
  attest : Option Attest
  /-- An item's NotAfter has been reported (R473). -/
  notAfterSeen : Bool
  /-- Issue trace records captured, oldest first, as U64 (R492). -/
  trace : List Nat
  traceUntil : Nat
  deriving DecidableEq, Repr

/-- A mirror record kept by the sender until it is covered (R508). -/
structure Mirrored where
  course : Nat
  record : Bytes
  deriving DecidableEq, Repr

/-- What the receiver keeps of a partner's slot (R508). -/
structure Shadow where
  admitRecord : Bytes
  /-- Latest four Sequence and Digest state records, newest first: (SourceCourse, record). -/
  sequences : List (Nat × Bytes)
  digests : List (Nat × Bytes)
  highest : Nat
  /-- SourceCourse of a Release record. -/
  released : Option Nat
  deriving DecidableEq, Repr

/-- The bond (R501 to R514). -/
structure Bond where
  /-- Latest heartbeat word (R504), the local course it arrived in, and words of this course. -/
  partner : Option Nat
  seen : Bool
  yieldSeen : Bool
  missed : Nat
  keyDiffers : Nat
  yield : Bool
  tookOver : Bool
  bufferFilled : Bool
  /-- Mirror records kept by the sender, oldest first, and bytes held. -/
  buffer : List Mirrored
  /-- Records sent for the present plan course (R507 kind 6). -/
  sentNow : Nat
  /-- Records received since the latest Course end record that was complete, and its course (R507, R508). -/
  appliedNow : Nat
  received : Option Nat
  /-- The latest Sequence payload sent for each slot (R507). -/
  latest : Map Bytes
  /-- KV records that wait for their slot's stamp (R508). -/
  waiting : List Bytes
  /-- BondLost's cause as of the latest missed course, Solo to be taken at the next course boundary (R502), and
  MirrorLagging already sent. -/
  cause : Nat
  ending : Bool
  lagged : Bool
  shadows : Map Shadow
  /-- A takeover ordered: T, RM (R511); whether BondState was Degraded. -/
  takeover : Option (Nat × Nat)
  degraded : Bool
  lost : Bool
  /-- Slots copied by the present resync, and the local course it began in. -/
  copied : Nat
  resyncAt : Nat
  /-- Tiles that the resync still has to send, in order (R514): slot, address of the next tile, tiles left, format. -/
  resync : List (Nat × Nat × Nat × Nat)
  /-- Granules of repair and mirror records formed since the bond's slots were last filled (R506). -/
  granules : Nat
  reportSeq : Nat
  deriving DecidableEq, Repr

/-- A repair in progress (R539 to R543). -/
structure Repair where
  consumer : Consumer
  address : Nat
  /-- Window kind of the tile (R279), its slot when Owned, its side and generation when Shared. -/
  kind : Nat
  slot : Nat
  side : Nat
  generation : Nat
  /-- Sources left to ask, first first: 1 bond, 2 supplier. -/
  sources : List Nat
  since : Nat
  tag : Nat
  deriving DecidableEq, Repr

/-- A request that the governor holds (R520): the activity and its operand. -/
structure Held where
  activity : Nat
  port : Nat
  value : Nat
  deriving DecidableEq, Repr

/-- A spare substitution in progress (R50). -/
structure Subst where
  position : Nat
  trigger : Nat
  /-- Local course in which it was admitted; the copy begins in the one after. -/
  since : Nat
  /-- Bytes of the store copy done, the local course of the latest portion, and the bytes copied in that course. -/
  copied : Nat
  portionAt : Nat
  portion : Nat
  /-- Local course of the register copy, and the quoin course whose register copy was deferred. -/
  registers : Option Nat
  deferred : Option Nat
  /-- Further positions of the cluster that reached the threshold (R53). -/
  others : List Nat
  deriving DecidableEq, Repr

/-- Units: the unit map's masks, substitutions, errors of the epoch interval, scrub (R48 to R58, R201). -/
structure Units where
  brickMask : Nat
  clusterMask : Nat
  mapSerial : Nat
  substitutions : Map Subst
  /-- Corrected errors per core in this epoch interval (R48), and cores already reported as exhausted. -/
  corrected : Map Nat
  exhausted : List Nat
  /-- Scrub position of each bank, and courses of its pass so far (key: R201 bank). -/
  scrub : Map (Nat × Nat)
  /-- Cores whose logical position the spare serves. -/
  served : List Nat
  /-- Cores whose free spare takes the position at the next boundary after a hard fault (R54). -/
  hardSwaps : List Nat
  /-- Clusters pending retirement (R518), and the one that RetireCluster named. -/
  retiring : List Nat
  requested : Option Nat
  deriving DecidableEq, Repr

/-- Firmware slots, attempts and the secure store (R529 to R537). -/
structure Start where
  /-- Images of slots 0 and 1. -/
  flash : Map Bytes
  /-- Records of StartHistory, newest first, 16 bytes each. -/
  history : List Bytes
  /-- The attempt in progress is unfinished (R535), the local course it began in and became Operational in. -/
  unfinished : Bool
  beganAt : Nat
  operationalAt : Nat
  step : Nat
  /-- Cause and course stamp of the latest fatal fault (R547). -/
  fatal : Option (Nat × Nat)
  /-- Hard faults whose plan stop waits for the next course boundary (R545): kind, unit, plan course; and the stack
  granules that are then rewritten with zeros (R546). -/
  hard : List (Nat × Nat × Nat)
  granules : List Nat
  /-- The verified Pattern Book patch item staged (R517), and the course its activation is armed for; the body of the
  patch in force. -/
  patch : Option Bytes
  patchAt : Option Nat
  patchRam : Bytes
  /-- A restart of R483 begins at the next course boundary, and the next start drops the debug level because of it. -/
  lifecycleRestart : Bool
  firmwareAt : Option Nat
  deriving DecidableEq, Repr

/-- What the module sends out, in order. -/
inductive Out where
  /-- A course mark on a fabric port (R13), a heartbeat word on the bond lanes (R504). -/
  | mark (port word : Nat)
  | heartbeat (word : Nat)
  /-- A dictionary response (R426): path, result, value. -/
  | response (via : Via) (result : Nat) (value : Bytes)
  /-- A frame on the chain: destination MAC and payload. -/
  | chain (mac : Nat) (payload : Bytes)
  /-- A posted write to host memory, an MSI-X message (R436). -/
  | host (address : Nat) (data : Bytes)
  | msix (vector : Nat)
  /-- An outbound SEND (R393). -/
  | send (qp imm : Nat) (data : Bytes)
  /-- A NAK, an acknowledgement, a CNP (R389, R395), an answer to ARP or Neighbor Solicitation (R386). -/
  | nak (qp : Nat)
  | ack (qp : Nat)
  | cnp (qp : Nat)
  | arp (ingress : Nat)
  /-- A flit on a lane (R224), a pointing message on a lane (R252), a pointing packet (R251). -/
  | flit (port lane slot : Nat) (flit : Flit)
  | pointing (port lane word : Nat)
  | packet (word : Nat)
  /-- Idle flits in every flit slot of a lane that carries neither plan data nor a retry (R223, R224). -/
  | idleFlits (port lane : Nat)
  /-- A token record on an ingress route, on its way to the stop matcher (R218, R329). -/
  | token (port : Nat) (record : Bytes)
  /-- Link control of control slot 1 (R227). -/
  | linkControl (port lane word : Nat)
  /-- A mirror record, and one tile of a slot's resync, on the bond (R506, R507, R514). -/
  | mirror (record : Bytes)
  | resync (slot address : Nat) (tile : Bytes)
  /-- A repair granule and the tile that follows (R540): 0 bond, 1 supplier; port. -/
  | repair (fabric : Bool) (port : Nat) (granule tile : Bytes)
  /-- A delay probe (R16), a training word in control slot 1 (R383). -/
  | probe (port : Nat)
  | training (port lane word : Nat)
  /-- An output pin: THERM_ALERT, CHAIN_OUT. -/
  | thermAlert (asserted : Bool)
  | chainOut (asserted : Bool)
  /-- An SPDM response (R481). -/
  | spdm (data : Bytes)
  deriving DecidableEq, Repr

/-- The records captured at cycle 543 of the latest snapshot course (R246, R270, R272, R343, R492): `program` is
ProgramState, `backlog` each port's RetryBacklog. -/
structure Snapshot where
  ties : Map Tie
  levels : Map LevelNode
  slots : Map Slot
  signals : List Signal
  program : Bytes
  backlog : Map Nat
  deriving DecidableEq, Repr

/-- The module. -/
structure State where
  /-- Commands that wait, first in, first out. -/
  pending : List Instr
  /-- Fixed-width dictionary entries (R413), keyed index × 256 + sub. -/
  regs : Map Nat
  /-- STR and BLOB entries that hold a value. -/
  blobs : Map Bytes
  /-- Local, cluster and stack stores, keyed by 48-bit module address (R181). -/
  mem : Memory
  /-- The BAR2 staging area (R398). -/
  staging : Memory
  time : Time
  prog : Progress
  plan : PlanStore
  cores : Map Core
  point : Pointing
  ports : Map Port
  /-- Tree node inputs waiting, keyed tree × 65536 + node (R236). -/
  nodes : Map NodeInputs
  qps : Map Qp
  serving : Serving
  weights : Weights
  paths : Paths
  macsec : Map Macsec
  power : Power
  security : Security
  bond : Bond
  repairs : List Repair
  held : List Held
  units : Units
  start : Start
  snap : Snapshot
  /-- Everything sent, oldest first. -/
  out : List Out
  /-- The model's own counter of free values drawn; no rule of the spec names it. -/
  drawn : Nat
  deriving DecidableEq, Repr

/-- Faults: no command of this block ends in one, because every case in which the spec stops the machine is an
effect on `State` (a hard fault, a fatal restart, a suspension). The one constructor is unreachable from `exec`
and safe. -/
inductive Fault where
  /-- Raised by no command. Safe. -/
  | none_
  deriving DecidableEq, Repr

/-- Refusals. -/
inductive Refusal where
  /-- No meaning yet for the command of that mnemonic. Raised by a rejected arm of `exec` only. Safe. -/
  | notModelled (mnemonic : String)
  /-- The instruction word is one that the loader refuses (R68, R79, R137, R138, R149, R151, R154): an invalid
  format, queue or field, so that "no invalid instruction therefore ever reaches an engine". Raised by every
  instruction row's meaning. Safe: the spec gives such a word no effect. -/
  | invalidInstruction (mnemonic : String)
  /-- The command names a unit the part does not have (a port above 63, a core above 1,023). Raised by the
  rows that carry a unit number from outside. Safe: the spec gives such a command no effect. -/
  | noSuchUnit (mnemonic : String)
  deriving DecidableEq, Repr

/-- An empty SHA3-256 sponge. -/
def Sponge.empty : Sponge := ⟨List.replicate 25 0, []⟩

/-- The 256-byte header of the firmware image a new part runs (R470), all bytes 0 but Magic, LayoutVersion and
Kind: the spec gives no bytes for it (DESIGN CHOICE, assumption 4). -/
def resetImage : Bytes :=
  [0x4C, 0x54, 0x49, 0x4D, 1, 0, 1, 0] ++ List.replicate 248 0

/-- The counters of R37 at launch. -/
def Counts.zero : Counts :=
  { slips := 0, rests := 0, skipped := 0, idled := 0, lagSlips := 0, cause := 0, course := 0, maxLag := 0, lead := 0 }

/-- The module right after reset (RESET_N, R417, R529): every register at its Default (no entry listed), the
stores at the zeros of the start-up fill (R208), nothing loaded, no count known (R8), PowerState Run, StartState
0 Starting. -/
def State.reset : State where
  pending := []
  regs := []
  blobs := []
  mem := []
  staging := []
  time :=
    { localCount := 0, known := false, count := 0, epoch := false, keeper := 0, keeperOffset := 0,
      sleptAt := 0, refValid := false, goodPulses := 0, lastPulse := none, load := none, markless := 0, marked := false,
      marks := [], conflicts := [], marksOwed := false, acquiring := none, step := none, slew := 0 }
  prog :=
    { running := false, course := 0, launchCourse := 0, kind := .idle, next := .idle, jumped := false, stall := 0,
      stalled := false, counts := Counts.zero, restPower := false, restThermal := false, sinceRest := 0, inputs := [], landed := [], sends := [], suspension := none,
      resumed := false, halt := none, variant := none }
  plan := { checking := none, loaded := none, running := none, bank0 := [], bank1 := [], wrote := 1 }
  cores := []
  point := { ties := [], signals := [], levels := [] }
  ports := []
  nodes := []
  qps := []
  serving :=
    { slots := [], queue := [], batches := [], batchOut := 0, batchIn := 0, built := 0, late := 0, lastChoice := none,
      chosen := none, bindings := [], handoff := [], notReady := [], clearing := [] }
  weights :=
    { session := none, ended := none,
      forward := { records := [], next := 1, sent := 0, processed := 0, released := 0, positions := 0 },
      keep0 := [], keep1 := [], discard := none, unloading := [], adapterDigests := [], flits := [], missing := [],
      partialRecord := [] }
  paths :=
    { latches := [], partials := [], replies := [], responses := [], gateway := [], waiting := [],
      ring := { base := 0, entries := 0, control := 0, producer := 0, consumer := 0, vectorMask := 0,
                gatewayVector := 0, state := 0 },
      chainQueue := [], ringQueue := [], buckets := [], answered := none, msix := [] }
  macsec := []
  power :=
    { mode := .run, target := none, startsAt := 0, started := false, cause := 5, energy := [], tripped := false,
      supplyLow := false, pwrGood := true, waking := none, flowLow := 0, sleepAlert := false,
      lowest := none }
  security :=
    { uds := some 0, owner := none, image := resetImage, attest := none, notAfterSeen := false, trace := [],
      traceUntil := 0 }
  bond :=
    { partner := none, seen := false, yieldSeen := false, missed := 0, keyDiffers := 0, yield := false,
      tookOver := false, bufferFilled := false, buffer := [], sentNow := 0, appliedNow := 0, received := none,
      latest := [], waiting := [], cause := 1, ending := false, lagged := false, shadows := [], takeover := none, degraded := false, lost := false, copied := 0, resyncAt := 0,
      resync := [], granules := 0, reportSeq := 0 }
  repairs := []
  held := []
  units :=
    { brickMask := 0xFFFF, clusterMask := 2 ^ 128 - 1, mapSerial := 0, substitutions := [], corrected := [],
      exhausted := [], scrub := [], served := [], hardSwaps := [], retiring := [], requested := none }
  start :=
    { flash := [(0, Config.factoryImage)], history := [], unfinished := false, beganAt := 0, operationalAt := 0, step := 0,
      fatal := none, hard := [], granules := [], patch := none, patchAt := none, patchRam := [], lifecycleRestart := false,
      firmwareAt := none }
  snap := { ties := [], levels := [], slots := [], signals := [], program := [], backlog := [] }
  out := []
  drawn := 0

end Sys2Proof.Machine
end

