-- ==== Sys2Proof/Machine/Crc.lean ====
section
/-! DEFINITION. The cyclic codes and the hash of the spec: CRC-16 (R13), CRC-32C (R112), CRC-32 (R225), SHA3-256 with
the running sponge of R359 and R508, and HKDF with HMAC over SHA3-256 (R467). -/

namespace Sys2Proof.Machine

/-- `n` steps of a left-shifting 16-bit register with polynomial 0x1021. -/
def crc16Steps (n c : Nat) : Nat :=
  match n with
  | 0 => c
  | n + 1 => crc16Steps n (if c < 0x8000 then c * 2 else c * 2 % 0x10000 ^^^ 0x1021)

/-- CRC-16 of R13: polynomial 0x1021, initial value 0xFFFF, no reflection, no final XOR; the bytes in rising
order (DEDUCED, assumption 12). -/
def crc16 (bs : Bytes) : Nat := bs.foldl (fun c b => crc16Steps 8 (c ^^^ b.toNat * 256)) 0xFFFF

/-- `n` steps of a right-shifting 32-bit register with a reflected polynomial. -/
def crc32Steps (poly n c : Nat) : Nat :=
  match n with
  | 0 => c
  | n + 1 => crc32Steps poly n (if c % 2 = 0 then c / 2 else c / 2 ^^^ poly)

/-- A reflected 32-bit code with initial value and final XOR of all ones. -/
def crcReflected (poly : Nat) (bs : Bytes) : Nat :=
  bs.foldl (fun c b => crc32Steps poly 8 (c ^^^ b.toNat)) 0xFFFFFFFF ^^^ 0xFFFFFFFF

/-- CRC-32 of IEEE 802.3 (R225). -/
def crc32 (bs : Bytes) : Nat := crcReflected 0xEDB88320 bs

/-- CRC-32C (R112). -/
def crc32c (bs : Bytes) : Nat := crcReflected 0x82F63B78 bs

/-- Rotates a 64-bit lane left. -/
def rotLane (v n : Nat) : Nat := v * 2 ^ n % 2 ^ 64 + v / 2 ^ (64 - n)

/-- The eight-bit register that makes the round constants: doubling modulo x⁸ + x⁶ + x⁵ + x⁴ + 1. -/
def rcStep (r : Nat) : Nat := if r < 128 then 2 * r else 2 * r ^^^ 0x171

/-- The round constant from a register value: its low bit and those of the six values that follow stand at the bit
places 0, 1, 3, 7, 15, 31 and 63; the register after them, too. -/
def rcTake (places : List Nat) (r : Nat) : Nat × Nat :=
  match places with
  | [] => (0, r)
  | p :: l =>
    let rest := rcTake l (rcStep r)
    (r % 2 * 2 ^ p + rest.1, rest.2)

/-- The parity of each of the five columns of lanes x + 5y. -/
def columnParities (lanes : List Nat) : List Nat :=
  (List.range 5).map fun x => (List.range 5).foldl (fun p y => p ^^^ lanes.getD (x + 5 * y) 0) 0

/-- θ: a lane takes the parity of the column on its left and the parity, rotated by one, of that on its right. -/
def thetaLanes (lanes : List Nat) : List Nat :=
  let p := columnParities lanes
  lanes.zipIdx.map fun l => l.1 ^^^ p.getD ((l.2 + 4) % 5) 0 ^^^ rotLane (p.getD ((l.2 + 1) % 5) 0) 1

/-- ρ and π together, as one walk through the 24 lanes other than 0: from (x, y) to (y, 2x + 3y), where the walk's
t-th lane arrives rotated by the t-th triangular number. -/
def walkLanes (steps t x y : Nat) (lanes out : List Nat) : List Nat :=
  match steps with
  | 0 => out
  | n + 1 =>
    let z := (2 * x + 3 * y) % 5
    walkLanes n (t + 1) y z lanes (out.set (y + 5 * z) (rotLane (lanes.getD (x + 5 * y) 0) (t * (t + 1) / 2 % 64)))

/-- χ on one row of five lanes: each is changed where the next is 0 and the one after it 1. -/
def chiRow (row : List Nat) : List Nat :=
  row.zipIdx.map fun l => l.1 ^^^ ((allOnes64 - row.getD ((l.2 + 1) % 5) 0) &&& row.getD ((l.2 + 2) % 5) 0)

/-- χ row by row. -/
def chiLanes (lanes : List Nat) : List Nat := (List.range 5).flatMap fun y => chiRow ((lanes.drop (5 * y)).take 5)

/-- Rounds of the permutation, the register of the constants running along; ι changes lane 0. -/
def keccakRounds (n r : Nat) (lanes : List Nat) : List Nat :=
  match n with
  | 0 => lanes
  | n + 1 =>
    let c := rcTake [0, 1, 3, 7, 15, 31, 63] r
    let t := thetaLanes lanes
    let b := chiLanes (walkLanes 24 1 1 0 t t)
    keccakRounds n c.2 (b.set 0 (b.getD 0 0 ^^^ c.1))

/-- Keccak-f[1600]: 24 rounds. -/
def keccak (a : List Nat) : List Nat := keccakRounds 24 1 a

/-- XORs a 136-byte block into the first 17 lanes. -/
def absorbBlock (a : List Nat) (block : Bytes) : List Nat :=
  keccak ((List.range 25).map fun i => if i < 17 then a.getD i 0 ^^^ field block (8 * i) 8 else a.getD i 0)

/-- Absorbs the first `n` whole blocks of a byte string. -/
def absorbBlocks (n : Nat) (a : List Nat) (bs : Bytes) : List Nat :=
  match n with
  | 0 => a
  | n + 1 => absorbBlocks n (absorbBlock a (bs.take 136)) (bs.drop 136)

/-- A running sponge takes more bytes. -/
def Sponge.absorb (p : Sponge) (bs : Bytes) : Sponge :=
  let all := p.pending ++ bs
  let n := all.length / 136
  { lanes := absorbBlocks n p.lanes all, pending := all.drop (136 * n) }

/-- The last block of SHA3-256: the suffix 01 and the padding 10*1. -/
def padBlock (bs : Bytes) : Bytes :=
  let n := bs.length
  if n = 135 then bs ++ [0x86] else bs ++ [0x06] ++ zeros (134 - n) ++ [0x80]

/-- The 32-byte digest of what a sponge has taken. -/
def Sponge.digest (p : Sponge) : Bytes :=
  let a := absorbBlock p.lanes (padBlock p.pending)
  (List.range 4).flatMap fun i => leBytes 8 (a.getD i 0)

/-- SHA3-256. -/
def sha3 (bs : Bytes) : Bytes := (Sponge.empty.absorb bs).digest

/-- XORs every byte with a constant. -/
def xorBytes (k : Byte) (bs : Bytes) : Bytes := bs.map (fun b => b ^^^ k)

/-- HMAC over SHA3-256, whose block is 136 bytes. -/
def hmac (key msg : Bytes) : Bytes :=
  let k := padTo 136 (if key.length > 136 then sha3 key else key)
  sha3 (xorBytes 0x5C k ++ sha3 (xorBytes 0x36 k ++ msg))

/-- HKDF of RFC 5869 with a 32-byte output (R467); no salt is 32 zero bytes. -/
def hkdf (ikm salt info : Bytes) : Bytes :=
  let s := if salt.isEmpty then zeros 32 else salt
  hmac (hmac s ikm) (info ++ [1])

end Sys2Proof.Machine
end

