-- ==== Sys2Proof/Machine/Map.lean ====
section
/-! DEFINITION. Sparse tables and addressed bytes in canonical form: the one way in which every table of `State` is
read and written. -/

namespace Sys2Proof.Machine

/-- What a key reads as; `d` is what an unlisted key reads as. -/
def Map.get {α : Type} (m : Map α) (d : α) (k : Nat) : α :=
  match m with
  | [] => d
  | (j, v) :: r => if j = k then v else Map.get r d k

/-- The listed value of a key. -/
def Map.find {α : Type} (m : Map α) (k : Nat) : Option α :=
  match m with
  | [] => none
  | (j, v) :: r => if j = k then some v else Map.find r k

/-- Drops a key. -/
def Map.drop {α : Type} (m : Map α) (k : Nat) : Map α :=
  match m with
  | [] => []
  | (j, v) :: r => if j = k then r else (j, v) :: Map.drop r k

/-- Lists a value under a key, in place, whatever it is. -/
def Map.put {α : Type} (m : Map α) (k : Nat) (v : α) : Map α :=
  match m with
  | [] => [(k, v)]
  | (j, w) :: r =>
    if k < j then (k, v) :: (j, w) :: r
    else if j = k then (k, v) :: r
    else (j, w) :: Map.put r k v

/-- Writes a key: the value an unlisted key reads as removes the entry. -/
def Map.set {α : Type} [DecidableEq α] (m : Map α) (d : α) (k : Nat) (v : α) : Map α :=
  if v = d then Map.drop m k else Map.put m k v

/-- The keys rise strictly. -/
def Map.rising {α : Type} (m : Map α) : Bool :=
  match m with
  | [] => true
  | (j, _) :: r => r.all (fun e => decide (j < e.1)) && Map.rising r

/-- The canonical form: keys strictly rising, no entry equal to what an unlisted key reads as. -/
def Map.wf {α : Type} [DecidableEq α] (d : Nat → α) (m : Map α) : Bool :=
  Map.rising m && m.all (fun e => decide (e.2 ≠ d e.1))

/-- One byte of an addressed memory: an address nothing has written reads 0 (R208). -/
def Memory.byte (m : Memory) (a : Nat) : Byte := Map.get m 0 a

/-- Writes one byte. -/
def Memory.setByte (m : Memory) (a : Nat) (b : Byte) : Memory := Map.set m 0 a b

/-- The `n` bytes from address `a`. -/
def Memory.read (m : Memory) (a n : Nat) : Bytes :=
  match n with
  | 0 => []
  | n + 1 => m.byte a :: Memory.read m (a + 1) n

/-- Writes bytes from address `a` on. -/
def Memory.write (m : Memory) (a : Nat) (bs : Bytes) : Memory :=
  match bs with
  | [] => m
  | b :: r => Memory.write (m.setByte a b) (a + 1) r

/-- Zeros `n` bytes from address `a`. -/
def Memory.clear (m : Memory) (a n : Nat) : Memory :=
  m.filter (fun e => decide (e.1 < a ∨ a + n ≤ e.1))

/-- The canonical form of an addressed memory. -/
def Memory.wf (m : Memory) : Bool := Map.wf (fun _ => (0 : Byte)) m

end Sys2Proof.Machine
end

