-- ==== Sys2Proof/Machine/Dictionary.lean ====
section
/-! DEFINITION. The parameter dictionary (R413 to R418): every entry of the index map, as one table of rows, and a
name for every fixed-width entry (`Reg.…`) and for every STR or BLOB entry (`Blob.…`). A "per part", "per firmware"
or "per start" default is a value this model names (assumption 4). -/

namespace Sys2Proof.Machine

/-- One row of the dictionary: `count` indices from `index`, subs `lo` to `hi`; type and access codes of R413 and
R418; the default of R417; the allowed-states mask of R416; the flags of R418; MaxLength, Minimum and Maximum. -/
structure Entry where
  index : Nat
  count : Nat
  lo : Nat
  hi : Nat
  typ : Nat
  access : Nat
  dflt : Nat
  states : Nat
  flags : Nat
  maxLength : Nat
  minimum : Nat
  maximum : Nat
  deriving DecidableEq, Repr

/-- A fixed-width register: its key (index × 256 + sub), its width in bits, its default. -/
structure RegId where
  key : Nat
  width : Nat
  dflt : Nat
  deriving DecidableEq, Repr

/-- The key of an index:sub pair. -/
def entryKey (index sub : Nat) : Nat := index * 256 + sub

/-- The entries of R3 at 0x1000 (00_scope.md). -/
def entriesR3 : List Entry := [
  ⟨0x1000, 1, 0x01, 0x01, 8, 4, 0, 15, 0, 32, 0, 32⟩ /- PartNumber -/,
  ⟨0x1000, 1, 0x02, 0x02, 1, 4, 1, 15, 0, 1, 0, 255⟩ /- Grade -/,
  ⟨0x1000, 1, 0x03, 0x03, 1, 4, 176, 15, 0, 1, 0, 255⟩ /- Stepping -/,
  ⟨0x1000, 1, 0x04, 0x04, 1, 4, 2, 15, 0, 1, 0, 255⟩ /- NumericClass -/,
  ⟨0x1000, 1, 0x05, 0x05, 8, 4, 0, 15, 0, 12, 0, 12⟩ /- SerialNumber -/]

/-- The entries of R35 at 0x2000 (01_courses.md). -/
def entriesR35 : List Entry := [
  ⟨0x2000, 1, 0x01, 0x01, 1, 1, 0, 15, 0, 1, 0, 3⟩ /- CourseSource -/,
  ⟨0x2000, 1, 0x02, 0x02, 4, 0, 18446744073709551615, 15, 0, 8, 0, 18446744073709551615⟩ /- CourseNow -/,
  ⟨0x2000, 1, 0x03, 0x03, 4, 2, 0, 15, 0, 8, 0, 18446744073709551615⟩ /- CourseLoad -/,
  ⟨0x2000, 1, 0x04, 0x04, 1, 0, 0, 15, 0, 1, 0, 255⟩ /- LockState -/,
  ⟨0x2000, 1, 0x05, 0x05, 1, 0, 255, 15, 0, 1, 0, 255⟩ /- ParentPort -/,
  ⟨0x2000, 1, 0x06, 0x06, 1, 0, 255, 15, 0, 1, 0, 255⟩ /- Depth -/,
  ⟨0x2000, 1, 0x07, 0x07, 2, 0, 65535, 15, 0, 2, 0, 65535⟩ /- RootId -/,
  ⟨0x2000, 1, 0x08, 0x08, 5, 0, 0, 15, 0, 4, 0, 4294967295⟩ /- PhaseError -/,
  ⟨0x2000, 1, 0x09, 0x09, 5, 1, 0, 15, 0, 4, 0, 0⟩ /- RefDelay -/,
  ⟨0x2000, 1, 0x0A, 0x0A, 4, 0, 0, 15, 0, 8, 0, 18446744073709551615⟩ /- HoldoverCourses -/,
  ⟨0x2000, 1, 0x0B, 0x0B, 3, 0, 0, 15, 0, 4, 0, 4294967295⟩ /- CourseMarkConflict -/,
  ⟨0x2000, 1, 0x0C, 0x0C, 3, 0, 0, 15, 0, 4, 0, 4294967295⟩ /- EpochMismatch -/]

/-- The entries of R36 at 0x2001 (01_courses.md). -/
def entriesR36 : List Entry := [
  ⟨0x2001, 1, 0x01, 0x40, 3, 0, 4294967295, 15, 0, 4, 0, 4294967295⟩ /- PortDelay -/]

/-- The entries of R37 at 0x2010 (01_courses.md). -/
def entriesR37 : List Entry := [
  ⟨0x2010, 1, 0x01, 0x01, 4, 0, 0, 15, 1, 8, 0, 18446744073709551615⟩ /- PlanCourse -/,
  ⟨0x2010, 1, 0x02, 0x02, 4, 0, 0, 15, 1, 8, 0, 18446744073709551615⟩ /- SlipCount -/,
  ⟨0x2010, 1, 0x03, 0x03, 4, 0, 0, 15, 1, 8, 0, 18446744073709551615⟩ /- SlipsTotal -/,
  ⟨0x2010, 1, 0x04, 0x04, 4, 0, 0, 15, 1, 8, 0, 18446744073709551615⟩ /- RestsTotal -/,
  ⟨0x2010, 1, 0x05, 0x05, 4, 0, 0, 15, 1, 8, 0, 18446744073709551615⟩ /- GroutsSkipped -/,
  ⟨0x2010, 1, 0x06, 0x06, 4, 0, 0, 15, 1, 8, 0, 18446744073709551615⟩ /- GroutsIdled -/,
  ⟨0x2010, 1, 0x07, 0x07, 4, 0, 0, 15, 1, 8, 0, 18446744073709551615⟩ /- LagSlips -/,
  ⟨0x2010, 1, 0x08, 0x08, 1, 0, 0, 15, 1, 1, 0, 255⟩ /- LastSlipCause -/,
  ⟨0x2010, 1, 0x09, 0x09, 4, 0, 0, 15, 1, 8, 0, 18446744073709551615⟩ /- LastSlipCourse -/,
  ⟨0x2010, 1, 0x0A, 0x0A, 4, 0, 18446744073709551615, 15, 1, 8, 0, 18446744073709551615⟩ /- SnapshotCourse -/,
  ⟨0x2010, 1, 0x0B, 0x0B, 7, 0, 0, 15, 1, 1, 0, 1⟩ /- OnTime -/,
  ⟨0x2010, 1, 0x0C, 0x0C, 4, 0, 0, 15, 1, 8, 0, 18446744073709551615⟩ /- MaxLag -/,
  ⟨0x2010, 1, 0x0D, 0x0D, 2, 1, 64, 15, 0, 2, 4, 4096⟩ /- StallLimit -/,
  ⟨0x2010, 1, 0x0E, 0x0E, 2, 1, 8, 15, 0, 2, 0, 256⟩ /- LaunchLateLimit -/,
  ⟨0x2010, 1, 0x0F, 0x0F, 4, 0, 0, 15, 1, 8, 0, 18446744073709551615⟩ /- LeadCourses -/]

/-- The entries of R38 at 0x2020 (01_courses.md). -/
def entriesR38 : List Entry := [
  ⟨0x2020, 1, 0x01, 0x01, 4, 1, 0, 1, 0, 8, 0, 18446744073709551615⟩ /- LaunchCourse -/,
  ⟨0x2020, 1, 0x02, 0x02, 1, 0, 0, 15, 0, 1, 0, 255⟩ /- LaunchState -/,
  ⟨0x2020, 1, 0x03, 0x03, 1, 0, 0, 15, 0, 1, 0, 255⟩ /- LaunchRefusal -/,
  ⟨0x2020, 1, 0x04, 0x04, 1, 0, 255, 15, 0, 1, 0, 255⟩ /- LaunchRefusalPort -/]

/-- The entries of R39 at 0x2030 (01_courses.md). -/
def entriesR39 : List Entry := [
  ⟨0x2030, 1, 0x01, 0x01, 4, 0, 0, 15, 0, 8, 0, 18446744073709551615⟩ /- RetryFlits -/,
  ⟨0x2030, 1, 0x02, 0x02, 4, 0, 0, 15, 0, 8, 0, 18446744073709551615⟩ /- TileRereads -/,
  ⟨0x2030, 1, 0x03, 0x03, 4, 0, 0, 15, 0, 8, 0, 18446744073709551615⟩ /- RereadOverruns -/,
  ⟨0x2030, 1, 0x04, 0x04, 4, 0, 0, 15, 0, 8, 0, 18446744073709551615⟩ /- ScrubDeferred -/,
  ⟨0x2030, 1, 0x05, 0x05, 4, 0, 0, 15, 0, 8, 0, 18446744073709551615⟩ /- HousekeepingDeferred -/,
  ⟨0x2030, 1, 0x06, 0x06, 4, 0, 0, 15, 0, 8, 0, 18446744073709551615⟩ /- SensorDeferred -/,
  ⟨0x2030, 1, 0x07, 0x07, 4, 0, 0, 15, 0, 8, 0, 18446744073709551615⟩ /- MaintenanceDeferred -/]

/-- The entries of R62 at 0x1020 (02_bricks_clusters_grades.md). -/
def entriesR62 : List Entry := [
  ⟨0x1020, 1, 0x01, 0x01, 9, 0, 0, 15, 0, 32, 0, 32⟩ /- UnitMap -/,
  ⟨0x1020, 1, 0x02, 0x02, 9, 0, 0, 15, 0, 32, 0, 32⟩ /- UnitMapDigest -/,
  ⟨0x1020, 1, 0x03, 0x03, 1, 0, 0, 15, 0, 1, 0, 255⟩ /- EnabledBricks -/,
  ⟨0x1020, 1, 0x04, 0x04, 2, 0, 0, 15, 0, 2, 0, 65535⟩ /- EnabledClusters -/,
  ⟨0x1020, 1, 0x05, 0x05, 2, 0, 0, 15, 0, 2, 0, 65535⟩ /- StretcherClusters -/,
  ⟨0x1020, 1, 0x06, 0x06, 2, 0, 0, 15, 0, 2, 0, 65535⟩ /- HeaderClusters -/,
  ⟨0x1020, 1, 0x07, 0x07, 2, 0, 0, 15, 0, 2, 0, 65535⟩ /- ScheduledCores -/,
  ⟨0x1020, 1, 0x08, 0x08, 3, 0, 0, 15, 0, 4, 0, 4294967295⟩ /- MapSerial -/,
  ⟨0x1020, 1, 0x09, 0x09, 1, 0, 0, 15, 0, 1, 0, 255⟩ /- EdgesInService -/]

/-- The entries of R63 at 0x9040 (02_bricks_clusters_grades.md). -/
def entriesR63 : List Entry := [
  ⟨0x9040, 1, 0x01, 0x80, 1, 0, 0, 15, 0, 1, 0, 255⟩ /- SpareState -/]

/-- The entries of R64 at 0x9041 (02_bricks_clusters_grades.md). -/
def entriesR64 : List Entry := [
  ⟨0x9041, 1, 0x01, 0x01, 2, 2, 0, 1, 0, 2, 0, 1023⟩ /- SubstituteCore -/,
  ⟨0x9041, 1, 0x02, 0x02, 3, 1, 64, 15, 0, 4, 0, 4294967295⟩ /- CorrectedThreshold -/,
  ⟨0x9041, 1, 0x03, 0x03, 3, 0, 0, 15, 0, 4, 0, 4294967295⟩ /- Substitutions -/,
  ⟨0x9041, 1, 0x04, 0x04, 3, 0, 0, 15, 0, 4, 0, 4294967295⟩ /- SubstitutionsAbandoned -/]

/-- The entries of R107 at 0xA100 (03_number_formats.md). -/
def entriesR107 : List Entry := [
  ⟨0xA100, 128, 0x01, 0x28, 1, 3, 0, 15, 0, 1, 0, 31⟩ /- EngineFlags -/]

/-- The entries of R107 at 0xA180 (03_number_formats.md). -/
def entriesR107xA180 : List Entry := [
  ⟨0xA180, 1, 0x01, 0x80, 1, 0, 0, 15, 0, 1, 0, 255⟩ /- ClusterFlags -/]

/-- The entries of R107 at 0xA181 (03_number_formats.md). -/
def entriesR107xA181 : List Entry := [
  ⟨0xA181, 1, 0x01, 0x01, 1, 0, 0, 15, 0, 1, 0, 255⟩ /- ModuleFlags -/,
  ⟨0xA181, 1, 0x02, 0x02, 1, 2, 0, 15, 0, 1, 0, 31⟩ /- ClearAllFlags -/]

/-- The entries of R107 at 0xA200 (03_number_formats.md). -/
def entriesR107xA200 : List Entry := [
  ⟨0xA200, 128, 0x01, 0x01, 4, 0, 0, 15, 0, 8, 0, 18446744073709551615⟩ /- OfEvents -/,
  ⟨0xA200, 128, 0x02, 0x02, 4, 0, 0, 15, 0, 8, 0, 18446744073709551615⟩ /- UfEvents -/,
  ⟨0xA200, 128, 0x03, 0x03, 4, 0, 0, 15, 0, 8, 0, 18446744073709551615⟩ /- IxEvents -/,
  ⟨0xA200, 128, 0x04, 0x04, 4, 0, 0, 15, 0, 8, 0, 18446744073709551615⟩ /- IvEvents -/,
  ⟨0xA200, 128, 0x05, 0x05, 4, 0, 0, 15, 0, 8, 0, 18446744073709551615⟩ /- FlEvents -/]

/-- The entries of R107 at 0xA280 (03_number_formats.md). -/
def entriesR107xA280 : List Entry := [
  ⟨0xA280, 1, 0x01, 0x01, 4, 0, 0, 15, 0, 8, 0, 18446744073709551615⟩ /- ClearCollisions -/,
  ⟨0xA280, 1, 0x02, 0x02, 4, 0, 0, 15, 0, 8, 0, 18446744073709551615⟩ /- FormatFaults -/,
  ⟨0xA280, 1, 0x03, 0x03, 1, 0, 0, 15, 0, 1, 0, 255⟩ /- LastFormatFault -/,
  ⟨0xA280, 1, 0x04, 0x04, 4, 0, 0, 15, 0, 8, 0, 18446744073709551615⟩ /- TrnInvalidBytes -/]

/-- The entries of R130 at 0xA300 (04_arrays_and_feeders.md). -/
def entriesR130 : List Entry := [
  ⟨0xA300, 128, 0x01, 0x01, 4, 0, 0, 15, 0, 8, 0, 18446744073709551615⟩ /- Fronts -/,
  ⟨0xA300, 128, 0x02, 0x02, 4, 0, 0, 15, 0, 8, 0, 18446744073709551615⟩ /- TileCrcFailures -/,
  ⟨0xA300, 128, 0x03, 0x03, 4, 0, 0, 15, 0, 8, 0, 18446744073709551615⟩ /- TintMismatches -/,
  ⟨0xA300, 128, 0x04, 0x04, 4, 0, 0, 15, 0, 8, 0, 18446744073709551615⟩ /- GenerationMismatches -/,
  ⟨0xA300, 128, 0x05, 0x05, 4, 0, 0, 15, 0, 8, 0, 18446744073709551615⟩ /- Replays -/,
  ⟨0xA300, 128, 0x06, 0x06, 4, 0, 0, 15, 0, 8, 0, 18446744073709551615⟩ /- VectorsEntered -/,
  ⟨0xA300, 128, 0x07, 0x07, 4, 0, 0, 15, 0, 8, 0, 18446744073709551615⟩ /- BusyCycles -/]

/-- The entries of R131 at 0xA380 (04_arrays_and_feeders.md). -/
def entriesR131 : List Entry := [
  ⟨0xA380, 1, 0x01, 0x01, 1, 0, 0, 15, 0, 1, 0, 255⟩ /- LastArrayFault -/,
  ⟨0xA380, 1, 0x02, 0x02, 4, 0, 18446744073709551615, 15, 0, 8, 0, 18446744073709551615⟩ /- LastArrayFaultCourse -/,
  ⟨0xA380, 1, 0x03, 0x03, 3, 0, 0, 15, 0, 4, 0, 4294967295⟩ /- LastArrayFaultUnit -/]

/-- The entries of R174 at 0x4100 (05_queue_programs.md). -/
def entriesR174 : List Entry := [
  ⟨0x4100, 1, 0x01, 0x01, 3, 0, 1, 15, 0, 4, 0, 4294967295⟩ /- PatternBookVersion -/,
  ⟨0x4100, 1, 0x02, 0x02, 2, 0, 0, 15, 0, 2, 0, 65535⟩ /- PatternBookRoutines -/,
  ⟨0x4100, 1, 0x03, 0x03, 2, 0, 0, 15, 0, 2, 0, 65535⟩ /- PatchedRoutines -/,
  ⟨0x4100, 1, 0x04, 0x04, 9, 0, 0, 15, 0, 32, 0, 32⟩ /- PatternBookDigest -/,
  ⟨0x4100, 1, 0x05, 0x05, 9, 0, 0, 15, 0, 49152, 0, 49152⟩ /- PatternBookManifest -/]

/-- The entries of R175 at 0x4101 (05_queue_programs.md). -/
def entriesR175 : List Entry := [
  ⟨0x4101, 1, 0x01, 0x01, 1, 0, 0, 15, 0, 1, 0, 255⟩ /- ActiveBank -/,
  ⟨0x4101, 1, 0x02, 0x02, 1, 0, 0, 15, 0, 1, 0, 255⟩ /- ShadowState -/,
  ⟨0x4101, 1, 0x03, 0x03, 7, 2, 0, 3, 0, 1, 0, 1⟩ /- SwapArm -/,
  ⟨0x4101, 1, 0x04, 0x04, 4, 0, 18446744073709551615, 15, 0, 8, 0, 18446744073709551615⟩ /- LastSwapCourse -/,
  ⟨0x4101, 1, 0x05, 0x05, 3, 0, 0, 15, 0, 4, 0, 4294967295⟩ /- BankSwaps -/,
  ⟨0x4101, 1, 0x06, 0x06, 1, 1, 1, 15, 0, 1, 0, 1⟩ /- LoadBank -/,
  ⟨0x4101, 1, 0x07, 0x07, 3, 0, 0, 15, 0, 4, 0, 4294967295⟩ /- RefusedActiveWrites -/]

/-- The entries of R176 at 0x4200 (05_queue_programs.md). -/
def entriesR176 : List Entry := [
  ⟨0x4200, 128, 0x01, 0x01, 1, 0, 0, 15, 0, 1, 0, 255⟩ /- TrowelState -/,
  ⟨0x4200, 128, 0x02, 0x02, 3, 0, 1, 15, 0, 4, 0, 4294967295⟩ /- TrowelImage -/,
  ⟨0x4200, 128, 0x03, 0x03, 1, 0, 0, 15, 0, 1, 0, 255⟩ /- TrowelBank -/,
  ⟨0x4200, 128, 0x04, 0x04, 3, 0, 0, 15, 0, 4, 0, 4294967295⟩ /- TrowelResets -/,
  ⟨0x4200, 128, 0x05, 0x05, 4, 0, 0, 15, 0, 8, 0, 18446744073709551615⟩ /- HandoffSwaps -/]

/-- The entries of R177 at 0xA400 (05_queue_programs.md). -/
def entriesR177 : List Entry := [
  ⟨0xA400, 128, 0x01, 0x01, 4, 0, 0, 15, 0, 8, 0, 18446744073709551615⟩ /- InstructionsIssued -/,
  ⟨0xA400, 128, 0x02, 0x02, 4, 0, 0, 15, 0, 8, 0, 18446744073709551615⟩ /- PlumbHeldCycles -/,
  ⟨0xA400, 128, 0x03, 0x03, 4, 0, 0, 15, 0, 8, 0, 18446744073709551615⟩ /- Calls -/,
  ⟨0xA400, 128, 0x04, 0x04, 4, 0, 0, 15, 0, 8, 0, 18446744073709551615⟩ /- HodFaults -/,
  ⟨0xA400, 128, 0x05, 0x05, 4, 0, 0, 15, 0, 8, 0, 18446744073709551615⟩ /- KvWritesRefused -/,
  ⟨0xA400, 128, 0x06, 0x06, 4, 0, 0, 15, 0, 8, 0, 18446744073709551615⟩ /- IdleSlotWrites -/]

/-- The entries of R209 at 0x4300 (06_stores_and_tiles.md). -/
def entriesR209 : List Entry := [
  ⟨0x4300, 1, 0x01, 0x01, 9, 4, 0, 15, 0, 4, 0, 4⟩ /- LocalLatency -/,
  ⟨0x4300, 1, 0x02, 0x02, 9, 4, 0, 15, 0, 8, 0, 8⟩ /- ClusterLatency -/,
  ⟨0x4300, 1, 0x03, 0x03, 9, 4, 0, 15, 0, 8, 0, 8⟩ /- StackLatency -/,
  ⟨0x4300, 1, 0x04, 0x04, 1, 4, 18, 15, 0, 1, 0, 255⟩ /- PeerHopCycles -/,
  ⟨0x4300, 1, 0x05, 0x05, 9, 4, 0, 15, 0, 32, 0, 32⟩ /- StoreLatencyDigest -/]

/-- The entries of R210 at 0x4301 (06_stores_and_tiles.md). -/
def entriesR210 : List Entry := [
  ⟨0x4301, 1, 0x01, 0x01, 4, 0, 0, 15, 0, 8, 0, 18446744073709551615⟩ /- LocalBytes -/,
  ⟨0x4301, 1, 0x02, 0x02, 4, 0, 0, 15, 0, 8, 0, 18446744073709551615⟩ /- ClusterBytes -/,
  ⟨0x4301, 1, 0x03, 0x03, 4, 0, 0, 15, 0, 8, 0, 18446744073709551615⟩ /- StackWindowBytes -/,
  ⟨0x4301, 1, 0x04, 0x04, 4, 0, 0, 15, 0, 8, 0, 18446744073709551615⟩ /- StackRawBytes -/,
  ⟨0x4301, 1, 0x05, 0x05, 1, 0, 0, 15, 0, 1, 0, 255⟩ /- RemoteWindows -/,
  ⟨0x4301, 1, 0x06, 0x06, 2, 0, 0, 15, 0, 2, 0, 65535⟩ /- ClearingShare -/]

/-- The entries of R211 at 0x5300 (06_stores_and_tiles.md). -/
def entriesR211 : List Entry := [
  ⟨0x5300, 1, 0x01, 0x01, 2, 0, 0, 15, 0, 2, 0, 65535⟩ /- OwnedSlots -/,
  ⟨0x5300, 1, 0x02, 0x02, 2, 0, 0, 15, 0, 2, 0, 65535⟩ /- SlotsClearing -/,
  ⟨0x5300, 1, 0x03, 0x03, 4, 0, 0, 15, 0, 8, 0, 18446744073709551615⟩ /- ClearsDone -/,
  ⟨0x5300, 1, 0x04, 0x04, 4, 0, 0, 15, 0, 8, 0, 18446744073709551615⟩ /- StampsDone -/,
  ⟨0x5300, 1, 0x05, 0x05, 3, 0, 0, 15, 0, 4, 0, 4294967295⟩ /- LastClearCourses -/,
  ⟨0x5300, 1, 0x06, 0x06, 4, 0, 0, 15, 0, 8, 0, 18446744073709551615⟩ /- ClearingReads -/]

/-- The entries of R212 at 0xA500 (06_stores_and_tiles.md). -/
def entriesR212 : List Entry := [
  ⟨0xA500, 128, 0x01, 0x01, 4, 0, 0, 15, 0, 8, 0, 18446744073709551615⟩ /- LocalCorrected -/,
  ⟨0xA500, 128, 0x02, 0x02, 4, 0, 0, 15, 0, 8, 0, 18446744073709551615⟩ /- LocalUncorrectable -/,
  ⟨0xA500, 128, 0x03, 0x03, 4, 0, 0, 15, 0, 8, 0, 18446744073709551615⟩ /- ClusterCorrected -/,
  ⟨0xA500, 128, 0x04, 0x04, 4, 0, 0, 15, 0, 8, 0, 18446744073709551615⟩ /- ClusterUncorrectable -/,
  ⟨0xA500, 128, 0x05, 0x05, 4, 0, 0, 15, 0, 8, 0, 18446744073709551615⟩ /- AccumulateGranules -/,
  ⟨0xA500, 128, 0x06, 0x06, 4, 0, 0, 15, 0, 8, 0, 18446744073709551615⟩ /- ClusterScrubPasses -/]

/-- The entries of R213 at 0xA580 (06_stores_and_tiles.md). -/
def entriesR213 : List Entry := [
  ⟨0xA580, 16, 0x01, 0x01, 4, 0, 0, 15, 0, 8, 0, 18446744073709551615⟩ /- StackCorrected -/,
  ⟨0xA580, 16, 0x02, 0x02, 4, 0, 0, 15, 0, 8, 0, 18446744073709551615⟩ /- StackUncorrectable -/,
  ⟨0xA580, 16, 0x03, 0x03, 4, 0, 0, 15, 0, 8, 0, 18446744073709551615⟩ /- StackScrubPasses -/,
  ⟨0xA580, 16, 0x04, 0x04, 4, 0, 0, 15, 0, 8, 0, 18446744073709551615⟩ /- TileCopyFailures -/,
  ⟨0xA580, 16, 0x05, 0x05, 4, 0, 0, 15, 0, 8, 0, 18446744073709551615⟩ /- RemoteGranulesLanded -/]

/-- The entries of R214 at 0xA590 (06_stores_and_tiles.md). -/
def entriesR214 : List Entry := [
  ⟨0xA590, 1, 0x01, 0x01, 4, 0, 0, 15, 0, 8, 0, 18446744073709551615⟩ /- LastUncorrectableAddress -/,
  ⟨0xA590, 1, 0x02, 0x02, 4, 0, 18446744073709551615, 15, 0, 8, 0, 18446744073709551615⟩ /- LastUncorrectableCourse -/,
  ⟨0xA590, 1, 0x03, 0x03, 1, 1, 4, 15, 0, 1, 2, 16⟩ /- ScrubLateLimit -/]

/-- The entries of R246 at 0x7100 (07_mortar_fabric.md). -/
def entriesR246 : List Entry := [
  ⟨0x7100, 64, 0x01, 0x01, 1, 0, 0, 15, 0, 1, 0, 255⟩ /- LinkState -/,
  ⟨0x7100, 64, 0x02, 0x02, 9, 0, 0, 15, 0, 8, 0, 8⟩ /- LaneStatus -/,
  ⟨0x7100, 64, 0x03, 0x03, 2, 0, 65535, 15, 0, 2, 0, 65535⟩ /- PartnerDeviceId -/,
  ⟨0x7100, 64, 0x04, 0x04, 1, 0, 255, 15, 0, 1, 0, 255⟩ /- PartnerPort -/,
  ⟨0x7100, 64, 0x05, 0x05, 3, 0, 4294967295, 15, 0, 4, 0, 4294967295⟩ /- DelayLimit -/,
  ⟨0x7100, 64, 0x06, 0x06, 4, 0, 0, 15, 0, 8, 0, 18446744073709551615⟩ /- FlitsSent -/,
  ⟨0x7100, 64, 0x07, 0x07, 4, 0, 0, 15, 0, 8, 0, 18446744073709551615⟩ /- FlitsLanded -/,
  ⟨0x7100, 64, 0x08, 0x08, 4, 0, 0, 15, 0, 8, 0, 18446744073709551615⟩ /- FecCorrected -/,
  ⟨0x7100, 64, 0x09, 0x09, 4, 0, 0, 15, 0, 8, 0, 18446744073709551615⟩ /- FecUncorrectable -/,
  ⟨0x7100, 64, 0x0A, 0x0A, 4, 0, 0, 15, 0, 8, 0, 18446744073709551615⟩ /- FlitFailures -/,
  ⟨0x7100, 64, 0x0B, 0x0B, 4, 0, 0, 15, 0, 8, 0, 18446744073709551615⟩ /- RetriesSent -/,
  ⟨0x7100, 64, 0x0C, 0x0C, 2, 0, 0, 15, 0, 2, 0, 65535⟩ /- RetryBacklog -/,
  ⟨0x7100, 64, 0x0D, 0x0D, 3, 0, 0, 15, 0, 4, 0, 4294967295⟩ /- ReportTimeouts -/,
  ⟨0x7100, 64, 0x0E, 0x0E, 4, 0, 0, 15, 0, 8, 0, 18446744073709551615⟩ /- LateGranules -/,
  ⟨0x7100, 64, 0x0F, 0x0F, 6, 0, 0, 15, 0, 4, 0, 4294967295⟩ /- PreFecBer -/,
  ⟨0x7100, 64, 0x10, 0x10, 7, 2, 0, 3, 0, 1, 0, 1⟩ /- Retrain -/,
  ⟨0x7100, 64, 0x11, 0x11, 3, 0, 0, 15, 0, 4, 0, 4294967295⟩ /- Retrains -/]

/-- The entries of R247 at 0x7200 (07_mortar_fabric.md). -/
def entriesR247 : List Entry := [
  ⟨0x7200, 24, 0x01, 0x01, 1, 0, 1, 15, 0, 1, 0, 255⟩ /- EdgeState -/,
  ⟨0x7200, 24, 0x02, 0x02, 4, 0, 0, 15, 0, 8, 0, 18446744073709551615⟩ /- BlocksSent -/,
  ⟨0x7200, 24, 0x03, 0x03, 4, 0, 0, 15, 0, 8, 0, 18446744073709551615⟩ /- BlockFailures -/,
  ⟨0x7200, 24, 0x04, 0x04, 3, 0, 0, 15, 0, 4, 0, 4294967295⟩ /- EdgeRetrains -/]

/-- The entries of R248 at 0x7280 (07_mortar_fabric.md). -/
def entriesR248 : List Entry := [
  ⟨0x7280, 1, 0x01, 0x01, 1, 4, 28, 15, 0, 1, 0, 255⟩ /- FlitSlotsPerLane -/,
  ⟨0x7280, 1, 0x02, 0x02, 2, 4, 64, 15, 0, 2, 0, 65535⟩ /- RxLatency -/,
  ⟨0x7280, 1, 0x03, 0x03, 1, 4, 12, 15, 0, 1, 0, 255⟩ /- RetryBufferCourses -/,
  ⟨0x7280, 1, 0x04, 0x04, 1, 4, 12, 15, 0, 1, 0, 255⟩ /- CrossbarCycles -/,
  ⟨0x7280, 1, 0x05, 0x05, 2, 0, 0, 15, 0, 2, 0, 65535⟩ /- RoutesInPlan -/,
  ⟨0x7280, 1, 0x06, 0x06, 3, 0, 0, 15, 0, 4, 0, 4294967295⟩ /- TreeNodes -/,
  ⟨0x7280, 1, 0x07, 0x07, 4, 0, 0, 15, 0, 8, 0, 18446744073709551615⟩ /- RouterAdditions -/,
  ⟨0x7280, 1, 0x08, 0x08, 4, 0, 0, 15, 0, 8, 0, 18446744073709551615⟩ /- FabricAccumulations -/,
  ⟨0x7280, 1, 0x09, 0x09, 4, 0, 0, 15, 0, 8, 0, 18446744073709551615⟩ /- RelayFlits -/,
  ⟨0x7280, 1, 0x0A, 0x0A, 4, 0, 0, 15, 0, 8, 0, 18446744073709551615⟩ /- LandingHeldFlits -/,
  ⟨0x7280, 1, 0x0B, 0x0B, 3, 1, 1024, 15, 0, 4, 16, 65536⟩ /- LaneErrorLimit -/,
  ⟨0x7280, 1, 0x0C, 0x0C, 3, 0, 0, 15, 0, 4, 0, 4294967295⟩ /- LaneDowns -/]

/-- The entries of R270 at 0x4400 (08_pointing_ties_levels.md). -/
def entriesR270 : List Entry := [
  ⟨0x4400, 128, 0x01, 0x08, 9, 0, 0, 15, 9, 2048, 0, 2048⟩ /- TieRecords -/]

/-- The entries of R271 at 0x4480 (08_pointing_ties_levels.md). -/
def entriesR271 : List Entry := [
  ⟨0x4480, 1, 0x01, 0x01, 2, 0, 0, 15, 0, 2, 0, 65535⟩ /- TieTableEntries -/,
  ⟨0x4480, 1, 0x02, 0x02, 4, 0, 0, 15, 0, 8, 0, 18446744073709551615⟩ /- SignalsSent -/,
  ⟨0x4480, 1, 0x03, 0x03, 4, 0, 0, 15, 0, 8, 0, 18446744073709551615⟩ /- SignalsApplied -/,
  ⟨0x4480, 1, 0x04, 0x04, 4, 0, 0, 15, 0, 8, 0, 18446744073709551615⟩ /- SignalsHeld -/,
  ⟨0x4480, 1, 0x05, 0x05, 4, 0, 0, 15, 0, 8, 0, 18446744073709551615⟩ /- SignalsLate -/,
  ⟨0x4480, 1, 0x06, 0x06, 4, 0, 0, 15, 0, 8, 0, 18446744073709551615⟩ /- PointingResends -/,
  ⟨0x4480, 1, 0x07, 0x07, 4, 0, 0, 15, 0, 8, 0, 18446744073709551615⟩ /- PointingDiscards -/,
  ⟨0x4480, 1, 0x08, 0x08, 4, 0, 0, 15, 0, 8, 0, 18446744073709551615⟩ /- StrayMessages -/]

/-- The entries of R272 at 0x4500 (08_pointing_ties_levels.md). -/
def entriesR272 : List Entry := [
  ⟨0x4500, 1, 0x01, 0x01, 9, 0, 0, 15, 9, 4096, 0, 4096⟩ /- LevelTable -/,
  ⟨0x4500, 1, 0x02, 0x02, 2, 0, 0, 15, 0, 2, 0, 65535⟩ /- LevelsInPlan -/,
  ⟨0x4500, 1, 0x03, 0x03, 4, 0, 0, 15, 0, 8, 0, 18446744073709551615⟩ /- LevelReleases -/]

/-- The entries of R273 at 0x7300 (08_pointing_ties_levels.md). -/
def entriesR273 : List Entry := [
  ⟨0x7300, 16, 0x01, 0x01, 3, 0, 0, 15, 0, 4, 0, 4294967295⟩ /- LandingCounter -/,
  ⟨0x7300, 16, 0x02, 0x02, 3, 0, 0, 15, 0, 4, 0, 4294967295⟩ /- Credit -/,
  ⟨0x7300, 16, 0x03, 0x03, 4, 0, 0, 15, 0, 8, 0, 18446744073709551615⟩ /- Duplicates -/,
  ⟨0x7300, 16, 0x04, 0x04, 4, 0, 0, 15, 0, 8, 0, 18446744073709551615⟩ /- Gaps -/,
  ⟨0x7300, 16, 0x05, 0x05, 4, 0, 0, 15, 0, 8, 0, 18446744073709551615⟩ /- Overruns -/]

/-- The entries of R297 at 0x4000 (09_compiler_contract.md). -/
def entriesR297 : List Entry := [
  ⟨0x4000, 1, 0x01, 0x01, 3, 2, 0, 3, 0, 4, 0, 268435456⟩ /- PlanLoad -/,
  ⟨0x4000, 1, 0x02, 0x02, 1, 0, 0, 15, 0, 1, 0, 255⟩ /- PlanState -/,
  ⟨0x4000, 1, 0x03, 0x03, 2, 0, 0, 15, 0, 2, 0, 65535⟩ /- PlanLoadResult -/,
  ⟨0x4000, 1, 0x04, 0x04, 2, 0, 0, 15, 0, 2, 0, 65535⟩ /- PlanRefusalCause -/,
  ⟨0x4000, 1, 0x05, 0x05, 4, 0, 0, 15, 0, 8, 0, 18446744073709551615⟩ /- PlanRefusalSite -/,
  ⟨0x4000, 1, 0x06, 0x06, 9, 0, 0, 15, 0, 32, 0, 32⟩ /- StagedDigest -/,
  ⟨0x4000, 1, 0x07, 0x07, 7, 2, 0, 3, 0, 1, 0, 1⟩ /- PlanDiscard -/,
  ⟨0x4000, 1, 0x08, 0x08, 3, 0, 0, 15, 0, 4, 0, 4294967295⟩ /- StagingWritesDropped -/,
  ⟨0x4000, 1, 0x09, 0x09, 9, 0, 0, 15, 0, 32, 0, 32⟩ /- RunningPlanDigest -/,
  ⟨0x4000, 1, 0x0A, 0x0A, 8, 0, 0, 15, 0, 64, 0, 64⟩ /- RunningPlanName -/,
  ⟨0x4000, 1, 0x0B, 0x0B, 2, 0, 0, 15, 0, 2, 0, 65535⟩ /- SegmentLength -/,
  ⟨0x4000, 1, 0x0C, 0x0C, 7, 0, 0, 15, 0, 1, 0, 1⟩ /- PlacementCanonical -/,
  ⟨0x4000, 1, 0x0D, 0x0D, 4, 2, 0, 1, 0, 8, 0, 18446744073709551615⟩ /- PlanHalt -/]

/-- The entries of R298 at 0x4001 (09_compiler_contract.md). -/
def entriesR298 : List Entry := [
  ⟨0x4001, 1, 0x01, 0x01, 2, 0, 0, 15, 0, 2, 0, 65535⟩ /- PaddedItems -/,
  ⟨0x4001, 1, 0x02, 0x02, 2, 0, 0, 15, 0, 2, 0, 65535⟩ /- PinnedItems -/,
  ⟨0x4001, 1, 0x03, 0x03, 2, 0, 0, 15, 0, 2, 0, 65535⟩ /- WorstOverrun -/]

/-- The entries of R299 at 0x4010 (09_compiler_contract.md). -/
def entriesR299 : List Entry := [
  ⟨0x4010, 1, 0x01, 0x01, 1, 0, 0, 15, 0, 1, 0, 255⟩ /- VariantCount -/,
  ⟨0x4010, 1, 0x02, 0x02, 1, 0, 0, 15, 0, 1, 0, 255⟩ /- ActiveVariant -/,
  ⟨0x4010, 1, 0x03, 0x03, 4, 0, 18446744073709551615, 15, 0, 8, 0, 18446744073709551615⟩ /- LastSwitchCourse -/,
  ⟨0x4010, 1, 0x04, 0x04, 9, 0, 0, 15, 0, 32, 0, 32⟩ /- SkeletonDigest -/,
  ⟨0x4010, 1, 0x05, 0x05, 3, 0, 0, 15, 0, 4, 0, 4294967295⟩ /- VariantSwitches -/]

/-- The entries of R300 at 0x4020 (09_compiler_contract.md). -/
def entriesR300 : List Entry := [
  ⟨0x4020, 1, 0x01, 0x01, 9, 0, 0, 15, 0, 32, 0, 32⟩ /- ResultClassKey -/,
  ⟨0x4020, 1, 0x02, 0x02, 4, 0, 0, 15, 0, 8, 0, 18446744073709551615⟩ /- ProvenanceDigests -/]

/-- The entries of R301 at 0x3020 (09_compiler_contract.md). -/
def entriesR301 : List Entry := [
  ⟨0x3020, 1, 0x01, 0x01, 2, 1, 4800, 15, 0, 2, 1000, 4800⟩ /- SustainedCap -/,
  ⟨0x3020, 1, 0x02, 0x02, 2, 1, 5400, 15, 0, 2, 1000, 5400⟩ /- BurstCap -/,
  ⟨0x3020, 1, 0x03, 0x03, 3, 0, 0, 15, 0, 4, 0, 4294967295⟩ /- EnergyFloor -/,
  ⟨0x3020, 1, 0x04, 0x04, 3, 0, 0, 15, 0, 4, 0, 4294967295⟩ /- PlanPeakEnergy -/,
  ⟨0x3020, 1, 0x05, 0x05, 3, 0, 0, 15, 0, 4, 0, 4294967295⟩ /- PlanMeanEnergy -/]

/-- The entries of R338 at 0x5000 (10_serving.md). -/
def entriesR338 : List Entry := [
  ⟨0x5000, 1, 0x01, 0x01, 1, 1, 0, 15, 0, 1, 0, 2⟩ /- DomainRole -/,
  ⟨0x5000, 1, 0x02, 0x02, 2, 1, 65535, 15, 0, 2, 0, 65535⟩ /- HeadDeviceId -/,
  ⟨0x5000, 1, 0x03, 0x03, 9, 1, 0, 15, 0, 1022, 0, 1022⟩ /- Members -/,
  ⟨0x5000, 1, 0x04, 0x04, 2, 1, 64, 15, 0, 2, 16, 1024⟩ /- OrderLead -/,
  ⟨0x5000, 1, 0x05, 0x05, 2, 1, 512, 15, 0, 2, 16, 4096⟩ /- StartLead -/,
  ⟨0x5000, 1, 0x06, 0x06, 2, 1, 2048, 15, 0, 2, 0, 65535⟩ /- ReuseDelay -/,
  ⟨0x5000, 1, 0x07, 0x07, 3, 1, 0, 15, 0, 4, 0, 1048576⟩ /- VocabularySize -/,
  ⟨0x5000, 1, 0x08, 0x08, 9, 1, 0, 15, 0, 16384, 0, 16384⟩ /- SlotContexts -/,
  ⟨0x5000, 1, 0x09, 0x09, 7, 1, 0, 15, 0, 1, 0, 1⟩ /- DraftAvailable -/,
  ⟨0x5000, 1, 0x0A, 0x0A, 9, 1, 0, 15, 0, 128, 128, 128⟩ /- AdapterEnable -/]

/-- The entries of R339 at 0x5001 (10_serving.md). -/
def entriesR339 : List Entry := [
  ⟨0x5001, 1, 0x01, 0x01, 1, 1, 0, 15, 0, 1, 0, 1⟩ /- GovernorMode -/,
  ⟨0x5001, 1, 0x02, 0x02, 1, 1, 0, 15, 0, 1, 0, 255⟩ /- ForcedVariant -/,
  ⟨0x5001, 1, 0x03, 0x03, 2, 1, 64, 15, 0, 2, 1, 4096⟩ /- DecodeWeight -/,
  ⟨0x5001, 1, 0x04, 0x04, 4, 0, 0, 15, 0, 8, 0, 18446744073709551615⟩ /- PrefillTokensPending -/,
  ⟨0x5001, 1, 0x05, 0x05, 2, 0, 0, 15, 0, 2, 0, 65535⟩ /- DecodeStreams -/,
  ⟨0x5001, 1, 0x06, 0x06, 4, 0, 18446744073709551615, 15, 0, 8, 0, 18446744073709551615⟩ /- LastVariantOrder -/]

/-- The entries of R340 at 0x5010 (10_serving.md). -/
def entriesR340 : List Entry := [
  ⟨0x5010, 1, 0x01, 0x01, 4, 0, 0, 15, 0, 8, 0, 18446744073709551615⟩ /- DescriptorsReceived -/,
  ⟨0x5010, 1, 0x02, 0x02, 4, 0, 0, 15, 0, 8, 0, 18446744073709551615⟩ /- DescriptorsMalformed -/,
  ⟨0x5010, 1, 0x03, 0x03, 4, 0, 0, 15, 0, 8, 0, 18446744073709551615⟩ /- DescriptorDuplicates -/,
  ⟨0x5010, 1, 0x04, 0x04, 4, 0, 0, 15, 0, 8, 0, 18446744073709551615⟩ /- DescriptorGaps -/,
  ⟨0x5010, 1, 0x05, 0x05, 2, 0, 0, 15, 0, 2, 0, 65535⟩ /- QueueDepth -/,
  ⟨0x5010, 1, 0x06, 0x06, 4, 0, 0, 15, 0, 8, 0, 18446744073709551615⟩ /- Admitted -/,
  ⟨0x5010, 1, 0x07, 0x07, 4, 0, 0, 15, 0, 8, 0, 18446744073709551615⟩ /- RefusedRange -/,
  ⟨0x5010, 1, 0x08, 0x08, 4, 0, 0, 15, 0, 8, 0, 18446744073709551615⟩ /- RefusedNoRoom -/,
  ⟨0x5010, 1, 0x09, 0x09, 4, 0, 0, 15, 0, 8, 0, 18446744073709551615⟩ /- RefusedOther -/,
  ⟨0x5010, 1, 0x0A, 0x0A, 2, 0, 0, 15, 0, 2, 0, 65535⟩ /- LastRefusalCode -/,
  ⟨0x5010, 1, 0x0B, 0x0B, 2, 0, 65535, 15, 0, 2, 0, 65535⟩ /- LastRefusalField -/,
  ⟨0x5010, 1, 0x0C, 0x0C, 4, 0, 0, 15, 0, 8, 0, 18446744073709551615⟩ /- Cancelled -/,
  ⟨0x5010, 1, 0x0D, 0x0D, 2, 0, 0, 15, 0, 2, 0, 65535⟩ /- SlotsHeld -/,
  ⟨0x5010, 1, 0x0E, 0x0E, 2, 0, 0, 15, 0, 2, 0, 65535⟩ /- SlotsFree -/,
  ⟨0x5010, 1, 0x0F, 0x0F, 4, 0, 0, 15, 0, 8, 0, 18446744073709551615⟩ /- TokensEmitted -/,
  ⟨0x5010, 1, 0x10, 0x10, 4, 0, 0, 15, 0, 8, 0, 18446744073709551615⟩ /- StreamsEnded -/,
  ⟨0x5010, 1, 0x11, 0x11, 4, 0, 0, 15, 0, 8, 0, 18446744073709551615⟩ /- Aborts -/,
  ⟨0x5010, 1, 0x12, 0x12, 4, 0, 0, 15, 0, 8, 0, 18446744073709551615⟩ /- RecordsDiscarded -/,
  ⟨0x5010, 1, 0x13, 0x13, 4, 0, 0, 15, 0, 8, 0, 18446744073709551615⟩ /- OutputOverruns -/,
  ⟨0x5010, 1, 0x14, 0x14, 4, 0, 0, 15, 0, 8, 0, 18446744073709551615⟩ /- IdleSlotPasses -/]

/-- The entries of R341 at 0x5012 (10_serving.md). -/
def entriesR341 : List Entry := [
  ⟨0x5012, 1, 0x01, 0x01, 4, 0, 0, 15, 0, 8, 0, 18446744073709551615⟩ /- BatchesSent -/,
  ⟨0x5012, 1, 0x02, 0x02, 4, 0, 0, 15, 0, 8, 0, 18446744073709551615⟩ /- BatchesApplied -/,
  ⟨0x5012, 1, 0x03, 0x03, 4, 0, 0, 15, 0, 8, 0, 18446744073709551615⟩ /- BatchSlips -/,
  ⟨0x5012, 1, 0x04, 0x04, 4, 0, 0, 15, 0, 8, 0, 18446744073709551615⟩ /- BatchDiscards -/,
  ⟨0x5012, 1, 0x05, 0x05, 3, 0, 0, 15, 0, 4, 0, 4294967295⟩ /- LastBatchSequence -/,
  ⟨0x5012, 1, 0x06, 0x06, 4, 0, 0, 15, 0, 8, 0, 18446744073709551615⟩ /- AbortReportsSent -/,
  ⟨0x5012, 1, 0x07, 0x07, 4, 0, 0, 15, 0, 8, 0, 18446744073709551615⟩ /- AbortReportsReceived -/]

/-- The entries of R342 at 0x5020 (10_serving.md). -/
def entriesR342 : List Entry := [
  ⟨0x5020, 1, 0x01, 0x01, 4, 0, 0, 15, 0, 8, 0, 18446744073709551615⟩ /- Rounds -/,
  ⟨0x5020, 1, 0x02, 0x02, 4, 0, 0, 15, 0, 8, 0, 18446744073709551615⟩ /- DraftsProposed -/,
  ⟨0x5020, 1, 0x03, 0x03, 4, 0, 0, 15, 0, 8, 0, 18446744073709551615⟩ /- DraftsAccepted -/,
  ⟨0x5020, 1, 0x04, 0x04, 4, 0, 0, 15, 0, 8, 0, 18446744073709551615⟩ /- ZeroAcceptRounds -/,
  ⟨0x5020, 1, 0x05, 0x05, 4, 0, 0, 15, 0, 8, 0, 18446744073709551615⟩ /- Suspensions -/,
  ⟨0x5020, 1, 0x06, 0x06, 6, 0, 0, 15, 0, 4, 0, 4294967295⟩ /- AcceptanceRate -/]

/-- The entries of R343 at 0x5200 (10_serving.md). -/
def entriesR343 : List Entry := [
  ⟨0x5200, 32, 0x01, 0x80, 9, 0, 0, 15, 9, 32, 0, 32⟩ /- SlotRecord -/]

/-- The entries of R369 at 0x6000 (11_weight_lifecycle.md). -/
def entriesR369 : List Entry := [
  ⟨0x6000, 1, 0x01, 0x01, 1, 2, 0, 1, 0, 1, 1, 255⟩ /- LoadGeneration -/,
  ⟨0x6000, 1, 0x02, 0x02, 3, 2, 0, 1, 0, 4, 0, 4294967295⟩ /- LoadAdapter -/,
  ⟨0x6000, 1, 0x03, 0x03, 1, 1, 0, 15, 0, 1, 0, 1⟩ /- LoadSource -/,
  ⟨0x6000, 1, 0x04, 0x04, 1, 1, 255, 15, 0, 1, 0, 255⟩ /- LoadPort -/,
  ⟨0x6000, 1, 0x05, 0x05, 3, 1, 0, 15, 0, 4, 0, 4294967295⟩ /- WeightQueuePair -/,
  ⟨0x6000, 1, 0x06, 0x06, 2, 1, 65535, 15, 0, 2, 0, 65535⟩ /- NextDeviceId -/,
  ⟨0x6000, 1, 0x07, 0x07, 9, 1, 0, 15, 0, 131072, 0, 131072⟩ /- KeepTable -/,
  ⟨0x6000, 1, 0x08, 0x08, 7, 2, 0, 15, 0, 1, 0, 1⟩ /- LoadAbort -/,
  ⟨0x6000, 1, 0x09, 0x09, 2, 0, 0, 15, 0, 2, 0, 65535⟩ /- RecordGranules -/,
  ⟨0x6000, 1, 0x0A, 0x0A, 3, 0, 0, 15, 0, 4, 0, 4294967295⟩ /- RingPositions -/]

/-- The entries of R370 at 0x6001 (11_weight_lifecycle.md). -/
def entriesR370 : List Entry := [
  ⟨0x6001, 1, 0x01, 0x01, 1, 0, 0, 15, 0, 1, 0, 255⟩ /- LoadState -/,
  ⟨0x6001, 1, 0x02, 0x02, 3, 0, 0, 15, 0, 4, 0, 4294967295⟩ /- ProcessedCount -/,
  ⟨0x6001, 1, 0x03, 0x03, 3, 0, 0, 15, 0, 4, 0, 4294967295⟩ /- RecordsTotal -/,
  ⟨0x6001, 1, 0x04, 0x04, 4, 0, 18446744073709551615, 15, 0, 8, 0, 18446744073709551615⟩ /- LoadStartCourse -/,
  ⟨0x6001, 1, 0x05, 0x05, 2, 0, 0, 15, 0, 2, 0, 65535⟩ /- LoadResult -/]

/-- The entries of R371 at 0x6010 (11_weight_lifecycle.md). -/
def entriesR371 : List Entry := [
  ⟨0x6010, 2, 0x01, 0x01, 1, 0, 0, 15, 0, 1, 0, 255⟩ /- SideGeneration -/,
  ⟨0x6010, 2, 0x02, 0x02, 1, 0, 0, 15, 0, 1, 0, 255⟩ /- SideState -/,
  ⟨0x6010, 2, 0x03, 0x03, 2, 0, 0, 15, 0, 2, 0, 65535⟩ /- BoundBatches -/,
  ⟨0x6010, 2, 0x04, 0x04, 9, 0, 0, 15, 0, 32, 0, 32⟩ /- WeightDigest -/,
  ⟨0x6010, 2, 0x05, 0x05, 3, 0, 0, 15, 0, 4, 0, 4294967295⟩ /- SideTiles -/]

/-- The entries of R372 at 0x6020 (11_weight_lifecycle.md). -/
def entriesR372 : List Entry := [
  ⟨0x6020, 1, 0x01, 0x01, 4, 2, 0, 1, 0, 8, 0, 18446744073709551615⟩ /- SwitchCourse -/,
  ⟨0x6020, 1, 0x02, 0x02, 4, 0, 18446744073709551615, 15, 0, 8, 0, 18446744073709551615⟩ /- PendingSwitch -/,
  ⟨0x6020, 1, 0x03, 0x03, 1, 0, 0, 15, 0, 1, 0, 255⟩ /- InForce -/,
  ⟨0x6020, 1, 0x04, 0x04, 3, 0, 0, 15, 0, 4, 0, 4294967295⟩ /- Switches -/,
  ⟨0x6020, 1, 0x05, 0x05, 1, 2, 0, 1, 0, 1, 1, 255⟩ /- GenerationDiscard -/,
  ⟨0x6020, 1, 0x06, 0x06, 9, 0, 0, 15, 0, 65536, 0, 65536⟩ /- BatchBindings -/]

/-- The entries of R373 at 0x6030 (11_weight_lifecycle.md). -/
def entriesR373 : List Entry := [
  ⟨0x6030, 1, 0x01, 0x01, 9, 0, 0, 15, 0, 1024, 0, 1024⟩ /- AdapterStates -/,
  ⟨0x6030, 1, 0x02, 0x02, 9, 0, 0, 15, 0, 1024, 0, 1024⟩ /- AdapterBases -/,
  ⟨0x6030, 1, 0x03, 0x03, 2, 1, 0, 15, 0, 2, 0, 1023⟩ /- AdapterSelect -/,
  ⟨0x6030, 1, 0x04, 0x04, 9, 0, 0, 15, 0, 32, 0, 32⟩ /- AdapterDigest -/,
  ⟨0x6030, 1, 0x05, 0x05, 2, 2, 0, 1, 0, 2, 0, 1023⟩ /- AdapterUnload -/]

/-- The entries of R374 at 0x6040 (11_weight_lifecycle.md). -/
def entriesR374 : List Entry := [
  ⟨0x6040, 1, 0x01, 0x01, 4, 0, 0, 15, 0, 8, 0, 18446744073709551615⟩ /- RecordDuplicates -/,
  ⟨0x6040, 1, 0x02, 0x02, 4, 0, 0, 15, 0, 8, 0, 18446744073709551615⟩ /- RecordGaps -/,
  ⟨0x6040, 1, 0x03, 0x03, 4, 0, 0, 15, 0, 8, 0, 18446744073709551615⟩ /- RecordOverruns -/,
  ⟨0x6040, 1, 0x04, 0x04, 4, 0, 0, 15, 0, 8, 0, 18446744073709551615⟩ /- RecordCheckFailures -/,
  ⟨0x6040, 1, 0x05, 0x05, 4, 0, 0, 15, 0, 8, 0, 18446744073709551615⟩ /- RecordsKept -/,
  ⟨0x6040, 1, 0x06, 0x06, 4, 0, 0, 15, 0, 8, 0, 18446744073709551615⟩ /- RecordsForwarded -/]

/-- The entries of R406 at 0x1100 (12_ports_and_host_links.md). -/
def entriesR406 : List Entry := [
  ⟨0x1100, 1, 0x01, 0x01, 1, 0, 0, 15, 0, 1, 0, 255⟩ /- ChainNode -/,
  ⟨0x1100, 1, 0x02, 0x02, 1, 0, 0, 15, 0, 1, 0, 255⟩ /- ChainState -/,
  ⟨0x1100, 1, 0x03, 0x03, 9, 4, 0, 15, 0, 6, 0, 6⟩ /- ChainMac -/,
  ⟨0x1100, 1, 0x04, 0x04, 7, 0, 0, 15, 0, 1, 0, 1⟩ /- ChainOut -/,
  ⟨0x1100, 1, 0x05, 0x05, 2, 1, 32767, 15, 0, 2, 0, 32767⟩ /- DeviceId -/,
  ⟨0x1100, 1, 0x06, 0x06, 3, 0, 0, 15, 0, 4, 0, 4294967295⟩ /- ClaimsAnswered -/,
  ⟨0x1100, 1, 0x07, 0x07, 4, 0, 0, 15, 0, 8, 0, 18446744073709551615⟩ /- ChainFramesDropped -/,
  ⟨0x1100, 1, 0x08, 0x08, 3, 0, 0, 15, 0, 4, 0, 4294967295⟩ /- PlcaBeaconsMissed -/]

/-- The entries of R407 at 0x1200 (12_ports_and_host_links.md). -/
def entriesR407 : List Entry := [
  ⟨0x1200, 1, 0x01, 0x01, 1, 0, 0, 15, 0, 1, 0, 255⟩ /- PcieLinkState -/,
  ⟨0x1200, 1, 0x02, 0x02, 1, 0, 0, 15, 0, 1, 0, 255⟩ /- PcieRate -/,
  ⟨0x1200, 1, 0x03, 0x03, 1, 0, 0, 15, 0, 1, 0, 255⟩ /- PcieWidth -/,
  ⟨0x1200, 1, 0x04, 0x04, 7, 0, 0, 15, 0, 1, 0, 1⟩ /- IdeActive -/,
  ⟨0x1200, 1, 0x05, 0x05, 3, 0, 0, 15, 0, 4, 0, 4294967295⟩ /- FunctionResets -/,
  ⟨0x1200, 1, 0x06, 0x06, 3, 0, 0, 15, 0, 4, 0, 4294967295⟩ /- Bar0WritesDiscarded -/,
  ⟨0x1200, 1, 0x07, 0x07, 4, 0, 0, 15, 0, 8, 0, 18446744073709551615⟩ /- PcieCorrected -/]

/-- The entries of R408 at 0x7000 (12_ports_and_host_links.md). -/
def entriesR408 : List Entry := [
  ⟨0x7000, 1, 0x01, 0x40, 1, 4, 0, 15, 0, 1, 0, 255⟩ /- PortRole -/,
  ⟨0x7000, 1, 0x41, 0x41, 9, 4, 0, 15, 0, 4, 0, 4⟩ /- IngressPorts -/,
  ⟨0x7000, 1, 0x42, 0x42, 9, 4, 0, 15, 0, 4, 0, 4⟩ /- BondPorts -/,
  ⟨0x7000, 1, 0x43, 0x43, 9, 4, 0, 15, 0, 64, 0, 64⟩ /- FabricPorts -/]

/-- The entries of R408 at 0x7001 (12_ports_and_host_links.md). -/
def entriesR408x7001 : List Entry := [
  ⟨0x7001, 1, 0x01, 0x01, 3, 0, 0, 15, 0, 4, 0, 4294967295⟩ /- RoleMismatches -/,
  ⟨0x7001, 1, 0x02, 0x02, 3, 0, 0, 15, 0, 4, 0, 4294967295⟩ /- TrainingTimeouts -/]

/-- The entries of R409 at 0x7400 (12_ports_and_host_links.md). -/
def entriesR409 : List Entry := [
  ⟨0x7400, 1, 0x01, 0x01, 2, 1, 0, 15, 0, 2, 0, 4095⟩ /- QpSelect -/,
  ⟨0x7400, 1, 0x02, 0x02, 9, 1, 0, 3, 0, 64, 0, 64⟩ /- QpConfig -/,
  ⟨0x7400, 1, 0x03, 0x03, 1, 0, 0, 15, 0, 1, 0, 255⟩ /- QpState -/,
  ⟨0x7400, 1, 0x04, 0x04, 7, 2, 0, 15, 0, 1, 0, 1⟩ /- QpReset -/,
  ⟨0x7400, 1, 0x05, 0x05, 3, 0, 0, 15, 0, 4, 0, 4294967295⟩ /- QpNumber -/,
  ⟨0x7400, 1, 0x06, 0x06, 3, 0, 0, 15, 0, 4, 0, 4294967295⟩ /- QpRKey -/,
  ⟨0x7400, 1, 0x07, 0x07, 2, 0, 0, 15, 0, 2, 0, 65535⟩ /- QpsReady -/,
  ⟨0x7400, 1, 0x08, 0x08, 2, 1, 1024, 15, 0, 2, 16, 65535⟩ /- RetryTimeout -/,
  ⟨0x7400, 1, 0x09, 0x09, 4, 0, 0, 15, 0, 8, 0, 18446744073709551615⟩ /- NaksSent -/,
  ⟨0x7400, 1, 0x0A, 0x0A, 1, 0, 0, 15, 0, 1, 0, 255⟩ /- LastQpError -/]

/-- The entries of R410 at 0x7410 (12_ports_and_host_links.md). -/
def entriesR410 : List Entry := [
  ⟨0x7410, 4, 0x01, 0x01, 1, 1, 2, 15, 0, 1, 1, 2⟩ /- IngressMode -/,
  ⟨0x7410, 4, 0x02, 0x02, 1, 0, 0, 15, 0, 1, 0, 255⟩ /- EthLinkState -/,
  ⟨0x7410, 4, 0x03, 0x03, 9, 4, 0, 15, 0, 6, 0, 6⟩ /- PortMac -/,
  ⟨0x7410, 4, 0x04, 0x04, 9, 1, 0, 15, 0, 16, 16, 16⟩ /- IpAddress -/,
  ⟨0x7410, 4, 0x05, 0x05, 2, 1, 65535, 15, 0, 2, 0, 65535⟩ /- VlanTag -/,
  ⟨0x7410, 4, 0x06, 0x06, 1, 1, 255, 15, 0, 1, 0, 255⟩ /- PfcPriority -/,
  ⟨0x7410, 4, 0x07, 0x07, 7, 1, 0, 15, 0, 1, 0, 1⟩ /- MacsecRequired -/,
  ⟨0x7410, 4, 0x08, 0x08, 4, 0, 0, 15, 0, 8, 0, 18446744073709551615⟩ /- FramesReceived -/,
  ⟨0x7410, 4, 0x09, 0x09, 4, 0, 0, 15, 0, 8, 0, 18446744073709551615⟩ /- FramesDropped -/,
  ⟨0x7410, 4, 0x0A, 0x0A, 4, 0, 0, 15, 0, 8, 0, 18446744073709551615⟩ /- IcrcFailures -/,
  ⟨0x7410, 4, 0x0B, 0x0B, 4, 0, 0, 15, 0, 8, 0, 18446744073709551615⟩ /- MacsecDropped -/,
  ⟨0x7410, 4, 0x0C, 0x0C, 4, 0, 0, 15, 0, 8, 0, 18446744073709551615⟩ /- CnpSent -/,
  ⟨0x7410, 4, 0x0D, 0x0D, 4, 0, 0, 15, 0, 8, 0, 18446744073709551615⟩ /- CnpReceived -/,
  ⟨0x7410, 4, 0x0E, 0x0E, 3, 0, 0, 15, 0, 4, 0, 4294967295⟩ /- RecordsBuffered -/]

/-- The entries of R411 at 0x7420 (12_ports_and_host_links.md). -/
def entriesR411 : List Entry := [
  ⟨0x7420, 4, 0x01, 0x01, 1, 1, 1, 15, 0, 1, 0, 1⟩ /- MacsecCipher -/,
  ⟨0x7420, 4, 0x02, 0x02, 9, 2, 0, 3, 6, 64, 0, 64⟩ /- TxSak -/,
  ⟨0x7420, 4, 0x03, 0x03, 9, 2, 0, 3, 6, 64, 0, 64⟩ /- RxSak -/,
  ⟨0x7420, 4, 0x04, 0x04, 1, 0, 0, 15, 0, 1, 0, 255⟩ /- TxAn -/,
  ⟨0x7420, 4, 0x05, 0x05, 4, 0, 0, 15, 0, 8, 0, 18446744073709551615⟩ /- TxPacketNumber -/]

/-- The entries of R442 at 0x1010 (13_parameter_dictionary.md). -/
def entriesR442 : List Entry := [
  ⟨0x1010, 1, 0x01, 0x01, 3, 0, 0, 15, 0, 4, 0, 4294967295⟩ /- StateWord -/,
  ⟨0x1010, 1, 0x02, 0x02, 2, 0, 1, 15, 0, 2, 0, 65535⟩ /- DictionaryVersion -/,
  ⟨0x1010, 1, 0x03, 0x03, 3, 0, 0, 15, 0, 4, 0, 4294967295⟩ /- EntriesDefined -/,
  ⟨0x1010, 1, 0x04, 0x04, 3, 0, 1, 15, 0, 4, 0, 4294967295⟩ /- FirmwareVersion -/]

/-- The entries of R443 at 0x1300 (13_parameter_dictionary.md). -/
def entriesR443 : List Entry := [
  ⟨0x1300, 1, 0x01, 0x01, 7, 1, 1, 15, 0, 1, 0, 1⟩ /- ChainNotices -/,
  ⟨0x1300, 1, 0x02, 0x02, 9, 1, 0, 15, 0, 6, 6, 6⟩ /- NoticeMac -/,
  ⟨0x1300, 1, 0x03, 0x03, 1, 1, 15, 15, 0, 1, 8, 15⟩ /- NoticeClasses -/,
  ⟨0x1300, 1, 0x04, 0x04, 1, 1, 8, 15, 0, 1, 1, 64⟩ /- NoticeBurst -/,
  ⟨0x1300, 1, 0x05, 0x05, 3, 1, 3125, 15, 0, 4, 16, 1048576⟩ /- NoticeInterval -/,
  ⟨0x1300, 1, 0x06, 0x06, 3, 0, 1, 15, 0, 4, 0, 4294967295⟩ /- NextNoticeSequence -/,
  ⟨0x1300, 1, 0x07, 0x07, 4, 0, 0, 15, 0, 8, 0, 18446744073709551615⟩ /- NoticesSuppressed -/,
  ⟨0x1300, 1, 0x08, 0x08, 4, 0, 0, 15, 0, 8, 0, 18446744073709551615⟩ /- NoticesMasked -/,
  ⟨0x1300, 1, 0x09, 0x09, 4, 0, 0, 15, 0, 8, 0, 18446744073709551615⟩ /- ChainNoticesLost -/,
  ⟨0x1300, 1, 0x0A, 0x0A, 4, 0, 0, 15, 0, 8, 0, 18446744073709551615⟩ /- RingNoticesLost -/,
  ⟨0x1300, 1, 0x0B, 0x0B, 2, 0, 0, 15, 0, 2, 0, 65535⟩ /- ChainQueued -/,
  ⟨0x1300, 1, 0x0C, 0x0C, 2, 0, 0, 15, 0, 2, 0, 65535⟩ /- RingQueued -/]

/-- The entries of R444 at 0xA000 (13_parameter_dictionary.md). -/
def entriesR444 : List Entry := [
  ⟨0xA000, 1, 0x01, 0x01, 4, 0, 0, 15, 0, 8, 0, 18446744073709551615⟩ /- ChainRequests -/,
  ⟨0xA000, 1, 0x02, 0x02, 4, 0, 0, 15, 0, 8, 0, 18446744073709551615⟩ /- GatewayRequests -/,
  ⟨0xA000, 1, 0x03, 0x03, 4, 0, 0, 15, 0, 8, 0, 18446744073709551615⟩ /- AbsentAccesses -/,
  ⟨0xA000, 1, 0x04, 0x04, 3, 0, 0, 15, 0, 4, 0, 4294967295⟩ /- LastAbsent -/,
  ⟨0xA000, 1, 0x05, 0x05, 4, 0, 0, 15, 0, 8, 0, 18446744073709551615⟩ /- StateRefusals -/,
  ⟨0xA000, 1, 0x06, 0x06, 4, 0, 0, 15, 0, 8, 0, 18446744073709551615⟩ /- AccessDenials -/,
  ⟨0xA000, 1, 0x07, 0x07, 4, 0, 0, 15, 0, 8, 0, 18446744073709551615⟩ /- RangeErrors -/,
  ⟨0xA000, 1, 0x08, 0x08, 4, 0, 0, 15, 0, 8, 0, 18446744073709551615⟩ /- TypeMismatches -/,
  ⟨0xA000, 1, 0x09, 0x09, 4, 0, 0, 15, 0, 8, 0, 18446744073709551615⟩ /- RepliesReplayed -/,
  ⟨0xA000, 1, 0x0A, 0x0A, 3, 0, 0, 15, 0, 4, 0, 4294967295⟩ /- GatewayWritesDiscarded -/,
  ⟨0xA000, 1, 0x0B, 0x0B, 3, 0, 0, 15, 0, 4, 0, 4294967295⟩ /- SegmentsDiscarded -/,
  ⟨0xA000, 1, 0x0C, 0x0C, 4, 0, 0, 15, 0, 8, 0, 18446744073709551615⟩ /- W1cCollisions -/]

/-- The entries of R460 at 0x3000 (14_power_states.md). -/
def entriesR460 : List Entry := [
  ⟨0x3000, 1, 0x01, 0x01, 1, 0, 0, 15, 0, 1, 0, 255⟩ /- PowerState -/,
  ⟨0x3000, 1, 0x02, 0x02, 1, 2, 0, 15, 0, 1, 0, 131⟩ /- PowerRequest -/,
  ⟨0x3000, 1, 0x03, 0x03, 1, 0, 255, 15, 0, 1, 0, 255⟩ /- PendingTransition -/,
  ⟨0x3000, 1, 0x04, 0x04, 1, 0, 5, 15, 0, 1, 0, 255⟩ /- LastTransitionCause -/,
  ⟨0x3000, 1, 0x05, 0x05, 4, 0, 18446744073709551615, 15, 0, 8, 0, 18446744073709551615⟩ /- LastTransitionCourse -/,
  ⟨0x3000, 1, 0x06, 0x06, 7, 2, 0, 15, 0, 1, 0, 1⟩ /- WakeNow -/,
  ⟨0x3000, 1, 0x07, 0x07, 4, 0, 0, 15, 0, 8, 0, 18446744073709551615⟩ /- HoldCourses -/,
  ⟨0x3000, 1, 0x08, 0x08, 3, 0, 0, 15, 0, 4, 0, 4294967295⟩ /- DozeEntries -/,
  ⟨0x3000, 1, 0x09, 0x09, 3, 0, 0, 15, 0, 4, 0, 4294967295⟩ /- SleepEntries -/]

/-- The entries of R461 at 0x3010 (14_power_states.md). -/
def entriesR461 : List Entry := [
  ⟨0x3010, 1, 0x01, 0x01, 6, 0, 0, 15, 0, 4, 0, 4294967295⟩ /- HottestTemperature -/,
  ⟨0x3010, 1, 0x02, 0x02, 1, 1, 95, 15, 0, 1, 60, 115⟩ /- ThermalWarn -/,
  ⟨0x3010, 1, 0x03, 0x03, 1, 1, 100, 15, 0, 1, 60, 115⟩ /- ThermalRest -/,
  ⟨0x3010, 1, 0x04, 0x04, 1, 1, 105, 15, 0, 1, 60, 115⟩ /- ThermalCritical -/,
  ⟨0x3010, 1, 0x05, 0x05, 1, 1, 110, 15, 0, 1, 60, 117⟩ /- ThermalTrip -/,
  ⟨0x3010, 1, 0x06, 0x06, 1, 4, 118, 15, 0, 1, 0, 255⟩ /- ThermalShutdown -/,
  ⟨0x3010, 1, 0x07, 0x07, 1, 1, 4, 15, 0, 1, 2, 16⟩ /- RestSpacing -/,
  ⟨0x3010, 1, 0x08, 0x08, 1, 0, 0, 15, 0, 1, 0, 255⟩ /- ThermalLevel -/,
  ⟨0x3010, 1, 0x09, 0x09, 6, 0, 0, 15, 0, 4, 0, 4294967295⟩ /- MeasuredPower -/,
  ⟨0x3010, 1, 0x0A, 0x0A, 4, 0, 0, 15, 0, 8, 0, 18446744073709551615⟩ /- PowerRests -/,
  ⟨0x3010, 1, 0x0B, 0x0B, 4, 0, 0, 15, 0, 8, 0, 18446744073709551615⟩ /- ThermalRests -/]

/-- The entries of R462 at 0x3030 (14_power_states.md). -/
def entriesR462 : List Entry := [
  ⟨0x3030, 1, 0x01, 0x01, 4, 1, 18446744073709551615, 15, 0, 8, 0, 18446744073709551615⟩ /- WakeCourse -/,
  ⟨0x3030, 1, 0x02, 0x02, 3, 1, 65536, 15, 0, 4, 55855, 16777216⟩ /- WakeLead -/,
  ⟨0x3030, 1, 0x03, 0x03, 1, 1, 2, 15, 0, 1, 0, 2⟩ /- WakeTarget -/,
  ⟨0x3030, 1, 0x04, 0x04, 1, 1, 15, 15, 0, 1, 0, 15⟩ /- WakeSources -/,
  ⟨0x3030, 1, 0x05, 0x05, 1, 1, 85, 15, 0, 1, 40, 110⟩ /- SleepTempLimit -/,
  ⟨0x3030, 1, 0x06, 0x06, 1, 0, 0, 15, 0, 1, 0, 255⟩ /- LastWakeSource -/,
  ⟨0x3030, 1, 0x07, 0x07, 5, 0, 0, 15, 0, 4, 0, 4294967295⟩ /- LastKeeperError -/,
  ⟨0x3030, 1, 0x08, 0x08, 4, 0, 0, 15, 0, 8, 0, 18446744073709551615⟩ /- SleepCourses -/,
  ⟨0x3030, 1, 0x09, 0x09, 3, 0, 0, 15, 0, 4, 0, 4294967295⟩ /- SupplyLosses -/,
  ⟨0x3030, 1, 0x0A, 0x0A, 3, 0, 0, 15, 0, 4, 0, 4294967295⟩ /- SleepTempEvents -/]

/-- The entries of R496 at 0x8000 (15_security_and_debug.md). -/
def entriesR496 : List Entry := [
  ⟨0x8000, 1, 0x01, 0x01, 1, 0, 0, 15, 0, 1, 0, 255⟩ /- SecurityVersionFused -/,
  ⟨0x8000, 1, 0x02, 0x02, 1, 0, 0, 15, 0, 1, 0, 255⟩ /- SecurityVersionRunning -/,
  ⟨0x8000, 1, 0x03, 0x03, 7, 2, 0, 3, 0, 1, 0, 1⟩ /- SecurityVersionCommit -/,
  ⟨0x8000, 1, 0x04, 0x04, 1, 0, 0, 15, 0, 1, 0, 255⟩ /- AnchorRevoked -/,
  ⟨0x8000, 1, 0x05, 0x05, 9, 0, 0, 15, 0, 64, 0, 64⟩ /- DevIdKeyDigests -/,
  ⟨0x8000, 1, 0x06, 0x06, 9, 0, 0, 15, 0, 64, 0, 64⟩ /- AliasKeyDigests -/,
  ⟨0x8000, 1, 0x07, 0x07, 9, 0, 0, 15, 0, 4096, 0, 4096⟩ /- CertChainE -/,
  ⟨0x8000, 1, 0x08, 0x08, 9, 0, 0, 15, 0, 32768, 0, 32768⟩ /- CertChainM -/,
  ⟨0x8000, 1, 0x09, 0x09, 1, 0, 0, 15, 0, 1, 0, 255⟩ /- ImageVerifyCause -/,
  ⟨0x8000, 1, 0x0A, 0x0A, 3, 0, 0, 15, 0, 4, 0, 4294967295⟩ /- ImagesRefused -/]

/-- The entries of R497 at 0x8010 (15_security_and_debug.md). -/
def entriesR497 : List Entry := [
  ⟨0x8010, 1, 0x01, 0x01, 9, 2, 0, 15, 0, 32, 32, 32⟩ /- AttestNonce -/,
  ⟨0x8010, 1, 0x02, 0x02, 9, 0, 0, 15, 0, 3760, 0, 3760⟩ /- AttestReport -/,
  ⟨0x8010, 1, 0x03, 0x03, 1, 0, 0, 15, 0, 1, 0, 255⟩ /- AttestState -/,
  ⟨0x8010, 1, 0x04, 0x04, 4, 0, 0, 15, 0, 8, 0, 18446744073709551615⟩ /- AttestReports -/,
  ⟨0x8010, 1, 0x05, 0x05, 7, 0, 0, 15, 0, 1, 0, 1⟩ /- OwnerEnrolled -/,
  ⟨0x8010, 1, 0x06, 0x06, 9, 0, 0, 15, 0, 32, 0, 32⟩ /- OwnerDigest -/,
  ⟨0x8010, 1, 0x07, 0x07, 9, 2, 0, 3, 6, 64, 64, 64⟩ /- OwnerEnroll -/,
  ⟨0x8010, 1, 0x08, 0x08, 9, 2, 0, 3, 6, 65536, 0, 65536⟩ /- OwnerChange -/]

/-- The entries of R498 at 0x8020 (15_security_and_debug.md). -/
def entriesR498 : List Entry := [
  ⟨0x8020, 1, 0x01, 0x01, 1, 0, 1, 15, 0, 1, 0, 255⟩ /- Lifecycle -/,
  ⟨0x8020, 1, 0x02, 0x02, 9, 2, 0, 3, 6, 65536, 0, 65536⟩ /- LifecycleToken -/,
  ⟨0x8020, 1, 0x03, 0x03, 1, 0, 0, 15, 0, 1, 0, 255⟩ /- OpenedEntries -/,
  ⟨0x8020, 1, 0x04, 0x04, 1, 0, 0, 15, 0, 1, 0, 255⟩ /- DebugLevel -/,
  ⟨0x8020, 1, 0x05, 0x05, 1, 2, 0, 15, 0, 1, 0, 3⟩ /- DebugRequest -/,
  ⟨0x8020, 1, 0x06, 0x06, 9, 2, 0, 15, 6, 65536, 0, 65536⟩ /- DebugToken -/,
  ⟨0x8020, 1, 0x07, 0x07, 9, 0, 0, 15, 0, 32, 0, 32⟩ /- DebugNonce -/,
  ⟨0x8020, 1, 0x08, 0x08, 3, 0, 0, 15, 0, 4, 0, 4294967295⟩ /- DebugLevelChanges -/,
  ⟨0x8020, 1, 0x09, 0x09, 4, 0, 0, 15, 0, 8, 0, 18446744073709551615⟩ /- DebugRefusals -/]

/-- The entries of R499 at 0x8100 (15_security_and_debug.md). -/
def entriesR499 : List Entry := [
  ⟨0x8100, 1, 0x01, 0x01, 4, 1, 0, 15, 8, 8, 0, 18446744073709551615⟩ /- DebugAddress -/,
  ⟨0x8100, 1, 0x02, 0x02, 2, 1, 4, 15, 8, 2, 4, 4032⟩ /- DebugLength -/,
  ⟨0x8100, 1, 0x03, 0x03, 9, 0, 0, 15, 8, 4032, 0, 4032⟩ /- DebugRead -/,
  ⟨0x8100, 1, 0x04, 0x04, 9, 2, 0, 2, 8, 4032, 0, 4032⟩ /- DebugWrite -/,
  ⟨0x8100, 1, 0x05, 0x05, 2, 1, 0, 15, 8, 2, 0, 1023⟩ /- TraceCore -/,
  ⟨0x8100, 1, 0x06, 0x06, 4, 1, 18446744073709551615, 15, 8, 8, 0, 18446744073709551615⟩ /- TraceStart -/,
  ⟨0x8100, 1, 0x07, 0x07, 2, 1, 1, 15, 8, 2, 1, 16⟩ /- TraceCourses -/,
  ⟨0x8100, 1, 0x08, 0x08, 1, 0, 0, 15, 8, 1, 0, 255⟩ /- TraceState -/,
  ⟨0x8100, 1, 0x09, 0x09, 9, 0, 0, 15, 8, 65536, 0, 65536⟩ /- TraceBuffer -/,
  ⟨0x8100, 1, 0x0A, 0x0A, 9, 0, 0, 15, 8, 144, 0, 144⟩ /- ProgramState -/]

/-- The entries of R524 at 0x9000 (16_bond_pairs_and_service.md). -/
def entriesR524 : List Entry := [
  ⟨0x9000, 1, 0x01, 0x01, 1, 1, 0, 3, 0, 1, 0, 3⟩ /- BondMode -/,
  ⟨0x9000, 1, 0x02, 0x02, 1, 1, 0, 3, 0, 1, 0, 1⟩ /- BondSide -/,
  ⟨0x9000, 1, 0x03, 0x03, 2, 1, 65535, 3, 0, 2, 0, 65535⟩ /- BondPartner -/,
  ⟨0x9000, 1, 0x04, 0x04, 2, 1, 64, 15, 0, 2, 16, 1024⟩ /- MirrorWindow -/,
  ⟨0x9000, 1, 0x05, 0x05, 1, 1, 75, 15, 0, 1, 10, 100⟩ /- ResyncShare -/,
  ⟨0x9000, 1, 0x06, 0x06, 7, 2, 0, 3, 0, 1, 0, 1⟩ /- BondYield -/,
  ⟨0x9000, 1, 0x07, 0x07, 1, 4, 4, 15, 0, 1, 0, 255⟩ /- HeartbeatLimit -/]

/-- The entries of R525 at 0x9001 (16_bond_pairs_and_service.md). -/
def entriesR525 : List Entry := [
  ⟨0x9001, 1, 0x01, 0x01, 1, 0, 0, 15, 0, 1, 0, 255⟩ /- BondState -/,
  ⟨0x9001, 1, 0x02, 0x02, 4, 0, 18446744073709551615, 15, 0, 8, 0, 18446744073709551615⟩ /- MirrorMark -/,
  ⟨0x9001, 1, 0x03, 0x03, 4, 0, 18446744073709551615, 15, 0, 8, 0, 18446744073709551615⟩ /- AppliedMark -/,
  ⟨0x9001, 1, 0x04, 0x04, 2, 0, 0, 15, 0, 2, 0, 65535⟩ /- MirroredSlots -/,
  ⟨0x9001, 1, 0x05, 0x05, 4, 0, 0, 15, 0, 8, 0, 18446744073709551615⟩ /- MirrorRecordsSent -/,
  ⟨0x9001, 1, 0x06, 0x06, 4, 0, 0, 15, 0, 8, 0, 18446744073709551615⟩ /- MirrorRecordsApplied -/,
  ⟨0x9001, 1, 0x07, 0x07, 4, 0, 0, 15, 0, 8, 0, 18446744073709551615⟩ /- MirrorRejects -/,
  ⟨0x9001, 1, 0x08, 0x08, 4, 0, 0, 15, 0, 8, 0, 18446744073709551615⟩ /- HeartbeatsMissed -/,
  ⟨0x9001, 1, 0x09, 0x09, 3, 0, 0, 15, 0, 4, 0, 4294967295⟩ /- Takeovers -/,
  ⟨0x9001, 1, 0x0A, 0x0A, 4, 0, 18446744073709551615, 15, 0, 8, 0, 18446744073709551615⟩ /- LastTakeover -/,
  ⟨0x9001, 1, 0x0B, 0x0B, 4, 0, 18446744073709551615, 15, 0, 8, 0, 18446744073709551615⟩ /- LastResumeMark -/,
  ⟨0x9001, 1, 0x0C, 0x0C, 3, 0, 0, 15, 0, 4, 0, 4294967295⟩ /- ResyncTilesLeft -/,
  ⟨0x9001, 1, 0x0D, 0x0D, 4, 0, 0, 15, 0, 8, 0, 18446744073709551615⟩ /- RepairsServed -/,
  ⟨0x9001, 1, 0x0E, 0x0E, 3, 0, 0, 15, 0, 4, 0, 4294967295⟩ /- MirrorBufferUse -/]

/-- The entries of R526 at 0x9010 (16_bond_pairs_and_service.md). -/
def entriesR526 : List Entry := [
  ⟨0x9010, 1, 0x01, 0x01, 2, 0, 0, 15, 0, 2, 0, 65535⟩ /- ActiveMaintenance -/,
  ⟨0x9010, 1, 0x02, 0x02, 1, 0, 0, 15, 0, 1, 0, 255⟩ /- HeldRequests -/,
  ⟨0x9010, 1, 0x03, 0x03, 4, 0, 0, 15, 0, 8, 0, 18446744073709551615⟩ /- GovernedTotal -/,
  ⟨0x9010, 1, 0x04, 0x04, 3, 0, 0, 15, 0, 4, 0, 4294967295⟩ /- DroppedTotal -/,
  ⟨0x9010, 1, 0x05, 0x05, 2, 0, 0, 15, 0, 2, 0, 65535⟩ /- LastGoverned -/]

/-- The entries of R527 at 0x9020 (16_bond_pairs_and_service.md). -/
def entriesR527 : List Entry := [
  ⟨0x9020, 1, 0x01, 0x01, 4, 2, 0, 3, 0, 8, 0, 18446744073709551615⟩ /- FirmwareActivate -/,
  ⟨0x9020, 1, 0x02, 0x02, 1, 0, 0, 15, 0, 1, 0, 255⟩ /- ActivationState -/,
  ⟨0x9020, 1, 0x03, 0x03, 3, 2, 0, 3, 0, 4, 0, 4294967295⟩ /- PatchLoad -/,
  ⟨0x9020, 1, 0x04, 0x04, 1, 0, 0, 15, 0, 1, 0, 255⟩ /- PatchState -/,
  ⟨0x9020, 1, 0x05, 0x05, 4, 2, 0, 1, 0, 8, 0, 18446744073709551615⟩ /- PatchActivate -/,
  ⟨0x9020, 1, 0x06, 0x06, 2, 2, 0, 3, 0, 2, 0, 65535⟩ /- RetireCluster -/,
  ⟨0x9020, 1, 0x07, 0x07, 2, 0, 65535, 15, 0, 2, 0, 65535⟩ /- RetirePending -/]

/-- The entries of R549 at 0xA600 (17_start_and_faults.md). -/
def entriesR549 : List Entry := [
  ⟨0xA600, 1, 0x01, 0x01, 1, 0, 0, 15, 0, 1, 0, 255⟩ /- StartState -/,
  ⟨0xA600, 1, 0x02, 0x02, 1, 0, 0, 15, 0, 1, 0, 255⟩ /- FailedStarts -/,
  ⟨0xA600, 1, 0x03, 0x03, 1, 0, 0, 15, 0, 1, 0, 255⟩ /- LimewashReason -/,
  ⟨0xA600, 1, 0x04, 0x04, 9, 0, 0, 15, 0, 128, 0, 128⟩ /- StartHistory -/,
  ⟨0xA600, 1, 0x05, 0x05, 7, 2, 0, 15, 0, 1, 0, 1⟩ /- StartRetry -/,
  ⟨0xA600, 1, 0x06, 0x06, 3, 0, 0, 15, 0, 4, 0, 4294967295⟩ /- LastStartCourses -/,
  ⟨0xA600, 1, 0x07, 0x07, 3, 0, 0, 15, 0, 4, 0, 4294967295⟩ /- StartsTotal -/,
  ⟨0xA600, 1, 0x08, 0x08, 3, 0, 0, 15, 0, 4, 0, 4294967295⟩ /- FatalResets -/]

/-- The entries of R550 at 0xA601 (17_start_and_faults.md). -/
def entriesR550 : List Entry := [
  ⟨0xA601, 1, 0x01, 0x01, 1, 1, 0, 15, 0, 1, 0, 1⟩ /- PreferredSlot -/,
  ⟨0xA601, 1, 0x02, 0x02, 1, 0, 0, 15, 0, 1, 0, 255⟩ /- RunningSlot -/,
  ⟨0xA601, 1, 0x03, 0x03, 1, 1, 0, 15, 0, 1, 0, 1⟩ /- SlotSelect -/,
  ⟨0xA601, 1, 0x04, 0x04, 9, 2, 0, 15, 0, 16777216, 0, 16777216⟩ /- SlotImage -/,
  ⟨0xA601, 1, 0x05, 0x05, 3, 2, 0, 15, 0, 4, 0, 4294967295⟩ /- SlotStage -/,
  ⟨0xA601, 1, 0x06, 0x06, 9, 0, 0, 15, 0, 2, 0, 2⟩ /- SlotStates -/,
  ⟨0xA601, 1, 0x07, 0x07, 9, 0, 0, 15, 0, 8, 0, 8⟩ /- SlotVersions -/]

/-- The entries of R551 at 0xA602 (17_start_and_faults.md). -/
def entriesR551 : List Entry := [
  ⟨0xA602, 1, 0x01, 0x01, 4, 0, 0, 15, 0, 8, 0, 18446744073709551615⟩ /- SecondFailures -/,
  ⟨0xA602, 1, 0x02, 0x02, 4, 0, 0, 15, 0, 8, 0, 18446744073709551615⟩ /- RepairsFromBond -/,
  ⟨0xA602, 1, 0x03, 0x03, 4, 0, 0, 15, 0, 8, 0, 18446744073709551615⟩ /- RepairsFromSupplier -/,
  ⟨0xA602, 1, 0x04, 0x04, 4, 0, 0, 15, 0, 8, 0, 18446744073709551615⟩ /- RepairsRefused -/,
  ⟨0xA602, 1, 0x05, 0x05, 4, 0, 0, 15, 0, 8, 0, 18446744073709551615⟩ /- RepairsServed -/,
  ⟨0xA602, 1, 0x06, 0x06, 2, 1, 24, 15, 0, 2, 4, 256⟩ /- RepairTimeout -/,
  ⟨0xA602, 1, 0x07, 0x07, 3, 0, 0, 15, 0, 4, 0, 4294967295⟩ /- DamagedMarks -/,
  ⟨0xA602, 1, 0x08, 0x08, 4, 0, 0, 15, 0, 8, 0, 18446744073709551615⟩ /- DataFaultAborts -/,
  ⟨0xA602, 1, 0x09, 0x09, 9, 0, 0, 15, 0, 8, 0, 8⟩ /- Suppliers -/,
  ⟨0xA602, 1, 0x0A, 0x0A, 9, 0, 0, 15, 0, 32, 0, 32⟩ /- WithheldGenerations -/,
  ⟨0xA602, 1, 0x0B, 0x0B, 1, 2, 0, 15, 0, 1, 1, 255⟩ /- ClearWithheld -/]

/-- The entries of R552 at 0xA603 (17_start_and_faults.md). -/
def entriesR552 : List Entry := [
  ⟨0xA603, 1, 0x01, 0x01, 3, 0, 0, 15, 0, 4, 0, 4294967295⟩ /- HardFaults -/,
  ⟨0xA603, 1, 0x02, 0x02, 3, 0, 0, 15, 0, 4, 0, 4294967295⟩ /- LastHardFault -/,
  ⟨0xA603, 1, 0x03, 0x03, 4, 0, 18446744073709551615, 15, 0, 8, 0, 18446744073709551615⟩ /- LastHardFaultCourse -/,
  ⟨0xA603, 1, 0x04, 0x04, 3, 0, 0, 15, 0, 4, 0, 4294967295⟩ /- PlanStops -/,
  ⟨0xA603, 1, 0x05, 0x05, 4, 0, 0, 15, 0, 8, 0, 18446744073709551615⟩ /- StuckAddress -/,
  ⟨0xA603, 1, 0x06, 0x06, 1, 2, 0, 15, 0, 1, 1, 3⟩ /- DiagnosticRun -/,
  ⟨0xA603, 1, 0x07, 0x07, 9, 0, 0, 15, 0, 4096, 0, 4096⟩ /- DiagnosticResult -/]

/-- The entries of R566 at 0x3040 (18_package_and_electrical.md). -/
def entriesR566 : List Entry := [
  ⟨0x3040, 1, 0x01, 0x01, 6, 0, 0, 15, 0, 4, 0, 4294967295⟩ /- InputVoltage -/,
  ⟨0x3040, 1, 0x02, 0x02, 6, 0, 0, 15, 0, 4, 0, 4294967295⟩ /- InputCurrent -/,
  ⟨0x3040, 1, 0x03, 0x03, 6, 0, 0, 15, 0, 4, 0, 4294967295⟩ /- InletTemperature -/,
  ⟨0x3040, 1, 0x04, 0x04, 6, 0, 0, 15, 0, 4, 0, 4294967295⟩ /- OutletTemperature -/,
  ⟨0x3040, 1, 0x05, 0x05, 6, 0, 0, 15, 0, 4, 0, 4294967295⟩ /- CoolantFlow -/,
  ⟨0x3040, 1, 0x06, 0x06, 6, 1, 1090519040, 15, 0, 4, 1082130432, 1101004800⟩ /- CoolantFlowLimit -/,
  ⟨0x3040, 1, 0x07, 0x07, 3, 0, 0, 15, 0, 4, 0, 4294967295⟩ /- OverVoltageEvents -/,
  ⟨0x3040, 1, 0x08, 0x08, 7, 0, 0, 15, 0, 1, 0, 1⟩ /- ThermAlertAsserted -/]

/-- Every entry of the dictionary, in the order of the chapters. -/
def dictionary : List Entry :=
  entriesR3 ++
  entriesR35 ++
  entriesR36 ++
  entriesR37 ++
  entriesR38 ++
  entriesR39 ++
  entriesR62 ++
  entriesR63 ++
  entriesR64 ++
  entriesR107 ++
  entriesR107xA180 ++
  entriesR107xA181 ++
  entriesR107xA200 ++
  entriesR107xA280 ++
  entriesR130 ++
  entriesR131 ++
  entriesR174 ++
  entriesR175 ++
  entriesR176 ++
  entriesR177 ++
  entriesR209 ++
  entriesR210 ++
  entriesR211 ++
  entriesR212 ++
  entriesR213 ++
  entriesR214 ++
  entriesR246 ++
  entriesR247 ++
  entriesR248 ++
  entriesR270 ++
  entriesR271 ++
  entriesR272 ++
  entriesR273 ++
  entriesR297 ++
  entriesR298 ++
  entriesR299 ++
  entriesR300 ++
  entriesR301 ++
  entriesR338 ++
  entriesR339 ++
  entriesR340 ++
  entriesR341 ++
  entriesR342 ++
  entriesR343 ++
  entriesR369 ++
  entriesR370 ++
  entriesR371 ++
  entriesR372 ++
  entriesR373 ++
  entriesR374 ++
  entriesR406 ++
  entriesR407 ++
  entriesR408 ++
  entriesR408x7001 ++
  entriesR409 ++
  entriesR410 ++
  entriesR411 ++
  entriesR442 ++
  entriesR443 ++
  entriesR444 ++
  entriesR460 ++
  entriesR461 ++
  entriesR462 ++
  entriesR496 ++
  entriesR497 ++
  entriesR498 ++
  entriesR499 ++
  entriesR524 ++
  entriesR525 ++
  entriesR526 ++
  entriesR527 ++
  entriesR549 ++
  entriesR550 ++
  entriesR551 ++
  entriesR552 ++
  entriesR566

namespace Reg

/-- Grade (R3). -/
def grade : RegId := ⟨entryKey 0x1000 0x02, 8, 1⟩
/-- Stepping (R3). -/
def stepping : RegId := ⟨entryKey 0x1000 0x03, 8, 176⟩
/-- NumericClass (R3). -/
def numericClass : RegId := ⟨entryKey 0x1000 0x04, 8, 2⟩
/-- CourseSource (R35). -/
def courseSource : RegId := ⟨entryKey 0x2000 0x01, 8, 0⟩
/-- CourseNow (R35). -/
def courseNow : RegId := ⟨entryKey 0x2000 0x02, 64, 18446744073709551615⟩
/-- LockState (R35). -/
def lockState : RegId := ⟨entryKey 0x2000 0x04, 8, 0⟩
/-- ParentPort (R35). -/
def parentPort : RegId := ⟨entryKey 0x2000 0x05, 8, 255⟩
/-- Depth (R35). -/
def depth : RegId := ⟨entryKey 0x2000 0x06, 8, 255⟩
/-- RootId (R35). -/
def rootId : RegId := ⟨entryKey 0x2000 0x07, 16, 65535⟩
/-- PhaseError (R35). -/
def phaseError : RegId := ⟨entryKey 0x2000 0x08, 32, 0⟩
/-- RefDelay (R35). -/
def refDelay : RegId := ⟨entryKey 0x2000 0x09, 32, 0⟩
/-- HoldoverCourses (R35). -/
def holdoverCourses : RegId := ⟨entryKey 0x2000 0x0A, 64, 0⟩
/-- CourseMarkConflict (R35). -/
def courseMarkConflict : RegId := ⟨entryKey 0x2000 0x0B, 32, 0⟩
/-- EpochMismatch (R35). -/
def epochMismatch : RegId := ⟨entryKey 0x2000 0x0C, 32, 0⟩
/-- PortDelay (R36). -/
def portDelay (k : Nat) : RegId := ⟨entryKey 0x2001 (0x01 + k), 32, 4294967295⟩
/-- PlanCourse (R37). -/
def planCourse : RegId := ⟨entryKey 0x2010 0x01, 64, 0⟩
/-- SlipCount (R37). -/
def slipCount : RegId := ⟨entryKey 0x2010 0x02, 64, 0⟩
/-- SlipsTotal (R37). -/
def slipsTotal : RegId := ⟨entryKey 0x2010 0x03, 64, 0⟩
/-- RestsTotal (R37). -/
def restsTotal : RegId := ⟨entryKey 0x2010 0x04, 64, 0⟩
/-- GroutsSkipped (R37). -/
def groutsSkipped : RegId := ⟨entryKey 0x2010 0x05, 64, 0⟩
/-- GroutsIdled (R37). -/
def groutsIdled : RegId := ⟨entryKey 0x2010 0x06, 64, 0⟩
/-- LagSlips (R37). -/
def lagSlips : RegId := ⟨entryKey 0x2010 0x07, 64, 0⟩
/-- LastSlipCause (R37). -/
def lastSlipCause : RegId := ⟨entryKey 0x2010 0x08, 8, 0⟩
/-- LastSlipCourse (R37). -/
def lastSlipCourse : RegId := ⟨entryKey 0x2010 0x09, 64, 0⟩
/-- SnapshotCourse (R37). -/
def snapshotCourse : RegId := ⟨entryKey 0x2010 0x0A, 64, 18446744073709551615⟩
/-- OnTime (R37). -/
def onTime : RegId := ⟨entryKey 0x2010 0x0B, 8, 0⟩
/-- MaxLag (R37). -/
def maxLag : RegId := ⟨entryKey 0x2010 0x0C, 64, 0⟩
/-- StallLimit (R37). -/
def stallLimit : RegId := ⟨entryKey 0x2010 0x0D, 16, 64⟩
/-- LaunchLateLimit (R37). -/
def launchLateLimit : RegId := ⟨entryKey 0x2010 0x0E, 16, 8⟩
/-- LeadCourses (R37). -/
def leadCourses : RegId := ⟨entryKey 0x2010 0x0F, 64, 0⟩
/-- LaunchCourse (R38). -/
def launchCourse : RegId := ⟨entryKey 0x2020 0x01, 64, 0⟩
/-- LaunchState (R38). -/
def launchState : RegId := ⟨entryKey 0x2020 0x02, 8, 0⟩
/-- LaunchRefusal (R38). -/
def launchRefusal : RegId := ⟨entryKey 0x2020 0x03, 8, 0⟩
/-- LaunchRefusalPort (R38). -/
def launchRefusalPort : RegId := ⟨entryKey 0x2020 0x04, 8, 255⟩
/-- RetryFlits (R39). -/
def retryFlits : RegId := ⟨entryKey 0x2030 0x01, 64, 0⟩
/-- TileRereads (R39). -/
def tileRereads : RegId := ⟨entryKey 0x2030 0x02, 64, 0⟩
/-- RereadOverruns (R39). -/
def rereadOverruns : RegId := ⟨entryKey 0x2030 0x03, 64, 0⟩
/-- ScrubDeferred (R39). -/
def scrubDeferred : RegId := ⟨entryKey 0x2030 0x04, 64, 0⟩
/-- HousekeepingDeferred (R39). -/
def housekeepingDeferred : RegId := ⟨entryKey 0x2030 0x05, 64, 0⟩
/-- SensorDeferred (R39). -/
def sensorDeferred : RegId := ⟨entryKey 0x2030 0x06, 64, 0⟩
/-- MaintenanceDeferred (R39). -/
def maintenanceDeferred : RegId := ⟨entryKey 0x2030 0x07, 64, 0⟩
/-- EnabledBricks (R62). -/
def enabledBricks : RegId := ⟨entryKey 0x1020 0x03, 8, 0⟩
/-- EnabledClusters (R62). -/
def enabledClusters : RegId := ⟨entryKey 0x1020 0x04, 16, 0⟩
/-- StretcherClusters (R62). -/
def stretcherClusters : RegId := ⟨entryKey 0x1020 0x05, 16, 0⟩
/-- HeaderClusters (R62). -/
def headerClusters : RegId := ⟨entryKey 0x1020 0x06, 16, 0⟩
/-- ScheduledCores (R62). -/
def scheduledCores : RegId := ⟨entryKey 0x1020 0x07, 16, 0⟩
/-- MapSerial (R62). -/
def mapSerial : RegId := ⟨entryKey 0x1020 0x08, 32, 0⟩
/-- EdgesInService (R62). -/
def edgesInService : RegId := ⟨entryKey 0x1020 0x09, 8, 0⟩
/-- SpareState (R63). -/
def spareState (k : Nat) : RegId := ⟨entryKey 0x9040 (0x01 + k), 8, 0⟩
/-- CorrectedThreshold (R64). -/
def correctedThreshold : RegId := ⟨entryKey 0x9041 0x02, 32, 64⟩
/-- Substitutions (R64). -/
def substitutions : RegId := ⟨entryKey 0x9041 0x03, 32, 0⟩
/-- SubstitutionsAbandoned (R64). -/
def substitutionsAbandoned : RegId := ⟨entryKey 0x9041 0x04, 32, 0⟩
/-- EngineFlags (R107). -/
def engineFlags (i : Nat) (k : Nat) : RegId := ⟨entryKey (0xA100 + i) (0x01 + k), 8, 0⟩
/-- ClusterFlags (R107). -/
def clusterFlags (k : Nat) : RegId := ⟨entryKey 0xA180 (0x01 + k), 8, 0⟩
/-- ModuleFlags (R107). -/
def moduleFlags : RegId := ⟨entryKey 0xA181 0x01, 8, 0⟩
/-- OfEvents (R107). -/
def ofEvents (i : Nat) : RegId := ⟨entryKey (0xA200 + i) 0x01, 64, 0⟩
/-- UfEvents (R107). -/
def ufEvents (i : Nat) : RegId := ⟨entryKey (0xA200 + i) 0x02, 64, 0⟩
/-- IxEvents (R107). -/
def ixEvents (i : Nat) : RegId := ⟨entryKey (0xA200 + i) 0x03, 64, 0⟩
/-- IvEvents (R107). -/
def ivEvents (i : Nat) : RegId := ⟨entryKey (0xA200 + i) 0x04, 64, 0⟩
/-- FlEvents (R107). -/
def flEvents (i : Nat) : RegId := ⟨entryKey (0xA200 + i) 0x05, 64, 0⟩
/-- ClearCollisions (R107). -/
def clearCollisions : RegId := ⟨entryKey 0xA280 0x01, 64, 0⟩
/-- FormatFaults (R107). -/
def formatFaults : RegId := ⟨entryKey 0xA280 0x02, 64, 0⟩
/-- LastFormatFault (R107). -/
def lastFormatFault : RegId := ⟨entryKey 0xA280 0x03, 8, 0⟩
/-- TrnInvalidBytes (R107). -/
def trnInvalidBytes : RegId := ⟨entryKey 0xA280 0x04, 64, 0⟩
/-- Fronts (R130). -/
def fronts (i : Nat) : RegId := ⟨entryKey (0xA300 + i) 0x01, 64, 0⟩
/-- TileCrcFailures (R130). -/
def tileCrcFailures (i : Nat) : RegId := ⟨entryKey (0xA300 + i) 0x02, 64, 0⟩
/-- TintMismatches (R130). -/
def tintMismatches (i : Nat) : RegId := ⟨entryKey (0xA300 + i) 0x03, 64, 0⟩
/-- GenerationMismatches (R130). -/
def generationMismatches (i : Nat) : RegId := ⟨entryKey (0xA300 + i) 0x04, 64, 0⟩
/-- Replays (R130). -/
def replays (i : Nat) : RegId := ⟨entryKey (0xA300 + i) 0x05, 64, 0⟩
/-- VectorsEntered (R130). -/
def vectorsEntered (i : Nat) : RegId := ⟨entryKey (0xA300 + i) 0x06, 64, 0⟩
/-- BusyCycles (R130). -/
def busyCycles (i : Nat) : RegId := ⟨entryKey (0xA300 + i) 0x07, 64, 0⟩
/-- LastArrayFault (R131). -/
def lastArrayFault : RegId := ⟨entryKey 0xA380 0x01, 8, 0⟩
/-- LastArrayFaultCourse (R131). -/
def lastArrayFaultCourse : RegId := ⟨entryKey 0xA380 0x02, 64, 18446744073709551615⟩
/-- LastArrayFaultUnit (R131). -/
def lastArrayFaultUnit : RegId := ⟨entryKey 0xA380 0x03, 32, 0⟩
/-- PatternBookVersion (R174). -/
def patternBookVersion : RegId := ⟨entryKey 0x4100 0x01, 32, 1⟩
/-- PatternBookRoutines (R174). -/
def patternBookRoutines : RegId := ⟨entryKey 0x4100 0x02, 16, 0⟩
/-- PatchedRoutines (R174). -/
def patchedRoutines : RegId := ⟨entryKey 0x4100 0x03, 16, 0⟩
/-- ActiveBank (R175). -/
def activeBank : RegId := ⟨entryKey 0x4101 0x01, 8, 0⟩
/-- ShadowState (R175). -/
def shadowState : RegId := ⟨entryKey 0x4101 0x02, 8, 0⟩
/-- LastSwapCourse (R175). -/
def lastSwapCourse : RegId := ⟨entryKey 0x4101 0x04, 64, 18446744073709551615⟩
/-- BankSwaps (R175). -/
def bankSwaps : RegId := ⟨entryKey 0x4101 0x05, 32, 0⟩
/-- LoadBank (R175). -/
def loadBank : RegId := ⟨entryKey 0x4101 0x06, 8, 1⟩
/-- RefusedActiveWrites (R175). -/
def refusedActiveWrites : RegId := ⟨entryKey 0x4101 0x07, 32, 0⟩
/-- TrowelState (R176). -/
def trowelState (i : Nat) : RegId := ⟨entryKey (0x4200 + i) 0x01, 8, 0⟩
/-- TrowelImage (R176). -/
def trowelImage (i : Nat) : RegId := ⟨entryKey (0x4200 + i) 0x02, 32, 1⟩
/-- TrowelBank (R176). -/
def trowelBank (i : Nat) : RegId := ⟨entryKey (0x4200 + i) 0x03, 8, 0⟩
/-- TrowelResets (R176). -/
def trowelResets (i : Nat) : RegId := ⟨entryKey (0x4200 + i) 0x04, 32, 0⟩
/-- HandoffSwaps (R176). -/
def handoffSwaps (i : Nat) : RegId := ⟨entryKey (0x4200 + i) 0x05, 64, 0⟩
/-- InstructionsIssued (R177). -/
def instructionsIssued (i : Nat) : RegId := ⟨entryKey (0xA400 + i) 0x01, 64, 0⟩
/-- PlumbHeldCycles (R177). -/
def plumbHeldCycles (i : Nat) : RegId := ⟨entryKey (0xA400 + i) 0x02, 64, 0⟩
/-- Calls (R177). -/
def calls (i : Nat) : RegId := ⟨entryKey (0xA400 + i) 0x03, 64, 0⟩
/-- HodFaults (R177). -/
def hodFaults (i : Nat) : RegId := ⟨entryKey (0xA400 + i) 0x04, 64, 0⟩
/-- KvWritesRefused (R177). -/
def kvWritesRefused (i : Nat) : RegId := ⟨entryKey (0xA400 + i) 0x05, 64, 0⟩
/-- IdleSlotWrites (R177). -/
def idleSlotWrites (i : Nat) : RegId := ⟨entryKey (0xA400 + i) 0x06, 64, 0⟩
/-- PeerHopCycles (R209). -/
def peerHopCycles : RegId := ⟨entryKey 0x4300 0x04, 8, 18⟩
/-- LocalBytes (R210). -/
def localBytes : RegId := ⟨entryKey 0x4301 0x01, 64, 0⟩
/-- ClusterBytes (R210). -/
def clusterBytes : RegId := ⟨entryKey 0x4301 0x02, 64, 0⟩
/-- StackWindowBytes (R210). -/
def stackWindowBytes : RegId := ⟨entryKey 0x4301 0x03, 64, 0⟩
/-- StackRawBytes (R210). -/
def stackRawBytes : RegId := ⟨entryKey 0x4301 0x04, 64, 0⟩
/-- RemoteWindows (R210). -/
def remoteWindows : RegId := ⟨entryKey 0x4301 0x05, 8, 0⟩
/-- ClearingShare (R210). -/
def clearingShare : RegId := ⟨entryKey 0x4301 0x06, 16, 0⟩
/-- OwnedSlots (R211). -/
def ownedSlots : RegId := ⟨entryKey 0x5300 0x01, 16, 0⟩
/-- SlotsClearing (R211). -/
def slotsClearing : RegId := ⟨entryKey 0x5300 0x02, 16, 0⟩
/-- ClearsDone (R211). -/
def clearsDone : RegId := ⟨entryKey 0x5300 0x03, 64, 0⟩
/-- StampsDone (R211). -/
def stampsDone : RegId := ⟨entryKey 0x5300 0x04, 64, 0⟩
/-- LastClearCourses (R211). -/
def lastClearCourses : RegId := ⟨entryKey 0x5300 0x05, 32, 0⟩
/-- ClearingReads (R211). -/
def clearingReads : RegId := ⟨entryKey 0x5300 0x06, 64, 0⟩
/-- LocalCorrected (R212). -/
def localCorrected (i : Nat) : RegId := ⟨entryKey (0xA500 + i) 0x01, 64, 0⟩
/-- LocalUncorrectable (R212). -/
def localUncorrectable (i : Nat) : RegId := ⟨entryKey (0xA500 + i) 0x02, 64, 0⟩
/-- ClusterCorrected (R212). -/
def clusterCorrected (i : Nat) : RegId := ⟨entryKey (0xA500 + i) 0x03, 64, 0⟩
/-- ClusterUncorrectable (R212). -/
def clusterUncorrectable (i : Nat) : RegId := ⟨entryKey (0xA500 + i) 0x04, 64, 0⟩
/-- AccumulateGranules (R212). -/
def accumulateGranules (i : Nat) : RegId := ⟨entryKey (0xA500 + i) 0x05, 64, 0⟩
/-- ClusterScrubPasses (R212). -/
def clusterScrubPasses (i : Nat) : RegId := ⟨entryKey (0xA500 + i) 0x06, 64, 0⟩
/-- StackCorrected (R213). -/
def stackCorrected (i : Nat) : RegId := ⟨entryKey (0xA580 + i) 0x01, 64, 0⟩
/-- StackUncorrectable (R213). -/
def stackUncorrectable (i : Nat) : RegId := ⟨entryKey (0xA580 + i) 0x02, 64, 0⟩
/-- StackScrubPasses (R213). -/
def stackScrubPasses (i : Nat) : RegId := ⟨entryKey (0xA580 + i) 0x03, 64, 0⟩
/-- TileCopyFailures (R213). -/
def tileCopyFailures (i : Nat) : RegId := ⟨entryKey (0xA580 + i) 0x04, 64, 0⟩
/-- RemoteGranulesLanded (R213). -/
def remoteGranulesLanded (i : Nat) : RegId := ⟨entryKey (0xA580 + i) 0x05, 64, 0⟩
/-- LastUncorrectableAddress (R214). -/
def lastUncorrectableAddress : RegId := ⟨entryKey 0xA590 0x01, 64, 0⟩
/-- LastUncorrectableCourse (R214). -/
def lastUncorrectableCourse : RegId := ⟨entryKey 0xA590 0x02, 64, 18446744073709551615⟩
/-- ScrubLateLimit (R214). -/
def scrubLateLimit : RegId := ⟨entryKey 0xA590 0x03, 8, 4⟩
/-- LinkState (R246). -/
def linkState (i : Nat) : RegId := ⟨entryKey (0x7100 + i) 0x01, 8, 0⟩
/-- PartnerDeviceId (R246). -/
def partnerDeviceId (i : Nat) : RegId := ⟨entryKey (0x7100 + i) 0x03, 16, 65535⟩
/-- PartnerPort (R246). -/
def partnerPort (i : Nat) : RegId := ⟨entryKey (0x7100 + i) 0x04, 8, 255⟩
/-- DelayLimit (R246). -/
def delayLimit (i : Nat) : RegId := ⟨entryKey (0x7100 + i) 0x05, 32, 4294967295⟩
/-- FlitsSent (R246). -/
def flitsSent (i : Nat) : RegId := ⟨entryKey (0x7100 + i) 0x06, 64, 0⟩
/-- FlitsLanded (R246). -/
def flitsLanded (i : Nat) : RegId := ⟨entryKey (0x7100 + i) 0x07, 64, 0⟩
/-- FecCorrected (R246). -/
def fecCorrected (i : Nat) : RegId := ⟨entryKey (0x7100 + i) 0x08, 64, 0⟩
/-- FecUncorrectable (R246). -/
def fecUncorrectable (i : Nat) : RegId := ⟨entryKey (0x7100 + i) 0x09, 64, 0⟩
/-- FlitFailures (R246). -/
def flitFailures (i : Nat) : RegId := ⟨entryKey (0x7100 + i) 0x0A, 64, 0⟩
/-- RetriesSent (R246). -/
def retriesSent (i : Nat) : RegId := ⟨entryKey (0x7100 + i) 0x0B, 64, 0⟩
/-- RetryBacklog (R246). -/
def retryBacklog (i : Nat) : RegId := ⟨entryKey (0x7100 + i) 0x0C, 16, 0⟩
/-- ReportTimeouts (R246). -/
def reportTimeouts (i : Nat) : RegId := ⟨entryKey (0x7100 + i) 0x0D, 32, 0⟩
/-- LateGranules (R246). -/
def lateGranules (i : Nat) : RegId := ⟨entryKey (0x7100 + i) 0x0E, 64, 0⟩
/-- PreFecBer (R246). -/
def preFecBer (i : Nat) : RegId := ⟨entryKey (0x7100 + i) 0x0F, 32, 0⟩
/-- Retrains (R246). -/
def retrains (i : Nat) : RegId := ⟨entryKey (0x7100 + i) 0x11, 32, 0⟩
/-- EdgeState (R247). -/
def edgeState (i : Nat) : RegId := ⟨entryKey (0x7200 + i) 0x01, 8, 1⟩
/-- BlocksSent (R247). -/
def blocksSent (i : Nat) : RegId := ⟨entryKey (0x7200 + i) 0x02, 64, 0⟩
/-- BlockFailures (R247). -/
def blockFailures (i : Nat) : RegId := ⟨entryKey (0x7200 + i) 0x03, 64, 0⟩
/-- EdgeRetrains (R247). -/
def edgeRetrains (i : Nat) : RegId := ⟨entryKey (0x7200 + i) 0x04, 32, 0⟩
/-- FlitSlotsPerLane (R248). -/
def flitSlotsPerLane : RegId := ⟨entryKey 0x7280 0x01, 8, 28⟩
/-- RxLatency (R248). -/
def rxLatency : RegId := ⟨entryKey 0x7280 0x02, 16, 64⟩
/-- RetryBufferCourses (R248). -/
def retryBufferCourses : RegId := ⟨entryKey 0x7280 0x03, 8, 12⟩
/-- CrossbarCycles (R248). -/
def crossbarCycles : RegId := ⟨entryKey 0x7280 0x04, 8, 12⟩
/-- RoutesInPlan (R248). -/
def routesInPlan : RegId := ⟨entryKey 0x7280 0x05, 16, 0⟩
/-- TreeNodes (R248). -/
def treeNodes : RegId := ⟨entryKey 0x7280 0x06, 32, 0⟩
/-- RouterAdditions (R248). -/
def routerAdditions : RegId := ⟨entryKey 0x7280 0x07, 64, 0⟩
/-- FabricAccumulations (R248). -/
def fabricAccumulations : RegId := ⟨entryKey 0x7280 0x08, 64, 0⟩
/-- RelayFlits (R248). -/
def relayFlits : RegId := ⟨entryKey 0x7280 0x09, 64, 0⟩
/-- LandingHeldFlits (R248). -/
def landingHeldFlits : RegId := ⟨entryKey 0x7280 0x0A, 64, 0⟩
/-- LaneErrorLimit (R248). -/
def laneErrorLimit : RegId := ⟨entryKey 0x7280 0x0B, 32, 1024⟩
/-- LaneDowns (R248). -/
def laneDowns : RegId := ⟨entryKey 0x7280 0x0C, 32, 0⟩
/-- TieTableEntries (R271). -/
def tieTableEntries : RegId := ⟨entryKey 0x4480 0x01, 16, 0⟩
/-- SignalsSent (R271). -/
def signalsSent : RegId := ⟨entryKey 0x4480 0x02, 64, 0⟩
/-- SignalsApplied (R271). -/
def signalsApplied : RegId := ⟨entryKey 0x4480 0x03, 64, 0⟩
/-- SignalsHeld (R271). -/
def signalsHeld : RegId := ⟨entryKey 0x4480 0x04, 64, 0⟩
/-- SignalsLate (R271). -/
def signalsLate : RegId := ⟨entryKey 0x4480 0x05, 64, 0⟩
/-- PointingResends (R271). -/
def pointingResends : RegId := ⟨entryKey 0x4480 0x06, 64, 0⟩
/-- PointingDiscards (R271). -/
def pointingDiscards : RegId := ⟨entryKey 0x4480 0x07, 64, 0⟩
/-- StrayMessages (R271). -/
def strayMessages : RegId := ⟨entryKey 0x4480 0x08, 64, 0⟩
/-- LevelsInPlan (R272). -/
def levelsInPlan : RegId := ⟨entryKey 0x4500 0x02, 16, 0⟩
/-- LevelReleases (R272). -/
def levelReleases : RegId := ⟨entryKey 0x4500 0x03, 64, 0⟩
/-- LandingCounter (R273). -/
def landingCounter (i : Nat) : RegId := ⟨entryKey (0x7300 + i) 0x01, 32, 0⟩
/-- Credit (R273). -/
def credit (i : Nat) : RegId := ⟨entryKey (0x7300 + i) 0x02, 32, 0⟩
/-- Duplicates (R273). -/
def duplicates (i : Nat) : RegId := ⟨entryKey (0x7300 + i) 0x03, 64, 0⟩
/-- Gaps (R273). -/
def gaps (i : Nat) : RegId := ⟨entryKey (0x7300 + i) 0x04, 64, 0⟩
/-- Overruns (R273). -/
def overruns (i : Nat) : RegId := ⟨entryKey (0x7300 + i) 0x05, 64, 0⟩
/-- PlanState (R297). -/
def planState : RegId := ⟨entryKey 0x4000 0x02, 8, 0⟩
/-- PlanLoadResult (R297). -/
def planLoadResult : RegId := ⟨entryKey 0x4000 0x03, 16, 0⟩
/-- PlanRefusalCause (R297). -/
def planRefusalCause : RegId := ⟨entryKey 0x4000 0x04, 16, 0⟩
/-- PlanRefusalSite (R297). -/
def planRefusalSite : RegId := ⟨entryKey 0x4000 0x05, 64, 0⟩
/-- StagingWritesDropped (R297). -/
def stagingWritesDropped : RegId := ⟨entryKey 0x4000 0x08, 32, 0⟩
/-- SegmentLength (R297). -/
def segmentLength : RegId := ⟨entryKey 0x4000 0x0B, 16, 0⟩
/-- PlacementCanonical (R297). -/
def placementCanonical : RegId := ⟨entryKey 0x4000 0x0C, 8, 0⟩
/-- PaddedItems (R298). -/
def paddedItems : RegId := ⟨entryKey 0x4001 0x01, 16, 0⟩
/-- PinnedItems (R298). -/
def pinnedItems : RegId := ⟨entryKey 0x4001 0x02, 16, 0⟩
/-- WorstOverrun (R298). -/
def worstOverrun : RegId := ⟨entryKey 0x4001 0x03, 16, 0⟩
/-- VariantCount (R299). -/
def variantCount : RegId := ⟨entryKey 0x4010 0x01, 8, 0⟩
/-- ActiveVariant (R299). -/
def activeVariant : RegId := ⟨entryKey 0x4010 0x02, 8, 0⟩
/-- LastSwitchCourse (R299). -/
def lastSwitchCourse : RegId := ⟨entryKey 0x4010 0x03, 64, 18446744073709551615⟩
/-- VariantSwitches (R299). -/
def variantSwitches : RegId := ⟨entryKey 0x4010 0x05, 32, 0⟩
/-- ProvenanceDigests (R300). -/
def provenanceDigests : RegId := ⟨entryKey 0x4020 0x02, 64, 0⟩
/-- SustainedCap (R301). -/
def sustainedCap : RegId := ⟨entryKey 0x3020 0x01, 16, 4800⟩
/-- BurstCap (R301). -/
def burstCap : RegId := ⟨entryKey 0x3020 0x02, 16, 5400⟩
/-- EnergyFloor (R301). -/
def energyFloor : RegId := ⟨entryKey 0x3020 0x03, 32, 0⟩
/-- PlanPeakEnergy (R301). -/
def planPeakEnergy : RegId := ⟨entryKey 0x3020 0x04, 32, 0⟩
/-- PlanMeanEnergy (R301). -/
def planMeanEnergy : RegId := ⟨entryKey 0x3020 0x05, 32, 0⟩
/-- DomainRole (R338). -/
def domainRole : RegId := ⟨entryKey 0x5000 0x01, 8, 0⟩
/-- HeadDeviceId (R338). -/
def headDeviceId : RegId := ⟨entryKey 0x5000 0x02, 16, 65535⟩
/-- OrderLead (R338). -/
def orderLead : RegId := ⟨entryKey 0x5000 0x04, 16, 64⟩
/-- StartLead (R338). -/
def startLead : RegId := ⟨entryKey 0x5000 0x05, 16, 512⟩
/-- ReuseDelay (R338). -/
def reuseDelay : RegId := ⟨entryKey 0x5000 0x06, 16, 2048⟩
/-- VocabularySize (R338). -/
def vocabularySize : RegId := ⟨entryKey 0x5000 0x07, 32, 0⟩
/-- DraftAvailable (R338). -/
def draftAvailable : RegId := ⟨entryKey 0x5000 0x09, 8, 0⟩
/-- GovernorMode (R339). -/
def governorMode : RegId := ⟨entryKey 0x5001 0x01, 8, 0⟩
/-- ForcedVariant (R339). -/
def forcedVariant : RegId := ⟨entryKey 0x5001 0x02, 8, 0⟩
/-- DecodeWeight (R339). -/
def decodeWeight : RegId := ⟨entryKey 0x5001 0x03, 16, 64⟩
/-- PrefillTokensPending (R339). -/
def prefillTokensPending : RegId := ⟨entryKey 0x5001 0x04, 64, 0⟩
/-- DecodeStreams (R339). -/
def decodeStreams : RegId := ⟨entryKey 0x5001 0x05, 16, 0⟩
/-- LastVariantOrder (R339). -/
def lastVariantOrder : RegId := ⟨entryKey 0x5001 0x06, 64, 18446744073709551615⟩
/-- DescriptorsReceived (R340). -/
def descriptorsReceived : RegId := ⟨entryKey 0x5010 0x01, 64, 0⟩
/-- DescriptorsMalformed (R340). -/
def descriptorsMalformed : RegId := ⟨entryKey 0x5010 0x02, 64, 0⟩
/-- DescriptorDuplicates (R340). -/
def descriptorDuplicates : RegId := ⟨entryKey 0x5010 0x03, 64, 0⟩
/-- DescriptorGaps (R340). -/
def descriptorGaps : RegId := ⟨entryKey 0x5010 0x04, 64, 0⟩
/-- QueueDepth (R340). -/
def queueDepth : RegId := ⟨entryKey 0x5010 0x05, 16, 0⟩
/-- Admitted (R340). -/
def admitted : RegId := ⟨entryKey 0x5010 0x06, 64, 0⟩
/-- RefusedRange (R340). -/
def refusedRange : RegId := ⟨entryKey 0x5010 0x07, 64, 0⟩
/-- RefusedNoRoom (R340). -/
def refusedNoRoom : RegId := ⟨entryKey 0x5010 0x08, 64, 0⟩
/-- RefusedOther (R340). -/
def refusedOther : RegId := ⟨entryKey 0x5010 0x09, 64, 0⟩
/-- LastRefusalCode (R340). -/
def lastRefusalCode : RegId := ⟨entryKey 0x5010 0x0A, 16, 0⟩
/-- LastRefusalField (R340). -/
def lastRefusalField : RegId := ⟨entryKey 0x5010 0x0B, 16, 65535⟩
/-- Cancelled (R340). -/
def cancelled : RegId := ⟨entryKey 0x5010 0x0C, 64, 0⟩
/-- SlotsHeld (R340). -/
def slotsHeld : RegId := ⟨entryKey 0x5010 0x0D, 16, 0⟩
/-- SlotsFree (R340). -/
def slotsFree : RegId := ⟨entryKey 0x5010 0x0E, 16, 0⟩
/-- TokensEmitted (R340). -/
def tokensEmitted : RegId := ⟨entryKey 0x5010 0x0F, 64, 0⟩
/-- StreamsEnded (R340). -/
def streamsEnded : RegId := ⟨entryKey 0x5010 0x10, 64, 0⟩
/-- Aborts (R340). -/
def aborts : RegId := ⟨entryKey 0x5010 0x11, 64, 0⟩
/-- RecordsDiscarded (R340). -/
def recordsDiscarded : RegId := ⟨entryKey 0x5010 0x12, 64, 0⟩
/-- OutputOverruns (R340). -/
def outputOverruns : RegId := ⟨entryKey 0x5010 0x13, 64, 0⟩
/-- IdleSlotPasses (R340). -/
def idleSlotPasses : RegId := ⟨entryKey 0x5010 0x14, 64, 0⟩
/-- BatchesSent (R341). -/
def batchesSent : RegId := ⟨entryKey 0x5012 0x01, 64, 0⟩
/-- BatchesApplied (R341). -/
def batchesApplied : RegId := ⟨entryKey 0x5012 0x02, 64, 0⟩
/-- BatchSlips (R341). -/
def batchSlips : RegId := ⟨entryKey 0x5012 0x03, 64, 0⟩
/-- BatchDiscards (R341). -/
def batchDiscards : RegId := ⟨entryKey 0x5012 0x04, 64, 0⟩
/-- LastBatchSequence (R341). -/
def lastBatchSequence : RegId := ⟨entryKey 0x5012 0x05, 32, 0⟩
/-- AbortReportsSent (R341). -/
def abortReportsSent : RegId := ⟨entryKey 0x5012 0x06, 64, 0⟩
/-- AbortReportsReceived (R341). -/
def abortReportsReceived : RegId := ⟨entryKey 0x5012 0x07, 64, 0⟩
/-- Rounds (R342). -/
def rounds : RegId := ⟨entryKey 0x5020 0x01, 64, 0⟩
/-- DraftsProposed (R342). -/
def draftsProposed : RegId := ⟨entryKey 0x5020 0x02, 64, 0⟩
/-- DraftsAccepted (R342). -/
def draftsAccepted : RegId := ⟨entryKey 0x5020 0x03, 64, 0⟩
/-- ZeroAcceptRounds (R342). -/
def zeroAcceptRounds : RegId := ⟨entryKey 0x5020 0x04, 64, 0⟩
/-- Suspensions (R342). -/
def suspensions : RegId := ⟨entryKey 0x5020 0x05, 64, 0⟩
/-- AcceptanceRate (R342). -/
def acceptanceRate : RegId := ⟨entryKey 0x5020 0x06, 32, 0⟩
/-- LoadSource (R369). -/
def loadSource : RegId := ⟨entryKey 0x6000 0x03, 8, 0⟩
/-- LoadPort (R369). -/
def loadPort : RegId := ⟨entryKey 0x6000 0x04, 8, 255⟩
/-- WeightQueuePair (R369). -/
def weightQueuePair : RegId := ⟨entryKey 0x6000 0x05, 32, 0⟩
/-- NextDeviceId (R369). -/
def nextDeviceId : RegId := ⟨entryKey 0x6000 0x06, 16, 65535⟩
/-- RecordGranules (R369). -/
def recordGranules : RegId := ⟨entryKey 0x6000 0x09, 16, 0⟩
/-- RingPositions (R369). -/
def ringPositions : RegId := ⟨entryKey 0x6000 0x0A, 32, 0⟩
/-- LoadState (R370). -/
def loadState : RegId := ⟨entryKey 0x6001 0x01, 8, 0⟩
/-- ProcessedCount (R370). -/
def processedCount : RegId := ⟨entryKey 0x6001 0x02, 32, 0⟩
/-- RecordsTotal (R370). -/
def recordsTotal : RegId := ⟨entryKey 0x6001 0x03, 32, 0⟩
/-- LoadStartCourse (R370). -/
def loadStartCourse : RegId := ⟨entryKey 0x6001 0x04, 64, 18446744073709551615⟩
/-- LoadResult (R370). -/
def loadResult : RegId := ⟨entryKey 0x6001 0x05, 16, 0⟩
/-- SideGeneration (R371). -/
def sideGeneration (i : Nat) : RegId := ⟨entryKey (0x6010 + i) 0x01, 8, 0⟩
/-- SideState (R371). -/
def sideState (i : Nat) : RegId := ⟨entryKey (0x6010 + i) 0x02, 8, 0⟩
/-- BoundBatches (R371). -/
def boundBatches (i : Nat) : RegId := ⟨entryKey (0x6010 + i) 0x03, 16, 0⟩
/-- SideTiles (R371). -/
def sideTiles (i : Nat) : RegId := ⟨entryKey (0x6010 + i) 0x05, 32, 0⟩
/-- PendingSwitch (R372). -/
def pendingSwitch : RegId := ⟨entryKey 0x6020 0x02, 64, 18446744073709551615⟩
/-- InForce (R372). -/
def inForce : RegId := ⟨entryKey 0x6020 0x03, 8, 0⟩
/-- Switches (R372). -/
def switches : RegId := ⟨entryKey 0x6020 0x04, 32, 0⟩
/-- AdapterSelect (R373). -/
def adapterSelect : RegId := ⟨entryKey 0x6030 0x03, 16, 0⟩
/-- RecordDuplicates (R374). -/
def recordDuplicates : RegId := ⟨entryKey 0x6040 0x01, 64, 0⟩
/-- RecordGaps (R374). -/
def recordGaps : RegId := ⟨entryKey 0x6040 0x02, 64, 0⟩
/-- RecordOverruns (R374). -/
def recordOverruns : RegId := ⟨entryKey 0x6040 0x03, 64, 0⟩
/-- RecordCheckFailures (R374). -/
def recordCheckFailures : RegId := ⟨entryKey 0x6040 0x04, 64, 0⟩
/-- RecordsKept (R374). -/
def recordsKept : RegId := ⟨entryKey 0x6040 0x05, 64, 0⟩
/-- RecordsForwarded (R374). -/
def recordsForwarded : RegId := ⟨entryKey 0x6040 0x06, 64, 0⟩
/-- ChainNode (R406). -/
def chainNode : RegId := ⟨entryKey 0x1100 0x01, 8, 0⟩
/-- ChainState (R406). -/
def chainState : RegId := ⟨entryKey 0x1100 0x02, 8, 0⟩
/-- ChainOut (R406). -/
def chainOut : RegId := ⟨entryKey 0x1100 0x04, 8, 0⟩
/-- DeviceId (R406). -/
def deviceId : RegId := ⟨entryKey 0x1100 0x05, 16, 32767⟩
/-- ClaimsAnswered (R406). -/
def claimsAnswered : RegId := ⟨entryKey 0x1100 0x06, 32, 0⟩
/-- ChainFramesDropped (R406). -/
def chainFramesDropped : RegId := ⟨entryKey 0x1100 0x07, 64, 0⟩
/-- PlcaBeaconsMissed (R406). -/
def plcaBeaconsMissed : RegId := ⟨entryKey 0x1100 0x08, 32, 0⟩
/-- PcieLinkState (R407). -/
def pcieLinkState : RegId := ⟨entryKey 0x1200 0x01, 8, 0⟩
/-- PcieRate (R407). -/
def pcieRate : RegId := ⟨entryKey 0x1200 0x02, 8, 0⟩
/-- PcieWidth (R407). -/
def pcieWidth : RegId := ⟨entryKey 0x1200 0x03, 8, 0⟩
/-- IdeActive (R407). -/
def ideActive : RegId := ⟨entryKey 0x1200 0x04, 8, 0⟩
/-- FunctionResets (R407). -/
def functionResets : RegId := ⟨entryKey 0x1200 0x05, 32, 0⟩
/-- Bar0WritesDiscarded (R407). -/
def bar0WritesDiscarded : RegId := ⟨entryKey 0x1200 0x06, 32, 0⟩
/-- PcieCorrected (R407). -/
def pcieCorrected : RegId := ⟨entryKey 0x1200 0x07, 64, 0⟩
/-- PortRole (R408). -/
def portRole (k : Nat) : RegId := ⟨entryKey 0x7000 (0x01 + k), 8, 0⟩
/-- RoleMismatches (R408). -/
def roleMismatches : RegId := ⟨entryKey 0x7001 0x01, 32, 0⟩
/-- TrainingTimeouts (R408). -/
def trainingTimeouts : RegId := ⟨entryKey 0x7001 0x02, 32, 0⟩
/-- QpSelect (R409). -/
def qpSelect : RegId := ⟨entryKey 0x7400 0x01, 16, 0⟩
/-- QpState (R409). -/
def qpState : RegId := ⟨entryKey 0x7400 0x03, 8, 0⟩
/-- QpNumber (R409). -/
def qpNumber : RegId := ⟨entryKey 0x7400 0x05, 32, 0⟩
/-- QpRKey (R409). -/
def qpRKey : RegId := ⟨entryKey 0x7400 0x06, 32, 0⟩
/-- QpsReady (R409). -/
def qpsReady : RegId := ⟨entryKey 0x7400 0x07, 16, 0⟩
/-- RetryTimeout (R409). -/
def retryTimeout : RegId := ⟨entryKey 0x7400 0x08, 16, 1024⟩
/-- NaksSent (R409). -/
def naksSent : RegId := ⟨entryKey 0x7400 0x09, 64, 0⟩
/-- LastQpError (R409). -/
def lastQpError : RegId := ⟨entryKey 0x7400 0x0A, 8, 0⟩
/-- IngressMode (R410). -/
def ingressMode (i : Nat) : RegId := ⟨entryKey (0x7410 + i) 0x01, 8, 2⟩
/-- EthLinkState (R410). -/
def ethLinkState (i : Nat) : RegId := ⟨entryKey (0x7410 + i) 0x02, 8, 0⟩
/-- VlanTag (R410). -/
def vlanTag (i : Nat) : RegId := ⟨entryKey (0x7410 + i) 0x05, 16, 65535⟩
/-- PfcPriority (R410). -/
def pfcPriority (i : Nat) : RegId := ⟨entryKey (0x7410 + i) 0x06, 8, 255⟩
/-- MacsecRequired (R410). -/
def macsecRequired (i : Nat) : RegId := ⟨entryKey (0x7410 + i) 0x07, 8, 0⟩
/-- FramesReceived (R410). -/
def framesReceived (i : Nat) : RegId := ⟨entryKey (0x7410 + i) 0x08, 64, 0⟩
/-- FramesDropped (R410). -/
def framesDropped (i : Nat) : RegId := ⟨entryKey (0x7410 + i) 0x09, 64, 0⟩
/-- IcrcFailures (R410). -/
def icrcFailures (i : Nat) : RegId := ⟨entryKey (0x7410 + i) 0x0A, 64, 0⟩
/-- MacsecDropped (R410). -/
def macsecDropped (i : Nat) : RegId := ⟨entryKey (0x7410 + i) 0x0B, 64, 0⟩
/-- CnpSent (R410). -/
def cnpSent (i : Nat) : RegId := ⟨entryKey (0x7410 + i) 0x0C, 64, 0⟩
/-- CnpReceived (R410). -/
def cnpReceived (i : Nat) : RegId := ⟨entryKey (0x7410 + i) 0x0D, 64, 0⟩
/-- RecordsBuffered (R410). -/
def recordsBuffered (i : Nat) : RegId := ⟨entryKey (0x7410 + i) 0x0E, 32, 0⟩
/-- MacsecCipher (R411). -/
def macsecCipher (i : Nat) : RegId := ⟨entryKey (0x7420 + i) 0x01, 8, 1⟩
/-- TxAn (R411). -/
def txAn (i : Nat) : RegId := ⟨entryKey (0x7420 + i) 0x04, 8, 0⟩
/-- TxPacketNumber (R411). -/
def txPacketNumber (i : Nat) : RegId := ⟨entryKey (0x7420 + i) 0x05, 64, 0⟩
/-- StateWord (R442). -/
def stateWord : RegId := ⟨entryKey 0x1010 0x01, 32, 0⟩
/-- DictionaryVersion (R442). -/
def dictionaryVersion : RegId := ⟨entryKey 0x1010 0x02, 16, 1⟩
/-- EntriesDefined (R442). -/
def entriesDefined : RegId := ⟨entryKey 0x1010 0x03, 32, 0⟩
/-- FirmwareVersion (R442). -/
def firmwareVersion : RegId := ⟨entryKey 0x1010 0x04, 32, 1⟩
/-- ChainNotices (R443). -/
def chainNotices : RegId := ⟨entryKey 0x1300 0x01, 8, 1⟩
/-- NoticeClasses (R443). -/
def noticeClasses : RegId := ⟨entryKey 0x1300 0x03, 8, 15⟩
/-- NoticeBurst (R443). -/
def noticeBurst : RegId := ⟨entryKey 0x1300 0x04, 8, 8⟩
/-- NoticeInterval (R443). -/
def noticeInterval : RegId := ⟨entryKey 0x1300 0x05, 32, 3125⟩
/-- NextNoticeSequence (R443). -/
def nextNoticeSequence : RegId := ⟨entryKey 0x1300 0x06, 32, 1⟩
/-- NoticesSuppressed (R443). -/
def noticesSuppressed : RegId := ⟨entryKey 0x1300 0x07, 64, 0⟩
/-- NoticesMasked (R443). -/
def noticesMasked : RegId := ⟨entryKey 0x1300 0x08, 64, 0⟩
/-- ChainNoticesLost (R443). -/
def chainNoticesLost : RegId := ⟨entryKey 0x1300 0x09, 64, 0⟩
/-- RingNoticesLost (R443). -/
def ringNoticesLost : RegId := ⟨entryKey 0x1300 0x0A, 64, 0⟩
/-- ChainQueued (R443). -/
def chainQueued : RegId := ⟨entryKey 0x1300 0x0B, 16, 0⟩
/-- RingQueued (R443). -/
def ringQueued : RegId := ⟨entryKey 0x1300 0x0C, 16, 0⟩
/-- ChainRequests (R444). -/
def chainRequests : RegId := ⟨entryKey 0xA000 0x01, 64, 0⟩
/-- GatewayRequests (R444). -/
def gatewayRequests : RegId := ⟨entryKey 0xA000 0x02, 64, 0⟩
/-- AbsentAccesses (R444). -/
def absentAccesses : RegId := ⟨entryKey 0xA000 0x03, 64, 0⟩
/-- LastAbsent (R444). -/
def lastAbsent : RegId := ⟨entryKey 0xA000 0x04, 32, 0⟩
/-- StateRefusals (R444). -/
def stateRefusals : RegId := ⟨entryKey 0xA000 0x05, 64, 0⟩
/-- AccessDenials (R444). -/
def accessDenials : RegId := ⟨entryKey 0xA000 0x06, 64, 0⟩
/-- RangeErrors (R444). -/
def rangeErrors : RegId := ⟨entryKey 0xA000 0x07, 64, 0⟩
/-- TypeMismatches (R444). -/
def typeMismatches : RegId := ⟨entryKey 0xA000 0x08, 64, 0⟩
/-- RepliesReplayed (R444). -/
def repliesReplayed : RegId := ⟨entryKey 0xA000 0x09, 64, 0⟩
/-- GatewayWritesDiscarded (R444). -/
def gatewayWritesDiscarded : RegId := ⟨entryKey 0xA000 0x0A, 32, 0⟩
/-- SegmentsDiscarded (R444). -/
def segmentsDiscarded : RegId := ⟨entryKey 0xA000 0x0B, 32, 0⟩
/-- W1cCollisions (R444). -/
def w1cCollisions : RegId := ⟨entryKey 0xA000 0x0C, 64, 0⟩
/-- PowerState (R460). -/
def powerState : RegId := ⟨entryKey 0x3000 0x01, 8, 0⟩
/-- PendingTransition (R460). -/
def pendingTransition : RegId := ⟨entryKey 0x3000 0x03, 8, 255⟩
/-- LastTransitionCause (R460). -/
def lastTransitionCause : RegId := ⟨entryKey 0x3000 0x04, 8, 5⟩
/-- LastTransitionCourse (R460). -/
def lastTransitionCourse : RegId := ⟨entryKey 0x3000 0x05, 64, 18446744073709551615⟩
/-- HoldCourses (R460). -/
def holdCourses : RegId := ⟨entryKey 0x3000 0x07, 64, 0⟩
/-- DozeEntries (R460). -/
def dozeEntries : RegId := ⟨entryKey 0x3000 0x08, 32, 0⟩
/-- SleepEntries (R460). -/
def sleepEntries : RegId := ⟨entryKey 0x3000 0x09, 32, 0⟩
/-- HottestTemperature (R461). -/
def hottestTemperature : RegId := ⟨entryKey 0x3010 0x01, 32, 0⟩
/-- ThermalWarn (R461). -/
def thermalWarn : RegId := ⟨entryKey 0x3010 0x02, 8, 95⟩
/-- ThermalRest (R461). -/
def thermalRest : RegId := ⟨entryKey 0x3010 0x03, 8, 100⟩
/-- ThermalCritical (R461). -/
def thermalCritical : RegId := ⟨entryKey 0x3010 0x04, 8, 105⟩
/-- ThermalTrip (R461). -/
def thermalTrip : RegId := ⟨entryKey 0x3010 0x05, 8, 110⟩
/-- ThermalShutdown (R461). -/
def thermalShutdown : RegId := ⟨entryKey 0x3010 0x06, 8, 118⟩
/-- RestSpacing (R461). -/
def restSpacing : RegId := ⟨entryKey 0x3010 0x07, 8, 4⟩
/-- ThermalLevel (R461). -/
def thermalLevel : RegId := ⟨entryKey 0x3010 0x08, 8, 0⟩
/-- MeasuredPower (R461). -/
def measuredPower : RegId := ⟨entryKey 0x3010 0x09, 32, 0⟩
/-- PowerRests (R461). -/
def powerRests : RegId := ⟨entryKey 0x3010 0x0A, 64, 0⟩
/-- ThermalRests (R461). -/
def thermalRests : RegId := ⟨entryKey 0x3010 0x0B, 64, 0⟩
/-- WakeCourse (R462). -/
def wakeCourse : RegId := ⟨entryKey 0x3030 0x01, 64, 18446744073709551615⟩
/-- WakeLead (R462). -/
def wakeLead : RegId := ⟨entryKey 0x3030 0x02, 32, 65536⟩
/-- WakeTarget (R462). -/
def wakeTarget : RegId := ⟨entryKey 0x3030 0x03, 8, 2⟩
/-- WakeSources (R462). -/
def wakeSources : RegId := ⟨entryKey 0x3030 0x04, 8, 15⟩
/-- SleepTempLimit (R462). -/
def sleepTempLimit : RegId := ⟨entryKey 0x3030 0x05, 8, 85⟩
/-- LastWakeSource (R462). -/
def lastWakeSource : RegId := ⟨entryKey 0x3030 0x06, 8, 0⟩
/-- LastKeeperError (R462). -/
def lastKeeperError : RegId := ⟨entryKey 0x3030 0x07, 32, 0⟩
/-- SleepCourses (R462). -/
def sleepCourses : RegId := ⟨entryKey 0x3030 0x08, 64, 0⟩
/-- SupplyLosses (R462). -/
def supplyLosses : RegId := ⟨entryKey 0x3030 0x09, 32, 0⟩
/-- SleepTempEvents (R462). -/
def sleepTempEvents : RegId := ⟨entryKey 0x3030 0x0A, 32, 0⟩
/-- SecurityVersionFused (R496). -/
def securityVersionFused : RegId := ⟨entryKey 0x8000 0x01, 8, 0⟩
/-- SecurityVersionRunning (R496). -/
def securityVersionRunning : RegId := ⟨entryKey 0x8000 0x02, 8, 0⟩
/-- AnchorRevoked (R496). -/
def anchorRevoked : RegId := ⟨entryKey 0x8000 0x04, 8, 0⟩
/-- ImageVerifyCause (R496). -/
def imageVerifyCause : RegId := ⟨entryKey 0x8000 0x09, 8, 0⟩
/-- ImagesRefused (R496). -/
def imagesRefused : RegId := ⟨entryKey 0x8000 0x0A, 32, 0⟩
/-- AttestState (R497). -/
def attestState : RegId := ⟨entryKey 0x8010 0x03, 8, 0⟩
/-- AttestReports (R497). -/
def attestReports : RegId := ⟨entryKey 0x8010 0x04, 64, 0⟩
/-- OwnerEnrolled (R497). -/
def ownerEnrolled : RegId := ⟨entryKey 0x8010 0x05, 8, 0⟩
/-- Lifecycle (R498). -/
def lifecycle : RegId := ⟨entryKey 0x8020 0x01, 8, 1⟩
/-- OpenedEntries (R498). -/
def openedEntries : RegId := ⟨entryKey 0x8020 0x03, 8, 0⟩
/-- DebugLevel (R498). -/
def debugLevel : RegId := ⟨entryKey 0x8020 0x04, 8, 0⟩
/-- DebugLevelChanges (R498). -/
def debugLevelChanges : RegId := ⟨entryKey 0x8020 0x08, 32, 0⟩
/-- DebugRefusals (R498). -/
def debugRefusals : RegId := ⟨entryKey 0x8020 0x09, 64, 0⟩
/-- DebugAddress (R499). -/
def debugAddress : RegId := ⟨entryKey 0x8100 0x01, 64, 0⟩
/-- DebugLength (R499). -/
def debugLength : RegId := ⟨entryKey 0x8100 0x02, 16, 4⟩
/-- TraceCore (R499). -/
def traceCore : RegId := ⟨entryKey 0x8100 0x05, 16, 0⟩
/-- TraceStart (R499). -/
def traceStart : RegId := ⟨entryKey 0x8100 0x06, 64, 18446744073709551615⟩
/-- TraceCourses (R499). -/
def traceCourses : RegId := ⟨entryKey 0x8100 0x07, 16, 1⟩
/-- TraceState (R499). -/
def traceState : RegId := ⟨entryKey 0x8100 0x08, 8, 0⟩
/-- BondMode (R524). -/
def bondMode : RegId := ⟨entryKey 0x9000 0x01, 8, 0⟩
/-- BondSide (R524). -/
def bondSide : RegId := ⟨entryKey 0x9000 0x02, 8, 0⟩
/-- BondPartner (R524). -/
def bondPartner : RegId := ⟨entryKey 0x9000 0x03, 16, 65535⟩
/-- MirrorWindow (R524). -/
def mirrorWindow : RegId := ⟨entryKey 0x9000 0x04, 16, 64⟩
/-- ResyncShare (R524). -/
def resyncShare : RegId := ⟨entryKey 0x9000 0x05, 8, 75⟩
/-- HeartbeatLimit (R524). -/
def heartbeatLimit : RegId := ⟨entryKey 0x9000 0x07, 8, 4⟩
/-- BondState (R525). -/
def bondState : RegId := ⟨entryKey 0x9001 0x01, 8, 0⟩
/-- MirrorMark (R525). -/
def mirrorMark : RegId := ⟨entryKey 0x9001 0x02, 64, 18446744073709551615⟩
/-- AppliedMark (R525). -/
def appliedMark : RegId := ⟨entryKey 0x9001 0x03, 64, 18446744073709551615⟩
/-- MirroredSlots (R525). -/
def mirroredSlots : RegId := ⟨entryKey 0x9001 0x04, 16, 0⟩
/-- MirrorRecordsSent (R525). -/
def mirrorRecordsSent : RegId := ⟨entryKey 0x9001 0x05, 64, 0⟩
/-- MirrorRecordsApplied (R525). -/
def mirrorRecordsApplied : RegId := ⟨entryKey 0x9001 0x06, 64, 0⟩
/-- MirrorRejects (R525). -/
def mirrorRejects : RegId := ⟨entryKey 0x9001 0x07, 64, 0⟩
/-- HeartbeatsMissed (R525). -/
def heartbeatsMissed : RegId := ⟨entryKey 0x9001 0x08, 64, 0⟩
/-- Takeovers (R525). -/
def takeovers : RegId := ⟨entryKey 0x9001 0x09, 32, 0⟩
/-- LastTakeover (R525). -/
def lastTakeover : RegId := ⟨entryKey 0x9001 0x0A, 64, 18446744073709551615⟩
/-- LastResumeMark (R525). -/
def lastResumeMark : RegId := ⟨entryKey 0x9001 0x0B, 64, 18446744073709551615⟩
/-- ResyncTilesLeft (R525). -/
def resyncTilesLeft : RegId := ⟨entryKey 0x9001 0x0C, 32, 0⟩
/-- RepairsServed (R525). -/
def bondRepairsServed : RegId := ⟨entryKey 0x9001 0x0D, 64, 0⟩
/-- MirrorBufferUse (R525). -/
def mirrorBufferUse : RegId := ⟨entryKey 0x9001 0x0E, 32, 0⟩
/-- ActiveMaintenance (R526). -/
def activeMaintenance : RegId := ⟨entryKey 0x9010 0x01, 16, 0⟩
/-- HeldRequests (R526). -/
def heldRequests : RegId := ⟨entryKey 0x9010 0x02, 8, 0⟩
/-- GovernedTotal (R526). -/
def governedTotal : RegId := ⟨entryKey 0x9010 0x03, 64, 0⟩
/-- DroppedTotal (R526). -/
def droppedTotal : RegId := ⟨entryKey 0x9010 0x04, 32, 0⟩
/-- LastGoverned (R526). -/
def lastGoverned : RegId := ⟨entryKey 0x9010 0x05, 16, 0⟩
/-- ActivationState (R527). -/
def activationState : RegId := ⟨entryKey 0x9020 0x02, 8, 0⟩
/-- PatchState (R527). -/
def patchState : RegId := ⟨entryKey 0x9020 0x04, 8, 0⟩
/-- RetirePending (R527). -/
def retirePending : RegId := ⟨entryKey 0x9020 0x07, 16, 65535⟩
/-- StartState (R549). -/
def startState : RegId := ⟨entryKey 0xA600 0x01, 8, 0⟩
/-- FailedStarts (R549). -/
def failedStarts : RegId := ⟨entryKey 0xA600 0x02, 8, 0⟩
/-- LimewashReason (R549). -/
def limewashReason : RegId := ⟨entryKey 0xA600 0x03, 8, 0⟩
/-- LastStartCourses (R549). -/
def lastStartCourses : RegId := ⟨entryKey 0xA600 0x06, 32, 0⟩
/-- StartsTotal (R549). -/
def startsTotal : RegId := ⟨entryKey 0xA600 0x07, 32, 0⟩
/-- FatalResets (R549). -/
def fatalResets : RegId := ⟨entryKey 0xA600 0x08, 32, 0⟩
/-- PreferredSlot (R550). -/
def preferredSlot : RegId := ⟨entryKey 0xA601 0x01, 8, 0⟩
/-- RunningSlot (R550). -/
def runningSlot : RegId := ⟨entryKey 0xA601 0x02, 8, 0⟩
/-- SlotSelect (R550). -/
def slotSelect : RegId := ⟨entryKey 0xA601 0x03, 8, 0⟩
/-- SecondFailures (R551). -/
def secondFailures : RegId := ⟨entryKey 0xA602 0x01, 64, 0⟩
/-- RepairsFromBond (R551). -/
def repairsFromBond : RegId := ⟨entryKey 0xA602 0x02, 64, 0⟩
/-- RepairsFromSupplier (R551). -/
def repairsFromSupplier : RegId := ⟨entryKey 0xA602 0x03, 64, 0⟩
/-- RepairsRefused (R551). -/
def repairsRefused : RegId := ⟨entryKey 0xA602 0x04, 64, 0⟩
/-- RepairsServed (R551). -/
def repairsServed : RegId := ⟨entryKey 0xA602 0x05, 64, 0⟩
/-- RepairTimeout (R551). -/
def repairTimeout : RegId := ⟨entryKey 0xA602 0x06, 16, 24⟩
/-- DamagedMarks (R551). -/
def damagedMarks : RegId := ⟨entryKey 0xA602 0x07, 32, 0⟩
/-- DataFaultAborts (R551). -/
def dataFaultAborts : RegId := ⟨entryKey 0xA602 0x08, 64, 0⟩
/-- HardFaults (R552). -/
def hardFaults : RegId := ⟨entryKey 0xA603 0x01, 32, 0⟩
/-- LastHardFault (R552). -/
def lastHardFault : RegId := ⟨entryKey 0xA603 0x02, 32, 0⟩
/-- LastHardFaultCourse (R552). -/
def lastHardFaultCourse : RegId := ⟨entryKey 0xA603 0x03, 64, 18446744073709551615⟩
/-- PlanStops (R552). -/
def planStops : RegId := ⟨entryKey 0xA603 0x04, 32, 0⟩
/-- StuckAddress (R552). -/
def stuckAddress : RegId := ⟨entryKey 0xA603 0x05, 64, 0⟩
/-- InputVoltage (R566). -/
def inputVoltage : RegId := ⟨entryKey 0x3040 0x01, 32, 0⟩
/-- InputCurrent (R566). -/
def inputCurrent : RegId := ⟨entryKey 0x3040 0x02, 32, 0⟩
/-- InletTemperature (R566). -/
def inletTemperature : RegId := ⟨entryKey 0x3040 0x03, 32, 0⟩
/-- OutletTemperature (R566). -/
def outletTemperature : RegId := ⟨entryKey 0x3040 0x04, 32, 0⟩
/-- CoolantFlow (R566). -/
def coolantFlow : RegId := ⟨entryKey 0x3040 0x05, 32, 0⟩
/-- CoolantFlowLimit (R566). -/
def coolantFlowLimit : RegId := ⟨entryKey 0x3040 0x06, 32, 1090519040⟩
/-- OverVoltageEvents (R566). -/
def overVoltageEvents : RegId := ⟨entryKey 0x3040 0x07, 32, 0⟩
/-- ThermAlertAsserted (R566). -/
def thermAlertAsserted : RegId := ⟨entryKey 0x3040 0x08, 8, 0⟩

end Reg

namespace Blob

/-- PartNumber (R3). -/
def partNumber : Nat := entryKey 0x1000 0x01
/-- SerialNumber (R3). -/
def serialNumber : Nat := entryKey 0x1000 0x05
/-- UnitMap (R62). -/
def unitMap : Nat := entryKey 0x1020 0x01
/-- UnitMapDigest (R62). -/
def unitMapDigest : Nat := entryKey 0x1020 0x02
/-- PatternBookDigest (R174). -/
def patternBookDigest : Nat := entryKey 0x4100 0x04
/-- PatternBookManifest (R174). -/
def patternBookManifest : Nat := entryKey 0x4100 0x05
/-- LocalLatency (R209). -/
def localLatency : Nat := entryKey 0x4300 0x01
/-- ClusterLatency (R209). -/
def clusterLatency : Nat := entryKey 0x4300 0x02
/-- StackLatency (R209). -/
def stackLatency : Nat := entryKey 0x4300 0x03
/-- StoreLatencyDigest (R209). -/
def storeLatencyDigest : Nat := entryKey 0x4300 0x05
/-- LaneStatus (R246). -/
def laneStatus (i : Nat) : Nat := entryKey (0x7100 + i) 0x02
/-- TieRecords (R270). -/
def tieRecords (i : Nat) (k : Nat) : Nat := entryKey (0x4400 + i) (0x01 + k)
/-- LevelTable (R272). -/
def levelTable : Nat := entryKey 0x4500 0x01
/-- StagedDigest (R297). -/
def stagedDigest : Nat := entryKey 0x4000 0x06
/-- RunningPlanDigest (R297). -/
def runningPlanDigest : Nat := entryKey 0x4000 0x09
/-- RunningPlanName (R297). -/
def runningPlanName : Nat := entryKey 0x4000 0x0A
/-- SkeletonDigest (R299). -/
def skeletonDigest : Nat := entryKey 0x4010 0x04
/-- ResultClassKey (R300). -/
def resultClassKey : Nat := entryKey 0x4020 0x01
/-- Members (R338). -/
def members : Nat := entryKey 0x5000 0x03
/-- SlotContexts (R338). -/
def slotContexts : Nat := entryKey 0x5000 0x08
/-- AdapterEnable (R338). -/
def adapterEnable : Nat := entryKey 0x5000 0x0A
/-- SlotRecord (R343). -/
def slotRecord (i : Nat) (k : Nat) : Nat := entryKey (0x5200 + i) (0x01 + k)
/-- KeepTable (R369). -/
def keepTable : Nat := entryKey 0x6000 0x07
/-- WeightDigest (R371). -/
def weightDigest (i : Nat) : Nat := entryKey (0x6010 + i) 0x04
/-- BatchBindings (R372). -/
def batchBindings : Nat := entryKey 0x6020 0x06
/-- AdapterStates (R373). -/
def adapterStates : Nat := entryKey 0x6030 0x01
/-- AdapterBases (R373). -/
def adapterBases : Nat := entryKey 0x6030 0x02
/-- AdapterDigest (R373). -/
def adapterDigest : Nat := entryKey 0x6030 0x04
/-- ChainMac (R406). -/
def chainMac : Nat := entryKey 0x1100 0x03
/-- IngressPorts (R408). -/
def ingressPorts : Nat := entryKey 0x7000 0x41
/-- BondPorts (R408). -/
def bondPorts : Nat := entryKey 0x7000 0x42
/-- FabricPorts (R408). -/
def fabricPorts : Nat := entryKey 0x7000 0x43
/-- QpConfig (R409). -/
def qpConfig : Nat := entryKey 0x7400 0x02
/-- PortMac (R410). -/
def portMac (i : Nat) : Nat := entryKey (0x7410 + i) 0x03
/-- IpAddress (R410). -/
def ipAddress (i : Nat) : Nat := entryKey (0x7410 + i) 0x04
/-- NoticeMac (R443). -/
def noticeMac : Nat := entryKey 0x1300 0x02
/-- DevIdKeyDigests (R496). -/
def devIdKeyDigests : Nat := entryKey 0x8000 0x05
/-- AliasKeyDigests (R496). -/
def aliasKeyDigests : Nat := entryKey 0x8000 0x06
/-- CertChainE (R496). -/
def certChainE : Nat := entryKey 0x8000 0x07
/-- CertChainM (R496). -/
def certChainM : Nat := entryKey 0x8000 0x08
/-- AttestReport (R497). -/
def attestReport : Nat := entryKey 0x8010 0x02
/-- OwnerDigest (R497). -/
def ownerDigest : Nat := entryKey 0x8010 0x06
/-- DebugNonce (R498). -/
def debugNonce : Nat := entryKey 0x8020 0x07
/-- DebugRead (R499). -/
def debugRead : Nat := entryKey 0x8100 0x03
/-- TraceBuffer (R499). -/
def traceBuffer : Nat := entryKey 0x8100 0x09
/-- ProgramState (R499). -/
def programState : Nat := entryKey 0x8100 0x0A
/-- StartHistory (R549). -/
def startHistory : Nat := entryKey 0xA600 0x04
/-- SlotStates (R550). -/
def slotStates : Nat := entryKey 0xA601 0x06
/-- SlotVersions (R550). -/
def slotVersions : Nat := entryKey 0xA601 0x07
/-- Suppliers (R551). -/
def suppliers : Nat := entryKey 0xA602 0x09
/-- WithheldGenerations (R551). -/
def withheldGenerations : Nat := entryKey 0xA602 0x0A
/-- DiagnosticResult (R552). -/
def diagnosticResult : Nat := entryKey 0xA603 0x07

end Blob

end Sys2Proof.Machine
end

