-- ==== Sys2Proof/Machine/NoticeCodes.lean ====
section
/-! DEFINITION. The notices of the module: code and class (R431), with the payload that each carries. -/

namespace Sys2Proof.Machine

/-- A notice kind: its code, and its class (0 Info, 1 Warning, 2 Fault, 3 Security). -/
structure NoticeKind where
  code : Nat
  cls : Nat
  deriving DecidableEq, Repr

namespace Note

/-- UnitMapChanged: MapSerial (U32), UnitMapDigest (32 bytes) -/
def unitMapChanged : NoticeKind := ⟨0x1021, 1⟩
/-- ChainAddressed: Node (U8), ChainMac (6 bytes) -/
def chainAddressed : NoticeKind := ⟨0x1101, 0⟩
/-- DeviceIdSet: Old DeviceId (U16), new DeviceId (U16) -/
def deviceIdSet : NoticeKind := ⟨0x1102, 0⟩
/-- PcieLinkChange: PcieLinkState (U8), rate (U8), width (U8) -/
def pcieLinkChange : NoticeKind := ⟨0x1201, 1⟩
/-- CourseLocked: Depth, RootId, ParentPort -/
def courseLocked : NoticeKind := ⟨0x2001, 0⟩
/-- CourseHoldover: Last parent port -/
def courseHoldover : NoticeKind := ⟨0x2002, 1⟩
/-- CoursePhaseStep: Count difference (I64) and phase difference in 1/8 cycles -/
def coursePhaseStep : NoticeKind := ⟨0x2003, 1⟩
/-- CourseEpochMismatch: Observed count -/
def courseEpochMismatch : NoticeKind := ⟨0x2004, 1⟩
/-- PlanStalled: Pending plan course, the one that cannot yet run (U64); LastSlipCause (U8) -/
def planStalled : NoticeKind := ⟨0x2005, 2⟩
/-- LaunchLate: Lag at start -/
def launchLate : NoticeKind := ⟨0x2006, 1⟩
/-- LaunchRefused: Lag that the earliest possible start would have had: LaunchLateLimit + 1 (R32) -/
def launchRefused : NoticeKind := ⟨0x2007, 2⟩
/-- PowerStateChanged: Old state (U8), new state (U8, 3 Sleep), cause (U8) -/
def powerStateChanged : NoticeKind := ⟨0x3001, 0⟩
/-- PlanLost: Plan course (U64), slots held (U16) -/
def planLost : NoticeKind := ⟨0x3002, 2⟩
/-- ThermalLevelChanged: Level (U8), temperature (F32) -/
def thermalLevelChanged : NoticeKind := ⟨0x3003, 1⟩
/-- ThermalTrip: Temperature (F32), brick (U8, 0xFF Keystone) -/
def thermalTrip : NoticeKind := ⟨0x3004, 2⟩
/-- Woken: Source (U8), LastKeeperError (I32), SleepTempEvents (U32) -/
def woken : NoticeKind := ⟨0x3005, 0⟩
/-- SupplyLoss: Lowest input voltage (F32) -/
def supplyLoss : NoticeKind := ⟨0x3006, 1⟩
/-- CoolantFlowLow: CoolantFlow (F32), InletTemperature (F32), OutletTemperature (F32) -/
def coolantFlowLow : NoticeKind := ⟨0x3041, 1⟩
/-- PlanLoaded: Plan digest (32 bytes), SegmentLength (U16), PinnedItems (U16) -/
def planLoaded : NoticeKind := ⟨0x4001, 0⟩
/-- PlanRefused: Result (U16), cause (U16), site (U64), first 8 bytes of the plan digest -/
def planRefused : NoticeKind := ⟨0x4002, 1⟩
/-- VariantSwitched: Old variant (U8), new variant (U8), plan course (U64) -/
def variantSwitched : NoticeKind := ⟨0x4003, 0⟩
/-- SuccessorTookOver: Plan digest (32 bytes), swap course (U64) -/
def successorTookOver : NoticeKind := ⟨0x4004, 0⟩
/-- PlanHalted: Plan course (U64) -/
def planHalted : NoticeKind := ⟨0x4005, 0⟩
/-- BankSwapped: New active bank (U8), swap course (U64) -/
def bankSwapped : NoticeKind := ⟨0x4101, 0⟩
/-- TrowelFault: Cluster index (U16), cause (U8: 1 illegal instruction, 2 memory fault, 3 watchdog) -/
def trowelFault : NoticeKind := ⟨0x4201, 2⟩
/-- StrayPointing: Kind (U8), source DeviceId (U16), destination brick (U8), tie or level (U8), external course (U64) -/
def strayPointing : NoticeKind := ⟨0x4481, 1⟩
/-- PointingBacklog: Port (U8), unacknowledged messages (U8) -/
def pointingBacklog : NoticeKind := ⟨0x4482, 1⟩
/-- DescriptorQueueFull: Port (U8), queue pair number (U32) -/
def descriptorQueueFull : NoticeKind := ⟨0x5001, 1⟩
/-- BatchLate: Sequence (U32), EffectCourse (U64), courses slipped (U16) -/
def batchLate : NoticeKind := ⟨0x5002, 1⟩
/-- BatchSequenceGap: Expected sequence (U32), received sequence (U32) -/
def batchSequenceGap : NoticeKind := ⟨0x5003, 1⟩
/-- TintAborted: Slot (U16), tint (U16), reason (U8), FaultCourse (U64), reporter DeviceId (U16) -/
def tintAborted : NoticeKind := ⟨0x5004, 1⟩
/-- VariantOrdered: Variant (U8), QuoinCourse (U64), f as FP32 -/
def variantOrdered : NoticeKind := ⟨0x5005, 0⟩
/-- MemberNotReady: Slot (U16), kind (U8: 1 adapter, 2 generation), id (U16) -/
def memberNotReady : NoticeKind := ⟨0x5006, 2⟩
/-- OutputOverrun: Port (U8), slot (U16), tint (U16) -/
def outputOverrun : NoticeKind := ⟨0x5007, 1⟩
/-- GenerationLoaded: Side (U8), generation (U8), weight digest (32 bytes) -/
def generationLoaded : NoticeKind := ⟨0x6001, 0⟩
/-- GenerationSwitched: New generation (U8), old generation (U8), X_s (U64) -/
def generationSwitched : NoticeKind := ⟨0x6002, 0⟩
/-- GenerationReleased: Generation (U8), plan course (U64) -/
def generationReleased : NoticeKind := ⟨0x6003, 0⟩
/-- LoadAborted: Kind (U8), generation or adapter id (U16), sequence (U32), cause (U16: result code) -/
def loadAborted : NoticeKind := ⟨0x6004, 1⟩
/-- WeightRecordFault: Sequence (U32), upstream DeviceId (U16) -/
def weightRecordFault : NoticeKind := ⟨0x6005, 1⟩
/-- AdapterLoaded: Adapter id (U16), adapter digest (32 bytes) -/
def adapterLoaded : NoticeKind := ⟨0x6006, 0⟩
/-- PortRoleMismatch: Port (U8), partner role (U8), partner DeviceId (U16) -/
def portRoleMismatch : NoticeKind := ⟨0x7001, 1⟩
/-- LinkUp: Port (U8), partner DeviceId (U16), partner port (U8), PortDelay (U32) -/
def linkUp : NoticeKind := ⟨0x7101, 0⟩
/-- LinkDown: Port (U8), lanes down (U8 mask), cause (U8: 1 loss of signal, 2 error limit, 3 partner change, 4 retrain failed) -/
def linkDown : NoticeKind := ⟨0x7102, 1⟩
/-- PartnerMismatch: Port (U8), expected DeviceId (U16), seen DeviceId (U16), seen port (U8) -/
def partnerMismatch : NoticeKind := ⟨0x7103, 2⟩
/-- DelayExceeded: Port (U8), PortDelay (U32, 1/8 cycles), DelayLimit (U32) -/
def delayExceeded : NoticeKind := ⟨0x7104, 2⟩
/-- RetryBacklog: Port (U8), lane (U8), backlog (U16); sent when a lane's retry queue exceeds 28 flits -/
def retryBacklog : NoticeKind := ⟨0x7105, 1⟩
/-- EdgeRetrain: Edge (U8), cause (U8: 1 repeated block failure, 2 loss of lock) -/
def edgeRetrain : NoticeKind := ⟨0x7201, 1⟩
/-- IngressSequenceGap: Window (U8), expected sequence (U32), received sequence (U32) -/
def ingressSequenceGap : NoticeKind := ⟨0x7301, 1⟩
/-- IngressOverrun: Window (U8), sequence (U32), credit (U32) -/
def ingressOverrun : NoticeKind := ⟨0x7302, 1⟩
/-- QpError: QP index (U16), cause (U8, as LastQpError) -/
def qpError : NoticeKind := ⟨0x7401, 1⟩
/-- IngressLinkChange: Ingress index (U8), EthLinkState (U8) -/
def ingressLinkChange : NoticeKind := ⟨0x7411, 1⟩
/-- MacsecRekeyDue: Ingress index (U8), TxAn (U8), TxPacketNumber (U64) -/
def macsecRekeyDue : NoticeKind := ⟨0x7421, 1⟩
/-- ImageRefused: Kind (U8), cause (U8), SecurityVersion (U8), path (U8: 0 chain, 1 PCI Express, 2 firmware slot) -/
def imageRefused : NoticeKind := ⟨0x8001, 3⟩
/-- DebugLevelChanged: Old level (U8), new level (U8), path (U8: 0 chain, 1 PCI Express; 0xFF for causes 3 and 4, which no request path carries), cause (U8: 1 request, 2 token, 3 reset or wake, 4 lifecycle restart) -/
def debugLevelChanged : NoticeKind := ⟨0x8002, 3⟩
/-- LifecycleChanged: Old state (U8), new state (U8), OpenedEntries (U8) -/
def lifecycleChanged : NoticeKind := ⟨0x8003, 3⟩
/-- OwnerChanged: Kind (U8: 1 enrolled, 2 changed, 3 removed, 4 erased), first 8 bytes of the new OwnerDigest -/
def ownerChanged : NoticeKind := ⟨0x8004, 3⟩
/-- SecurityVersionCommitted: New SecurityVersionFused (U8) -/
def securityVersionCommitted : NoticeKind := ⟨0x8005, 3⟩
/-- AnchorRevoked: New AnchorRevoked (U8) -/
def anchorRevoked : NoticeKind := ⟨0x8006, 3⟩
/-- BondProtected: Partner DeviceId (U16), BondMode (U8) -/
def bondProtected : NoticeKind := ⟨0x9001, 0⟩
/-- BondLost: Cause (U8: 1 heartbeat, 2 Yield), AppliedMark (U64) -/
def bondLost : NoticeKind := ⟨0x9002, 1⟩
/-- BondTakeover: T (U64), RM (U64), slots resumed (U16), slots aborted (U16) -/
def bondTakeover : NoticeKind := ⟨0x9003, 1⟩
/-- BondTakenOver: Partner DeviceId (U16), partner's T (U64) -/
def bondTakenOver : NoticeKind := ⟨0x9004, 1⟩
/-- BondDegraded: Cause (U8: 1 KeyTag, 2 buffer full) -/
def bondDegraded : NoticeKind := ⟨0x9005, 1⟩
/-- MirrorLagging: MirrorMark (U64), MirrorBufferUse (U32) -/
def mirrorLagging : NoticeKind := ⟨0x9006, 1⟩
/-- ResyncDone: Slots copied (U16), courses taken (U32) -/
def resyncDone : NoticeKind := ⟨0x9007, 0⟩
/-- MaintenanceGoverned: Held activity (U8), blocking activity (U8) -/
def maintenanceGoverned : NoticeKind := ⟨0x9010, 0⟩
/-- MaintenanceDropped: Activity (U8), result (U16) -/
def maintenanceDropped : NoticeKind := ⟨0x9011, 1⟩
/-- FirmwareActivated: FirmwareVersion (U32), activation course (U64) -/
def firmwareActivated : NoticeKind := ⟨0x9021, 0⟩
/-- PatchActivated: PatchedRoutines (U16), activation course (U64) -/
def patchActivated : NoticeKind := ⟨0x9022, 0⟩
/-- SubstitutionStarted: Cluster index (U16), position (U8), trigger (U8: 0 self-test, 1 threshold, 2 request, 3 hard fault) -/
def substitutionStarted : NoticeKind := ⟨0x9041, 0⟩
/-- SubstitutionDone: Cluster index (U16), position (U8), swap course (U64). With a plan running, this is the plan course of the quoin course at which the spare took the position (R33, R50). With no plan running (R49, R52, R54), it is the external course of the swap, or all ones when the count is not yet known. The notice's CourseStamp always gives the external course. -/
def substitutionDone : NoticeKind := ⟨0x9042, 0⟩
/-- SubstitutionAbandoned: Cluster index (U16), position (U8), reason (U8: 1 power state, 2 spare fault, 3 hard fault) -/
def substitutionAbandoned : NoticeKind := ⟨0x9043, 1⟩
/-- SpareExhausted: Cluster index (U16), position (U8) of the core still waiting -/
def spareExhausted : NoticeKind := ⟨0x9044, 1⟩
/-- AbsentAccess: Index (U16), sub (U8), path (U8), operation (U8) -/
def absentAccess : NoticeKind := ⟨0xA001, 1⟩
/-- NoticesSuppressed: Code (U16), count (U32) -/
def noticesSuppressed : NoticeKind := ⟨0xA002, 0⟩
/-- NoticeRingFault: RingState (U8), RingQueued (U16) -/
def noticeRingFault : NoticeKind := ⟨0xA003, 1⟩
/-- FormatFault: Cluster index (U16), position (U8), engine (U8), cause (U8, as LastFormatFault), plan course (U64) -/
def formatFault : NoticeKind := ⟨0xA281, 2⟩
/-- TintMismatch: Cluster index (U16), position (U8), engine (U8), tile tint (U16, 0xFFFF when Owned = 0), expected tint (U16, 0xFFFF for "shared"), plan course (U64) -/
def tintMismatch : NoticeKind := ⟨0xA301, 3⟩
/-- ArrayReplay: Cluster index (U16), position (U8), engine (U8), plan course (U64), suspension length in courses (U8) -/
def arrayReplay : NoticeKind := ⟨0xA302, 1⟩
/-- GenerationMismatch: Cluster index (U16), position (U8), engine (U8), tile generation (U8), expected generation (U8), plan course (U64) -/
def generationMismatch : NoticeKind := ⟨0xA303, 2⟩
/-- HodFault: Cluster index (U16), position (U8), hod (U8), kind (U8: 1 empty pop, 2 full push), plan course (U64) -/
def hodFault : NoticeKind := ⟨0xA401, 2⟩
/-- StoreUncorrectable: Address (U64), region kind (U8: 0 raw, 1 Shared, 2 Staging, 3 Owned, 4 Landing), found by (U8: 0 read, 1 scrub), external course (U64) -/
def storeUncorrectable : NoticeKind := ⟨0xA501, 2⟩
/-- ScrubPassLate: Brick (U8), store (U8: 0 local, 1 cluster, 2 stack), pass length in courses (U32) -/
def scrubPassLate : NoticeKind := ⟨0xA581, 1⟩
/-- StartConfirmed: RunningSlot (U8), FirmwareVersion (U32), LastStartCourses (U32) -/
def startConfirmed : NoticeKind := ⟨0xA601, 0⟩
/-- LimewashEntered: LimewashReason (U8), reasons of the last three attempts (3 × U8) -/
def limewashEntered : NoticeKind := ⟨0xA602, 2⟩
/-- SlotFallback: Slot failed (U8), ImageVerifyCause (U8) -/
def slotFallback : NoticeKind := ⟨0xA603, 1⟩
/-- TileRepaired: Source (U8: 1 bond, 2 supplier), address (U64), plan course (U64) -/
def tileRepaired : NoticeKind := ⟨0xA604, 1⟩
/-- GenerationDamaged: Side (U8), generation (U8), address (U64), plan course (U64) -/
def generationDamaged : NoticeKind := ⟨0xA605, 2⟩
/-- HardFault: Kind (U8), unit (U32), plan course (U64; all ones when no plan is running) -/
def hardFault : NoticeKind := ⟨0xA606, 2⟩
/-- PlanStopped: Plan course (U64), slots aborted (U16), yielded (U8) -/
def planStopped : NoticeKind := ⟨0xA607, 2⟩
/-- StoreStuck: Address (U64) -/
def storeStuck : NoticeKind := ⟨0xA608, 2⟩
/-- FatalReset: Cause (U8), course stamp of the fault (U64) -/
def fatalReset : NoticeKind := ⟨0xA609, 2⟩

end Note

end Sys2Proof.Machine
end

