-- ==== Sys2Proof/Machine/Ops.lean ====
section
/-! DEFINITION. The named operations over the state that every family shares: registers, counters, values with a
home outside the registers, units, stamps, notices (R431 to R439), and the outcomes of a command. -/

namespace Sys2Proof.Machine

/-! ### Outcomes -/

/-- A command that has taken effect: the queue of waiting commands is as it was. -/
def State.done (s t : State) : Host.Outcome State Fault Refusal := .next { t with pending := s.pending }

/-- A command that names a unit the part may not have. -/
def State.onUnit (s : State) (m : String) (ok : Bool) (t : State) : Host.Outcome State Fault Refusal :=
  if ok then s.done t else .refused (.noSuchUnit m)

/-! ### Registers -/

/-- A register's value. -/
def State.reg (s : State) (r : RegId) : Nat := Map.get s.regs r.dflt r.key

/-- Writes a register, modulo its width. -/
def State.setReg (s : State) (r : RegId) (v : Nat) : State :=
  { s with regs := Map.set s.regs r.dflt r.key (v % 2 ^ r.width) }

/-- Adds to a counter, modulo its width (assumption 11). -/
def State.bumpBy (s : State) (r : RegId) (n : Nat) : State := s.setReg r (s.reg r + n)

/-- Adds one to a counter. -/
def State.bump (s : State) (r : RegId) : State := s.bumpBy r 1

/-- Takes from a count, stopping at 0. -/
def State.lower (s : State) (r : RegId) (n : Nat) : State := s.setReg r (s.reg r - n)

/-- What a STR or BLOB entry reads before anything has written it (R417). -/
def blobDefault (k : Nat) : Bytes :=
  if k = Blob.noticeMac then List.replicate 6 0xFF
  else if k = Blob.suppliers then List.replicate 8 0xFF
  else if k = Blob.adapterEnable then zeros 128
  else if k = Blob.qpConfig then zeros 64
  else if k = Blob.withheldGenerations ∨ k = Blob.stagedDigest ∨ k = Blob.ownerDigest then zeros 32
  else if k = Blob.weightDigest 0 ∨ k = Blob.weightDigest 1 then zeros 32
  else if k = Blob.adapterStates ∨ k = Blob.adapterBases then zeros 1024
  else if k = Blob.partNumber then ascii "DJ-PR16-A"
  else if k = Blob.serialNumber then ascii "000000000000"
  else if k = Blob.debugNonce then zeros 32
  else if k = Blob.slotStates then [2, 0]
  else if k = Blob.slotVersions then zeros 8
  else if k = Blob.chainMac then zeros 6
  else if (List.range 4).any (fun i => k = Blob.ipAddress i) then zeros 16
  else if (List.range 4).any (fun i => k = Blob.portMac i) then zeros 6
  else []

/-- The value of a STR or BLOB entry. -/
def State.blob (s : State) (k : Nat) : Bytes := Map.get s.blobs (blobDefault k) k

/-- Writes a STR or BLOB entry. -/
def State.setBlob (s : State) (k : Nat) (v : Bytes) : State :=
  { s with blobs := Map.set s.blobs (blobDefault k) k v }

/-- One byte of a BLOB entry. -/
def State.setBlobByte (s : State) (k i v : Nat) : State :=
  s.setBlob k ((s.blob k).set i (BitVec.ofNat 8 v))

/-! ### Output, free values -/

/-- Appends to what the module has sent (assumption 3). -/
def State.emit (s : State) (o : Out) : State := { s with out := s.out ++ [o] }

/-- Advances the counter of free values (assumption 7). -/
def State.drew (s : State) (n : Nat) : State := { s with drawn := s.drawn + n }

/-! ### Time -/

/-- The course stamp of an event in the present course (R4, R8). -/
def State.stamp (s : State) : Nat := if s.time.known then s.time.count else allOnes64

/-- Changes the time record. -/
def State.mapTime (s : State) (f : Time → Time) : State := { s with time := f s.time }

/-- Changes plan progress. -/
def State.mapProg (s : State) (f : Progress → Progress) : State := { s with prog := f s.prog }

/-- The lag E − P of R25, 0 when P exceeds E. -/
def State.lag (s : State) : Nat := s.time.count - s.prog.course

/-- A plan is armed or running (R11, R304): LaunchState Armed or Running. -/
def State.planActive (s : State) : Bool :=
  s.prog.running || s.reg Reg.launchState == 1 || s.reg Reg.launchState == 2

/-- The plan that runs. -/
def State.thePlan (s : State) : Option Plan := if s.prog.running then s.plan.running else none

/-- The segment length S of the running plan, at least 1. -/
def Plan.period (p : Plan) : Nat := max 1 p.segment

/-- The segment position of a plan course: (c − LaunchCourse) mod S (R284). -/
def State.position (s : State) (p : Plan) (c : Nat) : Nat := (c + p.period - s.prog.launchCourse % p.period) % p.period

/-- A quoin course of the running plan (R284), and an admission course (R305). -/
def State.isQuoin (s : State) (c : Nat) : Bool := s.thePlan.any fun p => s.position p c == 0
def State.isAdmission (s : State) (c : Nat) : Bool := s.thePlan.any fun p => s.position p c % 16 == 0

/-- A course that executes a plan course: work, or an idled grout course (R25). -/
def CourseKind.executes (k : CourseKind) : Bool :=
  match k with
  | .work _ | .grout _ => true
  | .idle | .slip _ | .rest _ | .lead | .phase | .held => false

/-- The present external course runs plan work (R23, R116): its plan course is a work course, or it is the course in
which a suspension has ended. -/
def Progress.works (p : Progress) : Bool :=
  p.running && (p.resumed || match p.kind with
    | .work _ => true
    | .idle | .slip _ | .rest _ | .grout _ | .lead | .phase | .held => false)

/-- Instructions issue: plan work runs, and no suspension holds it (R116, R121). -/
def State.issues (s : State) : Bool := s.prog.works && s.prog.suspension.isNone

/-- The plan courses that the present external course reaches: its own, and the grout course that it skipped (R30,
R33). -/
def State.reachedCourses (s : State) : List Nat :=
  if s.prog.running && s.prog.kind.executes then
    (if s.prog.jumped then [s.prog.course - 1, s.prog.course] else [s.prog.course])
  else []

/-- The admission course that the present course reaches (R305). -/
def State.reachedAdmission (s : State) : Option Nat := s.reachedCourses.find? s.isAdmission

/-! ### Units (R41 to R60) -/

/-- A brick is enabled. -/
def State.brickOn (s : State) (b : Nat) : Bool := b < 16 && bit s.units.brickMask b

/-- A cluster is enabled: its brick is, and it is not retired. -/
def State.clusterOn (s : State) (c : Nat) : Bool :=
  c < 128 && s.brickOn (c / 8) && bit s.units.clusterMask c

/-- Clusters 4 to 7 of a brick are header clusters (R45). -/
def isHeader (cluster : Nat) : Bool := 4 ≤ cluster % 8

/-- Arrays of a core of a cluster (R47). -/
def arraysOf (cluster : Nat) : Nat := if isHeader cluster then 2 else 4

/-- The cluster of a core number, and its logical position. -/
def coreCluster (core : Nat) : Nat := core / 8
def corePosition (core : Nat) : Nat := core % 8

/-- An optical port is lit: its brick is enabled (R44). -/
def State.portLit (s : State) (p : Nat) : Bool := p < 64 && s.brickOn (p / 4)

/-- The two bricks of a die-to-die edge (R42, R247): edges 0 to 11 along the rows, 12 to 23 along the columns. -/
def edgeBricks (e : Nat) : Nat × Nat :=
  if e < 12 then (4 * (e / 3) + e % 3, 4 * (e / 3) + e % 3 + 1) else (e - 12, e - 8)

/-- An edge is in service: both of its bricks are enabled (R42). -/
def State.edgeOn (s : State) (e : Nat) : Bool :=
  e < 24 && s.brickOn (edgeBricks e).1 && s.brickOn (edgeBricks e).2

/-- The edge in service that joins two bricks (R42). -/
def State.edgeBetween (s : State) (a b : Nat) : Option Nat :=
  (List.range 24).find? fun e => s.edgeOn e && (edgeBricks e == (a, b) || edgeBricks e == (b, a))

/-- Paths one edge longer, to bricks not yet reached, in order of brick number. -/
def State.longerPaths (s : State) (ps : List (List Nat)) (seen : List Nat) : List (List Nat) :=
  (ps.flatMap fun p => (List.range 16).filterMap fun b =>
    if !seen.contains b && (s.edgeBetween (p.headD 0) b).isSome then some (b :: p) else none)

/-- The bricks of the route to a brick, the last first: fewest edges, of equals the one found first (R42, R219;
assumption 49). -/
def State.pathFrom (s : State) (fuel target : Nat) (ps : List (List Nat)) (seen : List Nat) : List Nat :=
  match fuel with
  | 0 => []
  | fuel + 1 =>
    match ps.find? fun p => p.headD 16 == target with
    | some p => p
    | none =>
      let next := s.longerPaths ps seen
      s.pathFrom fuel target next (seen ++ next.map fun p => p.headD 16)

/-- The bricks of the edge route from one brick to another, ends included; none where no edge in service leads there. -/
def State.edgePath (s : State) (a b : Nat) : List Nat := (s.pathFrom 16 b [[a]] [a]).reverse

/-- Granules cross the edges of a route: blocks of 41 data granules, those of one transfer apart from the next
(R220, R247; assumption 49). -/
def State.crossEdges (s : State) (a b granules : Nat) : State :=
  let p := s.edgePath a b
  (p.zip (p.drop 1)).foldl (fun s e =>
    match s.edgeBetween e.1 e.2 with
    | none => s
    | some x => s.bumpBy (Reg.blocksSent x) ((granules + 40) / 41)) s

/-- The course nearest the module's own plan course with the given low bits (R259, R504). -/
def nearestCourse (p w tag : Nat) : Nat := ((p : Int) + toSigned w (tag + 2 ^ w - p % 2 ^ w)).toNat

/-- Bytes of another brick's stack cross the edges to or from a core (R186). -/
def State.crossAccess (s : State) (core a n : Nat) : State :=
  if a / 2 ^ 45 = 2 ∧ a / 2 ^ 41 % 16 ≠ core / 64 then s.crossEdges (core / 64) (a / 2 ^ 41 % 16) ((n + 63) / 64) else s

/-- The first crossbar port of the edge by which a neighbour's granules enter a brick (R216): north, east, south,
west. -/
def edgePort (fromBrick toBrick : Nat) : Nat :=
  if fromBrick + 4 = toBrick then 88 else if toBrick + 1 = fromBrick then 91 else if toBrick + 4 = fromBrick then 94 else 97

/-- The UnitMap structure of R55. -/
def State.unitMap (s : State) : Bytes :=
  leBytes 1 1 ++ leBytes 1 (s.reg Reg.grade) ++ leBytes 2 s.units.brickMask ++ leBytes 16 s.units.clusterMask ++
    leBytes 4 s.units.mapSerial ++ zeros 8

/-! ### Sources of notices (R432) -/

def srcModule : Nat := 0
def srcBrick (b : Nat) : Nat := 1 * 2 ^ 24 + b
def srcCluster (c : Nat) : Nat := 2 * 2 ^ 24 + c
def srcCore (c : Nat) : Nat := 3 * 2 ^ 24 + c
def srcPort (p : Nat) : Nat := 4 * 2 ^ 24 + p
def srcEdge (e : Nat) : Nat := 5 * 2 ^ 24 + e
def srcQp (q : Nat) : Nat := 6 * 2 ^ 24 + q
def srcSlot (s : Nat) : Nat := 7 * 2 ^ 24 + s
def srcRole (n : Nat) : Nat := 8 * 2 ^ 24 + n
def srcLevel (n : Nat) : Nat := 9 * 2 ^ 24 + n

/-- Payload fields. -/
def u8 (v : Nat) : Bytes := leBytes 1 v
def u16 (v : Nat) : Bytes := leBytes 2 v
def u32 (v : Nat) : Bytes := leBytes 4 v
def u64 (v : Nat) : Bytes := leBytes 8 v

/-! ### Notices (R431 to R439) -/

/-- The lowest class of a queue of notices. -/
def lowestClass (l : List Notice) : Nat :=
  match l with
  | [] => 3
  | n :: r => r.foldl (fun m x => min m x.cls) n.cls

/-- Drops the oldest notice of a class. -/
def dropOldest (c : Nat) (l : List Notice) : List Notice :=
  match l with
  | [] => []
  | n :: r => if n.cls = c then r else n :: dropOldest c r

/-- A notice joins a queue of at most 1,024, and whether one was lost (R437). -/
def queueNotice (l : List Notice) (n : Notice) : List Notice × Bool :=
  let l' := l ++ [n]
  if l'.length > 1024 then (dropOldest (lowestClass l') l', true) else (l', false)

/-- Forms a notice for delivery: it takes the next Sequence and joins the queue of each path (R433, R437). With
ChainNotices 0 no notice joins the chain queue. -/
def State.deliver (s : State) (k : NoticeKind) (source suppressed : Nat) (payload : Bytes) : State :=
  let n : Notice :=
    { code := k.code, cls := k.cls, seq := s.reg Reg.nextNoticeSequence, stamp := s.stamp, source := source,
      suppressed := suppressed, payload := payload.take 48 }
  let c := if s.reg Reg.chainNotices = 1 then queueNotice s.paths.chainQueue n else (s.paths.chainQueue, false)
  let r := queueNotice s.paths.ringQueue n
  let s := s.bump Reg.nextNoticeSequence
  let s := s.bumpBy Reg.chainNoticesLost (flagNat c.2)
  let s := s.bumpBy Reg.ringNoticesLost (flagNat r.2)
  { s with paths := { s.paths with chainQueue := c.1, ringQueue := r.1 } }

/-- An untouched bucket: no credit spent (R439). -/
def Bucket.full : Bucket := { credit := 0, nextRefill := 0, suppressed := 0 }

/-- Refills a bucket at local count `l`: credits spent come back one an interval (R439). -/
def Bucket.refill (b : Bucket) (interval l : Nat) : Bucket :=
  if b.credit = 0 then { b with nextRefill := l + interval }
  else if b.nextRefill ≤ l then
    let n := min b.credit ((l - b.nextRefill) / max 1 interval + 1)
    { b with credit := b.credit - n, nextRefill := b.nextRefill + n * interval }
  else b

/-- Raises a notice (R438, R439): a Security notice is always delivered; a masked class is counted; any other
takes a credit of its code's bucket or is suppressed. -/
def State.notice (s : State) (k : NoticeKind) (source : Nat) (payload : Bytes) : State :=
  if k.cls = 3 then s.deliver k source 0 payload
  else if bit (s.reg Reg.noticeClasses) k.cls = false then s.bump Reg.noticesMasked
  else
    let b := (Map.get s.paths.buckets Bucket.full k.code).refill (s.reg Reg.noticeInterval) s.time.localCount
    if b.credit < s.reg Reg.noticeBurst then
      let b' := { b with credit := b.credit + 1, suppressed := 0 }
      let s := { s with paths := { s.paths with buckets := Map.set s.paths.buckets Bucket.full k.code b' } }
      s.deliver k source b.suppressed payload
    else
      let b' := { b with suppressed := b.suppressed + 1 }
      let s := { s with paths := { s.paths with buckets := Map.set s.paths.buckets Bucket.full k.code b' } }
      s.bump Reg.noticesSuppressed

/-- NoticesSuppressed for each code whose count is not 0, the counts cleared; these are not rate-limited but can
be masked (R439). -/
def sweepBuckets (l : Map Bucket) (s : State) : State :=
  match l with
  | [] => s
  | (code, b) :: r =>
    if b.suppressed = 0 then sweepBuckets r s
    else
      let s := { s with paths := { s.paths with
        buckets := Map.set s.paths.buckets Bucket.full code { b with suppressed := 0 } } }
      sweepBuckets r
        (if bit (s.reg Reg.noticeClasses) 0 then s.deliver Note.noticesSuppressed srcModule 0 (u16 code ++ u32 b.suppressed)
         else s.bump Reg.noticesMasked)

/-- The sweep of R439. -/
def State.sweep (s : State) : State := sweepBuckets s.paths.buckets s

/-- Every bucket full again, its count of suppressed notices kept (R439: a write of NoticeBurst or
NoticeInterval). -/
def State.refillBuckets (s : State) : State :=
  { s with paths := { s.paths with
    buckets := (s.paths.buckets.map (fun e => (e.1, { Bucket.full with suppressed := e.2.suppressed }))).filter
      (fun e => decide (e.2 ≠ Bucket.full)) } }

/-! ### Results (R420) -/

def rcOk : Nat := 0x0000
def rcStateRefused : Nat := 0xE001
def rcAbsent : Nat := 0xE002
def rcAccessDenied : Nat := 0xE003
def rcRangeError : Nat := 0xE004
def rcGoverned : Nat := 0xE005
def rcTintMismatch : Nat := 0xE006
def rcSignatureInvalid : Nat := 0xE007
def rcStaleGeneration : Nat := 0xE008
def rcNoRoom : Nat := 0xE009
def rcLatencyExceeded : Nat := 0xE00A
def rcDataFault : Nat := 0xE00B
def rcTypeMismatch : Nat := 0xE00C

/-! ### Ports, cores, slots -/

/-- A lane of an untrained port. -/
def Lane.down : Lane :=
  { status := 0, sent := [], retries := [], retried := [], errors := 0, reportA := none, reportB := none, resent := (0, 0) }

/-- An untrained port. -/
def Port.down : Port :=
  { lanes := [], landing := [], late := [], seen := [], queue := [], resend := [], nextSeq := 0, lastSeq := none, acked := none, phase := 0,
    identity := none, requested := false }

/-- A port's record. -/
def State.port (s : State) (p : Nat) : Port := Map.get s.ports Port.down p

/-- Changes a port's record. -/
def State.setPort (s : State) (p : Nat) (v : Port) : State := { s with ports := Map.set s.ports Port.down p v }

/-- A lane of a port. -/
def Port.lane (p : Port) (l : Nat) : Lane := Map.get p.lanes Lane.down l

/-- Changes a lane of a port. -/
def Port.setLane (p : Port) (l : Nat) (v : Lane) : Port := { p with lanes := Map.set p.lanes Lane.down l v }

/-- A queue with nothing to run. -/
def QueueState.idle : QueueState :=
  { released := [], bundle := none, calls := [], plumb := none, plumbAt := 0, flush := false, ao := 0, aoSoon := [],
    busy := 0, index := 0 }

/-- A sequencer at the start of nothing. -/
def Sequencer.idle : Sequencer :=
  { counts := [], comparators := [], loops := [], until_ := (0, 0), waits := [], arrivals := [] }

/-- A core that holds nothing. -/
def Core.empty : Core := { hods := [], takes := [], arrays := [], queues := [], seq := Sequencer.idle }

/-- An array that holds nothing. -/
def ArrayState.empty : ArrayState :=
  { descs := [], fills := [], active := none, passes := [], vat := [], recent := [], busyTo := 0 }

/-- A core's record. -/
def State.core (s : State) (c : Nat) : Core := Map.get s.cores Core.empty c

/-- Changes a core's record. -/
def State.setCore (s : State) (c : Nat) (v : Core) : State := { s with cores := Map.set s.cores Core.empty c v }

/-- An array of a core. -/
def Core.array (c : Core) (a : Nat) : ArrayState := Map.get c.arrays ArrayState.empty a

/-- Changes an array of a core. -/
def Core.setArray (c : Core) (a : Nat) (v : ArrayState) : Core :=
  { c with arrays := Map.set c.arrays ArrayState.empty a v }

/-- A queue of a core. -/
def Core.queue (c : Core) (q : Nat) : QueueState := Map.get c.queues QueueState.idle q

/-- Changes a queue of a core. -/
def Core.setQueue (c : Core) (q : Nat) (v : QueueState) : Core :=
  { c with queues := Map.set c.queues QueueState.idle q v }

/-- A hod of a core, oldest entry first. -/
def Core.hod (c : Core) (h : Nat) : List Bytes := Map.get c.hods [] h

/-- Changes a hod of a core. -/
def Core.setHod (c : Core) (h : Nat) (v : List Bytes) : Core := { c with hods := Map.set c.hods [] h v }

/-- The reset record of a slot (R343): AdmissionCourse all ones, AdapterId 0xFFFF, the rest 0. -/
def Slot.clear : Slot :=
  { state := 0, tint := 0, phase := 0, epoch := 0, start := 0, admission := allOnes64, generation := 0,
    adapter := 0xFFFF, request := 0, qp := 0, promptLength := 0, promptFirst := 0, promptWindow := 0, params := [],
    inputDigest := [], committed := 0, nextToken := 0, generated := 0, recent := [], output := Sponge.empty,
    draft := 0, zeroRun := 0, paused := 0, accepted := 0, reason := 0, due := none, ordered := false,
    cancelled := false, fault := none, reported := [], finalSent := false, formed := [], emitted := 0, reemit := 0, releasedAt := 0,
    releaseCourse := 0, unrecoverable := false, history := [] }

/-- A slot's record. -/
def State.slot (s : State) (n : Nat) : Slot := Map.get s.serving.slots Slot.clear n

/-- Changes a slot's record. -/
def State.setSlot (s : State) (n : Nat) (v : Slot) : State :=
  { s with serving := { s.serving with slots := Map.set s.serving.slots Slot.clear n v } }

/-- TintSlots of the plan that runs or is loaded, 0 with none. -/
def State.tintSlots (s : State) : Nat :=
  match s.plan.running, s.plan.loaded with
  | some p, _ => p.tintSlots
  | none, some p => p.tintSlots
  | none, none => 0

/-- A queue pair in Reset (R391). -/
def Qp.fresh : Qp :=
  { state := 0, record := [], rkey := 0, received := 0, replies := 0, statuses := 0, credits := 0, reports := 0,
    outstanding := [], held := [], retries := 0, paused := false, buffer := [], statusAt := [], statusDue := [],
    cnpAt := none }

/-- A queue pair. -/
def State.qp (s : State) (n : Nat) : Qp := Map.get s.qps Qp.fresh n

/-- Changes a queue pair. -/
def State.setQp (s : State) (n : Nat) (v : Qp) : State := { s with qps := Map.set s.qps Qp.fresh n v }

end Sys2Proof.Machine
end

