-- ==== Sys2Proof/WellFormed.lean ====
section
/-! DEFINITION. Well-formed commands: every unit number is one the largest part has, every field of an instruction
fits its bits (R137), every value of a request fits the longest fixed type (R413). -/

namespace Sys2Proof

/-- An optical port (R41). -/
def portOk (p : Nat) : Bool := decide (p < 64)

/-- A lane of a port (R222). -/
def laneOk (l : Nat) : Bool := decide (l < 8)

/-- A cluster index (R45). -/
def clusterOk (c : Nat) : Bool := decide (c < 128)

/-- A logical position of a cluster (R45). -/
def positionOk (p : Nat) : Bool := decide (p < 8)

/-- A core number, cluster index × 8 + position (R432). -/
def coreOk (c : Nat) : Bool := decide (c < 1024)

/-- An engine of R107: 0 to 3 the arrays, 4 the Glaze unit. -/
def engineOk (e : Nat) : Bool := decide (e < 5)

/-- A queue of a core: 0 to 3 A0 to A3, 4 V, 5 M, 6 N, 7 Q (R133). -/
def queueOk (q : Nat) : Bool := decide (q < 8)

/-- A die-to-die edge (R247). -/
def edgeOk (e : Nat) : Bool := decide (e < 24)

/-- A queue pair index (R409). -/
def qpOk (q : Nat) : Bool := decide (q < 4096)

/-- An ingress or bond role index (R378). -/
def roleOk (n : Nat) : Bool := decide (n < 4)

/-- An ingress window (R263). -/
def windowOk (w : Nat) : Bool := decide (w < 16)

/-- A tint slot (R306, R343). -/
def slotOk (s : Nat) : Bool := decide (s < 4096)

/-- A flit slot of a lane; 28 is the retry slot (R223). -/
def flitSlotOk (s : Nat) : Bool := decide (s < 29)

/-- A gateway slot (R429). -/
def gatewayOk (s : Nat) : Bool := decide (s < 16)

/-- Fields of 8, 12, 16, 64 and 128 bits. -/
def u8Ok (v : Nat) : Bool := decide (v < 2 ^ 8)
def u12Ok (v : Nat) : Bool := decide (v < 2 ^ 12)
def u16Ok (v : Nat) : Bool := decide (v < 2 ^ 16)
def u64Ok (v : Nat) : Bool := decide (v < 2 ^ 64)
def word128Ok (v : Nat) : Bool := decide (v < 2 ^ 128)

/-- A cycle of a plan course (R116). -/
def planCycleOk (c : Nat) : Bool := decide (c < 512)

/-- An issue place. -/
def Issue.ok (q : Issue) : Bool := coreOk q.core && queueOk q.queue && planCycleOk q.cycle

/-- Instruction fields that fit their bits (R137). -/
def Fields.ok (f : Fields) : Bool :=
  decide (f.dst < 32) && decide (f.srcA < 32) && decide (f.srcB < 32) && decide (f.fmt < 32) &&
    decide (f.flags < 16) && decide (f.imm < 2 ^ 32)

/-- A well-formed command. -/
def Instr.wellFormed (i : Instr) : Bool :=
  match i with
  | .courseStart => true
  | .epochCourse _ _ _ => true
  | .referenceInvalid => true
  | .courseSourceWrite _ value => u64Ok value
  | .courseLoad _ value => u64Ok value
  | .courseMark port mark _ => portOk port && word128Ok mark
  | .parentReselect => true
  | .courseHoldover => true
  | .courseLocked => true
  | .sourceReturn _ _ => true
  | .phaseStep => true
  | .leadCourse => true
  | .delayProbe port _ _ => portOk port
  | .dueCheck => true
  | .planStalled => true
  | .restCourse => true
  | .linkRetry port lane => portOk port && laneOk lane
  | .tileReread _ _ => true
  | .scrubStep _ _ _ _ => true
  | .pointingHousekeeping _ => true
  | .sensorSample _ _ => true
  | .maintenanceMicrostep cluster _ => clusterOk cluster
  | .launchCourseWrite _ value => u64Ok value
  | .launch => true
  | .launchRefused => true
  | .quoinCourse => true
  | .correctedThreshold cluster position => clusterOk cluster && positionOk position
  | .substituteCore _ value => u64Ok value
  | .substitutionRegisterCopy cluster _ => clusterOk cluster
  | .substitutionSwap cluster => clusterOk cluster
  | .unitMapChange => true
  | .engineFlagsClear _ cluster position engine value _ => clusterOk cluster && positionOk position && engineOk engine && u64Ok value
  | .clearAllFlags _ value _ => u64Ok value
  | .nop q f => q.ok && f.ok
  | .wait q f => q.ok && f.ok
  | .plumb q f => q.ok && f.ok
  | .plumbRelease core arrival => coreOk core && u16Ok arrival.mark && planCycleOk arrival.cycle
  | .callRoutine q f => q.ok && f.ok
  | .ret q f => q.ok && f.ok
  | .endBundle q f => q.ok && f.ok
  | .fmode q f => q.ok && f.ok
  | .bundleStart core queue => coreOk core && queueOk queue
  | .tset q f => q.ok && f.ok
  | .tfill q f _ _ => q.ok && f.ok
  | .tileVerdict core engine => coreOk core && engineOk engine
  | .suspensionEnd => true
  | .mma q f _ => q.ok && f.ok
  | .vrd q f => q.ok && f.ok
  | .addLane q f => q.ok && f.ok
  | .subLane q f => q.ok && f.ok
  | .mulLane q f => q.ok && f.ok
  | .fma q f => q.ok && f.ok
  | .divLane q f => q.ok && f.ok
  | .sqrt q f => q.ok && f.ok
  | .minLane q f => q.ok && f.ok
  | .maxLane q f => q.ok && f.ok
  | .fn q f => q.ok && f.ok
  | .tbl q f => q.ok && f.ok
  | .red q f => q.ok && f.ok
  | .sqa q f => q.ok && f.ok
  | .rot q f => q.ok && f.ok
  | .amax q f => q.ok && f.ok
  | .topk q f => q.ok && f.ok
  | .rng q f => q.ok && f.ok
  | .cvt q f => q.ok && f.ok
  | .dup q f => q.ok && f.ok
  | .ld q f _ => q.ok && f.ok
  | .st q f => q.ok && f.ok
  | .sta q f => q.ok && f.ok
  | .ldi q f _ => q.ok && f.ok
  | .sti q f => q.ok && f.ok
  | .wcol q f => q.ok && f.ok
  | .wrow q f => q.ok && f.ok
  | .fill q f => q.ok && f.ok
  | .copy q f _ => q.ok && f.ok
  | .snd q f => q.ok && f.ok
  | .sndt q f _ => q.ok && f.ok
  | .due q f => q.ok && f.ok
  | .tsig q f => q.ok && f.ok
  | .lva q f => q.ok && f.ok
  | .rel q f => q.ok && f.ok
  | .lp q f => q.ok && f.ok
  | .setCount q f => q.ok && f.ok
  | .addc q f => q.ok && f.ok
  | .kset q f => q.ok && f.ok
  | .bk q f => q.ok && f.ok
  | .wcrs q f => q.ok && f.ok
  | .ao q f => q.ok && f.ok
  | .twait q f => q.ok && f.ok
  | .lvw q f => q.ok && f.ok
  | .swapArm _ value => u64Ok value
  | .bankSwap => true
  | .handoffSwap cluster => clusterOk cluster
  | .trowelFault cluster _ => clusterOk cluster
  | .slotClearingDone slot => slotOk slot
  | .slotStampingDone slot => slotOk slot
  | .edgeBlockFailure edge => edgeOk edge
  | .edgeRetrain edge => edgeOk edge
  | .flitReceived port lane slot _ _ _ => portOk port && laneOk lane && flitSlotOk slot
  | .lateFlitWrite port => portOk port
  | .linkReport port lane word => portOk port && laneOk lane && word128Ok word
  | .reportTimeout port lane _ => portOk port && laneOk lane
  | .relayForward port route flitIndex egress lane slot => portOk port && u12Ok route && u8Ok flitIndex && portOk egress && laneOk lane && flitSlotOk slot
  | .laneDown port lane _ => portOk port && laneOk lane
  | .laneRetrainDone port lane _ _ => portOk port && laneOk lane
  | .retrain _ port value => portOk port && u64Ok value
  | .partnerChange port _ _ => portOk port
  | .pointingMessage port lane word => portOk port && laneOk lane && word128Ok word
  | .pointingResend port => portOk port
  | .signalArrival packet => word128Ok packet
  | .levelArrival packet => word128Ok packet
  | .levelRelease packet => word128Ok packet
  | .ingressRecord qp window _ => qpOk qp && windowOk window
  | .bar2Write _ _ => true
  | .planLoad _ value => u64Ok value
  | .planLoaderDone _ => true
  | .planDiscard _ value => u64Ok value
  | .planHalt _ value => u64Ok value
  | .planHalted => true
  | .descriptor qp _ => qpOk qp
  | .batchBuild => true
  | .orderBatch qp _ => qpOk qp
  | .orderApply => true
  | .abortReport qp _ => qpOk qp
  | .governorEvaluation _ => true
  | .tokenRecord _ => true
  | .recordSend qp => qpOk qp
  | .loadGeneration _ value => u64Ok value
  | .loadAdapter _ value => u64Ok value
  | .loadAbort _ value => u64Ok value
  | .weightRecord => true
  | .creditMessage _ => true
  | .creditSend => true
  | .switchCourse _ value => u64Ok value
  | .generationSwitch => true
  | .generationDiscard _ value => u64Ok value
  | .adapterUnload _ value => u64Ok value
  | .trainingPhase port word => portOk port && word128Ok word
  | .trainingTimeout port => portOk port
  | .portRoleMismatch port _ _ => portOk port
  | .ethFrame ingress _ => roleOk ingress
  | .txSak _ ingress _ => roleOk ingress
  | .rxSak _ ingress _ => roleOk ingress
  | .rocePacket ingress _ _ _ _ => roleOk ingress
  | .rdmaWrite qp _ _ _ => qpOk qp
  | .qpConfig _ _ => true
  | .qpReset _ value => u64Ok value
  | .qpRetryTimeout qp => qpOk qp
  | .functionReset _ => true
  | .claim _ _ => true
  | .confirm _ _ => true
  | .claimTimeout => true
  | .deviceIdWrite _ value => u64Ok value
  | .dictionaryFrame _ _ => true
  | .gatewaySubmit slot => gatewayOk slot
  | .readSegment _ index sub typ _ => u16Ok index && u8Ok sub && u8Ok typ
  | .registerWrite _ index sub typ _ _ _ _ => u16Ok index && u8Ok sub && u8Ok typ
  | .writeSegmentTimeout _ => true
  | .describe _ index sub => u16Ok index && u8Ok sub
  | .nextEntry _ index sub => u16Ok index && u8Ok sub
  | .noticeRaise _ _ _ _ => true
  | .noticeSendChain => true
  | .noticeRingWrite _ => true
  | .ringControl value => u64Ok value
  | .powerRequest _ value => u64Ok value
  | .powerTransitionStart => true
  | .powerTransitionDone => true
  | .sleepEntry => true
  | .wakeAtCourse => true
  | .chainWakeFrame _ _ => true
  | .wakeNLow => true
  | .supplyLow _ => true
  | .supplyReturn => true
  | .overVoltage => true
  | .sleepTempEvent => true
  | .woken _ => true
  | .thermalShutdown => true
  | .coolantFlowLow => true
  | .attestNonce _ _ => true
  | .attestComplete => true
  | .spdmRequest _ => true
  | .ownerEnroll _ _ => true
  | .ownerChange _ _ => true
  | .lifecycleToken _ _ => true
  | .debugRequest _ value => u64Ok value
  | .debugToken _ _ => true
  | .debugRead _ => true
  | .debugWrite _ _ => true
  | .traceStart => true
  | .securityVersionCommit _ value => u64Ok value
  | .notafterPassed => true
  | .bondModeWrite _ value => u64Ok value
  | .bondYield _ value => u64Ok value
  | .heartbeat bond lane word => roleOk bond && laneOk lane && word128Ok word
  | .partnerLost => true
  | .bondReport qp _ => qpOk qp
  | .bondTakeover => true
  | .bondTakenOver => true
  | .mirrorRecord _ => true
  | .mirrorBufferFull => true
  | .bondDegraded => true
  | .resyncDone => true
  | .repairRequest port _ => portOk port
  | .repairTile _ _ => true
  | .repairTimeout => true
  | .noRepairSource => true
  | .damageReport qp _ => qpOk qp
  | .firmwareActivate _ value => u64Ok value
  | .firmwareActivation => true
  | .keystoneRestartDone => true
  | .patchLoad _ value => u64Ok value
  | .patchActivate _ value => u64Ok value
  | .patchSwap => true
  | .retireCluster _ value => u64Ok value
  | .maintenanceRelease => true
  | .attemptStart _ => true
  | .resetN _ => true
  | .pwrGoodDeassert => true
  | .powerLoss => true
  | .startConfirmed => true
  | .startFailed _ _ => true
  | .startRetry _ value => u64Ok value
  | .slotSelect _ value => u64Ok value
  | .slotImage _ _ => true
  | .slotStage _ value => u64Ok value
  | .diagnosticRun _ value _ => u64Ok value
  | .clearWithheld _ value => u64Ok value
  | .hardFault _ _ => true
  | .planStop => true
  | .storeStuck _ => true
  | .fatalFault _ => true
  | .bar0Write _ _ value => u64Ok value
  | .ingressLinkChange ingress _ => roleOk ingress
  | .pcieLinkChange _ _ _ => true
  | .ideKmExchange _ => true
  | .edgeLossOfLock edge => edgeOk edge
  | .edgeRetrainDone edge => edgeOk edge
  | .spareFault cluster => clusterOk cluster
  | .trowelRestartDone cluster => clusterOk cluster

end Sys2Proof
end

