-- ==== Sys2Proof/Machine/Requests.lean ====
section
/-! DEFINITION. How a request is judged (R413 to R423): the checks of R419 in their order, the record of an Absent
result (R422), the state word (R421), and the response. -/

namespace Sys2Proof.Machine

/-- The module is in Run, Hold or Doze. -/
def State.awake (s : State) : Bool :=
  match s.power.mode with
  | .run | .hold | .doze => true
  | .sleep | .off | .inReset => false

/-- The PowerState code of R460 and R463: 0 Run, 1 Hold, 2 Doze, 3 Sleep. -/
def powerCode (m : PowerMode) : Nat :=
  match m with
  | .run => 0
  | .hold => 1
  | .doze => 2
  | .sleep | .off | .inReset => 3

/-- The module is in Limewash: StartState 3 (R549). -/
def State.limewash (s : State) : Bool := s.reg Reg.startState == 3

/-- The state word of R421. -/
def State.stateWord (s : State) : Nat :=
  s.reg Reg.lockState * 2 ^ 20 + s.reg Reg.launchState * 2 ^ 16 + s.reg Reg.planState * 2 ^ 12 +
    s.reg Reg.bondMode * 2 ^ 10 + s.reg Reg.debugLevel * 2 ^ 8 + s.reg Reg.lifecycle * 2 ^ 5 +
    flagNat s.limewash * 2 ^ 4 + powerCode s.power.mode % 16

/-- The row of an index:sub pair, if it is defined. -/
def findEntry (index sub : Nat) : Option Entry :=
  dictionary.find? fun e =>
    decide (e.index ≤ index ∧ index < e.index + e.count ∧ e.lo ≤ sub ∧ sub ≤ e.hi)

/-- The value length of a fixed type (R413); 0 for STR, BLOB and DOMAIN. -/
def typeLength (t : Nat) : Nat :=
  if t = 1 ∨ t = 7 then 1 else if t = 2 then 2 else if t = 3 ∨ t = 5 ∨ t = 6 then 4 else if t = 4 then 8 else 0

/-- A path is PCI Express. -/
def viaPcie (v : Via) : Bool :=
  match v with
  | .chain _ => false
  | .pcie _ => true

/-- The path code of R422: 0 chain, 1 PCI Express. -/
def viaCode (v : Via) : Nat := flagNat (viaPcie v)

/-- Over PCI Express with an IDE stream active. -/
def State.secure (s : State) (v : Via) : Bool := viaPcie v && s.reg Reg.ideActive == 1

/-- The debug level that an entry requires (R489, R498, R499). -/
def entryLevel (index sub : Nat) : Nat :=
  if 0x4400 ≤ index ∧ index ≤ 0x447F then 1
  else if index = 0x4500 ∧ sub = 1 then 1
  else if 0x5200 ≤ index ∧ index ≤ 0x521F then 1
  else if index = 0x8020 ∧ sub = 9 then 1
  else if index = 0x8100 then (if sub = 4 then 3 else 2)
  else 0

/-- Check 4: path, IDE and debug level (R418, R489; levels 2 and 3 are reached over PCI Express with IDE). -/
def State.allowed (s : State) (v : Via) (e : Entry) (index sub : Nat) : Bool :=
  let l := entryLevel index sub
  (!bit e.flags 1 || viaPcie v) && (!bit e.flags 2 || s.secure v) && decide (l ≤ s.reg Reg.debugLevel) &&
    (decide (l < 2) || s.secure v)

/-- The role ports of R376 in ascending order: ingress 0, bond 0, ingress 1, … -/
def rolePorts : List Nat := [3, 11, 19, 27, 35, 43, 51, 59]

/-- The port to which a role port moves on a part with fused bricks (R377), given those already placed. -/
def State.rehome (s : State) (taken : List Nat) (p : Nat) : Nat :=
  let b := p / 4
  if s.brickOn b then p
  else
    let q := 4 * (b ^^^ 1) + 3
    let free (r : Nat) : Bool := !taken.contains r && !(rolePorts.contains r && s.brickOn (r / 4))
    if s.brickOn (b ^^^ 1) && free q then q
    else (((List.range 16).filter fun c => s.brickOn c && free (4 * c + 3)).map fun c => 4 * c + 3).headD p

/-- Where the eight role ports stand, in the order of `rolePorts` (R377). -/
def State.roleHomes (s : State) : List Nat :=
  rolePorts.foldl (fun acc p => acc ++ [s.rehome acc p]) []

/-- The port of ingress index n, and of bond index n (R378). -/
def State.ingressPort (s : State) (n : Nat) : Nat := s.roleHomes.getD (2 * n) 0
def State.bondPort (s : State) (n : Nat) : Nat := s.roleHomes.getD (2 * n + 1) 0

/-- A port's role (R408): 0 fabric, 1 bond, 2 ingress, 0xFF dark. -/
def State.portRole (s : State) (p : Nat) : Nat :=
  if s.portLit p then
    match s.roleHomes.findIdx? (fun q => q == p) with
    | none => 0
    | some i => if i % 2 = 0 then 2 else 1
  else 0xFF

/-- The fabric port list (R379). -/
def State.fabricPorts (s : State) : List Nat := (List.range 64).filter fun p => s.portRole p == 0

/-- The running plan declares an ingress window (R273). -/
def State.windowDeclared (s : State) (w : Nat) : Bool :=
  match s.thePlan with
  | none => false
  | some p => p.windows.any fun x => x.window == w

/-- Check 7: the unit that an entry addresses is present (R60, R107, R130, R176, R177, R212, R213, R246, R247,
R270, R273, R343). -/
def State.unitPresent (s : State) (index sub : Nat) : Bool :=
  if 0xA100 ≤ index ∧ index ≤ 0xA17F then
    let c := index - 0xA100
    s.clusterOn c && ((sub - 1) % 5 = 4 || decide ((sub - 1) % 5 < arraysOf c))
  else if index = 0xA180 then s.clusterOn (sub - 1)
  else if 0xA200 ≤ index ∧ index ≤ 0xA27F then s.clusterOn (index - 0xA200)
  else if 0xA300 ≤ index ∧ index ≤ 0xA37F then s.clusterOn (index - 0xA300)
  else if 0xA400 ≤ index ∧ index ≤ 0xA47F then s.clusterOn (index - 0xA400)
  else if 0xA500 ≤ index ∧ index ≤ 0xA57F then s.clusterOn (index - 0xA500)
  else if 0x4200 ≤ index ∧ index ≤ 0x427F then s.clusterOn (index - 0x4200)
  else if 0x4400 ≤ index ∧ index ≤ 0x447F then s.clusterOn (index - 0x4400)
  else if 0xA580 ≤ index ∧ index ≤ 0xA58F then s.brickOn (index - 0xA580)
  else if index = 0x9040 then s.brickOn ((sub - 1) / 8)
  else if 0x7100 ≤ index ∧ index ≤ 0x713F then s.portRole (index - 0x7100) == 0
  else if 0x7200 ≤ index ∧ index ≤ 0x7217 then s.edgeOn (index - 0x7200)
  else if 0x7300 ≤ index ∧ index ≤ 0x730F then s.windowDeclared (index - 0x7300)
  else if 0x5200 ≤ index ∧ index ≤ 0x521F then decide ((index - 0x5200) * 128 + (sub - 1) < s.tintSlots)
  else true

/-- Check 8: the mask of R416 allows the module's state. -/
def State.stateAllows (s : State) (e : Entry) : Bool :=
  bit e.states (powerCode s.power.mode) && (!s.limewash || bit e.states 3)

/-- A value's signed reading for I32 range checks. -/
def inRange (e : Entry) (index sub v : Nat) : Bool :=
  if index = 0x2000 ∧ sub = 9 then
    let i := toSigned 32 v
    decide (-64 ≤ i ∧ i ≤ 64)
  else decide (e.minimum ≤ v ∧ v ≤ e.maximum)

/-- A binary32 pattern is a NaN (R413). -/
def isNaN32 (v : Nat) : Bool := v / 2 ^ 23 % 2 ^ 8 == 0xFF && v % 2 ^ 23 != 0

/-- Check 9 on a fixed value: reserved bits, range and encoding. The entries whose encoding has gaps are named
here; every other range is the row's. -/
def fixedValueOk (e : Entry) (index sub v : Nat) : Bool :=
  inRange e index sub v && (e.typ ≠ 6 || !isNaN32 v) &&
    (if index = 0x5000 ∧ sub = 7 then v = 0 || decide (2 ≤ v)
     else if index = 0x6000 ∧ sub = 4 then decide (v < 64) || v = 0xFF
     else if index = 0x3030 ∧ sub = 3 then v = 0 || v = 2
     else if index = 0x3000 ∧ sub = 2 then v % 0x80 < 4
     else if index = 0x8100 ∧ sub = 2 then v % 4 = 0
     else if 0x7410 ≤ index ∧ index ≤ 0x7413 ∧ sub = 5 then v = 0xFFFF || !bit v 12
     else if 0x7410 ≤ index ∧ index ≤ 0x7413 ∧ sub = 6 then decide (v < 8) || v = 0xFF
     else if index = 0x9020 ∧ sub = 6 then decide (v < 128) || v = 0xFFFF
     else true)

/-- Check 9 on a whole STR or BLOB value: its length, and the bytes of a STR. -/
def blobValueOk (e : Entry) (v : Bytes) : Bool :=
  decide (e.minimum ≤ v.length ∧ v.length ≤ e.maximum) &&
    (e.typ ≠ 8 || v.all fun b => decide (0x20 ≤ b.toNat ∧ b.toNat ≤ 0x7E))

/-- Records an Absent result (R422). -/
def State.recordAbsent (s : State) (v : Via) (index sub op : Nat) : State :=
  let s := s.bump Reg.absentAccesses
  let s := s.setReg Reg.lastAbsent (index * 2 ^ 16 + sub * 2 ^ 8 + viaCode v)
  s.notice Note.absentAccess srcModule (u16 index ++ u8 sub ++ u8 (viaCode v) ++ u8 op)

/-- Counts a result (R444). -/
def State.countResult (s : State) (rc : Nat) : State :=
  if rc = rcStateRefused then s.bump Reg.stateRefusals
  else if rc = rcAccessDenied then s.bump Reg.accessDenials
  else if rc = rcRangeError then s.bump Reg.rangeErrors
  else if rc = rcTypeMismatch then s.bump Reg.typeMismatches
  else s

/-- The value of a response: the state word for StateRefused (R421), else what was served. -/
def State.resultValue (s : State) (rc : Nat) (value : Bytes) : Bytes :=
  if rc = rcStateRefused then u32 s.stateWord else if rc = rcOk then value else []

/-- Counts an executed request by its path (R444). -/
def State.countRequest (s : State) (v : Via) : State :=
  s.bump (if viaPcie v then Reg.gatewayRequests else Reg.chainRequests)

/-- Checks 3 to 8 of R419 for an access; `write` tells a write from a read. A value length is judged for a
complete fixed-type value only (check 6). -/
def State.judgeAccess (s : State) (v : Via) (index sub typ : Nat) (write : Bool) (len : Option Nat) : Nat × Option Entry :=
  if 0xF000 ≤ index then
    -- R440: the vendor range is not part of the manual; below D3 every access is denied.
    (if s.reg Reg.debugLevel < 3 then rcAccessDenied else rcRangeError, none)
  else
    match findEntry index sub with
    | none => (rcRangeError, none)
    | some e =>
      if !s.allowed v e index sub then (rcAccessDenied, none)
      else if (if write then e.access = 0 || e.access = 4 else e.access = 2) then (rcAccessDenied, none)
      else if typ ≠ e.typ then (rcTypeMismatch, none)
      else if typeLength e.typ ≠ 0 ∧ len ≠ none ∧ len ≠ some (typeLength e.typ) then (rcTypeMismatch, none)
      else if !s.unitPresent index sub then (rcAbsent, none)
      else if !s.stateAllows e then (rcStateRefused, none)
      else (rcOk, some e)

/-- Check 9 on a whole value. -/
def valueOk (e : Entry) (index sub : Nat) (value : Bytes) : Bool :=
  if typeLength e.typ = 0 then blobValueOk e value else fixedValueOk e index sub (leVal value)

/-- A whole value reaches its entry: check 9, then the entry's own conditions and action (`act`); a BOOL action
entry written 0 is Ok without effect (R414). -/
def State.applyWhole (s : State) (e : Entry) (index sub : Nat) (value : Bytes) (act : State → Nat × State) :
    Nat × State :=
  if !valueOk e index sub value then (rcRangeError, s)
  else if e.typ = 7 && e.access = 2 && leVal value = 0 then (rcOk, s)
  else act s

/-- Counts a result, records an Absent one, and sends the response. -/
def State.respond (s : State) (v : Via) (index sub op rc : Nat) (value : Bytes) : State :=
  let s := if rc = rcAbsent then s.recordAbsent v index sub op else s
  let s := s.countResult rc
  s.emit (.response v rc (s.resultValue rc value))

/-- Whether the module can serve a request that came by a path: awake, and on the chain addressed (R401, R416). -/
def State.serves (s : State) (v : Via) : Bool := s.awake && (viaPcie v || s.reg Reg.chainState == 2)

/-- The Keystone restarts, and requests on both paths wait (R516). -/
def State.keystoneDown (s : State) : Bool := s.reg Reg.activationState == 2

/-- A request waits for the end of the Keystone restart. -/
def State.holdBack (s : State) (w : Waiting) : State :=
  { s with paths := { s.paths with waiting := s.paths.waiting ++ [w] } }

/-- A whole write of an entry, judged under R419 and applied. -/
def State.writeNow (s : State) (v : Via) (index sub typ : Nat) (value : Bytes) (act : State → Nat × State) : State :=
  if s.serves v then
    let s := s.countRequest v
    match s.judgeAccess v index sub typ true (some value.length) with
    | (rc, none) => s.respond v index sub 2 rc []
    | (_, some e) =>
      let r := s.applyWhole e index sub value act
      r.2.respond v index sub 2 r.1 []
  else s

/-- A whole write, which waits while the Keystone restarts. -/
def State.writeRequest (s : State) (v : Via) (index sub typ : Nat) (value : Bytes) (act : State → Nat × State) : State :=
  if s.keystoneDown then s.holdBack (.write v index sub typ value) else s.writeNow v index sub typ value act

/-- A write whose value is a number: too large for the entry's type, its length is not valid (check 6). -/
def State.writeNumber (s : State) (v : Via) (index sub typ value : Nat) (act : State → Nat × State) : State :=
  s.writeRequest v index sub typ
    (if value < 2 ^ (8 * typeLength typ) then leBytes (typeLength typ) value else leBytes (typeLength typ + 8) value) act

/-- Replaces an RW register (R414). -/
def State.putReg (s : State) (r : RegId) (v : Nat) : Nat × State := (rcOk, s.setReg r v)

/-! ### The joint (R20, R22) -/

/-- The present course runs joint priorities 3, 4 and 6: Run, and no rest course (R22, R447). -/
def State.lowPriorities (s : State) : Bool :=
  s.power.mode == .run &&
    (match s.prog.kind with
      | .rest _ | .held => false
      | .idle | .work _ | .slip _ | .grout _ | .lead | .phase => true)

/-- The present course is a Hold course, in which only priorities 1 and 5 of R20 run (R447). -/
def State.inHold (s : State) : Bool := s.power.mode == .hold || s.prog.kind == .held

end Sys2Proof.Machine
end

