-- ==== Sys2Proof/Machine/Faults.lean ====
section
/-! DEFINITION. What many families do alike: a SEND on a queue pair (R393, R395), the abort of a tint (R317), the
records of array and format faults (R104, R131), a hard fault (R54, R545, R546), and the end of a substitution
(R53). -/

namespace Sys2Proof.Machine

/-! ### Queue pairs -/

/-- Purpose of a queue pair's record (R390). -/
def Qp.purpose (q : Qp) : Nat := byteAt q.record 0

/-- Ingress index of a queue pair. -/
def Qp.ingress (q : Qp) : Nat := byteAt q.record 1

/-- A queue pair is held: paused, or 64 messages unacknowledged (R395). -/
def Qp.isHeld (q : Qp) : Bool := q.paused || decide (64 ≤ q.outstanding.length)

/-- No key installed on an ingress port. -/
def Macsec.off : Macsec := { tx := none, rx := none, rxOld := none }

/-- The keys of an ingress port, and a change of them. -/
def State.macsecOf (s : State) (n : Nat) : Macsec := Map.get s.macsec Macsec.off n
def State.setMacsec (s : State) (n : Nat) (v : Macsec) : State := { s with macsec := Map.set s.macsec Macsec.off n v }

/-- Packet numbers of the cipher of an ingress port (R387, R411). -/
def State.packetRange (s : State) (n : Nat) : Nat := if s.reg (Reg.macsecCipher n) = 0 then 2 ^ 32 else 2 ^ 64

/-- A packet leaves by an ingress port whose link is up: with a transmit key it takes a packet number, MacsecRekeyDue is
sent when the numbers pass 75 % of their range, and at the end of the range nothing leaves (R387, R405). -/
def State.transmit (s : State) (n : Nat) (o : Out) : State :=
  if s.reg (Reg.ethLinkState n) = 0 then s
  else
  match (s.macsecOf n).tx with
  | none => s.emit o
  | some _ =>
    let r := s.packetRange n
    let pn := s.reg (Reg.txPacketNumber n)
    if pn % r = 0 then s
    else
      let s := (s.emit o).setReg (Reg.txPacketNumber n) (pn + 1)
      if pn = 3 * (r / 4) then
        s.notice Note.macsecRekeyDue (srcRole n) (u8 n ++ u8 (s.reg (Reg.txAn n)) ++ u64 (s.reg (Reg.txPacketNumber n)))
      else s

/-- An outbound SEND: nothing on a queue pair that is not Ready; held messages wait (R389, R395). -/
def State.sendQp (s : State) (n imm : Nat) (data : Bytes) : State :=
  let q := s.qp n
  if q.state ≠ 1 then s
  else if q.isHeld then s.setQp n { q with held := q.held ++ [(imm, data)] }
  else (s.setQp n { q with outstanding := q.outstanding ++ [(imm, data)] }).transmit q.ingress (.send n imm data)

/-- The Ready order queue pairs, in ascending index (assumption 20). -/
def State.orderQps (s : State) : List Nat :=
  (s.qps.filter fun e => e.2.state == 1 && e.2.purpose == 3).map (·.1)

/-- A message of a member to its head, on the reverse direction of its order queue pair (R317, R510, R544): bytes
0 to 3 take its report number. -/
def State.sendHead (s : State) (imm : Nat) (body : Bytes) : State :=
  match s.orderQps.head? with
  | none => s
  | some n =>
    let q := s.qp n
    (s.setQp n { q with reports := q.reports + 1 }).sendQp n imm (padTo 64 (u32 (q.reports + 1) ++ body))

/-! ### Aborted tints (R317, R331) -/

/-- The abort report of R317, after its Sequence. -/
def State.abortReport (s : State) (slot reason course : Nat) : Bytes :=
  u16 slot ++ u16 (s.slot slot).tint ++ u8 reason ++ zeros 7 ++ u64 course ++ u16 (s.reg Reg.deviceId)

/-- The notice of an aborted tint. -/
def State.noticeAborted (s : State) (slot reason course reporter : Nat) : State :=
  s.notice Note.tintAborted (srcSlot slot)
    (u16 slot ++ u16 (s.slot slot).tint ++ u8 reason ++ u64 course ++ u16 reporter)

/-- A final record that has not left yet is withdrawn, with its digest (R337). -/
def State.withdrawFinal (s : State) (slot : Nat) : State :=
  let q := s.qp (s.slot slot).qp
  s.setQp (s.slot slot).qp { q with buffer := q.buffer.filter fun e => !(e.slot == slot && e.kind != 0) }

/-- The final record of a stopped stream has not left. -/
def State.finalWaits (s : State) (slot : Nat) : Bool :=
  (s.qp (s.slot slot).qp).buffer.any fun e => e.slot == slot && (e.kind == 1 || e.kind == 2)

/-- A slot becomes Aborted, from the fault on; until the release is ordered an earlier fault course replaces a later
one, and ends a stream that stopped after it and whose final record has not left (R317, R337). -/
def State.markAborted (s : State) (slot reason course reporter : Nat) : State :=
  let x := s.slot slot
  let earlier : Bool := !x.ordered && x.fault.any fun c => decide (course < c)
  if (x.state = 2 ∨ x.state = 3) ∧ x.cancelled = false then
    let s := s.setSlot slot { x with state := 5, reason := reason, fault := some course, due := some s.prog.course }
    let s := if s.reg Reg.domainRole = 1 then s.bump Reg.aborts else s
    s.noticeAborted slot reason course reporter
  else if x.state = 5 ∧ earlier then s.setSlot slot { x with reason := reason, fault := some course }
  else if x.state = 4 ∧ x.ordered = false ∧ x.due.any (fun c => decide (course < c)) ∧ s.finalWaits slot then
    let s := s.withdrawFinal slot
    let s := s.setSlot slot { x with state := 5, reason := reason, fault := some course, finalSent := false }
    (s.bump Reg.aborts).noticeAborted slot reason course reporter
  else s

/-- A member reports each reason of each tint once (R317). -/
def State.reportAbort (s : State) (slot reason course : Nat) : State :=
  let x := s.slot slot
  if s.reg Reg.domainRole ≠ 2 ∨ x.reported.contains reason ∨ (x.state ≠ 2 ∧ x.state ≠ 3 ∧ x.state ≠ 5) then s
  else
    let s := s.setSlot slot { x with reported := reason :: x.reported }
    (s.bump Reg.abortReportsSent).sendHead 6 (s.abortReport slot reason course)

/-- The module detects an abort condition for a slot. -/
def State.abortSlot (s : State) (reason course slot : Nat) : State :=
  (s.reportAbort slot reason course).markAborted slot reason course (s.reg Reg.deviceId)

/-- Every tint of a list of slots, at the present plan course. -/
def State.abortSlots (s : State) (reason : Nat) (slots : List Nat) : State :=
  slots.foldl (fun s n => s.abortSlot reason s.prog.course n) s

/-- The abort reasons of R330. -/
def whyTint : Nat := 5
def whyStale : Nat := 6
def whyData : Nat := 7

/-- The slot holds a Stamped tint (R193): states 3, 4 and 5. -/
def State.stamped (s : State) (slot : Nat) : Bool :=
  let st := (s.slot slot).state
  decide (3 ≤ st ∧ st ≤ 5)

/-! ### Array faults -/

/-- LastArrayFault and its companions (R131). -/
def State.arrayFault (s : State) (code core engine : Nat) : State :=
  let s := s.setReg Reg.lastArrayFault code
  let s := s.setReg Reg.lastArrayFaultCourse s.stamp
  s.setReg Reg.lastArrayFaultUnit (coreCluster core * 2 ^ 16 + corePosition core * 2 ^ 8 + engine)

/-- The common head of an array notice's payload. -/
def unitBytes (core engine : Nat) : Bytes := u16 (coreCluster core) ++ u8 (corePosition core) ++ u8 engine

/-- A format fault (R104, R108): no data, the tints of the pass aborted with DataFault. -/
def State.formatFault (s : State) (core engine cause : Nat) (slots : List Nat) : State :=
  let s := s.abortSlots whyData slots
  let s := (s.bump Reg.formatFaults).setReg Reg.lastFormatFault cause
  let s := s.arrayFault 4 core engine
  s.notice Note.formatFault (srcCore core) (unitBytes core engine ++ u8 cause ++ u64 s.prog.course)

/-! ### Substitutions and hard faults -/

/-- SpareState of a cluster (R63). -/
def spareReg (cluster : Nat) : RegId := Reg.spareState cluster

/-- Abandons the substitution of a cluster (R53). Cores that waited for its completion are forgotten with it: the spec
speaks of them only once the first substitution completes (assumption 34). -/
def State.abandon (s : State) (cluster reason next : Nat) : State :=
  match Map.find s.units.substitutions cluster with
  | none => s
  | some x =>
    let s := { s with units := { s.units with substitutions := Map.drop s.units.substitutions cluster } }
    let s := (s.setReg (spareReg cluster) next).bump Reg.substitutionsAbandoned
    s.notice Note.substitutionAbandoned (srcCluster cluster) (u16 cluster ++ u8 x.position ++ u8 reason)

/-- A cluster becomes pending retirement (R54, R518). -/
def State.pendRetirement (s : State) (cluster : Nat) : State :=
  if s.units.retiring.contains cluster ∨ s.clusterOn cluster = false then s
  else
    let s := { s with units := { s.units with retiring := s.units.retiring ++ [cluster] } }
    if s.reg Reg.retirePending = 0xFFFF then s.setReg Reg.retirePending cluster else s

/-- The spare of a cluster is to take a position at the boundary after a hard fault (R54). -/
def State.spareTaken (s : State) (cluster : Nat) : Bool := s.units.hardSwaps.any fun c => coreCluster c == cluster

/-- What a hard fault of a core does to its cluster (R54): a free spare is to take the position, otherwise the
cluster is pending retirement. SpareState stays 0 until the spare takes the position, where R54 makes it 2; a further
fault of the same core before that changes nothing more (assumption 34). -/
def State.coreFault (s : State) (core : Nat) : State :=
  let c := coreCluster core
  let s :=
    if (Map.find s.units.substitutions c).any (fun x => x.position == corePosition core) then s.abandon c 3 0 else s
  if s.units.hardSwaps.contains core then s
  else if s.reg (spareReg c) = 0 ∧ s.clusterOn c ∧ s.spareTaken c = false then
    { s with units := { s.units with hardSwaps := s.units.hardSwaps ++ [core] } }
  else s.pendRetirement c

/-- The source of a hard fault's notice (R432). -/
def hardSource (kind unit : Nat) : Nat :=
  if kind = 1 then srcCore unit else if kind = 2 then srcCluster unit else srcBrick unit

/-- HardFault (R553). -/
def State.noticeHard (s : State) (kind unit course : Nat) : State :=
  s.notice Note.hardFault (hardSource kind unit) (u8 kind ++ u32 unit ++ u64 course)

/-- A hard fault is detected (R54, R545, R546, R552): 1 a core, 2 a cluster store, 3 a stack group's brick. With a
plan running it stops the plan at the next course boundary, where the notice is sent. -/
def State.hardFault (s : State) (kind unit : Nat) : State :=
  let course := if s.prog.running then s.prog.course else allOnes64
  let s := s.bump Reg.hardFaults
  let s := s.setReg Reg.lastHardFault (kind * 2 ^ 24 + unit % 2 ^ 24)
  let s := s.setReg Reg.lastHardFaultCourse course
  let s := if kind = 1 then s.coreFault unit else if kind = 2 then s.pendRetirement unit else s
  if s.prog.running then { s with start := { s.start with hard := s.start.hard ++ [(kind, unit, course)] } }
  else s.noticeHard kind unit course

/-- A pop from an empty hod (R141): counted, reported, and a hard fault of the core. -/
def State.hodFault (s : State) (core hod kind : Nat) : State :=
  let s := s.bump (Reg.hodFaults (coreCluster core))
  let s := s.notice Note.hodFault (srcCore core)
    (u16 (coreCluster core) ++ u8 (corePosition core) ++ u8 hod ++ u8 kind ++ u64 s.prog.course)
  s.hardFault 1 core

end Sys2Proof.Machine
end

