-- ==== Sys2Proof/Machine/Formats.lean ====
section
/-! DEFINITION. The sixteen formats (R67 to R78): decoding to exact values, exact arithmetic, and the one rounding
(round to nearest even) with its flags (R90, R93, R103). -/

namespace Sys2Proof.Machine

/-- A value: not a number (with whether it signals), an infinity, or sign × m × 2^e exactly; m = 0 is a signed
zero. -/
inductive Num where
  | nan (signalling : Bool)
  | inf (neg : Bool)
  | fin (neg : Bool) (m : Nat) (e : Int)
  deriving DecidableEq, Repr

/-- Flag bits of R103. -/
def flOF : Nat := 1
def flUF : Nat := 2
def flIX : Nat := 4
def flIV : Nat := 8
def flFL : Nat := 16

/-- How a floating-point format spends its top exponent (R69). -/
inductive TopField where
  /-- Infinities and NaNs. -/
  | ieee
  /-- Normal values but for mantissa all ones, a NaN (E4M3). -/
  | e4m3
  /-- Finite values only. -/
  | finite
  deriving DecidableEq, Repr

/-- A floating-point format (R69). -/
structure FloatFmt where
  ebits : Nat
  mbits : Nat
  bias : Nat
  top : TopField
  /-- Whether a NaN with the top mantissa bit 0 signals (R70). -/
  signals : Bool
  deriving DecidableEq, Repr

def fp32 : FloatFmt := ⟨8, 23, 127, .ieee, true⟩
def fp16 : FloatFmt := ⟨5, 10, 15, .ieee, true⟩
def bf16 : FloatFmt := ⟨8, 7, 127, .ieee, true⟩
def e4m3 : FloatFmt := ⟨4, 3, 7, .e4m3, false⟩
def e5m2 : FloatFmt := ⟨5, 2, 15, .ieee, false⟩
def e3m2 : FloatFmt := ⟨3, 2, 3, .finite, false⟩
def e2m3 : FloatFmt := ⟨2, 3, 1, .finite, false⟩
def e2m1 : FloatFmt := ⟨2, 1, 1, .finite, false⟩

/-- The sign bit's weight. -/
def FloatFmt.signBit (f : FloatFmt) : Nat := 2 ^ (f.ebits + f.mbits)

/-- The code of the largest finite magnitude (R69). -/
def FloatFmt.maxCode (f : FloatFmt) : Nat :=
  match f.top with
  | .ieee => (2 ^ f.ebits - 1) * 2 ^ f.mbits - 1
  | .e4m3 => f.signBit - 2
  | .finite => f.signBit - 1

/-- The canonical NaN (R70). -/
def FloatFmt.nanCode (f : FloatFmt) : Nat :=
  match f.top with
  | .ieee => (2 ^ f.ebits - 1) * 2 ^ f.mbits + 2 ^ (f.mbits - 1)
  | .e4m3 => f.signBit - 1
  | .finite => 0

/-- The code of an infinity. -/
def FloatFmt.infCode (f : FloatFmt) (neg : Bool) : Nat :=
  (2 ^ f.ebits - 1) * 2 ^ f.mbits + flagNat neg * f.signBit

/-- The exponent of the least significant bit of the smallest values. -/
def FloatFmt.quantum (f : FloatFmt) : Int := 1 - (f.bias : Int) - (f.mbits : Int)

/-- The value of a code (R69, R70). -/
def FloatFmt.decode (f : FloatFmt) (c : Nat) : Num :=
  let neg := bit c (f.ebits + f.mbits)
  let ex := bits c f.mbits f.ebits
  let m := c % 2 ^ f.mbits
  let topEx : Bool := ex == 2 ^ f.ebits - 1
  if topEx && f.top == .ieee then
    (if m = 0 then .inf neg else .nan (f.signals && !bit m (f.mbits - 1)))
  else if topEx && f.top == .e4m3 && m == 2 ^ f.mbits - 1 then .nan false
  else if ex = 0 then .fin neg m f.quantum
  else .fin neg (2 ^ f.mbits + m) (f.quantum + (ex : Int) - 1)

/-- The number of bits of a value; 0 for 0. -/
def bitLen (n : Nat) : Nat := if n = 0 then 0 else Nat.log2 n + 1

/-- Rounding to nearest even of m × 2^e plus less than one unit of 2^e (`sticky`: more than zero): the unsigned
code in the format without limit at its top, and whether it is inexact. A sticky value must have at least two
bits beyond the format's. -/
def FloatFmt.roundMag (f : FloatFmt) (m : Nat) (e : Int) (sticky : Bool) : Nat × Bool :=
  if m = 0 then (0, sticky)
  else
    let q := max (e + (bitLen m : Int) - 1 - (f.mbits : Int)) f.quantum
    let base := (q - f.quantum).toNat * 2 ^ f.mbits
    if q ≤ e then (base + m * 2 ^ (e - q).toNat, sticky)
    else
      let sh := (q - e).toNat
      let n := m / 2 ^ sh
      let r := m % 2 ^ sh
      let half := 2 ^ (sh - 1)
      let up : Bool := decide (half < r) || (r == half && (sticky || n % 2 == 1))
      (base + n + flagNat up, r ≠ 0 || sticky)

/-- The result of a rounding: the code and the flags raised. Overflow goes to the largest finite value when
saturating, and always in a format without infinity or NaN; else to infinity, in E4M3 to its NaN (R90). With
`flush` a tiny result is a zero of its sign with FL and IX (R93). -/
def FloatFmt.round (f : FloatFmt) (sat flush neg : Bool) (m : Nat) (e : Int) (sticky : Bool) : Nat × Nat :=
  let r := f.roundMag m e sticky
  let s := flagNat neg * f.signBit
  if f.maxCode < r.1 then
    (if sat || f.top == .finite then f.maxCode + s
     else if f.top == .e4m3 then f.nanCode else f.infCode neg, flOF + flIX)
  else if (m ≠ 0 || sticky) && decide (r.1 < 2 ^ f.mbits) then
    if flush then (s, flFL + flIX)
    else (r.1 + s, if r.2 then flUF + flIX else 0)
  else (r.1 + s, if r.2 then flIX else 0)

/-- The code of an exact value that is the result of an operation: a NaN is canonical; infinities stay (R88,
R94). -/
def FloatFmt.result (f : FloatFmt) (flush : Bool) (x : Num) : Nat × Nat :=
  match x with
  | .nan _ => (f.nanCode, 0)
  | .inf neg => (f.infCode neg, 0)
  | .fin neg m e => f.round false flush neg m e false

/-- A float-to-float conversion (R90). -/
def FloatFmt.convert (f : FloatFmt) (sat flush : Bool) (x : Num) : Nat × Nat :=
  match x with
  | .nan sig =>
    if f.top == .finite then (0, flIV) else (f.nanCode, if sig then flIV else 0)
  | .inf neg =>
    let s := flagNat neg * f.signBit
    match f.top with
    | .finite => (f.maxCode + s, flOF)
    | .e4m3 => if sat then (f.maxCode + s, 0) else (f.nanCode, flIV)
    | .ieee => if sat then (f.maxCode + s, 0) else (f.infCode neg, 0)
  | .fin neg m e => f.round sat flush neg m e false

/-- A subnormal operand read as a zero of its sign, with FL (R93). -/
def FloatFmt.flushIn (f : FloatFmt) (flush : Bool) (c : Nat) : Nat × Nat :=
  let mag := c % f.signBit
  if flush && mag ≠ 0 && decide (mag < 2 ^ f.mbits) then (c - mag, flFL) else (c, 0)

/-- A signalling NaN operand raises IV (R70). -/
def Num.signalFlag (x : Num) : Nat :=
  match x with
  | .nan true => flIV
  | .nan false | .inf _ | .fin _ _ _ => 0

/-- A NaN. -/
def Num.isNaN (x : Num) : Bool :=
  match x with
  | .nan _ => true
  | .inf _ | .fin _ _ _ => false

/-- An infinity. -/
def Num.isInf (x : Num) : Bool :=
  match x with
  | .inf _ => true
  | .nan _ | .fin _ _ _ => false

/-- A zero of either sign. -/
def Num.isZero (x : Num) : Bool :=
  match x with
  | .fin _ m _ => m == 0
  | .nan _ | .inf _ => false

/-- The sign of a value, false for a NaN. -/
def Num.isNeg (x : Num) : Bool :=
  match x with
  | .fin n _ _ => n
  | .inf n => n
  | .nan _ => false

/-- The value with the other sign. -/
def Num.negate (x : Num) : Num :=
  match x with
  | .fin n m e => .fin (!n) m e
  | .inf n => .inf (!n)
  | .nan s => .nan s

/-- The signed mantissa at exponent `e0`, at or below the value's own exponent. -/
def signedAt (neg : Bool) (m : Nat) (e e0 : Int) : Int :=
  let v : Int := (m * 2 ^ (e - e0).toNat : Nat)
  if neg then -v else v

/-- The exact sum, with its flags: infinities of opposite sign are invalid; two zeros keep a common sign, any
other zero sum is +0 (R88). -/
def Num.add (x y : Num) : Num × Nat :=
  let sig := x.signalFlag ||| y.signalFlag
  match x, y with
  | .nan _, _ => (.nan false, sig)
  | _, .nan _ => (.nan false, sig)
  | .inf a, .inf b => if a == b then (.inf a, 0) else (.nan false, flIV)
  | .inf a, .fin _ _ _ => (.inf a, 0)
  | .fin _ _ _, .inf b => (.inf b, 0)
  | .fin a m e, .fin b n g =>
    let e0 := min e g
    let t := signedAt a m e e0 + signedAt b n g e0
    if t = 0 then (.fin (a && b) 0 e0, 0) else (.fin (decide (t < 0)) t.natAbs e0, 0)

/-- The exact product: an infinity by a zero is invalid. -/
def Num.mul (x y : Num) : Num × Nat :=
  let sig := x.signalFlag ||| y.signalFlag
  match x, y with
  | .nan _, _ => (.nan false, sig)
  | _, .nan _ => (.nan false, sig)
  | .inf a, .inf b => (.inf (a != b), 0)
  | .inf a, .fin b m _ => if m = 0 then (.nan false, flIV) else (.inf (a != b), 0)
  | .fin a m _, .inf b => if m = 0 then (.nan false, flIV) else (.inf (a != b), 0)
  | .fin a m e, .fin b n g => (.fin (a != b) (m * n) (e + g), 0)

/-- The value times 2^k. -/
def Num.scale (x : Num) (k : Int) : Num :=
  match x with
  | .fin n m e => .fin n m (e + k)
  | .inf n => .inf n
  | .nan s => .nan s

/-- An integer as a value. -/
def numOfInt (i : Int) : Num := .fin (decide (i < 0)) i.natAbs 0

/-- x < y for values that are not NaNs, −0 below +0 (R94 min and max). -/
def Num.below (x y : Num) : Bool :=
  match x, y with
  | .nan _, _ => false
  | _, .nan _ => false
  | .inf a, .inf b => a && !b
  | .inf a, .fin _ _ _ => a
  | .fin _ _ _, .inf b => !b
  | .fin a m e, .fin b n g =>
    let e0 := min e g
    let u := signedAt a m e e0
    let v := signedAt b n g e0
    decide (u < v) || (u == v && u == 0 && a && !b)

/-- x < y in value: the two zeros are equal (R96, R101). -/
def Num.less (x y : Num) : Bool :=
  match x, y with
  | .nan _, _ => false
  | _, .nan _ => false
  | .inf a, .inf b => a && !b
  | .inf a, .fin _ _ _ => a
  | .fin _ _ _, .inf b => !b
  | .fin a m e, .fin b n g =>
    let e0 := min e g
    decide (signedAt a m e e0 < signedAt b n g e0)

/-- ⌊x⌋ as an integer of a finite value. -/
def Num.floor (x : Num) : Int :=
  match x with
  | .nan _ | .inf _ => 0
  | .fin neg m e =>
    let v := signedAt neg m (max e 0) 0
    if 0 ≤ e then v else (if neg then -(m : Int) else (m : Int)) / (2 ^ (-e).toNat : Nat)

/-! ### Format codes (R67) -/

/-- Bits per element as stored; TRN5, packed five to a byte, has none of its own. -/
def elemBits (fmt : Nat) : Nat :=
  if fmt = 0 ∨ fmt = 15 then 32
  else if fmt = 1 ∨ fmt = 2 then 16
  else if fmt = 7 ∨ fmt = 8 then 6
  else if fmt = 9 ∨ fmt = 12 ∨ fmt = 13 then 4
  else if fmt = 14 then 0
  else 8

/-- MX formats: one E8M0 scale a block. -/
def isMx (fmt : Nat) : Bool := decide (5 ≤ fmt ∧ fmt ≤ 10)

/-- Formats whose tiles use a scale strip as scales: MX and TRN5 (R75). -/
def hasScale (fmt : Nat) : Bool := isMx fmt || fmt == 14

/-- The floating-point format of a code's element; none for the integer formats, PAL4 and TRN5. -/
def floatOf (fmt : Nat) : Option FloatFmt :=
  if fmt = 0 then some fp32
  else if fmt = 1 then some fp16
  else if fmt = 2 then some bf16
  else if fmt = 3 ∨ fmt = 5 then some e4m3
  else if fmt = 4 ∨ fmt = 6 then some e5m2
  else if fmt = 7 then some e3m2
  else if fmt = 8 then some e2m3
  else if fmt = 9 then some e2m1
  else none

/-- The value of an element code before block scaling (R69, R72, R73, R76, R78); `book` is a PAL4 codebook. A
TRN5 code is its digit t = v + 1. -/
def elemValue (fmt : Nat) (book : Bytes) (c : Nat) : Num :=
  match floatOf fmt with
  | some f => f.decode c
  | none =>
    if fmt = 10 then (numOfInt (toSigned 8 c)).scale (-6)
    else if fmt = 11 then numOfInt (toSigned 8 c)
    else if fmt = 12 then numOfInt (toSigned 4 c)
    else if fmt = 13 then bf16.decode (field book (2 * (c % 16)) 2)
    else if fmt = 14 then numOfInt ((c : Int) - 1)
    else numOfInt (toSigned 32 c)

/-- Element j of a packed run of bytes (R74, R78). -/
def unpackElem (fmt : Nat) (bs : Bytes) (j : Nat) : Nat :=
  let w := elemBits fmt
  if w = 0 then
    let b := byteAt bs (j / 5)
    if 243 ≤ b then 1 else b / 3 ^ (j % 5) % 3
  else if w = 6 then bits (field bs (j / 4 * 3) 3) (6 * (j % 4)) 6
  else if w = 4 then bits (byteAt bs (j / 2)) (4 * (j % 2)) 4
  else field bs (j * (w / 8)) (w / 8)

/-- The elements of a packed run. -/
def unpackAll (fmt n : Nat) (bs : Bytes) : List Nat := (List.range n).map (unpackElem fmt bs)

/-- Bytes of `n` packed elements. -/
def packedLen (fmt n : Nat) : Nat :=
  if elemBits fmt = 0 then ceilDiv n 5 else ceilDiv (n * elemBits fmt) 8

/-- The value of codes packed little-endian, lowest index in the least significant bits. -/
def packVal (w : Nat) (codes : List Nat) : Nat :=
  match codes with
  | [] => 0
  | c :: r => c % 2 ^ w + 2 ^ w * packVal w r

/-- Packs codes (R74). -/
def packAll (fmt : Nat) (codes : List Nat) : Bytes :=
  leBytes (packedLen fmt codes.length) (packVal (elemBits fmt) codes)

/-! ### Conversions from FP32 (R90 to R92) -/

/-- Rounds a finite value to an integer, nearest even, and whether that is inexact. -/
def roundInt (neg : Bool) (m : Nat) (e : Int) : Int × Bool :=
  if 0 ≤ e then (signedAt neg m e 0, false)
  else
    let sh := (-e).toNat
    let n := m / 2 ^ sh
    let r := m % 2 ^ sh
    let half := 2 ^ (sh - 1)
    let k := n + flagNat (decide (half < r) || (r == half && n % 2 == 1))
    (if neg then -(k : Int) else (k : Int), r ≠ 0)

/-- Conversion to a two's-complement integer of `w` bits, always saturating (R91). -/
def toInt (w : Nat) (x : Num) : Nat × Nat :=
  let hi : Int := (2 ^ (w - 1) : Nat) - 1
  let lo : Int := -(2 ^ (w - 1) : Nat)
  match x with
  | .nan _ => (0, flIV)
  | .inf neg => (ofSigned w (if neg then lo else hi), flIV)
  | .fin neg m e =>
    let r := roundInt neg m e
    if hi < r.1 then (ofSigned w hi, flIV + flIX)
    else if r.1 < lo then (ofSigned w lo, flIV + flIX)
    else (ofSigned w r.1, if r.2 then flIX else 0)

/-- Conversion to one MXINT8 element of a value already divided by its scale, clamped at ±127 (R72, R92). -/
def toMxInt8 (x : Num) : Nat × Nat :=
  match x.scale 6 with
  | .nan _ | .inf _ => (0, flIV)
  | .fin neg m e =>
    let r := roundInt neg m e
    if 127 < r.1 then (ofSigned 8 127, flOF + flIX)
    else if r.1 < -127 then (ofSigned 8 (-127), flOF + flIX)
    else (ofSigned 8 r.1, if r.2 then flIX else 0)

/-- The largest element exponent of an MX target (R92). -/
def mxMaxExp (fmt : Nat) : Nat :=
  if fmt = 5 then 8 else if fmt = 6 then 15 else if fmt = 7 then 4 else if fmt = 8 then 2 else if fmt = 9 then 2 else 0

/-- ⌊log₂⌋ of a finite non-zero magnitude. -/
def Num.log2Floor (x : Num) : Int :=
  match x with
  | .fin _ m e => e + (bitLen m : Int) - 1
  | .nan _ | .inf _ => 0

/-- The larger magnitude of two finite values. -/
def largerMag (x y : Num) : Num :=
  let a : Num := match x with | .fin _ m e => .fin false m e | z => z
  let b : Num := match y with | .fin _ m e => .fin false m e | z => z
  if a.less b then b else a

/-- Conversion of a block of 32 FP32 values to an MX format: the scale code, the element codes, the flags (R92). -/
def toMxBlock (fmt : Nat) (xs : List Num) : Nat × List Nat × Nat :=
  if xs.any fun x => x.isNaN || x.isInf then (0xFF, xs.map fun _ => 0, flIV)
  else
    let a := xs.foldl largerMag (.fin false 0 0)
    let scale : Nat :=
      if a.isZero then 0
      else (min 254 (max 0 (127 + a.log2Floor - (mxMaxExp fmt : Int)))).toNat
    let one (x : Num) : Nat × Nat :=
      let y := x.scale (127 - (scale : Int))
      match floatOf fmt with
      | none => toMxInt8 y
      | some f => f.convert true false y
    let rs := xs.map one
    (scale, rs.map (·.1), rs.foldl (fun a r => a ||| r.2) 0)

/-- Conversion of one FP32 value to an element code of a format without block scale, other than PAL4 and TRN5
(R90, R91). -/
def toElem (fmt : Nat) (sat flush : Bool) (x : Num) : Nat × Nat :=
  match floatOf fmt with
  | some f => f.convert sat (flush && decide (fmt ≤ 2)) x
  | none => toInt (elemBits fmt) x

end Sys2Proof.Machine
end

