-- ==== Sys2Proof/Machine/Operands.lean ====
section
/-! DEFINITION. Every operand form of an instruction: which fields it uses (R137, R138), parameters inside a Pattern
Book routine (R165), hods (R139, R143), short addresses (R144, R145, R181), packed vectors, lane vectors, and
stored tiles (R110 to R112, R189). -/

namespace Sys2Proof.Machine

/-! ### Fields -/

/-- How an instruction uses a register field. -/
inductive Use where
  | unused | num | hod
  deriving DecidableEq, Repr

/-- The fields an instruction uses: its queues, the formats it accepts (none: Fmt unused), its register fields,
its flag bits and its immediate bits. -/
structure Shape where
  queues : List Nat
  fmts : List Nat
  dst : Use
  srcA : Use
  srcB : Use
  flags : Nat
  imm : Nat
  deriving DecidableEq, Repr

/-- A core has a queue (R133): header cores lack A2 and A3. -/
def hasQueue (core queue : Nat) : Bool := decide (queue < 8) && (decide (4 ≤ queue) || decide (queue < arraysOf (coreCluster core)))

/-- A hod number inside a routine: 24, 25 and 26 stand for the caller's Dst, SrcA and SrcB (R165). -/
def hodIn (c : Option Call) (n : Nat) : Nat :=
  match c with
  | none => n
  | some c => if n = 24 then c.p0 else if n = 25 then c.p1 else if n = 26 then c.p2 else n

/-- A register field, with a routine's parameters substituted where it names a hod. -/
def Use.value (u : Use) (c : Option Call) (n : Nat) : Nat :=
  match u with
  | .hod => hodIn c n
  | .num | .unused => n

/-- The fields with a routine's parameters substituted (R165). -/
def resolveFields (f : Fields) (sh : Shape) (c : Option Call) : Fields :=
  match c with
  | none => f
  | some k =>
    { dst := sh.dst.value c f.dst, srcA := sh.srcA.value c f.srcA, srcB := sh.srcB.value c f.srcB,
      fmt := if f.fmt = 31 then k.fmt else f.fmt, flags := f.flags,
      imm := if f.imm = 0xFFFFFFFF then k.word else f.imm }

/-- An unused register field must be 0 (R137). -/
def Use.ok (u : Use) (n : Nat) : Bool :=
  match u with
  | .unused => n == 0
  | .num | .hod => true

/-- The loader admits the instruction word in its queue (R137, R138). -/
def Shape.legal (sh : Shape) (q : Issue) (f : Fields) : Bool :=
  sh.queues.contains q.queue && hasQueue q.core q.queue &&
    (if sh.fmts.isEmpty then f.fmt == 0 else sh.fmts.contains f.fmt) &&
    sh.dst.ok f.dst && sh.srcA.ok f.srcA && sh.srcB.ok f.srcB &&
    clearBits f.flags sh.flags == 0 && clearBits f.imm sh.imm == 0

/-- Flag bits [32] to [35] of an instruction. -/
def flagOf (f : Fields) (i : Nat) : Bool := bit f.flags i

/-- The scratch hods of a queue (R166). -/
def scratchHods (queue : Nat) : List Nat :=
  if queue = 4 then [30, 31] else if queue = 5 then [29] else if queue = 6 then [28] else []

/-- A hod number that an instruction may name: inside a routine, of hods 24 to 31 only its parameters and its queue's
scratch hods (R166). -/
def hodAllowed (c : Option Call) (queue n : Nat) : Bool :=
  c.isNone || decide (n ≤ 26) || (scratchHods queue).contains n

/-- The register fields that name hods name allowed ones. -/
def Shape.hodsAllowed (sh : Shape) (c : Option Call) (queue : Nat) (f : Fields) : Bool :=
  (sh.dst != .hod || hodAllowed c queue f.dst) && (sh.srcA != .hod || hodAllowed c queue f.srcA) &&
    (sh.srcB != .hod || hodAllowed c queue f.srcB)

/-! ### Issue -/

/-- A queue of a core. -/
def State.queueOf (s : State) (q : Issue) : QueueState := (s.core q.core).queue q.queue

/-- Changes a queue of a core. -/
def State.setQueueOf (s : State) (q : Issue) (v : QueueState) : State :=
  s.setCore q.core ((s.core q.core).setQueue q.queue v)

/-- The plan position of an issue: course × 512 + cycle (R116). -/
def State.planCycle (s : State) (q : Issue) : Nat := s.prog.course * 512 + q.cycle

/-- Nothing issues in a queue outside plan work (R23, R116, R121), before the cycle after its latest instruction has
gone (R135), at a plumb (R146), and in Q before the plan cycle that `wcrs` named (R164). -/
def State.queueHeld (s : State) (q : Issue) : Bool :=
  !s.issues || decide (s.planCycle q < (s.queueOf q).busy) || (s.queueOf q).plumb.isSome ||
    (q.queue == 7 && decide (s.planCycle q < (s.core q.core).seq.until_.1 * 512 + (s.core q.core).seq.until_.2))

/-- A queue issues nothing more for `n` cycles from an issue on (R135), nor in those that it is taken for already. -/
def State.occupy (s : State) (q : Issue) (n : Nat) : State :=
  let x := s.queueOf q
  s.setQueueOf q { x with busy := max x.busy (s.planCycle q + n) }

/-- The issue trace takes a record of every issue of its core while it captures, until it is full (R492). -/
def State.trace (s : State) (q : Issue) (op : Nat) : State :=
  if s.reg Reg.traceState = 2 ∧ q.core = s.reg Reg.traceCore ∧ s.prog.course < s.security.traceUntil then
    let w := s.prog.course % 2 ^ 16 * 2 ^ 48 + q.cycle % 512 * 2 ^ 39 + q.queue % 8 * 2 ^ 36 +
      (s.queueOf q).index % 4096 * 2 ^ 24 + op * 2 ^ 16
    let s := if s.security.trace.length = 8191 then s.setReg Reg.traceState 4 else s
    { s with security := { s.security with trace := s.security.trace ++ [w] } }
  else s

/-- Words corrected in a core's local store, hods or instruction store count against the core (R48). -/
def State.countCorrected (s : State) (core n : Nat) : State :=
  { s with units := { s.units with
      corrected := Map.set s.units.corrected 0 core (Map.get s.units.corrected 0 core + n) } }

/-- An instruction issues: traced and counted. -/
def State.issue (s : State) (q : Issue) (op : Nat) : State :=
  ((s.trace q op).countCorrected q.core q.corrected).bump (Reg.instructionsIssued (coreCluster q.core))

/-- A comparator at launch. -/
def Comparator.clear : Comparator := { left := 0, right := 0, imm := 0, relation := 0, useImm := false }

/-- A comparator is true (R160). -/
def Sequencer.holds (x : Sequencer) (k : Nat) : Bool :=
  let c := Map.get x.comparators Comparator.clear k
  let l := Map.get x.counts 0 c.left
  let r := if c.useImm then c.imm else Map.get x.counts 0 c.right
  if c.relation = 0 then l == r else if c.relation = 1 then l != r else if c.relation = 2 then decide (l < r)
  else decide (r ≤ l)

/-- Loop ends (R161): at the end of a body the innermost loop starts again or ends; the loops that remain and the
next index. -/
def Sequencer.loopEnd (x : Sequencer) (ls : List Loop) (next : Nat) : List Loop × Nat :=
  match ls with
  | [] => ([], next)
  | l :: r =>
    if next ≠ l.start + l.length then (l :: r, next)
    else if l.left ≤ 1 ∨ l.until_.any x.holds then x.loopEnd r next
    else ({ l with left := l.left - 1 } :: r, l.start)

/-- The queue is taken for the cycle of the issue and moves to its next instruction; a routine's instructions are not in
its own store. -/
def State.advance (s : State) (q : Issue) : State :=
  let s := s.occupy q 1
  let c := s.core q.core
  let x := c.queue q.queue
  if x.calls.isEmpty then
    if q.queue = 7 then
      let n := c.seq.loopEnd c.seq.loops (x.index + 1)
      s.setCore q.core { c.setQueue 7 { x with index := n.2 } with seq := { c.seq with loops := n.1 } }
    else s.setQueueOf q { x with index := x.index + 1 }
  else s

/-- The effect of an instruction: refused where its word is one the loader refuses, nothing while its queue is
held, otherwise issue, effect, next index. -/
def State.instr (s : State) (m : String) (op : Nat) (q : Issue) (f : Fields) (sh : Shape) (ok : Fields → Bool)
    (eff : Fields → State → State) : Host.Outcome State Fault Refusal :=
  let c := (s.queueOf q).calls.head?
  let g := resolveFields f sh c
  if q.ok && f.ok && sh.legal q g && sh.hodsAllowed c q.queue f && ok g then
    s.done (if s.queueHeld q then s else (eff g (s.issue q op)).advance q)
  else .refused (.invalidInstruction m)

/-- The scratch hods of a queue are empty (R166). -/
def State.scratchEmpty (s : State) (q : Issue) : Bool :=
  (scratchHods q.queue).all fun h => ((s.core q.core).hod h).isEmpty

/-- A hod that an immediate names is allowed (R166). -/
def State.immAllowed (s : State) (q : Issue) (n : Nat) : Bool := hodAllowed (s.queueOf q).calls.head? q.queue (n % 32)

/-- No further condition on the fields. -/
def anyFields (_ : Fields) : Bool := true

/-! ### Hods -/

/-- Pops `n` entries of a hod; too few are the hod fault of R141 (assumption 19). -/
def State.pop (s : State) (core h n : Nat) : Option (List Bytes) × State :=
  let c := s.core core
  let l := c.hod h
  if l.length < n then (none, s.hodFault core h 1)
  else (some (l.take n), s.setCore core (c.setHod h (l.drop n)))

/-- Entries that reach a hod go first, in order, to the passes that still take from it (R139, R140); the takes after
that, and the entries that stay in the hod. -/
def feedTakes (h : Nat) (es : List Bytes) (l : List Take) : List Take × List Bytes :=
  match l with
  | [] => ([], es)
  | t :: r =>
    let n := if t.hod = h then t.need - t.entries.length else 0
    let x := feedTakes h (es.drop n) r
    ({ t with entries := t.entries ++ es.take n } :: x.1, x.2)

/-- A hod is certainly full above this many listed entries: its 64, and the 2,048 that the longest instruction in
progress, of 256 chunks, may have taken (R139, R153, assumption 19). -/
def hodLimit : Nat := 64 + 2048

/-- Pushes entries of 64 bytes; a push that finds the hod full is the hod fault of R141. -/
def State.push (s : State) (core h : Nat) (es : List Bytes) : State :=
  let c := s.core core
  let x := feedTakes h (es.map (padTo 64)) c.takes
  let l := c.hod h ++ x.2
  let s := s.setCore core ({ c with takes := x.1 }.setHod h l)
  if hodLimit < l.length then s.hodFault core h 2 else s

/-- Pops, then goes on with what was popped; a hod fault ends the instruction (assumption 21). -/
def State.popping (s : State) (core h n : Nat) (k : List Bytes → State → State) : State :=
  match s.pop core h n with
  | (none, s) => s
  | (some es, s) => k es s

/-! ### Vectors (R143) -/

/-- Formats of W vectors in hods and stores. -/
def vectorFmts : List Nat := [0, 1, 2, 3, 4, 5, 6, 7, 8, 9, 10, 11, 12, 15]

/-- Formats that `ld`, `st`, `ldi` and `sti` move: those, and PAL4, which R137 names as a suffix of `ld`; its 4-bit
codes move as INT4 does (assumption 29). TRN5 is read by feeders only (R67). -/
def moveFmts : List Nat := vectorFmts ++ [13]

/-- Packed bytes of a W vector of 32 elements; in MXFP6, as in the other MX formats, the elements and then the scale
(DEDUCED, assumption 29). -/
def vecBytes (fmt : Nat) : Nat :=
  if fmt = 0 ∨ fmt = 15 then 128
  else if fmt = 1 ∨ fmt = 2 then 64
  else if fmt = 5 ∨ fmt = 6 ∨ fmt = 10 then 33
  else if fmt = 7 ∨ fmt = 8 then 25
  else if fmt = 9 then 17
  else if fmt = 12 ∨ fmt = 13 then 16
  else 32

/-- Two vectors of a 4-bit format share an entry. -/
def halfEntry (fmt : Nat) : Bool := fmt == 9 || fmt == 12 || fmt == 13

/-- Entries of `n` W vectors. -/
def entriesOf (fmt n : Nat) : Nat :=
  if fmt = 0 ∨ fmt = 15 then 2 * n else if halfEntry fmt then ceilDiv n 2 else n

/-- Two 32-byte halves of each entry of a 4-bit format. -/
def pairUp (l : List Bytes) : List Bytes :=
  match l with
  | [] => []
  | [a] => [padTo 64 (padTo 32 a)]
  | a :: b :: r => (padTo 32 a ++ padTo 32 b) :: pairUp r

/-- Packed vectors as hod entries. -/
def toEntries (fmt : Nat) (vs : List Bytes) : List Bytes :=
  if fmt = 0 ∨ fmt = 15 then vs.flatMap fun v => [slice v 0 64, slice v 64 64]
  else if halfEntry fmt then pairUp vs
  else vs.map (padTo 64)

/-- Vector `i` of a run of hod entries, packed. -/
def vecAt (fmt : Nat) (es : List Bytes) (i : Nat) : Bytes :=
  if fmt = 0 ∨ fmt = 15 then es.getD (2 * i) [] ++ es.getD (2 * i + 1) []
  else if halfEntry fmt then slice (es.getD (i / 2) []) (i % 2 * 32) (vecBytes fmt)
  else slice (es.getD i []) 0 (vecBytes fmt)

/-- The first `n` vectors of a run of entries, packed. -/
def fromEntries (fmt n : Nat) (es : List Bytes) : List Bytes := (List.range n).map (vecAt fmt es)

/-- Scale code and element codes of a packed vector; 127 stands in for a scale the format lacks (R83). -/
def vecParse (fmt : Nat) (v : Bytes) : Nat × List Nat :=
  (if isMx fmt then byteAt v (packedLen fmt 32) else 127, unpackAll fmt 32 v)

/-- `n` packed vectors of consecutive bytes. -/
def splitVecs (w n : Nat) (bs : Bytes) : List Bytes := (List.range n).map fun i => slice bs (w * i) w

/-- Entries of a lane vector. -/
def laneEntries (fmt : Nat) : Nat := if fmt = 0 then 8 else 4

/-- The 128 codes of a lane vector. -/
def laneCodes (fmt : Nat) (es : List Bytes) : List Nat := unpackAll fmt 128 (es.flatMap id)

/-- An FP32 lane vector as entries. -/
def fromLanes (codes : List Nat) : List Bytes := splitVecs 64 8 (packAll 0 codes)

/-! ### Addresses (R144, R145, R181 to R183) -/

/-- A 48-bit module address. -/
def moduleAddress (space brick cluster position offset : Nat) : Nat :=
  space * 2 ^ 45 + brick * 2 ^ 41 + cluster * 2 ^ 37 + position * 2 ^ 33 + offset

/-- Bytes of a core's local store (R179). -/
def localBytesOf (core : Nat) : Nat := if isHeader (coreCluster core) then 0x200000 else 0x100000

/-- The physical brick of a logical one under the running plan; the canonical placement with none (R283). -/
def State.physicalBrick (s : State) (b : Nat) : Nat :=
  match s.plan.running with
  | none => b
  | some p => p.bricks.getD b b

/-- Two ranges of bytes share none. -/
def disjoint (a n b m : Nat) : Bool := decide (a + n ≤ b ∨ b + m ≤ a)

/-- A region of the running plan, by its number. -/
def State.regionBase (s : State) (id : Nat) : Option Region :=
  match s.plan.running with
  | none => none
  | some p => p.regions.find? fun r => r.id == id

/-- The module address of a short address for a core (R144, R181 to R183), given the physical brick of a logical one if
it is enabled, and base and size of a window's Landing region: a peer-brick stack byte is that brick's stack byte, and a
remote-tier byte its Landing window's (R204). None: invalid, or outside its space. -/
def expandAddress (brickOf : Nat → Option Nat) (landing : Nat → Option (Nat × Nat)) (core imm bytes : Nat) : Option Nat :=
  let space := bits imm 29 3
  let qual := bits imm 25 4
  let off := bits imm 0 25 * 64
  let brick := core / 64
  let cluster := coreCluster core % 8
  if space = 0 then
    if qual = 0 ∧ off + bytes ≤ localBytesOf core then some (moduleAddress 0 brick cluster (corePosition core) off) else none
  else if space = 1 then
    if qual = 0 ∧ off + bytes ≤ 0x1000000 then some (moduleAddress 1 brick cluster 0 off) else none
  else if space = 2 then
    if qual = 0 ∧ off + bytes ≤ 0x80000000 then some (moduleAddress 2 brick 0 0 off) else none
  else if space = 3 then
    match brickOf qual with
    | none => none
    | some b => if b ≠ brick ∧ off + bytes ≤ 0x80000000 then some (moduleAddress 2 b 0 0 off) else none
  else if space = 4 then
    match landing qual with
    | none => none
    | some (base, size) => if off + bytes ≤ size * 64 then some (base + off) else none
  else none

/-- Base and size of a remote window's Landing region, among the regions of a plan (R204). -/
def landingOfWindow (remotes : List RemoteWindow) (regions : List Region) (window : Nat) : Option (Nat × Nat) :=
  (remotes.find? fun w => w.window == window).bind fun w =>
    (regions.find? fun r => r.id == w.landing).map fun r => (r.base, w.size)

/-- The module address of a short address under the running plan. -/
def State.shortAddress (s : State) (core imm bytes : Nat) : Option Nat :=
  let enabled (b : Nat) : Option Nat := if s.brickOn (s.physicalBrick b) then some (s.physicalBrick b) else none
  let landing (w : Nat) : Option (Nat × Nat) := s.plan.running.bind fun p => landingOfWindow p.remotes p.regions w
  expandAddress enabled landing core imm bytes

/-- A short address with its queue's address offset added to the granule (R145). -/
def withOffset (imm ao : Nat) : Nat := imm / 2 ^ 25 * 2 ^ 25 + (imm + ao) % 2 ^ 25

/-- The value of a queue's address offset register that an issue uses (R145). -/
def State.aoOf (s : State) (q : Issue) : Nat :=
  (s.queueOf q).aoSoon.foldl (fun v e => if e.1 ≤ s.planCycle q then e.2 else v) (s.queueOf q).ao

/-- The latest value that the register is set to. -/
def QueueState.aoLast (x : QueueState) : Nat := x.aoSoon.foldl (fun _ e => e.2) x.ao

/-- `ao` sets the register for instructions that issue from 2 cycles later (R145). -/
def QueueState.setAo (x : QueueState) (now v : Nat) : QueueState :=
  { x with ao := x.aoSoon.foldl (fun a e => if e.1 ≤ now then e.2 else a) x.ao,
           aoSoon := (x.aoSoon.filter fun e => decide (now < e.1)) ++ [(now + 2, v)] }

/-- The address an instruction names, its rel flag honoured. -/
def State.instrAddress (s : State) (q : Issue) (f : Fields) (bytes : Nat) : Option Nat :=
  s.shortAddress q.core (if flagOf f 3 then withOffset f.imm (s.aoOf q) else f.imm) bytes

/-- The region of the running plan that holds an address. -/
def State.regionOf (s : State) (a : Nat) : Option Region :=
  match s.plan.running with
  | none => none
  | some p => p.regions.find? fun r => decide (r.base ≤ a ∧ a < r.base + r.size * 64)

/-- Tile windows are the regions of kinds 1 to 4 (R279). -/
def Region.isWindow (r : Region) : Bool := decide (1 ≤ r.kind ∧ r.kind ≤ 4)

/-- A range meets no tile window of the running plan (R190). -/
def State.raw (s : State) (a n : Nat) : Bool :=
  match s.plan.running with
  | none => true
  | some p => p.regions.all fun r => !r.isWindow || decide (a + n ≤ r.base ∨ r.base + r.size * 64 ≤ a)

/-- The tile window that holds an address. -/
def State.windowAt (s : State) (a : Nat) : Option Region :=
  match s.regionOf a with
  | none => none
  | some r => if r.isWindow then some r else none

/-- Reads and writes of the stores. -/
def State.load (s : State) (a n : Nat) : Bytes := s.mem.read a n
def State.store (s : State) (a : Nat) (bs : Bytes) : State := { s with mem := s.mem.write a bs }

/-! ### Stored tiles (R109 to R112, R189) -/

/-- Bytes of the scale strip. -/
def stripLen (fmt : Nat) : Nat := if isMx fmt || fmt == 13 || fmt == 14 then 128 else 0

/-- Stored bytes of a tile. -/
def tileBytes (fmt : Nat) : Nat := 8 + stripLen fmt + packedLen fmt 4096

/-- Bytes from one tile of a window to the next. -/
def tileStride (fmt : Nat) : Nat := ceilDiv (tileBytes fmt) 64 * 64

/-- Bytes of a window that hold tiles from one base: a Shared window has two sides (R345). -/
def Region.sideBytes (r : Region) : Nat := if r.kind = 1 then r.size / 2 * 64 else r.size * 64

/-- `n` whole tiles of a window start at an address (R189, R190). -/
def Region.tilesAt (r : Region) (a n : Nat) : Bool :=
  let off := (a - r.base) % max 1 r.sideBytes
  r.isWindow && decide (r.base ≤ a) && off % tileStride r.fmt == 0 && decide (off + n * tileStride r.fmt ≤ r.sideBytes)

/-- A reader of tiles of a format finds a whole one of a window at an address (R190). -/
def State.tileAt (s : State) (fmt a : Nat) : Bool := (s.windowAt a).any fun r => r.fmt == fmt && r.tilesAt a 1

/-- Fields of the sideband (R111). -/
def tileCheck (t : Bytes) : Nat := field t 0 4
def tileTint (t : Bytes) : Nat := bits (field t 0 8) 32 12
def tileGeneration (t : Bytes) : Nat := bits (field t 0 8) 44 8
def tileFormat (t : Bytes) : Nat := bits (field t 0 8) 52 5
def tileOwned (t : Bytes) : Bool := bit (field t 0 8) 57
def tileReserved (t : Bytes) : Nat := bits (field t 0 8) 58 6

/-- Check 1 of R120: the CRC-32C of R112. -/
def tileChecks (t : Bytes) : Bool := crc32c (t.drop 8) == tileCheck t

/-- A sideband (R111). -/
def sideband (owned : Bool) (fmt generation tint check : Nat) : Bytes :=
  u64 (flagNat owned * 2 ^ 57 + fmt % 32 * 2 ^ 52 + generation % 256 * 2 ^ 44 + tint % 4096 * 2 ^ 32 + check % 2 ^ 32)

/-- The strip and the elements of a tile. -/
def tileStrip (fmt : Nat) (t : Bytes) : Bytes := (t.drop 8).take (stripLen fmt)
def tileElems (fmt : Nat) (t : Bytes) : Bytes := t.drop (8 + stripLen fmt)

/-- Bytes with some bits inverted on their way. -/
def received (bs : Bytes) (errs : Errors) : Bytes :=
  errs.foldl (fun l e => l.set e.1 (l.getD e.1 0 ^^^ BitVec.ofNat 8 e.2)) bs

/-- A PAL4 codebook is valid (R77). -/
def codebookOk (strip : Bytes) : Bool :=
  let vs := (List.range 16).map fun i => bf16.decode (field strip (2 * i) 2)
  let a := vs.foldl largerMag (.fin false 0 0)
  vs.all fun v => !v.isNaN && !v.isInf && (v.isZero || a.isZero || decide (a.log2Floor - 15 ≤ v.log2Floor))

end Sys2Proof.Machine
end

