-- ==== Sys2Proof/Machine/Codes.lean ====
section
/-! DEFINITION. The memory codes of the stores (R200, R202, R214): corrected and uncorrectable words, as the reads of
instructions and of scrub meet them. -/

namespace Sys2Proof.Machine

/-! ### Fields of a module address (R181) -/

def addrSpace (a : Nat) : Nat := bits a 45 3
def addrBrick (a : Nat) : Nat := bits a 41 4
def addrCluster (a : Nat) : Nat := 8 * addrBrick a + bits a 37 4
def addrCore (a : Nat) : Nat := 8 * addrCluster a + bits a 33 4

/-! ### Memory codes (R200, R202) -/

/-- Words corrected in a store: counted for the store, and for a local store's core (R48). -/
def State.correctedAt (s : State) (a n : Nat) : State :=
  if addrSpace a = 0 then
    (s.bumpBy (Reg.localCorrected (addrCluster a)) n).countCorrected (addrCore a) n
  else if addrSpace a = 1 then s.bumpBy (Reg.clusterCorrected (addrCluster a)) n
  else s.bumpBy (Reg.stackCorrected (addrBrick a)) n

/-- Counts an uncorrectable word in its store. -/
def State.countUncorrectable (s : State) (a : Nat) : State :=
  if addrSpace a = 0 then s.bump (Reg.localUncorrectable (addrCluster a))
  else if addrSpace a = 1 then s.bump (Reg.clusterUncorrectable (addrCluster a))
  else s.bump (Reg.stackUncorrectable (addrBrick a))

/-- The store of an address as the source of a notice. -/
def storeSource (a : Nat) : Nat :=
  if addrSpace a = 0 then srcCore (addrCore a) else if addrSpace a = 1 then srcCluster (addrCluster a)
  else srcBrick (addrBrick a)

/-- An uncorrectable word (R202, R214): in a tile window the word is delivered as read; in a raw region, a hard fault
of the core, the cluster store or the stack group. -/
def State.uncorrectableAt (s : State) (a foundBy : Nat) : State :=
  let kind := match s.windowAt a with
    | none => 0
    | some r => r.kind
  let s := ((s.countUncorrectable a).setReg Reg.lastUncorrectableAddress a).setReg Reg.lastUncorrectableCourse s.stamp
  let payload := u64 a ++ u8 kind ++ u8 foundBy ++ u64 s.stamp
  if kind = 0 then
    let s := s.notice Note.storeUncorrectable (storeSource a) payload
    if addrSpace a = 0 then s.hardFault 1 (addrCore a)
    else if addrSpace a = 1 then s.hardFault 2 (addrCluster a)
    else
      let s := s.hardFault 3 (addrBrick a)
      if s.prog.running then { s with start := { s.start with granules := s.start.granules ++ [a] } }
      else { s with mem := s.mem.clear (a / 64 * 64) 64 }
  else s.notice { Note.storeUncorrectable with cls := 1 } (storeSource a) payload

/-- What the memory code found in an access to `n` bytes at an address; an uncorrectable word outside them is not of
this access. -/
def State.eccFound (s : State) (a n : Nat) (e : Ecc) (foundBy : Nat) : State :=
  match e with
  | .clean => s
  | .corrected w => s.correctedAt a w
  | .uncorrectable u => if a ≤ u ∧ u < a + n then s.uncorrectableAt u foundBy else s

end Sys2Proof.Machine
end

