-- ==== Sys2Proof/Machine/Common.lean ====
section
/-! DEFINITION. The common instructions (R146 to R148, R134, R165), and the sequencer's (R160 to R164, R145). -/

namespace Sys2Proof.Machine

/-- Every queue; every queue but Q. -/
def allQueues : List Nat := [0, 1, 2, 3, 4, 5, 6, 7]
def engineQueues : List Nat := [0, 1, 2, 3, 4, 5, 6]

/-- An instruction that uses no field. -/
def bare (queues : List Nat) : Shape :=
  { queues := queues, fmts := [], dst := .unused, srcA := .unused, srcB := .unused, flags := 0, imm := 0 }

/-- An instruction that uses only immediate bits. -/
def immOnly (queues : List Nat) (imm : Nat) : Shape := { bare queues with imm := imm }

/-- NOP (R148). -/
def execNop (q : Issue) (f : Fields) (s : State) : Host.Outcome State Fault Refusal :=
  s.instr "NOP" 0x00 q f (bare allQueues) anyFields fun _ s => s

/-- WAIT (R135, R148): holds the next issue for Imm plan cycles, 1 to 2^20. -/
def execWait (q : Issue) (f : Fields) (s : State) : Host.Outcome State Fault Refusal :=
  s.instr "WAIT" 0x01 q f (immOnly allQueues 0x1FFFFF) (fun g => decide (1 ≤ g.imm ∧ g.imm ≤ 2 ^ 20))
    fun g s => s.occupy q g.imm

/-- PLUMB (R146): the queue has arrived at its plumb and is held there. A routine contains no plumb (R167). -/
def execPlumb (q : Issue) (f : Fields) (s : State) : Host.Outcome State Fault Refusal :=
  s.instr "PLUMB" 0x02 q f (immOnly allQueues 0xFFFF00FF)
    (fun g => bit g.imm q.queue && (bitList 8 g.imm).all (hasQueue q.core) && (s.queueOf q).calls.isEmpty)
    fun g s => s.setQueueOf q { s.queueOf q with plumb := some (g.imm / 2 ^ 16, g.imm % 256), plumbAt := s.planCycle q }

/-- Every queue named by a plumb's mask is held at it. -/
def Core.arrived (c : Core) (mark mask : Nat) : Bool :=
  (bitList 8 mask).all fun i => (c.queue i).plumb == some (mark, mask)

/-- The queues of a mask go on in the cycle after a plan position, released from their plumb. -/
def Core.release (c : Core) (mask position : Nat) : Core :=
  (bitList 8 mask).foldl (fun c i => c.setQueue i { c.queue i with plumb := none, busy := position + 1 }) c

/-- The queue-cycles for which the queues of a mask were held at their plumb up to a position (R177). -/
def Core.heldCycles (c : Core) (mask position : Nat) : Nat :=
  (bitList 8 mask).foldl (fun n i => n + (position - (c.queue i).plumbAt)) 0

/-- PLUMB_RELEASE (R146): the last named queue arrives in a cycle of the present plan course; every queue held at the
plumb issues again in the next. -/
def State.releasePlumb (s : State) (core mark cycle : Nat) : State :=
  let c := s.core core
  let position := s.prog.course * 512 + cycle
  match allQueues.findSome? fun i => (c.queue i).plumb.filter fun p => p.1 == mark && c.arrived mark p.2 with
  | none => s
  | some p =>
    (s.setCore core (c.release p.2 position)).bumpBy (Reg.plumbHeldCycles (coreCluster core)) (c.heldCycles p.2 position)

def execPlumbRelease (core : Nat) (arrival : PlumbMark) (s : State) : Host.Outcome State Fault Refusal :=
  s.onUnit "PLUMB_RELEASE" (coreOk core && u16Ok arrival.mark && planCycleOk arrival.cycle)
    (if s.issues then s.releasePlumb core arrival.mark arrival.cycle else s)

/-- RET (R148, R165, R166): the routine ends, its queue's scratch hods empty, and its caller goes on. -/
def execRet (q : Issue) (f : Fields) (s : State) : Host.Outcome State Fault Refusal :=
  s.instr "RET" 0x04 q f (bare engineQueues) (fun _ => !(s.queueOf q).calls.isEmpty && s.scratchEmpty q)
    fun _ s => s.setQueueOf q { s.queueOf q with calls := (s.queueOf q).calls.drop 1 }

/-- END (R148): the bundle ends. A routine contains none (R167). -/
def execEndBundle (q : Issue) (f : Fields) (s : State) : Host.Outcome State Fault Refusal :=
  s.instr "END" 0x05 q f (bare engineQueues) (fun _ => (s.queueOf q).calls.isEmpty)
    fun _ s => s.setQueueOf q { s.queueOf q with bundle := none }

/-- A queue of a core, with no issue in it. -/
def queueAt (core queue : Nat) : Issue := ⟨core, queue, 0, 0, .clean⟩

/-- BUNDLE_START (R134): the oldest released bundle of an idle queue starts. -/
def State.startBundle (s : State) (q : Issue) : State :=
  let x := s.queueOf q
  match x.bundle, x.released with
  | none, b :: r => s.setQueueOf q { x with bundle := some b, released := r, index := b }
  | _, _ => s

def execBundleStart (core queue : Nat) (s : State) : Host.Outcome State Fault Refusal :=
  s.onUnit "BUNDLE_START" (coreOk core && decide (queue < 7)) (if s.issues then s.startBundle (queueAt core queue) else s)

/-! ### The sequencer -/

/-- The shape of a Q instruction. -/
def qShape (dst srcA srcB : Use) (flags imm : Nat) : Shape :=
  { queues := [7], fmts := [], dst := dst, srcA := srcA, srcB := srcB, flags := flags, imm := imm }

/-- Changes a core's sequencer. -/
def State.mapSeq (s : State) (core : Nat) (g : Sequencer → Sequencer) : State :=
  let c := s.core core
  s.setCore core { c with seq := g c.seq }

/-- A count register. -/
def State.count (s : State) (core n : Nat) : Nat := Map.get (s.core core).seq.counts 0 n

/-- A register number field within its bound. -/
def below (n k : Nat) : Bool := decide (n < k)

/-- A place in the code that lies in the innermost loop's body, or at its end (R161, R162). -/
def Sequencer.inBody (x : Sequencer) (index : Nat) : Bool :=
  match x.loops with
  | [] => true
  | l :: _ => decide (index ≤ l.start + l.length)

/-- REL (R134, R164): a bundle of the active bank is released to a queue, whose release list holds four. -/
def execRel (q : Issue) (f : Fields) (s : State) : Host.Outcome State Fault Refusal :=
  s.instr "REL" 0x60 q f (qShape .num .unused .unused 0 0xFFF)
    (fun g => below g.dst 7 && hasQueue q.core g.dst && below (s.queueOf (queueAt q.core g.dst)).released.length 4)
    fun g s =>
      let t := queueAt q.core g.dst
      s.setQueueOf t { s.queueOf t with released := (s.queueOf t).released ++ [g.imm] }

/-- LP (R161): a hardware loop of the next Imm instructions; a count of 0 skips them; at most four levels, each body
within the one around it. -/
def execLp (q : Issue) (f : Fields) (s : State) : Host.Outcome State Fault Refusal :=
  s.instr "LP" 0x61 q f (qShape .num .num .unused 8 0xFFF)
    (fun g => below g.dst 8 && below g.srcA 16 && (flagOf g 3 || g.dst == 0) && below (s.core q.core).seq.loops.length 4 &&
      (s.core q.core).seq.inBody ((s.queueOf q).index + 1 + g.imm))
    fun g s =>
      let n := s.count q.core g.srcA
      let i := (s.queueOf q).index
      if n = 0 ∨ g.imm = 0 then s.setQueueOf q { s.queueOf q with index := i + g.imm }
      else s.mapSeq q.core fun x =>
        { x with loops :=
            { start := i + 1, length := g.imm, left := n, until_ := if flagOf g 3 then some g.dst else none } :: x.loops }

/-- SET (R164). -/
def execSetCount (q : Issue) (f : Fields) (s : State) : Host.Outcome State Fault Refusal :=
  s.instr "SET" 0x62 q f (qShape .num .unused .unused 0 0xFFFFFFFF) (fun g => below g.dst 16)
    fun g s => s.mapSeq q.core fun x => { x with counts := Map.set x.counts 0 g.dst g.imm }

/-- ADDC (R164): C[Dst] ← C[SrcA] + Imm, signed, modulo 2^32. -/
def execAddc (q : Issue) (f : Fields) (s : State) : Host.Outcome State Fault Refusal :=
  s.instr "ADDC" 0x63 q f (qShape .num .num .unused 0 0xFFFFFFFF) (fun g => below g.dst 16 && below g.srcA 16)
    fun g s => s.mapSeq q.core fun x =>
      { x with counts := Map.set x.counts 0 g.dst ((Map.get x.counts 0 g.srcA + g.imm) % 2 ^ 32) }

/-- KSET (R160). -/
def execKset (q : Issue) (f : Fields) (s : State) : Host.Outcome State Fault Refusal :=
  s.instr "KSET" 0x64 q f (qShape .num .num .num 7 0xFFFF)
    (fun g => below g.dst 8 && below g.srcA 16 && below g.srcB 16 && (flagOf g 2 || g.imm == 0) && (!flagOf g 2 || g.srcB == 0))
    fun g s => s.mapSeq q.core fun x =>
      let k : Comparator := ⟨g.srcA, g.srcB, g.imm, g.flags % 4, flagOf g 2⟩
      { x with comparators := Map.set x.comparators Comparator.clear g.dst k }

/-- BK (R162): a forward branch on a comparator, within the loop body that it stands in. -/
def execBk (q : Issue) (f : Fields) (s : State) : Host.Outcome State Fault Refusal :=
  s.instr "BK" 0x65 q f (qShape .num .unused .unused 1 0xFFF)
    (fun g => below g.dst 8 && below (s.queueOf q).index g.imm && (s.core q.core).seq.inBody g.imm)
    fun g s =>
      if (s.core q.core).seq.holds g.dst = flagOf g 0 then s.setQueueOf q { s.queueOf q with index := g.imm - 1 } else s

/-- WCRS (R135, R164): Q waits until a plan cycle, later than the issue, of the present or a later plan course. -/
def execWcrs (q : Issue) (f : Fields) (s : State) : Host.Outcome State Fault Refusal :=
  s.instr "WCRS" 0x66 q f (qShape .unused .unused .unused 0 0xFFFF01FF)
    (fun g => decide (q.cycle < g.imm / 2 ^ 16 * 512 + g.imm % 512))
    fun g s => s.mapSeq q.core fun x => { x with until_ := (s.prog.course + g.imm / 2 ^ 16, g.imm % 512) }

/-- AO (R145, R164): the address offset of a queue, C[SrcA] × Imm [24:0] signed, modulo 2^25. -/
def execAo (q : Issue) (f : Fields) (s : State) : Host.Outcome State Fault Refusal :=
  s.instr "AO" 0x67 q f (qShape .num .num .unused 0 0x1FFFFFF)
    (fun g => (below g.dst 4 || g.dst == 5 || g.dst == 6) && hasQueue q.core g.dst && below g.srcA 16)
    fun g s =>
      let t := queueAt q.core g.dst
      s.setQueueOf t ((s.queueOf t).setAo (s.planCycle q) (ofSigned 25 ((s.count q.core g.srcA : Int) * toSigned 25 g.imm)))

/-- The lowest free wait slot of a core (R258). -/
def Sequencer.freeWait (x : Sequencer) : Option Nat := (List.range 8).find? fun w => (Map.find x.waits w).isNone

/-- A wait of the present plan course: a slot, and an input due in the next (R258). -/
def State.waitFor (s : State) (core : Nat) (w : WaitSlot) (n : Need) : State :=
  match (s.core core).seq.freeWait with
  | none => s
  | some k =>
    let s := s.mapSeq core fun x => { x with waits := Map.put x.waits k w }
    s.mapProg fun p => { p with inputs := p.inputs ++ [{ need := n, due := p.course, cause := 1 }] }

/-- The tie record of R269 at reset and at launch. -/
def Tie.clear : Tie :=
  { value := 0, waiters := 0, lastCourse := allOnes64, lastLanding := allOnes64, device := 0, brick := 0, cluster := 0,
    position := 0, source := 0, op := 0 }

/-- A tie of a core. -/
def State.tie (s : State) (core n : Nat) : Tie := Map.get s.point.ties Tie.clear (core * 64 + n)

/-- Changes a tie. -/
def State.setTie (s : State) (core n : Nat) (v : Tie) : State :=
  { s with point := { s.point with ties := Map.set s.point.ties Tie.clear (core * 64 + n) v } }

/-- TWAIT (R164, R258): a tie condition as an input of the next plan course. -/
def execTwait (q : Issue) (f : Fields) (s : State) : Host.Outcome State Fault Refusal :=
  s.instr "TWAIT" 0x68 q f (qShape .unused .num .unused 1 0x3F)
    (fun g => below g.srcA 16 && (s.core q.core).seq.freeWait.isSome)
    fun g s =>
      let v := s.count q.core g.srcA
      let k := (s.core q.core).seq.freeWait.getD 0
      let t := s.tie q.core g.imm
      let s := s.setTie q.core g.imm { t with waiters := t.waiters ||| 2 ^ k }
      s.waitFor q.core (.tie g.imm v (flagOf g 0)) (.tie q.core g.imm v (flagOf g 0))

/-- LVW (R164, R266): level completion as an input of the next plan course. -/
def execLvw (q : Issue) (f : Fields) (s : State) : Host.Outcome State Fault Refusal :=
  s.instr "LVW" 0x69 q f (qShape .unused .unused .unused 0 0xFF)
    (fun _ => (s.core q.core).seq.freeWait.isSome)
    fun g s => s.waitFor q.core (.level g.imm) (.level q.core g.imm)

end Sys2Proof.Machine
end

