-- ==== Sys2Proof/Machine/Flags.lean ====
section
/-! DEFINITION. The sticky flags of the engines (R103, R106, R107): raising, counting, and clearing. -/

namespace Sys2Proof.Machine

/-- The EngineFlags register of an engine of a core: 0 to 3 the arrays, 4 the Glaze unit. -/
def flagReg (core engine : Nat) : RegId := Reg.engineFlags (coreCluster core) (5 * corePosition core + engine)

/-- The event counter of a flag bit: OF, UF, IX, IV, FL (R107). -/
def eventReg (cluster i : Nat) : RegId :=
  if i = 0 then Reg.ofEvents cluster
  else if i = 1 then Reg.ufEvents cluster
  else if i = 2 then Reg.ixEvents cluster
  else if i = 3 then Reg.ivEvents cluster
  else Reg.flEvents cluster

/-- One event for each flag of a mask. -/
def State.countEvents (s : State) (cluster mask : Nat) : State :=
  (bitList 5 mask).foldl (fun s i => s.bump (eventReg cluster i)) s

/-- An instruction raises flags on its engine: each is set, and counts one event (R103). -/
def State.raise (s : State) (core engine mask : Nat) : State :=
  if mask = 0 then s
  else
    let r := flagReg core engine
    let s := s.setReg r (s.reg r ||| mask % 32)
    s.countEvents (coreCluster core) (mask % 32)

/-- The event counters of a cluster whose flags a W1C write names are cleared (R106, assumption 16). -/
def State.clearEvents (s : State) (cluster value : Nat) : State :=
  (bitList 5 value).foldl (fun s i => s.setReg (eventReg cluster i) 0) s

/-- A W1C write of one flag byte, where the hardware raises `raised` in the same cycle: each bit so kept counts a
collision (R106, set-wins); the raise itself, with its event, follows. -/
def State.clearFlags (s : State) (core engine value raised : Nat) : State :=
  let r := flagReg core engine
  ((s.setReg r (clearBits (s.reg r) value)).clearEvents (coreCluster core) value).bumpBy Reg.clearCollisions
    (countBits 5 (value &&& raised))

/-- ENGINE_FLAGS_CLEAR (R106): the raises of the same cycle happen whatever becomes of the request. -/
def execEngineFlagsClear (v : Via) (cluster position engine value raised : Nat) (s : State) :
    Host.Outcome State Fault Refusal :=
  let core := 8 * cluster + position
  let t := s.writeNumber v (0xA100 + cluster) (1 + 5 * position + engine) 1 value fun s =>
    (rcOk, s.clearFlags core engine value raised)
  s.onUnit "ENGINE_FLAGS_CLEAR" (clusterOk cluster && positionOk position && engineOk engine && u64Ok value)
    (t.raise core engine raised)

/-- A key of the EngineFlags entries. -/
def isFlagKey (k : Nat) : Bool := decide (0xA100 * 256 ≤ k ∧ k < 0xA180 * 256)

/-- An entry that a W1C write of every flag byte leaves: a flag byte without the mask's bits; no event counter of a
flag of the mask (sub 1 of 0xA200 to 0xA27F is OfEvents, and so on to 5). -/
def keptEntry (value : Nat) (e : Nat × Nat) : Option (Nat × Nat) :=
  if isFlagKey e.1 then
    let v := clearBits e.2 value
    if v = 0 then none else some (e.1, v)
  else if 0xA200 * 256 ≤ e.1 ∧ e.1 < 0xA280 * 256 ∧ 1 ≤ e.1 % 256 ∧ e.1 % 256 ≤ 5 ∧ bit value (e.1 % 256 - 1) then none
  else some e

/-- The mask applied as a W1C write to every EngineFlags entry at once (R106, R107). -/
def State.clearEveryFlag (s : State) (value : Nat) : State := { s with regs := s.regs.filterMap (keptEntry value) }

/-- CLEAR_ALL_FLAGS (R106, R107): `raised` lists, by core × 5 + engine, the flags the hardware raises in the same
cycle; ClearCollisions counts each bit so kept in each entry. -/
def execClearAllFlags (v : Via) (value : Nat) (raised : List (Nat × Nat)) (s : State) :
    Host.Outcome State Fault Refusal :=
  let hits := raised.foldl (fun n e => n + countBits 5 (value &&& e.2)) 0
  let t := s.writeNumber v 0xA181 0x02 1 value fun s =>
    (rcOk, (s.clearEveryFlag value).bumpBy Reg.clearCollisions hits)
  s.onUnit "CLEAR_ALL_FLAGS" (u64Ok value && raised.all fun e => decide (e.1 < 5120))
    (raised.foldl (fun s e => s.raise (e.1 / 5) (e.1 % 5) e.2) t)

end Sys2Proof.Machine
end

