-- ==== Sys2Proof/Machine/Transcend.lean ====
section
/-! DEFINITION. The correctly rounded functions of R95: each is bracketed by exact integer arithmetic at a growing
precision until both ends of the bracket round to the same FP32 value. -/

namespace Sys2Proof.Machine

/-- A positive bracket: the value lies between lo × 2^e and hi × 2^e. -/
structure Bracket where
  lo : Nat
  hi : Nat
  e : Int
  deriving DecidableEq, Repr

/-- `v` plus and minus an error bound, in units of 2^e. -/
def bracketOf (v err : Nat) (e : Int) : Bracket := ⟨v - err, v + err, e⟩

/-- Times the exact value m × 2^g. -/
def Bracket.times (b : Bracket) (m : Nat) (g : Int) : Bracket := ⟨b.lo * m, b.hi * m, b.e + g⟩

/-- The product of two brackets. -/
def Bracket.mul (a b : Bracket) : Bracket := ⟨a.lo * b.lo, a.hi * b.hi, a.e + b.e⟩

/-- The same bracket in units of 2^e, for e at or below its own; rounded outwards above it. -/
def Bracket.at_ (b : Bracket) (e : Int) : Bracket :=
  if e ≤ b.e then
    let k := 2 ^ (b.e - e).toNat
    ⟨b.lo * k, b.hi * k, e⟩
  else
    let k := 2 ^ (e - b.e).toNat
    ⟨b.lo / k, b.hi / k + 1, e⟩

/-- a / b with at least `w` bits. -/
def Bracket.div (a b : Bracket) (w : Nat) : Bracket :=
  let k := w + bitLen b.hi
  ⟨a.lo * 2 ^ k / b.hi, a.hi * 2 ^ k / max 1 b.lo + 1, a.e - b.e - k⟩

/-- The sum, in units of the lower exponent. -/
def Bracket.add (a b : Bracket) : Bracket :=
  let e := min a.e b.e
  let a := a.at_ e
  let b := b.at_ e
  ⟨a.lo + b.lo, a.hi + b.hi, e⟩

/-- The difference a − b, where it is positive. -/
def Bracket.sub (a b : Bracket) : Bracket :=
  let e := min a.e b.e
  let a := a.at_ e
  let b := b.at_ e
  ⟨a.lo - b.hi, a.hi - b.lo, e⟩

/-- The exact value m × 2^e. -/
def Bracket.exact (m : Nat) (e : Int) : Bracket := ⟨m, m, e⟩

/-- Σ z^(2k+1)/(2k+1) over `n` terms from k, with t = z^(2k+1) and z² in units of 2^(−w), each rounded down. -/
def atanhTerms (w z2 n k t : Nat) : Nat :=
  match n with
  | 0 => 0
  | n + 1 => t / (2 * k + 1) + atanhTerms w z2 n (k + 1) (t * z2 / 2 ^ w)

/-- atanh(a/b) for a/b ≤ 1/3, in units of 2^(−w): a value and its error bound. -/
def atanhFix (w a b : Nat) : Nat × Nat :=
  let z := a * 2 ^ w / b
  let n := w / 3 + 4
  (atanhTerms w (z * z / 2 ^ w) n 0 z, 4 * n + 8)

/-- ln 2 in units of 2^(−w), with its error bound. -/
def ln2Fix (w : Nat) : Nat × Nat :=
  let r := atanhFix w 1 3
  (2 * r.1, 2 * r.2)

/-- Σ t·r^i/((k)(k+1)…) : the terms of the exponential series, each rounded down. -/
def expTerms (w r n k t : Nat) : Nat :=
  match n with
  | 0 => 0
  | n + 1 => t + expTerms w r n (k + 1) (t * r / 2 ^ w / k)

/-- e^x for x = ±m × 2^e with |x| ≤ 256, at `w` bits: x = k ln 2 + r, then the series of r. -/
def expBracket (w : Nat) (neg : Bool) (m : Nat) (e : Int) : Bracket :=
  let x : Int :=
    let v : Nat := if 0 ≤ e + (w : Int) then m * 2 ^ (e + (w : Int)).toNat else m / 2 ^ (-(e + (w : Int))).toNat
    if neg then -(v : Int) else (v : Int)
  let l := ln2Fix w
  let k : Int := x / (l.1 : Int)
  let r := (x - k * (l.1 : Int)).toNat
  let n := 40 + w / 4
  bracketOf (expTerms w r n 1 (2 ^ w)) (4 * (k.natAbs + 1) * (l.2 + 2) + 4 * n + 16) (k - (w : Int))

/-- 2^x for x = ±m × 2^e: the whole part is exact, the fraction times ln 2 goes through e^r. -/
def exp2Bracket (w : Nat) (neg : Bool) (m : Nat) (e : Int) : Bracket :=
  let x : Int :=
    let v : Nat := if 0 ≤ e + (w : Int) then m * 2 ^ (e + (w : Int)).toNat else m / 2 ^ (-(e + (w : Int))).toNat
    if neg then -(v : Int) else (v : Int)
  let one : Int := (2 ^ w : Nat)
  let k : Int := x / one
  let f := (x - k * one).toNat
  let l := ln2Fix w
  let r := f * l.1 / 2 ^ w
  let n := 40 + w / 4
  bracketOf (expTerms w r n 1 (2 ^ w)) (4 * (l.2 + 4) + 4 * n + 16) (k - (w : Int))

/-- |ln x| for x = m × 2^e other than 1, at `w` bits. -/
def logBracket (w m : Nat) (e : Int) : Bracket :=
  let b := 2 ^ (bitLen m - 1)
  let k : Int := e + (bitLen m : Int) - 1
  let a := atanhFix w (m - b) (m + b)
  let l := ln2Fix w
  let y : Int := k * (l.1 : Int) + 2 * (a.1 : Int)
  bracketOf y.natAbs ((k.natAbs + 1) * (l.2 + 2) + 2 * a.2 + 4) (-(w : Int))

/-- |log₂ x| for x = m × 2^e that is no power of two. -/
def log2Bracket (w m : Nat) (e : Int) : Bracket :=
  let l := ln2Fix w
  (logBracket w m e).div (bracketOf l.1 (l.2 + 1) (-(w : Int))) w

/-- arctan(1/b) by its alternating series, in units of 2^(−w). -/
def atanTerms (w b2 n k t : Nat) (plus : Bool) : Int :=
  match n with
  | 0 => 0
  | n + 1 =>
    let u : Int := (t / (2 * k + 1) : Nat)
    (if plus then u else -u) + atanTerms w b2 n (k + 1) (t / b2) (!plus)

/-- π in units of 2^(−w) by Machin's formula, with its error bound. -/
def piFix (w : Nat) : Nat × Nat :=
  let n := w / 4 + 4
  let a5 := atanTerms w 25 n 0 (2 ^ w / 5) true
  let a239 := atanTerms w (239 * 239) n 0 (2 ^ w / 239) true
  ((16 * a5 - 4 * a239).toNat, 64 * n + 64)

/-- ⌊√n⌋ by halving an interval that holds it, `fuel` times. -/
def sqrtSearch (n fuel lo hi : Nat) : Nat :=
  match fuel with
  | 0 => lo
  | f + 1 =>
    let mid := (lo + hi) / 2
    if mid * mid ≤ n then sqrtSearch n f mid hi else sqrtSearch n f lo mid

/-- ⌊√n⌋. -/
def isqrt (n : Nat) : Nat :=
  let h := 2 ^ (bitLen n / 2 + 1)
  sqrtSearch n (bitLen n / 2 + 3) 0 h

/-- √ of a bracket, at `w` bits. -/
def Bracket.sqrt (b : Bracket) (w : Nat) : Bracket :=
  let e := 2 * ((b.e - 2 * (w : Int)) / 2)
  let c := b.at_ e
  ⟨isqrt c.lo, isqrt c.hi + 1, e / 2⟩

/-- Σ over odd n of p·x^(2n)/(1·3·5·…), in units of 2^(−w): s = Σ y^n/(2n+1)!! with y given, terms rounded down. -/
def oddTerms (w y n k t : Nat) : Nat :=
  match n with
  | 0 => 0
  | n + 1 => t + oddTerms w y n (k + 1) (t * y / 2 ^ w / (2 * k + 1))

/-- erf(z) for z² = y (given in units of 2^(−w)) and z itself exact m × 2^e: 2/√π · e^(−y) · z · Σ (2y)^n/(2n+1)!!. -/
def erfBracket (w m : Nat) (e : Int) : Bracket :=
  let e2 := 2 * e
  let v2 : Nat :=
    if 0 ≤ e2 + (w : Int) then m * m * 2 ^ (e2 + (w : Int)).toNat else m * m / 2 ^ (-(e2 + (w : Int))).toNat
  let n := 400 + w
  let s := oddTerms w (2 * v2) n 1 (2 ^ w)
  let series := bracketOf s (8 * n + 64 + s / 2 ^ (w / 2)) (-(w : Int))
  let p := piFix w
  let rootPi := (bracketOf p.1 p.2 (-(w : Int))).sqrt w
  let ex := expBracket w true (m * m) e2
  ((series.mul ex).times m (e + 1)).div rootPi w

/-- Φ(x) for x = ±m × 2^e: 1/2 ± 1/√(2π) · e^(−x²/2) · |x| · Σ x^(2n)/(2n+1)!!. -/
def phiBracket (w : Nat) (neg : Bool) (m : Nat) (e : Int) : Bracket :=
  let e2 := 2 * e
  let v2 : Nat :=
    if 0 ≤ e2 + (w : Int) then m * m * 2 ^ (e2 + (w : Int)).toNat else m * m / 2 ^ (-(e2 + (w : Int))).toNat
  let n := 800 + w
  let s := oddTerms w v2 n 1 (2 ^ w)
  let series := bracketOf s (8 * n + 64 + s / 2 ^ (w / 2)) (-(w : Int))
  let p := piFix w
  let root2Pi := (bracketOf (2 * p.1) (2 * p.2) (-(w : Int))).sqrt w
  let ex := expBracket w true (m * m) (e2 - 1)
  let half := ((series.mul ex).times m e).div root2Pi w
  if neg then (Bracket.exact 1 (-1)).sub half else (Bracket.exact 1 (-1)).add half

/-- Both ends of a bracket round to one code: that code with its flags, the value being irrational. -/
def settle (flush neg : Bool) (b : Bracket) : Option (Nat × Nat) :=
  if b.lo = 0 then none
  else
    let x := fp32.round false flush neg b.lo b.e true
    let y := fp32.round false flush neg b.hi b.e true
    if x = y then some x else none

/-- The precisions tried, in bits. -/
def precisions : List Nat := [96, 192, 448, 960]

/-- The first precision at which a bracket settles; `free` if none does. -/
def settleAt (flush neg : Bool) (free : Nat × Nat) (ws : List Nat) (b : Nat → Bracket) : Nat × Nat :=
  match ws with
  | [] => free
  | w :: r =>
    match settle flush neg (b w) with
    | some x => x
    | none => settleAt flush neg free r b

/-- A magnitude far above, and one far below, every FP32 value. -/
def hugeMag : Bracket := ⟨2 ^ 80, 2 ^ 81, 160⟩
def tinyMag : Bracket := ⟨2 ^ 80, 2 ^ 81, -400⟩

/-- Just below 1, and just below or above m × 2^e by less than 2^(−100) of it. -/
def nearBelow (m : Nat) (e : Int) : Bracket := ⟨m * 2 ^ 120 - m * 2 ^ 20, m * 2 ^ 120 - 1, e - 120⟩

/-- |x| of a finite value lies at or above 2^k. -/
def magAtLeast (m : Nat) (e k : Int) : Bool := decide (k < e + (bitLen m : Int))

/-- Sigmoid's bracket: 1 / (1 + e^(−x)), as e^x / (1 + e^x) below 0. -/
def sigmoidBracket (w : Nat) (neg : Bool) (m : Nat) (e : Int) : Bracket :=
  let ex := expBracket w true m e
  let one := Bracket.exact 1 0
  if neg then ex.div (one.add ex) w else one.div (one.add ex) w

/-- tanh's bracket for x of at least 2^(−13): (1 − E) / (1 + E) with E = e^(−2x). -/
def tanhBracket (w m : Nat) (e : Int) : Bracket :=
  let ex := expBracket w true m (e + 1)
  let one := Bracket.exact 1 0
  (one.sub ex).div (one.add ex) w

/-- tanh's bracket below 2^(−13): between x − x³/3 and x. -/
def tanhSmall (w m : Nat) (e : Int) : Bracket :=
  let top := m * 2 ^ w
  let cube : Nat :=
    let g := 2 * e + (w : Int)
    if 0 ≤ g then m * m * m * 2 ^ g.toNat / 3 + 1 else m * m * m / 2 ^ (-g).toNat / 3 + 1
  ⟨top - cube, top - cube + cube, e - w⟩

/-- The function numbers of FN's immediate are those of the instruction table; this is the order of R95. -/
inductive Fn where
  | exp | exp2 | log | log2 | recip | rsqrt | tanh | sigmoid | silu | gelu | erf
  deriving DecidableEq, Repr

/-- 1/x or √-type results from an exact quotient: floor of num × 2^w / den with what is left over. -/
def quotient (num den w : Nat) : Nat × Bool := (num * 2 ^ w / den, num * 2 ^ w % den ≠ 0)

/-- An FP32 division of finite non-zero magnitudes, correctly rounded (R94). -/
def divRound (flush neg : Bool) (m : Nat) (e : Int) (n : Nat) (g : Int) : Nat × Nat :=
  let w := 64 + bitLen n
  let q := quotient m n w
  fp32.round false flush neg q.1 (e - g - w) q.2

/-- An FP32 square root of a positive finite value, correctly rounded (R94). -/
def sqrtRound (flush : Bool) (m : Nat) (e : Int) : Nat × Nat :=
  let e' := 2 * ((e - 128) / 2)
  let v := m * 2 ^ (e - e').toNat
  let r := isqrt v
  fp32.round false flush false r (e' / 2) (r * r ≠ v)

/-- 1/√x of a positive finite value: the root of 2^k / m, correctly rounded (R95). -/
def rsqrtRound (flush : Bool) (m : Nat) (e : Int) : Nat × Nat :=
  -- m × 2^e = m' × 2^(2h); 1/√ = √(2^256 / m') × 2^(−128 − h)
  let h : Int := e / 2
  let m' := m * 2 ^ (e - 2 * h).toNat
  let v := 2 ^ 256 / m'
  let r := isqrt v
  fp32.round false flush false r (-128 - h) (r * r * m' ≠ 2 ^ 256)

/-- One of the functions of R95 on an FP32 value: the code and the flags; `free` stands where no precision tried
settles the rounding. -/
def applyFn (flush : Bool) (free : Nat × Nat) (f : Fn) (x : Num) : Nat × Nat :=
  let nan : Nat × Nat := (fp32.nanCode, flIV)
  match x with
  | .nan sig => (fp32.nanCode, if sig then flIV else 0)
  | .inf neg =>
    match f with
    | .exp | .exp2 => if neg then (0, 0) else (fp32.infCode false, 0)
    | .log | .log2 => if neg then nan else (fp32.infCode false, 0)
    | .recip => (flagNat neg * 2 ^ 31, 0)
    | .rsqrt => if neg then nan else (0, 0)
    | .tanh | .erf => (0x3F800000 + flagNat neg * 2 ^ 31, 0)
    | .sigmoid => if neg then (0, 0) else (0x3F800000, 0)
    | .silu | .gelu => if neg then (2 ^ 31, 0) else (fp32.infCode false, 0)
  | .fin neg m e =>
    if m = 0 then
      match f with
      | .exp | .exp2 => (0x3F800000, 0)
      | .log | .log2 => (fp32.infCode true, flIV)
      | .recip | .rsqrt => (fp32.infCode neg, flIV)
      | .sigmoid => (0x3F000000, 0)
      | .tanh | .erf | .silu | .gelu => (flagNat neg * 2 ^ 31, 0)
    else
      let go (n : Bool) (b : Nat → Bracket) : Nat × Nat := settleAt flush n free precisions b
      match f with
      | .exp =>
        if magAtLeast m e 8 then go false (fun _ => if neg then tinyMag else hugeMag)
        else go false (fun w => expBracket w neg m e)
      | .exp2 =>
        if magAtLeast m e 9 then go false (fun _ => if neg then tinyMag else hugeMag)
        else if 0 ≤ e ∨ m % 2 ^ (-e).toNat = 0 then
          let k : Int := signedAt neg (if 0 ≤ e then m * 2 ^ e.toNat else m / 2 ^ (-e).toNat) 0 0
          fp32.round false flush false 1 k false
        else go false (fun w => exp2Bracket w neg m e)
      | .log =>
        if neg then nan
        else if m = 2 ^ (bitLen m - 1) ∧ e + (bitLen m : Int) = 1 then (0, 0)
        else go (decide (e + (bitLen m : Int) < 1)) (fun w => logBracket w m e)
      | .log2 =>
        if neg then nan
        else if m = 2 ^ (bitLen m - 1) then
          let k : Int := e + (bitLen m : Int) - 1
          fp32.round false flush (decide (k < 0)) k.natAbs 0 false
        else go (decide (e + (bitLen m : Int) < 1)) (fun w => log2Bracket w m e)
      | .recip => divRound flush neg 1 0 m e
      | .rsqrt => if neg then nan else rsqrtRound flush m e
      | .tanh =>
        if magAtLeast m e 6 then go neg (fun _ => nearBelow 1 0)
        else if magAtLeast m e (-13) then go neg (fun w => tanhBracket w m e)
        else go neg (fun w => tanhSmall w m e)
      | .sigmoid =>
        if magAtLeast m e 8 then go false (fun _ => if neg then tinyMag else nearBelow 1 0)
        else go false (fun w => sigmoidBracket w neg m e)
      | .silu =>
        if magAtLeast m e 8 then (if neg then go true (fun _ => tinyMag) else go false (fun _ => nearBelow m e))
        else go neg (fun w => (sigmoidBracket w neg m e).times m e)
      | .gelu =>
        -- 16 · Φ(−16) < 2^(−180), far below every FP32 value; 1 − Φ(16) is as small.
        if magAtLeast m e 4 then (if neg then go true (fun _ => tinyMag) else go false (fun _ => nearBelow m e))
        else go neg (fun w => (phiBracket w neg m e).times m e)
      | .erf =>
        if magAtLeast m e 4 then go neg (fun _ => nearBelow 1 0)
        else go neg (fun w => erfBracket w m e)

end Sys2Proof.Machine
end

