-- ==== Sys2Proof/Machine/Glaze.lean ====
section
/-! DEFINITION. The Glaze unit: the V-queue instructions (R153, R154) over FP32 lanes (R94 to R102), with the flags of
R103 and the flush mode of R93. -/

namespace Sys2Proof.Machine

/-! ### One FP32 operation, on codes -/

/-- A code and the flags raised with it. -/
abbrev Flagged := Nat × Nat

/-- The FP32 value of a code. -/
def val32 (c : Nat) : Num := fp32.decode c

/-- The FP32 result of an exact value and of flags already raised (R88, R93, R94). -/
def out32 (flush : Bool) (r : Num × Nat) : Flagged :=
  let o := fp32.result flush r.1
  (o.1, r.2 ||| o.2)

/-- add, sub and mul round once (R94). -/
def add32 (flush : Bool) (a b : Nat) : Flagged := out32 flush ((val32 a).add (val32 b))
def sub32 (flush : Bool) (a b : Nat) : Flagged := out32 flush ((val32 a).add (val32 b).negate)
def mul32 (flush : Bool) (a b : Nat) : Flagged := out32 flush ((val32 a).mul (val32 b))

/-- fma: a × b + c exactly, then one rounding (R94); the IV of an invalid product with a NaN addend is free
(assumption 15). -/
def fma32 (flush : Bool) (a b c : Nat) : Flagged :=
  let p := (val32 a).mul (val32 b)
  let r := p.1.add (val32 c)
  let signals := (val32 a).signalFlag ||| (val32 b).signalFlag ||| (val32 c).signalFlag
  if (val32 c).isNaN && p.2 ≠ 0 && signals == 0 then
    (fp32.nanCode, if Config.fmaInvalid a b c then flIV else 0)
  else
    let o := fp32.result flush r.1
    (o.1, p.2 ||| r.2 ||| o.2)

/-- div (R94): a finite non-zero value by zero is a signed infinity with IV. -/
def div32 (flush : Bool) (a b : Nat) : Flagged :=
  let sig := (val32 a).signalFlag ||| (val32 b).signalFlag
  match val32 a, val32 b with
  | .nan _, _ => (fp32.nanCode, sig)
  | _, .nan _ => (fp32.nanCode, sig)
  | .inf _, .inf _ => (fp32.nanCode, flIV)
  | .inf n, .fin k _ _ => (fp32.infCode (n != k), 0)
  | .fin n _ _, .inf k => (flagNat (n != k) * 2 ^ 31, 0)
  | .fin n m e, .fin k l g =>
    if l = 0 then (if m = 0 then fp32.nanCode else fp32.infCode (n != k), flIV)
    else if m = 0 then (flagNat (n != k) * 2 ^ 31, 0)
    else divRound flush (n != k) m e l g

/-- sqrt (R94). -/
def sqrt32 (flush : Bool) (a : Nat) : Flagged :=
  match val32 a with
  | .nan sig => (fp32.nanCode, if sig then flIV else 0)
  | .inf n => if n then (fp32.nanCode, flIV) else (fp32.infCode false, 0)
  | .fin n m e => if m = 0 then (a, 0) else if n then (fp32.nanCode, flIV) else sqrtRound flush m e

/-- min and max: the other operand of a NaN; −0 below +0 (R94). -/
def pick32 (flush : Bool) (first : Num → Num → Bool) (a b : Nat) : Flagged :=
  let x := val32 a
  let y := val32 b
  let sig := x.signalFlag ||| y.signalFlag
  out32 flush (if x.isNaN then y else if y.isNaN then x else if first y x then y else x, sig)

def min32 (flush : Bool) (a b : Nat) : Flagged := pick32 flush Num.below a b
def max32 (flush : Bool) (a b : Nat) : Flagged := pick32 flush (fun x y => y.below x) a b

/-- A function of R95 on a code. -/
def fn32 (flush : Bool) (f : Fn) (a : Nat) : Flagged :=
  let free := Config.freeFn (match f with
    | .exp => 0 | .exp2 => 1 | .log => 2 | .log2 => 3 | .recip => 4 | .rsqrt => 5 | .tanh => 6 | .sigmoid => 7
    | .silu => 8 | .gelu => 9 | .erf => 10) a
  applyFn flush (free.1.toNat, free.2.toNat) f (val32 a)

/-- The function an `fn` immediate names (R154). -/
def fnOf (n : Nat) : Option Fn :=
  [Fn.exp, .exp2, .log, .log2, .recip, .rsqrt, .tanh, .sigmoid, .silu, .gelu, .erf][n]?

/-! ### Reductions (R97) -/

/-- A fold of one operation, with the flags of every step. -/
def foldOp (op : Nat → Nat → Flagged) (acc : Flagged) (l : List Nat) : Flagged :=
  l.foldl (fun a x => let r := op a.1 x; (r.1, a.2 ||| r.2)) acc

/-- Lane by lane: the accumulators with the next chunk's elements. -/
def accLanes (op : Nat → Nat → Flagged) (acc : List Flagged) (chunk : List Nat) : List Flagged :=
  List.zipWith (fun a x => let r := op a.1 x; (r.1, a.2 ||| r.2)) acc chunk ++ acc.drop chunk.length

/-- One level of the lane tree: neighbours combine, the lower lane on the left, an absent one passes the other. -/
def treeLevel (op : Nat → Nat → Flagged) (l : List Flagged) : List Flagged :=
  match l with
  | [] => []
  | [a] => [a]
  | a :: b :: r => let x := op a.1 b.1; (x.1, a.2 ||| b.2 ||| x.2) :: treeLevel op r

/-- Seven levels. -/
def laneTree (op : Nat → Nat → Flagged) (n : Nat) (l : List Flagged) : Flagged :=
  match n with
  | 0 => l.headD (0, 0)
  | n + 1 => laneTree op n (treeLevel op l)

/-- A reduction of chunks of lanes; lanes beyond a short chunk are absent from it. -/
def reduce (op : Nat → Nat → Flagged) (chunks : List (List Nat)) : Flagged :=
  match chunks with
  | [] => (0, 0)
  | c :: r => laneTree op 7 (r.foldl (accLanes op) (c.map fun x => (x, 0)))

/-! ### Table activation (R96) -/

/-- An FP32 operand that an operation reads from the store: in flush mode a subnormal one is a zero of its sign
(R93), and a signalling NaN raises IV (R70). -/
def operand32 (flush : Bool) (c : Nat) : Flagged :=
  let r := fp32.flushIn flush c
  (r.1, r.2 ||| (val32 r.1).signalFlag)

/-- The result of an end entry of a table. -/
def endEntry (flush : Bool) (c : Nat) : Flagged :=
  let r := operand32 flush c
  out32 flush (val32 r.1, r.2)

/-- Between two entries of a table: T[i] + f × (T[i+1] − T[i]), each operation rounded, for u = (x − lo) × 2^−k. -/
def interpolate32 (flush : Bool) (t : Nat → Nat) (u : Num) : Flagged :=
  let big := !u.less (.fin false 256 0) && !u.isNaN
  let i : Nat := if big then 255 else min 255 u.floor.toNat
  let f : Num := if big then .fin false 1 0 else (u.add (numOfInt (-(i : Int)))).1
  let a := operand32 flush (t i)
  let b := operand32 flush (t (i + 1))
  let step := sub32 flush b.1 a.1
  let p := out32 flush (f.mul (val32 step.1))
  let y := add32 flush a.1 p.1
  (y.1, a.2 ||| b.2 ||| step.2 ||| p.2 ||| y.2)

/-- The value of a table for an input: `lo` and `k` from its header, `t` its entries (R93, R96). -/
def table32 (flush : Bool) (lo : Nat) (k : Int) (t : Nat → Nat) (x : Nat) : Flagged :=
  let v := val32 x
  if v.isNaN then (fp32.nanCode, v.signalFlag)
  else
    let l := operand32 flush lo
    let base := val32 l.1
    let y :=
      if v.less base then endEntry flush (t 0)
      else if !v.less (base.add (.fin false 256 k)).1 && !base.isNaN then endEntry flush (t 256)
      else
        let d := sub32 flush x l.1
        let r := interpolate32 flush t ((val32 d.1).scale (-k))
        (r.1, d.2 ||| r.2)
    (y.1, l.2 ||| y.2)

/-! ### Ranking (R101) -/

/-- A ranks before b: larger first, NaN below every number, equal values by lower index. Several NaNs rank among
themselves by lower index (DESIGN CHOICE, assumption 15: R101 orders a NaN against numbers only). -/
def ranksBefore (a b : Nat × Nat) : Bool :=
  let x := val32 a.2
  let y := val32 b.2
  if x.isNaN then y.isNaN && decide (a.1 < b.1)
  else if y.isNaN then true
  else y.less x || (!x.less y && decide (a.1 < b.1))

/-- Inserts into a ranked list. -/
def rankInto (a : Nat × Nat) (l : List (Nat × Nat)) : List (Nat × Nat) :=
  match l with
  | [] => [a]
  | b :: r => if ranksBefore a b then a :: b :: r else b :: rankInto a r

/-- The first `k` of a list of index and value, in rank order. -/
def topRank (k : Nat) (l : List (Nat × Nat)) : List (Nat × Nat) :=
  l.foldl (fun best a => (rankInto a best).take k) []

/-- Values with their indices. -/
def indexed (l : List Nat) : List (Nat × Nat) := l.zipIdx.map fun e => (e.2, e.1)

/-- The FP32 code of a ranked value: a NaN is canonical. -/
def canon32 (c : Nat) : Nat := if (val32 c).isNaN then fp32.nanCode else c

/-! ### Philox-4×32-10 (R102) -/

/-- One round. -/
def philoxRound (k0 k1 : Nat) (c : Nat × Nat × Nat × Nat) : Nat × Nat × Nat × Nat :=
  let p := 0xD2511F53 * c.1
  let r := 0xCD9E8D57 * c.2.2.1
  (xorMask (xorMask (r / 2 ^ 32) c.2.1) k0, r % 2 ^ 32, xorMask (xorMask (p / 2 ^ 32) c.2.2.2) k1, p % 2 ^ 32)

/-- The rounds, the key rising by its increments. -/
def philoxRounds (n k0 k1 : Nat) (c : Nat × Nat × Nat × Nat) : Nat × Nat × Nat × Nat :=
  match n with
  | 0 => c
  | n + 1 => philoxRounds n ((k0 + 0x9E3779B9) % 2 ^ 32) ((k1 + 0xBB67AE85) % 2 ^ 32) (philoxRound k0 k1 c)

/-- Draw n of a seed, position and purpose, as a uniform FP32 code. -/
def draw (seed position purpose n : Nat) : Nat :=
  let c := philoxRounds 10 (seed % 2 ^ 32) (seed / 2 ^ 32 % 2 ^ 32) (position, n / 4, purpose, 0)
  let w := if n % 4 = 0 then c.1 else if n % 4 = 1 then c.2.1 else if n % 4 = 2 then c.2.2.1 else c.2.2.2
  (fp32.round false false false (w / 256) (-24) false).1

/-! ### Instructions -/

/-- The formats of a lane vector. -/
def laneFmts : List Nat := [0, 1, 2]

/-- The shape of a V instruction. -/
def vShape (srcB : Use) (flags imm : Nat) : Shape :=
  { queues := [4], fmts := laneFmts, dst := .hod, srcA := .hod, srcB := srcB, flags := flags, imm := imm }

/-- The V queue's flush mode bit. -/
def State.vFlush (s : State) (core : Nat) : Bool := ((s.core core).queue 4).flush

/-- The FP32 codes of a popped lane vector, widened exactly, with FL where flush mode reads a subnormal as zero
(R93, R153); a NaN keeps whether it signals. -/
def widen (flush : Bool) (fmt : Nat) (c : Nat) : Flagged :=
  match floatOf fmt with
  | none => (c, 0)
  | some f =>
    let r := f.flushIn flush c
    match f.decode r.1 with
    | .nan sig => (if sig then 0x7F800001 else fp32.nanCode, r.2)
    | .inf n => (fp32.infCode n, r.2)
    | .fin n m e => ((fp32.round false false n m e false).1, r.2)

/-- A lane vector's FP32 codes and the flags of reading it. -/
def widenAll (flush : Bool) (fmt : Nat) (es : List Bytes) : List Nat × Nat :=
  let l := (laneCodes fmt es).map (widen flush fmt)
  (l.map (·.1), l.foldl (fun a x => a ||| x.2) 0)

/-- The flags of a list of results. -/
def flagsOf (l : List Flagged) : Nat := l.foldl (fun a x => a ||| x.2) 0

/-- Pushes an FP32 lane vector to a hod, and raises its flags on the Glaze unit. -/
def State.lanesOut (s : State) (core hod flags : Nat) (l : List Flagged) : State :=
  (s.raise core 4 (flags ||| flagsOf l)).push core hod (fromLanes (l.map (·.1)))

/-- Pops a lane vector and goes on with its codes and flags. -/
def State.lanesIn (s : State) (q : Issue) (hod fmt : Nat) (k : List Nat → Nat → State → State) : State :=
  s.popping q.core hod (laneEntries fmt) fun es s =>
    let x := widenAll (s.vFlush q.core) fmt es
    k x.1 x.2 s

/-- Operand B: a lane vector, or with broadcast one FP32 scalar for every lane (R153). -/
def State.lanesB (s : State) (q : Issue) (f : Fields) (k : List Nat → Nat → State → State) : State :=
  if flagOf f 0 then
    s.popping q.core f.srcB 1 fun es s =>
      let x := widen (s.vFlush q.core) 0 (field (es.headD []) 0 4)
      k (List.replicate 128 x.1) x.2 s
  else s.lanesIn q f.srcB f.fmt k

/-- A one-operand lane instruction. -/
def State.unary (s : State) (q : Issue) (f : Fields) (op : Bool → Nat → Flagged) : State :=
  s.lanesIn q f.srcA f.fmt fun a fa s => s.lanesOut q.core f.dst fa (a.map (op (s.vFlush q.core)))

/-- A two-operand lane instruction. -/
def State.binary (s : State) (q : Issue) (f : Fields) (op : Bool → Nat → Nat → Flagged) : State :=
  s.lanesIn q f.srcA f.fmt fun a fa s =>
    s.lanesB q f fun b fb s => s.lanesOut q.core f.dst (fa ||| fb) (List.zipWith (op (s.vFlush q.core)) a b)

/-- ADD. -/
def execAddLane (q : Issue) (f : Fields) (s : State) : Host.Outcome State Fault Refusal :=
  s.instr "ADD" 0x20 q f (vShape .hod 1 0) anyFields fun g s => s.binary q g add32

/-- SUB. -/
def execSubLane (q : Issue) (f : Fields) (s : State) : Host.Outcome State Fault Refusal :=
  s.instr "SUB" 0x21 q f (vShape .hod 1 0) anyFields fun g s => s.binary q g sub32

/-- MUL. -/
def execMulLane (q : Issue) (f : Fields) (s : State) : Host.Outcome State Fault Refusal :=
  s.instr "MUL" 0x22 q f (vShape .hod 1 0) anyFields fun g s => s.binary q g mul32

/-- Three lanes at a time. -/
def zip3 (op : Nat → Nat → Nat → Flagged) (a b c : List Nat) : List Flagged :=
  match a, b, c with
  | x :: a, y :: b, z :: c => op x y z :: zip3 op a b c
  | _, _, _ => []

/-- A hod that an immediate names. -/
def State.immHod (s : State) (q : Issue) (n : Nat) : Nat := hodIn (s.queueOf q).calls.head? (n % 32)

/-- FMA: operand C from hod Imm [4:0]. -/
def execFma (q : Issue) (f : Fields) (s : State) : Host.Outcome State Fault Refusal :=
  s.instr "FMA" 0x23 q f (vShape .hod 1 0x1F) (fun g => s.immAllowed q g.imm) fun g s =>
    s.lanesIn q g.srcA g.fmt fun a fa s =>
      s.lanesB q g fun b fb s =>
        s.lanesIn q (s.immHod q g.imm) g.fmt fun c fc s =>
          s.lanesOut q.core g.dst (fa ||| fb ||| fc) (zip3 (fma32 (s.vFlush q.core)) a b c)

/-- DIV. -/
def execDivLane (q : Issue) (f : Fields) (s : State) : Host.Outcome State Fault Refusal :=
  s.instr "DIV" 0x24 q f (vShape .hod 1 0) anyFields fun g s => s.binary q g div32

/-- SQRT. -/
def execSqrt (q : Issue) (f : Fields) (s : State) : Host.Outcome State Fault Refusal :=
  s.instr "SQRT" 0x25 q f (vShape .unused 0 0) anyFields fun g s => s.unary q g sqrt32

/-- MIN. -/
def execMinLane (q : Issue) (f : Fields) (s : State) : Host.Outcome State Fault Refusal :=
  s.instr "MIN" 0x26 q f (vShape .hod 1 0) anyFields fun g s => s.binary q g min32

/-- MAX. -/
def execMaxLane (q : Issue) (f : Fields) (s : State) : Host.Outcome State Fault Refusal :=
  s.instr "MAX" 0x27 q f (vShape .hod 1 0) anyFields fun g s => s.binary q g max32

/-- FN: the function of Imm [3:0]; the loader refuses the others. -/
def execFn (q : Issue) (f : Fields) (s : State) : Host.Outcome State Fault Refusal :=
  s.instr "FN" 0x28 q f (vShape .unused 0 0xF) (fun g => (fnOf g.imm).isSome) fun g s =>
    match fnOf g.imm with
    | none => s
    | some fn => s.unary q g fun fl a => fn32 fl fn a

/-- TBL: the table at short address Imm of the local store, in no tile window. -/
def execTbl (q : Issue) (f : Fields) (s : State) : Host.Outcome State Fault Refusal :=
  s.instr "TBL" 0x29 q f (vShape .unused 0 0xFFFFFFFF)
    (fun g => bits g.imm 29 3 == 0 && (s.shortAddress q.core g.imm 1044).any fun a => s.raw a 1044) fun g s =>
      let a := (s.shortAddress q.core g.imm 1044).getD 0
      let t := s.load a 1044
      (s.unary q g fun fl x =>
        table32 fl (field t 0 4) (toSigned 8 (byteAt t 4)) (fun i => field t (16 + 4 * i) 4) x).eccFound a 1044 q.ecc 0

/-- The chunk count of a multi-chunk instruction (R153). -/
def chunkCount (f : Fields) : Nat := f.imm / 2 ^ 16

/-- A chunk count of 1 to 256. -/
def chunksOk (f : Fields) : Bool := decide (1 ≤ chunkCount f ∧ chunkCount f ≤ 256)

/-- Pops `c` lane vectors (R153). -/
def State.chunksIn (s : State) (q : Issue) (hod fmt c : Nat) (k : List (List Nat) → Nat → State → State) : State :=
  s.popping q.core hod (c * laneEntries fmt) fun es s =>
    let n := laneEntries fmt
    let l := (List.range c).map fun i => widenAll (s.vFlush q.core) fmt ((es.drop (n * i)).take n)
    k (l.map (·.1)) (l.foldl (fun a x => a ||| x.2) 0) s

/-- A multi-chunk instruction takes its queue for a cycle a chunk (R135, R153). -/
def State.overChunks (s : State) (q : Issue) (g : Fields) (k : List (List Nat) → Nat → State → State) : State :=
  (s.chunksIn q g.srcA g.fmt (chunkCount g) k).occupy q (chunkCount g)

/-- A scalar result: bytes 0 to 3 of one entry. -/
def State.scalarOut (s : State) (core hod flags : Nat) (r : Flagged) : State :=
  (s.raise core 4 (flags ||| r.2)).push core hod [u32 r.1]

/-- RED: a sum, or with Flags [32] a maximum. -/
def execRed (q : Issue) (f : Fields) (s : State) : Host.Outcome State Fault Refusal :=
  s.instr "RED" 0x2A q f (vShape .unused 1 0xFFFF0000) chunksOk fun g s =>
    s.overChunks q g fun cs fl s =>
      s.scalarOut q.core g.dst fl (reduce ((if flagOf g 0 then max32 else add32) (s.vFlush q.core)) cs)

/-- The squares of chunks, rounded. -/
def squares (flush : Bool) (cs : List (List Nat)) : List (List Nat) × Nat :=
  let l := cs.map fun c => c.map fun x => mul32 flush x x
  (l.map fun c => c.map (·.1), l.foldl (fun a c => a ||| flagsOf c) 0)

/-- SQA: the sum of the rounded squares. -/
def execSqa (q : Issue) (f : Fields) (s : State) : Host.Outcome State Fault Refusal :=
  s.instr "SQA" 0x2B q f (vShape .unused 0 0xFFFF0000) chunksOk fun g s =>
    s.overChunks q g fun cs fl s =>
      let sq := squares (s.vFlush q.core) cs
      s.scalarOut q.core g.dst (fl ||| sq.2) (reduce (add32 (s.vFlush q.core)) sq.1)

/-- The rotary assist of one pair (R100): with `plus` y₁ of (x₀, s) and (x₁, c), otherwise y₀ of (x₀, c) and
(x₁, s). -/
def rotary (flush plus : Bool) (x0 a x1 b : Nat) : Flagged :=
  let p := mul32 flush x0 a
  let r := mul32 flush x1 b
  let y := if plus then add32 flush p.1 r.1 else sub32 flush p.1 r.1
  (y.1, p.2 ||| r.2 ||| y.2)

/-- Four lanes at a time. -/
def zip4 (op : Nat → Nat → Nat → Nat → Flagged) (a b c d : List Nat) : List Flagged :=
  match a, b, c, d with
  | w :: a, x :: b, y :: c, z :: d => op w x y z :: zip4 op a b c d
  | _, _, _, _ => []

/-- y₀ then y₁ of lane vectors x₀, x₁, c, s. -/
def State.rotateOut (s : State) (core hod flags : Nat) (x0 x1 c sn : List Nat) : State :=
  let fl := s.vFlush core
  let y0 := zip4 (rotary fl false) x0 c x1 sn
  let y1 := zip4 (rotary fl true) x0 sn x1 c
  ((s.raise core 4 (flags ||| flagsOf y0 ||| flagsOf y1)).push core hod (fromLanes (y0.map (·.1)))).push core hod
    (fromLanes (y1.map (·.1)))

/-- ROT: cosine from hod Imm [4:0], sine from hod Imm [9:5]. -/
def execRot (q : Issue) (f : Fields) (s : State) : Host.Outcome State Fault Refusal :=
  s.instr "ROT" 0x2C q f (vShape .hod 1 0x3FF) (fun g => s.immAllowed q g.imm && s.immAllowed q (g.imm / 32)) fun g s =>
    s.lanesIn q g.srcA g.fmt fun x0 f0 s =>
      s.lanesB q g fun x1 f1 s =>
        s.lanesIn q (s.immHod q g.imm) g.fmt fun c fc s =>
          s.lanesIn q (s.immHod q (g.imm / 32)) g.fmt fun sn fs s =>
            s.rotateOut q.core g.dst (f0 ||| f1 ||| fc ||| fs) x0 x1 c sn

/-- The flags of ranking: a signalling NaN raises IV (R70). -/
def rankFlags (l : List Nat) : Nat := l.foldl (fun a x => a ||| (val32 x).signalFlag) 0

/-- AMAX (R101): index 0 with IV if every input is a NaN. -/
def execAmax (q : Issue) (f : Fields) (s : State) : Host.Outcome State Fault Refusal :=
  s.instr "AMAX" 0x2D q f (vShape .unused 0 0xFFFF0000) chunksOk fun g s =>
    s.overChunks q g fun cs fl s =>
      let l := cs.flatMap id
      let best := (topRank 1 (indexed l)).headD (0, 0)
      let none_ := l.all fun x => (val32 x).isNaN
      (s.raise q.core 4 (fl ||| rankFlags l ||| (if none_ then flIV else 0))).push q.core g.dst
        [u32 best.1 ++ u32 (canon32 best.2)]

/-- Index and value pairs, eight to an entry. -/
def pairEntries (l : List (Nat × Nat)) : List Bytes :=
  splitVecs 64 (ceilDiv l.length 8) (l.flatMap fun p => u32 p.1 ++ u32 (canon32 p.2))

/-- TOPK (R101): k from 1 to 64. -/
def execTopk (q : Issue) (f : Fields) (s : State) : Host.Outcome State Fault Refusal :=
  s.instr "TOPK" 0x2E q f (vShape .unused 0 0xFFFF007F)
    (fun g => chunksOk g && decide (1 ≤ g.imm % 128 ∧ g.imm % 128 ≤ 64)) fun g s =>
    s.overChunks q g fun cs fl s =>
      let l := cs.flatMap id
      (s.raise q.core 4 (fl ||| rankFlags l)).push q.core g.dst (pairEntries (topRank (g.imm % 128) (indexed l)))

/-- RNG (R102): lane l receives draw n₀ + l of the popped entry's seed, position and purpose. -/
def execRng (q : Issue) (f : Fields) (s : State) : Host.Outcome State Fault Refusal :=
  s.instr "RNG" 0x2F q f { vShape .unused 0 0 with fmts := [] } anyFields fun g s =>
    s.popping q.core g.srcA 1 fun es s =>
      let e := es.headD []
      let lane (l : Nat) : Nat := draw (field e 0 8) (field e 8 4) (field e 12 4) (field e 16 4 + l)
      s.push q.core g.dst (fromLanes ((List.range 128).map lane))

/-- The formats that `cvt` converts to: not PAL4, not TRN5 (R154). -/
def cvtTarget (t : Nat) : Bool := decide (t ≤ 15) && t != 13 && t != 14

/-- A packed W vector of FP32 codes in a target format: 32 elements, with their block's scale after them in MX
formats, MXFP6 among them (assumption 22). -/
def cvtVec (t : Nat) (sat flush : Bool) (xs : List Nat) : Bytes × Nat :=
  if isMx t then
    let r := toMxBlock t (xs.map val32)
    (packAll t r.2.1 ++ u8 r.1, r.2.2)
  else
    let l := xs.map fun x =>
      let r := toElem t sat flush (val32 x)
      (r.1, r.2 ||| (val32 x).signalFlag)
    (packAll t (l.map (·.1)), flagsOf l)

/-- CVT (R90 to R92, R154): to format Imm [4:0]; Flags [32] saturate, [33] spread over four hods. -/
def execCvt (q : Issue) (f : Fields) (s : State) : Host.Outcome State Fault Refusal :=
  s.instr "CVT" 0x30 q f (vShape .unused 3 0x1F)
    (fun g => cvtTarget g.imm && (!flagOf g 1 || decide (g.dst ≤ 28))) fun g s =>
    s.lanesIn q g.srcA g.fmt fun xs fl s =>
      let vec (i : Nat) := cvtVec g.imm (flagOf g 0) (s.vFlush q.core) ((xs.drop (32 * i)).take 32)
      let vs := (List.range 4).map vec
      let s := s.raise q.core 4 (fl ||| vs.foldl (fun a v => a ||| v.2) 0)
      if flagOf g 1 then
        (List.range 4).foldl (fun s i => s.push q.core (g.dst + i) (toEntries g.imm [(vec i).1])) s
      else s.push q.core g.dst (toEntries g.imm (vs.map (·.1)))

/-- DUP: the popped lane vector, to Dst and to hod Imm [4:0]. -/
def execDup (q : Issue) (f : Fields) (s : State) : Host.Outcome State Fault Refusal :=
  s.instr "DUP" 0x31 q f (vShape .unused 0 0x1F) (fun g => s.immAllowed q g.imm) fun g s =>
    s.popping q.core g.srcA (laneEntries g.fmt) fun es s =>
      (s.push q.core g.dst es).push q.core (s.immHod q g.imm) es

end Sys2Proof.Machine
end

