-- ==== Sys2Proof/Machine/Arrays.lean ====
section
/-! DEFINITION. The arrays: pairings and paths (R79 to R88), passes and vat additions (R113 to R127), fills, the five
checks of a tile (R119, R120, R193, R350), and the A-queue instructions (R149 to R152). -/

namespace Sys2Proof.Machine

/-! ### Pairings (R79) -/

/-- The path of a pairing. -/
inductive MulPath where
  | wide | decoded | narrow | integer
  deriving DecidableEq, Repr

/-- Weights that a 16-bit activation decodes and an 8-bit one multiplies. -/
def smallWeights : List Nat := [3, 4, 5, 6, 7, 8, 9, 10, 13, 14]

/-- The path of an activation and a weight format; none where the loader refuses the pairing. -/
def pathOf (act wt : Nat) : Option MulPath :=
  if act ≤ 2 ∧ wt = act then some .wide
  else if (act = 1 ∨ act = 2) ∧ smallWeights.contains wt then some .decoded
  else if [3, 4, 5, 6, 10].contains act ∧ smallWeights.contains wt then some .narrow
  else if act = 9 ∧ [9, 13, 14].contains wt then some .narrow
  else if act = 11 ∧ (wt = 11 ∨ wt = 12) then some .integer
  else if act = 12 ∧ wt = 12 then some .integer
  else none

/-- Tile formats that Wᵀ mode reads (R127). -/
def transposable : List Nat := [0, 1, 2, 3, 4, 11, 12, 13]

/-! ### Column sums -/

/-- A value and the flags of forming it. -/
abbrev NumF := Num × Nat

/-- The wide path (R81): products rounded, summed from row 0's product on, each sum rounded. -/
def dotWide (flush : Bool) (xs ws : List Num) : Flagged :=
  let ps := List.zipWith (fun x w => out32 flush (x.mul w)) xs ws
  match ps with
  | [] => (0, 0)
  | p :: r => r.foldl (fun a x => let y := add32 flush a.1 x.1; (y.1, a.2 ||| x.2 ||| y.2)) p

/-- An infinity times a zero, in either order. -/
def infByZero (x w : Num) : Bool := (x.isInf && w.isZero) || (x.isZero && w.isInf)

/-- The narrow path (R83, R84): exact products and sum, the scales, one rounding. `nanScale`: a scale code is 0xFF. -/
def dotNarrow (flush nanScale : Bool) (shift : Int) (xs ws : List Num) : Flagged :=
  let ps : List Num := List.zipWith (fun (x w : Num) => (x.mul w).1) xs ws
  let bad := (List.zipWith infByZero xs ws).any id
  let pos := ps.any fun (p : Num) => p.isInf && !p.isNeg
  let neg := ps.any fun (p : Num) => p.isInf && p.isNeg
  let invalid := bad || (pos && neg)
  if nanScale || invalid || xs.any Num.isNaN || ws.any Num.isNaN then (fp32.nanCode, if invalid then flIV else 0)
  else if pos || neg then (fp32.infCode neg, 0)
  else
    let t : Num := ps.foldl (fun (a p : Num) => (a.add p).1) (Num.fin false 0 0)
    if t.isZero then (0, 0) else fp32.result flush (t.scale shift)

/-- An integer pairing (R86): exact, as a 32-bit pattern. -/
def dotInt (xs ws : List Num) : Flagged :=
  (ofSigned 32 ((List.zipWith (fun x w => (x.mul w).1.floor) xs ws).foldl (· + ·) 0), 0)

/-! ### Operands of a pass -/

/-- An activation element (R93 on the wide path). -/
def actNum (path : MulPath) (flush : Bool) (act c : Nat) : NumF :=
  match path, floatOf act with
  | .wide, some f | .decoded, some f => let r := f.flushIn flush c; (f.decode r.1, r.2)
  | _, _ => (elemValue act [] c, 0)

/-- A weight element of column `n` (R82, R93): `strip` is the tile's strip. In a decoded-weight pairing the feeder has
made it FP32 at the fill. -/
def weightNum (path : MulPath) (flush : Bool) (wt : Nat) (strip : Bytes) (n c : Nat) : NumF :=
  match path with
  | .wide =>
    match floatOf wt with
    | some f => let r := f.flushIn flush c; (f.decode r.1, r.2)
    | none => (elemValue wt strip c, 0)
  | .decoded =>
    let sc := byteAt strip n
    let v := elemValue wt strip c
    if hasScale wt && (sc == 0xFF) then (.nan false, 0)
    else
      let o := fp32.result false (if hasScale wt then v.scale ((sc : Int) - 127) else v)
      let r := fp32.flushIn flush o.1
      (fp32.decode r.1, (o.2 &&& flOF) ||| r.2)
  | .narrow | .integer => (elemValue wt strip c, 0)

/-- Rows of 128 weights of a tile. -/
def tileRows (path : MulPath) (flush : Bool) (wt : Nat) (t : Bytes) : List (List NumF) :=
  let strip := tileStrip wt t
  let codes := unpackAll wt 4096 (tileElems wt t)
  (List.range 32).map fun k =>
    (((codes.drop (128 * k)).take 128).zipIdx).map fun e => weightNum path flush wt strip e.2 e.1

/-- Columns of rows. -/
def columns (rows : List (List NumF)) : List (List NumF) :=
  rows.foldr (fun row cols => List.zipWith (fun w c => w :: c) row cols) (List.replicate 128 [])

/-- The flags of reading operands. -/
def readFlags (l : List NumF) : Nat := l.foldl (fun a x => a ||| x.2) 0

/-- One 32-product sum. `sa` and `sw`: scale codes, 127 for none. The flags of decoding a weight were raised at its
fill (R82, R119). -/
def dot (path : MulPath) (flush : Bool) (sa sw : Nat) (xs ws : List NumF) : Flagged :=
  let x := xs.map (·.1)
  let w := ws.map (·.1)
  let r := match path with
    | .wide | .decoded => dotWide flush x w
    | .narrow => dotNarrow flush (sa == 0xFF || sw == 0xFF) ((sa : Int) + sw - 254) x w
    | .integer => dotInt x w
  (r.1, r.2 ||| readFlags xs ||| (if path = .decoded then 0 else readFlags ws))

/-! ### Vat additions (R86 to R88, R123, R125) -/

/-- An unopened row: it reads as 0. -/
def VatRow.unopened : VatRow := { opened := false, int := false, cols := List.replicate 128 0 }

/-- One addition to a vat element. -/
def vatAdd (int saturate flush : Bool) (a b : Nat) : Flagged :=
  if int then
    let t := toSigned 32 a + toSigned 32 b
    let hi : Int := 2 ^ 31 - 1
    let lo : Int := -(2 ^ 31)
    if hi < t ∨ t < lo then (ofSigned 32 (if saturate then (if hi < t then hi else lo) else t), flOF)
    else (ofSigned 32 t, 0)
  else add32 flush a b

/-- A column of a row before an addition: 0 in an unopened row; a column that the pass does not reach there is free
(assumption 18). -/
def VatRow.before (r : VatRow) (reached : Bool) (seed row i : Nat) : Nat :=
  if r.opened then (r.cols.getD i 0).toNat else if reached then 0 else (Config.freeVat seed (128 * row + i)).toNat

/-- The results of a pass reach a row at columns `c0` on; `first` writes, otherwise they add. An unopened row that an
accumulating pass opens takes that pass's format (DESIGN CHOICE, assumption 18: R125 sets the tag in an opening pass
only). -/
def VatRow.add (r : VatRow) (int saturate flush first : Bool) (seed row c0 : Nat) (vals : List Flagged) : VatRow × Nat :=
  let one (i : Nat) : Flagged :=
    if c0 ≤ i ∧ i < c0 + vals.length then
      let v := vals.getD (i - c0) (0, 0)
      if first then v
      else
        let y := vatAdd int saturate flush (r.before true seed row i) v.1
        (y.1, v.2 ||| y.2)
    else (r.before false seed row i, 0)
  let l := (List.range 128).map one
  ({ opened := true, int := if first || !r.opened then int else r.int, cols := l.map fun x => BitVec.ofNat 32 x.1 },
    flagsOf l)

/-- What a pass carries into its vat: rows, and the flags raised. -/
abbrev VatF := Map VatRow × Nat

/-- One set of results added to a row of the vat. -/
def addRow (p : Pass) (flush int first : Bool) (seed row c0 : Nat) (vals : List Flagged) (v : VatF) : VatF :=
  let r := (Map.get v.1 VatRow.unopened row).add int p.saturate flush first seed row c0 vals
  (Map.set v.1 VatRow.unopened row r.1, v.2 ||| r.2)

/-! ### The times of a pass (R115, R124, R127) -/

/-- The cycles from one vector's entry to the next; 0 at the double-pumped rate. -/
def Pass.interval (p : Pass) : Nat :=
  if p.act = 0 then (if p.transposed then 64 else 16)
  else if p.act ≤ 2 then (if p.transposed then 16 else 4)
  else if p.transposed then 4
  else if p.act = 9 ∨ p.act = 12 then 0
  else 1

/-- The entry e(v) of vector v, as a plan position. -/
def Pass.entry (p : Pass) (v : Nat) : Nat := p.start + (if p.interval = 0 then v / 2 else p.interval * v)

/-- The class latency Lc. -/
def Pass.latency (p : Pass) : Nat :=
  if p.act = 0 then 48 else if p.act ≤ 2 then 36 else if p.act = 11 ∨ p.act = 12 then 32 else 34

/-- The plan position at which vector v's sums of group g are added. -/
def Pass.addedAt (p : Pass) (v g : Nat) : Nat := p.entry v + p.latency + g

/-- The position of the pass's last addition. -/
def Pass.lastAdded (p : Pass) : Nat := p.addedAt (p.count - 1) 3

/-- The position at which the pass pops its last entries: the cycle before it enters. -/
def Pass.lastPop (p : Pass) : Nat := p.entry (p.count - 1) + (if p.transposed then 3 else 0) - 1

/-- The groups of vector v that a read at a plan position sees, from group 0 on: an addition in cycle a is visible from
a + 2 (R124); all of them where the position is none. -/
def Pass.shown (p : Pass) (read : Option Nat) (v : Nat) : Nat :=
  match read with
  | none => 4
  | some r => (List.range 4).countP fun g => decide (p.addedAt v g + 2 ≤ r)

/-- The plan cycles in which the pass starts a product, from a position on: per vector the 32 of the row skew, and 3
more where it enters in four groups (R130). -/
def Pass.busyFrom (p : Pass) (after : Nat) : Nat × Nat :=
  (List.range p.count).foldl (fun a v =>
    let last := p.entry v + (if p.transposed then 34 else 31) + 1
    let first := max (p.entry v) a.1
    (max a.1 last, a.2 + (last - first))) (after, 0)

/-- The vat row of vector v (R114). -/
def Pass.row (p : Pass) (v : Nat) : Nat := (p.base + p.stride * v) % 64

/-- The first addition that an opening pass makes to a row (R125). -/
def Pass.writes (p : Pass) (v : Nat) : Bool := p.opening && (p.stride == 1 || v == 0)

/-- A vector of a W-mode pass (R114): one sum a column, in the groups that are shown. -/
def Recent.vector (x : Recent) (path : MulPath) (strip : Bytes) (cols : List (List NumF)) (read : Option Nat) (v : Nat)
    (vec : Nat × List Nat) (vat : VatF) : VatF :=
  let p := x.pass
  let n := p.shown read v
  if n = 0 then vat
  else
    let xs := vec.2.map (actNum path x.flush p.act)
    let sums := ((cols.take (32 * n)).zipIdx).map fun c =>
      dot path x.flush vec.1 (if hasScale p.wt then byteAt strip c.2 else 127) xs c.1
    addRow p x.flush (path == .integer) (p.writes v) x.seed (p.row v) 0 sums vat

/-- A group of a Wᵀ vector (R127): one sum a row, into quarter q. -/
def Recent.group (x : Recent) (path : MulPath) (rows : List (List NumF)) (read : Option Nat) (v g : Nat)
    (vec : Nat × List Nat) (vat : VatF) : VatF :=
  let p := x.pass
  if p.shown read v ≤ g then vat
  else
    let xs := vec.2.map (actNum path x.flush p.act)
    let sums := rows.map fun r => dot path x.flush vec.1 127 xs ((r.drop (32 * g)).take 32)
    addRow p x.flush (path == .integer) (p.writes v && g == 0) x.seed (p.row v) (32 * p.quarter) sums vat

/-- The additions of a pass on its tile, in order: all, or those that a read at a plan position sees. A decoded weight
was flushed by the bit at its fill (R82, R119). -/
def Recent.run (x : Recent) (read : Option Nat) (vat : Map VatRow) : VatF :=
  match pathOf x.pass.act x.pass.wt with
  | none => (vat, 0)
  | some path =>
    let rows := tileRows path (if path = .decoded then x.tile.flush else x.flush) x.pass.wt x.tile.bytes
    if x.pass.transposed then
      (x.vectors.zipIdx).foldl (fun a e => x.group path rows read (e.2 / 4) (e.2 % 4) e.1 a) (vat, 0)
    else
      let cols := columns rows
      (x.vectors.zipIdx).foldl (fun a e => x.vector path (tileStrip x.pass.wt x.tile.bytes) cols read e.2 e.1 a) (vat, 0)

/-- The flags of decoding a tile at its fill (R82, R119). -/
def decodeFlags (act wt : Nat) (flush : Bool) (t : Bytes) : Nat :=
  if pathOf act wt = some .decoded then (tileRows .decoded flush wt t).foldl (fun a r => a ||| readFlags r) 0 else 0

/-! ### Tiles and passes of an array -/

/-- An array of a core. -/
def State.arrayOf (s : State) (core eng : Nat) : ArrayState := (s.core core).array eng

/-- Changes an array. -/
def State.setArrayOf (s : State) (core eng : Nat) (v : ArrayState) : State := s.setCore core ((s.core core).setArray eng v)

/-- The slots whose tints a tile's pass serves: its batch's, or the slot it is bound to. -/
def State.servedSlots (s : State) (g : Fill) : List Nat :=
  match g.batch, s.plan.running with
  | some b, some p => p.batches.getD b []
  | _, _ => (g.front.bind fun x => x.slot).toList

/-- A pass makes its additions on a tile that delivers data, and raises its flags on the array; with no data nothing
(R122). The flags of decoding the tile are raised with its front. A pass that names another weight format than the tile
latched is a format fault (R80, R104). -/
def State.runOn (s : State) (core eng : Nat) (x : Recent) : State :=
  if x.tile.verdict = some true then
    if tileFormat x.tile.bytes ≠ x.pass.wt then s.formatFault core eng 1 (s.servedSlots x.tile)
    else
      let a := s.arrayOf core eng
      let x := { x with seed := s.drawn, before := a.vat }
      let r := x.run none a.vat
      let fl := if x.pass.fresh then decodeFlags x.pass.act x.pass.wt x.tile.flush x.tile.bytes else 0
      let kept := a.recent.filter fun y => decide (x.pass.start < y.pass.lastAdded + 2)
      ((s.setArrayOf core eng { a with vat := r.1, recent := kept ++ [x] }).raise core eng (r.2 ||| fl)).drew 1
  else s

/-- The take of a pass. -/
def Core.takeOf (c : Core) (p : Pass) : Option Take := c.takes.find? fun t => t.hod == p.hod && t.start == p.start

/-- An array has what it needs of a take; the last to have it ends the take. -/
def Core.endTake (c : Core) (p : Pass) (eng : Nat) : Core :=
  let took (t : Take) : Take :=
    if t.hod = p.hod ∧ t.start = p.start then { t with left := t.left.filter (· != eng) } else t
  { c with takes := (c.takes.map took).filter fun t => !t.left.isEmpty }

/-- The vectors of a pass, once it has taken them all. -/
def Core.vectorsOf (c : Core) (p : Pass) : Option (List (Nat × List Nat)) :=
  match c.takeOf p with
  | none => none
  | some t =>
    if t.entries.length < t.need then none
    else some ((fromEntries p.act (if p.transposed then 4 * p.count else p.count) t.entries).map (vecParse p.act))

/-- The oldest pass of an array runs on a tile. -/
def State.runFirst (s : State) (core eng : Nat) (p : Pass) (flush : Bool) (vs : List (Nat × List Nat)) (g : Fill) : State :=
  (s.setCore core ((s.core core).endTake p eng)).runOn core eng
    { pass := p, flush := flush, vectors := vs, tile := g, seed := 0, before := [] }

/-- Runs, in order, the passes that have started, have their vectors and whose tile has its verdict; `n` bounds their
number. A later pass on a latched tile that delivers no data makes no additions either and aborts nothing more, and a
pass on the tile latched where none is runs without data (DESIGN CHOICE, assumption 23: R122 and R113 speak of the
pass that failed and of a tile latched before). -/
def State.settle (s : State) (core eng n : Nat) : State :=
  match n with
  | 0 => s
  | n + 1 =>
    let a := s.arrayOf core eng
    match a.passes with
    | [] => s
    | p :: rest =>
      match p.flush, (s.core core).vectorsOf p with
      | some fl, some vs =>
        if p.fresh then
          match a.fills with
          | [] => s
          | g :: gs =>
            if g.verdict.isNone then s
            else
              let g := { g with flush := fl }
              ((s.setArrayOf core eng { a with passes := rest, fills := gs, active := some g }).runFirst core eng p fl vs
                g).settle core eng n
        else
          let s := s.setArrayOf core eng { a with passes := rest }
          match a.active with
          | none => (s.setCore core ((s.core core).endTake p eng)).settle core eng n
          | some g => (s.runFirst core eng p fl vs g).settle core eng n
      | _, _ => s

/-- The passes of an array that have started by a plan position take the flush bit of its queue (R147). -/
def State.capturePasses (s : State) (core eng now : Nat) : State :=
  let a := s.arrayOf core eng
  let bit := ((s.core core).queue eng).flush
  let take (p : Pass) : Pass := if p.start ≤ now ∧ p.flush.isNone then { p with flush := some bit } else p
  s.setArrayOf core eng { a with passes := a.passes.map take }

/-- An array comes to a plan position: its started passes go on. A pass that could run when its `mma` issued does so at
the next instruction of its queue, at a verdict, or at the end of the course (assumption 23). -/
def State.runTo (s : State) (core eng now : Nat) : State :=
  let s := s.capturePasses core eng now
  s.settle core eng (s.arrayOf core eng).passes.length

/-- The arrays of a core come to a plan position; a pass that should by then have popped its last entry and has not met
an empty hod (R141). -/
def State.runCore (s : State) (core now : Nat) : State :=
  let s := ((s.core core).arrays.map (·.1)).foldl (fun s e => s.runTo core e now) s
  let late := (s.core core).arrays.findSome? fun e => e.2.passes.find? fun p =>
    decide (p.lastPop ≤ now) && ((s.core core).takeOf p).any fun t => decide (t.entries.length < t.need)
  match late with
  | none => s
  | some p => s.hodFault core p.hod 1

/-- Every array comes to the end of the present plan course. -/
def State.runArrays (s : State) : State :=
  if s.issues then (s.cores.map (·.1)).foldl (fun s c => s.runCore c (s.prog.course * 512 + 511)) s else s

/-! ### Suspensions (R121) -/

/-- A tile that failed check 1 suspends the plan, or joins the suspension that stands; the slip course of a
suspension is counted where the next external course begins (assumption 46). -/
def State.suspendFor (s : State) (w : TileWait) : State :=
  match s.prog.suspension with
  | some x => s.mapProg fun p => { p with suspension := some { x with waiting := x.waiting ++ [w] } }
  | none =>
    s.mapProg fun p => { p with suspension := some { waiting := [w], edges := [], courses := 1, cause := 3 } }

/-- SUSPENSION_END (R121, R221): the plan resumes if nothing is awaited, and its plan course ends in this external
course; otherwise the suspension takes another course. -/
def State.endSuspension (s : State) : State :=
  match s.prog.suspension with
  | none => s
  | some x =>
    if x.waiting.isEmpty && x.edges.isEmpty then s.mapProg fun p => { p with suspension := none, resumed := true }
    else
      let s := if x.courses = 1 then s.bumpBy Reg.rereadOverruns x.waiting.length else s
      s.mapProg fun p => { p with suspension := some { x with courses := x.courses + 1 } }

def execSuspensionEnd (s : State) : Host.Outcome State Fault Refusal := s.done s.endSuspension

/-! ### The verdict (R120) -/

/-- A pass bound to a slot that holds no Stamped tint (R193, R318). -/
def State.countIdle (s : State) (slot : Nat) : State :=
  let st := (s.slot slot).state
  if st = 1 ∨ st = 2 then s.bump Reg.clearingReads else s.bump Reg.idleSlotPasses

/-- Check 4: an owned tile of the tint that the slot holds; otherwise a shared tile. -/
def State.tintOk (s : State) (x : Front) (t : Bytes) : Bool :=
  match x.slot with
  | some n => tileOwned t && tileTint t == (s.slot n).tint
  | none => !tileOwned t

/-- Check 5. -/
def generationOk (x : Front) (t : Bytes) : Bool :=
  match x.slot with
  | some _ => true
  | none => x.expected == some (tileGeneration t)

/-- A tint mismatch (R120, R132). -/
def State.tintMismatch (s : State) (core eng : Nat) (g : Fill) (x : Front) : State :=
  let expected := match x.slot with
    | some n => (s.slot n).tint
    | none => 0xFFFF
  let seen := if tileOwned g.bytes then tileTint g.bytes else 0xFFFF
  let s := (s.bump (Reg.tintMismatches (coreCluster core))).arrayFault 2 core eng
  let s := s.notice Note.tintMismatch (srcCore core) (unitBytes core eng ++ u16 seen ++ u16 expected ++ u64 s.prog.course)
  s.abortSlots whyTint (s.servedSlots g)

/-- A generation mismatch (R120, R132). -/
def State.generationMismatch (s : State) (core eng : Nat) (g : Fill) (x : Front) : State :=
  let s := (s.bump (Reg.generationMismatches (coreCluster core))).arrayFault 3 core eng
  let s := s.notice Note.generationMismatch (srcCore core)
    (unitBytes core eng ++ u8 (tileGeneration g.bytes) ++ u8 (x.expected.getD 0) ++ u64 s.prog.course)
  s.abortSlots whyStale (s.servedSlots g)

/-- Invalid TRN5 bytes of a tile (R78). -/
def invalidTrits (wt : Nat) (t : Bytes) : Nat := if wt = 14 then (tileElems wt t).countP fun b => decide (243 ≤ b.toNat) else 0

/-- Checks 2 to 5 on a tile whose Check matches, for the front that takes it: whether it delivers data. -/
def State.judgeRest (s : State) (core eng : Nat) (g : Fill) (x : Front) : Bool × State :=
  if tileFormat g.bytes ≠ x.wt ∨ tileReserved g.bytes ≠ 0 then (false, s.formatFault core eng 1 (s.servedSlots g))
  else if x.wt = 13 ∧ codebookOk (tileStrip 13 g.bytes) = false then (false, s.formatFault core eng 2 (s.servedSlots g))
  else if s.tintOk x g.bytes = false then (false, s.tintMismatch core eng g x)
  else if generationOk x g.bytes = false then (false, s.generationMismatch core eng g x)
  else
    let n := invalidTrits x.wt g.bytes
    (true, if n = 0 then s else (s.bumpBy Reg.trnInvalidBytes n).raise core eng flIV)

/-- What comes before check 1 (R193, R350): the pass delivers no data without any check. -/
def State.unchecked (s : State) (x : Front) : Bool :=
  match x.slot with
  | some n => !s.stamped n
  | none => x.expected.isNone

/-- The pass that such a front opens counts as idle at its slot, where it has one. -/
def State.countUnchecked (s : State) (x : Front) : State :=
  match x.slot with
  | some n => s.countIdle n
  | none => s

/-- Gives the first fill that has none its verdict. -/
def giveVerdict (v : Bool) (l : List Fill) : List Fill :=
  match l with
  | [] => []
  | g :: r => if g.verdict.isNone then { g with verdict := some v } :: r else g :: giveVerdict v r

/-- The verdict on an array's oldest unjudged tile stands, and the passes that waited for it run. -/
def State.judged (s : State) (core eng : Nat) (v : Bool) : State :=
  let a := s.arrayOf core eng
  (s.setArrayOf core eng { a with fills := giveVerdict v a.fills }).settle core eng a.passes.length

/-- An array's tile waits for its re-read. -/
def State.awaits (s : State) (c : Consumer) : Bool :=
  s.prog.suspension.any fun x => x.waiting.any fun w => w.consumer == c

/-- A failed Check (R120, R121). -/
def State.checkFailed (s : State) (core eng : Nat) (g : Fill) : State :=
  let s := (s.bump (Reg.tileCrcFailures (coreCluster core))).arrayFault 1 core eng
  s.suspendFor { consumer := .feeder core eng, address := g.address, fmt := g.fmt, dest := 0, failed := false }

/-- The oldest tile without a verdict is judged, once the cycle of its verdict has come and its front has issued: a
tile filled long before its front is checked against what the front names when it issues (assumption 23). -/
def State.judgeFill (s : State) (core eng : Nat) : State :=
  if s.awaits (.feeder core eng) then s
  else
    match (s.arrayOf core eng).fills.find? fun g => g.verdict.isNone with
    | none => s
    | some g =>
      match g.front with
      | none => s
      | some x =>
        if g.arrived = false then s
        else
          if s.unchecked x then (s.countUnchecked x).judged core eng false
          else if tileChecks g.bytes then
            let r := s.judgeRest core eng g x
            r.2.judged core eng r.1
          else s.checkFailed core eng g

/-- Marks the first fill whose verdict's cycle has not come. -/
def markArrived (l : List Fill) : List Fill :=
  match l with
  | [] => []
  | g :: r => if g.arrived then g :: markArrived r else { g with arrived := true } :: r

/-- TILE_VERDICT (R119): nothing in a course without plan work (R116); verdicts of one cycle may share a suspension
(R121). -/
def State.tileVerdict (s : State) (core eng : Nat) : State :=
  if s.prog.works then
    let a := s.arrayOf core eng
    (s.setArrayOf core eng { a with fills := markArrived a.fills }).judgeFill core eng
  else s

def execTileVerdict (core engine : Nat) (s : State) : Host.Outcome State Fault Refusal :=
  s.onUnit "TILE_VERDICT" (coreOk core && decide (engine < 4) && hasQueue core engine) (s.tileVerdict core engine)

/-! ### A-queue instructions -/

/-- The A queues. -/
def aQueues : List Nat := [0, 1, 2, 3]

/-- The array of a queue has done all that its cycles up to the instruction's issue bring. -/
def State.runToNow (s : State) (q : Issue) : State := s.runTo q.core q.queue (s.planCycle q)

/-- A descriptor that nothing has set. -/
def TileDesc.clear : TileDesc := { slotKind := false, slot := 0, generation := 0 }

/-- FMODE (R147): the queue's flush mode bit, from the next cycle on; a pass of the queue that has started by then keeps
the bit as it stood. -/
def execFmode (q : Issue) (f : Fields) (s : State) : Host.Outcome State Fault Refusal :=
  s.instr "FMODE" 0x06 q f { bare allQueues with flags := 1 } anyFields
    fun g s =>
      let s := if q.queue < 4 then s.runToNow q else s
      s.setQueueOf q { s.queueOf q with flush := flagOf g 0 }

/-- TSET (R149). -/
def execTset (q : Issue) (f : Fields) (s : State) : Host.Outcome State Fault Refusal :=
  s.instr "TSET" 0x10 q f
    { queues := aQueues, fmts := [], dst := .num, srcA := .unused, srcB := .unused, flags := 0, imm := 0x8FFFFF00 }
    (fun g => below g.dst 8 && (if bit g.imm 31 then bits g.imm 8 8 == 0 else bits g.imm 16 12 == 0))
    fun g s =>
      let a := s.arrayOf q.core q.queue
      let d : TileDesc := { slotKind := bit g.imm 31, slot := bits g.imm 16 12, generation := bits g.imm 8 8 }
      s.setArrayOf q.core q.queue { a with descs := Map.set a.descs TileDesc.clear g.dst d }

/-- The expected generation of a shared tile (R350): the descriptor's, else the one bound to the batch, else the one
in force. -/
def State.expectedGeneration (s : State) (d : TileDesc) (batch : Option Nat) : Option Nat :=
  if d.generation ≠ 0 then some d.generation
  else
    let bound := match batch with
      | some b => Map.get s.serving.bindings 0 b
      | none => 0
    if bound ≠ 0 then some bound
    else if s.reg Reg.inForce ≠ 0 then some (s.reg Reg.inForce) else none

/-- The address of a tile of a Shared window on the side that holds a generation; side 0 if none does (R345,
R350). -/
def State.sideAddress (s : State) (a : Nat) (e : Option Nat) : Nat :=
  match s.regionOf a with
  | none => a
  | some r =>
    if r.kind = 1 ∧ e.any (fun g => g ≠ 0 && s.reg (Reg.sideGeneration 1) == g && s.reg (Reg.sideGeneration 0) != g) then
      a + r.size / 2 * 64
    else a

/-- A descriptor TDn of an array. -/
def ArrayState.desc (a : ArrayState) (n : Nat) : TileDesc := Map.get a.descs TileDesc.clear n

/-- What a front names for the fill that it takes (R150, R350): a shared tile expects the generation of the front's
descriptor, else that of the fill's. -/
def Pass.front (p : Pass) (g : Fill) : Front :=
  { wt := p.wt, slot := p.slot,
    expected :=
      if p.slot.isSome then none
      else if p.generation ≠ 0 then some p.generation
      else if g.shared then g.expected else p.expected }

/-- New-tile passes take the fills in the order of their issue (R149). -/
def bindFills (ps : List Pass) (l : List Fill) : List Fill :=
  match ps, l with
  | p :: ps, g :: l => { g with front := g.front.or (some (p.front g)) } :: bindFills ps l
  | _, l => l

/-- The fills and the fronts of an array are matched. -/
def ArrayState.bind (a : ArrayState) : ArrayState :=
  { a with fills := bindFills (a.passes.filter fun p => p.fresh) a.fills }

/-- The address from which a fill takes its tile (R149, R350). -/
def State.fillAddress (s : State) (q : Issue) (f : Fields) (batch : Option Nat) : Nat :=
  let d := (s.arrayOf q.core q.queue).desc f.dst
  let a := (s.instrAddress q f (tileBytes f.fmt)).getD 0
  if d.slotKind then a else s.sideAddress a (s.expectedGeneration d batch)

/-- A fill starts (R149): the tile's bytes as they arrive. -/
def State.startFill (s : State) (q : Issue) (f : Fields) (a : Nat) (batch : Option Nat) (err : Errors) : State :=
  let x := s.arrayOf q.core q.queue
  let d := x.desc f.dst
  let e := if d.slotKind then none else s.expectedGeneration d batch
  let g : Fill :=
    { address := a, fmt := f.fmt, shared := !d.slotKind, expected := e, batch := batch,
      bytes := received (s.load a (tileBytes f.fmt)) err, front := none, arrived := false, verdict := none, flush := false }
  s.setArrayOf q.core q.queue { x with fills := x.fills ++ [g] }.bind

/-- A rate code of R149 that the core's store port delivers: 32 × 2^code bytes a cycle, up to 256 on a stretcher core
and 1,280 on a header core (R129). -/
def rateOk (core code : Nat) : Bool := decide (code ≤ 5) && (isHeader (coreCluster core) || decide (code ≤ 3))

/-- TFILL (R149): a whole tile of a window (R190), at a rate that the port delivers; at most eight fills in progress. -/
def execTfill (q : Issue) (f : Fields) (batch : Option Nat) (err : Errors) (s : State) : Host.Outcome State Fault Refusal :=
  s.instr "TFILL" 0x11 q f
    { queues := aQueues, fmts := List.range 15, dst := .num, srcA := .unused, srcB := .unused, flags := 15, imm := 0xFFFFFFFF }
    (fun g => below g.dst 8 && rateOk q.core (g.flags % 8) && (s.instrAddress q g (tileBytes g.fmt)).any (s.tileAt g.fmt) &&
      decide ((s.arrayOf q.core q.queue).fills.countP (fun x => !x.arrived) < 8))
    fun g s =>
      let s := s.runToNow q
      let a := s.fillAddress q g batch
      (s.startFill q g a batch err).eccFound a (tileBytes g.fmt) q.ecc 0

/-- The fields of a pass (R150). -/
def mmaNew (f : Fields) : Bool := flagOf f 3
def mmaOpening (f : Fields) : Bool := flagOf f 2
def mmaTransposed (f : Fields) : Bool := flagOf f 0
def mmaCount (f : Fields) : Nat := bits f.imm 26 6 + 1
def mmaWeight (f : Fields) : Nat := bits f.imm 12 5
def mmaMask (f : Fields) : Nat := bits f.imm 8 4

/-- W vectors that a pass takes: a Wᵀ vector is four (R143). -/
def mmaVectors (f : Fields) : Nat := if mmaTransposed f then 4 * mmaCount f else mmaCount f

/-- The loader admits the pass (R79, R127, R140, R150). -/
def mmaOk (q : Issue) (f : Fields) : Bool :=
  below f.srcB 8 && (pathOf f.fmt (mmaWeight f)).isSome &&
    (if mmaTransposed f then transposable.contains (mmaWeight f) else bits f.imm 17 2 == 0) &&
    (mmaMask f == 0 || (bit (mmaMask f) q.queue && (bitList 4 (mmaMask f)).all (hasQueue q.core)))

/-- The type of an integer pairing. -/
def intPairing (act wt : Nat) : Bool := pathOf act wt == some .integer

/-- The format that a vat row holds once the waiting passes have run: none while unopened, whether INT32 else. -/
def ArrayState.typeOf (a : ArrayState) (row : Nat) : Option Bool :=
  let r := Map.get a.vat VatRow.unopened row
  a.passes.foldl (fun t p =>
    if (List.range p.count).any fun v => p.row v == row then
      (if p.opening || t.isNone then some (intPairing p.act p.wt) else t)
    else t) (if r.opened then some r.int else none)

/-- An accumulating pass finds rows of its own format, those that passes still waiting will open among them (R87). -/
def State.tagsMatch (s : State) (q : Issue) (f : Fields) : Bool :=
  mmaOpening f ||
    ((List.range (mmaCount f)).all fun v =>
      match (s.arrayOf q.core q.queue).typeOf ((bits f.imm 20 6 + bits f.imm 19 1 * v) % 64) with
      | none => true
      | some t => t == intPairing f.fmt (mmaWeight f))

/-- The pass that the fields of an `mma` give, from a start cycle on (R113, R150). -/
def passOf (f : Fields) (start : Nat) : Pass :=
  { fresh := mmaNew f, act := f.fmt, wt := mmaWeight f, opening := mmaOpening f, saturate := flagOf f 1,
    transposed := mmaTransposed f, base := bits f.imm 20 6, stride := bits f.imm 19 1, quarter := bits f.imm 17 2,
    count := mmaCount f, hod := f.srcA, start := start, slot := none, generation := 0, expected := none, flush := none }

/-- The pass that an `mma` opens, with what its descriptor says: it starts 2 cycles after issue. -/
def State.newPass (s : State) (q : Issue) (f : Fields) (batch : Option Nat) : Pass :=
  let d := (s.arrayOf q.core q.queue).desc f.srcB
  { passOf f (s.planCycle q + 2) with
    slot := if d.slotKind then some d.slot else none, generation := d.generation, expected := s.expectedGeneration d batch }

/-- The arrays that share a pop (R140): those of the mask, or the one alone. -/
def sharers (q : Issue) (f : Fields) : List Nat := if mmaMask f = 0 then [q.queue] else bitList 4 (mmaMask f)

/-- A pass may pop its hod (R140): no pass with the same start cycle pops it, or one that names the same share mask,
vector count, format and mode, in whose mask this array stands. -/
def State.mayTake (s : State) (q : Issue) (f : Fields) : Bool :=
  match (s.core q.core).takeOf (s.newPass q f none) with
  | none => true
  | some t =>
    t.mask != 0 && t.mask == mmaMask f && t.count == mmaCount f && t.fmt == f.fmt && t.transposed == mmaTransposed f &&
      !t.joined.contains q.queue

/-- A pass takes its entries (R128, R140): with the arrays that share them, or from its hod, those that are there now and
those still to come as they are pushed. -/
def Core.joinTake (c : Core) (q : Issue) (f : Fields) (p : Pass) : Core :=
  match c.takeOf p with
  | some t =>
    { c with takes := c.takes.map fun x =>
        if x.hod = t.hod ∧ x.start = t.start then { x with joined := q.queue :: x.joined } else x }
  | none =>
    let n := entriesOf f.fmt (mmaVectors f)
    let t : Take :=
      { hod := f.srcA, start := p.start, mask := mmaMask f, fmt := f.fmt, transposed := p.transposed, count := p.count,
        need := n, entries := (c.hod f.srcA).take n, joined := [q.queue], left := sharers q f }
    { c with takes := c.takes ++ [t] }.setHod f.srcA ((c.hod f.srcA).drop n)

/-- Names the batch of the fill that the n-th waiting front takes. -/
def nameBatch (n : Nat) (batch : Option Nat) (l : List Fill) : List Fill :=
  match l with
  | [] => []
  | g :: r =>
    match n with
    | 0 => { g with batch := g.batch.or batch } :: r
    | n + 1 => g :: nameBatch n batch r

/-- A pass joins those of its array, with the fill that its front takes, and BusyCycles counts its cycles (R130). -/
def ArrayState.open_ (a : ArrayState) (p : Pass) (batch : Option Nat) : ArrayState :=
  let waiting := a.passes.countP fun p => p.fresh
  { a with passes := a.passes ++ [p], fills := if p.fresh then nameBatch waiting batch a.fills else a.fills,
           busyTo := (p.busyFrom a.busyTo).1 }.bind

/-- A pass opens (R113, R150): it takes its vectors and its tile, and is counted; a tile whose verdict is due is judged
for it. -/
def State.openPass (s : State) (q : Issue) (f : Fields) (batch : Option Nat) : State :=
  let p := s.newPass q f batch
  let c := coreCluster q.core
  let s := s.setCore q.core ((s.core q.core).joinTake q f p)
  let a := s.arrayOf q.core q.queue
  let s := s.setArrayOf q.core q.queue (a.open_ p batch)
  let s := if p.fresh then s.bump (Reg.fronts c) else s
  let s := (s.bumpBy (Reg.vectorsEntered c) p.count).bumpBy (Reg.busyCycles c) (p.busyFrom a.busyTo).2
  s.judgeFill q.core q.queue

/-- The activation formats (R79). -/
def actFmts : List Nat := [0, 1, 2, 3, 4, 5, 6, 9, 10, 11, 12]

/-- MMA (R150). -/
def execMma (q : Issue) (f : Fields) (batch : Option Nat) (s : State) : Host.Outcome State Fault Refusal :=
  s.instr "MMA" 0x12 q f
    { queues := aQueues, fmts := actFmts, dst := .unused, srcA := .hod, srcB := .num, flags := 15, imm := 0xFFFFFF00 }
    (fun g => mmaOk q g && s.tagsMatch q g && s.mayTake q g)
    fun g s => (s.runToNow q).openPass q g batch

/-- A vat row as hod entries, with the flags of its conversion (R151). -/
def rowEntries (fmt : Nat) (flush : Bool) (r : VatRow) : List Bytes × Nat :=
  let codes := if r.opened then r.cols.map (·.toNat) else List.replicate 128 0
  if fmt = 2 then
    let l := codes.map fun c => bf16.convert false flush (val32 c)
    (splitVecs 64 4 (packAll 2 (l.map (·.1))), flagsOf l)
  else (splitVecs 64 8 (packAll 15 codes), 0)

/-- A pass adds to a row at or after a plan position. -/
def Pass.addsTo (p : Pass) (row : Nat) (at_ : Nat) : Bool :=
  (List.range p.count).any fun v => p.row v == row && decide (at_ ≤ p.addedAt v 3)

/-- The latest passes from the first that adds to a row too late for a read at a plan position to see all of it. -/
def hidingFrom (row read : Nat) (l : List Recent) : List Recent :=
  match l with
  | [] => []
  | x :: r => if x.pass.addsTo row (read - 1) then x :: r else hidingFrom row read r

/-- A row as a read at a plan position sees it (R124): without the additions of the cycle before it or later. -/
def ArrayState.rowSeen (a : ArrayState) (read row : Nat) : VatRow :=
  let l := hidingFrom row read a.recent
  let vat := match l with
    | [] => a.vat
    | x :: _ => l.foldl (fun v y => (y.run (some read) v).1) x.before
  Map.get vat VatRow.unopened row

/-- An addition to a row is still to come at a plan position (R151). -/
def ArrayState.pendingAdd (a : ArrayState) (row at_ : Nat) : Bool :=
  a.passes.any (fun p => p.addsTo row at_) || a.recent.any fun x => x.pass.addsTo row at_

/-- VRD (R151): the row as it stands in the cycle after issue; Flags [35] marks it unopened, which the loader refuses
while an addition to it is pending. -/
def execVrd (q : Issue) (f : Fields) (s : State) : Host.Outcome State Fault Refusal :=
  s.instr "VRD" 0x13 q f
    { queues := aQueues, fmts := [0, 2, 15], dst := .hod, srcA := .unused, srcB := .unused, flags := 8, imm := 0x3F }
    (fun g =>
      let a := (s.runToNow q).arrayOf q.core q.queue
      let r := a.rowSeen (s.planCycle q + 1) g.imm
      (!r.opened || r.int == (g.fmt == 15)) && (!flagOf g 3 || !a.pendingAdd g.imm (s.planCycle q + 1)))
    fun g s =>
      let s := s.runToNow q
      let a := s.arrayOf q.core q.queue
      let e := rowEntries g.fmt (s.queueOf q).flush (a.rowSeen (s.planCycle q + 1) g.imm)
      let s := if flagOf g 3 then s.setArrayOf q.core q.queue { a with vat := Map.drop a.vat g.imm } else s
      (s.raise q.core q.queue e.2).push q.core g.dst e.1

end Sys2Proof.Machine
end

