-- ==== Sys2Proof/Machine/Mirror.lean ====
section
/-! DEFINITION. Ownership of slots (R501) and the mirror records of a sender (R507). -/

namespace Sys2Proof.Machine

/-- The module owns a slot (R501). -/
def State.owns (s : State) (slot : Nat) : Bool :=
  let m := s.reg Reg.bondMode
  if m = 2 then false
  else if m = 3 then
    if s.reg Reg.bondSide = 0 then decide (slot < s.tintSlots / 2) else decide (s.tintSlots / 2 ≤ slot)
  else true

/-- The module sends mirror records for a slot: a paired mode that sends, past Waiting, its buffer never filled
(R501, R508, R509). -/
def State.mirrors (s : State) (slot : Nat) : Bool :=
  (s.reg Reg.bondMode == 1 || s.reg Reg.bondMode == 3) && s.owns slot &&
    decide (2 ≤ s.reg Reg.bondState ∧ s.reg Reg.bondState ≤ 4) && !s.bond.bufferFilled

/-- A mirror record (R507). -/
def mirrorRecord (kind slot tint course : Nat) (payload : Bytes) : Bytes :=
  let n := ceilDiv (16 + payload.length) 64
  padTo (64 * n) (u8 kind ++ u8 n ++ u16 slot ++ u16 tint ++ u16 0 ++ u64 course ++ payload)

/-- Bytes in the mirror buffer (R508). -/
def Bond.buffered (b : Bond) : Nat := b.buffer.foldl (fun n r => n + r.record.length) 0

/-- Sends a record of a plan course and keeps it until MirrorMark covers it; a record that no longer fits fills the
buffer of 32 MiB. -/
def State.sendMirrorAt (s : State) (course kind slot tint : Nat) (payload : Bytes) : State :=
  let r := mirrorRecord kind slot tint course payload
  if s.bond.buffered + r.length ≤ 2 ^ 25 then
    let s := (s.emit (.mirror r)).bump Reg.mirrorRecordsSent
    { s with bond := { s.bond with
        buffer := s.bond.buffer ++ [{ course := course, record := r }], sentNow := s.bond.sentNow + 1,
        granules := s.bond.granules + r.length / 64 } }
  else { s with bond := { s.bond with bufferFilled := true } }

/-- A record of the present plan course. -/
def State.sendMirror (s : State) (kind slot tint : Nat) (payload : Bytes) : State :=
  s.sendMirrorAt s.prog.course kind slot tint payload

/-- An event of a slot, described to the partner if the module mirrors the slot. -/
def State.mirrorSlot (s : State) (kind slot : Nat) (payload : Bytes) : State :=
  if s.mirrors slot then s.sendMirror kind slot (s.slot slot).tint payload else s

end Sys2Proof.Machine
end

