-- ==== Sys2Proof/Machine/Moves.lean ====
section
/-! DEFINITION. The M queue (R155 to R157): loads, stores, accumulate-on-write (R89, R194), indexed moves, tile writes
(R156, R191), fills, clears and copies (R192, R196 to R198); scrub (R201, R214, R215). -/

namespace Sys2Proof.Machine

/-! ### Loads and stores -/

/-- An M-queue instruction. -/
def mShape (fmts : List Nat) (dst srcA srcB : Use) (flags imm : Nat) : Shape :=
  { queues := [5], fmts := fmts, dst := dst, srcA := srcA, srcB := srcB, flags := flags, imm := imm }

/-- Every bit of the immediate. -/
def allImm : Nat := 0xFFFFFFFF

/-- Formats that accumulate: f32, bf16, i32 (R89). -/
def accFmts : List Nat := [0, 2, 15]

/-- Bytes that a move of n vectors touches. -/
def moveBytes (f : Fields) : Nat := (f.srcB + 1) * vecBytes f.fmt

/-- A move that names a raw range inside its space, at a rate that the port delivers (R129, R149, R190). -/
def State.moveOk (s : State) (q : Issue) (f : Fields) (n : Nat) : Bool :=
  rateOk q.core (f.flags % 8) && (s.instrAddress q f n).any fun a => s.raw a n

/-- The address of a move. -/
def State.moveAt (s : State) (q : Issue) (f : Fields) (n : Nat) : Nat := (s.instrAddress q f n).getD 0

/-- LD (R155): SrcB + 1 packed vectors from a store, unpacked into Dst. -/
def execLd (q : Issue) (f : Fields) (ecc : Ecc) (s : State) : Host.Outcome State Fault Refusal :=
  s.instr "LD" 0x40 q f (mShape moveFmts .hod .unused .num 15 allImm) (fun g => s.moveOk q g (moveBytes g))
    fun g s =>
      let n := moveBytes g
      let a := s.moveAt q g n
      let es := toEntries g.fmt (splitVecs (vecBytes g.fmt) (g.srcB + 1) (s.load a n))
      ((s.push q.core g.dst es).eccFound a n ecc 0).crossAccess q.core a n

/-- ST (R155). -/
def execSt (q : Issue) (f : Fields) (s : State) : Host.Outcome State Fault Refusal :=
  s.instr "ST" 0x41 q f (mShape moveFmts .unused .hod .num 15 allImm) (fun g => s.moveOk q g (moveBytes g))
    fun g s =>
      let n := moveBytes g
      let a := s.moveAt q g n
      s.popping q.core g.srcA (entriesOf g.fmt (g.srcB + 1)) fun es s =>
        (s.store a ((fromEntries g.fmt (g.srcB + 1) es).flatMap id)).crossAccess q.core a n

/-- One addition at a bank or in a router (R89); no flag is kept. -/
def accAdd (fmt a b : Nat) : Nat :=
  if fmt = 15 then (a + b) % 2 ^ 32
  else if fmt = 2 then (bf16.result false ((bf16.decode a).add (bf16.decode b)).1).1
  else (add32 false a b).1

/-- Element by element over packed bytes of one length, little-endian (R194). -/
def accBytes (fmt : Nat) (old new : Bytes) : Bytes :=
  let w := if fmt = 2 then 2 else 4
  ((List.range (new.length / w)).map fun i => leBytes w (accAdd fmt (field old (w * i) w) (field new (w * i) w))).flatMap id

/-- Accumulates bytes at an address; the granules count for a local or cluster store (R194, R212). -/
def State.accumulate (s : State) (fmt a : Nat) (bs : Bytes) : State :=
  let s := s.store a (accBytes fmt (s.load a bs.length) bs)
  if addrSpace a ≤ 1 then s.bumpBy (Reg.accumulateGranules (addrCluster a)) (ceilDiv bs.length 64) else s

/-- STA (R155, R194): f32, bf16 and i32. -/
def execSta (q : Issue) (f : Fields) (s : State) : Host.Outcome State Fault Refusal :=
  s.instr "STA" 0x42 q f (mShape accFmts .unused .hod .num 15 allImm) (fun g => s.moveOk q g (moveBytes g))
    fun g s =>
      let n := moveBytes g
      let a := s.moveAt q g n
      s.popping q.core g.srcA (entriesOf g.fmt (g.srcB + 1)) fun es s =>
        ((s.accumulate g.fmt a ((fromEntries g.fmt (g.srcB + 1) es).flatMap id)).eccFound a n q.ecc 0).crossAccess q.core a n

/-! ### Indexed moves -/

/-- Bytes of the window of an indexed move: granules 0 to 2^w − 1, and the vector at the last (R155). -/
def indexedBytes (w fmt : Nat) : Nat := (2 ^ w - 1) * 64 + vecBytes fmt

/-- The window of an indexed move lies in its space, in no tile window. -/
def State.indexedOk (s : State) (q : Issue) (f : Fields) (w : Nat) : Bool :=
  decide (w ≤ 25) && (s.shortAddress q.core f.imm (indexedBytes w f.fmt)).any fun a => s.raw a (indexedBytes w f.fmt)

/-- The address that an index entry selects. -/
def State.indexedAt (s : State) (q : Issue) (f : Fields) (w : Nat) (index : List Bytes) : Nat :=
  (s.shortAddress q.core f.imm (indexedBytes w f.fmt)).getD 0 + field (index.getD 0 []) 0 4 % 2 ^ w * 64

/-- LDI (R155). -/
def execLdi (q : Issue) (f : Fields) (ecc : Ecc) (s : State) : Host.Outcome State Fault Refusal :=
  s.instr "LDI" 0x43 q f (mShape moveFmts .hod .num .hod 0 allImm) (fun g => s.indexedOk q g g.srcA)
    fun g s =>
      s.popping q.core g.srcB 1 fun ix s =>
        let a := s.indexedAt q g g.srcA ix
        let n := vecBytes g.fmt
        ((s.push q.core g.dst (toEntries g.fmt [s.load a n])).eccFound a n ecc 0).crossAccess q.core a n

/-- STI (R155). -/
def execSti (q : Issue) (f : Fields) (s : State) : Host.Outcome State Fault Refusal :=
  s.instr "STI" 0x44 q f (mShape moveFmts .num .hod .hod 0 allImm) (fun g => s.indexedOk q g g.dst)
    fun g s =>
      s.popping q.core g.srcA (entriesOf g.fmt 1) fun es s =>
        s.popping q.core g.srcB 1 fun ix s =>
          (s.store (s.indexedAt q g g.dst ix) (vecAt g.fmt es 0)).crossAccess q.core (s.indexedAt q g g.dst ix)
            (vecBytes g.fmt)

/-! ### Writes into stored tiles (R156) -/

/-- Replaces elements of a run of codes. -/
def setCodes (codes : List Nat) (new : List (Nat × Nat)) : List Nat := new.foldl (fun l e => l.set e.1 e.2) codes

/-- A tile with some elements, and one strip byte, replaced; Check takes the CRC-32C difference (R191). -/
def patchTile (fmt : Nat) (t : Bytes) (elems : List (Nat × Nat)) (strip : Option (Nat × Nat)) : Bytes :=
  let old := tileStrip fmt t
  let st := match strip with
    | none => old
    | some e => old.set e.1 (BitVec.ofNat 8 e.2)
  let body := st ++ packAll fmt (setCodes (unpackAll fmt 4096 (tileElems fmt t)) elems)
  let check := tileCheck t ^^^ crc32c (t.drop 8) ^^^ crc32c body
  leBytes 4 check ++ slice t 4 4 ++ body

/-- Column n of a tile from one W vector: rows 0 to 31, and in an MX format its scale byte. -/
def writeColumn (fmt n : Nat) (t data : Bytes) : Bytes :=
  let v := vecParse fmt data
  patchTile fmt t ((v.2.zipIdx).map fun e => (128 * e.2 + n, e.1)) (if isMx fmt then some (n, v.1) else none)

/-- Row k of a tile from four W vectors. -/
def writeRow (fmt k : Nat) (t data : Bytes) : Bytes :=
  let w := vecBytes fmt
  let codes := (splitVecs w 4 data).flatMap fun v => (vecParse fmt v).2
  patchTile fmt t ((codes.zipIdx).map fun e => (128 * k + e.2, e.1)) none

/-- The checks of a write into a tile for a tint (R156): in the slot's KV window, owned, of the tint, of the
format. -/
def State.kvChecks (s : State) (slot tint fmt a : Nat) : Bool :=
  let t := s.load a 8
  (s.windowAt a).any (fun r => r.kind == 3 && r.slot == slot && decide (a + tileBytes fmt ≤ r.base + r.size * 64)) &&
    tileOwned t && tileTint t == tint && tileFormat t == fmt

/-- Carries out a write whose checks pass; an index beyond the tile's columns or rows writes a free one of them or
nothing (assumption 26). -/
def State.kvWrite (s : State) (row : Bool) (fmt index a : Nat) (data : Bytes) : State :=
  let n := if row then 32 else 128
  let t := s.load a (tileBytes fmt)
  let put (s : State) (i : Nat) : State := s.store a (if row then writeRow fmt i t data else writeColumn fmt i t data)
  if index < n then put s index
  else
    let i := (Config.freeWord s.drawn).toNat % (n + 1)
    let s := s.drew 1
    if i < n then put s i else s

/-- What WCOL and WROW do with their data and address entry; the bank-side engine reads the tile that it changes
(R156, R200). -/
def State.tileWrite (s : State) (q : Issue) (row : Bool) (fmt slot : Nat) (ecc : Ecc) (data entry : Bytes) : State :=
  let c := coreCluster q.core
  if s.stamped slot = false then s.bump (Reg.idleSlotWrites c)
  else
    let a := s.shortAddress q.core (field entry 0 4) (tileBytes fmt)
    match a with
    | some a =>
      let s := s.eccFound a (tileBytes fmt) ecc 0
      if s.kvChecks slot (s.slot slot).tint fmt a then
        let index := field entry 4 2
        (s.kvWrite row fmt index a data).mirrorSlot 3 slot
          (u8 (if row then 0x46 else 0x45) ++ u8 fmt ++ u16 index ++ u64 a ++ data)
      else (s.bump (Reg.kvWritesRefused c)).abortSlot whyTint s.prog.course slot
    | none => (s.bump (Reg.kvWritesRefused c)).abortSlot whyTint s.prog.course slot

/-- Formats of `wcol`, and of `wrow`. -/
def colFmts : List Nat := [0, 1, 2, 3, 4, 5, 6, 7, 8, 9, 10, 11, 12]
def rowFmts : List Nat := [0, 1, 2, 3, 4, 11, 12]

/-- WCOL. -/
def execWcol (q : Issue) (f : Fields) (s : State) : Host.Outcome State Fault Refusal :=
  s.instr "WCOL" 0x45 q f (mShape colFmts .unused .hod .hod 0 0xFFF) anyFields
    fun g s =>
      s.popping q.core g.srcA (entriesOf g.fmt 1) fun es s =>
        s.popping q.core g.srcB 1 fun ad s => s.tileWrite q false g.fmt g.imm q.ecc (vecAt g.fmt es 0) (ad.getD 0 [])

/-- WROW. -/
def execWrow (q : Issue) (f : Fields) (s : State) : Host.Outcome State Fault Refusal :=
  s.instr "WROW" 0x46 q f (mShape rowFmts .unused .hod .hod 0 0xFFF) anyFields
    fun g s =>
      s.popping q.core g.srcA (entriesOf g.fmt 4) fun es s =>
        s.popping q.core g.srcB 1 fun ad s =>
          s.tileWrite q true g.fmt g.imm q.ecc ((fromEntries g.fmt 4 es).flatMap id) (ad.getD 0 [])

/-! ### The fill and copy engine -/

/-- A cleared tile (R198), with its pad: zeros under a valid sideband. -/
def clearedTile (fmt tint : Nat) : Bytes :=
  let body := zeros (tileBytes fmt - 8)
  padTo (tileStride fmt) (sideband true fmt 0 tint (crc32c body) ++ body)

/-- Clears `n` tiles from an address on. -/
def State.clearTiles (s : State) (fmt tint a n : Nat) : State :=
  match n with
  | 0 => s
  | n + 1 => (s.store a (clearedTile fmt tint)).clearTiles fmt tint (a + tileStride fmt) n

/-- Whole tiles of a window. -/
def Region.tiles (r : Region) : Nat := r.size * 64 / tileStride r.fmt

/-- The Owned windows of a slot in the running plan. -/
def State.slotWindows (s : State) (slot : Nat) : List Region :=
  match s.plan.running with
  | none => []
  | some p => p.regions.filter fun r => r.kind == 3 && r.slot == slot

/-- Clears every window of a slot under its tint (R198). -/
def State.clearSlot (s : State) (slot : Nat) : State :=
  let tint := (s.slot slot).tint
  (s.slotWindows slot).foldl (fun s r => s.clearTiles r.fmt tint r.base r.tiles) s

/-- Stamps `n` tiles from an address on: the Tint field of each sideband. -/
def State.stampTiles (s : State) (fmt tint a n : Nat) : State :=
  match n with
  | 0 => s
  | n + 1 =>
    let w := field (s.load a 8) 0 8
    let w' := w / 2 ^ 44 * 2 ^ 44 + tint % 4096 * 2 ^ 32 + w % 2 ^ 32
    (s.store a (u64 w')).stampTiles fmt tint (a + tileStride fmt) n

/-- Stamps every window of a slot with its tint (R198). -/
def State.stampSlot (s : State) (slot : Nat) : State :=
  let tint := (s.slot slot).tint
  (s.slotWindows slot).foldl (fun s r => s.stampTiles r.fmt tint r.base r.tiles) s

/-- Granules of a fill or a copy. -/
def fillGranules (f : Fields) : Nat := (f.srcB + 1) * 64

/-- The address of a fill: Imm plus AO (R157). -/
def State.fillAt (s : State) (q : Issue) (f : Fields) : Option Nat :=
  s.shortAddress q.core (withOffset f.imm (s.aoOf q)) (fillGranules f * 64)

/-- A range is whole tiles of a window (R190). -/
def Region.holdsTiles (r : Region) (a n : Nat) : Bool := n % tileStride r.fmt == 0 && r.tilesAt a (n / tileStride r.fmt)

/-- A fill names a raw range or whole tiles of an Owned window (R190, R197). -/
def State.fillOk (s : State) (a n : Nat) : Bool := s.raw a n || (s.windowAt a).any fun r => r.kind == 3 && r.holdsTiles a n

/-- FILL (R190, R196, R197): a raw range takes the constant in every word; in an Owned window whole tiles are cleared
under the slot's tint. -/
def execFill (q : Issue) (f : Fields) (s : State) : Host.Outcome State Fault Refusal :=
  s.instr "FILL" 0x47 q f (mShape [] .unused .hod .num 0 allImm)
    (fun g => (s.fillAt q g).any fun a => s.fillOk a (fillGranules g * 64))
    fun g s =>
      let a := (s.fillAt q g).getD 0
      s.popping q.core g.srcA 1 fun es s =>
        match s.windowAt a with
        | some r => s.clearTiles r.fmt (s.slot r.slot).tint a (fillGranules g * 64 / tileStride r.fmt)
        | none =>
          s.store a ((List.replicate (fillGranules g * 16) (slice (es.getD 0 []) 0 4)).flatMap id)

/-- A pass-less reader meets a slot that holds no Stamped tint (R193). -/
def State.refuseRead (s : State) (slot : Nat) : State :=
  let st := (s.slot slot).state
  if st = 1 ∨ st = 2 then s.bump Reg.clearingReads else s

/-- The destination side of a tile copy (R192): check 4 for an Owned window; the tile written, or the slot's tint
aborted. -/
def State.landCopy (s : State) (fmt dest : Nat) (t : Bytes) : State :=
  match s.windowAt dest with
  | some r =>
    if r.kind = 3 ∧ (tileOwned t && tileTint t == (s.slot r.slot).tint) = false then
      (s.bump (Reg.tileCopyFailures (addrBrick dest))).abortSlot whyTint s.prog.course r.slot
    else s.store dest (padTo (tileStride fmt) t)
  | none => s

/-- The bits that arrive inverted in tile `i` of a run. -/
def errorsOf (stride i : Nat) (errs : Errors) : Errors :=
  (errs.filter fun e => decide (stride * i ≤ e.1 ∧ e.1 < stride * (i + 1))).map fun e => (e.1 - stride * i, e.2)

/-- One tile of a copy. -/
def State.copyTile (s : State) (core fmt src dest : Nat) (err : Errors) : State :=
  let t := received (s.load src (tileBytes fmt)) err
  if tileChecks t then s.landCopy fmt dest t
  else
    (s.bump (Reg.tileCopyFailures (addrBrick dest))).suspendFor
      { consumer := .mQueue core, address := src, fmt := fmt, dest := dest, failed := false }

/-- A tile copy: `n` tiles. -/
def State.copyTiles (s : State) (core fmt src dest i n : Nat) (err : Errors) : State :=
  match n with
  | 0 => s
  | n + 1 =>
    (s.copyTile core fmt src dest (errorsOf (tileStride fmt) i err)).copyTiles core fmt (src + tileStride fmt)
      (dest + tileStride fmt) (i + 1) n err

/-- A slot bound to a window that holds no Stamped tint. -/
def State.unstampedSlot (s : State) (r : Region) : Option Nat :=
  if r.kind = 3 ∧ s.stamped r.slot = false then some r.slot else none

/-- What COPY does once its addresses are known: raw to raw, or whole tiles between windows of one format and kind
in one store (R190, R196); any other pair is one that the loader refuses, and nothing here (assumption 27). -/
def State.copyRange (s : State) (core src dest granules : Nat) (err : Errors) : State :=
  let n := granules * 64
  if addrSpace src ≠ addrSpace dest ∨ addrCore src ≠ addrCore dest then s
  else
    match s.windowAt src, s.windowAt dest with
    | none, none => if s.raw src n && s.raw dest n then s.store dest (s.load src n) else s
    | some a, some b =>
      if a.fmt = b.fmt ∧ a.kind = b.kind ∧ a.holdsTiles src n ∧ b.holdsTiles dest n then
        match s.unstampedSlot a with
        | some slot => s.refuseRead slot
        | none => s.copyTiles core a.fmt src dest 0 (n / tileStride a.fmt) err
      else s
    | _, _ => s

/-- COPY (R157, R192, R196): its source and destination short addresses are in the popped entry; the remote-tier space
is read only (R182). -/
def execCopy (q : Issue) (f : Fields) (err : Errors) (s : State) : Host.Outcome State Fault Refusal :=
  s.instr "COPY" 0x48 q f (mShape [] .unused .hod .num 0 0) anyFields
    fun g s =>
      s.popping q.core g.srcA 1 fun es s =>
        let e := es.getD 0 []
        let n := fillGranules g
        match s.shortAddress q.core (field e 0 4) (n * 64), s.shortAddress q.core (field e 4 4) (n * 64) with
        | some src, some dest =>
          if bits (field e 4 4) 29 3 = 4 then s else (s.copyRange q.core src dest n err).eccFound src (n * 64) q.ecc 0
        | _, _ => s

/-! ### Scrub (R201) -/

/-- Banks of a store, granules of a bank, code of the store, key of its first bank, and its base address. -/
def scrubGeometry (u : StoreUnit) : Nat × Nat × Nat × Nat × Nat :=
  match u with
  | .localStore c =>
    (if isHeader (coreCluster c) then 32 else 16, 1024, 0, 32 * c, moduleAddress 0 (c / 64) (coreCluster c % 8) (corePosition c) 0)
  | .cluster c => (64, 4096, 1, 2 ^ 20 + 64 * c, moduleAddress 1 (c / 8) (c % 8) 0 0)
  | .stack b => (1024, 32768, 2, 2 ^ 21 + 1024 * b, moduleAddress 2 b 0 0 0)

/-- The store exists. -/
def State.storeOn (s : State) (u : StoreUnit) : Bool :=
  match u with
  | .localStore c => decide (c < 1024) && s.clusterOn (coreCluster c)
  | .cluster c => s.clusterOn c
  | .stack b => s.brickOn b

/-- Byte offset of granule `g` of bank `b` (R184): banks of a group are interleaved by granule. -/
def bankOffset (u : StoreUnit) (b g : Nat) : Nat :=
  let per := match u with
    | .localStore c => if isHeader (coreCluster c) then 8 else 4
    | .cluster _ => 8
    | .stack _ => 64
  let size := (scrubGeometry u).2.1
  64 * (b / per * (per * size) + g * per + b % per)

/-- Granules a bank has scrubbed, and the local course in which its pass began. -/
def State.scrubOf (s : State) (k : Nat) : Nat × Nat := Map.get s.units.scrub (0, 0) k

/-- Full passes of every bank of a store. -/
def State.scrubPasses (s : State) (u : StoreUnit) : Nat :=
  let g := scrubGeometry u
  match (List.range g.1).map fun b => (s.scrubOf (g.2.2.2.1 + b)).1 / g.2.1 with
  | [] => 0
  | x :: r => r.foldl min x

/-- The nominal pass (R201) is as many courses as a bank has granules; a longer one than ScrubLateLimit allows is
reported. -/
def State.scrubPassDone (s : State) (u : StoreUnit) (courses : Nat) : State :=
  let g := scrubGeometry u
  let s := match u with
    | .localStore _ => s
    | .cluster c => s.bump (Reg.clusterScrubPasses c)
    | .stack b => s.bump (Reg.stackScrubPasses b)
  if g.2.1 * s.reg Reg.scrubLateLimit < courses then
    s.notice Note.scrubPassLate (storeSource g.2.2.2.2) (u8 (addrBrick g.2.2.2.2) ++ u8 g.2.2.1 ++ u32 courses)
  else s

/-- One granule of a bank scrubbed; a claimed bank defers, as do a rest and a Hold course (R20, R22, R39). -/
def State.scrubOne (s : State) (u : StoreUnit) (bank : Nat) (claimed : Bool) (ecc : Ecc) : State :=
  if claimed || !s.lowPriorities then s.bump Reg.scrubDeferred
  else
    let g := scrubGeometry u
    let k := g.2.2.2.1 + bank
    let x := s.scrubOf k
    let a := g.2.2.2.2 + bankOffset u bank (x.1 % g.2.1)
    let began := if x.1 % g.2.1 = 0 then s.time.localCount else x.2
    let before := s.scrubPasses u
    let s := { s with units := { s.units with scrub := Map.set s.units.scrub (0, 0) k (x.1 + 1, began) } }
    let s := s.eccFound a 64 ecc 1
    if before < s.scrubPasses u then s.scrubPassDone u (s.time.localCount - began + 1) else s

/-- SCRUB_STEP. -/
def execScrubStep (unit : StoreUnit) (bank : Nat) (claimed : Bool) (ecc : Ecc) (s : State) :
    Host.Outcome State Fault Refusal :=
  s.onUnit "SCRUB_STEP" (s.storeOn unit && decide (bank < (scrubGeometry unit).1)) (s.scrubOne unit bank claimed ecc)

end Sys2Proof.Machine
end

