-- ==== Sys2Proof/Machine/Courses.lean ====
section
/-! DEFINITION. Where a module takes its course (R9 to R19): source, load, marks, parents, lock, holdover, return,
phase steps and lead courses, and the rest courses of R28. -/

namespace Sys2Proof.Machine

/-- A rest course. -/
def CourseKind.isRest (k : CourseKind) : Bool :=
  match k with
  | .rest _ => true
  | .idle | .work _ | .slip _ | .grout _ | .lead | .phase | .held => false

/-- The module takes its course from its reference inputs (R11): a root fed by the reference. -/
def State.onReference (s : State) : Bool :=
  s.reg Reg.courseSource == 1 || (s.reg Reg.courseSource == 0 && s.time.refValid)

/-- A root for CourseLoad (R12). -/
def State.isRoot (s : State) : Bool := s.onReference || s.reg Reg.courseSource == 3

/-- A module that takes marks (R11). -/
def State.isFed (s : State) : Bool := !s.isRoot

/-- Unlocked: no source, no count reported (R18, R35). -/
def State.unlock (s : State) : State :=
  let s := s.setReg Reg.lockState 0
  let s := s.setReg Reg.depth 0xFF
  let s := s.setReg Reg.rootId 0xFFFF
  let s := s.setReg Reg.parentPort 0xFF
  s.mapTime fun t => { t with known := false, acquiring := none, step := none, slew := 0, markless := 0 }

/-- The entries of R35 on a root that is not Unlocked: Depth 0, its own DeviceId, no parent. -/
def State.showRoot (s : State) : State :=
  if s.isRoot && s.reg Reg.lockState != 0 then
    ((s.setReg Reg.depth 0).setReg Reg.parentPort 0xFF).setReg Reg.rootId (s.reg Reg.deviceId)
  else s

/-- LockState of a module without a count (R18): Acquiring while a reference that it may follow is valid, else
Unlocked, with the entries of R35. -/
def State.showSource (s : State) : State :=
  if s.time.known then s.showRoot
  else if s.onReference && s.time.refValid then (s.setReg Reg.lockState 1).showRoot
  else ((s.setReg Reg.lockState 0).setReg Reg.depth 0xFF).setReg Reg.rootId 0xFFFF

/-- REFERENCE_INVALID (R10, R11, R19): the reference is invalid until two correctly spaced pulses arrive; a root
with CourseSource 0 becomes fabric-fed and counts four courses from this one. CourseSource 2 and 3 ignore the
reference. A CourseLoad that waits goes on waiting for the next epoch course that the module takes from a reference
(assumption 13). -/
def State.loseReference (s : State) : State :=
  if s.awake ∧ s.reg Reg.courseSource ≤ 1 then
    (s.mapTime fun t => { t with refValid := false, goodPulses := 0, markless := 0, marked := false }).showSource
  else s

def execReferenceInvalid (s : State) : Host.Outcome State Fault Refusal := s.done s.loseReference

/-- A write of CourseSource past check 9 (R11): refused while a plan is armed or running. A module that turns to
Free-run is Unlocked until its CourseLoad takes effect; one that turns to another source keeps its count. A reference
that CourseSource 2 or 3 ignores has to be found valid anew. A CourseLoad that waits goes on waiting: the spec does
not say what becomes of it, and it takes effect at the next epoch course that the module takes as a root
(assumption 13). -/
def State.setCourseSource (s : State) (v : Nat) : Nat × State :=
  if s.planActive then (rcStateRefused, s)
  else if v = s.reg Reg.courseSource then (rcOk, s)
  else
    let s := s.setReg Reg.courseSource v
    let s := if 2 ≤ v then s.mapTime fun t => { t with refValid := false, goodPulses := 0, lastPulse := none } else s
    if v = 3 then (rcOk, s.unlock)
    else
      let s := (s.setReg Reg.parentPort 0xFF).mapTime fun t => { t with markless := 0, acquiring := none, step := none }
      (rcOk, s.showSource)

def execCourseSourceWrite (v : Via) (value : Nat) (s : State) : Host.Outcome State Fault Refusal :=
  s.done (s.writeNumber v 0x2000 0x01 1 value fun s => s.setCourseSource value)

/-- A write of CourseLoad past check 9 (R12, in the order of its table). -/
def State.loadCourse (s : State) (v : Nat) : Nat × State :=
  if v % 2 ^ 20 ≠ 0 then (rcRangeError, s)
  else if !s.isRoot then (rcStateRefused, s)
  else if s.planActive then (rcStateRefused, s)
  else (rcOk, s.mapTime fun t => { t with load := some v })

def execCourseLoad (v : Via) (value : Nat) (s : State) : Host.Outcome State Fault Refusal :=
  s.done (s.writeNumber v 0x2000 0x03 4 value fun s => s.loadCourse value)

/-! ### Marks and parents (R13 to R15) -/

/-- The Count of a mark, brought to the present course. -/
def Mark.now (m : Mark) (l : Nat) : Nat := m.count + (l - m.arrived)

/-- The ports whose latest marks qualify (R14), with those marks; a mark is latest for the course it arrived in and
the next (assumption 14). -/
def State.qualifying (s : State) : List (Nat × Mark) :=
  s.time.marks.filter fun e =>
    !e.2.holdover && decide (e.2.depth ≤ 15) && decide (s.time.localCount ≤ e.2.arrived + 1)

/-- The parent order of R14: lower Depth, then lower RootId, then lower port. -/
def parentBefore (a b : Nat × Mark) : Bool :=
  decide (a.2.depth < b.2.depth) ||
    (a.2.depth == b.2.depth && (decide (a.2.rootId < b.2.rootId) || (a.2.rootId == b.2.rootId && decide (a.1 < b.1))))

/-- The first of a list in the parent order. -/
def firstParent (l : List (Nat × Mark)) : Option (Nat × Mark) :=
  l.foldl (fun best e =>
    match best with
    | none => some e
    | some b => if parentBefore e b then some e else some b) none

/-- The members of a list whose marks carry a Count. -/
def groupOf (l : Nat) (q : List (Nat × Mark)) (count : Nat) : List (Nat × Mark) :=
  q.filter fun e => e.2.now l == count

/-- The accepted group of R14: the largest; of equally large ones, that which holds the first port in the parent
order. -/
def acceptedGroup (l : Nat) (q : List (Nat × Mark)) : List (Nat × Mark) :=
  let groups := q.map fun e => groupOf l q (e.2.now l)
  let most := groups.foldl (fun n g => max n g.length) 0
  let largest := (groups.filter fun g => g.length == most).flatMap id
  match firstParent largest with
  | none => []
  | some e => groupOf l q (e.2.now l)

/-- Reports the difference of a confirmed count from the keeper's, once after a wake (R453). -/
def State.confirmCount (s : State) (count : Nat) : State :=
  if s.time.sleptAt = 0 then s
  else
    let s := s.setReg Reg.lastKeeperError (ofSigned 32 ((count : Int) - (s.time.keeper : Int)))
    s.mapTime fun t => { t with sleptAt := 0 }

/-- Compares a source with the module's own count and phase (R19): the same count within ±8 cycles slews, anything
else is a phase step at the next course boundary. A module in Holdover stays there while it slews, until
COURSE_LOCKED: the spec names no LockState for the courses in between (assumption 14). -/
def State.compareSource (s : State) (count : Nat) (phase8 : Int) : State :=
  if count = s.time.count ∧ -64 ≤ phase8 ∧ phase8 ≤ 64 then
    let s := s.mapTime fun t => { t with slew := phase8 }
    if s.reg Reg.lockState = 2 then s else s.mapTime fun t => { t with acquiring := some t.localCount }
  else s.mapTime fun t => { t with step := some (count, phase8) }

/-- Accepts a port as course parent (R14, R18, R19): a module without a settled count takes the mark's; one that
has a count compares. -/
def State.acceptParent (s : State) (port : Nat) (m : Mark) : State :=
  let count := m.now s.time.localCount
  let s := s.setReg Reg.parentPort port
  let s := s.setReg Reg.depth (m.depth + 1)
  let s := s.setReg Reg.rootId m.rootId
  let s := s.mapTime fun t => { t with markless := 0, marked := true }
  if s.time.known = false ∨ s.reg Reg.lockState ≤ 1 then
    let s := s.confirmCount count
    let s := s.setReg Reg.lockState 1
    s.mapTime fun t => { t with known := true, count := count, acquiring := some t.localCount, slew := m.phase8 }
  else s.compareSource count m.phase8

/-- The fields of a course mark (R13). -/
def markOf (w l : Nat) (phase8 : Int) : Mark :=
  { count := bits w 0 64, depth := bits w 104 8, holdover := bit w 103, epoch := bit w 102,
    senderLag := bits w 80 16, rootId := bits w 65 15, phase8 := phase8, arrived := l }

/-- The check of a 128-bit control word (R13, R227, R252, R383, R504): CRC-16 over bits [111:0]. -/
def wordChecks (w : Nat) : Bool := crc16 (leBytes 14 w) == bits w 112 16

/-- The accepted group of R14 at present. -/
def State.accepted (s : State) : List (Nat × Mark) := acceptedGroup s.time.localCount s.qualifying

/-- A port is in the accepted group. -/
def State.isAccepted (s : State) (port : Nat) : Bool := s.accepted.any fun e => e.1 == port

/-- The ports whose marks of this course qualify and lie outside the accepted group, not yet counted in it (R14). -/
def State.disagreeing (s : State) : List Nat :=
  (s.qualifying.filter fun e =>
    e.2.arrived == s.time.localCount && !s.isAccepted e.1 && !s.time.conflicts.contains e.1).map (·.1)

/-- CourseMarkConflict counts each of them, once for this course. -/
def State.countConflicts (s : State) : State :=
  let l := s.disagreeing
  (s.bumpBy Reg.courseMarkConflict l.length).mapTime fun t => { t with conflicts := t.conflicts ++ l }

/-- The standing parent's mark (R14, R15): valid in the accepted group, it gives Depth and RootId anew, and its
phase is slewed to. A Count that differs from the module's own is neither compared nor stepped to: R19 speaks of a
source that returns (assumption 14). -/
def State.hearParent (s : State) (m : Mark) : State :=
  if s.isAccepted (s.reg Reg.parentPort) then
    ((s.setReg Reg.depth (m.depth + 1)).setReg Reg.rootId m.rootId).mapTime fun t =>
      { t with markless := 0, marked := true, slew := m.phase8 }
  else s

/-- A course mark arrives (R13, R14): its record, conflicts counted, the parent heard, or a first parent accepted. -/
def State.takeMark (s : State) (port w : Nat) (phase8 : Int) : State :=
  if s.awake = false ∨ s.portRole port ≠ 0 ∨ wordChecks w = false then s
  else
    let m := markOf w s.time.localCount phase8
    let s := s.mapTime fun t => { t with marks := Map.put t.marks port m }
    if s.isRoot then s
    else
      let s := s.countConflicts
      let parent := s.reg Reg.parentPort
      if parent = port then s.hearParent m
      else if parent = 0xFF ∧ (s.reg Reg.lockState ≠ 2 ∨ 4 ≤ s.time.markless) then
        match firstParent s.accepted with
        | none => s
        | some e => s.acceptParent e.1 e.2
      else s

def execCourseMark (port mark : Nat) (phase8 : Int) (s : State) : Host.Outcome State Fault Refusal :=
  s.onUnit "COURSE_MARK" (portOk port && word128Ok mark) (s.takeMark port mark phase8)

/-- PARENT_RESELECT (R15): after four courses without a valid mark the module selects again under R14. -/
def State.reselect (s : State) : State :=
  if s.isFed ∧ s.awake ∧ s.time.known ∧ 4 ≤ s.time.markless then
    match firstParent s.accepted with
    | none => s
    | some e => s.acceptParent e.1 e.2
  else s

def execParentReselect (s : State) : Host.Outcome State Fault Refusal := s.done s.reselect

/-- Whether Holdover is due (R19). -/
def State.holdoverDue (s : State) : Bool :=
  s.awake && s.time.known && (s.reg Reg.lockState == 1 || s.reg Reg.lockState == 2) &&
    (if s.reg Reg.courseSource = 1 then !s.time.refValid && decide (1 ≤ s.time.markless)
     else s.isFed && decide (4 ≤ s.time.markless) && s.qualifying.isEmpty)

/-- COURSE_HOLDOVER (R19): the module counts on from its PLL. -/
def State.holdover (s : State) : State :=
  if s.holdoverDue then
    let last := s.reg Reg.parentPort
    let s := s.setReg Reg.lockState 3
    let s := s.setReg Reg.parentPort 0xFF
    s.notice Note.courseHoldover srcModule (u8 last)
  else s

def execCourseHoldover (s : State) : Host.Outcome State Fault Refusal := s.done s.holdover

/-- COURSE_LOCKED (R18): a module whose source and count are settled is Locked. -/
def State.lock (s : State) : State :=
  if s.awake && s.time.known && s.time.acquiring.isSome then
    let s := (s.setReg Reg.lockState 2).showRoot
    let s := s.mapTime fun t => { t with acquiring := none }
    s.notice Note.courseLocked srcModule (u8 (s.reg Reg.depth) ++ u16 (s.reg Reg.rootId) ++ u8 (s.reg Reg.parentPort))
  else s

def execCourseLocked (s : State) : Host.Outcome State Fault Refusal := s.done s.lock

/-- The reference is valid again (R10, R11): the module is a root, its count and phase are compared (R19), and
without a count it is Acquiring until its CourseLoad (R18). -/
def State.referenceReturns (s : State) (count : Nat) (phase8 : Int) : State :=
  let s := (s.mapTime fun t => { t with refValid := true, goodPulses := 2, markless := 0 }).showSource
  if s.time.known then s.compareSource count phase8 else s

/-- SOURCE_RETURN (R10, R19): the fabric for a fed module in Holdover on which a port qualifies; else the reference,
which CourseSource 2 and 3 ignore. -/
def State.sourceReturns (s : State) (count : Nat) (phase8 : Int) : State :=
  if s.awake = false ∨ s.reg Reg.courseSource = 3 then s
  else
    match (if s.isFed && s.reg Reg.lockState == 3 then firstParent s.accepted else none) with
    | some e => s.acceptParent e.1 e.2
    | none => if s.reg Reg.courseSource = 2 then s else s.referenceReturns count phase8

def execSourceReturn (count : Nat) (phase8 : Int) (s : State) : Host.Outcome State Fault Refusal :=
  s.done (s.sourceReturns count phase8)

/-- PHASE_STEP (R19): the next course carries no plan work, the phase steps, the count takes the source's value. With
a rest in the same course it counts as the rest (R28). -/
def State.phaseStep (s : State) : State :=
  match s.time.step with
  | none => s
  | some (count, phase8) =>
    let diff : Int := (count : Int) - (s.time.count : Int)
    let s := s.mapTime fun t =>
      { t with step := none, slew := 0, count := count,
               acquiring := if s.reg Reg.lockState = 2 then t.acquiring else some t.localCount }
    let s := if s.prog.running && !s.prog.next.isRest then s.mapProg fun p => { p with next := .phase } else s
    s.notice Note.coursePhaseStep srcModule (u64 (ofSigned 64 diff) ++ u32 (ofSigned 32 phase8))

def execPhaseStep (s : State) : Host.Outcome State Fault Refusal := s.done s.phaseStep

/-- LEAD_COURSE (R19 step 4): while the plan course exceeds the external count the next course idles. -/
def State.lead (s : State) : State :=
  if s.prog.running ∧ s.time.count < s.prog.course ∧ s.prog.next ≠ .phase then
    s.mapProg fun p => { p with next := .lead }
  else s

def execLeadCourse (s : State) : Host.Outcome State Fault Refusal := s.done s.lead

/-- A rest course is forced (R28): counted by its causes. -/
def State.forceRest (s : State) (power thermal : Bool) : State :=
  let s := s.bumpBy Reg.powerRests (flagNat power)
  let s := s.bumpBy Reg.thermalRests (flagNat thermal)
  s.mapProg fun p => { p with next := .rest thermal, sinceRest := if thermal then 0 else p.sinceRest }

/-- A grout course serves a rest. -/
def State.serveRest (s : State) (thermal : Bool) (g : Nat) : State :=
  s.mapProg fun p => { p with next := .grout g, sinceRest := if thermal then 0 else p.sinceRest }

/-- REST_COURSE (R28): a requested rest takes the next course, which counts once, as a rest, where it would have been a
slip, a suspension or a phase step; a grout course that comes next serves it, and is then idled. A lead course that
comes next serves it too, and counts as a lead course alone (assumption 46). -/
def State.rest (s : State) : State :=
  if s.prog.running ∧ (s.prog.restPower ∨ s.prog.restThermal) then
    let thermal := s.prog.restThermal
    let power := s.prog.restPower
    let c := s.prog.course
    let s := s.mapProg fun p => { p with restPower := false, restThermal := false }
    if s.time.count < c then s
    else match s.prog.next with
    | .work n => if n = c + 2 then s.serveRest thermal (c + 1) else s.forceRest power thermal
    | .slip _ | .phase => s.forceRest power thermal
    | .grout g => s.serveRest thermal g
    | .idle => if s.prog.suspension.isSome then s.forceRest power thermal else s
    | .rest _ | .lead | .held => s
  else s

def execRestCourse (s : State) : Host.Outcome State Fault Refusal := s.done s.rest

/-- LAUNCH_REFUSED (R32): at cycle 543 of LaunchCourse + LaunchLateLimit a module that has not started is refused. -/
def State.refuseLaunch (s : State) : State :=
  if s.reg Reg.launchState = 1 ∧ s.time.known ∧
      s.reg Reg.launchCourse + s.reg Reg.launchLateLimit ≤ s.time.count then
    let s := s.setReg Reg.launchState 3
    s.notice Note.launchRefused srcModule (u64 (s.reg Reg.launchLateLimit + 1))
  else s

def execLaunchRefused (s : State) : Host.Outcome State Fault Refusal := s.done s.refuseLaunch

end Sys2Proof.Machine
end

