-- ==== Sys2Proof/Machine/Mortar.lean ====
section
/-! DEFINITION. The mortar network: routes, landing at a store, reduction trees (R216 to R219, R236 to R239), flits on
their way out (R224, R230), and the N-queue sends (R158, R159). -/

namespace Sys2Proof.Machine

/-- A route of the running plan. -/
def State.route (s : State) (n : Nat) : Option Route :=
  match s.plan.running with
  | none => none
  | some p => p.routes[n]?

/-- The module address of granule `g` of a route's destination. -/
def Route.address (r : Route) (g : Nat) : Nat :=
  let off := (r.destGranule + g) * 64
  if r.destSpace = 0 then
    moduleAddress 0 (r.destCore / 64) (coreCluster r.destCore % 8) (corePosition r.destCore) off
  else if r.destSpace = 1 then moduleAddress 1 (r.destCore / 64) (coreCluster r.destCore % 8) 0 off
  else moduleAddress 2 r.destBrick 0 0 off

/-- Granules are written at their destination, or added there (R194, R239), and counted where the destination is a
Landing window (R213). -/
def State.landGranules (s : State) (r : Route) (add : Bool) (g : Nat) (gs : List Bytes) : State :=
  let a := r.address g
  let bs := gs.flatMap (padTo 64)
  let s := if add then s.accumulate (bits r.fmt 0 5) a bs else s.store a bs
  match s.windowAt a with
  | some w => if w.kind = 4 then s.bumpBy (Reg.remoteGranulesLanded (addrBrick a)) gs.length else s
  | none => s

/-! ### Flits -/

/-- Granules in groups of four (R224). -/
def fours (l : List Bytes) : List (List Bytes) :=
  match l with
  | a :: b :: c :: d :: r => [a, b, c, d] :: fours r
  | [] => []
  | r => [r]

/-- Inserts a flit into a retry queue in order of course and then slot (R228). -/
def insertRetry (course : Flit → Nat) (f : Flit) (l : List Flit) : List Flit :=
  match l with
  | [] => [f]
  | x :: r =>
    if course f < course x ∨ (course f = course x ∧ f.slot < x.slot) then f :: x :: r else x :: insertRetry course f r

/-- Adds to the retry queue of a lane, in order of course and then slot, and reports a backlog above 28 (R228,
R249). -/
def State.queueRetry (s : State) (port lane : Nat) (fs : List Flit) : State :=
  let p := s.port port
  let l := p.lane lane
  let l' := { l with retries := fs.foldl (fun q f => insertRetry (fun x => nearestCourse s.prog.course 5 x.tag) f q) l.retries }
  let s := s.setPort port (p.setLane lane l')
  if l.retries.length ≤ 28 ∧ 28 < l'.retries.length then
    s.notice Note.retryBacklog (srcPort port) (u8 port ++ u8 lane ++ u16 l'.retries.length)
  else s

/-- A flit leaves on a lane, `offset` courses on, and is kept until it is released (R228, R230); on a lane that is not
up it goes unsent into the retry queue (R243). -/
def State.sendFlit (s : State) (port lane offset : Nat) (f : Flit) : State :=
  let p := s.port port
  let l := p.lane lane
  if l.status = 2 then
    let s := s.setPort port (p.setLane lane { l with sent := l.sent ++ [(s.time.localCount + offset, f)] })
    (s.bump (Reg.flitsSent port)).emit (.flit port lane f.slot f)
  else s.queueRetry port lane [f]

/-- The flits of one send of a route from flit `first` on, in their slots of the present segment (R218, R280); flit 0
begins the route's next send. -/
def State.sendFabric (s : State) (n : Nat) (r : Route) (first : Nat) (gs : List Bytes) : State :=
  let k := Map.get s.prog.sends 0 n + (if first = 0 then 1 else 0)
  let s := s.mapProg fun p => { p with sends := Map.set p.sends 0 n k }
  (fours gs).zipIdx.foldl (fun s e =>
    match r.slots.find? fun x => x.ordinal + 1 == k && x.flit == first + e.2 with
    | none => s
    | some x =>
      s.sendFlit x.port x.lane x.offset
        { route := n, index := first + e.2, slot := x.slot, tag := (s.prog.course + x.offset) % 32, count := e.1.length,
          payload := padTo 256 (e.1.flatMap (padTo 64)) }) s

/-! ### Trees (R236 to R238) -/

/-- The crossbar port of a core (R216). -/
def corePort (core : Nat) : Nat := core % 64

/-- The input port by which granules from one brick reach a node of another (R216, R238): that of the edge by which the
derived route enters it. -/
def State.inputPort (s : State) (fromBrick toBrick own : Nat) : Nat :=
  match (s.edgePath fromBrick toBrick).reverse with
  | a :: b :: _ => edgePort b a
  | _ => own

/-- Inserts an input in ascending order of input port. -/
def insertInput (x : Nat × List Bytes) (l : NodeInputs) : NodeInputs :=
  match l with
  | [] => [x]
  | y :: r => if x.1 < y.1 then x :: y :: r else y :: insertInput x r

/-- Folds the inputs of a node (R236). -/
def foldInputs (fmt : Nat) (l : NodeInputs) : List Bytes :=
  match l with
  | [] => []
  | x :: r => r.foldl (fun acc y => List.zipWith (accBytes fmt) acc y.2) x.2

/-- A node of a tree of the running plan. -/
def State.treeNode (s : State) (tree node : Nat) : Option TreeNode :=
  match s.plan.running with
  | none => none
  | some p => p.trees.find? fun t => t.tree == tree && t.node == node

/-- What leaves the last node of a tree, or a route without a tree, from a brick: over the edges to its store, or onto
the fabric from flit `first` on. -/
def State.deliverRoute (s : State) (n : Nat) (r : Route) (add : Bool) (g first fromBrick : Nat) (gs : List Bytes) : State :=
  if r.kind = 2 then s.sendFabric n r first gs
  else (s.crossEdges fromBrick r.destBrick gs.length).landGranules r add g gs

/-- The granules of flit `first` of a send reach a node by an input port, to meet those of the same flit of the other
inputs; the last input folds, and the sum goes on. `fuel` bounds the depth of the tree. -/
def State.enterNode (s : State) (fuel n : Nat) (r : Route) (add : Bool) (g first node fromBrick port : Nat)
    (gs : List Bytes) : State :=
  match fuel with
  | 0 => s
  | fuel + 1 =>
    match s.treeNode r.tree node with
    | none => s
    | some t =>
      let s := s.crossEdges fromBrick t.brick gs.length
      let key := (r.tree * 65536 + node) * 256 + first
      let l := insertInput (s.inputPort fromBrick t.brick port, gs.map (padTo 64)) (Map.get s.nodes [] key)
      if l.length < t.inputs then { s with nodes := Map.set s.nodes [] key l }
      else
        let s := { s with nodes := Map.drop s.nodes key }
        let s := s.bumpBy Reg.routerAdditions (gs.length * (t.inputs - 1))
        let out := foldInputs t.fmt l
        if t.parent = 0xFFFF then s.deliverRoute n r add g first t.brick out
        else s.enterNode fuel n r add g first t.parent t.brick t.port out

/-- A send on a route (R218): ingress records one a granule, a tree, the fabric or a store. -/
def State.sendRoute (s : State) (core n : Nat) (r : Route) (add : Bool) (g : Nat) (gs : List Bytes) : State :=
  if r.kind = 3 then gs.foldl (fun s x => s.emit (.token r.destBrick (padTo 64 x))) s
  else if r.tree ≠ 0xFFFF ∧ add then
    (fours gs).zipIdx.foldl (fun s e =>
      s.enterNode 256 n r add (g + 4 * e.2) e.2 r.node (core / 64) (corePort core) e.1) s
  else s.deliverRoute n r add g 0 (core / 64) gs

/-! ### N-queue instructions -/

/-- An N-queue instruction. -/
def nShape (fmts : List Nat) (srcA srcB : Use) (flags imm : Nat) : Shape :=
  { queues := [6], fmts := fmts, dst := .unused, srcA := srcA, srcB := srcB, flags := flags, imm := imm }

/-- The route and the destination granule of a send (R159). -/
def sendRouteNo (f : Fields) : Nat := bits f.imm 20 12
def State.sendGranule (s : State) (q : Issue) (f : Fields) : Nat :=
  (bits f.imm 0 20 + (if flagOf f 3 then s.aoOf q else 0)) % 2 ^ 25

/-- SND (R159): SrcB + 1 entries, eight of them a cycle (R135); Flags [32] adds. -/
def execSnd (q : Issue) (f : Fields) (s : State) : Host.Outcome State Fault Refusal :=
  s.instr "SND" 0x50 q f (nShape (List.range 16) .hod .num 9 allImm)
    (fun g => (s.route (sendRouteNo g)).isSome && (!flagOf g 0 || accFmts.contains g.fmt))
    fun g s =>
      (s.popping q.core g.srcA (g.srcB + 1) fun es s =>
        match s.route (sendRouteNo g) with
        | none => s
        | some r => s.sendRoute q.core (sendRouteNo g) r (flagOf g 0) (s.sendGranule q g) es).occupy q (ceilDiv (g.srcB + 1) 8)

/-- A tile as granules, its pad zero. -/
def tileGranules (fmt : Nat) (t : Bytes) : List Bytes :=
  splitVecs 64 (tileStride fmt / 64) (padTo (tileStride fmt) t)

/-- A tile that passed check 1 meets check 2 and is sent whole (R158). R108 numbers the engines of an array notice 0 to
4; a format fault that `sndt` raises names engine 6, its queue's number (DESIGN CHOICE, assumption 23). -/
def State.sendTile (s : State) (core n g fmt : Nat) (t : Bytes) (slots : List Nat) : State :=
  if tileFormat t ≠ fmt ∨ tileReserved t ≠ 0 then s.formatFault core 6 1 slots
  else
    match s.route n with
    | none => s
    | some r => s.sendRoute core n r false g (tileGranules fmt t)

/-- The slot that a tile address belongs to, as a list. -/
def State.slotAt (s : State) (a : Nat) : List Nat :=
  match s.windowAt a with
  | some r => if r.kind = 3 then [r.slot] else []
  | none => []

/-- The tile that an address entry names (R351): in a Shared window, that of the side that holds the entry's
generation, or the one in force. -/
def State.entryTile (s : State) (a gen : Nat) : Nat :=
  s.sideAddress a (some (if gen = 0 then s.reg Reg.inForce else gen))

/-- SNDT on a tile address (R158, R193): nothing from a window of a slot without a Stamped tint; a failed Check is
the N queue's re-read. -/
def State.sndt (s : State) (core n g fmt a : Nat) (err : Errors) : State :=
  match (s.slotAt a).find? fun x => !s.stamped x with
  | some x => s.refuseRead x
  | none =>
    let t := received (s.load a (tileBytes fmt)) err
    if tileChecks t then s.sendTile core n g fmt t (s.slotAt a)
    else s.suspendFor { consumer := .nQueue core, address := a, fmt := fmt, dest := n * 2 ^ 25 + g, failed := false }

/-- The tile that an address entry names is sent, a whole one of a window (R190); an entry that names none is one that
the loader refuses, and nothing here (assumption 27). -/
def State.sndtEntry (s : State) (q : Issue) (n g fmt : Nat) (err : Errors) (ecc : Ecc) (e : Bytes) : State :=
  match (s.shortAddress q.core (field e 0 4) (tileBytes fmt)).map fun a => s.entryTile a (byteAt e 4) with
  | none => s
  | some a =>
    if s.tileAt fmt a then (s.sndt q.core n g fmt a err).eccFound a (tileBytes fmt) ecc 0 else s

/-- SNDT: the tile of the popped address entry. -/
def execSndt (q : Issue) (f : Fields) (err : Errors) (s : State) : Host.Outcome State Fault Refusal :=
  s.instr "SNDT" 0x51 q f (nShape (List.range 15) .unused .hod 8 allImm) (fun g => (s.route (sendRouteNo g)).isSome)
    fun g s =>
      s.popping q.core g.srcB 1 fun es s =>
        s.sndtEntry q (sendRouteNo g) (s.sendGranule q g) g.fmt err q.ecc (es.getD 0 [])

/-- The LastSlipCause of a missing route (R37, R205): 4 for a remote-tier fetch. -/
def State.routeCause (s : State) (n : Nat) : Nat :=
  match s.plan.running with
  | none => 1
  | some p => if p.remotes.any fun w => w.route == n then 4 else 1

/-- DUE (R158): granules of a route by a later plan course. -/
def execDue (q : Issue) (f : Fields) (s : State) : Host.Outcome State Fault Refusal :=
  s.instr "DUE" 0x52 q f (nShape [] .unused .unused 0 allImm) (fun g => bits g.imm 0 4 != 0)
    fun g s =>
      let n := sendRouteNo g
      s.mapProg fun p =>
        { p with inputs := p.inputs ++
            [{ need := .granules n (bits g.imm 4 16), due := p.course + bits g.imm 0 4, cause := s.routeCause n }] }

end Sys2Proof.Machine
end

