-- ==== Sys2Proof/Machine/Pointing.lean ====
section
/-! DEFINITION. The pointing network (R250 to R268): packets and slot-2 messages, tie signals, the landing rule, and
levels. -/

namespace Sys2Proof.Machine

/-! ### Words -/

/-- Where a packet or a message comes from (R251). -/
structure PointSource where
  device : Nat
  brick : Nat
  cluster : Nat
  position : Nat
  kind : Nat
  deriving DecidableEq, Repr

/-- A core of this module as a source. -/
def State.coreSource (s : State) (core : Nat) : PointSource :=
  { device := s.reg Reg.deviceId, brick := core / 64, cluster := coreCluster core % 8, position := corePosition core, kind := 0 }

/-- A level node of this module as a source. -/
def State.nodeSource (s : State) (brick : Nat) : PointSource :=
  { device := s.reg Reg.deviceId, brick := brick, cluster := 0, position := 0, kind := 2 }

/-- A packet (R251) of kinds 0 to 3: `core` is brick × 64 + cluster × 8 + position of the destination. -/
def packetWord (core kind tag ingressTie message : Nat) (x : PointSource) : Nat :=
  ingressTie % 64 * 2 ^ 96 + core / 64 % 16 * 2 ^ 92 + core / 8 % 8 * 2 ^ 89 + core % 8 * 2 ^ 86 + kind % 8 * 2 ^ 83 +
    tag % 2 ^ 16 * 2 ^ 67 + message % 2 ^ 32 * 2 ^ 32 + x.device % 2 ^ 15 * 2 ^ 17 + x.brick % 16 * 2 ^ 13 +
    x.cluster % 8 * 2 ^ 10 + x.position % 8 * 2 ^ 7 + x.kind % 4 * 2 ^ 5

/-- The message word of a tie signal, and of a level packet. -/
def signalMessage (operand tie op : Nat) : Nat := operand % 2 ^ 16 * 2 ^ 16 + tie % 64 * 2 ^ 10 + op % 4 * 2 ^ 8
def levelMessage (level : Nat) : Nat := level % 256

/-- A slot-2 message (R252), with Valid and without Seq, AckSeq and Check. -/
def slotWord (device core kind tag tie op operand : Nat) (x : PointSource) : Nat :=
  2 ^ 111 + device % 2 ^ 15 * 2 ^ 82 + core / 64 % 16 * 2 ^ 78 + core / 8 % 8 * 2 ^ 75 + core % 8 * 2 ^ 72 +
    kind % 8 * 2 ^ 69 + tag % 2 ^ 16 * 2 ^ 53 + tie % 64 * 2 ^ 47 + op % 4 * 2 ^ 45 + operand % 2 ^ 16 * 2 ^ 29 +
    x.device % 2 ^ 15 * 2 ^ 14 + x.brick % 16 * 2 ^ 10 + x.cluster % 8 * 2 ^ 7 + x.position % 8 * 2 ^ 4 + x.kind % 4 * 2 ^ 2

/-- The packet that a message becomes at the port's interface (R254). -/
def packetOf (w : Nat) : Nat :=
  let kind := bits w 69 3
  let core := bits w 78 4 * 64 + bits w 75 3 * 8 + bits w 72 3
  let x : PointSource := ⟨bits w 14 15, bits w 10 4, bits w 7 3, bits w 4 3, bits w 2 2⟩
  let m := if kind = 0 then signalMessage (bits w 29 16) (bits w 47 6) (bits w 45 2) else levelMessage (bits w 29 8)
  packetWord core kind (bits w 53 16) 0 m x

/-! ### Outgoing messages (R253) -/

/-- Sent messages that wait for their acknowledgement. -/
def Port.unacked (p : Port) : List PointMsg := p.queue.filter fun m => m.sentAt.isSome

/-- A message joins a port's queue; with 64 unacknowledged it waits, and PointingBacklog is sent. -/
def State.queueMessage (s : State) (port word : Nat) : State :=
  let p := s.port port
  let s := s.setPort port
    { p with queue := p.queue ++ [{ seq := p.nextSeq, word := word, sentAt := none }], nextSeq := (p.nextSeq + 1) % 128 }
  if decide (64 ≤ p.unacked.length) then s.notice Note.pointingBacklog (srcPort port) (u8 port ++ u8 p.unacked.length) else s

/-- The 128-bit slot that carries a message now. -/
def Port.slotOf (p : Port) (m : PointMsg) : Nat :=
  let w := m.word + m.seq % 128 * 2 ^ 104 + (p.lastSeq.getD 0x7F) % 128 * 2 ^ 97
  crc16 (leBytes 14 w) * 2 ^ 112 + w

/-- Lanes of a port that are up. -/
def Port.upLanes (p : Port) : List Nat := (List.range 8).filter fun l => (p.lane l).status == 2

/-- A slot 2 without a message: Valid 0, and AckSeq (R252). -/
def Port.ackSlot (p : Port) : Nat :=
  let w := (p.lastSeq.getD 0x7F) % 128 * 2 ^ 97
  crc16 (leBytes 14 w) * 2 ^ 112 + w

/-- The messages of a course: those to be sent again, then new ones in queue order, at most 64 unacknowledged (R253). -/
def Port.messages (p : Port) : List PointMsg :=
  (p.queue.filter fun m => p.resend.contains m.seq) ++
    (p.queue.filter fun m => m.sentAt.isNone).take (64 - p.unacked.length)

/-- The slots 2 of a course: messages in lane order, one a lane that is up, and AckSeq alone in the others (R253
steps 1 and 2). -/
def State.sendSlots (s : State) (port : Nat) : State :=
  let p := s.port port
  let pairs := p.upLanes.zip p.messages
  let sent := pairs.map fun e => e.2.seq
  let s := s.bumpBy Reg.pointingResends (sent.countP p.resend.contains)
  let s := pairs.foldl (fun s e => s.emit (.pointing port e.1 (p.slotOf e.2))) s
  let s := (p.upLanes.drop pairs.length).foldl (fun s l => s.emit (.pointing port l p.ackSlot)) s
  let mark (m : PointMsg) : PointMsg :=
    if sent.contains m.seq then { m with sentAt := some s.time.localCount } else m
  s.setPort port { p with queue := p.queue.map mark, resend := p.resend.filter fun n => !sent.contains n }

/-- POINTING_RESEND (R253 step 4): a message unacknowledged after 3 courses is to go again, with every later one, in the
slots 2 of the next courses. -/
def State.resendMessages (s : State) (port : Nat) : State :=
  let p := s.port port
  let late := p.queue.dropWhile fun m => !(m.sentAt.any fun t => decide (t + 3 ≤ s.time.localCount))
  let again := (late.filter fun m => m.sentAt.isSome).map fun m => m.seq
  if again.length = 0 then s else s.setPort port { p with resend := again }

def execPointingResend (port : Nat) (s : State) : Host.Outcome State Fault Refusal :=
  s.onUnit "POINTING_RESEND" (portOk port && s.portRole port == 0) (s.resendMessages port)

/-! ### Strays, and what the plan declares -/

/-- A packet that is discarded (R251, R268, R274). -/
def State.stray (s : State) (w : Nat) : State :=
  let kind := bits w 83 3
  let number := if kind = 0 then bits w 42 6 else if kind = 1 then bits w 96 6 else bits w 32 8
  (s.bump Reg.strayMessages).notice Note.strayPointing (srcBrick (bits w 92 4))
    (u8 kind ++ u16 (bits w 17 15) ++ u8 (bits w 92 4) ++ u8 number ++ u64 s.stamp)

/-- Messages are taken: a plan is loaded and runs, in Run or Hold (R268). -/
def State.pointingOpen (s : State) : Bool :=
  s.prog.running && (s.power.mode == .run || s.power.mode == .hold) && !s.limewash

/-- A core that the running plan uses; each has its 64 ties (R255; assumption 31). -/
def State.planCore (s : State) (core : Nat) : Bool :=
  match s.thePlan with
  | none => false
  | some p => (Map.find p.code core).isSome

/-- A level that the running plan declares. -/
def State.levelDecl (s : State) (l : Nat) : Option LevelDecl :=
  match s.thePlan with
  | none => none
  | some p => p.levels.find? fun x => x.level == l

/-! ### Tie signals (R257 to R260) -/

/-- A packet of kind 0, 1 or 3 waits in its router until it lands; one that waits for its landing course counts
(R259). -/
def State.holdSignal (s : State) (w : Nat) : State :=
  let kind := bits w 83 3
  let core := bits w 92 4 * 64 + bits w 89 3 * 8 + bits w 86 3
  let l := nearestCourse s.prog.course 16 (bits w 67 16)
  let early := decide (s.prog.course < l)
  let x : Signal :=
    { kind := kind, target := if kind = 3 then bits w 92 4 else core,
      number := if kind = 0 then bits w 42 6 else if kind = 1 then bits w 96 6 else bits w 32 8,
      op := if kind = 1 then 4 else bits w 40 2, operand := if kind = 1 then bits w 32 32 else bits w 48 16,
      landing := l, device := bits w 17 15, brick := bits w 13 4, cluster := bits w 10 3, position := bits w 7 3,
      source := bits w 5 2, counted := early }
  let s := if early && kind ≤ 1 then s.bump Reg.signalsHeld else s
  { s with point := { s.point with signals := s.point.signals ++ [x] } }

/-- A kind 4 packet (R251): a message for another module, on its way to the port that sends it. -/
def outboundWord (device port farKind core tag tie op operand : Nat) (x : PointSource) : Nat :=
  device % 2 ^ 15 * 2 ^ 113 + port % 64 * 2 ^ 107 + farKind % 8 * 2 ^ 104 + packetWord core 4 tag 0 (signalMessage operand tie op) x

/-- The message that a kind 4 packet becomes at its port's interface (R252). -/
def messageOf (w : Nat) : Nat :=
  let x : PointSource := ⟨bits w 17 15, bits w 13 4, bits w 10 3, bits w 7 3, bits w 5 2⟩
  slotWord (bits w 113 15) (bits w 92 4 * 64 + bits w 89 3 * 8 + bits w 86 3) (bits w 104 3) (bits w 67 16) (bits w 42 6)
    (bits w 40 2) (bits w 48 16) x

/-- The kinds that a message takes on the fabric (R252). -/
def farKinds : List Nat := [0, 2, 3]

/-- A kind 4 packet reaches its port, whose queue its message joins. -/
def State.outbound (s : State) (w : Nat) : State := s.queueMessage (bits w 107 6) (messageOf w)

/-- Whether a packet names a tie or a level that the running plan declares, or a fabric port. -/
def State.declared (s : State) (w : Nat) : Bool :=
  let kind := bits w 83 3
  if kind ≤ 1 then s.planCore (bits w 92 4 * 64 + bits w 89 3 * 8 + bits w 86 3)
  else if kind = 4 then farKinds.contains (bits w 104 3) && s.portRole (bits w 107 6) == 0
  else decide (kind ≤ 3) && (s.levelDecl (bits w 32 8)).isSome

/-- A tie signal, an ingress set or a level release reaches its router; an outbound packet its port. -/
def State.signalArrives (s : State) (w : Nat) : State :=
  if s.pointingOpen && s.declared w then
    if bits w 83 3 = 2 then s else if bits w 83 3 = 4 then s.outbound w else s.holdSignal w
  else s.stray w

/-- SIGNAL_ARRIVAL. -/
def execSignalArrival (packet : Nat) (s : State) : Host.Outcome State Fault Refusal :=
  s.onUnit "SIGNAL_ARRIVAL" (word128Ok packet) (s.signalArrives packet)

/-- The new value of a tie (R257); 4 is an ingress set. -/
def tieValue (op old operand : Nat) : Nat :=
  if op = 0 ∨ op = 4 then operand
  else if op = 1 then (old + operand) % 2 ^ 32
  else if op = 2 then max old operand
  else orMask old operand

/-- The brick node of a level (key), and its module root node. -/
def brickNode (brick level : Nat) : Nat := 256 * (brick + 1) + level
def rootNode (level : Nat) : Nat := level

/-- A level node at reset (R272). -/
def LevelNode.clear : LevelNode := { expected := 0, arrived := 0, latest := 0, completions := 0, lastRelease := allOnes64 }

/-- A level node. -/
def State.level (s : State) (k : Nat) : LevelNode := Map.get s.point.levels LevelNode.clear k

/-- Changes a level node. -/
def State.setLevel (s : State) (k : Nat) (v : LevelNode) : State :=
  { s with point := { s.point with levels := Map.set s.point.levels LevelNode.clear k v } }

/-- A landed signal is applied (R260, R265): a tie takes its value and its signaller; a release completes a round at
a brick node, or at the module root node (target 255). -/
def State.applySignal (s : State) (x : Signal) : State :=
  if x.kind = 3 then
    let k := if x.target = 255 then rootNode x.number else brickNode x.target x.number
    let n := s.level k
    let s := s.setLevel k { n with completions := (n.completions + 1) % 2 ^ 32, lastRelease := x.landing }
    if x.target = 255 then s.bump Reg.levelReleases else s
  else
    let late := decide (x.landing < s.prog.course) || (s.prog.kind != .work s.prog.course && !s.prog.resumed)
    let t := s.tie x.target x.number
    let s := s.setTie x.target x.number
      { t with value := tieValue x.op t.value x.operand, lastCourse := s.stamp, lastLanding := x.landing,
               device := x.device, brick := x.brick, cluster := x.cluster, position := x.position,
               source := if x.kind = 1 then 2 else 1, op := x.op }
    (s.bump Reg.signalsApplied).bumpBy Reg.signalsLate (flagNat late)

/-- Inserts a signal in ascending order of landing course, after those of the same. -/
def insertSignal (x : Signal) (l : List Signal) : List Signal :=
  match l with
  | [] => [x]
  | y :: r => if x.landing < y.landing then x :: y :: r else y :: insertSignal x r

/-- The application point of cycle 543 (R259, R260). -/
def State.applyLanded (s : State) : State :=
  let landed := s.point.signals.filter fun x => decide (x.landing ≤ s.prog.course)
  let rest := s.point.signals.filter fun x => !decide (x.landing ≤ s.prog.course)
  let s := { s with point := { s.point with signals := rest } }
  (landed.foldl (fun l x => insertSignal x l) []).foldl State.applySignal s

/-- Entry of the running plan's tie table. -/
def State.tieTarget (s : State) (n : Nat) : Option TieTarget :=
  match s.plan.running with
  | none => none
  | some p => p.ties[n]?

/-- The port that carries a message of a fabric route: that of its first slot entry (assumption 31). -/
def State.routePort (s : State) (n : Nat) : Option Nat :=
  match s.route n with
  | none => none
  | some r => r.slots.head?.map (·.port)

/-- Sends a tie signal to a target (R251, R254, R256). -/
def State.signalTo (s : State) (t : TieTarget) (x : PointSource) (op operand : Nat) : State :=
  let s := s.bump Reg.signalsSent
  let tag := s.prog.course + t.offset
  let core := t.brick * 64 + t.core % 64
  if t.path = 0xFFFF then s.emit (.packet (packetWord core 0 tag 0 (signalMessage operand t.tie op) x))
  else
    match s.routePort t.path with
    | none => s
    | some p => s.outbound (outboundWord t.device p 0 core tag t.tie op operand x)

/-- TSIG (R159, R164): in the N and Q queues. -/
def execTsig (q : Issue) (f : Fields) (s : State) : Host.Outcome State Fault Refusal :=
  s.instr "TSIG" 0x53 q f { bare [6, 7] with flags := 3, imm := allImm } (fun g => (s.tieTarget (bits g.imm 0 16)).isSome)
    fun g s =>
      match s.tieTarget (bits g.imm 0 16) with
      | none => s
      | some t => s.signalTo t (s.coreSource q.core) (g.flags % 4) (bits g.imm 16 16)

/-! ### Levels (R265, R266) -/

/-- The brick of a level's module root node: the lowest that holds a brick node. -/
def State.rootBrick (s : State) (l : Nat) : Nat :=
  ((List.range 16).find? fun b => (s.level (brickNode b l)).expected != 0).getD 0

/-- A level is released (R265): one release to this module's own tree, one to each child module. -/
def State.release (s : State) (d : LevelDecl) (landing : Nat) (x : PointSource) : State :=
  let s := d.children.foldl (fun s c =>
    s.outbound (outboundWord c.2.1 c.1 3 (c.2.2 * 64) landing 0 0 d.level x)) s
  s.emit (.packet (packetWord (s.rootBrick d.level * 64) 3 landing 0 (levelMessage d.level) x))

/-- What a node that has all its arrivals does: a brick node tells the module root node; the module root node its
parent module, or it is the domain root and releases the level. -/
def State.completeRound (s : State) (d : LevelDecl) (k course : Nat) : State :=
  if k ≠ rootNode d.level then
    s.emit (.packet (packetWord (s.rootBrick d.level * 64) 2 course 0 (levelMessage d.level) (s.nodeSource (k / 256 - 1))))
  else
    let x := s.nodeSource (s.rootBrick d.level)
    match d.parent with
    | none => s.release d (course + d.rho) x
    | some p => s.outbound (outboundWord p.2.1 p.1 2 (p.2.2 * 64) course 0 0 d.level x)

/-- An arrival counts at its node (R265); `course` is its plan course. -/
def State.countArrival (s : State) (d : LevelDecl) (k course : Nat) : State :=
  let n := s.level k
  let latest := if n.arrived = 0 then course else max n.latest course
  if n.expected ≤ n.arrived + 1 then
    (s.setLevel k { n with arrived := 0, latest := latest }).completeRound d k latest
  else s.setLevel k { n with arrived := n.arrived + 1, latest := latest }

/-- A level arrival reaches a node: a core's at its brick node, a node's at the module root node. -/
def State.levelArrives (s : State) (w : Nat) : State :=
  if s.pointingOpen && bits w 83 3 == 2 && s.declared w then
    match s.levelDecl (bits w 32 8) with
    | none => s
    | some d =>
      let k := if bits w 5 2 = 0 then brickNode (bits w 92 4) d.level else rootNode d.level
      s.countArrival d k (nearestCourse s.prog.course 16 (bits w 67 16))
  else s.stray w

/-- LEVEL_ARRIVAL. -/
def execLevelArrival (packet : Nat) (s : State) : Host.Outcome State Fault Refusal :=
  s.onUnit "LEVEL_ARRIVAL" (word128Ok packet) (s.levelArrives packet)

/-- A release reaches the module root node and goes down the tree: it waits for its landing course at every brick
node and at the root node (target 255), and goes on to the child modules when it came from a parent. -/
def State.levelReleased (s : State) (w : Nat) : State :=
  if s.pointingOpen && bits w 83 3 == 3 && s.declared w then
    match s.levelDecl (bits w 32 8) with
    | none => s
    | some d =>
      let l := nearestCourse s.prog.course 16 (bits w 67 16)
      let own := bits w 17 15 == s.reg Reg.deviceId
      let s := if own then s else
        d.children.foldl (fun s c =>
          s.outbound (outboundWord c.2.1 c.1 3 (c.2.2 * 64) l 0 0 d.level (s.nodeSource (s.rootBrick d.level)))) s
      let bricks := (List.range 16).filter fun b => (s.level (brickNode b d.level)).expected != 0
      let one (t : Nat) : Signal :=
        { kind := 3, target := t, number := d.level, op := 0, operand := 0, landing := l, device := bits w 17 15,
          brick := bits w 13 4, cluster := 0, position := 0, source := 2, counted := false }
      { s with point := { s.point with signals := s.point.signals ++ (bricks ++ [255]).map one } }
  else s.stray w

/-- LEVEL_RELEASE. -/
def execLevelRelease (packet : Nat) (s : State) : Host.Outcome State Fault Refusal :=
  s.onUnit "LEVEL_RELEASE" (word128Ok packet) (s.levelReleased packet)

/-- LVA (R159, R266). -/
def execLva (q : Issue) (f : Fields) (s : State) : Host.Outcome State Fault Refusal :=
  s.instr "LVA" 0x54 q f { bare [6] with imm := 0xFF } anyFields
    fun g s =>
      let s := s.mapSeq q.core fun x =>
        { x with arrivals := Map.set x.arrivals 0 g.imm (Map.get x.arrivals 0 g.imm + 1) }
      s.emit (.packet (packetWord (q.core / 64 * 64) 2 s.prog.course 0 (levelMessage g.imm) (s.coreSource q.core)))

/-- An `lvw` condition (R266). -/
def State.levelHolds (s : State) (core l : Nat) : Bool :=
  decide (Map.get (s.core core).seq.arrivals 0 l ≤ (s.level (brickNode (core / 64) l)).completions)

/-! ### Slot-2 messages (R252 to R254) -/

/-- AckSeq releases the messages up to the one it names (R253). -/
def Port.acknowledge (p : Port) (ack : Nat) : Port :=
  if p.queue.any fun m => m.seq == ack && m.sentAt.isSome then
    { p with queue := (p.queue.dropWhile fun m => m.seq != ack).drop 1, acked := some ack }
  else p

/-- A relay entry for a message (R235, R254): a route of the plan that this module relays towards its destination. -/
def State.relayPort (s : State) (device : Nat) : Option Nat :=
  match s.thePlan with
  | none => none
  | some p =>
    match p.routes.find? fun r => r.kind == 2 && r.destDevice == device && r.relays.contains (s.reg Reg.deviceId) with
    | none => none
    | some r => r.slots.head?.map (·.port)

/-- A message accepted in order: delivered here, relayed, or stray. -/
def State.deliverMessage (s : State) (w : Nat) : State :=
  let kind := bits w 69 3
  let pkt := packetOf w
  if farKinds.contains kind = false then s.stray pkt
  else if bits w 82 15 = s.reg Reg.deviceId then
    if kind = 0 then s.signalArrives pkt
    else if kind = 2 then s.levelArrives pkt
    else if kind = 3 then s.levelReleased pkt
    else s.stray pkt
  else
    match s.relayPort (bits w 82 15) with
    | none => s.stray pkt
    | some p => s.queueMessage p (w % 2 ^ 97 + 2 ^ 111)

/-- A slot 2 arrives: its acknowledgement, and a message taken only in Seq order (R253). -/
def State.takeMessage (s : State) (port w : Nat) : State :=
  if s.awake = false ∨ s.portRole port ≠ 0 then s
  else if wordChecks w = false then s.bump Reg.pointingDiscards
  else
    let p := (s.port port).acknowledge (bits w 97 7)
    let s := s.setPort port p
    if bit w 111 = false then s
    else
      let expected := match p.lastSeq with
        | none => 0
        | some n => (n + 1) % 128
      if bits w 104 7 ≠ expected then s.bump Reg.pointingDiscards
      else (s.setPort port { p with lastSeq := some expected }).deliverMessage w

/-- POINTING_MESSAGE. -/
def execPointingMessage (port lane word : Nat) (s : State) : Host.Outcome State Fault Refusal :=
  s.onUnit "POINTING_MESSAGE" (portOk port && laneOk lane && word128Ok word) (s.takeMessage port word)

/-- POINTING_HOUSEKEEPING (R20, R22, R250): it uses a maintenance port of each router and changes no state that the
spec names; one that does not fit, or that meets a rest or a Hold course, is deferred and counted (R39). -/
def execPointingHousekeeping (fits : Bool) (s : State) : Host.Outcome State Fault Refusal :=
  s.done (if fits && s.lowPriorities then s else s.bump Reg.housekeepingDeferred)

end Sys2Proof.Machine
end

