-- ==== Sys2Proof/Machine/Slots.lean ====
section
/-! DEFINITION. Slots and the Trowels: bindings (R348), release and clearing, stamping (R198), mirrored KV writes (R508),
slot blocks and handoff halves (R173, R320, R321), Trowel faults (R538). -/

namespace Sys2Proof.Machine

/-! ### Bindings (R348) -/

/-- The slot holds a tint, as bindings count it: states 2 to 6 (R348, R503). -/
def State.holdsTint (s : State) (slot : Nat) : Bool :=
  let st := (s.slot slot).state
  decide (2 ≤ st ∧ st ≤ 6)

/-- The batches of the running plan that serve a slot, by index. -/
def State.batchesOf (s : State) (slot : Nat) : List Nat :=
  match s.plan.running with
  | none => []
  | some p => (List.range p.batches.length).filter fun i => (p.batches.getD i []).contains slot

/-- The generation bound to a batch; 0 for none. -/
def State.boundTo (s : State) (batch : Nat) : Nat := Map.get s.serving.bindings 0 batch

/-- Batches none of whose slots holds a tint become unbound. -/
def State.unbind (s : State) : State :=
  let held (b : Nat) : Bool :=
    match s.plan.running with
    | none => false
    | some p => (p.batches.getD b []).any s.holdsTint
  { s with serving := { s.serving with bindings := s.serving.bindings.filter fun e => held e.1 } }

/-- A tint of a generation is admitted into the batches of its slot. -/
def State.bind (s : State) (slot gen : Nat) : State :=
  (s.batchesOf slot).foldl (fun s b =>
    if s.boundTo b = 0 then { s with serving := { s.serving with bindings := Map.set s.serving.bindings 0 b gen } } else s) s

/-! ### Clearing and stamping (R198) -/

/-- The slot enters Clearing at the present plan course. -/
def State.releaseSlot (s : State) (slot : Nat) : State :=
  let x := s.slot slot
  s.setSlot slot
    { x with state := 1, phase := 0, releasedAt := s.time.localCount, releaseCourse := s.prog.course, due := none,
             ordered := false, cancelled := false, fault := none, reported := [], formed := [], history := [],
             unrecoverable := false, paused := 0, accepted := 0 }

/-- A clearing that outlived its plan (R207): its windows are cleared in Run, under the released tint. -/
def State.clearLeft (s : State) (slot : Nat) : State :=
  match s.serving.clearing.find? fun e => e.1 == slot with
  | none => s
  | some e =>
    let s := { s with serving := { s.serving with clearing := s.serving.clearing.filter fun x => x.1 != slot } }
    (e.2.2.foldl (fun s r => s.clearTiles r.fmt e.2.1 r.base r.tiles) s).bump Reg.clearsDone

/-- SLOT_CLEARING_DONE (R198): the slot is Clear at this course boundary: Free. In Hold and Doze the engines pause
(R207). -/
def State.slotCleared (s : State) (slot : Nat) : State :=
  let x := s.slot slot
  if s.power.mode ≠ .run then s
  else if s.prog.running = false then s.clearLeft slot
  else if x.state ≠ 1 then s
  else
    let s := (s.clearSlot slot).setSlot slot { x with state := 0 }
    (s.bump Reg.clearsDone).setReg Reg.lastClearCourses (s.time.localCount - x.releasedAt)

def execSlotClearingDone (slot : Nat) (s : State) : Host.Outcome State Fault Refusal :=
  s.onUnit "SLOT_CLEARING_DONE" (slotOk slot) (s.slotCleared slot)

/-- A mirrored KV write is applied as the bank's engine applies one (R156, R508). -/
def State.applyKv (s : State) (r : Bytes) : State :=
  let slot := field r 2 2
  let op := byteAt r 16
  let fmt := byteAt r 17
  let a := field r 20 8
  let row := op == 0x46
  let fmts := if row then rowFmts else colFmts
  if (op = 0x45 ∨ op = 0x46) ∧ fmts.contains fmt ∧ field r 18 2 < (if row then 32 else 128) ∧
      s.kvChecks slot (field r 4 2) fmt a then
    (s.kvWrite row fmt (field r 18 2) a (slice r 28 (if row then 4 * vecBytes fmt else vecBytes fmt))).bump Reg.mirrorRecordsApplied
  else (s.bump Reg.mirrorRejects).setSlot slot { s.slot slot with unrecoverable := true }

/-- AppliedMark (R508): the latest course all of whose records have come, less those that still wait. -/
def State.advanceMark (s : State) : State :=
  match s.bond.received with
  | none => s
  | some c =>
    match s.bond.waiting.map fun r => field r 8 8 with
    | [] => s.setReg Reg.appliedMark c
    | a :: l =>
      let first := l.foldl min a
      if first = 0 then s else if c < first then s.setReg Reg.appliedMark c else s.setReg Reg.appliedMark (first - 1)

/-- The KV records of a slot that waited for its stamp. -/
def State.applyWaiting (s : State) (slot : Nat) : State :=
  let mine (r : Bytes) : Bool := field r 2 2 == slot
  let now := s.bond.waiting.filter mine
  let s := { s with bond := { s.bond with waiting := s.bond.waiting.filter fun r => !mine r } }
  (now.foldl State.applyKv s).advanceMark

/-- SLOT_STAMPING_DONE (R198): the slot is Stamped at this course boundary: Held, or Mirrored where the partner owns
it (R503, R508). -/
def State.slotStamped (s : State) (slot : Nat) : State :=
  let x := s.slot slot
  if x.state ≠ 2 ∨ s.prog.running = false ∨ s.power.mode ≠ .run then s
  else
    let s := (s.stampSlot slot).bump Reg.stampsDone
    if s.owns slot then s.setSlot slot { x with state := 3 }
    else (s.setSlot slot { x with state := 6 }).applyWaiting slot

def execSlotStampingDone (slot : Nat) (s : State) : Host.Outcome State Fault Refusal :=
  s.onUnit "SLOT_STAMPING_DONE" (slotOk slot) (s.slotStamped slot)

/-! ### Slot blocks (R320) -/

/-- A field of a slot's parameter block, by its offset in the descriptor (R309). -/
def Slot.param (x : Slot) (off n : Nat) : Nat := field x.params (off - 32) n

/-- Phase and DraftLength as the records formed up to a plan course leave them (R321). -/
def Slot.asOf (x : Slot) (course : Nat) : Nat × Nat :=
  match x.history.find? fun e => decide (e.1 ≤ course) with
  | some e => e.2
  | none => (if x.phase = 4 then 4 else if x.phase = 0 then 0 else 2, x.param 37 1)

/-- The slot block that becomes active at admission course X. -/
def State.slotBlock (s : State) (slot x : Nat) : Bytes :=
  let t := s.slot slot
  let held := s.holdsTint slot
  let head := s.reg Reg.domainRole == 1
  let ph := t.asOf (x - 8)
  let phase := if !head || !held || t.phase = 0 then 0 else if x < t.start ∧ ph.1 = 2 then 1 else ph.1
  let own (b : Bytes) : Bytes := if head then b else zeros b.length
  u16 (if held then t.tint else 0xFFFF) ++ u8 t.state ++ u8 phase ++ u32 t.epoch ++ u64 t.start ++
    own (u32 t.promptLength ++ u32 t.promptFirst ++ u8 t.promptWindow) ++ u8 t.generation ++ u16 t.adapter ++
    own (u8 ph.2 ++ u8 (t.param 36 1) ++ u16 (t.param 38 2) ++ u64 (t.param 40 8) ++ u32 (t.param 48 4) ++
      u32 (t.param 52 4) ++ u32 (t.param 32 4)) ++
    (if phase = 4 then u32 t.committed ++ u32 t.nextToken ++ u32 t.generated else zeros 12)

/-- The cluster whose Trowel keeps a slot: the ⌊slot / 64⌋-th logical header cluster of the plan (R306). -/
def Plan.headers (p : Plan) : List Nat := p.placement.filter isHeader
def State.slotCluster (s : State) (slot : Nat) : Option Nat :=
  match s.plan.running with
  | none => none
  | some p => p.headers[slot / 64]?

/-- The half of a header cluster: its 64 slot blocks, in slot order. -/
def State.handoffHalf (s : State) (cluster x : Nat) : Option Bytes :=
  match s.plan.running with
  | none => none
  | some p =>
    match p.headers.findIdx? fun c => c == cluster with
    | none => none
    | some n => some ((List.range 64).flatMap fun i => s.slotBlock (64 * n + i) x)

/-- The two halves of a cluster's handoff region (R173): the active half, which plans read, and the shadow half. -/
def activeHalf (cluster : Nat) : Nat := moduleAddress 1 (cluster / 8) (cluster % 8) 0 (0x1000000 - 0x2000)
def shadowHalf (cluster : Nat) : Nat := activeHalf cluster + 0x1000

/-- HANDOFF_SWAP (R173, R321): at an admission course, once, with the Trowel running. What the Trowel has written to the
shadow half becomes active, and the half that was active becomes the shadow (assumption 36). -/
def State.swapHandoff (s : State) (cluster : Nat) : State :=
  match s.reachedAdmission with
  | none => s
  | some x =>
    if s.reg (Reg.trowelState cluster) ≠ 1 ∨ Map.get s.serving.handoff 0 cluster = x + 1 then s
    else
      let s := { s with serving := { s.serving with handoff := Map.set s.serving.handoff 0 cluster (x + 1) } }
      let s := s.bump (Reg.handoffSwaps cluster)
      match s.handoffHalf cluster x with
      | none => s
      | some b => (s.store (shadowHalf cluster) (s.load (activeHalf cluster) 0x1000)).store (activeHalf cluster) b

def execHandoffSwap (cluster : Nat) (s : State) : Host.Outcome State Fault Refusal :=
  s.onUnit "HANDOFF_SWAP" (clusterOk cluster && s.clusterOn cluster) (s.swapHandoff cluster)

/-! ### Trowels (R178, R538) -/

/-- TROWEL_FAULT: cause 1 illegal instruction, 2 memory fault, 3 watchdog. -/
def State.trowelFaults (s : State) (cluster cause : Nat) : State :=
  if s.reg (Reg.trowelState cluster) ≠ 1 then s
  else (s.setReg (Reg.trowelState cluster) 3).notice Note.trowelFault (srcCluster cluster) (u16 cluster ++ u8 cause)

def execTrowelFault (cluster cause : Nat) (s : State) : Host.Outcome State Fault Refusal :=
  s.onUnit "TROWEL_FAULT" (clusterOk cluster && s.clusterOn cluster && decide (1 ≤ cause ∧ cause ≤ 3))
    (s.trowelFaults cluster cause)

/-- TROWEL_RESTART_DONE: it runs again from its active bank. -/
def State.trowelRestarts (s : State) (cluster : Nat) : State :=
  if s.reg (Reg.trowelState cluster) ≠ 3 then s
  else (s.setReg (Reg.trowelState cluster) 1).bump (Reg.trowelResets cluster)

def execTrowelRestartDone (cluster : Nat) (s : State) : Host.Outcome State Fault Refusal :=
  s.onUnit "TROWEL_RESTART_DONE" (clusterOk cluster && s.clusterOn cluster) (s.trowelRestarts cluster)

end Sys2Proof.Machine
end

