-- ==== Sys2Proof/Machine/Banks.lean ====
section
/-! DEFINITION. The plan in force: what the dictionary shows of it (R297 to R301), instruction banks and their swaps
(R170, R175, R292), quoin courses (R126, R163), variants (R286), and the end of a plan (R331, R545). -/

namespace Sys2Proof.Machine

/-! ### What the dictionary shows -/

/-- A plan's name: PlanName less its trailing NUL bytes (R277, R297). -/
def trimNul (b : Bytes) : Bytes := (b.reverse.dropWhile fun x => x == 0).reverse

/-- The skeleton digest of a plan. -/
def Plan.skeleton (p : Plan) : Bytes :=
  match p.variants with
  | [] => zeros 32
  | v :: _ => v.skeleton

/-- The entries of the running plan, and the energy of the running or else the loaded one. -/
def State.showPlan (s : State) : State :=
  let e := s.thePlan.or s.plan.loaded
  let s := s.setReg Reg.planPeakEnergy ((e.map (·.peakEnergy)).getD 0)
  let s := s.setReg Reg.planMeanEnergy ((e.map (·.meanEnergy)).getD 0)
  match s.thePlan with
  | none =>
    let s := (s.setBlob Blob.runningPlanDigest (zeros 32)).setBlob Blob.runningPlanName []
    let s := (s.setReg Reg.segmentLength 0).setReg Reg.placementCanonical 0
    let s := ((s.setReg Reg.paddedItems 0).setReg Reg.pinnedItems 0).setReg Reg.worstOverrun 0
    ((s.setReg Reg.variantCount 0).setReg Reg.activeVariant 0).setBlob Blob.skeletonDigest (zeros 32)
  | some p =>
    let s := (s.setBlob Blob.runningPlanDigest p.digest).setBlob Blob.runningPlanName (trimNul p.name)
    let s := (s.setReg Reg.segmentLength p.segment).setReg Reg.placementCanonical (flagNat p.canonical)
    let s := ((s.setReg Reg.paddedItems p.padded).setReg Reg.pinnedItems p.pinned).setReg Reg.worstOverrun p.worstOverrun
    (s.setReg Reg.variantCount p.variants.length).setBlob Blob.skeletonDigest p.skeleton

/-- A variant of a plan. -/
def Plan.variant (p : Plan) (v : Nat) : Option Variant := p.variants.find? fun x => x.number == v

/-! ### Queues, vats and levels -/

/-- The logical core that a placed core serves. -/
def Plan.logicalCore (p : Plan) (core : Nat) : Option Nat :=
  (p.placement.findIdx? fun c => c == coreCluster core).map fun i => 8 * i + corePosition core

/-- The Q entry of a core in a variant (R286). -/
def Plan.entry (p : Plan) (v core : Nat) : Nat :=
  match p.variant v, p.logicalCore core with
  | some x, some l => x.entries.getD l 0
  | _, _ => 0

/-- At cycle 0 of a quoin course (R126, R163): every vat row unopened, Q's loop stack clear, Q at the variant's
entry; count registers, comparators and AO values stay. -/
def Core.atQuoin (c : Core) (entry : Nat) : Core :=
  let arrays := (c.arrays.map fun e => (e.1, { e.2 with vat := [], recent := [] })).filter fun e =>
    decide (e.2 ≠ ArrayState.empty)
  let c := { c with arrays := arrays, seq := { c.seq with loops := [], until_ := (0, 0) } }
  c.setQueue 7 { c.queue 7 with index := entry }

/-- Every core of the running plan restarts Q in the variant in force. -/
def State.restartQueues (s : State) : State :=
  match s.thePlan with
  | none => s
  | some p =>
    p.code.foldl (fun s e => s.setCore e.1 ((s.core e.1).atQuoin (p.entry (s.reg Reg.activeVariant) e.1))) s

/-- Arrivals that a core makes at a level in each round: one, if its code holds an `lva` of it (R265). -/
def arrivesAt (l : Nat) (words : List Nat) : Bool := words.any fun w => bits w 56 8 == 0x54 && bits w 0 8 == l

/-- Cores of a brick that arrive at a level. -/
def Plan.levelCores (p : Plan) (brick l : Nat) : Nat := p.code.countP fun e => e.1 / 64 == brick && arrivesAt l e.2

/-- Sets the expected counts of a level's nodes. -/
def State.openLevel (s : State) (p : Plan) (d : LevelDecl) : State :=
  let bricks := (List.range 16).filter fun b => 0 < p.levelCores b d.level
  let s := bricks.foldl (fun s b =>
    s.setLevel (brickNode b d.level) { s.level (brickNode b d.level) with expected := p.levelCores b d.level }) s
  s.setLevel (rootNode d.level) { s.level (rootNode d.level) with expected := bricks.length + d.children.length }

/-- The level trees of a plan (R265): its nodes' expected counts; a node that the plan does not declare is gone. -/
def State.openLevels (s : State) (p : Plan) : State :=
  let kept := s.point.levels.filter fun e => p.levels.any fun d => e.1 % 256 == d.level
  let none_ (e : Nat × LevelNode) : Nat × LevelNode := (e.1, { e.2 with expected := 0 })
  let s := { s with point := { s.point with levels := (kept.map none_).filter (fun e => decide (e.2 ≠ LevelNode.clear)) } }
  p.levels.foldl (fun s d => s.openLevel p d) s

/-! ### Bank swaps (R170) -/

/-- The banks of every core swap: ActiveBank, LastSwapCourse, BankSwaps, BankSwapped; the loader writes the other bank
from now on (assumption 37). -/
def State.flipBanks (s : State) : State :=
  let b := 1 - s.reg Reg.activeBank
  let s := (s.setReg Reg.activeBank b).setReg Reg.loadBank (1 - b)
  let s := ((s.setReg Reg.lastSwapCourse s.stamp).bump Reg.bankSwaps).setReg Reg.shadowState 0
  s.notice Note.bankSwapped srcModule (u8 b ++ u64 s.stamp)

/-- A successor takes over (R292): its code, regions, routes, ties, levels, landing maps and energy; the variant in
force keeps its number if the successor defines it. -/
def State.takeOverPlan (s : State) (p : Plan) : State :=
  let s := { s with plan := { s.plan with running := some p, loaded := none } }
  let s := s.setReg Reg.planState 0
  let s := if (p.variant (s.reg Reg.activeVariant)).isSome then s else s.setReg Reg.activeVariant p.defaultVariant
  let s := ((s.openLevels p).restartQueues).showPlan
  s.notice Note.successorTookOver srcModule (p.digest ++ u64 s.stamp)

/-- The plan halts at the present course, which wins over a switch or a takeover (R294). -/
def State.haltDue (s : State) : Bool := s.prog.halt.any fun h => decide (h ≤ s.prog.course)

/-- The present course is a quoin course that runs. -/
def State.atQuoinCourse (s : State) : Bool :=
  s.prog.running && s.prog.kind == .work s.prog.course && s.isQuoin s.prog.course && !s.haltDue

/-- BANK_SWAP (R170): armed, and Loaded on every core; at a quoin course, or with no plan running at a course
boundary. -/
def State.swapBanks (s : State) : State :=
  if s.reg Reg.shadowState ≠ 3 then s
  else if s.prog.running then
    if s.atQuoinCourse then
      let s := s.flipBanks
      match s.plan.loaded with
      | none => s
      | some p => s.takeOverPlan p
    else s
  else s.flipBanks

def execBankSwap (s : State) : Host.Outcome State Fault Refusal := s.done s.swapBanks

/-- SWAP_ARM past check 9 (R175). -/
def State.armSwap (s : State) : Nat × State :=
  if s.reg Reg.shadowState ≠ 2 ∨ s.limewash then (rcStateRefused, s) else (rcOk, s.setReg Reg.shadowState 3)

/-- SWAP_ARM. -/
def execSwapArm (v : Via) (value : Nat) (s : State) : Host.Outcome State Fault Refusal :=
  s.done (s.writeNumber v 0x4101 0x03 7 value State.armSwap)

/-! ### Quoin courses -/

/-- The plan whose variants a switch at this course chooses from: the successor about to take over, or the running
plan (R294). -/
def State.nextPlan (s : State) : Option Plan := if s.reg Reg.shadowState = 3 then s.plan.loaded.or s.thePlan else s.thePlan

/-- An ordered variant switch takes effect (R286, R299). -/
def State.switchVariant (s : State) : State :=
  match s.prog.variant with
  | none => s
  | some (v, quoin) =>
    if s.prog.course < quoin then s
    else
      let s := s.mapProg fun p => { p with variant := none }
      let old := s.reg Reg.activeVariant
      if v = old ∨ (s.nextPlan.bind fun p => p.variant v).isNone then s
      else
        let s := ((s.setReg Reg.activeVariant v).bump Reg.variantSwitches).setReg Reg.lastSwitchCourse s.prog.course
        s.notice Note.variantSwitched srcModule (u8 old ++ u8 v ++ u64 s.prog.course)

/-- QUOIN_COURSE. -/
def State.quoin (s : State) : State := if s.atQuoinCourse then s.switchVariant.restartQueues else s

def execQuoinCourse (s : State) : Host.Outcome State Fault Refusal := s.done s.quoin

/-! ### The end of a plan -/

/-- The plan runs no more: its queues, hods, vats, inputs, flits and open batches are gone; LaunchState is None. -/
def State.endPlan (s : State) : State :=
  let s := { s with plan := { s.plan with running := none }, cores := [], nodes := [] }
  let s := s.mapProg fun p =>
    { p with running := false, kind := .idle, next := .idle, jumped := false, inputs := [], landed := [], sends := [], suspension := none, resumed := false,
             halt := none, variant := none, restPower := false, restThermal := false, stall := 0, stalled := false }
  let s := { s with point := { s.point with signals := [] }, repairs := [] }
  let bare (e : Nat × Port) : Nat × Port := (e.1, { e.2 with landing := [], late := [], seen := [] })
  let s := { s with ports := (s.ports.map bare).filter (fun e => decide (e.2 ≠ Port.down)) }
  let v :=
    { s.serving with batches := [], bindings := [], handoff := [], chosen := none, lastChoice := none, notReady := [],
                     batchOut := 0, batchIn := 0, built := 0, late := 0 }
  let s := { s with serving := v, bond := { s.bond with takeover := none, lost := false } }
  (s.setReg Reg.launchState 0).showPlan

end Sys2Proof.Machine
end

