-- ==== Sys2Proof/Machine/Images.lean ====
section
/-! DEFINITION. Signed items (R469 to R475): their layout, their checks in order, and a refusal. -/

namespace Sys2Proof.Machine

/-- A signed item: header, body, signature block. -/
structure Item where
  bytes : Bytes
  deriving DecidableEq, Repr

def Item.header (i : Item) : Bytes := slice i.bytes 0 256
def Item.kind (i : Item) : Nat := byteAt i.bytes 6
def Item.securityVersion (i : Item) : Nat := byteAt i.bytes 7
def Item.firmwareVersion (i : Item) : Nat := field i.bytes 8 4
def Item.bookVersion (i : Item) : Nat := field i.bytes 12 4
def Item.bodyLength (i : Item) : Nat := field i.bytes 16 8
def Item.revokeMask (i : Item) : Nat := byteAt i.bytes 59
def Item.notAfter (i : Item) : Nat := field i.bytes 72 8
def Item.body (i : Item) : Bytes := (i.bytes.drop 256).take i.bodyLength
def Item.request (i : Item) : Nat := byteAt i.body 0
def Item.nonce (i : Item) : Bytes := slice i.body 32 32
def Item.ownerFlag (i : Item) : Bool := bit (byteAt i.bytes 58) 0

/-- The signature block, at the first multiple of 64 at or after the end of the body (R471). -/
def Item.blockAt (i : Item) : Nat := ceilDiv (256 + i.bodyLength) 64 * 64
def Item.block (i : Item) : Bytes := i.bytes.drop i.blockAt

/-- Public keys and signatures of the vendor and of the owner (R471). -/
def Item.vendorE (i : Item) : Bytes × Bytes := (slice i.block 0 32, slice i.block 32 64)
def Item.vendorM (i : Item) : Bytes × Bytes := (slice i.block 96 1952, slice i.block 2048 3309)
def Item.ownerE (i : Item) : Bytes × Bytes := (slice i.block 5360 32, slice i.block 5392 64)
def Item.ownerM (i : Item) : Bytes × Bytes := (slice i.block 5456 1952, slice i.block 7408 3309)

/-- Body length of a token. -/
def Item.bodyOk (i : Item) : Bool :=
  if i.kind = 3 ∨ i.kind = 5 then i.bodyLength == 64 && allZero (slice i.body 1 31)
  else if i.kind = 4 then i.bodyLength == 128 && allZero (slice i.body 1 31)
  else true

/-- Check 1: magic, layout, reserved bytes and total length. -/
def Item.layoutOk (i : Item) : Bool :=
  decide (256 ≤ i.bytes.length) && slice i.bytes 0 4 == [0x4C, 0x54, 0x49, 0x4D] && field i.bytes 4 2 == 1 &&
    decide (byteAt i.bytes 58 < 2) && allZero (slice i.bytes 80 176) && i.bytes.length == i.blockAt + 10720 &&
    allZero (slice i.block 5357 3) && allZero (slice i.block 10717 3) &&
    (i.ownerFlag || allZero (slice i.block 5360 5360)) && i.bodyOk

/-- A pair of signatures over the header verifies under both schemes (R469). -/
def Item.pairOk (i : Item) (e m : Bytes × Bytes) : Bool :=
  Config.ed25519Verify e.1 i.header e.2 && Config.mlDsaVerify m.1 i.header m.2

/-- The anchor of a scheme that a key is (R475): its number among the eight, if it is one. -/
def anchorOf (base : Nat) (key : Bytes) : Option Nat :=
  ((List.range 4).find? fun j => Config.anchorDigest (base + j) == sha3 key).map (base + ·)

/-- The vendor keys are anchors that are not revoked. -/
def State.anchorsOk (s : State) (i : Item) : Bool :=
  [(0, i.vendorE.1), (4, i.vendorM.1)].all fun x =>
    (anchorOf x.1 x.2).any fun a => !bit (s.reg Reg.anchorRevoked) a

/-- The owner's signatures: present, by the enrolled keys, verifying. -/
def State.ownerSigned (s : State) (i : Item) : Bool :=
  match s.security.owner with
  | none => false
  | some o => i.ownerFlag && sha3 i.ownerE.1 ++ sha3 i.ownerM.1 == o && i.pairOk i.ownerE i.ownerM

/-- An owner is enrolled. -/
def State.owned (s : State) : Bool := s.security.owner.isSome

/-- The vendor's signatures are not used (R472, R474, R483): an owner change, a debug token below level 3 with an owner
enrolled, a retirement that the owner signs. -/
def State.vendorUnused (s : State) (i : Item) : Bool :=
  i.kind == 4 || (i.kind == 3 && decide (i.request < 3) && s.owned) || (i.kind == 5 && i.request == 3 && s.ownerSigned i)

/-- The owner's signatures are required (R474, R483). -/
def State.ownerNeeded (s : State) (i : Item) : Bool :=
  i.kind == 4 ||
    (s.owned && (i.kind == 1 || i.kind == 2 || (i.kind == 3 && decide (i.request < 3)) || (i.kind == 5 && i.request == 2)))

/-- The part is one that the item names. -/
def State.partOk (s : State) (i : Item) : Bool :=
  bit (byteAt i.bytes 56) (if s.reg Reg.stepping = 0xA1 then 0 else 1) && bit (byteAt i.bytes 57) (s.reg Reg.lifecycle) &&
    (allZero (slice i.bytes 60 12) || slice i.bytes 60 12 == s.blob Blob.serialNumber)

/-- NotAfter as R473 judges it; the ROM's verification at a start never judges it. -/
def State.inTime (s : State) (i : Item) (rom : Bool) : Bool :=
  rom || i.notAfter == 0 || (s.time.known && decide (s.time.count ≤ i.notAfter))

/-- The checks of R472 in order: the first cause that fails, with its result. -/
def State.verify (s : State) (i : Item) (kinds : List Nat) (rom : Bool) : Option (Nat × Nat) :=
  if i.layoutOk = false then some (1, rcRangeError)
  else if sha3 i.body ≠ slice i.bytes 24 32 then some (2, rcSignatureInvalid)
  else if (s.vendorUnused i || s.anchorsOk i) = false then some (3, rcSignatureInvalid)
  else if (s.vendorUnused i || i.pairOk i.vendorE i.vendorM) = false then some (4, rcSignatureInvalid)
  else if (!s.ownerNeeded i || s.ownerSigned i) = false then some (5, rcSignatureInvalid)
  else if i.securityVersion < s.reg Reg.securityVersionFused ∨ 64 < i.securityVersion then some (6, rcStateRefused)
  else if s.partOk i = false then some (7, rcStateRefused)
  else if kinds.contains i.kind = false then some (8, rcStateRefused)
  else if (3 ≤ i.kind ∧ i.nonce ≠ s.blob Blob.debugNonce) ∨ s.inTime i rom = false then some (9, rcStateRefused)
  else none

/-- A refused item (R472, R500). -/
def State.refuseItem (s : State) (i : Item) (cause path : Nat) : State :=
  let s := (s.setReg Reg.imageVerifyCause cause).bump Reg.imagesRefused
  s.notice Note.imageRefused srcModule (u8 i.kind ++ u8 cause ++ u8 i.securityVersion ++ u8 path)

/-- An item that came by a path: refused, or `act`. -/
def State.accept (s : State) (i : Item) (kinds : List Nat) (path : Nat) (act : State → Nat × State) : Nat × State :=
  match s.verify i kinds false with
  | some (cause, rc) => (rc, s.refuseItem i cause path)
  | none => act s

/-- A fresh DebugNonce (R491, assumption 7). -/
def State.freshNonce (s : State) : State :=
  (s.setBlob Blob.debugNonce ((List.range 32).map fun i => Config.freeByte (s.drawn + i))).drew 32

end Sys2Proof.Machine
end

