-- ==== Sys2Proof/Machine/Governor.lean ====
section
/-! DEFINITION. The maintenance governor (R520, R521): activities, the matrix, the queue of held requests. -/

namespace Sys2Proof.Machine

/-- Activities 1 to 8 of R520: whether each runs. -/
def State.activityRuns (s : State) (a : Nat) : Bool :=
  if a = 1 then s.reg Reg.activationState != 0
  else if a = 2 then s.reg Reg.patchState == 3
  else if a = 3 then !s.units.substitutions.isEmpty
  else if a = 4 then s.reg Reg.retirePending != 0xFFFF
  else if a = 5 then s.weights.session.isSome
  else if a = 6 then s.reg Reg.pendingSwitch != allOnes64
  else if a = 7 then s.ports.any fun e => e.2.requested
  else if a = 8 then s.reg Reg.bondState == 1 || s.reg Reg.bondState == 2
  else false

/-- Pairs that the matrix of R521 serialises, lower code first. -/
def serialised : List (Nat × Nat) := [(1, 2), (1, 4), (1, 5), (1, 8), (2, 4), (3, 4), (4, 6), (4, 8), (6, 8)]

/-- The ports whose requested retrain runs. -/
def State.retraining (s : State) : List Nat := (s.ports.filter fun e => e.2.requested).map (·.1)

/-- Activity `b` blocks a request of activity `a`; a retrain (7) and a resync (8) are serialised on a bond port
only, and one substitution runs at a time. -/
def State.blocks (s : State) (a port b : Nat) : Bool :=
  s.activityRuns b &&
    (serialised.contains (min a b, max a b) || (a == 3 && b == 3) || (a == 7 && b == 8 && s.portRole port == 1) ||
      (a == 8 && b == 7 && s.retraining.any fun p => s.portRole p == 1))

/-- The lowest activity that blocks a request. -/
def State.blocker (s : State) (a port : Nat) : Option Nat := [1, 2, 3, 4, 5, 6, 7, 8].find? fun b => s.blocks a port b

/-- Holds a request behind activity `b`; a ninth is refused (R520). -/
def State.holdRequest (s : State) (a port value b : Nat) : Nat × State :=
  if 8 ≤ s.held.length then (rcStateRefused, s)
  else
    let s := { s with held := s.held ++ [({ activity := a, port := port, value := value } : Held)] }
    let s := (s.bump Reg.governedTotal).setReg Reg.lastGoverned (a * 256 + b)
    (rcGoverned, s.notice Note.maintenanceGoverned srcModule (u8 a ++ u8 b))

/-- Judges a request whose own conditions hold: held, or begun. -/
def State.govern (s : State) (a port value : Nat) (start : State → State) : Nat × State :=
  match s.blocker a port with
  | some b => s.holdRequest a port value b
  | none => (rcOk, start s)

/-- Judges a request: its own conditions first (`own`, Ok where they hold), then the governor. -/
def State.governed (s : State) (own : State → Nat) (a port value : Nat) (start : State → State) : Nat × State :=
  let rc := own s
  if rc ≠ rcOk then (rc, s) else s.govern a port value start

end Sys2Proof.Machine
end

