-- ==== Sys2Proof/Machine/Weights.lean ====
section
/-! DEFINITION. Weights (R345 to R367): sides, the ring, load sessions, weight records, forwarding and credit,
switches, discards, adapters. -/

namespace Sys2Proof.Machine

/-! ### Plan geometry -/

/-- The plan that runs, or else the one that is loaded. -/
def State.anyPlan (s : State) : Option Plan := s.thePlan.or s.plan.loaded

/-- Shared windows (twins), and granules of a side (R345). -/
def Plan.shared (p : Plan) : List Region := p.regions.filter fun r => r.kind == 1
def Region.sideGranules (r : Region) : Nat := r.size / 2
def Region.sideTiles (r : Region) : Nat := r.sideGranules * 64 / tileStride r.fmt

/-- The ring: the Staging window with the lowest region id (R352). -/
def Plan.ring (p : Plan) : Option Region :=
  (p.regions.filter fun r => r.kind == 2).foldl (fun best r =>
    match best with
    | none => some r
    | some b => if r.id < b.id then some r else some b) none

/-- RecordGranules (R352). -/
def Plan.recordGranules (p : Plan) : Nat := 1 + p.shared.foldl (fun n r => max n (tileStride r.fmt / 64)) 0

/-- Positions of the ring. -/
def Plan.ringPositions (p : Plan) : Nat :=
  match p.ring with
  | none => 0
  | some r => r.size / p.recordGranules

/-- Bytes of an adapter place (R365). -/
def Region.placeBytes (r : Region) : Nat := r.size / 1024 * 64

/-! ### The KeepTable (R355) -/

/-- The entries of a KeepTable value. -/
def keepEntries (n : Nat) (bs : Bytes) : List (Keep × Nat) :=
  match n with
  | 0 => []
  | n + 1 =>
    if bs.length < 16 then []
    else
      ({ first := field bs 0 4, count := field bs 4 4, region := field bs 8 2, target := field bs 12 4 }, field bs 10 2) ::
        keepEntries n (bs.drop 16)

/-- The region that an entry names. -/
def Plan.regionId (p : Plan) (id : Nat) : Option Region := p.regions.find? fun r => r.id == id

/-- Two ranges do not meet. -/
def apart (a an b bn : Nat) : Bool := decide (a + an ≤ b ∨ b + bn ≤ a ∨ an = 0 ∨ bn = 0)

/-- Every pair of a list satisfies a relation. -/
def pairwise {α : Type} (f : α → α → Bool) (l : List α) : Bool :=
  match l with
  | [] => true
  | x :: r => r.all (f x) && pairwise f r

/-- The entries that a session of a kind uses (1 generation, 6 adapter); none where an entry names a region of
another kind than these two, or sets its reserved field. -/
def Plan.usedEntries (p : Plan) (kind : Nat) (es : List (Keep × Nat)) : Option (List Keep) :=
  if es.all fun e => e.2 == 0 && (p.regionId e.1.region).any fun r => r.kind == 1 || r.kind == 6 then
    some ((es.map (·.1)).filter fun e => (p.regionId e.region).any fun r => r.kind == kind)
  else none

/-- No two entries cover one index. -/
def indicesApart (es : List Keep) : Bool := pairwise (fun a b => apart a.first a.count b.first b.count) es

/-- The entries of a generation session cover every tile of every side exactly once. -/
def Plan.coversSides (p : Plan) (es : List Keep) : Bool :=
  p.shared.all fun r =>
    let mine := es.filter fun e => e.region == r.id
    mine.all (fun e => decide (e.target + e.count ≤ r.sideTiles)) &&
      pairwise (fun a b => apart a.target a.count b.target b.count) mine &&
      mine.foldl (fun n e => n + e.count) 0 == r.sideTiles

/-- The chunks of an adapter session fall inside the place. -/
def Plan.fitsPlaces (p : Plan) (es : List Keep) : Bool :=
  es.all fun e => (p.regionId e.region).any fun r =>
    decide ((e.target + e.count * (p.recordGranules - 1)) * 64 ≤ r.placeBytes)

/-- The KeepTable as a session of a kind uses it; none where it fails R355. -/
def State.keepFor (s : State) (p : Plan) (generation : Bool) : Option (List Keep) :=
  let bs := s.blob Blob.keepTable
  match p.usedEntries (if generation then 1 else 6) (keepEntries (bs.length / 16) bs) with
  | none => none
  | some es =>
    if bs.length % 16 = 0 && indicesApart es && (if generation then p.coversSides es else p.fitsPlaces es) then some es else none

/-! ### Sides -/

/-- The lower-numbered Empty side. -/
def State.emptySide (s : State) : Option Nat := [0, 1].find? fun i => s.reg (Reg.sideState i) == 0

/-- A side holds a generation. -/
def State.sideOf (s : State) (gen : Nat) : Option Nat :=
  [0, 1].find? fun i => gen != 0 && s.reg (Reg.sideGeneration i) == gen && s.reg (Reg.sideState i) != 0

/-- Batches bound to a generation (R348, R363). -/
def State.boundCount (s : State) (gen : Nat) : Nat := (s.serving.bindings.filter fun e => e.2 == gen).length

/-- The supplier record of a side (R541). -/
def State.setSupplier (s : State) (side device port : Nat) : State :=
  let b := s.blob Blob.suppliers
  let e := u16 device ++ u8 port ++ u8 (if device = 0xFFFF then 0xFF else 0)
  s.setBlob Blob.suppliers (if side = 0 then e ++ slice b 4 4 else slice b 0 4 ++ e)

/-- A side becomes Empty. -/
def State.emptyASide (s : State) (i : Nat) : State :=
  let s := (s.setReg (Reg.sideState i) 0).setReg (Reg.sideGeneration i) 0
  let s := s.setBlob (Blob.weightDigest i) (zeros 32)
  s.setSupplier i 0xFFFF 0xFF

/-- One byte of AdapterStates, and of AdapterBases. -/
def State.adapterState (s : State) (a : Nat) : Nat := byteAt (s.blob Blob.adapterStates) a
def State.setAdapter (s : State) (a st base : Nat) : State :=
  (s.setBlobByte Blob.adapterStates a st).setBlobByte Blob.adapterBases a base

/-! ### Sessions (R354, R361, R365) -/

/-- Loads are taken from the brick of LoadPort, in whose stack store the ring lies (R352). -/
def State.ringAtPort (s : State) (p : Plan) : Bool :=
  p.ring.any fun r => r.space == 2 && r.brick == s.reg Reg.loadPort / 4

/-- What refuses any session with StateRefused: no plan Loaded or running, Limewash, a session active, a port whose
brick does not hold the ring. -/
def State.sessionBarred (s : State) : Bool :=
  s.limewash || s.weights.session.isSome ||
    (match s.anyPlan with
    | none => true
    | some p => !s.ringAtPort p)

/-- LoadGeneration's own conditions, in the order of R354; Ok where all hold. -/
def State.judgeGeneration (gen : Nat) (s : State) : Nat :=
  if gen = 0 ∨ (s.sideOf gen).isSome then rcRangeError
  else if s.sessionBarred then rcStateRefused
  else if s.prog.running = false ∧ (s.reg (Reg.sideState 0) = 2 ∨ s.reg (Reg.sideState 1) = 2) then rcStateRefused
  else
    match s.anyPlan with
    | none => rcStateRefused
    | some p =>
      if (s.keepFor p true).isNone then rcRangeError
      else if s.emptySide.isNone then rcNoRoom
      else rcOk

/-- A session begins: LoadState Loading, its counts 0 (R354, R369, R370, R541). -/
def State.beginSession (s : State) (p : Plan) (generation : Bool) (id side base : Nat) (keep : List Keep) : State :=
  let port := s.reg Reg.loadPort
  let fabric := s.reg Reg.loadSource == 1
  let x : Session :=
    { generation := generation, id := id, side := side, base := base, keep := keep, fabric := fabric, port := port,
      upstream := if fabric then s.reg (Reg.partnerDeviceId port) else 0xFFFF, granules := p.recordGranules,
      positions := p.ringPositions, ring := (p.ring.map (·.base)).getD 0, accepted := 0, processed := 0, total := 0,
      digest := Sponge.empty, resend := 0, started := s.time.localCount }
  let s := { s with weights := { s.weights with
    session := some x, forward := { records := [], next := 1, sent := 0, processed := 0, released := 0, positions := 0 },
    partialRecord := [], flits := [], missing := [],
    keep0 := if generation && side == 0 then keep else s.weights.keep0,
    keep1 := if generation && side == 1 then keep else s.weights.keep1 } }
  let s := (s.setReg Reg.loadState 1).setReg Reg.processedCount 0
  let s := (s.setReg Reg.recordsTotal 0).setReg Reg.loadResult 0
  let s := s.setReg Reg.loadStartCourse s.stamp
  if generation then
    let s := ((s.setReg (Reg.sideState side) 1).setReg (Reg.sideGeneration side) id).setReg (Reg.sideTiles side) 0
    if fabric then s.setSupplier side x.upstream port else s.setSupplier side 0xFFFF 0xFF
  else s.setAdapter id 1 base

/-- A generation session begins on the lower-numbered Empty side. -/
def State.startGeneration (gen : Nat) (s : State) : State :=
  match s.anyPlan, s.emptySide with
  | some p, some side => s.beginSession p true gen side 0 ((s.keepFor p true).getD [])
  | _, _ => s

/-- LOAD_GENERATION. -/
def execLoadGeneration (v : Via) (value : Nat) (s : State) : Host.Outcome State Fault Refusal :=
  s.done (s.writeNumber v 0x6000 0x01 1 value fun s =>
    s.governed (State.judgeGeneration value) 5 0 value (State.startGeneration value))

/-- The fields of LoadAdapter. -/
def adapterId (v : Nat) : Nat := bits v 0 10
def adapterBase (v : Nat) : Nat := bits v 16 8

/-- LoadAdapter's own conditions (R365). -/
def State.judgeAdapter (v : Nat) (s : State) : Nat :=
  if v ≠ adapterId v + adapterBase v * 2 ^ 16 ∨ adapterBase v = 0 then rcRangeError
  else if s.adapterState (adapterId v) ≠ 0 ∨ s.weights.session.isSome then rcStateRefused
  else
    match s.anyPlan with
    | none => rcNoRoom
    | some p =>
      if !p.regions.any fun r => r.kind == 6 then rcNoRoom
      else if s.sessionBarred then rcStateRefused
      else if (s.keepFor p false).isNone then rcRangeError
      else rcOk

/-- An adapter session begins. -/
def State.startAdapter (v : Nat) (s : State) : State :=
  match s.anyPlan with
  | none => s
  | some p => s.beginSession p false (adapterId v) 0 (adapterBase v) ((s.keepFor p false).getD [])

/-- LOAD_ADAPTER. -/
def execLoadAdapter (v : Via) (value : Nat) (s : State) : Host.Outcome State Fault Refusal :=
  s.done (s.writeNumber v 0x6000 0x02 3 value fun s =>
    s.governed (State.judgeAdapter value) 5 1 value (State.startAdapter value))

/-! ### Credit (R360) -/

/-- ReleasedCount. -/
def State.releasedCount (s : State) : Nat :=
  if s.reg Reg.nextDeviceId ≠ 0xFFFF then min (s.reg Reg.processedCount) s.weights.forward.processed
  else s.reg Reg.processedCount

/-- A credit message of a session. -/
def State.creditBytes (s : State) (x : Session) (seq : Nat) : Bytes :=
  padTo 64 (u32 seq ++ u16 (s.reg Reg.loadResult) ++ u8 (s.reg Reg.loadState) ++ u8 (if x.generation then x.id else 0) ++
    u32 (s.reg Reg.processedCount) ++ u32 s.releasedCount ++ u32 x.resend ++ u32 x.positions)

/-- The queue pair of the storage path: WeightQueuePair as an index, or as a QP number (R390). -/
def State.weightQp (s : State) : Nat :=
  let w := s.reg Reg.weightQueuePair
  if 0x100000 ≤ w then w - 0x100000 else w

/-- Sends a session's credit on the storage path: a SEND with immediate 4. On the fabric path the return flit of every
course carries it. -/
def State.sendCredit (s : State) (x : Session) : State :=
  if x.fabric then s
  else
    let n := s.weightQp
    let q := s.qp n
    (s.setQp n { q with credits := q.credits + 1 }).sendQp n 4 (s.creditBytes x (q.credits + 1))

/-- CREDIT_SEND (R360): on the storage path, every 16 courses of a session. -/
def State.creditTick (s : State) : State :=
  match s.weights.session with
  | none => s
  | some x => s.sendCredit x

def execCreditSend (s : State) : Host.Outcome State Fault Refusal := s.done s.creditTick

/-- Closes the session in a LoadState with a result, and sends its last credit. -/
def State.closeSession (s : State) (x : Session) (result state : Nat) : State :=
  let s := (s.setReg Reg.loadState state).setReg Reg.loadResult result
  let s := s.sendCredit x
  { s with weights := { s.weights with session := none, ended := some x, flits := [], missing := [], partialRecord := [] } }

/-- A session ends before its last record (R357, R361): its side or place returns to Empty. The spec gives no result
code for any of these ends, so the code is a free value (assumption 32). -/
def State.endSession (s : State) : State :=
  match s.weights.session with
  | none => s
  | some x =>
    let code := (Config.freeWord s.drawn).toNat % 2 ^ 16
    let s := s.drew 1
    let s := if x.generation then s.emptyASide x.side else s.setAdapter x.id 0 0
    let s := s.notice Note.loadAborted srcModule (u8 (if x.generation then 0 else 1) ++ u16 x.id ++ u32 x.accepted ++ u16 code)
    let s := s.closeSession x code 3
    { s with weights := { s.weights with forward := { s.weights.forward with records := [] } } }

/-- LOAD_ABORT (R361, R369). -/
def execLoadAbort (v : Via) (value : Nat) (s : State) : Host.Outcome State Fault Refusal :=
  s.done (s.writeNumber v 0x6000 0x08 7 value fun s => (rcOk, s.endSession))

/-! ### Records (R356 to R359) -/

/-- The weight formats of R110. -/
def weightFormat (f : Nat) : Bool := decide (f ≤ 14)

/-- The entry that covers an index. -/
def keepOf (keep : List Keep) (i : Nat) : Option Keep := keep.find? fun e => decide (e.first ≤ i ∧ i < e.first + e.count)

/-- A record agrees with R356 and with its session (R357). -/
def State.recordOk (s : State) (x : Session) (r : Bytes) : Bool :=
  let n := field r 0 4
  let fmt := byteAt r 7
  byteAt r 4 == 1 && byteAt r 5 == (if x.generation then 0 else 1) && byteAt r 6 == (if x.generation then x.id else 0) &&
    field r 8 4 + 1 == n && (x.total == 0 || field r 12 4 == x.total) && decide (n ≤ field r 12 4) &&
    field r 20 2 == (if x.generation then 0 else x.id) && allZero (slice r 22 42) && (x.fabric || field r 16 4 == 0) &&
    (if x.generation then
      weightFormat fmt &&
        (match keepOf x.keep (field r 8 4), s.anyPlan with
        | some e, some p => (p.regionId e.region).any fun g => g.fmt == fmt
        | _, _ => true)
    else fmt == 0)

/-- A record arrives at the ring (R357): judged by its sequence number under R263, with the credit of R360. -/
def State.acceptRecord (s : State) (fabric : Bool) (r : Bytes) : State :=
  match s.weights.session with
  | none => s
  | some x =>
    if x.fabric ≠ fabric then s
    else if s.power.mode = .hold then (if fabric then s else s.bump Reg.recordOverruns)
    else
      let n := field r 0 4
      if n ≤ x.accepted then s.bump Reg.recordDuplicates
      else if x.accepted + 1 < n then s.bump Reg.recordGaps
      else if s.releasedCount + x.positions < n then s.bump Reg.recordOverruns
      else if s.recordOk x r then
        let s := s.store (x.ring + n % max 1 x.positions * (x.granules * 64)) (padTo (x.granules * 64) r)
        let s := s.setReg Reg.recordsTotal (field r 12 4)
        { s with weights := { s.weights with session := some { x with accepted := n, total := field r 12 4 } } }
      else s.endSession

/-- Covered bytes of a record (R356). -/
def coveredBytes (x : Session) (r : Bytes) : Bytes :=
  if x.generation then slice r 64 (tileBytes (byteAt r 7) - 8) else slice r 64 (x.granules * 64 - 64)

/-- Keeps a record's tile or chunk (R358 step 2). -/
def State.keepRecord (s : State) (x : Session) (r : Bytes) (check : Nat) : State :=
  let i := field r 8 4
  let fmt := byteAt r 7
  match keepOf x.keep i, s.anyPlan with
  | some e, some p =>
    match p.regionId e.region with
    | none => s
    | some g =>
      let s := s.bump Reg.recordsKept
      let cov := coveredBytes x r
      if x.generation then
        let a := g.base + x.side * (g.sideGranules * 64) + (e.target + (i - e.first)) * tileStride fmt
        (s.store a (padTo (tileStride fmt) (sideband false fmt x.id 0 check ++ cov))).bump (Reg.sideTiles x.side)
      else s.store (g.base + x.id * g.placeBytes + (e.target + (i - e.first) * (x.granules - 1)) * 64) cov
  | _, _ => s

/-- A record joins those on their way downstream, with the course in which it was processed. -/
def State.queueForward (s : State) (n : Nat) (r : Bytes) : State :=
  if s.reg Reg.nextDeviceId = 0xFFFF then s
  else
    let w := s.weights.forward
    { s with weights := { s.weights with forward := { w with records := Map.put w.records n (s.prog.course, r) } } }

/-- The last record completes the session (R361). -/
def State.completeSession (s : State) (x : Session) : State :=
  let d := x.digest.digest
  let s :=
    if x.generation then
      let s := (s.setReg (Reg.sideState x.side) 2).setBlob (Blob.weightDigest x.side) d
      s.notice Note.generationLoaded srcModule (u8 x.side ++ u8 x.id ++ d)
    else
      let s := s.setAdapter x.id 2 x.base
      let s := { s with weights := { s.weights with adapterDigests := Map.put s.weights.adapterDigests x.id d } }
      s.notice Note.adapterLoaded srcModule (u16 x.id ++ d)
  s.closeSession x rcOk 2

/-- Processes the next landed record (R358). -/
def State.processRecord (s : State) : State :=
  match s.weights.session with
  | none => s
  | some x =>
    let n := x.processed + 1
    if x.accepted < n ∨ s.power.mode ≠ .run then s
    else
      let a := x.ring + n % max 1 x.positions * (x.granules * 64)
      let r := s.load a (x.granules * 64)
      let cov := coveredBytes x r
      let crc := crc32c cov
      if x.fabric ∧ field r 16 4 ≠ crc then
        let s := s.bump Reg.recordCheckFailures
        let s := { s with weights := { s.weights with session := some { x with accepted := x.processed, resend := n } } }
        s.notice Note.weightRecordFault srcModule (u32 n ++ u16 x.upstream)
      else
        let r' := slice r 0 16 ++ leBytes 4 crc ++ r.drop 20
        let s := s.store a r'
        let s := s.keepRecord x r' crc
        let x := { x with processed := n, resend := 0, digest := x.digest.absorb (if x.generation then u8 (byteAt r 7) ++ cov else cov) }
        let s := s.setReg Reg.processedCount n
        let s := { s with weights := { s.weights with session := some x } }
        let s := s.queueForward n r'
        if n = x.total then s.completeSession x else s

/-- WEIGHT_RECORD. -/
def execWeightRecord (s : State) : Host.Outcome State Fault Refusal := s.done s.processRecord

/-- A credit message from downstream (R360): records processed there are released; ResendFrom sends again. -/
def State.takeCredit (s : State) (m : Bytes) : State :=
  let w := s.weights.forward
  let processed := field m 8 4
  let resend := field m 16 4
  let again : Bool := resend != 0 && decide (resend ≤ w.next)
  let w := { w with processed := processed, released := field m 12 4, positions := field m 20 4,
                    next := if again then resend else w.next, sent := if again then 0 else w.sent,
                    records := w.records.filter fun e => decide (processed < e.1) }
  { s with weights := { s.weights with forward := w } }

/-- CREDIT_MESSAGE: 64 bytes. -/
def execCreditMessage (message : Bytes) (s : State) : Host.Outcome State Fault Refusal :=
  s.done (if message.length = 64 ∧ s.awake then s.takeCredit message else s)

/-! ### Distribution flits that leave (R360) -/

/-- A route that an instruction of the plan sends on. -/
def Plan.sendsOn (p : Plan) (n : Nat) : Bool :=
  p.code.any fun e => e.2.any fun w => (bits w 56 8 == 0x50 || bits w 56 8 == 0x51) && bits w 20 12 == n

/-- The route to a module on which the ingress engine sends (DEDUCED, assumption 48): the first fabric route to that
module that neither an instruction sends on nor this module relays. -/
def State.engineRoute (s : State) (device : Nat) : Option (Nat × Route) :=
  s.thePlan.bind fun p => (p.routes.zipIdx.find? fun e =>
    e.1.kind == 2 && e.1.destDevice == device && !e.1.relays.contains (s.reg Reg.deviceId) && !p.sendsOn e.2).map
      fun e => (e.2, e.1)

/-- Order of lane and then slot. -/
def insertSlot (x : RouteSlot) (l : List RouteSlot) : List RouteSlot :=
  match l with
  | [] => [x]
  | y :: r => if x.lane < y.lane ∨ (x.lane = y.lane ∧ x.slot < y.slot) then x :: y :: r else y :: insertSlot x r

/-- The flits that a route reserves in the present plan course, in ascending lane and then slot order: those of the
course's segment position as send ordinal (DEDUCED, assumption 48). -/
def State.reservedSlots (s : State) (r : Route) : List RouteSlot :=
  match s.thePlan with
  | none => []
  | some p => (r.slots.filter fun x => x.ordinal == s.position p s.prog.course).foldl (fun l x => insertSlot x l) []

/-- A flit of granules in a reserved slot of a route. -/
def State.sendReserved (s : State) (n : Nat) (x : RouteSlot) (gs : List Bytes) : State :=
  s.sendFlit x.port x.lane x.offset
    { route := n, index := x.flit, slot := x.slot, tag := (s.prog.course + x.offset) % 32, count := gs.length,
      payload := padTo 256 (gs.flatMap (padTo 64)) }

/-- The next flit's granules of the record that is on its way downstream; none where no record may leave: the credit
allows it, and it was processed two courses before or earlier. -/
def State.nextFlit (s : State) : Option (List Bytes × Forward) :=
  let w := s.weights.forward
  match Map.find w.records w.next with
  | none => none
  | some (c, r) =>
    if w.next ≤ w.released + w.positions ∧ c + 2 ≤ s.prog.course then
      let all := splitVecs 64 (r.length / 64) r
      let gs := (all.drop w.sent).take 4
      some (gs, if w.sent + 4 < all.length then { w with sent := w.sent + 4 } else { w with next := w.next + 1, sent := 0 })
    else none

/-- One reserved flit of the distribution route: the next granules, or nothing (an idle flit). -/
def State.forwardFlit (n : Nat) (s : State) (x : RouteSlot) : State :=
  match s.nextFlit with
  | none => s
  | some (gs, w) =>
    let s := s.bumpBy Reg.recordsForwarded (w.next - s.weights.forward.next)
    { s with weights := { s.weights with forward := w } }.sendReserved n x gs

/-- What the ingress engine sends in a plan course (R360): records to NextDeviceId; on the return route, from a session
with LoadSource 1, the credit message of the session that stands or ended last. -/
def State.engineSends (s : State) : State :=
  let s := match s.engineRoute (s.reg Reg.nextDeviceId) with
    | some (n, r) => if s.reg Reg.nextDeviceId = 0xFFFF then s else (s.reservedSlots r).foldl (State.forwardFlit n) s
    | none => s
  match s.weights.session.or s.weights.ended with
  | none => s
  | some x =>
    if x.fabric = false then s
    else
      match s.engineRoute x.upstream with
      | none => s
      | some (n, r) => (s.reservedSlots r).foldl (fun s y => s.sendReserved n y [s.creditBytes x 0, [], [], []]) s

/-! ### Distribution flits that arrive (R360) -/

/-- A route of this plan whose destination is the ring of this module. -/
def State.distribution (s : State) (r : Route) : Bool :=
  match s.anyPlan with
  | none => false
  | some p => r.kind == 2 && r.destDevice == s.reg Reg.deviceId && p.ring.any fun g => decide (r.address 0 = g.base)

/-- The session takes its records from this port; what comes over the ring's routes by another port is a return flit,
whose credit message CREDIT_MESSAGE delivers. -/
def State.loadsFrom (s : State) (port : Nat) : Bool := s.weights.session.any fun x => x.fabric && x.port == port

/-- Order of first transmission. -/
def flitBefore (a b : Nat × Nat × Nat) : Bool :=
  decide (a.1 < b.1) || (a.1 == b.1 && (decide (a.2.1 < b.2.1) || (a.2.1 == b.2.1 && decide (a.2.2 < b.2.2))))

/-- Inserts a flit in order. -/
def insertFlit (x : (Nat × Nat × Nat) × List Bytes) (l : List ((Nat × Nat × Nat) × List Bytes)) :
    List ((Nat × Nat × Nat) × List Bytes) :=
  match l with
  | [] => [x]
  | y :: r => if flitBefore x.1 y.1 then x :: y :: r else y :: insertFlit x r

/-- Whole records that have come in order are judged at the ring. -/
def State.cutRecords (s : State) (fuel : Nat) : State :=
  match fuel, s.weights.session with
  | fuel + 1, some x =>
    let n := x.granules * 64
    let b := s.weights.partialRecord
    if n = 0 ∨ b.length < n then s
    else
      let s := { s with weights := { s.weights with partialRecord := b.drop n } }
      (s.acceptRecord true (b.take n)).cutRecords fuel
  | _, _ => s

/-- Takes the flits that wait for no earlier one; a failed flit of more than 12 sender courses ago is no longer in
its sender's retry buffer (R230). -/
def State.drainFlits (s : State) : State :=
  let w := s.weights
  let missing := w.missing.filter fun m => decide (s.prog.course ≤ m.1 + 12)
  let ready := w.flits.filter fun f => missing.all fun m => flitBefore f.1 m
  let rest := w.flits.filter fun f => !(missing.all fun m => flitBefore f.1 m)
  let bytes := w.partialRecord ++ ready.flatMap fun f => f.2.flatMap (padTo 64)
  let s := { s with weights := { w with flits := rest, missing := missing, partialRecord := bytes } }
  s.cutRecords (bytes.length / 64)

/-- A distribution flit arrives in good order, or fails. -/
def State.takeDistribution (s : State) (port course lane slot : Nat) (gs : List Bytes) : State :=
  let k := (course, lane, slot)
  let w := s.weights
  if s.loadsFrom port then
    { s with weights := { w with flits := insertFlit (k, gs) w.flits, missing := w.missing.filter fun m => m != k } }.drainFlits
  else s
def State.missDistribution (s : State) (port course lane slot : Nat) : State :=
  if s.loadsFrom port then { s with weights := { s.weights with missing := s.weights.missing ++ [(course, lane, slot)] } }
  else s

/-! ### Switch and discard (R362 to R364) -/

/-- The side in a state. -/
def State.sideIn (s : State) (st : Nat) : Option Nat := [0, 1].find? fun i => s.reg (Reg.sideState i) == st

/-- SwitchCourse's own conditions (R362). With no plan running no course is an admission course, and StateRefused
stands (assumption 32). -/
def State.judgeSwitch (v : Nat) (s : State) : Nat :=
  match s.thePlan with
  | none => rcStateRefused
  | some _ =>
    if !s.isAdmission v ∨ v < s.prog.course + s.reg Reg.orderLead + 16 then rcRangeError
    else if (s.sideIn 2).isNone ∨ s.reg Reg.pendingSwitch ≠ allOnes64 then rcStateRefused
    else rcOk

/-- SWITCH_COURSE. -/
def execSwitchCourse (v : Via) (value : Nat) (s : State) : Host.Outcome State Fault Refusal :=
  s.done (s.writeNumber v 0x6020 0x01 4 value fun s =>
    s.governed (State.judgeSwitch value) 6 0 value fun s => s.setReg Reg.pendingSwitch value)

/-- A side's generation comes into force; the former one retires, or is Empty with no batch bound to it. -/
def State.putInForce (s : State) (side : Nat) : State :=
  let old := s.sideIn 3
  let s := match old with
    | none => s
    | some o => if s.boundCount (s.reg (Reg.sideGeneration o)) = 0 then s.emptyASide o else s.setReg (Reg.sideState o) 4
  (s.setReg (Reg.sideState side) 3).setReg Reg.inForce (s.reg (Reg.sideGeneration side))

/-- GENERATION_SWITCH (R362): at plan course X_s. -/
def State.switchGeneration (s : State) : State :=
  let x := s.reg Reg.pendingSwitch
  if s.prog.running = false ∨ x = allOnes64 ∨ s.prog.course < x then s
  else
    let s := s.setReg Reg.pendingSwitch allOnes64
    match s.sideIn 2 with
    | none => s
    | some side =>
      let old := s.reg Reg.inForce
      let s := (s.putInForce side).bump Reg.switches
      s.notice Note.generationSwitched srcModule (u8 (s.reg Reg.inForce) ++ u8 old ++ u64 x)

def execGenerationSwitch (s : State) : Host.Outcome State Fault Refusal := s.done s.switchGeneration

/-- GENERATION_DISCARD (R364). -/
def State.discardGeneration (s : State) (gen : Nat) : Nat × State :=
  match s.sideOf gen with
  | none => (rcAbsent, s)
  | some i =>
    if s.reg (Reg.sideState i) ≠ 2 ∨ s.boundCount gen ≠ 0 ∨ s.reg Reg.pendingSwitch ≠ allOnes64 then (rcStateRefused, s)
    else (rcOk, { s with weights := { s.weights with discard := some i } })

def execGenerationDiscard (v : Via) (value : Nat) (s : State) : Host.Outcome State Fault Refusal :=
  s.done (s.writeNumber v 0x6020 0x05 1 value fun s => s.discardGeneration value)

/-! ### Adapters (R366) -/

/-- A slot in states 2 to 5 is bound to an adapter, or an admission that names it is ordered (R366, R368). -/
def State.adapterBound (s : State) (a : Nat) : Bool :=
  (s.serving.slots.any fun e => e.2.adapter == a && decide (2 ≤ e.2.state ∧ e.2.state ≤ 5)) ||
    s.serving.batches.any fun b => b.orders.any fun o => o.kind == 1 && o.adapter == a

/-- The engine zero-fills an adapter's places. -/
def State.clearPlaces (s : State) (a : Nat) : State :=
  match s.anyPlan with
  | none => s
  | some p =>
    (p.regions.filter fun r => r.kind == 6).foldl (fun s r =>
      { s with mem := s.mem.clear (r.base + a * r.placeBytes) r.placeBytes }) s

/-- ADAPTER_UNLOAD. -/
def State.unloadAdapter (s : State) (a : Nat) : Nat × State :=
  if 1024 ≤ a then (rcRangeError, s)
  else if s.adapterState a ≠ 2 ∨ s.adapterBound a ∨
      (s.reg Reg.domainRole = 1 ∧ bit (byteAt (s.blob Blob.adapterEnable) (a / 8)) (a % 8)) then (rcStateRefused, s)
  else
    let s := (s.setBlobByte Blob.adapterStates a 3).clearPlaces a
    (rcOk, { s with weights := { s.weights with unloading := s.weights.unloading ++ [a] } })

def execAdapterUnload (v : Via) (value : Nat) (s : State) : Host.Outcome State Fault Refusal :=
  s.done (s.writeNumber v 0x6030 0x05 2 value fun s => s.unloadAdapter value)

/-- What an admission course does to sides and adapters (R363, R364, R366). -/
def State.settleWeights (s : State) : State :=
  let s := [0, 1].foldl (fun s i =>
    if (s.reg (Reg.sideState i) = 4 ∨ s.reg (Reg.sideState i) = 5) ∧ s.boundCount (s.reg (Reg.sideGeneration i)) = 0 then
      let g := s.reg (Reg.sideGeneration i)
      (s.emptyASide i).notice Note.generationReleased srcModule (u8 g ++ u64 s.prog.course)
    else s) s
  let s := match s.weights.discard with
    | none => s
    | some i => if s.reg (Reg.sideState i) = 2 then s.emptyASide i else s
  let s := s.weights.unloading.foldl (fun s a => s.setAdapter a 0 0) s
  { s with weights := { s.weights with discard := none, unloading := [] } }

end Sys2Proof.Machine
end

