-- ==== Sys2Proof/Machine/Image.lean ====
section
/-! DEFINITION. The plan image and the loader's checks that its bytes decide (R277 to R293): header, directory and
sections, latency items, instruction words. -/

namespace Sys2Proof.Machine

/-- A refusal: cause, result, PlanRefusalSite (R293). -/
abbrev Refusal3 := Nat × Nat × Nat

/-- PlanRefusalSite: section type, record index, logical core. -/
def siteOf (typ rec core : Nat) : Nat := typ * 2 ^ 48 + rec * 2 ^ 16 + core

/-- The first record of a list that a check refuses. -/
def firstBad (cause typ : Nat) (l : List Bytes) (ok : Nat → Bytes → Bool) : Option Refusal3 :=
  (l.zipIdx.find? fun e => !ok e.2 e.1).map fun e => (cause, rcRangeError, siteOf typ e.2 0)

/-- A refusal unless a condition holds. -/
def unless_ (ok : Bool) (cause rc site : Nat) : Option Refusal3 := if ok then none else some (cause, rc, site)

/-! ### Header and directory (R277, R278) -/

/-- A power of two from 2^a to 2^b. -/
def powerBetween (v a b : Nat) : Bool := (List.range (b + 1)).any fun i => decide (a ≤ i) && v == 2 ^ i

/-- A staged image. -/
structure Image where
  bytes : Bytes
  deriving DecidableEq, Repr

def Image.device (i : Image) : Nat := field i.bytes 48 2
def Image.gradeMask (i : Image) : Nat := byteAt i.bytes 50
def Image.numericClass (i : Image) : Nat := byteAt i.bytes 51
def Image.bookVersion (i : Image) : Nat := field i.bytes 52 4
def Image.bricks (i : Image) : Nat := field i.bytes 56 2
def Image.stretchers (i : Image) : Nat := field i.bytes 58 2
def Image.headerClusters (i : Image) : Nat := field i.bytes 60 2
def Image.clusters (i : Image) : Nat := i.stretchers + i.headerClusters
def Image.segment (i : Image) : Nat := field i.bytes 62 2
def Image.variantCount (i : Image) : Nat := byteAt i.bytes 64
def Image.defaultVariant (i : Image) : Nat := byteAt i.bytes 65
def Image.grout (i : Image) : Nat := field i.bytes 66 2
def Image.tintSlots (i : Image) : Nat := field i.bytes 68 2
def Image.sectionCount (i : Image) : Nat := field i.bytes 70 2

/-- Check 1 (R277). -/
def Image.headerOk (i : Image) : Bool :=
  let b := i.bytes
  decide (256 ≤ b.length) && slice b 0 4 == [0x4C, 0x54, 0x50, 0x4C] && field b 4 2 == 1 && field b 6 2 == 256 &&
    field b 8 8 == b.length && decide (i.gradeMask < 8) && decide (1 ≤ i.bricks ∧ i.bricks ≤ 16) &&
    decide (i.stretchers ≤ 64 ∧ i.headerClusters ≤ 64 ∧ 0 < i.clusters) && powerBetween i.segment 4 12 &&
    decide (1 ≤ i.variantCount ∧ i.variantCount ≤ 8 ∧ i.defaultVariant < i.variantCount) && powerBetween i.grout 4 8 &&
    decide (i.grout ≤ i.segment) && decide (i.tintSlots ≤ 4096) && allZero (slice b 80 176)

/-- Directory entries. -/
def Image.entries (i : Image) : List Bytes := splitVecs 16 i.sectionCount (i.bytes.drop 256)

/-- The entry, the count and the bytes of a section; none where the image has none. -/
def Image.entry (i : Image) (t : Nat) : Option Bytes := i.entries.find? fun e => field e 0 2 == t
def Image.count (i : Image) (t : Nat) : Nat := ((i.entry t).map fun e => field e 4 4).getD 0
def Image.section (i : Image) (t : Nat) : Bytes :=
  match i.entry t with
  | none => []
  | some e => slice i.bytes (field e 8 4) (field e 12 4)

/-- Bytes of a record of fixed size; 0 for the sections laid out otherwise. -/
def recordSize (t : Nat) : Nat :=
  [0, 4, 4, 0, 32, 12, 12, 8, 32, 16, 16, 8, 8, 12, 16, 16, 0, 0, 0, 8, 16].getD t 0

/-- The records of a section. -/
def Image.records (i : Image) (t : Nat) : List Bytes := splitVecs (recordSize t) (i.count t) (i.section t)

/-- The length of a section agrees with its count (R278, R280, R286). -/
def Image.lengthOk (i : Image) (e : Bytes) : Bool :=
  let t := field e 0 2
  let n := field e 4 4
  let len := field e 12 4
  if t = 3 then decide (72 * n ≤ len)
  else if t = 8 ∨ t = 0x14 then decide (recordSize t * n ≤ len)
  else if t = 0x10 then n == i.variantCount && len == n * (576 + 16 * i.clusters)
  else if t = 0x11 then n == i.variantCount * i.segment && len == 4 * n
  else if t = 0x12 then len == 2 * n && n == i.segment / max 1 i.grout * i.variantCount
  else len == recordSize t * n

/-- A directory entry is in bounds and known. -/
def Image.entryOk (i : Image) (e : Bytes) : Bool :=
  decide (1 ≤ field e 0 2 ∧ field e 0 2 ≤ 0x14) && field e 2 2 == 1 && field e 8 4 % 64 == 0 &&
    decide (256 + 16 * i.sectionCount ≤ field e 8 4 ∧ field e 8 4 + field e 12 4 ≤ i.bytes.length) && i.lengthOk e

/-- The required sections. -/
def requiredSections : List Nat := [0x01, 0x02, 0x03, 0x04, 0x07, 0x10, 0x11, 0x12]

/-- The directory (R278). -/
def Image.directory (i : Image) : List (Option Refusal3) :=
  [unless_ (decide (256 + 16 * i.sectionCount ≤ i.bytes.length)) 2 rcRangeError 0,
   (i.entries.find? fun e => !i.entryOk e).map fun e => (2, rcRangeError, siteOf (field e 0 2) 0 0),
   unless_ (pairwise (fun a b => field a 0 2 != field b 0 2 && apart (field a 8 4) (field a 12 4) (field b 8 4) (field b 12 4))
     i.entries) 2 rcRangeError 0,
   (requiredSections.find? fun t => (i.entry t).isNone).map fun t => (2, rcRangeError, siteOf t 0 0)]

/-! ### Sections -/

/-- Code blocks in order; fewer than their count where one is malformed. -/
def codeBlocks (n : Nat) (b : Bytes) : List (List Nat) :=
  match n with
  | 0 => []
  | n + 1 =>
    let k := field b 0 2
    if 1 ≤ k ∧ k ≤ 4096 ∧ allZero (slice b 2 62) ∧ 64 + 8 * k ≤ b.length then
      (splitVecs 8 k (b.drop 64)).map leVal :: codeBlocks n (b.drop (64 + 8 * k))
    else []

def Image.blocks (i : Image) : List (List Nat) := codeBlocks (i.count 3) (i.section 3)

/-- Logical clusters of a logical brick, in ascending order: all, and those of a kind. -/
def Image.clustersOf (i : Image) (brick : Nat) : List Nat :=
  (List.range i.clusters).filter fun c => byteAt (i.section 1) (4 * c) == brick
def Image.kindOf (i : Image) (c : Nat) : Nat := byteAt (i.section 1) (4 * c + 1)

/-- Groups of a store (R184), and granules of a group: local of a stretcher or a header core, cluster, stack. -/
def groupCount (space : Nat) : Nat := if space = 0 then 4 else if space = 1 then 8 else 16
def groupGranules (space : Nat) (header : Bool) : Nat :=
  if space = 0 then (if header then 8192 else 4096) else if space = 1 then 32768 else 2097152

/-- Granules of a store. -/
def storeGranules (space : Nat) (header : Bool) : Nat := groupCount space * groupGranules space header

/-- The logical cluster of a region record. -/
def Image.clusterAt (i : Image) (r : Bytes) : Nat := (i.clustersOf (byteAt r 4)).getD (byteAt r 5) 0

/-- A region record (R47, R278, R279, R345, R346, R365): an adapter region only in a header cluster's cluster store. -/
def Image.regionOk (i : Image) (r : Bytes) : Bool :=
  let space := byteAt r 2
  let kind := byteAt r 3
  let base := field r 8 4
  let size := field r 12 4
  let g := groupGranules space false
  let stride := tileStride (byteAt r 16) / 64
  decide (space ≤ 2 ∧ kind ≤ 7 ∧ byteAt r 4 < i.bricks ∧ byteAt r 6 ≤ 7 ∧ byteAt r 7 < groupCount space) &&
    byteAt r 17 == 0 && allZero (slice r 20 12) &&
    (if space = 2 then byteAt r 5 == 0 else decide (byteAt r 5 < (i.clustersOf (byteAt r 4)).length)) &&
    (space == 0 || byteAt r 6 == 0) && (kind != 3 || decide (field r 18 2 < i.tintSlots)) &&
    ((kind != 1 && kind != 2) || space != 0) &&
    (kind != 6 || (size % 1024 == 0 && space == 1 && i.kindOf (i.clusterAt r) == 1)) &&
    (kind != 1 || (decide (byteAt r 16 ≤ 14) && size % 2 == 0 && size / 2 % stride == 0 &&
      size / 2 % (if space = 2 then 64 else 8) == 0 && decide (size ≤ g) &&
      (base == 0xFFFFFFFF || base / g == (base + size - 1) / g)))

/-- A remote window names a Landing window of a stack store, of its format and not smaller (R204). -/
def Image.landingWindow (i : Image) (r : Bytes) : Bool :=
  (i.records 4).any fun y =>
    field y 0 2 == field r 6 2 && byteAt y 3 == 4 && byteAt y 2 == 2 && byteAt y 16 == byteAt r 1 &&
      decide (field r 8 4 ≤ field y 12 4)

/-- A route that a tie-table record names, or 0xFFFF (R256). -/
def Image.routeNamed (i : Image) (n : Nat) : Bool := n == 0xFFFF || decide (n < i.count 8)

/-- Route (R280). -/
def Image.routeOk (i : Image) (r : Bytes) : Bool :=
  let heap := (i.section 8).length
  decide (byteAt r 0 ≤ 3) && bits (byteAt r 1) 5 2 == 0 && decide (field r 2 2 < 8 * i.clusters) &&
    (byteAt r 0 == 2 || field r 4 2 == 0) && decide (byteAt r 7 ≤ 2) && field r 10 2 == 0 && decide (field r 20 2 ≤ 15) &&
    (byteAt r 7 != 2 || field r 8 2 == 0) && decide (field r 24 4 + 8 * field r 22 2 ≤ heap) &&
    decide (field r 28 4 + 2 * field r 20 2 ≤ heap) &&
    (if byteAt r 0 = 3 then decide (byteAt r 6 < 64) else if byteAt r 0 = 2 then decide (byteAt r 6 < 16)
     else decide (byteAt r 6 < i.bricks))

/-- The records of the other sections. -/
def Image.recordOk (i : Image) (t : Nat) (r : Bytes) : Bool :=
  if t = 0x01 then decide (byteAt r 0 < i.bricks ∧ byteAt r 1 ≤ 1) && field r 2 2 == 0
  else if t = 0x02 then decide (field r 0 2 < i.count 3) && field r 2 2 == 0
  else if t = 0x04 then i.regionOk r
  else if t = 0x05 then byteAt r 5 == 0 && field r 8 4 == 0
  else if t = 0x06 then field r 8 4 == 0
  else if t = 0x07 then field r 6 2 == 0
  else if t = 0x08 then i.routeOk r
  else if t = 0x09 then
    decide (byteAt r 6 < 32 ∧ 2 ≤ byteAt r 7 ∧ byteAt r 7 ≤ 8 ∧ field r 8 2 < i.bricks ∧ field r 10 2 < 104) && field r 12 4 == 0
  else if t = 0x0A then
    decide (byteAt r 6 < 64 ∧ byteAt r 7 ≤ 64) && byteAt r 3 == 0 && field r 12 4 == 0 &&
      (field r 8 2 == 0xFFFF || byteAt ((i.records 8).getD (field r 8 2) []) 0 == 2) && i.routeNamed (field r 8 2) &&
      i.routeNamed (field r 10 2)
  else if t = 0x0B then decide (byteAt r 1 ≤ 64) && field r 6 2 == 0
  else if t = 0x0C then
    decide (byteAt r 0 < 64 ∧ byteAt r 1 < 64 ∧ field r 4 2 ≤ 4352 ∧ 1 ≤ byteAt r 6 ∧ byteAt r 6 ≤ 8) && byteAt r 7 == 0
  else if t = 0x0D then
    decide (byteAt r 0 < i.variantCount ∧ byteAt r 1 < 64 ∧ byteAt r 2 < 8 ∧ byteAt r 3 < 28 ∧ field r 4 2 < i.segment ∧
      field r 6 2 < i.count 8 ∧ byteAt r 9 ≤ 8 ∧ field r 10 2 < 512)
  else if t = 0x0E then
    decide (byteAt r 0 < 16 ∧ byteAt r 1 ≤ 14 ∧ field r 12 2 < i.count 8) && field r 14 2 == 0 && i.landingWindow r
  else if t = 0x0F then
    decide (byteAt r 0 < 16 ∧ 0 < field r 4 2 ∧ 0 < field r 8 4 ∧ field r 12 2 < i.count 0x0A ∧ field r 14 2 < i.count 0x0A) &&
      byteAt r 1 == 0 && field r 6 2 == 0
  else if t = 0x13 then
    decide ((byteAt r 0 = 1 ∨ byteAt r 0 = 2) ∧ byteAt r 1 < i.bricks ∧ field r 6 2 ≤ 256 ∧
      field r 4 2 + 2 * field r 6 2 ≤ 513) && byteAt r 3 == 0
  else if t = 0x14 then field r 2 2 == 0 && decide (field r 12 4 + 64 * field r 8 4 ≤ (i.section 0x14).length)
  else true

/-- Variant record `v` (R286), and the Q entry indices of variant `v`. -/
def Image.variantRecord (i : Image) (v : Nat) : Bytes := slice (i.section 0x10) (576 * v) 576
def Image.variantEntries (i : Image) (v : Nat) : List Nat :=
  (splitVecs 2 (8 * i.clusters) ((i.section 0x10).drop (576 * i.variantCount + 16 * i.clusters * v))).map leVal

/-- A variant record: its own number, roles 0 to 3, reserved bytes 0; its entries name instructions of their cores'
blocks. -/
def Image.variantOk (i : Image) (v : Nat) : Bool :=
  let r := i.variantRecord v
  byteAt r 0 == v && allZero (slice r 1 31) && (slice r 64 128).all (fun x => decide (x.toNat ≤ 3)) && allZero (slice r 192 384) &&
    (i.variantEntries v).zipIdx.all fun e => decide (e.1 < (i.blocks.getD (field (i.section 2) (4 * e.2) 2) []).length)

/-! ### Latency items (R154, R185, R287) -/

/-- Store latencies of a stepping (R185): local, cluster, stack. -/
def storeLatency (stepping kind : Nat) : List Nat :=
  if kind = 0 then [3, 4, 5, 6]
  else if kind = 1 then [9, 10, 11, 12, 13, 14, 15, 16]
  else if stepping = 0xA1 then [20, 23, 26, 29, 32, 36, 40, 44]
  else [20, 22, 25, 28, 31, 34, 37, 40]

/-- Latencies of the `fn` functions, and of the V opcodes from 0x20 on (R154): A1, B0. -/
def fnLatency : List (Nat × Nat) :=
  [(11, 9), (11, 9), (12, 10), (12, 10), (8, 7), (8, 7), (14, 12), (14, 12), (14, 12), (14, 12), (14, 12)]
def opLatency : List (Nat × Nat) :=
  [(4, 4), (4, 4), (4, 4), (5, 5), (14, 12), (14, 12), (4, 4), (4, 4), (0, 0), (7, 7), (9, 9), (10, 10), (5, 5), (10, 10),
   (16, 16), (0, 0), (12, 12), (6, 6), (2, 2)]

/-- A known item (R287). -/
def itemKnown (n : Nat) : Bool :=
  decide (n < 4) || decide (0x10 ≤ n ∧ n < 0x18) || decide (0x20 ≤ n ∧ n < 0x28) || n == 0x30 || n == 0x31 ||
    decide (0x40 ≤ n ∧ n ≤ 0x4A) || (decide (0x50 ≤ n ∧ n ≤ 0x62) && n != 0x58 && n != 0x5F) ||
    decide (0x400 ≤ n ∧ n < 0x800)

/-- The actual figure of an item on a stepping; none for a routine, whose occupancy depends on W. -/
def itemActual (stepping n : Nat) : Option Nat :=
  let pick (p : Nat × Nat) : Nat := if stepping = 0xA1 then p.1 else p.2
  if n < 4 then (storeLatency stepping 0)[n]?
  else if 0x10 ≤ n ∧ n < 0x18 then (storeLatency stepping 1)[n - 0x10]?
  else if 0x20 ≤ n ∧ n < 0x28 then (storeLatency stepping 2)[n - 0x20]?
  else if n = 0x30 then some 18
  else if n = 0x31 then some 12
  else if 0x40 ≤ n ∧ n ≤ 0x4A then (fnLatency[n - 0x40]?).map pick
  else if 0x50 ≤ n ∧ n ≤ 0x62 then (opLatency[n - 0x50]?).map pick
  else none

/-- Latency records: item, assumed, slack. -/
def Image.latencies (i : Image) : List (Nat × Nat × Nat) := (i.records 7).map fun r => (field r 0 2, field r 2 2, field r 4 2)

/-- The items that an instruction word uses. -/
def wordItems (w : Nat) : List Nat :=
  let op := bits w 56 8
  if op = 0x28 then [0x40 + bits w 0 4]
  else if 0x20 ≤ op ∧ op ≤ 0x2E then [0x50 + (op - 0x20)]
  else if op = 0x2F then [0x60] else if op = 0x30 then [0x61] else if op = 0x31 then [0x62]
  else if op = 0x03 then [0x400 + bits w 0 10]
  else []

/-- The items that the plan uses: of its instructions, of crossbars where it has routes, of edges where a route runs
between bricks (assumption 38). -/
def Image.itemsUsed (i : Image) : List Nat :=
  (i.blocks.flatMap fun b => b.flatMap wordItems) ++ (if i.count 8 = 0 then [] else [0x31]) ++
    (if (i.records 8).any fun r => byteAt r 0 == 1 then [0x30] else [])

/-- Check 2. -/
def Image.sections (i : Image) : List (Option Refusal3) :=
  let items := i.latencies.map (·.1)
  let all (t : Nat) : Option Refusal3 := firstBad 2 t (i.records t) fun _ r => i.recordOk t r
  [unless_ (i.count 1 == i.clusters && (i.records 1).countP (fun r => byteAt r 1 == 1) == i.headerClusters) 2 rcRangeError
     (siteOf 1 0 0), all 0x01,
   unless_ (i.count 2 == 8 * i.clusters) 2 rcRangeError (siteOf 2 0 0), all 0x02,
   unless_ (i.blocks.length == i.count 3) 2 rcRangeError (siteOf 3 i.blocks.length 0), all 0x04,
   unless_ (pairwise (fun a b => field a 0 2 != field b 0 2) (i.records 4)) 2 rcRangeError (siteOf 4 0 0),
   unless_ ((i.records 4).all (fun r => byteAt r 3 != 1) || (i.records 4).any (fun r => byteAt r 3 == 2)) 2 rcRangeError
     (siteOf 4 0 0),
   unless_ (decide (i.tintSlots ≤ 64 * i.headerClusters)) 2 rcRangeError 0, all 0x07,
   firstBad 2 7 (i.records 7) fun _ r => itemKnown (field r 0 2),
   unless_ (pairwise (· != ·) items && i.itemsUsed.all items.contains) 2 rcRangeError (siteOf 7 0 0),
   unless_ (decide (i.count 8 ≤ 4096)) 2 rcRangeError (siteOf 8 0 0), all 0x08, all 0x09,
   unless_ (decide (i.count 0x0A ≤ 16384)) 2 rcRangeError (siteOf 0x0A 0 0), all 0x0A, all 0x0B, all 0x0C, all 0x0D, all 0x0E, all 0x0F,
   (List.range i.variantCount).find? (fun v => !i.variantOk v) |>.map (fun v => (2, rcRangeError, siteOf 0x10 v 0)),
   all 0x13, all 0x14]

/-! ### Instruction words (R137, R138) -/

/-- The fields of a word. -/
def fieldsOf (w : Nat) : Fields :=
  { dst := bits w 51 5, srcA := bits w 46 5, srcB := bits w 41 5, fmt := bits w 36 5, flags := bits w 32 4, imm := bits w 0 32 }

/-- The shape of an opcode in a plan's code: `ret` stands in routines only (R148). -/
def opcodeShape (op : Nat) : Option Shape :=
  let v (srcB : Use) (flags imm : Nat) : Option Shape := some (vShape srcB flags imm)
  let q (dst srcA srcB : Use) (flags imm : Nat) : Option Shape := some (qShape dst srcA srcB flags imm)
  if op = 0x00 then some (bare allQueues)
  else if op = 0x05 then some (bare engineQueues)
  else if op = 0x01 then some (immOnly allQueues 0x1FFFFF)
  else if op = 0x02 then some (immOnly allQueues 0xFFFF00FF)
  else if op = 0x03 then
    some { queues := engineQueues, fmts := List.range 16, dst := .hod, srcA := .hod, srcB := .hod, flags := 0, imm := allImm }
  else if op = 0x06 then some { bare allQueues with flags := 1 }
  else if op = 0x10 then
    some { queues := aQueues, fmts := [], dst := .num, srcA := .unused, srcB := .unused, flags := 0, imm := 0x8FFFFF00 }
  else if op = 0x11 then
    some { queues := aQueues, fmts := List.range 15, dst := .num, srcA := .unused, srcB := .unused, flags := 15, imm := allImm }
  else if op = 0x12 then
    some { queues := aQueues, fmts := actFmts, dst := .unused, srcA := .hod, srcB := .num, flags := 15, imm := 0xFFFFFF00 }
  else if op = 0x13 then
    some { queues := aQueues, fmts := [0, 2, 15], dst := .hod, srcA := .unused, srcB := .unused, flags := 8, imm := 0x3F }
  else if op ∈ [0x20, 0x21, 0x22, 0x24, 0x26, 0x27] then v .hod 1 0
  else if op = 0x23 then v .hod 1 0x1F
  else if op = 0x25 then v .unused 0 0
  else if op = 0x28 then v .unused 0 0xF
  else if op = 0x29 then v .unused 0 allImm
  else if op = 0x2A then v .unused 1 0xFFFF0000
  else if op = 0x2B ∨ op = 0x2D then v .unused 0 0xFFFF0000
  else if op = 0x2C then v .hod 1 0x3FF
  else if op = 0x2E then v .unused 0 0xFFFF007F
  else if op = 0x2F then some { vShape .unused 0 0 with fmts := [] }
  else if op = 0x30 then v .unused 3 0x1F
  else if op = 0x31 then v .unused 0 0x1F
  else if op = 0x40 then some (mShape moveFmts .hod .unused .num 15 allImm)
  else if op = 0x41 then some (mShape moveFmts .unused .hod .num 15 allImm)
  else if op = 0x42 then some (mShape accFmts .unused .hod .num 15 allImm)
  else if op = 0x43 then some (mShape moveFmts .hod .num .hod 0 allImm)
  else if op = 0x44 then some (mShape moveFmts .num .hod .hod 0 allImm)
  else if op = 0x45 then some (mShape colFmts .unused .hod .hod 0 0xFFF)
  else if op = 0x46 then some (mShape rowFmts .unused .hod .hod 0 0xFFF)
  else if op = 0x47 then some (mShape [] .unused .hod .num 0 allImm)
  else if op = 0x48 then some (mShape [] .unused .hod .num 0 0)
  else if op = 0x50 then some (nShape (List.range 16) .hod .num 9 allImm)
  else if op = 0x51 then some (nShape (List.range 15) .unused .hod 8 allImm)
  else if op = 0x52 then some (nShape [] .unused .unused 0 allImm)
  else if op = 0x53 then some { bare [6, 7] with flags := 3, imm := allImm }
  else if op = 0x54 then some (immOnly [6] 0xFF)
  else if op = 0x60 then q .num .unused .unused 0 0xFFF
  else if op = 0x61 then q .num .num .unused 8 0xFFF
  else if op = 0x62 then q .num .unused .unused 0 allImm
  else if op = 0x63 then q .num .num .unused 0 allImm
  else if op = 0x64 then q .num .num .num 7 0xFFFF
  else if op = 0x65 then q .num .unused .unused 1 0xFFF
  else if op = 0x66 then q .unused .unused .unused 0 0xFFFF01FF
  else if op = 0x67 then q .num .num .unused 0 0x1FFFFFF
  else if op = 0x68 then q .unused .num .unused 1 0x3F
  else if op = 0x69 then q .unused .unused .unused 0 0xFF
  else none

/-- What the rules refuse in the fields of a word, whatever the state (R79, R101, R127, R149, R150, R154, R155, R158). -/
def wordDetail (op : Nat) (f : Fields) : Bool :=
  if op = 0x01 then decide (1 ≤ f.imm ∧ f.imm ≤ 2 ^ 20)
  else if op = 0x10 then decide (f.dst < 8) && (if bit f.imm 31 then bits f.imm 8 8 == 0 else bits f.imm 16 12 == 0)
  else if op = 0x11 then decide (f.dst < 8 ∧ f.flags % 8 ≤ 5)
  else if op = 0x12 then
    decide (f.srcB < 8) && (pathOf f.fmt (mmaWeight f)).isSome &&
      (if mmaTransposed f then transposable.contains (mmaWeight f) else bits f.imm 17 2 == 0)
  else if op = 0x28 then (fnOf f.imm).isSome
  else if op = 0x2A ∨ op = 0x2B ∨ op = 0x2D then chunksOk f
  else if op = 0x2E then chunksOk f && decide (1 ≤ f.imm % 128 ∧ f.imm % 128 ≤ 64)
  else if op = 0x30 then cvtTarget f.imm && (!flagOf f 1 || decide (f.dst ≤ 28))
  else if op = 0x40 ∨ op = 0x41 ∨ op = 0x42 then decide (f.flags % 8 ≤ 5)
  else if op = 0x43 then decide (f.srcA ≤ 25)
  else if op = 0x44 then decide (f.dst ≤ 25)
  else if op = 0x50 then !flagOf f 0 || accFmts.contains f.fmt
  else if op = 0x52 then bits f.imm 0 4 != 0
  else if op = 0x60 then decide (f.dst < 7)
  else if op = 0x61 ∨ op = 0x65 then decide (f.dst < 8)
  else if op = 0x62 ∨ op = 0x63 then decide (f.dst < 16 ∧ f.srcA < 16)
  else if op = 0x64 then decide (f.dst < 8 ∧ f.srcA < 16 ∧ f.srcB < 16)
  else if op = 0x67 then decide (f.dst < 7 ∧ f.dst ≠ 4 ∧ f.srcA < 16)
  else if op = 0x68 then decide (f.srcA < 16)
  else true

/-- The loader accepts an instruction word of a plan, its queue and the addresses apart. -/
def wordOk (w : Nat) : Bool :=
  let f := fieldsOf w
  match opcodeShape (bits w 56 8) with
  | none => false
  | some sh =>
    (if sh.fmts.isEmpty then f.fmt == 0 else sh.fmts.contains f.fmt) && sh.dst.ok f.dst && sh.srcA.ok f.srcA &&
      sh.srcB.ok f.srcB && clearBits f.flags sh.flags == 0 && clearBits f.imm sh.imm == 0 && wordDetail (bits w 56 8) f

end Sys2Proof.Machine
end

