-- ==== Sys2Proof/Machine/Routines.lean ====
section
/-! DEFINITION. Calls of the Pattern Book (R165 to R169, R569): the fixed routines of R168 run wholly at the call (R98 to
R100, R324, R326); a routine that a version's manifest defines opens a frame in which its own instructions follow
(assumption 35). -/

namespace Sys2Proof.Machine

/-! ### The assists over lists of FP32 codes -/

/-- Chunks of 128 lanes. -/
def chunked (n : Nat) (l : List Nat) : List (List Nat) :=
  (List.range (ceilDiv n 128)).map fun i => (l.drop (128 * i)).take 128

/-- The first `n` elements of popped chunks. -/
def present (n : Nat) (cs : List (List Nat)) : List Nat := (cs.flatMap id).take n

/-- An operation on each element, with all its flags. -/
def mapOp (op : Nat → Flagged) (l : List Nat) : List Nat × Nat :=
  let r := l.map op
  (r.map (·.1), flagsOf r)

/-- An operation on two lists. -/
def zipOp (op : Nat → Nat → Flagged) (a b : List Nat) : List Nat × Nat :=
  let r := List.zipWith op a b
  (r.map (·.1), flagsOf r)

/-- c = RNE(1 / n) (R98). -/
def reciprocalOf (flush : Bool) (n : Nat) : Flagged := div32 flush 0x3F800000 (fp32.round false false false n 0 false).1

/-- RMS norm (R98). -/
def rmsNorm (flush : Bool) (n eps : Nat) (x g : List Nat) : List Nat × Nat :=
  let c := reciprocalOf flush n
  let sq := mapOp (fun v => mul32 flush v v) x
  let ss := reduce (add32 flush) (chunked n sq.1)
  let m := mul32 flush ss.1 c.1
  let e := add32 flush m.1 eps
  let r := fn32 flush .rsqrt e.1
  let y := mapOp (fun v => mul32 flush v r.1) x
  let z := zipOp (mul32 flush) y.1 g
  (z.1, c.2 ||| sq.2 ||| ss.2 ||| m.2 ||| e.2 ||| r.2 ||| y.2 ||| z.2)

/-- Layer norm (R98). -/
def layerNorm (flush : Bool) (n eps : Nat) (x g b : List Nat) : List Nat × Nat :=
  let c := reciprocalOf flush n
  let sum := reduce (add32 flush) (chunked n x)
  let mu := mul32 flush sum.1 c.1
  let d := mapOp (fun v => sub32 flush v mu.1) x
  let sq := mapOp (fun v => mul32 flush v v) d.1
  let ss := reduce (add32 flush) (chunked n sq.1)
  let var := mul32 flush ss.1 c.1
  let e := add32 flush var.1 eps
  let r := fn32 flush .rsqrt e.1
  let y := mapOp (fun v => mul32 flush v r.1) d.1
  let z := zipOp (mul32 flush) y.1 g
  let o := zipOp (add32 flush) z.1 b
  (o.1, c.2 ||| sum.2 ||| mu.2 ||| d.2 ||| sq.2 ||| ss.2 ||| var.2 ||| e.2 ||| r.2 ||| y.2 ||| z.2 ||| o.2)

/-- Softmax (R99). -/
def softmax (flush : Bool) (x : List Nat) : List Nat × Nat :=
  let n := x.length
  let m := reduce (max32 flush) (chunked n x)
  if (val32 m.1).isNaN || (val32 m.1).isInf then (List.replicate n fp32.nanCode, m.2 ||| flIV)
  else
    let d := mapOp (fun v => sub32 flush v m.1) x
    let e := mapOp (fn32 flush .exp) d.1
    let t := reduce (add32 flush) (chunked n e.1)
    let q := fn32 flush .recip t.1
    let p := mapOp (fun v => mul32 flush v q.1) e.1
    (p.1, m.2 ||| d.2 ||| e.2 ||| t.2 ||| q.2 ||| p.2)

/-! ### Sampling (R324) -/

/-- a ≥ b, false of a NaN. -/
def atLeast (a b : Nat) : Bool := !(val32 a).isNaN && !(val32 b).isNaN && !(val32 a).less (val32 b)

/-- The shortest prefix whose sum reaches topp: how many, their sum, the flags. -/
def topPrefix (flush : Bool) (topp : Nat) (ps : List Nat) (c keep fl : Nat) : Nat × Nat × Nat :=
  match ps with
  | [] => (keep, c, fl)
  | p :: r =>
    let s := add32 flush c p
    if atLeast s.1 topp then (keep + 1, s.1, fl ||| s.2) else topPrefix flush topp r s.1 (keep + 1) (fl ||| s.2)

/-- The first candidate whose running sum exceeds the target; otherwise the last. -/
def selectAt (flush : Bool) (target : Nat) (l : List (Nat × Nat)) (run fl : Nat) : (Nat × Nat) × Nat :=
  match l with
  | [] => ((0, 0), fl)
  | [a] => let s := add32 flush run a.2; (a, fl ||| s.2)
  | a :: r =>
    let s := add32 flush run a.2
    if (val32 target).less (val32 s.1) then (a, fl ||| s.2) else selectAt flush target r s.1 (fl ||| s.2)

/-- What a tint's step samples with: temperature, TopK, TopP and seed (R324). -/
structure Sampling where
  temperature : Nat
  topk : Nat
  topp : Nat
  seed : Nat
  deriving DecidableEq, Repr

/-- A tint samples greedily. -/
def Sampling.greedy (m : Sampling) : Bool := (val32 m.temperature).isZero

/-- The first-ranked token, its probability 1.0, and the flags. -/
def greedyToken (z : List Nat) : (Nat × Nat) × Nat :=
  let best := (topRank 1 (indexed z)).headD (0, 0)
  let none_ := z.all fun x => (val32 x).isNaN
  ((best.1, 0x3F800000), rankFlags z ||| (if none_ then flIV else 0))

/-- The processed distribution of a step (R324): the candidates kept with their probabilities, their sum, and the
flags. -/
def processed (flush : Bool) (m : Sampling) (z : List Nat) : List (Nat × Nat) × Nat × Nat :=
  let r := fn32 flush .recip m.temperature
  let y := mapOp (fun v => mul32 flush v r.1) z
  let k := if 0 < m.topk then m.topk else if (val32 m.topp).less (val32 0x3F800000) then 64 else z.length
  let cand := if k < z.length then topRank k (indexed y.1) else indexed y.1
  let rank := if k < z.length then rankFlags y.1 else 0
  let p := softmax flush (cand.map (·.2))
  let keep := topPrefix flush m.topp p.1 0 0 0
  (List.zip (cand.map (·.1)) (p.1.take keep.1), keep.2.1, r.2 ||| y.2 ||| rank ||| p.2 ||| keep.2.2)

/-- The selection loop of R324 over candidates whose sum is `c`, with draw 0 of a position and purpose. -/
def choose (flush : Bool) (m : Sampling) (pos purpose c : Nat) (l : List (Nat × Nat)) : (Nat × Nat) × Nat :=
  let target := mul32 flush (draw m.seed pos purpose 0) c
  let s := selectAt flush target.1 l 0 0
  (s.1, target.2 ||| s.2)

/-- The chosen token, its probability, and the flags (R324). -/
def sample (flush : Bool) (m : Sampling) (z : List Nat) (pos purpose : Nat) : (Nat × Nat) × Nat :=
  if m.greedy then greedyToken z
  else
    let d := processed flush m z
    let s := choose flush m pos purpose d.2.1 d.1
    (s.1, d.2.2 ||| s.2)

/-! ### Acceptance (R326) -/

/-- The probability that a processed distribution gives a token. -/
def probOf (l : List (Nat × Nat)) (token : Nat) : Nat := ((l.find? fun e => e.1 == token).map (·.2)).getD 0

/-- The token emitted where a draft is rejected: of the remainders max(0, p̂(cand) − q̂(cand)), or of p̂ where all are
0. -/
def rejected (flush : Bool) (m : Sampling) (pos : Nat) (p : List (Nat × Nat) × Nat × Nat) (q : List (Nat × Nat)) :
    (Nat × Nat) × Nat :=
  let r := p.1.map fun e =>
    let d := sub32 flush e.2 (probOf q e.1)
    (e.1, max32 flush 0 d.1, d.2)
  let fl := r.foldl (fun a e => a ||| e.2.2 ||| e.2.1.2) 0
  let l := r.map fun e => (e.1, e.2.1.1)
  if l.all fun e => (val32 e.2).isZero then
    let s := choose flush m pos 0 p.2.1 p.1
    (s.1, fl ||| s.2)
  else
    let c := foldOp (add32 flush) (0, 0) (l.map (·.2))
    let s := choose flush m pos 0 c.1 l
    (s.1, fl ||| c.2 ||| s.2)

/-- Drafts judged in order from position `pos` = q + i, each with the draft's and the main model's logits; `last` the
main model's after the last. The drafts accepted, the token that follows them, and the flags. -/
def acceptDrafts (flush : Bool) (m : Sampling) (last : List Nat) (pos a : Nat) (l : List (Nat × List Nat × List Nat)) :
    Nat × (Nat × Nat) × Nat :=
  match l with
  | [] => (a, sample flush m last pos 0)
  | (d, zq, zp) :: r =>
    if m.greedy then
      let g := greedyToken zp
      if d = g.1.1 then
        let x := acceptDrafts flush m last (pos + 1) (a + 1) r
        (x.1, x.2.1, g.2 ||| x.2.2)
      else (a, g)
    else
      let p := processed flush m zp
      let q := processed flush m zq
      let x := mul32 flush (draw m.seed pos 1 0) (probOf q.1 d)
      let fl := p.2.2 ||| q.2.2 ||| x.2
      if (val32 x.1).less (val32 (probOf p.1 d)) then
        let y := acceptDrafts flush m last (pos + 1) (a + 1) r
        (y.1, y.2.1, fl ||| y.2.2)
      else
        let y := rejected flush m pos p q.1
        (a, y.1, fl ||| y.2)

/-! ### Calls -/

/-- Routine number and parameter word of a call (R165). -/
def callNumber (f : Fields) : Nat := bits f.imm 0 10
def callWord (f : Fields) : Nat := bits f.imm 10 22

/-- The manifest record of a routine (R569). -/
def State.routineRecord (s : State) (n : Nat) : Option Bytes :=
  let m := s.blob Blob.patternBookManifest
  (splitVecs 48 (m.length / 48) m).find? fun r => field r 0 2 == n

/-- A term of a routine's record for a parameter word (R569): B + ⌈R × W / 256⌉. -/
def termOf (r : Bytes) (offset w : Nat) : Nat := field r offset 4 + ceilDiv (field r (offset + 4) 4 * w) 256
def popsP1 (r : Bytes) (w : Nat) : Nat := termOf r 24 w
def popsP2 (r : Bytes) (w : Nat) : Nat := termOf r 32 w

/-- The queue of a routine: of the fixed ones by R168, of the others by the manifest; 0xFF any queue. -/
def State.routineQueue (s : State) (n : Nat) : Option Nat :=
  if n = 0 then some 0xFF
  else if n ≤ 6 then some 4
  else if (0x10 ≤ n ∧ n ≤ 0x12) ∨ n = 0xFF then some 5
  else if 0x20 ≤ n ∧ n ≤ 0x22 then some 6
  else (s.routineRecord n).map fun r => byteAt r 2

/-- The loader admits the call (R166 to R168): the number is defined, the queue is the routine's, the format is one that
its instructions accept, its queue's scratch hods are empty, and at most one routine calls another. -/
def State.callOk (s : State) (q : Issue) (f : Fields) : Bool :=
  let n := callNumber f
  (s.routineQueue n).any (fun k => k == 0xFF || k == q.queue) && decide ((s.queueOf q).calls.length < 2) &&
    (q.queue != 4 || laneFmts.contains f.fmt) && (n != 0x10 || rowFmts.contains f.fmt) &&
    (n != 0x21 || accFmts.contains f.fmt) && s.scratchEmpty q

/-- Pushes `n` FP32 results as lane vectors; a lane that holds no element is a free value (assumption 35). -/
def State.elementsOut (s : State) (core hod flags n : Nat) (l : List Nat) : State :=
  let free := (List.range (ceilDiv n 128 * 128 - n)).map fun i => (Config.freeWord (s.drawn + i)).toNat % 2 ^ 32
  let s := (s.drew (ceilDiv n 128 * 128 - n)).raise core 4 flags
  (chunked (ceilDiv n 128 * 128) (l ++ free)).foldl (fun s c => s.push core hod (fromLanes c)) s

/-- The entry of an FP32 scalar. -/
def State.scalarIn (s : State) (q : Issue) (hod : Nat) (k : Nat → Nat → State → State) : State :=
  s.popping q.core hod 1 fun es s =>
    let x := widen (s.vFlush q.core) 0 (field (es.headD []) 0 4)
    k x.1 x.2 s

/-- Routine 0x001. -/
def State.callRms (s : State) (q : Issue) (f : Fields) (n : Nat) : State :=
  let fl := s.vFlush q.core
  s.chunksIn q f.srcA f.fmt (ceilDiv n 128) fun x fx s =>
    s.scalarIn q f.srcB fun e fe s =>
      s.chunksIn q f.srcB 0 (ceilDiv n 128) fun g fg s =>
        if n = 0 then s
        else
          let y := rmsNorm fl n e (present n x) (present n g)
          s.elementsOut q.core f.dst (fx ||| fe ||| fg ||| y.2) n y.1

/-- Routine 0x002. -/
def State.callLayer (s : State) (q : Issue) (f : Fields) (n : Nat) : State :=
  let fl := s.vFlush q.core
  s.chunksIn q f.srcA f.fmt (ceilDiv n 128) fun x fx s =>
    s.scalarIn q f.srcB fun e fe s =>
      s.chunksIn q f.srcB 0 (ceilDiv n 128) fun g fg s =>
        s.chunksIn q f.srcB 0 (ceilDiv n 128) fun b fb s =>
          if n = 0 then s
          else
            let y := layerNorm fl n e (present n x) (present n g) (present n b)
            s.elementsOut q.core f.dst (fx ||| fe ||| fg ||| fb ||| y.2) n y.1

/-- Routine 0x003. -/
def State.callSoftmax (s : State) (q : Issue) (f : Fields) (n : Nat) : State :=
  let fl := s.vFlush q.core
  s.chunksIn q f.srcA f.fmt (ceilDiv n 128) fun x fx s =>
    if n = 0 then s
    else
      let y := softmax fl (present n x)
      s.elementsOut q.core f.dst (fx ||| y.2) n y.1

/-- Routine 0x004 over `n` chunks: x₀ and x₁ from P1, cosines and sines from P2. -/
def State.callRope (s : State) (q : Issue) (f : Fields) (n : Nat) : State :=
  match n with
  | 0 => s
  | n + 1 =>
    s.lanesIn q f.srcA f.fmt fun x0 f0 s =>
      s.lanesIn q f.srcA f.fmt fun x1 f1 s =>
        s.lanesIn q f.srcB f.fmt fun c fc s =>
          s.lanesIn q f.srcB f.fmt fun sn fs s =>
            (s.rotateOut q.core f.dst (f0 ||| f1 ||| fc ||| fs) x0 x1 c sn).callRope q f n

/-- The sampling parameters of a parameter entry (R324). -/
def samplingOf (e : Bytes) : Sampling :=
  { temperature := field e 12 4, topk := field e 20 2, topp := field e 16 4, seed := field e 0 8 }

/-- Routine 0x005: logits from P1, the parameter entry from P2, the token entry to P0. -/
def State.callSample (s : State) (q : Issue) (f : Fields) : State :=
  let fl := s.vFlush q.core
  let v := s.reg Reg.vocabularySize
  s.chunksIn q f.srcA f.fmt (ceilDiv v 128) fun z fz s =>
    s.popping q.core f.srcB 1 fun es s =>
      let e := es.headD []
      let r := Sys2Proof.Machine.sample fl (samplingOf e) (present v z) (field e 8 4) 0
      (s.raise q.core 4 (fz ||| r.2)).push q.core f.dst [u32 r.1.1 ++ u32 r.1.2]

/-- The drafts of a round as routine 0x006 pops them from P1 (assumption 35): for each the token entry, the draft's
logits and the main model's. -/
def State.draftsIn (s : State) (q : Issue) (f : Fields) (v n : Nat) (l : List (Nat × List Nat × List Nat)) (fl : Nat)
    (k : List (Nat × List Nat × List Nat) → Nat → State → State) : State :=
  match n with
  | 0 => k l fl s
  | n + 1 =>
    s.popping q.core f.srcA 1 fun es s =>
      s.chunksIn q f.srcA f.fmt (ceilDiv v 128) fun zq fq s =>
        s.chunksIn q f.srcA f.fmt (ceilDiv v 128) fun zp fp s =>
          s.draftsIn q f v n (l ++ [(field (es.headD []) 0 4, present v zq, present v zp)]) (fl ||| fq ||| fp) k

/-- Routine 0x006 (R326): a parameter entry as in R324, its position q and in bytes 22 and 23 the number k of drafts, then
the drafts, then the main model's logits after position q + k; the accepted count and the token that follows go to P0
(assumption 35). -/
def State.callAccept (s : State) (q : Issue) (f : Fields) : State :=
  let fl := s.vFlush q.core
  let v := s.reg Reg.vocabularySize
  s.popping q.core f.srcA 1 fun es s =>
    let e := es.headD []
    s.draftsIn q f v (field e 22 2) [] 0 fun ds fd s =>
      s.chunksIn q f.srcA f.fmt (ceilDiv v 128) fun z fz s =>
        let r := acceptDrafts fl (samplingOf e) (present v z) (field e 8 4 + 1) 0 ds
        (s.raise q.core 4 (fd ||| fz ||| r.2.2)).push q.core f.dst [u32 r.1 ++ u32 r.2.1.1]

/-! ### The routines of the M and N queues (R168) -/

/-- Tile writes of routine 0x010, one address entry each: a K tile's column from one vector, a V tile's row from
four. -/
def State.appendTiles (s : State) (q : Issue) (f : Fields) (row : Bool) (slot n : Nat) : State :=
  match n with
  | 0 => s
  | n + 1 =>
    let k := if row then 4 else 1
    s.popping q.core f.srcA (entriesOf f.fmt k) fun es s =>
      s.popping q.core f.srcB 1 fun ad s =>
        (s.tileWrite q row f.fmt slot .clean ((fromEntries f.fmt k es).flatMap id) (ad.getD 0 [])).appendTiles q f row slot n

/-- Routine 0x010: `wcol` per K tile, then `wrow` per V tile, of slot W. The manifest's terms say how many: `a` vectors
and `b` address entries are b − v columns and v rows, with v = (a − b) / 3. -/
def State.callAppend (s : State) (q : Issue) (f : Fields) (r : Bytes) (w : Nat) : State :=
  let a := popsP1 r w
  let b := popsP2 r w
  let v := (a - b) / 3
  (s.appendTiles q f false w (b - v)).appendTiles q f true w v

/-- The largest power of two of granules that a range of that many granules holds. -/
def powerWithin (granules : Nat) : Nat := if granules = 0 then 0 else Nat.log2 granules

/-- Routine 0x011: an `ldi` loop over index entries of P2, rows to P0, from the region W of the plan. -/
def State.gatherRows (s : State) (q : Issue) (f : Fields) (base w n : Nat) : State :=
  match n with
  | 0 => s
  | n + 1 =>
    s.popping q.core f.srcB 1 fun ix s =>
      let a := base + field (ix.getD 0 []) 0 4 % 2 ^ w * 64
      (s.push q.core f.dst (toEntries f.fmt [s.load a (vecBytes f.fmt)])).gatherRows q f base w n

def State.callGather (s : State) (q : Issue) (f : Fields) (r : Bytes) (w : Nat) : State :=
  match s.regionBase w with
  | none => s
  | some g => if g.isWindow then s else s.gatherRows q f g.base (powerWithin g.size) (popsP2 r w)

/-- Routine 0x020: `sndt` for each address entry of P2 on route W, one tile after another at the route's destination. -/
def State.relayTiles (s : State) (q : Issue) (f : Fields) (route g n : Nat) : State :=
  match n with
  | 0 => s
  | n + 1 =>
    s.popping q.core f.srcB 1 fun es s =>
      (s.sndtEntry q route g f.fmt [] .clean (es.getD 0 [])).relayTiles q f route (g + tileStride f.fmt / 64) n

/-- Routines 0x021 and 0x022: the vectors of P1 as granules on route W, with router addition, or as token records. -/
def State.callSend (s : State) (q : Issue) (f : Fields) (add : Bool) (r : Bytes) (w : Nat) : State :=
  s.popping q.core f.srcA (if add then entriesOf f.fmt (popsP1 r w) else popsP1 r w) fun es s =>
    match s.route w with
    | none => s
    | some t => s.sendRoute q.core w t add 0 es

/-- Routine 0x0FF: the version, and the digest of the manifest. -/
def State.callProbe (s : State) (q : Issue) (f : Fields) : State :=
  s.push q.core f.dst [u32 (s.reg Reg.patternBookVersion) ++ sha3 (s.blob Blob.patternBookManifest)]

/-- The cycles for which a call takes its queue (R165): the manifest's occupancy on this stepping, padded to the plan's
assumption; 2 where neither is given. -/
def State.callCycles (s : State) (n w : Nat) : Nat :=
  let own := (s.routineRecord n).map fun r => termOf r (if s.reg Reg.stepping = 0xA1 then 8 else 16) w
  let plan := (s.plan.running.map fun p => Map.get p.assumed 0 (0x400 + n)).getD 0
  max plan (own.getD 2)

/-- A routine that runs wholly at the call; its instructions are counted, by a number the spec does not give. -/
def State.wholeCall (q : Issue) (cycles : Nat) (t : State) : State :=
  let n := (Config.freeWord t.drawn).toNat % 2 ^ 32
  ((t.drew 1).bumpBy (Reg.instructionsIssued (coreCluster q.core)) n).occupy q cycles

/-- A frame opens: the routine's instructions follow in its queue until its `ret` (R165). -/
def State.openFrame (s : State) (q : Issue) (f : Fields) (n w : Nat) : State :=
  let c : Call := { routine := n, p0 := f.dst, p1 := f.srcA, p2 := f.srcB, fmt := f.fmt, word := w }
  s.setQueueOf q { s.queueOf q with calls := c :: (s.queueOf q).calls }

/-- A routine that the manifest describes runs; of another one a frame opens: nothing says how many vectors it takes. -/
def State.bookRoutine (s : State) (q : Issue) (f : Fields) (n w c : Nat) : State :=
  match s.routineRecord n with
  | some r =>
    if n = 0x10 then State.wholeCall q c (s.callAppend q f r w)
    else if n = 0x11 then State.wholeCall q c (s.callGather q f r w)
    else if n = 0x20 then State.wholeCall q c (s.relayTiles q f w 0 (popsP2 r w))
    else if n = 0x21 then State.wholeCall q c (s.callSend q f true r w)
    else if n = 0x22 then State.wholeCall q c (s.callSend q f false r w)
    else s.openFrame q f n w
  | none => s.openFrame q f n w

/-- The routine runs: the fixed ones that compute, the clearing of a slot, the probe, and those of the manifest. -/
def State.call (s : State) (q : Issue) (f : Fields) : State :=
  let s := s.bump (Reg.calls (coreCluster q.core))
  let n := callNumber f
  let w := callWord f
  let c := s.callCycles n w
  if n = 0 then s.occupy q c
  else if n = 1 then State.wholeCall q c (s.callRms q f w)
  else if n = 2 then State.wholeCall q c (s.callLayer q f w)
  else if n = 3 then State.wholeCall q c (s.callSoftmax q f w)
  else if n = 4 then State.wholeCall q c (s.callRope q f w)
  else if n = 5 then State.wholeCall q c (s.callSample q f)
  else if n = 6 then State.wholeCall q c (s.callAccept q f)
  else if n = 0x12 then State.wholeCall q c (s.clearSlot w)
  else if n = 0xFF then State.wholeCall q c (s.callProbe q f)
  else s.bookRoutine q f n w c

/-- CALL (R165). -/
def execCallRoutine (q : Issue) (f : Fields) (s : State) : Host.Outcome State Fault Refusal :=
  s.instr "CALL" 0x03 q f
    { queues := engineQueues, fmts := List.range 16, dst := .hod, srcA := .hod, srcB := .hod, flags := 0, imm := 0xFFFFFFFF }
    (s.callOk q) fun g s => s.call q g

end Sys2Proof.Machine
end

