-- ==== Sys2Proof/Machine/Units.lean ====
section
/-! DEFINITION. Units in service: spare substitution (R48 to R53), the unit map and its changes (R55 to R58), cluster
retirement (R518). -/

namespace Sys2Proof.Machine

/-! ### Substitution -/

/-- A substitution begins for a core: SpareState 1, SubstitutionStarted with its trigger (R50, R65). -/
def State.startSubstitution (cluster position trigger : Nat) (s : State) : State :=
  let x : Subst :=
    { position := position, trigger := trigger, since := s.time.localCount, copied := 0, portionAt := 0, portion := 0,
      registers := none, deferred := none, others := [] }
  let s := { s with units := { s.units with substitutions := Map.put s.units.substitutions cluster x } }
  (s.setReg (spareReg cluster) 1).notice Note.substitutionStarted (srcCluster cluster)
    (u16 cluster ++ u8 position ++ u8 trigger)

/-- SpareExhausted, at most once per core per epoch interval (R48). -/
def State.noticeExhausted (s : State) (cluster position : Nat) : State :=
  let core := 8 * cluster + position
  if s.units.exhausted.contains core then s
  else
    let s := { s with units := { s.units with exhausted := core :: s.units.exhausted } }
    s.notice Note.spareExhausted (srcCluster cluster) (u16 cluster ++ u8 position)

/-- A further position of a cluster whose substitution is in progress is recorded (R53). -/
def Subst.record (x : Subst) (position : Nat) : Subst :=
  if x.position = position ∨ x.others.contains position then x else { x with others := x.others ++ [position] }

/-- The corrected-error count of a core stands at CorrectedThreshold (R48). -/
def State.atThreshold (s : State) (core : Nat) : Bool :=
  let t := s.reg Reg.correctedThreshold
  t != 0 && decide (t ≤ Map.get s.units.corrected 0 core) && s.clusterOn (coreCluster core)

/-- The governor already holds this core's substitution. -/
def State.thresholdHeld (s : State) (core : Nat) : Bool :=
  s.held.any fun h => h.activity == 3 && h.port == 1 && h.value == core

/-- CORRECTED_THRESHOLD (R48, R53, R520). In Doze no substitution starts: one starts on return to Run if the count
still stands (R53). A core of a cluster whose spare is about to take a position after a hard fault waits for that. -/
def State.thresholdReached (s : State) (cluster position : Nat) : State :=
  let core := 8 * cluster + position
  if s.atThreshold core = false ∨ (s.power.mode ≠ .run ∧ s.power.mode ≠ .hold) then s
  else
    let st := s.reg (spareReg cluster)
    if st = 0 then
      if s.spareTaken cluster || s.thresholdHeld core then s
      else (s.govern 3 1 core (State.startSubstitution cluster position 1)).2
    else if st = 1 then
      match Map.find s.units.substitutions cluster with
      | none => s
      | some x =>
        { s with units := { s.units with substitutions := Map.put s.units.substitutions cluster (x.record position) } }
    else s.noticeExhausted cluster position

/-- The cores whose counts still stand at the threshold where the spare is free start their substitutions on return to
Run (R53). -/
def State.retryThresholds (s : State) : State :=
  s.units.corrected.foldl (fun s e =>
    if s.reg (spareReg (coreCluster e.1)) = 0 then s.thresholdReached (coreCluster e.1) (corePosition e.1) else s) s

def execCorrectedThreshold (cluster position : Nat) (s : State) : Host.Outcome State Fault Refusal :=
  s.onUnit "CORRECTED_THRESHOLD" (clusterOk cluster && positionOk position) (s.thresholdReached cluster position)

/-- The fields of SubstituteCore (R64). -/
def substCluster (v : Nat) : Nat := v / 8
def substPosition (v : Nat) : Nat := v % 8

/-- SubstituteCore's own conditions. -/
def State.judgeSubstitute (v : Nat) (s : State) : Nat :=
  let c := substCluster v
  if 127 < c then rcRangeError
  else if s.clusterOn c = false then rcAbsent
  else if s.reg (spareReg c) ≠ 0 ∨ s.spareTaken c ∨ s.limewash then rcStateRefused
  else rcOk

/-- SUBSTITUTE_CORE. -/
def execSubstituteCore (v : Via) (value : Nat) (s : State) : Host.Outcome State Fault Refusal :=
  s.done (s.writeNumber v 0x9041 0x01 2 value fun s =>
    s.governed (State.judgeSubstitute value) 3 2 value
      (State.startSubstitution (substCluster value) (substPosition value) 2))

/-- Bytes to copy: the local store and both instruction banks (R50). -/
def substBytes (cluster : Nat) : Nat := localBytesOf (8 * cluster) + 0x10000

/-- The store copy of a substitution has ended. -/
def Subst.complete (x : Subst) (cluster : Nat) : Bool := decide (substBytes cluster ≤ x.copied)

/-- Bytes that one course copies at most: its joint, or every cycle of a course without plan work (R50). -/
def State.copyLimit (s : State) : Nat :=
  match s.prog.kind with
  | .work _ => 8192
  | .idle | .slip _ | .rest _ | .grout _ | .lead | .phase | .held => 544 * 256

/-- A portion of the copy in the local course `l`, with what that course may still copy. -/
def Subst.copy (x : Subst) (cluster l limit bytes : Nat) : Subst :=
  let done := if x.portionAt = l then x.portion else 0
  let n := min bytes (limit - done)
  { x with copied := min (substBytes cluster) (x.copied + n), portionAt := l, portion := done + n }

/-- MAINTENANCE_MICROSTEP (R50): a portion of a substitution's copy, from the course after its admission on; none, or
one that meets a rest or a Hold course, is a deferred step (R22, R39). -/
def State.copyPortion (s : State) (cluster bytes : Nat) : State :=
  match Map.find s.units.substitutions cluster with
  | none => s
  | some x =>
    if s.time.localCount ≤ x.since ∨ x.complete cluster then s
    else if s.lowPriorities = false ∨ bytes = 0 then s.bump Reg.maintenanceDeferred
    else
      let x := x.copy cluster s.time.localCount s.copyLimit bytes
      { s with units := { s.units with substitutions := Map.put s.units.substitutions cluster x } }

def execMaintenanceMicrostep (cluster bytes : Nat) (s : State) : Host.Outcome State Fault Refusal :=
  s.onUnit "MAINTENANCE_MICROSTEP" (clusterOk cluster) (s.copyPortion cluster bytes)

/-- The register copy may run: in the joint of the last plan course before a quoin course, unless it was deferred for
that one; with no plan running, in a course after the one in which the store copy ended (R50, R52). -/
def State.registersDue (s : State) (x : Subst) : Bool :=
  if s.prog.running then
    s.prog.kind.executes && s.isQuoin (s.prog.course + 1) && x.deferred != some (s.prog.course + 1)
  else decide (x.portionAt < s.time.localCount)

/-- SUBSTITUTION_REGISTER_COPY (R50, R52): one that does not fit moves the swap to the following quoin course. -/
def State.copyRegisters (s : State) (cluster : Nat) (fits : Bool) : State :=
  match Map.find s.units.substitutions cluster with
  | none => s
  | some x =>
    if x.complete cluster = false ∨ s.registersDue x = false then s
    else if s.lowPriorities && fits then
      let x := { x with registers := some s.time.localCount }
      { s with units := { s.units with substitutions := Map.put s.units.substitutions cluster x } }
    else
      let x := { x with deferred := if s.prog.running then some (s.prog.course + 1) else none }
      ({ s with units := { s.units with substitutions := Map.put s.units.substitutions cluster x } }).bump
        Reg.maintenanceDeferred

def execSubstitutionRegisterCopy (cluster : Nat) (fits : Bool) (s : State) : Host.Outcome State Fault Refusal :=
  s.onUnit "SUBSTITUTION_REGISTER_COPY" (clusterOk cluster) (s.copyRegisters cluster fits)

/-- The spare has taken a position (R50, R54): SpareState 2, Substitutions, SubstitutionDone with the quoin plan course,
or with no plan running the external course. -/
def State.spareTakes (s : State) (cluster position : Nat) : State :=
  let course := if s.prog.running then s.prog.course else s.stamp
  let s := (s.setReg (spareReg cluster) 2).bump Reg.substitutions
  let s := { s with units := { s.units with served := s.units.served ++ [8 * cluster + position] } }
  s.notice Note.substitutionDone (srcCluster cluster) (u16 cluster ++ u8 position ++ u64 course)

/-- The present course is a quoin course of the plan, executed or idled (R58, R284). -/
def State.atQuoin (s : State) : Bool := s.reachedCourses.any s.isQuoin

/-- SUBSTITUTION_SWAP (R50, R52, R53): at a quoin course, or with no plan running at the first course boundary after
the register copy. -/
def State.swapSpare (s : State) (cluster : Nat) : State :=
  match Map.find s.units.substitutions cluster with
  | none => s
  | some x =>
    let time := if s.prog.running then s.atQuoin else x.registers.any fun l => decide (l < s.time.localCount)
    if x.registers.isNone ∨ time = false then s
    else
      let s := { s with units := { s.units with substitutions := Map.drop s.units.substitutions cluster } }
      let s := s.spareTakes cluster x.position
      x.others.foldl (fun s p => s.noticeExhausted cluster p) s

def execSubstitutionSwap (cluster : Nat) (s : State) : Host.Outcome State Fault Refusal :=
  s.onUnit "SUBSTITUTION_SWAP" (clusterOk cluster) (s.swapSpare cluster)

/-- SPARE_FAULT (R53): the substitution in progress is abandoned, the spare has failed. -/
def execSpareFault (cluster : Nat) (s : State) : Host.Outcome State Fault Refusal :=
  s.onUnit "SPARE_FAULT" (clusterOk cluster) (s.abandon cluster 2 3)

/-- Cores of the cluster, other than the one replaced, whose counts stand at the threshold: the spare is now used
(R48). -/
def State.noticeWaitingCores (s : State) (core : Nat) : State :=
  (s.units.corrected.filter fun e => coreCluster e.1 == coreCluster core && e.1 != core && s.atThreshold e.1).foldl
    (fun s e => s.noticeExhausted (coreCluster e.1) (corePosition e.1)) s

/-- No state is copied to a spare after a hard fault (R54): the position's sticky flags are those of the spare, which
are clear, and its local store is as the spare's was filled, with zeros (assumption 34). -/
def State.freshCore (s : State) (core : Nat) : State :=
  let c := coreCluster core
  let s := (List.range 5).foldl (fun s e => s.setReg (flagReg core e) 0) s
  { s with mem := s.mem.clear (moduleAddress 0 (core / 64) (c % 8) (corePosition core) 0) (localBytesOf core) }

/-- The spare of a cluster with a hard fault takes its position where the plan stopped, or at a course boundary with
no plan running (R54): trigger 3. -/
def State.hardSwap (s : State) (core : Nat) : State :=
  let c := coreCluster core
  let s := s.notice Note.substitutionStarted (srcCluster c) (u16 c ++ u8 (corePosition core) ++ u8 3)
  ((s.freshCore core).spareTakes c (corePosition core)).noticeWaitingCores core
def State.doHardSwaps (s : State) : State :=
  let l := s.units.hardSwaps
  l.foldl State.hardSwap { s with units := { s.units with hardSwaps := [] } }

/-! ### The unit map -/

/-- UnitMapDigest (R56). -/
def State.unitMapDigest (s : State) : Bytes := sha3 (slice s.unitMap 2 18)

/-- Removes a cluster from the pending retirements. -/
def State.unpend (s : State) (cluster : Nat) : State :=
  let l := s.units.retiring.filter fun c => c != cluster
  let s := { s with units := { s.units with retiring := l, requested := none } }
  s.setReg Reg.retirePending (l.headD 0xFFFF)

/-- The sticky flags of every engine of a cluster are clear (R107: a retired cluster's entries are Absent). -/
def State.clearClusterFlags (s : State) (cluster : Nat) : State :=
  (List.range 8).foldl (fun s p =>
    (List.range 5).foldl (fun s e => s.setReg (Reg.engineFlags cluster (5 * p + e)) 0) s) s

/-- A cluster leaves the map: its bit clears, SpareState reads 4, its stores lose their contents and its engines'
flags are gone (R57, R61, R107, R518). A substitution in progress in it is dropped with no notice and no count: the
spec names no outcome for it (assumption 34). -/
def State.retire (s : State) (cluster : Nat) : State :=
  let s := { s with units := { s.units with
    clusterMask := clearBits s.units.clusterMask (2 ^ cluster),
    substitutions := Map.drop s.units.substitutions cluster,
    hardSwaps := s.units.hardSwaps.filter fun c => coreCluster c != cluster } }
  let s := ((s.clearClusterFlags cluster).setReg (spareReg cluster) 4).unpend cluster
  let local_ := moduleAddress 0 (cluster / 8) (cluster % 8) 0 0
  let store := moduleAddress 1 (cluster / 8) (cluster % 8) 0 0
  { s with mem := (s.mem.clear local_ (2 ^ 36)).clear store (2 ^ 33) }

/-- The retirements that take effect now: with no plan running every pending one, with one running that against which
it was loaded, at its quoin course (R58, R518). -/
def State.dueRetirements (s : State) : List Nat :=
  if s.prog.running then
    match s.plan.running with
    | none => []
    | some p => if s.atQuoin then p.pendingRetire.toList.filter fun c => s.units.retiring.contains c else []
  else s.units.retiring

/-- UNIT_MAP_CHANGE (R58, R65). -/
def State.changeUnitMap (s : State) : State :=
  let l := s.dueRetirements
  if l.isEmpty then s
  else
    let s := l.foldl State.retire s
    let s := { s with units := { s.units with mapSerial := s.units.mapSerial + 1 } }
    s.notice Note.unitMapChanged srcModule (u32 s.units.mapSerial ++ s.unitMapDigest)

/-- The loaded plan was placed against the pending retirement (R518). -/
def State.loadedAgainst (s : State) (cluster : Nat) : Bool :=
  s.plan.loaded.any fun p => p.pendingRetire == some cluster

/-- RetireCluster's own conditions for a cluster (R518, R527). -/
def State.judgeRetire (v : Nat) (s : State) : Nat :=
  if 128 ≤ v then rcRangeError
  else if s.clusterOn v = false then rcAbsent
  else if s.reg Reg.retirePending ≠ 0xFFFF ∧ s.reg Reg.retirePending ≠ v then rcStateRefused
  else rcOk

/-- RETIRE_CLUSTER past check 9; 0xFFFF cancels. -/
def State.retireRequest (s : State) (v : Nat) : Nat × State :=
  let pending := s.reg Reg.retirePending
  if v = 0xFFFF then
    if pending = 0xFFFF then (rcOk, s)
    else if s.loadedAgainst pending then (rcStateRefused, s)
    else (rcOk, s.unpend pending)
  else if v = pending then (rcOk, s)
  else s.governed (State.judgeRetire v) 4 0 v fun s => s.pendRetirement v

def execRetireCluster (v : Via) (value : Nat) (s : State) : Host.Outcome State Fault Refusal :=
  s.done (s.writeNumber v 0x9020 0x06 2 value fun s => s.retireRequest value)

end Sys2Proof.Machine
end

