-- ==== Sys2Proof/Machine/Placement.lean ====
section
/-! DEFINITION. What the loader makes of an image on this part (R281 to R290): placement, regions, each core's code,
batches, grout, latencies, energy, and the plan that it installs. -/

namespace Sys2Proof.Machine

/-! ### Placement (R283, R518) -/

/-- Enabled clusters of a kind of a physical brick, those pending retirement left out. -/
def State.freeClusters (s : State) (brick kind : Nat) : List Nat :=
  ((List.range 4).map fun i => 8 * brick + 4 * kind + i).filter fun c => s.clusterOn c && !s.units.retiring.contains c

/-- Logical clusters of a kind of a logical brick, ascending. -/
def Image.wanted (i : Image) (brick kind : Nat) : List Nat := (i.clustersOf brick).filter fun c => i.kindOf c == kind

/-- A physical brick covers a logical one. -/
def State.covers (s : State) (i : Image) (logical brick : Nat) : Bool :=
  s.brickOn brick && [0, 1].all fun k => decide ((i.wanted logical k).length ≤ (s.freeClusters brick k).length)

/-- Physical bricks of logical bricks in ascending order, given those taken. -/
def State.placeBricks (s : State) (i : Image) (logical taken : List Nat) : Option (List Nat) :=
  match logical with
  | [] => some taken
  | b :: r =>
    match (List.range 16).find? fun p => !taken.contains p && s.covers i b p with
    | none => none
    | some p => s.placeBricks i r (taken ++ [p])

/-- Physical cluster of a logical cluster, given the bricks. -/
def State.placeCluster (s : State) (i : Image) (bricks : List Nat) (c : Nat) : Nat :=
  let b := byteAt (i.section 1) (4 * c)
  let l := i.wanted b (i.kindOf c)
  (s.freeClusters (bricks.getD b 0) (i.kindOf c)).getD (l.findIdx fun x => x == c) 0

/-- Where the logical units stand: physical bricks and physical clusters. -/
structure Placed where
  bricks : List Nat
  clusters : List Nat
  deriving DecidableEq, Repr

def State.place (s : State) (i : Image) : Option Placed :=
  (s.placeBricks i (List.range i.bricks) []).map fun b => ⟨b, (List.range i.clusters).map (s.placeCluster i b)⟩

/-- The physical cluster of a logical one under the canonical placement. -/
def Image.canonicalCluster (i : Image) (c : Nat) : Nat :=
  let b := byteAt (i.section 1) (4 * c)
  8 * b + 4 * i.kindOf c + (i.wanted b (i.kindOf c)).findIdx fun x => x == c

/-- The actual placement is the canonical one. -/
def Image.isCanonical (i : Image) (p : Placed) : Bool :=
  p.bricks == List.range i.bricks && (List.range i.clusters).all fun c => p.clusters.getD c 0 == i.canonicalCluster c

/-- The placed core of a logical one. -/
def Placed.core (p : Placed) (l : Nat) : Nat := 8 * p.clusters.getD (l / 8) 0 + l % 8

/-! ### Regions (R278, R279) -/

/-- Tile windows, and the regions that hold none but are not raw either: kinds 1 to 4 and 6. -/
def isWindow (kind : Nat) : Bool := decide (1 ≤ kind ∧ kind ≤ 4)

/-- The physical cluster of a region record. -/
def Image.regionCluster (i : Image) (p : Placed) (r : Bytes) : Nat :=
  p.clusters.getD ((i.clustersOf (byteAt r 4)).getD (byteAt r 5) 0) 0

/-- A region of a record at a base granule. -/
def Image.regionAt (i : Image) (p : Placed) (r : Bytes) (granule : Nat) : Region :=
  let space := byteAt r 2
  let brick := p.bricks.getD (byteAt r 4) 0
  let cluster := if space = 2 then 0 else i.regionCluster p r % 8
  let position := if space = 0 then byteAt r 6 else 0
  { id := field r 0 2, space := space, kind := byteAt r 3, brick := brick, cluster := cluster, position := position,
    group := byteAt r 7, granule := granule, size := field r 12 4, fmt := byteAt r 16, slot := field r 18 2,
    base := moduleAddress space brick cluster position (granule * 64) }

/-- Two regions lie in one store instance. -/
def Region.sameStore (a b : Region) : Bool :=
  a.space == b.space && a.brick == b.brick && a.cluster == b.cluster && a.position == b.position

/-- Two regions overlap. -/
def Region.meets (a b : Region) : Bool := a.sameStore b && !apart a.granule a.size b.granule b.size

/-- The handoff region of a cluster store counts as a region already placed (R173). -/
def handoffOf (r : Region) : Region :=
  { r with kind := 6, granule := storeGranules 1 false - 128, size := 128 }

/-- What a region must not overlap in its store. -/
def obstacles (placed : List Region) (r : Region) : List Region :=
  (if r.space = 1 then [handoffOf r] else []) ++ placed.filter r.sameStore

/-- The lowest granule of the named group at which a floating region overlaps nothing already placed. -/
def floatAt (placed : List Region) (r : Region) (start : Nat) : Nat :=
  let obs := obstacles placed r
  let ends := (obs.map fun o => o.granule + o.size).filter fun e => decide (start ≤ e)
  let free := (start :: ends).filter fun g => obs.all fun o => apart g r.size o.granule o.size
  free.foldl min (free.headD start)

/-- Places one region (none: it does not fit its store, or starts beyond its group; a Shared window lies in one group,
R345). -/
def Image.placeRegion (i : Image) (p : Placed) (placed : List Region) (r : Bytes) : Option Region :=
  let space := byteAt r 2
  let header := space == 0 && isHeader (i.regionCluster p r)
  let g := groupGranules space header
  let group := byteAt r 7
  let base := field r 8 4
  let at_ := if base = 0xFFFFFFFF then floatAt placed (i.regionAt p r 0) (group * g) else base
  let x := i.regionAt p r at_
  let inGroup := base != 0xFFFFFFFF || (decide (at_ < (group + 1) * g) && (x.kind != 1 || decide (at_ + x.size ≤ (group + 1) * g)))
  if at_ + x.size ≤ storeGranules space header ∧ inGroup then some x else none

/-- Region records in the order of placement: fixed bases first, then floating ones by ascending id; each with its
record index. -/
def insertById (x : Nat × Bytes) (l : List (Nat × Bytes)) : List (Nat × Bytes) :=
  match l with
  | [] => [x]
  | y :: r => if field x.2 0 2 < field y.2 0 2 then x :: y :: r else y :: insertById x r

def Image.placeOrder (i : Image) : List (Nat × Bytes) :=
  let l := (i.records 4).zipIdx.map fun e => (e.2, e.1)
  let fixed := l.filter fun e => field e.2 8 4 != 0xFFFFFFFF
  let floating := l.filter fun e => field e.2 8 4 == 0xFFFFFFFF
  fixed ++ floating.foldl (fun acc e => insertById e acc) []

/-- Places every region, or names the record that does not fit. -/
def Image.placeRegions (i : Image) (p : Placed) (l : List (Nat × Bytes)) (placed : List Region) : Nat ⊕ List Region :=
  match l with
  | [] => .inr placed
  | (n, r) :: rest =>
    match i.placeRegion p placed r with
    | none => .inl n
    | some x => i.placeRegions p rest (placed ++ [x])

/-- A window that overlaps a window, an adapter region or the handoff region (R188). -/
def windowClash (l : List Region) (r : Region) : Bool :=
  let closed (k : Nat) : Bool := isWindow k || k == 6
  (closed r.kind && r.space == 1 && r.meets (handoffOf r)) ||
    l.any fun o => o.id != r.id && o.meets r && closed o.kind && closed r.kind && (isWindow o.kind || isWindow r.kind)

/-! ### Code (R281, R282) -/

/-- Bits written by a field code. -/
def fieldWidth (f : Nat) : Nat := [32, 25, 16, 12].getD f 0

/-- Granules of the space of a region. -/
def Region.granules (r : Region) : Nat := storeGranules r.space (r.space == 0 && isHeader r.cluster)

/-- A relocated word; none where the result does not fit its field or leaves the region's space. -/
def relocate (w f : Nat) (r : Region) : Option Nat :=
  let n := fieldWidth f
  let v := w % 2 ^ n + r.granule
  if f ≤ 3 ∧ v < 2 ^ n ∧ v % 2 ^ 25 < r.granules then some (w / 2 ^ n * 2 ^ n + v) else none

/-- The value of a patch kind for a logical core. -/
def State.patchValue (s : State) (i : Image) (p : Placed) (kind l : Nat) : Option Nat :=
  if kind = 1 then some (l % 8)
  else if kind = 2 then some (l / 8)
  else if kind = 3 then some (byteAt (i.section 1) (4 * (l / 8)))
  else if kind = 4 then some (p.clusters.getD (l / 8) 0)
  else if kind = 5 then some (s.reg Reg.deviceId)
  else if kind = 6 then some l
  else if kind = 7 then some i.clusters
  else none

/-- A patched word; none for an unknown kind, an argument, or a value that does not fit. -/
def State.patchWord (s : State) (i : Image) (p : Placed) (l w : Nat) (r : Bytes) : Option Nat :=
  let n := fieldWidth (byteAt r 4)
  match s.patchValue i p (byteAt r 5) l with
  | none => none
  | some v => if byteAt r 4 ≤ 3 ∧ field r 6 2 = 0 ∧ v < 2 ^ n then some (w / 2 ^ n * 2 ^ n + v) else none

/-- The records of a section that name an instruction of a block. -/
def sitesOf (l : List Bytes) (block index : Nat) : List Bytes :=
  l.filter fun r => field r 0 2 == block && field r 2 2 == index

/-- A word after the first `n` relocations of the plan. -/
def Image.relocated (i : Image) (regions : List Region) (block index n w : Nat) : Option Nat :=
  (sitesOf ((i.records 5).take n) block index).foldl (fun w r =>
    w.bind fun w =>
      (regions.find? fun x => x.id == field r 6 2).bind fun x => relocate w (byteAt r 4) x) (some w)

/-- A word of a logical core after every relocation and the first `n` patches. -/
def State.patched (s : State) (i : Image) (p : Placed) (regions : List Region) (l block index n w : Nat) : Option Nat :=
  (sitesOf ((i.records 6).take n) block index).foldl (fun w r => w.bind fun w => s.patchWord i p l w r)
    (i.relocated regions block index (i.count 5) w)

/-- An instruction word of a logical core, relocated and then patched. -/
def State.placedWord (s : State) (i : Image) (p : Placed) (regions : List Region) (l block index w : Nat) : Option Nat :=
  s.patched i p regions l block index (i.count 6) w

/-- The instruction word that a relocation or patch record names, as the image holds it. -/
def Image.siteWord (i : Image) (r : Bytes) : Nat := ((i.blocks.getD (field r 0 2) []).getD (field r 2 2) 0)

/-- Two records name one field of one instruction. -/
def sameSite (a b : Bytes) : Bool := field a 0 2 == field b 0 2 && field a 2 2 == field b 2 2 && byteAt a 4 == byteAt b 4

/-- The logical cores that run a code block. -/
def Image.coresOf (i : Image) (block : Nat) : List Nat := (List.range (8 * i.clusters)).filter fun l => field (i.section 2) (4 * l) 2 == block

/-- A site names an instruction that there is. -/
def Image.siteOk (i : Image) (r : Bytes) : Bool := decide (field r 2 2 < ((i.blocks[field r 0 2]?).getD []).length)

/-- Relocation `k` names an instruction and a region, writes a field that no other does, and fits (R281). -/
def Image.relocationOk (i : Image) (regions : List Region) (k : Nat) (r : Bytes) : Bool :=
  i.siteOk r && (regions.any fun y => y.id == field r 6 2) &&
    !((i.records 5).take k).any (sameSite r) &&
    (i.relocated regions (field r 0 2) (field r 2 2) (k + 1) (i.siteWord r)).isSome

/-- Patch `k` names an instruction, writes a field that no relocation and no other patch does, and fits on every core
of its block (R281, R282). -/
def State.patchOk (s : State) (i : Image) (p : Placed) (regions : List Region) (k : Nat) (r : Bytes) : Bool :=
  i.siteOk r && !((i.records 5) ++ (i.records 6).take k).any (sameSite r) &&
    (i.coresOf (field r 0 2)).all fun l =>
      (s.patched i p regions l (field r 0 2) (field r 2 2) (k + 1) (i.siteWord r)).isSome

/-- The code of a logical core, every word placed and legal. -/
def State.coreWords (s : State) (i : Image) (p : Placed) (regions : List Region) (l : Nat) : Option (List Nat) :=
  let block := field (i.section 2) (4 * l) 2
  ((i.blocks.getD block []).zipIdx).foldr (fun e acc =>
    match acc, s.placedWord i p regions l block e.2 e.1 with
    | some r, some w => some (w :: r)
    | _, _ => none) (some [])

/-! ### Checks of a placed word (R144, R204, R218, R256, R306) -/

/-- The opcodes whose immediate is a short address. -/
def addressed (op : Nat) : Bool := [0x11, 0x29, 0x40, 0x41, 0x42, 0x43, 0x44, 0x47].contains op

/-- A plan on its way to be installed, as its addresses are judged: where its bricks lie, its regions, its remote
windows, its initial data. -/
structure Site where
  bricks : List Nat
  regions : List Region
  remotes : List RemoteWindow
  initial : List (Nat × Bytes)
  deriving DecidableEq, Repr

/-- The module address of a short address of a placed core. -/
def Site.expand (x : Site) (core imm bytes : Nat) : Option Nat :=
  expandAddress (fun b => x.bricks[b]?) (landingOfWindow x.remotes x.regions) core imm bytes

/-- Bytes that the access of an instruction word touches from its address on. -/
def accessBytes (op : Nat) (f : Fields) : Nat :=
  if op = 0x11 then tileBytes f.fmt
  else if op = 0x29 then 1044
  else if op = 0x43 then indexedBytes f.srcA f.fmt
  else if op = 0x44 then indexedBytes f.dst f.fmt
  else if op = 0x47 then fillGranules f * 64
  else moveBytes f

/-- The range meets no tile window. -/
def Site.raw (x : Site) (a n : Nat) : Bool := x.regions.all fun r => !r.isWindow || disjoint a n r.base (r.size * 64)

/-- Whole tiles of a window of a format, and of a kind, fill the range (R190). -/
def Site.tiles (x : Site) (a n : Nat) (ok : Region → Bool) : Bool :=
  x.regions.any fun r => r.isWindow && ok r && r.holdsTiles a n

/-- The access that an instruction makes at a short address is one that its region admits (R144, R190). -/
def Site.accessOk (x : Site) (core op imm : Nat) (f : Fields) : Bool :=
  let n := accessBytes op f
  match x.expand core imm n with
  | none => false
  | some a =>
    if op = 0x11 then
      x.regions.any fun r => r.fmt == f.fmt && r.tilesAt a 1 && (r.kind != 1 || decide (a < r.base + r.size * 32))
    else if op = 0x47 then x.raw a n || x.tiles a n fun r => r.kind == 3
    else x.raw a n && (op != 0x29 || bits imm 29 3 == 0)

/-- The exponent of a table whose header the initial data gives (R96). -/
def Site.tableOk (x : Site) (core imm : Nat) : Bool :=
  match x.expand core imm 16 with
  | none => false
  | some a => x.initial.all fun e =>
      !decide (e.1 ≤ a ∧ a + 16 ≤ e.1 + e.2.length) ||
        (let k := byteAt (e.2.drop (a - e.1)) 4; decide (k ≤ 24 ∨ 232 ≤ k))

/-- The opcodes whose Flags [34:32] is a rate code of R149. -/
def rated (op : Nat) : Bool := [0x11, 0x40, 0x41, 0x42].contains op

/-- A word of a placed core's code is one that the loader accepts, whatever queue runs it (R129, R137, R144, R146, R149,
R167, R190, R204, R218, R256, R306). -/
def State.placedOk (s : State) (i : Image) (x : Site) (core w : Nat) : Bool :=
  let op := bits w 56 8
  let f := fieldsOf w
  wordOk w && (!addressed op || (bit w 35 && op != 0x29 && op != 0x43 && op != 0x44) || op == 0x47 || x.accessOk core op f.imm f) &&
    (!rated op || rateOk core (f.flags % 8)) && (op != 0x29 || x.tableOk core f.imm) &&
    (op != 0x02 || (List.range 8).all fun k => !bit f.imm k || hasQueue core k) &&
    (op != 0x03 || (s.routineQueue (callNumber f)).isSome) &&
    (!(op == 0x50 || op == 0x51 || op == 0x52) || decide (f.imm / 2 ^ 20 < i.count 8)) &&
    (op != 0x53 || decide (f.imm % 2 ^ 16 < i.count 0x0A)) &&
    (op != 0x10 || !bit f.imm 31 || decide (bits f.imm 16 12 < i.tintSlots))

/-! ### Loops and branches (R161, R162) -/

/-- First and last index of the loop bodies of a block. -/
def loopBodies (ws : List Nat) : List (Nat × Nat) :=
  ws.zipIdx.filterMap fun e => if bits e.1 56 8 = 0x61 then some (e.2 + 1, e.2 + bits e.1 0 12) else none

/-- An index lies in a body. -/
def inside (b : Nat × Nat) (n : Nat) : Bool := decide (b.1 ≤ n ∧ n ≤ b.2)

/-- Every body within those that enclose its loop, four deep at most; every branch forward, and into or out of no
body. -/
def loopsOk (ws : List Nat) : Bool :=
  let bodies := loopBodies ws
  bodies.all (fun b =>
    bodies.all (fun c => !inside c (b.1 - 1) || decide (b.2 ≤ c.2)) &&
      decide (bodies.countP (fun c => inside c (b.1 - 1)) ≤ 3) && decide (b.2 < ws.length)) &&
    ws.zipIdx.all fun e =>
      bits e.1 56 8 != 0x65 ||
        (decide (e.2 < bits e.1 0 12 ∧ bits e.1 0 12 < ws.length) &&
          bodies.all fun b => inside b e.2 == inside b (bits e.1 0 12))

end Sys2Proof.Machine
end

