-- ==== Sys2Proof/Machine/Records.lean ====
section
/-! DEFINITION. The records of a plan image, placed (R204, R278, R280, R353): routes, trees, ties, levels, neighbours,
landing maps, remote and ingress windows, clearing shares, initial data, grout positions. -/

namespace Sys2Proof.Machine

/-! ### Records -/

/-- A route record, placed (R280). -/
def Image.routeAt (i : Image) (p : Placed) (r : Bytes) : Route :=
  let sec := i.section 8
  let kind := byteAt r 0
  let space := byteAt r 7
  let core := p.core (field r 8 2)
  let brick := if kind = 3 then byteAt r 6 else if space = 2 then p.bricks.getD (byteAt r 6) (byteAt r 6) else core / 64
  let heap := 32 * i.count 8
  let slot (b : Bytes) : RouteSlot :=
    { ordinal := field b 0 2, flit := byteAt b 2, port := byteAt b 3, lane := byteAt b 4, slot := byteAt b 5, offset := byteAt b 6 }
  { kind := kind, fmt := byteAt r 1 % 32, add := bit (byteAt r 1) 7, source := p.core (field r 2 2), destDevice := field r 4 2,
    destBrick := brick, destSpace := space, destCore := if space = 2 then 0 else core, destGranule := field r 12 4,
    tree := field r 16 2, node := field r 18 2,
    relays := (splitVecs 2 (field r 20 2) (sec.drop (heap + field r 28 4))).map leVal,
    slots := (splitVecs 8 (field r 22 2) (sec.drop (heap + field r 24 4))).map slot }

/-- A tree record, and a tie-table record, placed. -/
def Image.treeAt (p : Placed) (r : Bytes) : TreeNode :=
  { tree := field r 0 2, node := field r 2 2, parent := field r 4 2, fmt := byteAt r 6 % 32, inputs := byteAt r 7,
    brick := p.bricks.getD (field r 8 2) 0, port := field r 10 2 }
def Image.tieAt (p : Placed) (r : Bytes) : TieTarget :=
  let core := p.core (field r 4 2)
  { device := field r 0 2, brick := core / 64, core := core, tie := byteAt r 6, offset := byteAt r 7, path := field r 8 2,
    announced := field r 10 2 }

/-- A level record; its links to other modules come from the domain's level trees (R265). -/
def Image.levelAt (p : Placed) (x : Schedule) (r : Bytes) : LevelDecl :=
  let l := byteAt r 0
  let links := x.levels.find? fun e => e.level == l
  { level := l, rho := byteAt r 1, rootBrick := p.bricks.getD (field r 2 2) 0, rootDevice := field r 4 2,
    parent := links.bind (·.parent), children := (links.map (·.children)).getD [] }

/-- The records of the remaining sections. -/
def neighbourOf (r : Bytes) : Neighbour :=
  { port := byteAt r 0, partnerPort := byteAt r 1, partnerDevice := field r 2 2, dmax := field r 4 2, allowance := byteAt r 6 }
def landingOf (r : Bytes) : Landing :=
  { variant := byteAt r 0, port := byteAt r 1, lane := byteAt r 2, slot := byteAt r 3, position := field r 4 2,
    route := field r 6 2, flit := byteAt r 8, delta := byteAt r 9, write := field r 10 2 }
def remoteOf (r : Bytes) : RemoteWindow :=
  { window := byteAt r 0, fmt := byteAt r 1, device := field r 2 2, source := field r 4 2, landing := field r 6 2,
    size := field r 8 4, route := field r 12 2 }
def ingressOf (r : Bytes) : IngressWindow :=
  { window := byteAt r 0, region := field r 2 2, granules := field r 4 2, positions := field r 8 4, counter := field r 12 2,
    credit := field r 14 2 }
def shareOf (p : Placed) (r : Bytes) : Share :=
  { store := byteAt r 0, brick := p.bricks.getD (byteAt r 1) 0, unit := byteAt r 2, first := field r 4 2, count := field r 6 2 }

/-- InitialData: where each record's bytes go (R278); none where its region is not declared or too small. -/
def Image.initialAt (i : Image) (regions : List Region) (r : Bytes) : Option (Nat × Bytes) :=
  match regions.find? fun x => x.id == field r 0 2 with
  | none => none
  | some x =>
    if field r 4 4 + field r 8 4 ≤ x.size then
      some (x.base + 64 * field r 4 4, slice (i.section 0x14) (field r 12 4) (64 * field r 8 4))
    else none

/-- Grout positions of a variant. -/
def Image.groutOf (i : Image) (v : Nat) : List Nat :=
  let n := i.segment / i.grout
  (splitVecs 2 n ((i.section 0x12).drop (2 * n * v))).map leVal

/-- The logical cores of an image. -/
def Image.cores (i : Image) : List Nat := List.range (8 * i.clusters)

/-- The plan's addresses, placed. -/
def Image.site (i : Image) (p : Placed) (regions : List Region) : Site :=
  { bricks := p.bricks, regions := regions, remotes := (i.records 0x0E).map remoteOf,
    initial := (i.records 0x14).filterMap (i.initialAt regions) }

/-- The ingress share has a brick's cycles w with w mod 8 = 7 (R353): it holds a Staging, Shared, ingress or adapter
region. -/
def ingressBrick (regions : List Region) (brick : Nat) : Bool :=
  regions.any fun r => r.brick == brick && [1, 2, 5, 6].contains r.kind

end Sys2Proof.Machine
end

