-- ==== Sys2Proof/Machine/Trace.lean ====
section
/-! DEFINITION. The loader's simulation of a core's queues over one segment (R133 to R136, R141, R146, R160 to R164,
R284): which instruction issues in which plan cycle. Nothing in it depends on data. Cycles are counted over the segment's
plan courses less its grout courses, which have none (R285): 512 a course. -/

namespace Sys2Proof.Machine

/-! ### Sorted lists -/

/-- Inserts before the first element of a larger key. -/
def insertKey {α : Type} (key : α → Nat) (x : α) (l : List α) : List α :=
  match l with
  | [] => [x]
  | y :: r => if key x < key y then x :: y :: r else y :: insertKey key x r

/-- A list in ascending order of a key; equals keep their order. -/
def sortKey {α : Type} (key : α → Nat) (l : List α) : List α := l.foldl (fun acc x => insertKey key x acc) []

/-! ### Costs -/

/-- What an instruction costs its queue: the cycles for which it holds the next issue, those from its issue to its last
effect, and whether a plumb waits for that effect (R135, R146). -/
structure Cost where
  occupies : Nat
  last : Nat
  lands : Bool
  deriving DecidableEq, Repr

/-! ### The simulation -/

/-- A queue: the next instruction and the first cycle in which it may issue, the release list, the plumb at which the
queue is held with the cycle of its arrival, one more than its latest mark, the cycle of its latest landing, that of its
latest effect, and its AO values, each with the cycle from which it holds. -/
structure SimQueue where
  next : Option Nat
  ready : Nat
  released : List Nat
  held : Option (Nat × Nat × Nat)
  mark : Nat
  landed : Nat
  effect : Nat
  ao : List (Nat × Nat)
  deriving DecidableEq, Repr

/-- An instruction that issues: queue, cycle, index in its block, word, AO of its queue, and the cycle before which the
order of completion lets no effect of it land (R136). -/
structure Issued where
  queue : Nat
  cycle : Nat
  index : Nat
  word : Nat
  ao : Nat
  floor : Nat
  deriving DecidableEq, Repr

/-- A core in simulation: queues, sequencer, what has issued (latest first), and the cause of a refusal met. -/
structure Sim where
  queues : Map SimQueue
  seq : Sequencer
  out : List Issued
  bad : Option Nat
  deriving DecidableEq, Repr

/-- An idle queue. -/
def SimQueue.idle (ao : Nat) : SimQueue :=
  { next := none, ready := 0, released := [], held := none, mark := 0, landed := 0, effect := 0, ao := [(0, ao)] }

/-- A sequencer as a launch leaves it (R160, R163). -/
def Sequencer.launched : Sequencer :=
  { counts := [], comparators := [], loops := [], until_ := (0, 0), waits := [], arrivals := [] }

def Sim.queue (s : Sim) (q : Nat) : SimQueue := Map.get s.queues (SimQueue.idle 0) q
def Sim.setQueue (s : Sim) (q : Nat) (x : SimQueue) : Sim := { s with queues := Map.put s.queues q x }

/-- A refusal; the first one stands. -/
def Sim.refuse (s : Sim) (cause : Nat) : Sim := { s with bad := s.bad.or (some cause) }

/-- AO as it holds in a cycle (R145). -/
def SimQueue.aoAt (x : SimQueue) (t : Nat) : Nat := x.ao.foldl (fun a e => if e.1 ≤ t then e.2 else a) 0

/-- What the simulation of a core needs: its code, the placed core, and the segment positions that have plan cycles. -/
structure Course where
  words : List Nat
  core : Nat
  work : List Nat
  deriving DecidableEq, Repr

/-- The end of the segment, in plan cycles. -/
def Course.horizon (c : Course) : Nat := 512 * c.work.length

/-- The segment position of a cycle. -/
def Course.position (c : Course) (t : Nat) : Nat := c.work.getD (t / 512) 0

/-- The cycle of a plan course, by segment position, and a cycle in it: the end of the segment where the course lies
beyond it; none where it is a grout course. -/
def Course.at_ (c : Course) (position cycle : Nat) : Option Nat :=
  if (c.work.getLast?).any fun l => decide (l < position) then some c.horizon
  else (c.work.findIdx? fun p => p == position).map fun i => 512 * i + cycle

/-- The queue that issues next: the one that is ready first, of equals the lowest. -/
def Sim.first (s : Sim) (horizon : Nat) : Option Nat :=
  ((sortKey (fun (q : Nat) => (s.queue q).ready)
    (allQueues.filter fun q => (s.queue q).next.isSome && (s.queue q).held.isNone && decide ((s.queue q).ready < horizon)))).head?

/-- A queue's bundle ends, or its code is at an end: the oldest released bundle follows in the next cycle (R134). -/
def SimQueue.endBundle (x : SimQueue) (t : Nat) : SimQueue :=
  match x.released with
  | [] => { x with next := none, ready := t + 1 }
  | b :: r => { x with next := some b, ready := t + 1, released := r }

/-- A bundle is released to a queue (R134). -/
def SimQueue.release (x : SimQueue) (t bundle : Nat) : SimQueue :=
  if x.next.isNone then { x with next := some bundle, ready := t + 1 } else { x with released := x.released ++ [bundle] }

/-- Queues whose plumb every queue of its mask has reached go on in the cycle after the last arrival (R146). -/
def Sim.releasePlumb (s : Sim) (mark mask : Nat) : Sim :=
  let l := bitList 8 mask
  let here (q : Nat) : Option Nat := (s.queue q).held.bind fun h => if h.1 = mark ∧ h.2.1 = mask then some h.2.2 else none
  if l.all fun q => (here q).isSome then
    let t := (l.filterMap here).foldl max 0
    l.foldl (fun s q => s.setQueue q { s.queue q with held := none, ready := t + 1 }) s
  else s

/-- A queue reaches a plumb; its marks increase (R146). -/
def Sim.plumb (s : Sim) (core q t imm : Nat) : Sim :=
  let x := s.queue q
  let mark := imm / 2 ^ 16
  let mask := imm % 2 ^ 8
  let s := if bit mask q && (bitList 8 mask).all (hasQueue core) && decide (x.mark ≤ mark) then s else s.refuse 9
  (s.setQueue q { x with held := some (mark, mask, max t x.landed), mark := mark + 1 }).releasePlumb mark mask

/-- Q moves on (R161). -/
def Sim.nextQ (s : Sim) (t index : Nat) : Sim :=
  let n := s.seq.loopEnd s.seq.loops (index + 1)
  { s with seq := { s.seq with loops := n.1 } }.setQueue 7 { s.queue 7 with next := some n.2, ready := t + 1 }

/-- A Q instruction (R160 to R164). -/
def Sim.sequence (s : Sim) (c : Course) (t index op : Nat) (f : Fields) : Sim :=
  let goOn : Sim := s.nextQ t index
  if op = 0x60 then
    let x := goOn.queue f.dst
    let s := goOn.setQueue f.dst (x.release t f.imm)
    if hasQueue c.core f.dst && (x.next.isNone || decide (x.released.length < 4)) then s else s.refuse 9
  else if op = 0x61 then
    let n := Map.get s.seq.counts 0 f.srcA
    if n = 0 ∨ f.imm = 0 then s.nextQ t (index + f.imm)
    else
      let l : Loop := { start := index + 1, length := f.imm, left := n, until_ := if flagOf f 3 then some f.dst else none }
      { s with seq := { s.seq with loops := l :: s.seq.loops } }.nextQ t index
  else if op = 0x62 then { goOn with seq := { goOn.seq with counts := Map.set goOn.seq.counts 0 f.dst f.imm } }
  else if op = 0x63 then
    let v := (Map.get goOn.seq.counts 0 f.srcA + f.imm) % 2 ^ 32
    { goOn with seq := { goOn.seq with counts := Map.set goOn.seq.counts 0 f.dst v } }
  else if op = 0x64 then
    let k : Comparator := ⟨f.srcA, f.srcB, f.imm, f.flags % 4, flagOf f 2⟩
    { goOn with seq := { goOn.seq with comparators := Map.set goOn.seq.comparators Comparator.clear f.dst k } }
  else if op = 0x65 then if s.seq.holds f.dst = flagOf f 0 then s.nextQ t (f.imm - 1) else goOn
  else if op = 0x66 then
    match c.at_ (c.position t + f.imm / 2 ^ 16) (f.imm % 512) with
    | none => goOn.refuse 11
    | some u =>
      let s := goOn.setQueue 7 { goOn.queue 7 with ready := u }
      if t < u then s else s.refuse 9
  else if op = 0x67 then
    let v := ofSigned 25 (((Map.get s.seq.counts 0 f.srcA : Nat) : Int) * toSigned 25 f.imm)
    let x := goOn.queue f.dst
    goOn.setQueue f.dst { x with ao := x.ao ++ [(t + 2, v)] }
  else goOn

/-- The instruction of a queue issues. -/
def Sim.issue (s : Sim) (c : Course) (cost : Nat → Nat → Cost) (q : Nat) : Sim :=
  let x := s.queue q
  let t := x.ready
  let index := x.next.getD 0
  match c.words[index]? with
  | none => if q = 7 then s.setQueue q { x with next := none } else (s.setQueue q { x with next := none }).refuse 9
  | some w =>
    let op := bits w 56 8
    let f := fieldsOf w
    let ao := x.aoAt t
    let e : Issued := { queue := q, cycle := t, index := index, word := w, ao := ao, floor := if q < 4 then 0 else x.effect }
    let s := { s with out := e :: s.out }
    let s := if (opcodeShape op).any fun sh => sh.queues.contains q then s else s.refuse 8
    if op = 0x02 then
      (if q = 7 then s.nextQ t index else s.setQueue q { x with next := some (index + 1) }).plumb c.core q t f.imm
    else if op = 0x05 then s.setQueue q (x.endBundle t)
    else if q = 7 ∧ op ≠ 0x01 then s.sequence c t index op f
    else
      let k : Cost := if op = 0x01 then { occupies := f.imm, last := 0, lands := false } else cost w ao
      let e := max (t + k.last) x.effect
      if q = 7 then
        let s := s.nextQ t index
        s.setQueue 7 { s.queue 7 with ready := t + k.occupies }
      else
        s.setQueue q { x with
          next := some (index + 1), ready := t + k.occupies, effect := e,
          landed := if k.lands then max x.landed e else x.landed }

/-- Queues issue until none is left or the segment ends; `fuel` bounds the issues. -/
def Sim.run (s : Sim) (c : Course) (cost : Nat → Nat → Cost) (fuel : Nat) : Sim :=
  match fuel with
  | 0 => s
  | fuel + 1 =>
    if s.bad.isSome then s
    else
      match s.first c.horizon with
      | none => s
      | some q => (s.issue c cost q).run c cost fuel

/-- At the segment's end (R146, R163, R284): no queue but Q is in a bundle, holds a released one or waits at a plumb; Q
does not wait at one; and counts and comparators hold their launch values. -/
def Sim.closed (s : Sim) : Option Nat :=
  if s.bad.isSome then s.bad
  else if allQueues.any fun q => (s.queue q).held.isSome then some 9
  else if engineQueues.any fun q => (s.queue q).next.isSome || !(s.queue q).released.isEmpty then some 11
  else if s.seq.counts.any (fun e => e.2 != 0) || s.seq.comparators.any (fun e => e.2 != Comparator.clear) then some 11
  else none

/-- One segment of a core from its Q entry index, with the AO values that its queues hold. -/
def segmentOf (c : Course) (cost : Nat → Nat → Cost) (entry : Nat) (ao : List Nat) : Sim :=
  let s : Sim := { queues := [], seq := Sequencer.launched, out := [], bad := none }
  let s := allQueues.foldl (fun s q => s.setQueue q (SimQueue.idle (ao.getD q 0))) s
  (s.setQueue 7 { s.queue 7 with next := some entry }).run c cost (8 * c.horizon)

/-- The AO values at the segment's end. -/
def Sim.aoEnd (s : Sim) : List Nat := allQueues.map fun q => ((s.queue q).ao.getLast?.map (·.2)).getD 0

end Sys2Proof.Machine
end

