-- ==== Sys2Proof/Machine/Latency.lean ====
section
/-! DEFINITION. The latencies of a plan's instructions and routes (R154, R157, R185, R186, R219, R287, R288, R569): assumed,
from the image's table under the canonical placement, and actual, from the stepping's figures under the actual one. -/

namespace Sys2Proof.Machine

/-! ### A latency -/

/-- A latency: the items of the table that it rests on, the cycles that the plan assumes, the slack that it allows, and
the cycles that this part takes. -/
structure Lat where
  items : List Nat
  assumed : Nat
  slack : Nat
  actual : Nat
  deriving DecidableEq, Repr

def Lat.none_ : Lat := { items := [], assumed := 0, slack := 0, actual := 0 }

/-- One latency after another. -/
def Lat.plus (a b : Lat) : Lat :=
  { items := a.items ++ b.items, assumed := a.assumed + b.assumed, slack := a.slack + b.slack, actual := a.actual + b.actual }

/-- A latency longer by a number of cycles that is no item's. -/
def Lat.and (a : Lat) (n : Nat) : Lat := { a with assumed := a.assumed + n, actual := a.actual + n }

/-- The longer of two latencies, assumed and actual (R185). -/
def Lat.max (a b : Lat) : Lat :=
  { items := a.items ++ b.items, assumed := Nat.max a.assumed b.assumed,
    slack := if a.assumed < b.assumed then b.slack else a.slack, actual := Nat.max a.actual b.actual }

/-- The cycles in force (R288): padded to the assumption, or with `pin` the actual ones where they are more. -/
def Lat.cycles (a : Lat) (pin : Bool) : Nat := if pin then Nat.max a.assumed a.actual else a.assumed

/-- The plan is refused for this latency (R288). -/
def Lat.exceeds (a : Lat) : Bool := decide (a.assumed + a.slack < a.actual)

/-! ### Distance (R185, R186) -/

/-- The distance of two numbers. -/
def far (a b : Nat) : Nat := (a - b) + (b - a)

/-- The class of a stack group for a core. -/
def stackClass (core group : Nat) : Nat :=
  let c := coreCluster core % 8
  far (c % 4) (group / 4) + far (if c < 4 then 0 else 3) (group % 4) + corePosition core / 4

/-- The latency item of a group of a store for a core. -/
def classItem (core space group : Nat) : Nat :=
  if space = 0 then group else if space = 1 then 0x10 + far (corePosition core) group else 0x20 + stackClass core group

/-- The groups of its store that a range of a module address touches (R184). -/
def groupsAt (a n : Nat) : List Nat :=
  let space := a / 2 ^ 45
  let g := groupGranules space (isHeader (addrCluster a))
  let first := a % 2 ^ 33 / 64 / g
  (List.range ((a % 2 ^ 33 + n - 1) / 64 / g + 1 - first)).map fun i => first + i

/-- Edges between two bricks of a full grid. -/
def gridHops (a b : Nat) : Nat := far (a / 4) (b / 4) + far (a % 4) (b % 4)

/-! ### A plan on its way to be checked -/

/-- An image, the state in which it is checked, and what the loader has made of it: placement, addresses, routes, trees, tie
targets and levels. -/
structure Load where
  state : State
  image : Image
  placed : Placed
  site : Site
  routes : List Route
  trees : List TreeNode
  ties : List TieTarget
  levels : List LevelDecl
  deriving DecidableEq, Repr

/-- The core that a logical core has under the canonical placement. -/
def Load.canonicalCore (x : Load) (l : Nat) : Nat := 8 * x.image.canonicalCluster (l / 8) + l % 8

/-- The logical brick that a physical one serves; one that serves none stands for itself. -/
def Load.logicalBrick (x : Load) (b : Nat) : Nat := if x.placed.bricks.contains b then x.placed.bricks.findIdx fun y => y == b else b

/-- An item's assumed figure and slack in the image's table, and its figure on this stepping for the item that the actual
placement gives. -/
def Load.item (x : Load) (canonical actual : Nat) : Lat :=
  let r := ((x.image.latencies.find? fun e => e.1 == canonical).map (·.2)).getD (0, 0)
  { items := [canonical], assumed := r.1, slack := r.2, actual := (itemActual (x.state.reg Reg.stepping) actual).getD 0 }

/-- A number of edges, by canonical and by actual placement. -/
def Load.edges (x : Load) (canonical actual : Nat) : Lat :=
  let e := x.item 0x30 0x30
  { items := if canonical = 0 ∧ actual = 0 then [] else e.items, assumed := canonical * e.assumed, slack := canonical * e.slack,
    actual := actual * e.actual }

/-- A number of traversals of crossbars, likewise. -/
def Load.crossings (x : Load) (canonical actual : Nat) : Lat :=
  let e := x.item 0x31 0x31
  { items := if canonical = 0 ∧ actual = 0 then [] else e.items, assumed := canonical * e.assumed, slack := canonical * e.slack,
    actual := actual * e.actual }

/-- The edges between two physical bricks. -/
def Load.hops (x : Load) (a b : Nat) : Lat :=
  x.edges (gridHops (x.logicalBrick a) (x.logicalBrick b)) ((x.state.edgePath a b).length - 1)

/-- L of an access of a logical core to a range of a module address (R185, R186). -/
def Load.access (x : Load) (l a n : Nat) : Lat :=
  let own := x.placed.core l
  let space := a / 2 ^ 45
  let one (g : Nat) : Lat := x.item (classItem (x.canonicalCore l) space g) (classItem own space g)
  let d := ((groupsAt a n).map one).foldl Lat.max Lat.none_
  if space = 2 ∧ addrBrick a ≠ own / 64 then d.plus (x.hops (own / 64) (addrBrick a)) else d

/-- The items of a space. -/
def spaceItems (space : Nat) : List Nat :=
  if space = 0 then List.range 4 else (List.range 8).map fun i => 0x10 * space + i

/-- L of an indexed access (R155): the largest latency of its space in the table. -/
def Load.indexed (x : Load) (l a n : Nat) : Lat :=
  let t := x.image.latencies.filter fun e => (spaceItems (a / 2 ^ 45)).contains e.1
  let top := (t.map (·.2.1)).foldl Nat.max 0
  let y := x.access l a n
  let hops : Lat := if a / 2 ^ 45 = 2 ∧ addrBrick a ≠ x.placed.core l / 64 then x.hops (x.placed.core l / 64) (addrBrick a) else Lat.none_
  { items := y.items, assumed := top + hops.assumed, slack := (t.map fun e => e.2.1 + e.2.2).foldl Nat.max 0 - top + hops.slack,
    actual := y.actual }

/-- L of a `wcol` or `wrow` (R156): the largest of the slot's Owned windows that the core reaches, one of which the popped
address names. -/
def Load.window (x : Load) (l slot : Nat) : Lat :=
  let own := x.placed.core l
  let reached (r : Region) : Bool :=
    r.kind == 3 && r.slot == slot &&
      (r.space == 2 || (r.brick == own / 64 && r.cluster == coreCluster own % 8 && (r.space == 1 || r.position == corePosition own)))
  ((x.site.regions.filter reached).map fun r => x.access l r.base (r.size * 64)).foldl Lat.max Lat.none_

/-- Chunks of a multi-chunk V instruction (R153); 0 for the others. -/
def chunkCycles (op : Nat) (f : Fields) : Nat := if [0x2A, 0x2B, 0x2D, 0x2E].contains op then bits f.imm 16 16 else 0

/-- The latency of a V instruction (R154, R287). -/
def Load.glaze (x : Load) (op : Nat) (f : Fields) : Lat :=
  let n := if op = 0x28 then 0x40 + f.imm % 16 else if op < 0x2F then 0x50 + (op - 0x20) else 0x60 + (op - 0x2F)
  (x.item n n).and (chunkCycles op f)

/-- The occupancy of a call (R165, R569). -/
def Load.routine (x : Load) (f : Fields) : Lat :=
  let n := callNumber f
  let own := ((x.state.routineRecord n).map fun r => termOf r (if x.state.reg Reg.stepping = 0xA1 then 8 else 16) (callWord f)).getD 0
  { x.item (0x400 + n) 0 with actual := own }

/-! ### Paths of sends (R216 to R219, R236) -/

/-- A crossbar port, with the three ports of an edge as one (R216). -/
def portGroup (p : Nat) : Nat := if 88 ≤ p ∧ p < 100 then 88 + 3 * ((p - 88) / 3) else p

/-- Where granules stand: a brick, a port of its crossbar, and whether they have crossed to that port's output. -/
structure Stand where
  brick : Nat
  port : Nat
  out : Bool
  deriving DecidableEq, Repr

/-- Granules that stand at the output toward the next brick of their path cross no crossbar before its edge. -/
def Stand.direct (f : Stand) (path : List Nat) : Bool :=
  f.out && ((path.drop 1).head?).any fun b => portGroup f.port == edgePort b f.brick

/-- They stand at a port's output already. -/
def Stand.at_ (f : Stand) (brick port : Nat) : Bool := f.out && f.brick == brick && portGroup f.port == portGroup port

/-- The latency from where granules stand to the output of a port. -/
def Load.leg (x : Load) (f : Stand) (brick port : Nat) : Lat :=
  if f.at_ brick port then Lat.none_
  else
    let path := x.state.edgePath f.brick brick
    let n := if f.direct path then 0 else 1
    let h := gridHops (x.logicalBrick f.brick) (x.logicalBrick brick)
    (x.edges h (path.length - 1)).plus (x.crossings (h + n) (path.length - 1 + n))

/-- The store port of a granule of a route's destination (R216). -/
def Route.storePort (r : Route) (g : Nat) : Nat :=
  if r.destSpace = 0 then corePort r.destCore
  else if r.destSpace = 1 then 64 + coreCluster r.destCore % 8
  else 72 + (r.destGranule + g) / groupGranules 2 false

/-- Where a granule of a route enters its store, and where it leaves the last crossbar of the sender's module: there, or at
the interface of an optical port. -/
def Route.exitStore (r : Route) (g : Nat) : Nat × Nat := (r.destBrick, r.storePort g)
def Route.exit (r : Route) (g port : Nat) : Nat × Nat :=
  if r.kind = 3 then (r.destBrick / 4, 100 + r.destBrick % 4)
  else if r.kind = 2 then (port / 4, 100 + port % 4)
  else r.exitStore g

/-- The nodes of a tree from one on, up to its root; `fuel` bounds their number. -/
def Load.nodesFrom (x : Load) (fuel tree node : Nat) : List TreeNode :=
  match fuel with
  | 0 => []
  | fuel + 1 =>
    match x.trees.find? fun t => t.tree == tree && t.node == node with
    | none => []
    | some t => t :: x.nodesFrom fuel tree t.parent

/-- The nodes that a send on a route passes. -/
def Load.nodesOf (x : Load) (r : Route) (add : Bool) : List TreeNode :=
  if r.tree ≠ 0xFFFF ∧ add then x.nodesFrom 256 r.tree r.node else []

/-- The latency of the legs over the nodes and to the exit, 2 cycles a node. -/
def Load.pathLat (x : Load) (f : Stand) (nodes : List TreeNode) (exit : Nat × Nat) : Lat :=
  match nodes with
  | [] => x.leg f exit.1 exit.2
  | t :: r => ((x.leg f t.brick t.port).and 2).plus (x.pathLat ⟨t.brick, t.port, true⟩ r exit)

/-- The latency of a send of a core on a route, from its port to the exit (R219); on the fabric, to the interface of the
route's first port. -/
def Load.sendPath (x : Load) (l : Nat) (r : Route) (add : Bool) (g : Nat) : Lat :=
  let own := x.placed.core l
  x.pathLat ⟨own / 64, corePort own, false⟩ (x.nodesOf r add) (r.exit g ((r.slots.head?.map (·.port)).getD 0))

/-! ### Instructions -/

/-- The bytes a cycle of a rate code (R149). -/
def rateBytes (code : Nat) : Nat := 32 * 2 ^ code

/-- The rate of the engine that fills at an address (R179). -/
def fillRate (a : Nat) : Nat := if a / 2 ^ 45 = 0 then 128 else if a / 2 ^ 45 = 1 then 256 else 1024

/-- An immediate with its queue's address offset where the instruction adds it (R145, R157). -/
def offsetImm (op : Nat) (f : Fields) (ao : Nat) : Nat :=
  if op = 0x47 ∨ ([0x11, 0x40, 0x41, 0x42].contains op ∧ flagOf f 3) then withOffset f.imm ao else f.imm

/-- The module address that an instruction of a logical core names. -/
def Load.address (x : Load) (l op : Nat) (f : Fields) (ao : Nat) : Option Nat :=
  if addressed op then x.site.expand (x.placed.core l) (offsetImm op f ao) (accessBytes op f) else none

/-- The latency that decides when the effect of an instruction lands; none where no table item does. -/
def Load.latency (x : Load) (l w ao : Nat) : Option Lat :=
  let op := bits w 56 8
  let f := fieldsOf w
  if op = 0x43 ∨ op = 0x44 then (x.address l op f ao).map fun a => x.indexed l a (accessBytes op f)
  else if op = 0x45 ∨ op = 0x46 then some (x.window l (f.imm % 2 ^ 12))
  else if 0x20 ≤ op ∧ op ≤ 0x31 then some (x.glaze op f)
  else if op = 0x03 then some (x.routine f)
  else if op = 0x50 ∨ op = 0x51 then
    (x.routes[sendRouteNo f]?).map fun r => x.sendPath l r (op == 0x50 && flagOf f 0) (f.imm % 2 ^ 20)
  else (x.address l op f ao).map fun a => x.access l a (accessBytes op f)

/-- Granules of a send. -/
def sendCount (op : Nat) (f : Fields) : Nat := if op = 0x51 then tileStride f.fmt / 64 else f.srcB + 1

/-- What an instruction costs its queue (R148, R152, R154, R157, R159, R164). -/
def Load.cost (x : Load) (l w ao : Nat) : Cost :=
  let op := bits w 56 8
  let f := fieldsOf w
  let c := ((x.latency l w ao).map fun y => y.cycles false).getD 0
  let n := accessBytes op f
  let rate := rateBytes (f.flags % 8)
  if op = 0x03 then { occupies := max 1 c, last := c, lands := false }
  else if op = 0x13 then { occupies := 1, last := 2, lands := false }
  else if 0x20 ≤ op ∧ op ≤ 0x31 then { occupies := max 1 (chunkCycles op f), last := c - 1, lands := false }
  else if op = 0x40 then { occupies := 1, last := c + ceilDiv n rate, lands := false }
  else if op = 0x41 ∨ op = 0x42 then { occupies := 1, last := c + ceilDiv n rate, lands := true }
  else if op = 0x43 then { occupies := 1, last := c + 1, lands := false }
  else if op = 0x44 then { occupies := 1, last := c + 1, lands := true }
  else if op = 0x45 ∨ op = 0x46 then { occupies := 1, last := c + 6, lands := true }
  else if op = 0x47 then
    { occupies := 1, last := c + ceilDiv n (fillRate ((x.address l op f ao).getD 0)), lands := true }
  else if op = 0x50 ∨ op = 0x51 then
    { occupies := if op = 0x50 then ceilDiv (sendCount op f) 8 else 1,
      last := 5 + (sendCount op f - 1) / 4 + c, lands := true }
  else { occupies := 1, last := 0, lands := false }

end Sys2Proof.Machine
end

