-- ==== Sys2Proof/Machine/Traffic.lean ====
section
/-! DEFINITION. What a plan's schedule asks of banks, engines, store ports, crossbars, edges and lanes in every plan cycle
(R129, R179, R184, R187, R194 to R198, R216 to R219, R226, R232, R236, R353). -/

namespace Sys2Proof.Machine

/-! ### What is shared -/

/-- A thing that carries so much a cycle: a bank or slice, a fill engine, a core's store port, a crossbar port's input or
output, an edge in one direction, a flit slot of a lane. -/
inductive Resource where
  | bank (store : StoreUnit) (bank : Nat)
  | engine (store : StoreUnit) (group : Nat)
  | storePort (core : Nat)
  | input (brick port : Nat)
  | output (brick port : Nat)
  | edge (fromBrick toBrick : Nat)
  | lane (port lane slot : Nat)
  deriving DecidableEq, Repr

/-- What it carries in one cycle (R129, R179, R187, R217, R220): granules of a bank or a crossbar port, bytes of a store port
or an edge; three crossbar ports serve an edge. -/
def Resource.width (r : Resource) : Nat :=
  match r with
  | .bank (.stack _) _ => 1
  | .bank _ _ => 2
  | .storePort core => if isHeader (coreCluster core) then 1280 else 256
  | .input _ p | .output _ p => if 88 ≤ p ∧ p < 100 then 12 else 4
  | .edge _ _ => 588
  | .engine _ _ | .lane _ _ _ => 1

/-- The bricks in whose ingress share a bank, a crossbar port or an edge lies (R353). -/
def Resource.bricks (r : Resource) : List Nat :=
  match r with
  | .bank (.localStore c) _ => [c / 64]
  | .bank (.cluster c) _ => [c / 8]
  | .bank (.stack b) _ => [b]
  | .input b _ | .output b _ => [b]
  | .edge a b => [a, b]
  | .storePort _ | .engine _ _ | .lane _ _ _ => []

/-- An amount of a resource in a cycle, the stream that it belongs to, and where a refusal points. -/
structure Demand where
  resource : Resource
  cycle : Nat
  amount : Nat
  stream : List Nat
  site : Nat
  deriving DecidableEq, Repr

/-- An instruction that issues: its logical core, where a refusal points, what the simulation says of it, its stream. -/
structure Event where
  core : Nat
  site : Nat
  at_ : Issued
  deriving DecidableEq, Repr

def Event.stream (e : Event) : List Nat := [e.core, e.at_.queue, e.at_.cycle]
def Event.op (e : Event) : Nat := bits e.at_.word 56 8
def Event.fields (e : Event) : Fields := fieldsOf e.at_.word

/-- One pass of a plan through its segment: the variant, the segment positions that have plan cycles, the cores'
simulations, and every instruction that issues. -/
structure Pace where
  variant : Nat
  work : List Nat
  sims : List (Nat × Sim)
  events : List Event
  deriving DecidableEq, Repr

def Pace.horizon (r : Pace) : Nat := 512 * r.work.length
def Pace.position (r : Pace) (t : Nat) : Nat := r.work.getD (t / 512) 0

/-- The plan cycle at which the course of a segment position begins; none for a grout position and beyond the segment. -/
def Pace.begins (r : Pace) (position : Nat) : Option Nat := (r.work.findIdx? fun p => p == position).map fun i => 512 * i

/-! ### Banks (R184, R187, R195) -/

/-- The store of a module address. -/
def storeOf (a : Nat) : StoreUnit :=
  if a / 2 ^ 45 = 0 then .localStore (addrCore a) else if a / 2 ^ 45 = 1 then .cluster (addrCluster a) else .stack (addrBrick a)

/-- Banks of a group of a store. -/
def groupBanks (a : Nat) : Nat :=
  if a / 2 ^ 45 = 0 then (if isHeader (addrCluster a) then 8 else 4) else if a / 2 ^ 45 = 1 then 8 else 64

/-- The bank of a module address. -/
def bankNumber (a : Nat) : Nat :=
  let u := a % 2 ^ 33 / 64
  let n := groupBanks a
  n * (u / groupGranules (a / 2 ^ 45) (isHeader (addrCluster a))) + u % n

/-- A granule reaches its bank. -/
def bankDemand (a cycle : Nat) (stream : List Nat) (site : Nat) : Demand := ⟨.bank (storeOf a) (bankNumber a), cycle, 1, stream, site⟩

/-- A granule that is added takes its bank's whole width for two cycles. -/
def addDemands (a cycle : Nat) (stream : List Nat) (site : Nat) : List Demand :=
  let b := Resource.bank (storeOf a) (bankNumber a)
  [⟨b, cycle, b.width, stream, site⟩, ⟨b, cycle + 1, b.width, stream, site⟩]

/-- A granule is written or added. -/
def landDemands (add : Bool) (a cycle : Nat) (stream : List Nat) (site : Nat) : List Demand :=
  if add then addDemands a cycle stream site else [bankDemand a cycle stream site]

/-! ### Accesses of a core (R129, R149, R155, R186) -/

/-- How an access moves. -/
inductive Access where
  | read | write | add
  deriving DecidableEq, Repr

/-- The cycle in which the first byte of an access passes the core's store port: for a read L + 1 after issue. -/
def Access.portAt (k : Access) (issue latency : Nat) : Nat :=
  match k with
  | .read => issue + latency + 1
  | .write | .add => issue + 1

/-- The cycle in which its first granule is at the bank: for a read the cycle after issue (assumption 6), for a write L
after it leaves. -/
def Access.bankAt (k : Access) (issue latency : Nat) : Nat :=
  match k with
  | .read => issue + 1
  | .write | .add => issue + latency + 1

/-- Bytes of an access cross the edges between the core's brick and another (R186): those of a read in the last cycles
before they arrive, those of a write in the first after they leave. -/
def Load.peerDemands (x : Load) (e : Event) (k : Access) (a passes bytes : Nat) (stream : List Nat) : List Demand :=
  let own := x.placed.core e.core / 64
  if a / 2 ^ 45 = 2 ∧ addrBrick a ≠ own then
    let path := x.state.edgePath own (addrBrick a)
    ((path.zip (path.drop 1)).zipIdx).map fun p =>
      match k with
      | .read => ⟨.edge p.1.2 p.1.1, passes - 18 * (p.2 + 1), bytes, stream, e.site⟩
      | .write | .add => ⟨.edge p.1.1 p.1.2, passes + 18 * p.2, bytes, stream, e.site⟩
  else []

/-- What an access of `n` bytes at a rate asks: bytes of the port and of edges cycle by cycle, each granule's bank in the
cycle of its first byte. -/
def Load.accessDemands (x : Load) (e : Event) (k : Access) (a n rate latency : Nat) : List Demand :=
  let p := k.portAt e.at_.cycle latency
  let bytes (j : Nat) : Nat := min rate (n - j * rate)
  ((List.range (ceilDiv n rate)).flatMap fun j =>
    ⟨.storePort (x.placed.core e.core), p + j, bytes j, e.stream, e.site⟩ :: x.peerDemands e k a (p + j) (bytes j) e.stream) ++
  (List.range (ceilDiv n 64)).flatMap fun g =>
    let t := k.bankAt e.at_.cycle latency + 64 * g / rate
    landDemands (k == .add) (a + 64 * g) (if k = .read then t else max t e.at_.floor) (e.stream ++ [g]) e.site

/-- An access to one vector anywhere in a window: it may meet every bank of the window (R155, R187; assumption 6). -/
def Load.indexedDemands (x : Load) (e : Event) (k : Access) (a n bytes latency : Nat) : List Demand :=
  let p := k.portAt e.at_.cycle latency
  let t := k.bankAt e.at_.cycle latency
  ⟨.storePort (x.placed.core e.core), p, bytes, e.stream, e.site⟩ :: x.peerDemands e k a p bytes e.stream ++
    ((groupsAt a n).flatMap fun g =>
      (List.range (min (groupBanks a) (ceilDiv n 64))).map fun i =>
        let base := a / 2 ^ 33 * 2 ^ 33 + g * groupGranules (a / 2 ^ 45) (isHeader (addrCluster a)) * 64
        bankDemand (max base a + 64 * i) (if k = .read then t else max t e.at_.floor) e.stream e.site)

/-- What a load, a store or a tile fill asks. -/
def Load.moveDemands (x : Load) (pin : Bool) (e : Event) : List Demand :=
  let f := e.fields
  match x.address e.core e.op f e.at_.ao with
  | none => []
  | some a =>
    let n := accessBytes e.op f
    let c := ((x.latency e.core e.at_.word e.at_.ao).map fun y => y.cycles pin).getD 0
    if e.op = 0x11 ∨ e.op = 0x40 then x.accessDemands e .read a n (rateBytes (f.flags % 8)) c
    else if e.op = 0x41 then x.accessDemands e .write a n (rateBytes (f.flags % 8)) c
    else if e.op = 0x42 then x.accessDemands e .add a n (rateBytes (f.flags % 8)) c
    else if e.op = 0x43 then x.indexedDemands e .read a n (vecBytes f.fmt) c
    else if e.op = 0x44 then x.indexedDemands e .write a n (vecBytes f.fmt) c
    else []

/-! ### The fill engines (R179, R196) -/

/-- The engine that fills at an address: one a store, and one a stack group. -/
def engineOf (a : Nat) : Resource := .engine (storeOf a) (if a / 2 ^ 45 = 2 then (groupsAt a 1).headD 0 else 0)

/-- A request in service: its engine, the cycle of its issue, its first and last cycles, address and bytes, and its
event. -/
structure Service where
  engine : Resource
  issue : Nat
  first : Nat
  last : Nat
  address : Nat
  bytes : Nat
  event : Event
  deriving DecidableEq, Repr

/-- An engine serves the next request after those before it: from L + 1 cycles after its issue, or when it is free. -/
def Load.serve (x : Load) (pin : Bool) (l : List Service) (e : Event) : List Service :=
  match x.address e.core e.op e.fields e.at_.ao with
  | none => l
  | some a =>
    let c := ((x.latency e.core e.at_.word e.at_.ao).map fun y => y.cycles pin).getD 0
    let n := accessBytes e.op e.fields
    let free := ((l.filter fun y => y.engine == engineOf a).map fun y => y.last + 1).foldl max 0
    let first := max (e.at_.cycle + c + 1) free
    l ++ [⟨engineOf a, e.at_.cycle, first, first + ceilDiv n (fillRate a) - 1, a, n, e⟩]

/-- The requests of the fills that issue, in order. -/
def Load.services (x : Load) (pin : Bool) (r : Pace) : List Service :=
  (sortKey (fun (e : Event) => e.at_.cycle) (r.events.filter fun e => e.op == 0x47)).foldl (x.serve pin) []

/-- A request finds four in its engine. -/
def fifthRequest (l : List Service) : Option Service :=
  (l.zipIdx.find? fun e =>
    decide (4 ≤ (l.take e.2).countP fun y => y.engine == e.1.engine && decide (e.1.issue ≤ y.last))).map (·.1)

/-- The engine and the banks of a request. -/
def Service.demands (y : Service) : List Demand :=
  (List.range (y.last + 1 - y.first)).map (fun j => ⟨y.engine, y.first + j, 1, y.event.stream, y.event.site⟩) ++
    (List.range (y.bytes / 64)).map fun g =>
      bankDemand (y.address + 64 * g) (y.first + 64 * g / fillRate y.address) (y.event.stream ++ [g]) y.event.site

/-! ### Sends (R217 to R219, R236) -/

/-- Inputs that meet at a tree node: the node, the cycle, the stream of the input, and where a refusal points. -/
structure Meet where
  node : TreeNode
  cycle : Nat
  stream : List Nat
  site : Nat
  deriving DecidableEq, Repr

/-- Granules on their way: demands, meetings at nodes, the latency so far, the stream, and where a refusal points: after a
node, at its record. -/
structure Journey where
  demands : List Demand
  meets : List Meet
  lat : Lat
  stream : List Nat
  site : Nat
  deriving DecidableEq, Repr

/-- The crossbars and edges of a path: into a port, out toward the next brick, over the edge; the last output is left to
the caller. -/
def Load.walk (x : Load) (pin : Bool) (amount site : Nat) (stream : List Nat) (path : List Nat) (into t : Nat) : List Demand :=
  let cross := (x.item 0x31 0x31).cycles pin
  match path with
  | [] => []
  | [b] => [⟨.input b (portGroup into), t, amount, stream, site⟩]
  | a :: b :: r =>
    ⟨.input a (portGroup into), t, amount, stream, site⟩ :: ⟨.output a (edgePort b a), t + cross, amount, stream, site⟩ ::
      ⟨.edge a b, t + cross, 64 * amount, stream, site⟩ ::
      x.walk pin amount site stream (b :: r) (edgePort a b) (t + cross + (x.item 0x30 0x30).cycles pin)

/-- The crossbars and edges of a leg that begins in a cycle, up to its last output. -/
def Load.legDemands (x : Load) (pin : Bool) (amount site : Nat) (stream : List Nat) (f : Stand) (brick port t : Nat) : List Demand :=
  if f.at_ brick port then []
  else
    let path := x.state.edgePath f.brick brick
    match path with
    | a :: b :: r =>
      if f.direct path then
        ⟨.edge a b, t, 64 * amount, stream, site⟩ ::
          x.walk pin amount site stream (b :: r) (edgePort a b) (t + (x.item 0x30 0x30).cycles pin)
      else x.walk pin amount site stream path f.port t
    | _ => x.walk pin amount site stream path f.port t

/-- Granules pass the output of a port. -/
def outputDemand (amount site : Nat) (stream : List Nat) (at_ : Nat × Nat) (t : Nat) : Demand :=
  ⟨.output at_.1 (portGroup at_.2), t, amount, stream, site⟩

/-- A journey before its first leg. -/
def Journey.start (stream : List Nat) (site : Nat) : Journey :=
  { demands := [], meets := [], lat := Lat.none_, stream := stream, site := site }

/-- Granules go over the nodes to the exit from a cycle on; what leaves a node, through the output at which it sits, is one
stream for all its inputs. -/
def Load.journey (x : Load) (pin : Bool) (amount start : Nat) (f : Stand) (nodes : List TreeNode) (exit : Nat × Nat)
    (j : Journey) : Journey :=
  let t := start + j.lat.cycles pin
  match nodes with
  | [] =>
    let lat := j.lat.plus (x.leg f exit.1 exit.2)
    let last := if f.at_ exit.1 exit.2 then [] else [outputDemand amount j.site j.stream exit (start + lat.cycles pin)]
    { j with demands := j.demands ++ x.legDemands pin amount j.site j.stream f exit.1 exit.2 t ++ last, lat := lat }
  | n :: r =>
    let lat := j.lat.plus (x.leg f n.brick n.port)
    let met := start + lat.cycles pin
    let site := siteOf 9 (x.trees.findIdx fun y => y == n) 0
    let stream := [n.tree, n.node, met]
    x.journey pin amount start ⟨n.brick, n.port, true⟩ r exit
      { demands := j.demands ++ x.legDemands pin amount j.site j.stream f n.brick n.port t ++
          [outputDemand amount site stream (n.brick, n.port) (met + 2)],
        meets := j.meets ++ [⟨n, met, j.stream, j.site⟩], lat := lat.and 2, stream := stream, site := site }

/-- What lands of a send: granule of the route, number, cycle, whether it is added. -/
structure Landed where
  route : Route
  granule : Nat
  count : Nat
  cycle : Nat
  add : Bool
  fabric : Bool
  stream : List Nat
  site : Nat
  deriving DecidableEq, Repr

/-- The banks, and for a local store the port, that landed granules take (R217). -/
def Landed.demands (y : Landed) : List Demand :=
  let a := y.route.address y.granule
  (if y.route.destSpace = 0 then [⟨.storePort (addrCore a), y.cycle, 64 * y.count, y.stream, y.site⟩] else []) ++
    (List.range y.count).flatMap fun i => landDemands y.add (y.route.address (y.granule + i)) y.cycle (y.stream ++ [i]) y.site

/-- A flit slot that a send takes: the entry, the segment position, the cycle in which the granules reach the interface. -/
structure Slotted where
  entry : RouteSlot
  position : Nat
  cycle : Nat
  stream : List Nat
  site : Nat
  deriving DecidableEq, Repr

/-- All that the sends of a pass bring; for each flit, where a refusal points and its slot, if its route gives it one. -/
structure Sends where
  demands : List Demand
  meets : List Meet
  landed : List Landed
  slots : List (Nat × Option Slotted)
  deriving DecidableEq, Repr

def Sends.none_ : Sends := { demands := [], meets := [], landed := [], slots := [] }
def Sends.append (a b : Sends) : Sends :=
  { demands := a.demands ++ b.demands, meets := a.meets ++ b.meets, landed := a.landed ++ b.landed, slots := a.slots ++ b.slots }

/-- Group `i` of four granules of send `ordinal` of a route (R219). -/
def Load.sendGroup (x : Load) (pin : Bool) (r : Pace) (e : Event) (y : Route) (ordinal i : Nat) : Sends :=
  let f := e.fields
  let own := x.placed.core e.core
  let add := e.op == 0x50 && flagOf f 0
  let g := (bits f.imm 0 20 + (if flagOf f 3 then e.at_.ao else 0)) % 2 ^ 25 + 4 * i
  let amount := min 4 (sendCount e.op f - 4 * i)
  let start := e.at_.cycle + 2 + i
  let entry := y.slots.find? fun z => z.ordinal == ordinal && z.flit == i
  let exit := y.exit g ((entry.map (·.port)).getD 0)
  let j := x.journey pin amount start ⟨own / 64, corePort own, false⟩ (x.nodesOf y add) exit (.start (e.stream ++ [i]) e.site)
  let out := start + j.lat.cycles pin
  let s : Sends := { Sends.none_ with demands := j.demands, meets := j.meets }
  if y.kind = 2 then
    { s with slots := [(e.site, entry.map fun z => ⟨z, r.position e.at_.cycle + z.offset, out, j.stream, j.site⟩)] }
  else if y.kind = 3 then s
  else { s with landed := [⟨y, g, amount, if j.meets.isEmpty then max (out + 3) e.at_.floor else out + 3, add, false, j.stream, j.site⟩] }

/-- The sends that issue, by cycle. -/
def Pace.sends (r : Pace) : List Event :=
  sortKey (fun (e : Event) => e.at_.cycle) (r.events.filter fun e => e.op == 0x50 || e.op == 0x51)

/-- All sends of a pass; a route's sends are numbered from 0 in the segment (R280). -/
def Load.sends (x : Load) (pin : Bool) (r : Pace) : Sends :=
  let l := r.sends
  l.zipIdx.foldl (fun s e =>
    let n := sendRouteNo e.1.fields
    match x.routes[n]? with
    | none => s
    | some y =>
      let ordinal := (l.take e.2).countP fun z => sendRouteNo z.fields == n
      (List.range (ceilDiv (sendCount e.1.op e.1.fields) 4)).foldl
        (fun s i => s.append (x.sendGroup pin r e.1 y ordinal i)) s) Sends.none_

/-! ### Arrivals from the fabric (R232) -/

/-- The landing-map records of a variant that write on this module, with their numbers, routes and the plan cycles of their
writes. -/
def Load.arrivals (x : Load) (r : Pace) : List (Nat × Bytes × Route × Nat) :=
  (x.image.records 0x0D).zipIdx.filterMap fun e =>
    match x.routes[field e.1 6 2]? with
    | none => none
    | some y =>
      if byteAt e.1 0 = r.variant ∧ y.kind = 2 ∧ y.destDevice = x.state.reg Reg.deviceId then
        (r.begins (field e.1 4 2 + byteAt e.1 9)).map fun t => (e.2, e.1, y, t + field e.1 10 2)
      else none

/-- One of them (R232, R236): into a tree's node from its port's interface, or over crossbars and edges so as to be written in
its write cycle. -/
def Load.arrival (x : Load) (pin : Bool) (e : Nat × Bytes × Route × Nat) : Sends :=
  let y := e.2.2.1
  let t := e.2.2.2
  let port := byteAt e.2.1 1
  let g := 4 * byteAt e.2.1 8
  let site := siteOf 0x0D e.1 0
  let stream := [0x10000, e.1]
  let f : Stand := ⟨port / 4, 100 + port % 4, true⟩
  let exit := y.exitStore g
  match x.nodesOf y y.add with
  | [] =>
    let f : Stand := { f with out := false }
    let c := (x.leg f exit.1 exit.2).cycles pin
    { Sends.none_ with demands := x.legDemands pin 4 site stream f exit.1 exit.2 (t - 3 - c) ++
                         [outputDemand 4 site stream exit (t - 3)],
                       landed := [⟨y, g, 4, t, y.add, true, stream, site⟩] }
  | nodes =>
    let j := x.journey pin 4 t f nodes exit (.start stream site)
    { Sends.none_ with demands := j.demands, meets := j.meets,
                       landed := [⟨y, g, 4, t + j.lat.cycles pin + 3, y.add, true, j.stream, j.site⟩] }

/-! ### Clearing shares (R198) -/

/-- The module address of the store of a share: a cluster by its number among those of its logical brick. -/
def Load.shareBase (x : Load) (y : Share) : Nat :=
  let cluster := x.placed.clusters.getD ((x.image.clustersOf (x.logicalBrick y.brick)).getD y.unit 0) 0
  if y.store = 1 then moduleAddress 1 y.brick (cluster % 8) 0 0 else moduleAddress 2 y.brick 0 0 0

/-- Module addresses of the banks that a share's engine may clear in a reserved cycle: every bank of the groups in which an
Owned window of its store lies (assumption 6). -/
def Load.shareBanks (x : Load) (y : Share) : List Nat :=
  let base := x.shareBase y
  let mine (r : Region) : Bool := r.kind == 3 && storeOf r.base == storeOf base
  let groups := ((x.site.regions.filter mine).flatMap fun r => groupsAt r.base (r.size * 64)).eraseDups
  (groups.filter fun g => y.store == 1 || g == y.unit).flatMap fun g =>
    (List.range (groupBanks base)).map fun i => base + 64 * (g * groupGranules y.store false + i)

/-- The engine and the banks of the reserved cycles of a share, in every course. -/
def Load.shareDemands (x : Load) (r : Pace) (n : Nat) (y : Share) : List Demand :=
  let base := x.shareBase y
  let site := siteOf 0x13 n 0
  let engine := Resource.engine (storeOf base) (if y.store = 2 then y.unit else 0)
  (List.range r.work.length).flatMap fun c => (List.range y.count).flatMap fun k =>
    let t := 512 * c + y.first + 2 * k
    ⟨engine, t, 1, [0x20000, n], site⟩ :: (x.shareBanks y).map fun a => bankDemand a t [0x20000, n] site

/-! ### The accounting (R187, R217, R226, R353) -/

/-- Everything that a pass asks. -/
structure Traffic where
  demands : List Demand
  meets : List Meet
  landed : List Landed
  slots : List (Nat × Option Slotted)
  services : List Service
  deriving DecidableEq, Repr

/-- A lane's flit slot in the course of its position. -/
def Pace.slotDemand (r : Pace) (z : Slotted) : Option Demand :=
  (r.begins z.position).map fun t => ⟨.lane z.entry.port z.entry.lane z.entry.slot, t, 1, z.stream ++ [z.entry.flit], z.site⟩

/-- The traffic of a pass; in later courses of the segment what runs past its end meets its beginning. What several inputs of
a tree share is counted once. -/
def Load.traffic (x : Load) (pin : Bool) (r : Pace) : Traffic :=
  let s := ((x.arrivals r).map (x.arrival pin)).foldl Sends.append (x.sends pin r)
  let services := x.services pin r
  let shares := (x.image.records 0x13).zipIdx.flatMap fun e => x.shareDemands r e.2 (shareOf x.placed e.1)
  let l := r.events.flatMap (x.moveDemands pin) ++ s.demands ++ s.landed.eraseDups.flatMap Landed.demands ++
    s.slots.filterMap (fun z => z.2.bind r.slotDemand) ++ services.flatMap Service.demands ++ shares
  { demands := (l.map fun d => { d with cycle := d.cycle % max 1 r.horizon }).eraseDups, meets := s.meets, landed := s.landed,
    slots := s.slots, services := services }

/-- A resource is asked for more than it carries in a cycle, or used in a cycle of an ingress share (R353). -/
def overloaded (regions : List Region) (l : List Demand) : Option Demand :=
  l.find? fun d =>
    decide (d.resource.width < ((l.filter fun y => y.resource == d.resource && y.cycle == d.cycle).map (·.amount)).foldl (· + ·) 0) ||
      (d.cycle % 8 == 7 && d.resource.bricks.any (ingressBrick regions))

/-- A node whose inputs do not all meet in one cycle (R236), or that sends to an output to which another sends (R217). -/
def badMeet (l : List Meet) : Option Meet :=
  l.find? fun m =>
    ((l.filter fun y => y.node == m.node && y.cycle == m.cycle).map (·.stream)).eraseDups.length != m.node.inputs ||
      l.any fun y => y.node != m.node && y.node.brick == m.node.brick && portGroup y.node.port == portGroup m.node.port &&
        y.cycle == m.cycle

end Sys2Proof.Machine
end

