-- ==== Sys2Proof/Machine/Hods.lean ====
section
/-! DEFINITION. What a plan's schedule asks of a core's hods, arrays and vats (R87, R118, R119, R124 to R127, R139 to R142,
R149 to R151, R153 to R159, R166, R289). -/

namespace Sys2Proof.Machine

/-! ### Hods (R139 to R143) -/

/-- A push or a pop of a hod: in which cycle, how many entries, of which format, by what, and which part of its traffic. -/
structure HodUse where
  hod : Nat
  cycle : Nat
  push : Bool
  count : Nat
  fmt : Nat
  who : List Nat
  part : Nat
  deriving DecidableEq, Repr

/-- Entries that no format is told of: scalars, indices, addresses, and what `.i32` moves (R153, R155). -/
def rawEntry : Nat := 15

/-- A pop of a format accepts an entry of a format (R141). -/
def accepts (want got : Nat) : Bool := want == rawEntry || got == rawEntry || want == got

/-- A pop so many cycles after issue. -/
def Event.pop (e : Event) (hod count fmt after : Nat) : HodUse := ⟨hod, e.at_.cycle + after, false, count, fmt, e.stream, 0⟩

/-- A push so many cycles after issue, held until the effect of the instruction before it (R136). -/
def Event.push (e : Event) (hod count fmt after : Nat) : HodUse :=
  ⟨hod, max (e.at_.cycle + after) e.at_.floor, true, count, fmt, e.stream, 0⟩

/-- Pops of many entries, eight a cycle from the issue on. -/
def Event.popMany (e : Event) (hod n fmt after : Nat) : List HodUse :=
  (List.range (ceilDiv n 8)).map fun j => e.pop hod (min 8 (n - 8 * j)) fmt (after + j)

/-- Pushes of many entries, eight a cycle, the last ones so many cycles after issue. -/
def Event.pushMany (e : Event) (hod n fmt last : Nat) : List HodUse :=
  let m := ceilDiv n 8
  (List.range m).map fun j => e.push hod (min 8 (n - 8 * j)) fmt (last + 1 + j - m)

/-- The pops of a pass (R140, R143, R150): a vector, or a pair of them, in the cycle before its entry. Those of passes that
share a pop are one. -/
def Event.passUses (e : Event) (p : Pass) : List HodUse :=
  let mask := mmaMask e.fields
  let who := if mask = 0 then e.stream else [0x10000, mask, p.start, p.act, p.count, flagNat p.transposed]
  let n := if p.interval = 0 then 1 else entriesOf p.act (if p.transposed then 4 else 1)
  (List.range (if p.interval = 0 then ceilDiv p.count 2 else p.count)).map fun j =>
    ⟨p.hod, p.entry (if p.interval = 0 then 2 * j else j) - 1, false, n, p.act, who, 0⟩

/-- Sources that a V instruction pops once: SrcA, SrcB, and those that its immediate names. -/
def Event.glazePops (e : Event) : List HodUse :=
  let f := e.fields
  let op := e.op
  let n := laneEntries f.fmt
  let a := e.pop f.srcA n f.fmt 0
  let b := if flagOf f 0 then e.pop f.srcB 1 rawEntry 0 else e.pop f.srcB n f.fmt 0
  let c := e.pop (f.imm % 32) n f.fmt 0
  if chunkCycles op f ≠ 0 then (List.range (chunkCycles op f)).map fun j => e.pop f.srcA n f.fmt j
  else if op = 0x2F then [e.pop f.srcA 1 rawEntry 0]
  else if op = 0x23 then [a, b, c]
  else if op = 0x2C then [a, b, c, e.pop (f.imm / 32 % 32) n f.fmt 0]
  else if [0x25, 0x28, 0x29, 0x30, 0x31].contains op then [a]
  else [a, b]

/-- What a V instruction pushes; its entries can be popped from its latency after issue on (R151, R154). -/
def Event.glazePushes (e : Event) (last : Nat) : List HodUse :=
  let f := e.fields
  let op := e.op
  if op = 0x2A ∨ op = 0x2B ∨ op = 0x2D then [e.push f.dst 1 rawEntry last]
  else if op = 0x2E then e.pushMany f.dst (ceilDiv (f.imm % 128) 8) rawEntry last
  else if op = 0x2C then e.pushMany f.dst 16 0 last
  else if op = 0x30 then
    let t := f.imm % 32
    if flagOf f 1 then (List.range 4).map fun i => e.push (f.dst + i) (entriesOf t 1) t last
    else [e.push f.dst (entriesOf t 4) t last]
  else if op = 0x31 then [e.push f.dst (laneEntries f.fmt) f.fmt last, e.push (f.imm % 32) (laneEntries f.fmt) f.fmt last]
  else [e.push f.dst 8 0 last]

/-- Vectors of a move as hod entries: per entry or entries of one vector, or of a pair in a 4-bit format, the number and the
first and last byte. -/
def moveParts (fmt n : Nat) : List (Nat × Nat × Nat) :=
  let v := vecBytes fmt
  if halfEntry fmt then (List.range (ceilDiv n 2)).map fun j => (1, 2 * j * v, min (2 * j + 2) n * v - 1)
  else (List.range n).map fun j => (entriesOf fmt 1, j * v, j * v + v - 1)

/-- Entries of a routine's pops or pushes: vectors of the call's format, lane vectors in V (R569). -/
def routineEntries (queue fmt n : Nat) : Nat := if queue = 4 then n * laneEntries fmt else entriesOf fmt n

/-- The hod traffic of an instruction (R148 to R159). A call pops from its issue on and pushes at the end of its occupancy
(assumption 6). -/
def Load.hodUses (x : Load) (pin : Bool) (e : Event) : List HodUse :=
  let f := e.fields
  let op := e.op
  let c := ((x.latency e.core e.at_.word e.at_.ao).map fun y => y.cycles pin).getD 0
  let rate := rateBytes (f.flags % 8)
  let entries := entriesOf f.fmt 1
  if op = 0x03 then
    match x.state.routineRecord (callNumber f) with
    | none => []
    | some r =>
      let n (offset : Nat) : Nat := routineEntries e.at_.queue f.fmt (termOf r offset (callWord f))
      e.popMany f.srcA (n 24) f.fmt 0 ++ e.popMany f.srcB (n 32) f.fmt 0 ++ e.pushMany f.dst (n 40) f.fmt c
  else if op = 0x12 then e.passUses (passOf f (e.at_.cycle + 2))
  else if op = 0x13 then [e.push f.dst (if f.fmt = 2 then 4 else 8) f.fmt 2]
  else if 0x20 ≤ op ∧ op ≤ 0x31 then e.glazePops ++ e.glazePushes (c - 1)
  else if op = 0x40 then (moveParts f.fmt (f.srcB + 1)).map fun p => e.push f.dst p.1 f.fmt (c + 1 + p.2.2 / rate)
  else if op = 0x41 ∨ op = 0x42 then (moveParts f.fmt (f.srcB + 1)).map fun p => e.pop f.srcA p.1 f.fmt (p.2.1 / rate)
  else if op = 0x43 then [e.pop f.srcB 1 rawEntry 0, e.push f.dst entries f.fmt (c + 1)]
  else if op = 0x44 then [e.pop f.srcA entries f.fmt 0, e.pop f.srcB 1 rawEntry 0]
  else if op = 0x45 then [e.pop f.srcA entries f.fmt 0, e.pop f.srcB 1 rawEntry 0]
  else if op = 0x46 then [e.pop f.srcA (entriesOf f.fmt 4) f.fmt 0, e.pop f.srcB 1 rawEntry 0]
  else if op = 0x47 ∨ op = 0x48 then [e.pop f.srcA 1 rawEntry 0]
  else if op = 0x50 then e.popMany f.srcA (f.srcB + 1) rawEntry 0
  else if op = 0x51 then [e.pop f.srcB 1 rawEntry 0]
  else []

/-- A hod takes a push or gives a pop: its entries' formats, oldest first; none where it is refused. -/
def hodStep (u : HodUse) (h : Option (List Nat)) : Option (List Nat) :=
  h.bind fun l =>
    if u.push then (if l.length + u.count ≤ 64 then some (l ++ List.replicate u.count u.fmt) else none)
    else if u.count ≤ l.length ∧ (l.take u.count).all (accepts u.fmt) then some (l.drop u.count)
    else none

/-- The traffic of one hod in order: within a cycle pops act before pushes. -/
def hodOrder (l : List HodUse) (h : Nat) : List HodUse :=
  sortKey (fun (u : HodUse) => 2 * u.cycle + flagNat u.push) (l.filter fun u => u.hod == h)

/-- One instruction pushes a hod and one pops it in a cycle, at most eight entries each (R139, R140). -/
def hodAlone (l : List HodUse) : Bool :=
  l.all fun u =>
    let same := l.filter fun y => y.hod == u.hod && y.cycle == u.cycle && y.push == u.push
    same.all (fun y => y.who == u.who) && decide ((same.map (·.count)).foldl (· + ·) 0 ≤ 8)

/-- No hod of a core is popped empty or of another format, or pushed full; the entries that each ends with. -/
def hodsRun (l : List HodUse) : Option (List (List Nat)) :=
  (List.range 32).foldr (fun h acc =>
    match acc, (hodOrder l h).foldl (fun a u => hodStep u a) (some []) with
    | some r, some y => some (y :: r)
    | _, _ => none) (some [])

/-- Entries in a hod after a cycle. -/
def entriesAfter (l : List HodUse) (h t : Nat) : Int :=
  (l.filter fun u => u.hod == h && decide (u.cycle ≤ t)).foldl (fun n u => if u.push then n + u.count else n - u.count) 0

/-- The plan's code leaves its queue's scratch hods empty at a call (R166). -/
def scratchKept (l : List HodUse) (e : Event) : Bool :=
  e.op != 0x03 || (scratchHods e.at_.queue).all fun h => entriesAfter (l.filter fun u => u.who != e.stream) h e.at_.cycle == 0

/-- The parts of one instruction's traffic, numbered. -/
def numbered (l : List HodUse) : List HodUse := l.zipIdx.map fun e => { e.1 with part := e.2 }

/-- The hod traffic of a core; a shared pop is one. -/
def Load.coreUses (x : Load) (pin : Bool) (l : List Event) : List HodUse :=
  (l.flatMap fun e => numbered (x.hodUses pin e)).eraseDups

/-! ### Passes and fills of an array (R118, R119, R149) -/

/-- The passes that an array opens, in order, and its fills. -/
def passesIn (l : List Event) (queue : Nat) : List (Event × Pass) :=
  (l.filter fun e => e.at_.queue == queue && e.op == 0x12).map fun e => (e, passOf e.fields (e.at_.cycle + 2))
def fillsIn (l : List Event) (queue : Nat) : List Event := l.filter fun e => e.at_.queue == queue && e.op == 0x11

/-- A pass's first entry comes an interval after the last entry of the pass before it, and a front at least 3 cycles after
the front before it (R118). -/
def spaced (l : List Pass) : Bool :=
  let fresh := l.filter fun p => p.fresh
  ((l.zip (l.drop 1)).all fun e => decide (e.1.entry (e.1.count - 1) + max 1 e.1.interval ≤ e.2.start)) &&
    (fresh.zip (fresh.drop 1)).all fun e => decide (e.1.start + 3 ≤ e.2.start)

/-- The cycle in which a byte of a fill arrives. -/
def Load.fillByte (x : Load) (pin : Bool) (e : Event) (n : Nat) : Nat :=
  let c := ((x.latency e.core e.at_.word e.at_.ao).map fun y => y.cycles pin).getD 0
  e.at_.cycle + c + 1 + n / rateBytes (e.fields.flags % 8)

/-- A fill serves its front: every row after the front before it and before its own, the last byte by F + 29 (R119). -/
def Load.fillServes (x : Load) (pin : Bool) (e : Event) (front : Nat) (before : Option Nat) : Bool :=
  let fmt := e.fields.fmt
  let head := 8 + stripLen fmt
  decide (x.fillByte pin e (tileBytes fmt - 1) ≤ front + 29) &&
    (List.range 32).all fun k =>
      decide (x.fillByte pin e (head + packedLen fmt (128 * (k + 1)) - 1) + 1 ≤ front + k) &&
        before.all fun b => decide (b + k + 1 ≤ x.fillByte pin e (head + packedLen fmt (128 * k + 1) - 1))

/-- Every fill serves its front, and at most eight of an array are in progress at once. -/
def Load.fillsServe (x : Load) (pin : Bool) (fills : List Event) (fronts : List Nat) : Bool :=
  (((fills.zip fronts).zipIdx).all fun e =>
    x.fillServes pin e.1.1 e.1.2 (if e.2 = 0 then none else fronts[e.2 - 1]?)) &&
    fills.all fun e => decide ((fills.filter fun y =>
      decide (y.at_.cycle ≤ e.at_.cycle ∧ e.at_.cycle ≤ x.fillByte pin y (tileBytes y.fields.fmt - 1))).length ≤ 8)

/-! ### The vat (R87, R124 to R126, R151) -/

/-- What happens to the type of a vat row: an addition of a type, which opens the row or accumulates, or a read that marks
it unopened. -/
structure RowEvent where
  cycle : Nat
  row : Nat
  opens : Bool
  type : Option Bool
  deriving DecidableEq, Repr

/-- The first additions of a pass to its rows. -/
def passRows (p : Pass) : List RowEvent :=
  (List.range p.count).map fun v => ⟨p.addedAt v 0, p.row v, p.writes v, some (intPairing p.act p.wt)⟩

/-- The row events of an array in order. -/
def rowEvents (l : List Event) (queue : Nat) : List RowEvent :=
  let reads := l.filter fun e => e.at_.queue == queue && e.op == 0x13 && flagOf e.fields 3
  sortKey (·.cycle) ((passesIn l queue).flatMap (fun e => passRows e.2) ++
    reads.map fun e => ⟨e.at_.cycle + 1, e.fields.imm % 64, false, none⟩)

/-- The type of a row after events: none while it is unopened. -/
def typeAfter (l : List RowEvent) (row : Nat) : Option Bool :=
  (l.filter fun y => y.row == row).foldl (fun t y => if y.opens ∨ t.isNone ∨ y.type.isNone then y.type else t) none

/-- An accumulating addition meets a row of its own type (R87). -/
def addsAgree (l : List RowEvent) : Bool :=
  l.zipIdx.all fun e =>
    e.1.opens || e.1.type.isNone ||
      match typeAfter (l.take e.2) e.1.row with
      | none => true
      | some t => some t == e.1.type

/-- A readout names its row's type as it is seen then, and marks no row unopened to which an addition is to come (R151). -/
def readAgrees (l : List Event) (queue : Nat) (e : Event) : Bool :=
  let f := e.fields
  let now := e.at_.cycle + 1
  let seen := (rowEvents l queue).filter fun y => decide (y.cycle + (if y.type.isSome then 2 else 1) ≤ now)
  (match typeAfter seen (f.imm % 64) with
    | none => true
    | some t => t == (f.fmt == 15)) &&
    (!flagOf f 3 || (passesIn l queue).all fun p => decide (e.at_.cycle < p.1.at_.cycle) || !p.2.addsTo (f.imm % 64) now)

/-- The vat checks of an array. -/
def vatAgrees (l : List Event) (queue : Nat) : Bool :=
  addsAgree (rowEvents l queue) && (l.filter fun e => e.at_.queue == queue && e.op == 0x13).all (readAgrees l queue)

/-! ### Array energy (R289) -/

/-- Cycles of a course, by its number among those with plan cycles, in which an array starts a product. -/
def busyCycles (l : List Pass) (course : Nat) : Nat :=
  if l.isEmpty then 0
  else
    (List.range 512).countP fun c =>
      l.any fun p => (List.range p.count).any fun v =>
        decide (p.entry v ≤ 512 * course + c ∧ 512 * course + c ≤ p.entry v + (if p.transposed then 34 else 31))

/-- Σ ⌈b_a / 64⌉ of a segment position. -/
def Pace.arrayUnits (r : Pace) (position : Nat) : Nat :=
  match r.work.findIdx? fun p => p == position with
  | none => 0
  | some n =>
    (r.sims.map fun e =>
      let l := r.events.filter fun y => y.core == e.1
      ((List.range 4).map fun q => ceilDiv (busyCycles ((passesIn l q).map (·.2)) n) 64).foldl (· + ·) 0).foldl (· + ·) 0

end Sys2Proof.Machine
end

