-- ==== Sys2Proof/Machine/Signals.lean ====
section
/-! DEFINITION. What a plan's schedule asks of inputs, ties, levels and pointing messages, and of fabric slots (R205, R226,
R234, R250, R253, R254, R256 to R262, R264 to R266, R285). -/

namespace Sys2Proof.Machine

/-! ### Declared inputs (R158, R205, R258) -/

/-- The events of an opcode. -/
def Pace.of (r : Pace) (op : Nat) : List Event := r.events.filter fun e => e.op == op

/-- The due courses of a route, by segment position (R158). -/
def Pace.dues (r : Pace) (route : Nat) : List Nat :=
  ((r.of 0x52).filter fun e => sendRouteNo e.fields == route).map fun e => r.position e.at_.cycle + e.fields.imm % 16

/-- A read of a remote-tier window is covered by a `due` of the window's route for an earlier course (R205). -/
def Load.remoteCovered (x : Load) (r : Pace) (e : Event) : Bool :=
  let imm := offsetImm e.op e.fields e.at_.ao
  !addressed e.op || bits imm 29 3 != 4 ||
    (x.site.remotes.find? fun w => w.window == bits imm 25 4).any fun w =>
      (r.dues w.route).any fun d => decide (d < r.position e.at_.cycle)

/-- The ninth `twait` or `lvw` of a core in one course (R258). -/
def Pace.ninthWait (r : Pace) : Option Event :=
  let l := r.of 0x68 ++ r.of 0x69
  l.find? fun e =>
    decide (8 < l.countP fun y => y.core == e.core && r.position y.at_.cycle == r.position e.at_.cycle)

/-! ### Messages between modules (R250, R253, R254) -/

/-- The courses of a hop from a port: 1 + ⌊(Dmax + 131) / 544⌋. -/
def Load.hopCourses (x : Load) (port : Nat) : Nat :=
  let n := ((x.image.records 0x0C).map neighbourOf).find? fun n => n.port == port
  1 + ((n.map (·.dmax)).getD 0 + 131) / 544

/-- Cycles from a core to the interface of a port: out of the core, to its router, and to the interface, over the hub where
it is another brick's. -/
def toInterface (brick port : Nat) : Nat := 1 + 8 + (if port / 4 = brick then 4 else 44 + 4)

/-- The sender course of a message that a core sends in a plan cycle: the course after the one in which it reaches the
interface. -/
def Pace.senderCourse (r : Pace) (t brick port : Nat) : Nat :=
  r.position t + 1 + (t % 512 + toInterface brick port) / 544

/-! ### Tie signals (R256 to R262, R264) -/

/-- A tie signal that a plan sends: its event, target, operation, the plan course of its issue and that of its landing, its
latest arrival as course and cycle, and the port and sender course of its message. -/
structure Sent where
  event : Event
  target : TieTarget
  op : Nat
  course : Nat
  lands : Nat
  arrives : Nat × Nat
  message : Option (Nat × Nat)
  deriving DecidableEq, Repr

/-- The signal of a `tsig`; none without a target. A message takes the hop cost of its own port on every hop (assumption
6). -/
def Load.sent (x : Load) (r : Pace) (e : Event) : Option Sent :=
  match x.ties[e.fields.imm % 2 ^ 16]? with
  | none => none
  | some t =>
    let p := r.position e.at_.cycle
    let brick := x.placed.core e.core / 64
    let c := e.at_.cycle % 512
    let y : Sent :=
      { event := e, target := t, op := e.fields.flags % 4, course := p, lands := p + t.offset,
        arrives := (p, c + (if t.brick = brick then 21 else 61)), message := none }
    match (x.routes[t.path]?).bind fun z => (z.slots.head?).map fun s => (s.port, z.relays.length) with
    | none => some y
    | some (port, relays) =>
      let s := r.senderCourse e.at_.cycle brick port
      some { y with arrives := (s + x.hopCourses port * (relays + 1) - 1, 0), message := some (port, s) }

/-- The signals of a pass. -/
def Load.allSent (x : Load) (r : Pace) : List Sent := (r.of 0x53).filterMap (x.sent r)

/-- It arrives by cycle 542 of its landing course (R261), which is no grout course (R285) and comes before the next quoin
course (R262). -/
def Sent.inTime (y : Sent) (r : Pace) : Bool :=
  r.work.contains y.lands && decide (544 * y.arrives.1 + y.arrives.2 ≤ 544 * y.lands + 542)

/-- Two signals of one tie for one course name one operation, and not both Set (R260). -/
def Sent.agrees (y z : Sent) : Bool :=
  !(y.target.device == z.target.device && y.target.core == z.target.core && y.target.tie == z.target.tie && y.lands == z.lands) ||
    (y.op == z.op && y.op != 0)

/-- No tie that an ingress window's counter takes is signalled (R260, R264). -/
def Load.notCounter (x : Load) (y : Sent) : Bool :=
  ((x.image.records 0x0F).map ingressOf).all fun w =>
    match x.ties[w.counter]? with
    | none => true
    | some t => !(t.device == y.target.device && t.core == y.target.core && t.tie == y.target.tie)

/-- An announced route's data is due, for the first time from the signal's course on, no later than the signal lands
(R261). -/
def Sent.announces (y : Sent) (r : Pace) : Bool :=
  let l := (r.dues y.target.announced).filter fun d => decide (y.course ≤ d)
  l.isEmpty || l.any fun d => decide (d ≤ y.lands)

/-- More than 64 signals wait for one position in a course (R261). -/
def crowded (l : List Sent) : Option Sent :=
  l.find? fun y => decide (64 < l.countP fun z =>
    z.target.device == y.target.device && z.target.core == y.target.core && decide (z.course ≤ y.course ∧ y.course < z.lands))

/-- More than 6 messages for a port in a sender course (R253). -/
def seventhMessage (l : List Sent) : Option Sent :=
  l.find? fun y => y.message.isSome && decide (6 < l.countP fun z => z.message == y.message)

/-- The first signal of a pass that a check refuses. -/
def Load.badSignal (x : Load) (r : Pace) : Option Sent :=
  let l := x.allSent r
  ((l.find? fun y => !y.inTime r || !x.notCounter y || !y.announces r).or
    ((l.zipIdx.find? fun e => (l.take e.2).any fun z => !z.agrees e.1).map (·.1))).or ((crowded l).or (seventhMessage l))

/-! ### Levels (R261, R262, R265, R266) -/

/-- The arrivals and waits of a core at a level, in order. -/
def Pace.atLevel (r : Pace) (core level : Nat) : List Event :=
  sortKey (fun (e : Event) => e.at_.cycle)
    (r.events.filter fun e => e.core == core && (e.op == 0x54 || e.op == 0x69) && e.fields.imm % 256 == level)

/-- Two arrivals of a core at a level without a wait between them, the next segment's first one included. -/
def Pace.twice (r : Pace) (core level : Nat) : Bool :=
  let l := r.atLevel core level
  (l.zip (l.drop 1 ++ l.take 1)).any fun e => e.1.op == 0x54 && e.2.op == 0x54

/-- The `k`-th arrivals at a level, one a core. -/
def Pace.round (r : Pace) (level : Nat) (cores : List Nat) (k : Nat) : List Event :=
  cores.filterMap fun c => ((r.atLevel c level).filter fun e => e.op == 0x54)[k]?

/-- The latest cycle, from the segment's start on, at which the release of a round is at every brick's node: to the core's
node, to the module's root, over the hops of a module that is not the domain's root, and back (R250, R265). -/
def Load.released (x : Load) (r : Pace) (d : LevelDecl) (l : List Event) : Nat :=
  let at_ (e : Event) : Nat :=
    let hub := if x.placed.core e.core / 64 = d.rootBrick then 4 else 44
    544 * r.position e.at_.cycle + e.at_.cycle % 512 + 1 + 8 + 2 + hub + 2
  let back := if l.any fun e => x.placed.core e.core / 64 != d.rootBrick then 44 else 4
  let away := match d.parent with
    | none => 0
    | some p => 544 * 2 * x.hopCourses p.1
  (l.map at_).foldl max 0 + back + away

/-- The rounds of a level complete, each core once in each, and their releases come by cycle 542 of their landing course, a
course with plan cycles before the next quoin course. -/
def Load.roundsOk (x : Load) (r : Pace) (d : LevelDecl) (cores : List Nat) : Bool :=
  let counts := cores.map fun c => (r.atLevel c d.level).countP fun e => e.op == 0x54
  counts.all (fun n => n == counts.headD 0) &&
    (List.range (counts.headD 0)).all fun k =>
      let l := r.round d.level cores k
      let lands := (l.map fun e => r.position e.at_.cycle).foldl max 0 + d.rho
      r.work.contains lands && decide (x.released r d l ≤ 544 * lands + 542)

/-- The first arrival at a level that the checks refuse. -/
def Load.badLevel (x : Load) (r : Pace) : Option Event :=
  (r.of 0x54).find? fun e =>
    let level := e.fields.imm % 256
    let cores := ((r.of 0x54).filter fun y => y.fields.imm % 256 == level).map (·.core)
    match x.levels.find? fun d => d.level == level with
    | none => true
    | some d => r.twice e.core level || !x.roundsOk r d cores.eraseDups

/-! ### Fabric slots (R226, R234, R285) -/

/-- A flit's granules reach the interface in time for its slot of a course with plan cycles, and it has landed before the
next quoin course. -/
def Load.slotOk (x : Load) (r : Pace) (z : Slotted) : Bool :=
  let n := ((x.image.records 0x0C).map neighbourOf).find? fun n => n.port == z.entry.port
  match r.begins z.position with
  | none => false
  | some t =>
    decide (z.cycle ≤ t + 16 * z.entry.slot) &&
      decide (544 * z.position + 18 * z.entry.slot + 92 + (n.map (·.dmax)).getD 0 < 544 * x.image.segment)

/-- The landing-map records of a variant name courses with plan cycles. -/
def Load.badLanding (x : Load) (r : Pace) : Option Nat :=
  (x.image.records 0x0D).findIdx? fun e => byteAt e 0 == r.variant && (r.begins (field e 4 2 + byteAt e 9)).isNone

end Sys2Proof.Machine
end

