-- ==== Sys2Proof/Machine/Checks.lean ====
section
/-! DEFINITION. The loader's simulation of a plan's segments and what it refuses (R284, R287, R288, R293 causes 8 to 13). -/

namespace Sys2Proof.Machine

/-! ### Paces (R145, R163, R284, R285) -/

/-- The code of a logical core, and where a refusal of it points. -/
def Load.words (x : Load) (l : Nat) : List Nat := (x.state.coreWords x.image x.placed x.site.regions l).getD []
def Load.coreSite (x : Load) (l : Nat) : Nat := siteOf 3 (field (x.image.section 2) (4 * l) 2) l

/-- One segment of a variant, each core's queues beginning with given AO values. -/
def Load.pace (x : Load) (v : Nat) (ao : List (List Nat)) : Pace :=
  let grout := x.image.groutOf v
  let work := (List.range x.image.segment).filter fun p => !grout.contains p
  let entries := x.image.variantEntries v
  let sims := x.image.cores.map fun l =>
    (l, segmentOf ⟨x.words l, x.placed.core l, work⟩ (x.cost l) (entries.getD l 0) (ao.getD l []))
  { variant := v, work := work, sims := sims,
    events := sims.flatMap fun e => e.2.out.reverse.map fun i => ⟨e.1, x.coreSite e.1, i⟩ }

/-- The AO values with which a segment may begin: those of the launch, and those that any run of variants leaves. -/
def Load.startsFrom (x : Load) (fuel : Nat) (seen : List (List (List Nat))) : List (List (List Nat)) :=
  match fuel with
  | 0 => seen
  | fuel + 1 =>
    let next := seen.flatMap fun ao =>
      (List.range x.image.variantCount).map fun v => (x.pace v ao).sims.map fun e => e.2.aoEnd
    x.startsFrom fuel (seen ++ next).eraseDups

/-- Every variant's segment, from every such beginning. -/
def Load.paces (x : Load) : List Pace :=
  (x.startsFrom x.image.variantCount [x.image.cores.map fun _ => allQueues.map fun _ => 0]).flatMap fun ao =>
    (List.range x.image.variantCount).map fun v => x.pace v ao

/-! ### Checks of a core -/

/-- A refusal with RangeError unless a condition holds. -/
def need (ok : Bool) (cause site : Nat) : Option Refusal3 := unless_ ok cause rcRangeError site

/-- An address lies in its space, and its region admits the access, under its queue's AO (R144, R145, R190). -/
def Load.reaches (x : Load) (e : Event) : Bool :=
  let f := e.fields
  !([0x11, 0x40, 0x41, 0x42, 0x47].contains e.op) ||
    x.site.accessOk (x.placed.core e.core) e.op (offsetImm e.op f e.at_.ao) f

/-- The passes and the fills of an array (R118, R119, R126). -/
def Load.arrayFaults (x : Load) (pin : Bool) (r : Pace) (l : List Event) (site queue : Nat) : List (Option Refusal3) :=
  let passes := (passesIn l queue).map (·.2)
  let fronts := (passes.filter fun p => p.fresh).map (·.start)
  let fills := fillsIn l queue
  [need (vatAgrees l queue) 8 site, need (spaced passes) 9 site, need (decide (fronts.length ≤ fills.length)) 9 site,
   unless_ (x.fillsServe pin fills fronts) 9 rcLatencyExceeded site,
   need (decide (fills.length ≤ fronts.length) && passes.all fun p => decide (p.lastAdded < r.horizon)) 11 site]

/-- A core's queues, addresses, hods and arrays. -/
def Load.coreFaults (x : Load) (pin : Bool) (r : Pace) (c : Nat × Sim) : List (Option Refusal3) :=
  let site := x.coreSite c.1
  let l := r.events.filter fun e => e.core == c.1
  let uses := x.coreUses pin l
  let left := hodsRun uses
  [c.2.closed.map fun cause => (cause, rcRangeError, site), need (l.all x.reaches) 8 site,
   need (hodAlone uses && left.isSome && l.all (scratchKept uses)) 9 site,
   need ((left.getD []).all (·.isEmpty) && uses.all fun u => decide (u.cycle < r.horizon)) 11 site] ++
  (List.range 4).flatMap (x.arrayFaults pin r l site)

/-! ### Additions (R195, R239) -/

/-- An addition at a bank: granule, cycle, whether the fabric brings it. -/
structure Addition where
  address : Nat
  cycle : Nat
  fabric : Bool
  deriving DecidableEq, Repr

/-- The additions of a `sta`. -/
def Load.storeAdditions (x : Load) (pin : Bool) (e : Event) : List Addition :=
  match x.address e.core e.op e.fields e.at_.ao with
  | none => []
  | some a =>
    let c := ((x.latency e.core e.at_.word e.at_.ao).map fun y => y.cycles pin).getD 0
    (List.range (ceilDiv (accessBytes e.op e.fields) 64)).map fun g =>
      ⟨a + 64 * g, max (Access.add.bankAt e.at_.cycle c + 64 * g / rateBytes (e.fields.flags % 8)) e.at_.floor, false⟩

/-- The additions of landed granules. -/
def Landed.additions (y : Landed) : List Addition :=
  if y.add then (List.range y.count).map fun i => ⟨y.route.address (y.granule + i), y.cycle, y.fabric⟩ else []

/-- All additions of a pass, in an order that pinning leaves. -/
def Load.additions (x : Load) (pin : Bool) (r : Pace) (landed : List Landed) : List Addition :=
  (r.of 0x42).flatMap (x.storeAdditions pin) ++ landed.flatMap Landed.additions

/-- A granule takes an addition from the fabric, and no other in the same course (R239). -/
def addedOnce (l : List Addition) : Bool :=
  pairwise (fun a b => !(a.fabric || b.fabric) || a.address != b.address || a.cycle / 512 != b.cycle / 512) l

/-- Two pairs of numbers stand in one order. -/
def sameOrder (a b c d : Nat) : Bool := (decide (a < b) == decide (c < d)) && (decide (b < a) == decide (d < c))

/-- Pinning keeps the order of the additions to every granule, and the inputs that meet at every node (R288). -/
def pinKeeps (a b : List Addition) (m n : List Meet) : Bool :=
  pairwise (fun p q => p.1.address != q.1.address || sameOrder p.1.cycle q.1.cycle p.2.cycle q.2.cycle) (a.zip b) &&
    pairwise (fun p q => p.1.node != q.1.node || (p.1.cycle == q.1.cycle) == (p.2.cycle == q.2.cycle)) (m.zip n)

/-! ### Checks of the module -/

/-- What the cores share: banks, ports, edges and lanes, tree nodes, engines, additions (cause 10); inputs, ties, levels and
landings (cause 11). -/
def Load.sharedFaults (x : Load) (pin : Bool) (r : Pace) : List (Option Refusal3) :=
  let t := x.traffic pin r
  let at_ (cause site : Nat) : Refusal3 := (cause, rcRangeError, site)
  [(overloaded x.site.regions t.demands).map fun d => at_ 10 d.site, (badMeet t.meets).map fun m => at_ 10 m.site,
   (fifthRequest t.services).map fun y => at_ 10 y.event.site,
   (t.slots.find? fun z => !z.2.any (x.slotOk r)).map fun z => at_ 10 z.1,
   need (addedOnce (x.additions pin r t.landed.eraseDups)) 10 0,
   (r.events.find? fun e => !x.remoteCovered r e).map fun e => at_ 11 e.site,
   r.ninthWait.map fun e => at_ 11 e.site, (x.badSignal r).map fun y => at_ 11 y.event.site,
   (x.badLevel r).map fun e => at_ 11 e.site, (x.badLanding r).map fun n => at_ 11 (siteOf 0x0D n 0)]

/-- Every refusal that a pass meets. -/
def Load.faults (x : Load) (pin : Bool) (r : Pace) : List Refusal3 :=
  (r.sims.flatMap (x.coreFaults pin r) ++ x.sharedFaults pin r).filterMap id

/-! ### Latencies (R287, R288) -/

/-- The latencies of a pass's instructions. -/
def Load.latencies (x : Load) (r : Pace) : List (Event × Lat) :=
  r.events.filterMap fun e => (x.latency e.core e.at_.word e.at_.ao).map fun y => (e, y)

/-- An instruction uses an item that the table lacks. -/
def Load.lacksItem (x : Load) (r : Pace) : Bool :=
  let table := x.image.latencies.map (·.1)
  (x.latencies r).any fun e => e.2.items.any fun n => !table.contains n

/-- The first instruction beyond its slack: the record of its item, and its core. -/
def Load.beyondSlack (x : Load) (r : Pace) : Option Refusal3 :=
  ((x.latencies r).find? fun e => e.2.exceeds).map fun e =>
    (12, rcLatencyExceeded, siteOf 7 (x.image.latencies.findIdx fun y => y.1 == e.2.items.headD 0) e.1.core)

/-- The repeated checks of a pass with pinned latencies. -/
def Load.pinFaults (x : Load) (r : Pace) : List Refusal3 :=
  if (x.latencies r).all fun e => decide (e.2.actual ≤ e.2.assumed) then []
  else
    let a := x.traffic false r
    let b := x.traffic true r
    let kept := pinKeeps (x.additions false r a.landed) (x.additions true r b.landed) a.meets b.meets
    ((x.faults true r).filter fun e => decide (9 ≤ e.1 ∧ e.1 ≤ 11)).map (fun e => (13, rcLatencyExceeded, e.2.2)) ++
      (unless_ kept 13 rcLatencyExceeded 0).toList

/-- All that the simulation refuses: an item missing (cause 2), then causes 8 to 13. -/
def Load.scheduleFaults (x : Load) : List Refusal3 :=
  let l := x.paces
  (unless_ (!l.any x.lacksItem) 2 rcRangeError (siteOf 7 0 0)).toList ++ l.flatMap (x.faults false) ++
    (l.findSome? x.beyondSlack).toList ++ l.flatMap x.pinFaults

/-- The first refusal of a cause. -/
def firstOf (l : List Refusal3) (cause : Nat) : Option Refusal3 := l.find? fun e => e.1 == cause

end Sys2Proof.Machine
end

