-- ==== Sys2Proof/Machine/Plans.lean ====
section
/-! DEFINITION. Plan images (R275, R276, R293, R294, R297): staging, the loader's verdict, the plan it installs, discard
and halt. -/

namespace Sys2Proof.Machine

/-! ### Staging -/

/-- BAR2_WRITE (R275, R396, R398): bytes of the staging area, or discarded while the loader checks. -/
def State.stageBytes (s : State) (offset : Nat) (data : Bytes) : State :=
  if s.awake = false then s
  else if s.reg Reg.planState = 1 then s.bump Reg.stagingWritesDropped
  else if offset + data.length ≤ 2 ^ 28 then { s with staging := s.staging.write offset data }
  else s

def execBar2Write (offset : Nat) (data : Bytes) (s : State) : Host.Outcome State Fault Refusal :=
  s.done (s.stageBytes offset data)

/-- PLAN_LOAD past check 9 (R275). -/
def State.loadPlan (s : State) (v : Nat) : Nat × State :=
  if v % 64 ≠ 0 ∨ 2 ^ 28 < v then (rcRangeError, s)
  else if s.reg Reg.planState = 1 ∨ s.reg Reg.planState = 2 ∨ s.limewash then (rcStateRefused, s)
  else
    let s := (s.setReg Reg.planState 1).setReg Reg.shadowState 1
    (rcOk, { s with plan := { s.plan with checking := some v } })

def execPlanLoad (v : Via) (value : Nat) (s : State) : Host.Outcome State Fault Refusal :=
  s.done (s.writeNumber v 0x4000 0x01 3 value fun s => s.loadPlan value)

/-! ### Latencies (R287, R288) -/

/-- The parameter words with which the image calls a routine. -/
def Image.callWords (i : Image) (n : Nat) : List Nat :=
  i.blocks.flatMap fun b => (b.filter fun w => bits w 56 8 == 3 && bits w 0 10 == n).map fun w => bits w 10 22

/-- The largest occupancy of a routine over the image's calls: its term for the part's stepping (R569). -/
def State.routineActual (s : State) (i : Image) (n : Nat) : Nat :=
  match s.routineRecord n with
  | none => 0
  | some r => ((i.callWords n).map (termOf r (if s.reg Reg.stepping = 0xA1 then 8 else 16))).foldl max 0

/-- How far an item's actual figure exceeds what the plan assumes (R288). -/
def State.itemExcess (s : State) (i : Image) (x : Nat × Nat × Nat) : Nat :=
  (if 0x400 ≤ x.1 then s.routineActual i (x.1 - 0x400) else (itemActual (s.reg Reg.stepping) x.1).getD 0) - x.2.1

/-! ### Energy (R289, R290) -/

/-- F of R289 in nJ: 59.975 W a brick and 150 W, over 320 ns. -/
def State.floorEnergy (s : State) : Nat := 19192 * countBits 16 s.units.brickMask + 48000

/-- E of every segment position of a variant; its arrays' cycles do not depend on AO. -/
def Load.energyOf (y : Load) (v : Nat) : List Nat :=
  let r := y.pace v []
  (List.range y.image.segment).map fun p =>
    max (field (y.image.section 0x11) (4 * (v * y.image.segment + p)) 4) y.state.floorEnergy + 50 * r.arrayUnits p

/-- The energies of a variant are within caps in watts. -/
def withinCaps (sustained burst : Nat) (l : List Nat) : Bool :=
  l.all (fun e => decide (e ≤ burst * 320)) && decide (l.foldl (· + ·) 0 ≤ sustained * 320 * l.length)

/-- The energy record at which a variant fails: its first position above the burst cap, or its first. -/
def Load.energyFault (y : Load) : Option Refusal3 :=
  let s := y.state
  (List.range y.image.variantCount).findSome? fun v =>
    let l := y.energyOf v
    if withinCaps (s.reg Reg.sustainedCap) (s.reg Reg.burstCap) l then none
    else
      let p := (l.findIdx? fun e => decide (s.reg Reg.burstCap * 320 < e)).getD 0
      some (14, rcStateRefused, siteOf 0x11 (v * y.image.segment + p) 0)

/-! ### Grout (R285) -/

/-- Each step from one position to the next, cyclically, is at least 2 and at most D. -/
def groutSteps (first d s : Nat) (l : List Nat) : Bool :=
  match l with
  | [] => true
  | [x] => decide (x < s ∧ first + s - x ≤ d) && (x == first || decide (2 ≤ first + s - x))
  | x :: y :: r => decide (x + 2 ≤ y ∧ y ≤ x + d) && groutSteps first d s (y :: r)

def Image.groutOk (i : Image) (v : Nat) : Bool :=
  let l := i.groutOf v
  decide (2 * (i.segment / i.grout) * i.variantCount ≤ (i.section 0x12).length) && !l.contains 0 &&
    groutSteps (l.headD 0) i.grout i.segment l

/-! ### Successors (R291) -/

/-- The windows that a successor must keep. -/
def Plan.lasting (p : Plan) : List (Nat × Nat × Nat × Nat × Nat) :=
  (p.regions.filter fun r => r.kind == 1 || r.kind == 2 || r.kind == 3).map fun r => (r.base, r.kind, r.size, r.fmt, r.slot)

/-- The successor may follow the running plan. -/
def Plan.follows (q p : Plan) : Bool :=
  q.segment == p.segment && q.tintSlots == p.tintSlots && q.lasting.all (p.lasting.contains ·) &&
    p.lasting.all (q.lasting.contains ·) &&
    q.initial.all fun e => p.regions.all fun r => apart e.1 e.2.length r.base (r.size * 64)

/-! ### The plan -/

/-- The image as the loader's simulation takes it. -/
def State.loadOf (s : State) (i : Image) (p : Placed) (regions : List Region) (x : Schedule) : Load :=
  { state := s, image := i, placed := p, site := i.site p regions, routes := (i.records 8).map (i.routeAt p),
    trees := (i.records 9).map (Image.treeAt p), ties := (i.records 0x0A).map (Image.tieAt p),
    levels := (i.records 0x0B).map (Image.levelAt p x) }

/-- A variant, placed. -/
def Load.variantAt (y : Load) (v : Nat) : Variant :=
  let r := y.image.variantRecord v
  { number := v, skeleton := slice r 32 32, roles := (slice r 64 y.image.clusters).map (·.toNat),
    entries := y.image.variantEntries v, energy := y.energyOf v, grout := y.image.groutOf v }

/-- The plan that an accepted image becomes. -/
def State.buildPlan (s : State) (i : Image) (x : Schedule) (p : Placed) (regions : List Region) : Plan :=
  let y := s.loadOf i p regions x
  let variants := (List.range i.variantCount).map y.variantAt
  let beyond := (i.latencies.map (s.itemExcess i)).filter fun n => n != 0
  let code := i.cores.foldl (fun m l => Map.put m (p.core l) ((s.coreWords i p regions l).getD [])) []
  { digest := sha3 i.bytes, name := slice i.bytes 16 32, segment := i.segment, defaultVariant := i.defaultVariant,
    tintSlots := i.tintSlots, placement := p.clusters, canonical := i.isCanonical p, bricks := p.bricks, code := code,
    regions := regions, routes := y.routes, trees := y.trees, ties := y.ties, levels := y.levels,
    neighbours := (i.records 0x0C).map neighbourOf, landings := (i.records 0x0D).map landingOf,
    remotes := (i.records 0x0E).map remoteOf, windows := (i.records 0x0F).map ingressOf, variants := variants,
    shares := (i.records 0x13).map (shareOf p), initial := (i.records 0x14).filterMap (i.initialAt regions),
    batches := x.batches, padded := i.latencies.length - beyond.length, pinned := beyond.length,
    worstOverrun := beyond.foldl max 0, treeNodes := i.count 9,
    assumed := (i.latencies.filter fun e => decide (0x400 ≤ e.1)).map fun e => (e.1, e.2.1),
    peakEnergy := (variants.flatMap (·.energy)).foldl max 0,
    meanEnergy := (variants.map fun v => v.energy.foldl (· + ·) 0 / max 1 i.segment).foldl max 0,
    pendingRetire := if s.reg Reg.retirePending = 0xFFFF then none else some (s.reg Reg.retirePending) }

/-! ### The loader's checks (R293) -/

/-- Causes 1 and 2. -/
def Image.wellFormed (i : Image) : Option Refusal3 :=
  if i.headerOk = false then some (1, rcRangeError, 0)
  else ((i.directory).findSome? id).or ((i.sections).findSome? id)

/-- Causes 3 to 6. -/
def State.imageFits (s : State) (i : Image) : List (Option Refusal3) :=
  [unless_ (bit i.gradeMask (s.reg Reg.grade - 1)) 3 rcNoRoom 0,
   unless_ (i.numericClass == s.reg Reg.numericClass) 4 rcStateRefused 0,
   unless_ (i.bookVersion == s.reg Reg.patternBookVersion) 5 rcStateRefused 0,
   unless_ (i.device == 0xFFFF || i.device == s.reg Reg.deviceId) 6 rcStateRefused 0]

/-- The Owned windows of a slot lie in one brick's stack store or in one cluster store (R206). -/
def Image.slotTogether (i : Image) (r : Bytes) : Bool :=
  byteAt r 3 != 3 || (i.records 4).all fun y =>
    byteAt y 3 != 3 || field y 18 2 != field r 18 2 ||
      (byteAt r 2 != 0 && byteAt y 2 == byteAt r 2 && byteAt y 4 == byteAt r 4 && byteAt y 5 == byteAt r 5)

/-- Format codes of a route: valid, and one that adds where Add is set (R68, R218). -/
def routeFormat (r : Bytes) : Bool :=
  decide (byteAt r 1 % 32 ≤ 15) && (!bit (byteAt r 1) 7 || accFmts.contains (byteAt r 1 % 32))

/-- A route that adds at a bank lands in raw regions only (R194). -/
def Image.addsRaw (i : Image) (p : Placed) (regions : List Region) (r : Bytes) : Bool :=
  let t := i.routeAt p r
  !t.add || t.kind == 3 || (t.kind == 2 && t.destDevice != i.device) || (i.site p regions).raw (t.address 0) 64

/-- Cause 8: formats, windows, sites and code, InitialData, batches. -/
def State.codeFaults (s : State) (i : Image) (p : Placed) (regions : List Region) (x : Schedule) : List (Option Refusal3) :=
  let clash (r : Bytes) : Bool := (regions.find? fun y => y.id == field r 0 2).any (windowClash regions)
  let site := i.site p regions
  let bad (l : Nat) : Bool :=
    match s.coreWords i p regions l with
    | none => true
    | some ws => !ws.all (s.placedOk i site (p.core l)) || !loopsOk ws
  [firstBad 8 4 (i.records 4) fun _ r => decide (byteAt r 16 ≤ 15) && (!isWindow (byteAt r 3) || decide (byteAt r 16 ≤ 14)),
   firstBad 8 8 (i.records 8) fun _ r => routeFormat r && i.addsRaw p regions r,
   firstBad 8 9 (i.records 9) fun _ r => accFmts.contains (byteAt r 6),
   firstBad 8 4 (i.records 4) fun _ r => !clash r && i.slotTogether r,
   firstBad 8 5 (i.records 5) (i.relocationOk regions),
   firstBad 8 6 (i.records 6) (s.patchOk i p regions),
   (i.cores.find? bad).map fun l => (8, rcRangeError, siteOf 3 (field (i.section 2) (4 * l) 2) 0),
   firstBad 8 0x14 (i.records 0x14) fun _ r => (i.initialAt regions r).isSome,
   unless_ (pairwise (fun a b => a == b || a.all fun n => !b.contains n) x.batches) 8 rcRangeError 0]

/-- Cause 10 as far as the image decides it: an Owned window with a part on an engine without a share (R198). -/
def shareFault (i : Image) (regions : List Region) : Option Refusal3 :=
  let shared (store brick unit : Nat) : Bool := (i.records 0x13).any fun e =>
    decide (0 < field e 6 2) && byteAt e 0 == store && byteAt e 1 == brick && byteAt e 2 == unit
  let groups (r : Region) : List Nat :=
    (List.range 16).filter fun g => !apart r.granule r.size (g * groupGranules 2 false) (groupGranules 2 false)
  let served (r : Bytes) (y : Region) : Bool :=
    y.kind != 3 || (if y.space = 2 then (groups y).all fun g => shared 2 (byteAt r 4) g
      else shared y.space (byteAt r 4) (byteAt r 5))
  firstBad 10 4 (i.records 4) fun _ r => (regions.find? fun y => y.id == field r 0 2).all (served r)

/-- Cause 10: a clearing share uses a cycle of the ingress share (R353). -/
def clearingFault (i : Image) (p : Placed) (regions : List Region) : Option Refusal3 :=
  firstBad 10 0x13 (i.records 0x13) fun _ r =>
    !ingressBrick regions (p.bricks.getD (byteAt r 1) 0) ||
      (List.range (field r 6 2)).all fun k => (field r 4 2 + 2 * k) % 8 != 7

/-- The write cycle of a landing-map record meets the delay limit of its port (R233). -/
def Image.landingBound (i : Image) (r : Bytes) : Bool :=
  (i.records 0x0C).any fun n =>
    byteAt n 0 == byteAt r 1 && decide (18 * byteAt r 3 + 92 + field n 4 2 ≤ 544 * byteAt r 9 + field r 10 2)

/-- The plan course, by segment position, in which a landing-map record's flit is written; none beyond the segment's end:
no flit is in flight at a quoin course (R234). -/
def Image.landsIn (i : Image) (r : Bytes) : Option Nat :=
  if field r 4 2 + byteAt r 9 < i.segment then some (field r 4 2 + byteAt r 9) else none

/-- The granules that a landing-map record's flit adds at a bank: first and number; none where it only writes. -/
def Image.landsAdd (i : Image) (p : Placed) (r : Bytes) : Option (Nat × Nat) :=
  let t := i.routeAt p ((i.records 8).getD (field r 6 2) [])
  if t.add ∧ t.tree = 0xFFFF then some (t.address (4 * byteAt r 8), 256) else none

/-- No granule takes two additions from the fabric in one plan course (R239). -/
def Image.addsOnce (i : Image) (p : Placed) : Bool :=
  pairwise (fun a b =>
    byteAt a 0 != byteAt b 0 || i.landsIn a != i.landsIn b ||
      match i.landsAdd p a, i.landsAdd p b with
      | some x, some y => disjoint x.1 x.2 y.1 y.2
      | _, _ => true) (i.records 0x0D)

/-- Cause 10: two additions of the fabric to one granule. -/
def Image.addFault (i : Image) (p : Placed) : Option Refusal3 := unless_ (i.addsOnce p) 10 rcRangeError (siteOf 0x0D 0 0)

/-- Cause 11 as far as the landing maps decide it. -/
def Image.landingFault (i : Image) : Option Refusal3 :=
  firstBad 11 0x0D (i.records 0x0D) fun _ r => i.landingBound r && (i.landsIn r).isSome

/-- Causes 8 to 17; an item that the simulation finds missing is cause 2. -/
def State.planFaults (s : State) (i : Image) (p : Placed) (regions : List Region) (x : Schedule) : List (Option Refusal3) :=
  let skeletons := (List.range i.variantCount).map fun v => slice (i.variantRecord v) 32 32
  let y := s.loadOf i p regions x
  let found := y.scheduleFaults
  firstOf found 2 :: s.codeFaults i p regions x ++
  [firstOf found 8, firstOf found 9, shareFault i regions, clearingFault i p regions, i.addFault p, firstOf found 10,
   ((List.range i.variantCount).find? fun v => !i.groutOk v).map fun v => (11, rcRangeError, siteOf 0x12 v 0),
   i.landingFault, unless_ (skeletons.all fun d => d == skeletons.headD []) 11 rcRangeError (siteOf 0x10 0 0),
   firstOf found 11, firstOf found 12, firstOf found 13, y.energyFault,
   match s.thePlan with
   | none => none
   | some q => unless_ ((s.buildPlan i x p regions).follows q) 17 rcStateRefused 0]

/-- The loader's verdict: the first failure, or the plan. -/
def State.judgeImage (s : State) (i : Image) (x : Schedule) : Refusal3 ⊕ Plan :=
  match (i.wellFormed).or ((s.imageFits i).findSome? id) with
  | some e => .inl e
  | none =>
    match s.place i with
    | none => .inl (7, rcNoRoom, siteOf 1 0 0)
    | some p =>
      match i.placeRegions p i.placeOrder [] with
      | .inl n => .inl (7, rcNoRoom, siteOf 4 n 0)
      | .inr regions =>
        match (s.planFaults i p regions x).findSome? id with
        | some e => .inl e
        | none => .inr (s.buildPlan i x p regions)

/-! ### The verdict takes effect -/

/-- A bank of every core. -/
def State.setBank (s : State) (b : Nat) (m : Map (List Nat)) : State :=
  { s with plan := if b = 0 then { s.plan with bank0 := m } else { s.plan with bank1 := m } }

/-- Refuses the staged or the loaded plan (R276, R293, R302). -/
def State.refusePlan (s : State) (e : Refusal3) (digest : Bytes) : State :=
  let s := { s with plan := { s.plan with checking := none, loaded := none } }
  let s := ((s.setReg Reg.planState 3).setReg Reg.shadowState 0).setReg Reg.planLoadResult e.2.1
  let s := (s.setReg Reg.planRefusalCause e.1).setReg Reg.planRefusalSite e.2.2
  s.showPlan.notice Note.planRefused srcModule (u16 e.2.1 ++ u16 e.1 ++ u64 e.2.2 ++ digest.take 8)

/-- Installs an accepted plan: its code in the shadow banks, its initial data in its regions. -/
def State.installPlan (s : State) (p : Plan) : State :=
  let s := { s with plan := { s.plan with checking := none, loaded := some p, wrote := s.reg Reg.loadBank } }
  let s := s.setBank (s.reg Reg.loadBank) p.code
  let s := p.initial.foldl (fun s e => s.store e.1 e.2) s
  let s := ((s.setReg Reg.planState 2).setReg Reg.shadowState 2).setReg Reg.planLoadResult rcOk
  let s := (s.setReg Reg.planRefusalCause 0).setReg Reg.planRefusalSite 0
  s.showPlan.notice Note.planLoaded srcModule (p.digest ++ u16 p.segment ++ u16 p.pinned)

/-- PLAN_LOADER_DONE (R275, R293). -/
def State.loaderDone (s : State) (x : Schedule) : State :=
  match s.plan.checking with
  | none => s
  | some n =>
    let i : Image := ⟨s.staging.read 0 n⟩
    let s := s.setBlob Blob.stagedDigest (sha3 i.bytes)
    match s.judgeImage i x with
    | .inl e => s.refusePlan e (sha3 i.bytes)
    | .inr p => s.installPlan p

def execPlanLoaderDone (schedule : Schedule) (s : State) : Host.Outcome State Fault Refusal := s.done (s.loaderDone schedule)

/-! ### Discard, halt, the load bank, caps -/

/-- The launch course is forgotten, without a launch notice (R294). -/
def State.forgetLaunch (s : State) : State :=
  if s.reg Reg.launchState = 1 then (s.setReg Reg.launchState 0).setReg Reg.launchCourse 0 else s

/-- PlanState returns to Empty and the shadow banks are cleared (R276, R448). -/
def State.emptyPlan (s : State) : State :=
  let s := { s with plan := { s.plan with checking := none, loaded := none } }
  let s := s.setBank (1 - s.reg Reg.activeBank) []
  (((s.setReg Reg.planState 0).setReg Reg.shadowState 0).forgetLaunch).showPlan

/-- PLAN_DISCARD past check 9 (R276, R297). -/
def State.discardPlan (s : State) : Nat × State :=
  let st := s.reg Reg.planState
  if st = 1 then (rcStateRefused, s) else if st = 0 then (rcOk, s) else (rcOk, s.emptyPlan)

def execPlanDiscard (v : Via) (value : Nat) (s : State) : Host.Outcome State Fault Refusal :=
  s.done (s.writeNumber v 0x4000 0x07 7 value State.discardPlan)

/-- PLAN_HALT past check 9 (R297). -/
def State.haltPlan (s : State) (c : Nat) : Nat × State :=
  match s.thePlan with
  | none => (rcStateRefused, s)
  | some p =>
    if s.isQuoin c = false ∨ c < s.prog.course + p.period then (rcRangeError, s)
    else (rcOk, s.mapProg fun x => { x with halt := some c })

def execPlanHalt (v : Via) (value : Nat) (s : State) : Host.Outcome State Fault Refusal :=
  s.done (s.writeNumber v 0x4000 0x0D 4 value fun s => s.haltPlan value)

/-- LoadBank past check 9 (R170, R175). -/
def State.putLoadBank (s : State) (v : Nat) : Nat × State :=
  if v = s.reg Reg.activeBank then (rcStateRefused, s.bump Reg.refusedActiveWrites) else s.putReg Reg.loadBank v

/-- The running and the loaded plan are within caps (R290, R294). -/
def State.capsHold (s : State) (sustained burst : Nat) : Bool :=
  (s.thePlan.toList ++ s.plan.loaded.toList).all fun p => p.variants.all fun v => withinCaps sustained burst v.energy

/-- SustainedCap and BurstCap past check 9 (R294, R301). -/
def State.putCap (s : State) (burst : Bool) (v : Nat) : Nat × State :=
  let other := if burst then s.reg Reg.sustainedCap else s.reg Reg.burstCap
  if (if burst then decide (v < other) else decide (other < v)) then (rcRangeError, s)
  else if s.reg Reg.planState = 1 ∨ s.capsHold (if burst then other else v) (if burst then v else other) = false then
    (rcStateRefused, s)
  else s.putReg (if burst then Reg.burstCap else Reg.sustainedCap) v

/-! ### The unit map (R58, R294) -/

/-- A change of the unit map refuses a plan that is loaded and not running. -/
def State.unmapLoaded (s : State) : State :=
  match s.plan.loaded with
  | none => s
  | some p => if s.prog.running then s else (s.forgetLaunch).refusePlan (7, rcNoRoom, siteOf 1 0 0) p.digest

/-- UNIT_MAP_CHANGE (R58, R65, R294). -/
def State.mapChange (s : State) : State := if s.dueRetirements.isEmpty then s else s.changeUnitMap.unmapLoaded

def execUnitMapChange (s : State) : Host.Outcome State Fault Refusal := s.done s.mapChange

end Sys2Proof.Machine
end

