-- ==== Sys2Proof/Machine/Restart.lean ====
section
/-! DEFINITION. What a reset, Sleep and Off keep (R403, R417, R452, R453, R529), the loss of a plan (R448), debug levels
(R491, R493), and the digests that the module reports (R174, R295, R467, R478). -/

namespace Sys2Proof.Machine

/-! ### What is kept -/

/-- Fuses, identity store, secure store and flash: kept even through Off (R417, R529). -/
def permanentKey (k : Nat) : Bool :=
  let i := k / 256
  let j := k % 256
  i == 0x1000 || (i == 0x1010 && j == 4) || (i == 0x4100 && (decide (j ≤ 2) || j == 5)) ||
    (i == 0x8000 && (j == 1 || j == 2 || j == 4)) || (i == 0x8010 && (j == 5 || j == 6)) ||
    (i == 0x8020 && (j == 1 || j == 3)) || (i == 0x9041 && j == 3) || (i == 0xA600 && (j == 2 || j == 7 || j == 8)) ||
    (i == 0xA601 && j != 3)

/-- The values that the always-on island keeps (R452, R560), and the debug level until the next start drops it. -/
def islandKey (k : Nat) : Bool :=
  let i := k / 256
  let j := k % 256
  (i == 0x1100 && decide (j ≤ 5)) || (i == 0x2000 && (j == 1 || j == 9)) || i == 0x3010 || i == 0x3030 ||
    (i == 0x3000 && decide (7 ≤ j)) || (i == 0x3020 && decide (j ≤ 2)) || (i == 0x3040 && j == 7) ||
    (i == 0x8020 && j == 4)

/-- SpareState of a retired cluster reads 4 for good (R60). -/
def retiredEntry (e : Nat × Nat) : Bool := e.1 / 256 == 0x9040 && e.2 == 4

/-- The module keeps its count over a reset or Sleep: a root that tracks its reference, or Free-run (R453). -/
def State.keepsCount (s : State) : Bool :=
  s.time.known && ((s.onReference && s.time.refValid && s.reg Reg.lockState == 2) || s.reg Reg.courseSource == 3)

/-- Time over a reset, Sleep or wake: the keeper goes on (R453). -/
def State.coldTime (s : State) (island : Bool) : Time :=
  let t := s.time
  if island then
    let keeper := if t.known then t.count else t.keeper
    { State.reset.time with
      known := s.keepsCount, count := if s.keepsCount then t.count else 0, keeper := keeper, keeperOffset := t.keeperOffset,
      sleptAt := if s.keepsCount then 0 else if t.known then keeper else t.sleptAt, refValid := t.refValid }
  else State.reset.time

/-- The step of R530 that an unfinished attempt has reached (assumption 39): once Operational, link training until its
largest time has passed, then course lock. -/
def State.stepReached (s : State) : Nat :=
  if s.reg Reg.startState ≠ 1 then s.start.step
  else if s.time.localCount < s.start.operationalAt + 32768 then 6
  else 7

/-- Everything is lost but what a reset or Sleep (`island`), or Off, keeps. -/
def State.cold (s : State) (island : Bool) (mode : PowerMode) : State :=
  let kept (e : Nat × Nat) : Bool := permanentKey e.1 || retiredEntry e || (island && islandKey e.1)
  let time := s.coldTime island
  let lowest := if island then s.power.lowest else none
  let power : Power :=
    { State.reset.power with mode := mode, supplyLow := s.power.supplyLow, pwrGood := s.power.pwrGood, lowest := lowest }
  let units := { State.reset.units with
    brickMask := s.units.brickMask, clusterMask := s.units.clusterMask, mapSerial := s.units.mapSerial }
  let security := { State.reset.security with uds := s.security.uds, owner := s.security.owner, image := s.security.image }
  let start := { State.reset.start with
    flash := s.start.flash, history := s.start.history, unfinished := s.start.unfinished, step := s.stepReached,
    fatal := s.start.fatal, lifecycleRestart := s.start.lifecycleRestart }
  { State.reset with
    pending := s.pending, regs := s.regs.filter kept, blobs := s.blobs.filter (fun e => permanentKey e.1), time := time,
    power := power, units := units, security := security, start := start, out := s.out, drawn := s.drawn }

/-- The clock after a start or a wake (R453): Free-run is Locked at once, a root that tracked locks at its next epoch
course, any other module is Unlocked. -/
def State.wakeClock (s : State) : State :=
  if s.time.known = false then s
  else if s.reg Reg.courseSource = 3 then
    ((s.setReg Reg.lockState 2).setReg Reg.depth 0).setReg Reg.rootId (s.reg Reg.deviceId)
  else s.setReg Reg.lockState 1

/-! ### The loss of a plan (R448, R545) -/

/-- Slots that hold a tint: states 2 to 5 (R308). -/
def State.heldSlots (s : State) : List Nat :=
  (s.serving.slots.filter fun e => decide (2 ≤ e.2.state ∧ e.2.state ≤ 5)).map (·.1)

/-- Ties and levels are lost. -/
def State.dropPoint (s : State) : State := { s with point := { ties := [], signals := [], levels := [] } }

/-- Every slot is dropped without final records. -/
def State.dropSlots (s : State) : State := { s with serving := { s.serving with slots := [], queue := [] } }

/-- Clearing in progress is kept through Doze (R207): the slots, their released tints and their windows. -/
def State.keepClearing (s : State) : State :=
  let now := (s.serving.slots.filter fun e => e.2.state == 1).map fun e => (e.1, e.2.tint, s.slotWindows e.1)
  { s with serving := { s.serving with clearing := s.serving.clearing ++ now } }

/-- PlanLost (R463). -/
def State.noticePlanLost (s : State) : State :=
  s.notice Note.planLost srcModule (u64 s.prog.course ++ u16 s.heldSlots.length)

/-- Entry to Doze or deeper (R294, R448). -/
def State.losePlan (s : State) : State :=
  let s := if s.planActive then s.noticePlanLost else s
  let s := (s.emptyPlan.dropSlots.dropPoint).endPlan
  (s.setBank 0 []).setBank 1 []

/-! ### Digests (R174, R295, R478) -/

/-- PatternBookDigest: the manifest, the ROM and the patch RAM in use. -/
def State.bookDigest (s : State) : Bytes :=
  if s.limewash then zeros 32
  else sha3 (s.blob Blob.patternBookManifest ++ Config.patternRom s.security.image ++ s.start.patchRam)

/-- FirmwareMeasurement (R478, R536). -/
def State.measurement (s : State) : Bytes := sha3 (if s.limewash then Config.limewashHeader else s.security.image)

/-- ResultClassKey (R295); zero with no plan running. -/
def State.resultClassKey (s : State) : Bytes :=
  match s.thePlan with
  | none => zeros 32
  | some p =>
    sha3 (p.digest ++ s.unitMapDigest ++ u32 (s.reg Reg.firmwareVersion) ++ u32 (s.reg Reg.patternBookVersion) ++
      u8 (s.reg Reg.numericClass))

/-! ### Keys (R467) -/

/-- The seed of a key of an info string, below DevId and below Alias. -/
def devSeed (uds : Nat) (info : String) : Bytes := hkdf (leBytes 32 uds) [] (ascii info)
def State.aliasSeed (s : State) (uds : Nat) (info : String) : Bytes :=
  let cdi := hkdf (leBytes 32 uds) (s.measurement ++ u8 (s.reg Reg.securityVersionRunning) ++ u8 (s.reg Reg.lifecycle))
    (ascii "LEOTTE-CDI1")
  hkdf cdi [] (ascii info)

/-- DevIdKeyDigests and AliasKeyDigests (R496); all zero in Retired. -/
def State.devDigests (s : State) : Bytes :=
  match s.security.uds with
  | none => zeros 64
  | some u => sha3 (Config.ed25519Public (devSeed u "LEOTTE-DEVID-E")) ++ sha3 (Config.mlDsaPublic (devSeed u "LEOTTE-DEVID-M"))
def State.aliasDigests (s : State) : Bytes :=
  match s.security.uds with
  | none => zeros 64
  | some u =>
    sha3 (Config.ed25519Public (s.aliasSeed u "LEOTTE-ALIAS-E")) ++ sha3 (Config.mlDsaPublic (s.aliasSeed u "LEOTTE-ALIAS-M"))

/-- CertChainE and CertChainM (R468, R496); empty in Retired. -/
def State.certificate (s : State) (mlDsa : Bool) : Bytes :=
  match s.security.uds with
  | none => []
  | some u =>
    Config.certChain mlDsa
      (if mlDsa then Config.mlDsaPublic (s.aliasSeed u "LEOTTE-ALIAS-M") else Config.ed25519Public (s.aliasSeed u "LEOTTE-ALIAS-E"))

/-! ### Debug levels (R491, R493, R495) -/

/-- A level may be entered in the present state (R493). -/
def State.levelAllowed (s : State) (l : Nat) : Bool :=
  let c := s.reg Reg.lifecycle
  decide (l ≤ 1) || (l == 2 && c != 3 && !(s.limewash && c == 1)) || (l == 3 && (c == 0 || c == 2) && s.power.mode == .hold)

/-- An entry's key is reached at a level. -/
def reached (l k : Nat) : Bool := decide (entryLevel (k / 256) (k % 256) ≤ l)

/-- Sets the debug level; a lower one discards latches and incomplete writes of entries that it does not reach. -/
def State.setDebugLevel (s : State) (new path cause : Nat) : State :=
  let old := s.reg Reg.debugLevel
  if new = old then s
  else
    let s := (s.setReg Reg.debugLevel new).bump Reg.debugLevelChanges
    let s := { s with paths := { s.paths with
      latches := s.paths.latches.filter fun x => reached new x.key,
      partials := s.paths.partials.filter fun x => reached new x.key } }
    s.notice Note.debugLevelChanged srcModule (u8 old ++ u8 new ++ u8 path ++ u8 cause)

/-- At every start and wake the level is D0 and the nonce fresh (R491, R493). -/
def State.startLevel (s : State) : State :=
  let cause := if s.start.lifecycleRestart then 4 else 3
  let s := s.setDebugLevel 0 0xFF cause
  ({ s with start := { s.start with lifecycleRestart := false } }).freshNonce

end Sys2Proof.Machine
end

