-- ==== Sys2Proof/Machine/Security.lean ====
section
/-! DEFINITION. Attestation (R478 to R481), the owner (R477), lifecycle (R482 to R485), debug levels, DebugWrite and the
issue trace (R491, R492), security versions (R476) and NotAfter (R473). -/

namespace Sys2Proof.Machine

/-! ### Attestation -/

/-- SideState and generation of a side. -/
def State.sideBytes (s : State) (i : Nat) : Bytes := u8 (s.reg (Reg.sideGeneration i)) ++ u8 (s.reg (Reg.sideState i))

/-- Bytes 60 to 67 of a report. -/
def State.partBytes (s : State) : Bytes :=
  let flags := flagNat s.limewash + 2 * flagNat s.owned + 4 * flagNat s.prog.running + 8 * s.reg Reg.ideActive
  u8 (s.reg Reg.grade) ++ u8 (s.reg Reg.stepping) ++ u8 (s.reg Reg.numericClass) ++ u8 (s.reg Reg.lifecycle) ++
    u8 (s.reg Reg.debugLevel) ++ u8 (s.reg Reg.securityVersionFused) ++ u8 (s.reg Reg.securityVersionRunning) ++ u8 flags

/-- The OwnerDigest of R478. -/
def State.ownerDigest (s : State) : Bytes :=
  match s.security.owner with
  | none => zeros 32
  | some o => sha3 o

/-- Bytes 0 to 383 of a report, captured in the present course (R479). -/
def State.reportBody (s : State) (nonce : Bytes) : Bytes :=
  padTo 384
    ([0x4C, 0x54, 0x41, 0x52] ++ u16 1 ++ u16 3760 ++ padTo 32 nonce ++ u64 s.stamp ++ padTo 12 (s.blob Blob.serialNumber) ++
      s.partBytes ++ u32 (s.reg Reg.firmwareVersion) ++ s.measurement ++ u32 (s.reg Reg.patternBookVersion) ++ u32 0 ++
      s.bookDigest ++ padTo 32 (s.blob Blob.runningPlanDigest) ++ s.blob (Blob.weightDigest 0) ++ s.blob (Blob.weightDigest 1) ++
      s.sideBytes 0 ++ s.sideBytes 1 ++ u32 0 ++ s.unitMapDigest ++ s.ownerDigest ++ s.resultClassKey)

/-- A complete report: the body signed with both Alias keys (R469, R479). -/
def State.signReport (s : State) (body : Bytes) : Bytes :=
  match s.security.uds with
  | none => []
  | some u =>
    padTo 3760 (body ++ padTo 64 (Config.ed25519Sign (s.aliasSeed u "LEOTTE-ALIAS-E") body) ++
      padTo 3309 (Config.mlDsaSign (s.aliasSeed u "LEOTTE-ALIAS-M") body))

/-- ATTEST_NONCE past check 9 (R480, R485). -/
def State.beginReport (s : State) (nonce : Bytes) : Nat × State :=
  if s.reg Reg.attestState = 1 ∨ s.reg Reg.lifecycle = 3 then (rcStateRefused, s)
  else (rcOk, { s.setReg Reg.attestState 1 with security := { s.security with attest := some ⟨nonce, []⟩ } })

def execAttestNonce (v : Via) (value : Bytes) (s : State) : Host.Outcome State Fault Refusal :=
  s.done (s.writeRequest v 0x8010 0x01 9 value fun s => s.beginReport value)

/-- Cycle 543: the values of a report that was begun in this course are captured. -/
def State.captureReport (s : State) : State :=
  match s.security.attest with
  | none => s
  | some a =>
    if a.body.isEmpty then
      { s with security := { s.security with attest := some { a with body := s.reportBody a.nonce } } }
    else s

/-- ATTEST_COMPLETE: the report is complete, and readable. -/
def State.reportDone (s : State) : State :=
  let s := s.captureReport
  match s.security.attest with
  | none => s
  | some a =>
    let s := s.setBlob Blob.attestReport (s.signReport a.body)
    let s := (s.setReg Reg.attestState 2).bump Reg.attestReports
    { s with security := { s.security with attest := none } }

def execAttestComplete (s : State) : Host.Outcome State Fault Refusal := s.done s.reportDone

/-- An SPDM measurement block (R481). -/
def State.measurementBlock (s : State) (index : Nat) : Bytes :=
  if index = 1 then s.measurement
  else if index = 2 then s.bookDigest
  else if index = 3 then padTo 32 (s.blob Blob.runningPlanDigest)
  else if index = 4 then s.blob (Blob.weightDigest 0)
  else if index = 5 then s.blob (Blob.weightDigest 1)
  else if index = 6 then s.unitMapDigest
  else if index = 7 then sha3 s.partBytes
  else if index = 8 then s.ownerDigest
  else []

/-- SPDM_REQUEST: the content of the response; an error is empty (assumption 39). -/
def State.answerSpdm (s : State) (r : SpdmRequest) : State :=
  if s.awake = false then s
  else if s.reg Reg.lifecycle = 3 then s.emit (.spdm [])
  else
    match r with
    | .getCertificate slot => s.emit (.spdm (if slot = 0 then s.certificate false else []))
    | .getMeasurements index nonce =>
      if index = 0x10 then (s.bump Reg.attestReports).emit (.spdm (s.signReport (s.reportBody nonce)))
      else s.emit (.spdm (s.measurementBlock index))
    | .other => s.emit (.spdm [])

def execSpdmRequest (request : SpdmRequest) (s : State) : Host.Outcome State Fault Refusal := s.done (s.answerSpdm request)

/-! ### The owner (R477) -/

/-- The enrolment changes: OwnerEnrolled, OwnerDigest, OwnerChanged. -/
def State.setOwner (s : State) (o : Option Bytes) (kind : Nat) : State :=
  let s := { s with security := { s.security with owner := o } }
  let s := (s.setReg Reg.ownerEnrolled (flagNat o.isSome)).setBlob Blob.ownerDigest s.ownerDigest
  s.notice Note.ownerChanged srcModule (u8 kind ++ s.ownerDigest.take 8)

/-- OWNER_ENROLL past check 9. -/
def State.enroll (s : State) (value : Bytes) : Nat × State :=
  if s.reg Reg.lifecycle ≠ 1 ∨ s.owned then (rcStateRefused, s) else (rcOk, s.setOwner (some value) 1)

def execOwnerEnroll (v : Via) (value : Bytes) (s : State) : Host.Outcome State Fault Refusal :=
  s.done (s.writeRequest v 0x8010 0x07 9 value fun s => s.enroll value)

/-- OWNER_CHANGE past check 9. -/
def State.changeOwner (s : State) (path : Nat) (value : Bytes) : Nat × State :=
  let i : Item := ⟨value⟩
  s.accept i [4] path fun s =>
    let e := slice i.body 64 64
    (rcOk, (if allZero e then s.setOwner none 3 else s.setOwner (some e) 2).freshNonce)

def execOwnerChange (v : Via) (value : Bytes) (s : State) : Host.Outcome State Fault Refusal :=
  s.done (s.writeRequest v 0x8010 0x08 9 value fun s => s.changeOwner (viaCode v) value)

/-! ### Lifecycle (R482 to R485) -/

/-- A move that R483 has, its conditions met. -/
def State.moveAllowed (s : State) (target : Nat) : Bool :=
  let c := s.reg Reg.lifecycle
  let hold : Bool := s.power.mode == .hold
  if c = 0 ∧ target = 1 then true
  else if c = 1 ∧ target = 2 then
    hold && !s.planActive && s.reg Reg.bondMode == 0 && decide (s.reg Reg.openedEntries < 8)
  else if c = 2 ∧ target = 1 then hold
  else decide (c < 3) && target == 3

/-- The moves that erase: into Opened and into Retired (R484, R485). -/
def State.moveLifecycle (s : State) (target : Nat) : State :=
  let old := s.reg Reg.lifecycle
  let s := s.setReg Reg.lifecycle target
  let s := if target = 2 then s.bump Reg.openedEntries else s
  let s := if target = 3 then { s with security := { s.security with uds := none } } else s
  let s := s.notice Note.lifecycleChanged srcModule (u8 old ++ u8 target ++ u8 (s.reg Reg.openedEntries))
  let s := if 2 ≤ target ∧ s.owned then s.setOwner none 4 else s
  ({ s with start := { s.start with lifecycleRestart := true } }).freshNonce

/-- LIFECYCLE_TOKEN past check 9. -/
def State.takeLifecycle (s : State) (path : Nat) (value : Bytes) : Nat × State :=
  let i : Item := ⟨value⟩
  s.accept i [5] path fun s =>
    if s.moveAllowed i.request then (rcOk, s.moveLifecycle i.request) else (rcStateRefused, s)

def execLifecycleToken (v : Via) (value : Bytes) (s : State) : Host.Outcome State Fault Refusal :=
  s.done (s.writeRequest v 0x8020 0x02 9 value fun s => s.takeLifecycle (viaCode v) value)

/-! ### Debug levels (R491) -/

/-- DEBUG_REQUEST past check 9. -/
def State.requestLevel (s : State) (v : Via) (l : Nat) : Nat × State :=
  if 3 < l then (rcRangeError, s)
  else if l ≤ s.reg Reg.debugLevel then (rcOk, s.setDebugLevel l (viaCode v) 1)
  else if l = 3 then (rcStateRefused, s)
  else if l = 2 ∧ s.secure v = false then (rcAccessDenied, s)
  else if (l = 2 ∧ s.owned) ∨ s.levelAllowed l = false then (rcStateRefused, s)
  else (rcOk, s.setDebugLevel l (viaCode v) 1)

def execDebugRequest (v : Via) (value : Nat) (s : State) : Host.Outcome State Fault Refusal :=
  s.done (s.writeNumber v 0x8020 0x05 1 value fun s => s.requestLevel v value)

/-- DEBUG_TOKEN past check 9. -/
def State.takeToken (s : State) (v : Via) (value : Bytes) : Nat × State :=
  let i : Item := ⟨value⟩
  s.accept i [3] (viaCode v) fun s =>
    if 3 < i.request then (rcRangeError, s)
    else if i.request ≤ s.reg Reg.debugLevel then (rcOk, s.freshNonce)
    else if s.levelAllowed i.request then (rcOk, (s.setDebugLevel i.request (viaCode v) 2).freshNonce)
    else (rcStateRefused, s)

def execDebugToken (v : Via) (value : Bytes) (s : State) : Host.Outcome State Fault Refusal :=
  s.done (s.writeRequest v 0x8020 0x06 9 value fun s => s.takeToken v value)

/-! ### DebugRead and DebugWrite (R490, R492) -/

/-- The position and the offset of a module address. -/
def addrPosition (a : Nat) : Nat := bits a 33 4
def addrOffset (a : Nat) : Nat := bits a 0 33

/-- A range of a module address: its result, and the address of its bytes in the stores. Spaces 5 to 7, a field that the
space does not use, and a range beyond the space are RangeError (R182); a missing unit is Absent (R183). -/
def State.debugRange (s : State) (a n : Nat) : Nat × Nat :=
  let sp := addrSpace a
  let off := addrOffset a
  let within := bits a 37 4
  if 2 ^ 48 ≤ a ∨ 5 ≤ sp then (rcRangeError, 0)
  else if sp ≤ 1 then
    let size := if sp = 0 then localBytesOf (8 * addrCluster a) else 0x1000000
    if 7 < within ∨ 7 < addrPosition a ∨ (sp = 1 ∧ addrPosition a ≠ 0) ∨ size < off + n then (rcRangeError, 0)
    else if s.clusterOn (addrCluster a) = false then (rcAbsent, 0)
    else (rcOk, a)
  else if within ≠ 0 ∨ addrPosition a ≠ 0 then (rcRangeError, 0)
  else if sp = 4 then
    match s.plan.running.bind fun p => p.remotes.find? fun w => w.window == addrBrick a with
    | none => (rcRangeError, 0)
    | some w =>
      if w.size * 64 < off + n then (rcRangeError, 0)
      else ((s.regionBase w.landing).map fun r => (rcOk, r.base + off)).getD (rcRangeError, 0)
  else if 0x80000000 < off + n then (rcRangeError, 0)
  else if s.brickOn (addrBrick a) = false then (rcAbsent, 0)
  else (rcOk, moduleAddress 2 (addrBrick a) 0 0 off)

/-- A range that holds no tint data: inside a Shared, Staging or Landing window or a Glaze table (R490). -/
def State.openRange (s : State) (a n : Nat) : Bool :=
  match s.anyPlan with
  | none => false
  | some p => p.regions.any fun r =>
      [1, 2, 4, 7].contains r.kind && decide (r.base ≤ a ∧ a + n ≤ r.base + r.size * 64)

/-- What a DebugRead returns. -/
def State.debugValue (s : State) : Nat × Bytes :=
  let a := s.reg Reg.debugAddress
  let n := s.reg Reg.debugLength
  let full : Bool := s.reg Reg.debugLevel == 3
  if full = false ∧ (addrSpace a = 4 ∨ addrSpace a = 7) then (rcAccessDenied, [])
  else
    let r := s.debugRange a n
    if r.1 ≠ rcOk then (r.1, [])
    else if full ∨ s.openRange r.2 n then (rcOk, s.load r.2 n)
    else (rcAccessDenied, [])

/-- DEBUG_WRITE past check 9. -/
def State.debugWrite (s : State) (value : Bytes) : Nat × State :=
  if s.power.mode ≠ .hold ∨ s.planActive then (rcStateRefused, s)
  else
    let r := s.debugRange (s.reg Reg.debugAddress) value.length
    if r.1 ≠ rcOk then (r.1, s) else (rcOk, s.store r.2 value)

def execDebugWrite (v : Via) (value : Bytes) (s : State) : Host.Outcome State Fault Refusal :=
  s.done (s.writeRequest v 0x8100 0x04 9 value fun s => s.debugWrite value)

/-- TRACE_START (R492): the plan course has reached TraceStart. -/
def State.startTrace (s : State) : State :=
  if s.reg Reg.traceState = 1 ∧ s.prog.running ∧ s.reg Reg.traceStart ≤ s.prog.course then
    let s := s.setReg Reg.traceState 2
    { s with security := { s.security with trace := [], traceUntil := s.prog.course + s.reg Reg.traceCourses } }
  else s

def execTraceStart (s : State) : Host.Outcome State Fault Refusal := s.done s.startTrace

/-! ### Versions (R473, R476) -/

/-- The other slot holds an older image that verifies. -/
def State.olderImage (s : State) : Bool :=
  let i : Item := ⟨Map.get s.start.flash [] (1 - s.reg Reg.runningSlot)⟩
  (s.verify i [1] true).isNone && decide (i.securityVersion < s.reg Reg.securityVersionRunning)

/-- SECURITY_VERSION_COMMIT past check 9. -/
def State.commitVersion (s : State) : Nat × State :=
  let v := s.reg Reg.securityVersionRunning
  if s.limewash ∨ v ≤ s.reg Reg.securityVersionFused ∨ s.olderImage then (rcStateRefused, s)
  else (rcOk, (s.setReg Reg.securityVersionFused v).notice Note.securityVersionCommitted srcModule (u8 v))

def execSecurityVersionCommit (v : Via) (value : Nat) (s : State) : Host.Outcome State Fault Refusal :=
  s.done (s.writeNumber v 0x8000 0x03 7 value State.commitVersion)

/-- NOTAFTER_PASSED (R473): judged once, when the count is first known. -/
def State.judgeNotAfter (s : State) : State :=
  if s.time.known = false ∨ s.security.notAfterSeen ∨ s.limewash ∨ s.awake = false then s
  else
    let i : Item := ⟨s.security.image⟩
    let s := { s with security := { s.security with notAfterSeen := true } }
    if i.notAfter = 0 ∨ s.time.count ≤ i.notAfter then s
    else s.notice Note.imageRefused srcModule (u8 1 ++ u8 9 ++ u8 i.securityVersion ++ u8 2)

def execNotafterPassed (s : State) : Host.Outcome State Fault Refusal := s.done s.judgeNotAfter

end Sys2Proof.Machine
end

