-- ==== Sys2Proof/Machine/Links.lean ====
section
/-! DEFINITION. Fabric links and edges: flits received and landed (R228 to R232), reports and retries (R227 to R230),
relays (R235), lanes, retrains and training (R243, R246, R382 to R384), delay (R16, R233), partner changes (R245), and
die-to-die edges (R221, R249). -/

namespace Sys2Proof.Machine

/-! ### Flits received -/

/-- The header of a flit (R224). -/
def flitHeader (b : Bytes) : Nat := field b 0 4
def flitOf (b : Bytes) : Flit :=
  let h := flitHeader b
  { route := bits h 20 12, index := bits h 12 8, slot := bits h 7 5, tag := bits h 2 5, count := bits h 0 2 + 1,
    payload := slice b 4 256 }

/-- The flit check (R225). -/
def flitChecks (b : Bytes) : Bool := b.length == 264 && crc32 (b.take 260) == field b 260 4

/-- The sender course of a flit. -/
def State.flitCourse (s : State) (f : Flit) : Nat := nearestCourse s.prog.course 5 f.tag

/-- The landing-map entry of a port for a lane, a slot and a sender course, in the variant in force (R232). -/
def State.landingAt (s : State) (port lane slot course : Nat) : Option Landing :=
  match s.thePlan with
  | none => none
  | some p =>
    p.landings.find? fun x =>
      x.variant == s.reg Reg.activeVariant && x.port == port && x.lane == lane && x.slot == slot &&
        x.position == s.position p course

/-- The granules of a flit. -/
def Flit.granules (f : Flit) : List Bytes := splitVecs 64 f.count f.payload

/-- A flit is written (R231, R232): its granules at the route's destination, or into a tree node at the port's
interface, and counted towards a `due`. -/
def State.writeFlit (s : State) (port : Nat) (f : Flit) : State :=
  let s := s.bump (Reg.flitsLanded port)
  match s.route f.route with
  | none => s
  | some r =>
    let s := s.mapProg fun p => { p with landed := Map.set p.landed 0 f.route (Map.get p.landed 0 f.route + f.count) }
    let g := 4 * f.index
    if r.tree ≠ 0xFFFF ∧ r.add then
      s.enterNode 256 f.route { r with kind := 0 } true g f.index r.node (port / 4) (100 + port % 4) f.granules
    else
      let s := if r.add then s.bumpBy Reg.fabricAccumulations f.count else s
      (s.crossEdges (port / 4) r.destBrick f.count).landGranules r r.add g f.granules

/-- This module relays a route (R235). -/
def State.relays (s : State) (route : Nat) : Bool :=
  (s.route route).any fun r => r.destDevice != s.reg Reg.deviceId && r.relays.contains (s.reg Reg.deviceId)

/-- Files a flit that passed its check: written on time, held for its course, or late. -/
def State.fileFlit (s : State) (port arrival : Nat) (f : Flit) (l : Landing) : State :=
  let c := s.flitCourse f
  let w := c + l.delta
  let p := s.port port
  let s := if s.prog.course < c then s.bump Reg.landingHeldFlits else s
  if s.relays f.route ∨ s.prog.course < w then s.setPort port { p with landing := p.landing ++ [f] }
  else if w = s.prog.course ∧ arrival < 28 ∧ s.prog.kind = .work s.prog.course then s.writeFlit port f
  else s.setPort port { p with late := p.late ++ [f] }

/-- The verdict of a flit slot enters the report of its sender course (R227): TagA is the newest course judged, TagB the
one before it; a course older than both is reported no more. -/
def Lane.judge (l : Lane) (tag pos : Nat) (failed : Bool) : Lane :=
  let m := if failed then 2 ^ min pos 28 else 0
  match l.reportA with
  | none => { l with reportA := some (tag, m) }
  | some (t, a) =>
    if t = tag then { l with reportA := some (t, a ||| m) }
    else if (tag + 32 - t) % 32 < 16 then { l with reportA := some (tag, m), reportB := some (t, a) }
    else
      match l.reportB with
      | some (u, b) => if u = tag then { l with reportB := some (u, b ||| m) } else l
      | none => { l with reportB := some (tag, m) }

/-- The sender course of what arrives in a slot: a flit in the slot of its first transmission names it; a retry, or a
flit whose header cannot be read, came in the newest course that the lane has judged, or the module's own where that is
later (assumption 46). -/
def State.slotCourse (s : State) (port lane slot : Nat) (f : Option Flit) : Nat :=
  match f.filter fun f => f.slot == slot with
  | some f => f.tag
  | none =>
    let own := s.prog.course % 32
    match ((s.port port).lane lane).reportA with
    | some (t, _) => if (own + 32 - t) % 32 < 16 then own else t
    | none => own

/-- A flit fails (R228): counted, and reported at the slot in which it arrived. -/
def State.failFlit (s : State) (port lane arrival slot course : Nat) (f : Option Flit) : State :=
  let p := s.port port
  let s := s.setPort port (p.setLane lane ((p.lane lane).judge (s.slotCourse port lane arrival f) arrival true))
  let s := s.bump (Reg.flitFailures port)
  match s.landingAt port lane slot course with
  | some l => if (s.route l.route).any s.distribution then s.missDistribution port course lane slot else s
  | none => s

/-- FLIT_RECEIVED (R228, R229, R232, R360). -/
def State.takeFlit (s : State) (port lane slot : Nat) (b : Bytes) (fecOk : Bool) (corrected : Nat) : State :=
  if s.power.mode ≠ .run ∧ s.power.mode ≠ .hold ∨ s.portRole port ≠ 0 ∨ s.limewash then s
  else
    let s := s.bumpBy (Reg.fecCorrected port) corrected
    let p := s.port port
    let s := if fecOk then s else
      (s.bump (Reg.fecUncorrectable port)).setPort port (p.setLane lane { p.lane lane with errors := (p.lane lane).errors + 1 })
    let f := flitOf b
    if fecOk && flitChecks b then
      let c := s.flitCourse f
      if f.slot = 31 then s
      else
        match s.landingAt port lane f.slot c with
        | none => s.failFlit port lane slot f.slot c (some f)
        | some l =>
          let dist := (s.route l.route).any s.distribution
          if l.route ≠ f.route ∨ (l.flit ≠ f.index ∧ !dist) ∨ 28 ≤ f.slot then s.failFlit port lane slot f.slot c (some f)
          else
            let p := s.port port
            let s := s.setPort port
              (p.setLane lane ((p.lane lane).judge (s.slotCourse port lane slot (some f)) slot false))
            if dist then (s.bump (Reg.flitsLanded port)).takeDistribution port c lane f.slot f.granules
            else
              let p := s.port port
              if p.seen.contains (f.route, f.index, f.tag) then s
              else
                let recent := p.seen.filter fun x => decide (s.prog.course ≤ nearestCourse s.prog.course 5 x.2.2 + 12)
                (s.setPort port { p with seen := (f.route, f.index, f.tag) :: recent }).fileFlit port slot f l
    else s.failFlit port lane slot slot s.prog.course none

def execFlitReceived (port lane slot : Nat) (flit : Bytes) (fecOk : Bool) (corrected : Nat) (s : State) :
    Host.Outcome State Fault Refusal :=
  s.onUnit "FLIT_RECEIVED" (portOk port && laneOk lane && flitSlotOk slot && decide (flit.length = 264))
    (s.takeFlit port lane slot flit fecOk corrected)

/-- LATE_FLIT_WRITE (R232): the first late flit of a port. -/
def State.writeLate (s : State) (port : Nat) : State :=
  let p := s.port port
  match p.late with
  | [] => s
  | f :: r => ((s.setPort port { p with late := r }).bumpBy (Reg.lateGranules port) f.count).writeFlit port f

def execLateFlitWrite (port : Nat) (s : State) : Host.Outcome State Fault Refusal :=
  s.onUnit "LATE_FLIT_WRITE" (portOk port && s.portRole port == 0) (s.writeLate port)

/-- The flits of a port whose write course the plan course has reached, written on time in a plan course (R232). -/
def State.landDue (s : State) (port : Nat) : State :=
  let p := s.port port
  let due (f : Flit) : Bool := !s.relays f.route &&
    ((List.range 8).any fun lane => (s.landingAt port lane f.slot (s.flitCourse f)).any fun l =>
      l.route == f.route && l.flit == f.index && decide (s.flitCourse f + l.delta ≤ s.prog.course))
  let now := p.landing.filter due
  now.foldl (fun s f => s.writeFlit port f) (s.setPort port { p with landing := p.landing.filter fun f => !due f })

/-! ### Reports and retries (R227 to R230) -/

/-- What one report says of the flits of a sender course on a lane: failed ones queue, the others are released. -/
def State.applyReport (s : State) (port lane tag map : Nat) : State :=
  let p := s.port port
  let l := p.lane lane
  let mine := l.sent.filter fun e => e.2.tag == tag
  let again := l.retried.filter fun e => e.1 == tag
  let failed := (mine.filter fun e => bit map e.2.slot).map (·.2)
  let refailed := (again.filter fun e => bit map (min e.2.1 28)).map (·.2.2)
  let l' := { l with sent := l.sent.filter fun e => e.2.tag != tag, retried := l.retried.filter fun e => e.1 != tag }
  (s.setPort port (p.setLane lane l')).queueRetry port lane (failed ++ refailed)

/-- LINK_REPORT. -/
def State.takeReport (s : State) (port lane w : Nat) : State :=
  if s.awake = false ∨ wordChecks w = false then s
  else
    let s := if bit w 76 then s.applyReport port lane (bits w 71 5) (bits w 42 29) else s
    if bit w 111 then s.applyReport port lane (bits w 106 5) (bits w 77 29) else s

def execLinkReport (port lane word : Nat) (s : State) : Host.Outcome State Fault Refusal :=
  s.onUnit "LINK_REPORT" (portOk port && laneOk lane && word128Ok word && s.portRole port == 0)
    (s.takeReport port lane word)

/-- REPORT_TIMEOUT (R229): every flit of a course still unreported 4 courses after it left is queued. -/
def State.reportLate (s : State) (port lane course : Nat) : State :=
  let l := (s.port port).lane lane
  let tag := course % 32
  let old (t : Nat) : Bool := decide (t + 4 ≤ s.time.localCount)
  if l.sent.any (fun e => e.2.tag == tag && old e.1) || (old l.resent.1 && l.retried.any fun e => e.1 == tag) then
    (s.applyReport port lane tag (2 ^ 29 - 1)).bump (Reg.reportTimeouts port)
  else s

def execReportTimeout (port lane course : Nat) (s : State) : Host.Outcome State Fault Refusal :=
  s.onUnit "REPORT_TIMEOUT" (portOk port && laneOk lane && s.portRole port == 0) (s.reportLate port lane course)

/-- The present course carries plan work. -/
def State.working (s : State) : Bool :=
  match s.prog.kind with
  | .work _ => true
  | .idle | .slip _ | .rest _ | .grout _ | .lead | .phase | .held => false

/-- Flits resent on a lane in the present external course. -/
def State.resentNow (s : State) (l : Lane) : Nat := if l.resent.1 = s.time.localCount then l.resent.2 else 0

/-- LINK_RETRY (R226, R228): the oldest failed flit of a lane goes again, its header unchanged; in a joint the one of the
retry slot, in a course without plan work one of 30. -/
def State.retryFlit (s : State) (port lane : Nat) : State :=
  let p := s.port port
  let l := p.lane lane
  match l.retries with
  | [] => s
  | f :: r =>
    let k := s.resentNow l
    if l.status ≠ 2 ∨ (s.power.mode ≠ .run ∧ s.power.mode ≠ .hold) ∨ s.limewash ∨ (if s.working then 1 else 30) ≤ k then s
    else
      let tag := s.prog.course % 32
      let pos := if s.working then 28 else k
      let s := s.setPort port (p.setLane lane
        { l with retries := r, retried := l.retried ++ [(tag, pos, f)], resent := (s.time.localCount, k + 1) })
      let s := ((s.bump (Reg.flitsSent port)).bump (Reg.retriesSent port)).bumpBy Reg.retryFlits (flagNat s.working)
      s.emit (.flit port lane pos f)

def execLinkRetry (port lane : Nat) (s : State) : Host.Outcome State Fault Refusal :=
  s.onUnit "LINK_RETRY" (portOk port && laneOk lane && s.portRole port == 0) (s.retryFlit port lane)

/-- Control slot 1 of a lane (R227). -/
def Lane.reportWord (l : Lane) : Nat :=
  let part (r : Option (Nat × Nat)) (valid tag map : Nat) : Nat :=
    match r with
    | none => 0
    | some (t, m) => 2 ^ valid + t % 32 * 2 ^ tag + m % 2 ^ 29 * 2 ^ map
  let w := part l.reportA 111 106 77 + part l.reportB 76 71 42 + l.retries.length % 2 ^ 16 * 2 ^ 26
  crc16 (leBytes 14 w) * 2 ^ 112 + w

/-! ### Relays (R235) -/

/-- Relayed flits whose relay course is `c` (R235): those that the landing maps bring in the sender course whose slot
entry in the relay's own plan lies that many courses later (assumption 46); each with its port. -/
def State.relayedIn (s : State) (c : Nat) : List Landing :=
  match s.thePlan with
  | none => []
  | some p => p.landings.filter fun x =>
      x.variant == s.reg Reg.activeVariant && s.relays x.route && (s.route x.route).any fun r =>
        (r.slots.find? fun y => y.flit == x.flit).any fun y =>
          decide (s.prog.launchCourse + y.offset ≤ c) && x.position == s.position p (c - y.offset)

/-- The inputs that relaying in the next plan course needs: each flit landed by cycle 543 of this one (R235). -/
def State.relayInputs (s : State) : State :=
  let due := s.prog.course
  s.mapProg fun q =>
    { q with inputs := q.inputs ++
        (s.relayedIn (due + 1)).map fun x => { need := .relay x.port x.route x.flit, due := due, cause := 1 } }

/-- RELAY_FORWARD: in a plan course the landed flit leaves under a new Slot and CourseTag; where this module adds its own
granules, it enters the tree's node at the port's interface (R235, R236). Nothing is forwarded that has not landed. -/
def State.relayFlit (s : State) (port route index egress lane slot : Nat) : State :=
  let p := s.port port
  if s.relays route = false ∨ s.issues = false then s
  else
    match p.landing.find? fun f => f.route == route && f.index == index with
    | none => s
    | some f =>
      let s := s.setPort port { p with landing := p.landing.erase f }
      let s := (s.bump (Reg.flitsLanded port)).bump Reg.relayFlits
      match (s.route route).filter fun r => r.tree != 0xFFFF && r.add with
      | some r => s.enterNode 256 route r true (4 * index) index r.node (port / 4) (100 + port % 4) f.granules
      | none => s.sendFlit egress lane 0 { f with slot := slot, tag := s.prog.course % 32 }

def execRelayForward (port route flitIndex egress lane slot : Nat) (s : State) : Host.Outcome State Fault Refusal :=
  s.onUnit "RELAY_FORWARD"
    (portOk port && portOk egress && laneOk lane && decide (slot < 28) && s.portRole port == 0 && s.portRole egress == 0)
    (s.relayFlit port route flitIndex egress lane slot)

/-! ### Lanes (R243) -/

/-- LinkState from the lanes (R243): the first row that applies. -/
def Port.linkState (p : Port) : Nat :=
  let st := (List.range 8).map fun l => (p.lane l).status
  if st.all (· == 2) then 2
  else if st.any (· == 3) then 3
  else if st.any (· == 1) then (if st.any (· == 2) then 3 else 1)
  else if st.any (· == 2) then 4
  else 0

/-- Lanes that are not up. -/
def Port.downMask (p : Port) : Nat := bitSet ((List.range 8).filter fun l => (p.lane l).status != 2)

/-- The link is Down: a session that loads from this port ends (R361). -/
def State.sourceDown (s : State) (port : Nat) : State :=
  if s.weights.session.any fun x => x.port == port then s.endSession else s

/-- LinkState follows the lanes; entry to Up sends LinkUp, and a port that is all up again has no requested retrain. -/
def State.refreshLink (s : State) (port : Nat) : State :=
  let p := s.port port
  let old := s.reg (Reg.linkState port)
  let new := p.linkState
  let s := s.setReg (Reg.linkState port) new
  let s := if new = 2 ∨ new = 4 ∨ new = 0 then s.setPort port { p with requested := false } else s
  if new = 2 ∧ old ≠ 2 then
    s.notice Note.linkUp (srcPort port)
      (u8 port ++ u16 (s.reg (Reg.partnerDeviceId port)) ++ u8 (s.reg (Reg.partnerPort port)) ++ u32 (s.reg (Reg.portDelay port)))
  else if new = 0 ∧ old ≠ 0 then s.sourceDown port
  else s

/-- LinkDown (R249). -/
def State.noticeLinkDown (s : State) (port cause : Nat) : State :=
  s.notice Note.linkDown (srcPort port) (u8 port ++ u8 (s.port port).downMask ++ u8 cause)

/-- LANE_DOWN: loss of signal (1), or LaneErrorLimit reached (2); a fast retrain starts. -/
def State.laneFails (s : State) (port lane cause : Nat) : State :=
  let p := s.port port
  let l := p.lane lane
  if l.status ≠ 2 ∨ (cause = 2 ∧ l.errors < s.reg Reg.laneErrorLimit) then s
  else
    let s := s.setPort port (p.setLane lane { l with status := 3 })
    let s := (s.bump Reg.laneDowns).bump (Reg.retrains port)
    (s.refreshLink port).noticeLinkDown port cause

def execLaneDown (port lane cause : Nat) (s : State) : Host.Outcome State Fault Refusal :=
  s.onUnit "LANE_DOWN" (portOk port && laneOk lane && decide (s.portRole port ≤ 1) && (cause == 1 || cause == 2))
    (s.laneFails port lane cause)

/-- LANE_RETRAIN_DONE: a fast retrain that fails is followed by a full training; one that fails leaves the lane
down. -/
def State.laneTrained (s : State) (port lane : Nat) (full ok : Bool) : State :=
  let p := s.port port
  let l := p.lane lane
  if (if full then l.status = 0 ∨ l.status = 1 else l.status = 3) then
    let st := if ok then 2 else if full then 0 else 1
    let s := s.setPort port (p.setLane lane { l with status := st, errors := if ok then 0 else l.errors })
    let s := s.refreshLink port
    if full && !ok then s.noticeLinkDown port 4 else s
  else s

def execLaneRetrainDone (port lane : Nat) (full ok : Bool) (s : State) : Host.Outcome State Fault Refusal :=
  s.onUnit "LANE_RETRAIN_DONE" (portOk port && laneOk lane && decide (s.portRole port ≤ 1)) (s.laneTrained port lane full ok)

/-- Every lane of a port in one status. -/
def Port.allLanes (p : Port) (st : Nat) : Port :=
  (List.range 8).foldl (fun p l => p.setLane l { p.lane l with status := st }) p

/-- Retrain's own conditions (R246). -/
def State.judgeRetrain (port : Nat) (s : State) : Nat :=
  let l := s.reg (Reg.linkState port)
  if l = 0 ∨ l = 1 then rcStateRefused else rcOk

/-- A fast retrain of every lane begins. -/
def State.startRetrain (port : Nat) (s : State) : State :=
  let p := s.port port
  let s := s.setPort port { p.allLanes 3 with phase := 3, requested := true }
  (s.bump (Reg.retrains port)).setReg (Reg.linkState port) 3

/-- RETRAIN. -/
def execRetrain (v : Via) (port value : Nat) (s : State) : Host.Outcome State Fault Refusal :=
  s.onUnit "RETRAIN" (portOk port)
    (s.writeNumber v (0x7100 + port) 0x10 7 value fun s =>
      s.governed (State.judgeRetrain port) 7 port value (State.startRetrain port))

/-- The neighbour-table entry of a port in the plan that is armed or runs. -/
def State.neighbour (s : State) (port : Nat) : Option Neighbour :=
  let p := if s.prog.running then s.plan.running else s.plan.loaded
  match p with
  | none => none
  | some p => p.neighbours.find? fun n => n.port == port

/-- PARTNER_CHANGE (R245): LinkDown with cause 3, PartnerMismatch where a plan's neighbour table expects another
partner; the port trains anew. -/
def State.partnerChanges (s : State) (port device partnerPort : Nat) : State :=
  if s.reg (Reg.linkState port) ≠ 2 ∨
      (device = s.reg (Reg.partnerDeviceId port) ∧ partnerPort = s.reg (Reg.partnerPort port)) then s
  else
    let s := s.setPort port { (s.port port).allLanes 1 with phase := 1 }
    let s := (s.refreshLink port).noticeLinkDown port 3
    match s.neighbour port with
    | none => s
    | some n =>
      if n.partnerDevice = device ∧ n.partnerPort = partnerPort then s
      else s.notice Note.partnerMismatch (srcPort port) (u8 port ++ u16 n.partnerDevice ++ u16 device ++ u8 partnerPort)

def execPartnerChange (port deviceId partnerPort : Nat) (s : State) : Host.Outcome State Fault Refusal :=
  s.onUnit "PARTNER_CHANGE" (portOk port && decide (s.portRole port ≤ 1) && decide (deviceId < 2 ^ 15) && decide (partnerPort < 64))
    (s.partnerChanges port deviceId partnerPort)

/-! ### Training (R382 to R384) -/

/-- Sequence numbers restart at 0 and every message kept goes again (R253, R268). -/
def Port.restartQueue (p : Port) : Port :=
  { p with lastSeq := none, acked := none, nextSeq := p.queue.length % 128,
           queue := p.queue.zipIdx.map fun e => { e.1 with seq := e.2 % 128, sentAt := none } }

/-- A port enters Up with the identity last recorded. -/
def State.portUp (s : State) (port : Nat) : State :=
  let p := s.port port
  let s := match p.identity with
    | none => s
    | some i => (s.setReg (Reg.partnerDeviceId port) i.2.1).setReg (Reg.partnerPort port) i.2.2
  let s := s.setPort port { (p.allLanes 2).restartQueue with phase := 0 }
  s.refreshLink port

/-- Identity in a training word (R383): role, DeviceId, port. -/
def wordIdentity (w : Nat) : Nat × Nat × Nat := (bits w 106 2, bits w 91 15, bits w 85 6)

/-- A training word reports that the sender's receiver has completed a phase. -/
def wordReady (w phase : Nat) : Bool := wordChecks w && bits w 108 4 == phase && bit w 84

/-- Moves a port to a phase; in phases 1 to 6 its lanes train, or retrain where they did. -/
def State.toPhase (s : State) (port phase : Nat) : State :=
  let p := s.port port
  let p := if p.linkState = 0 then p.allLanes 1 else p
  (s.setPort port { p with phase := phase }).refreshLink port

/-- TRAINING_PHASE (R382): both sides have completed the present phase. -/
def State.trainPhase (s : State) (port w : Nat) : State :=
  let p := s.port port
  let ready := wordReady w p.phase
  if p.phase = 1 ∨ p.phase = 2 then s.toPhase port (p.phase + 1)
  else if p.phase = 3 ∧ ready then s.toPhase port 4
  else if p.phase = 4 ∧ ready then
    let fast := (List.range 8).any fun l => (p.lane l).status == 3
    s.toPhase port (if fast && p.identity == some (wordIdentity w) then 6 else 5)
  else if p.phase = 5 ∧ p.linkState = 0 then s
  else if p.phase = 5 ∧ ready then
    let i := wordIdentity w
    if i.1 ≠ s.portRole port ∨ i.2.1 = 0x7FFF ∨ s.reg Reg.deviceId = 0x7FFF then s
    else
      let s := s.setPort port { p with identity := some i }
      s.toPhase port 6
  else if p.phase = 6 ∧ ready then s.portUp port
  else s

def execTrainingPhase (port word : Nat) (s : State) : Host.Outcome State Fault Refusal :=
  s.onUnit "TRAINING_PHASE" (portOk port && word128Ok word && decide (s.portRole port ≤ 1)) (s.trainPhase port word)

/-- TRAINING_TIMEOUT: from phase 1 again. -/
def State.trainTimeout (s : State) (port : Nat) : State :=
  let p := s.port port
  if 1 ≤ p.phase ∧ p.phase ≤ 6 then
    ((s.bump Reg.trainingTimeouts).setPort port { p.allLanes 1 with phase := 1 }).refreshLink port
  else s

def execTrainingTimeout (port : Nat) (s : State) : Host.Outcome State Fault Refusal :=
  s.onUnit "TRAINING_TIMEOUT" (portOk port && decide (s.portRole port ≤ 1)) (s.trainTimeout port)

/-- PORT_ROLE_MISMATCH (R384): the port stays Down in phase 5. -/
def State.roleMismatch (s : State) (port role device : Nat) : State :=
  let p := s.port port
  if p.phase = 5 ∧ role ≠ s.portRole port then
    let s := (s.bump Reg.roleMismatches).setPort port (p.allLanes 0)
    (s.refreshLink port).notice Note.portRoleMismatch (srcPort port) (u8 port ++ u8 role ++ u16 device)
  else s

def execPortRoleMismatch (port partnerRole partnerDevice : Nat) (s : State) : Host.Outcome State Fault Refusal :=
  s.onUnit "PORT_ROLE_MISMATCH" (portOk port && decide (s.portRole port ≤ 1)) (s.roleMismatch port partnerRole partnerDevice)

/-- DELAY_PROBE (R16, R233): half of the round trip less the turnaround; above Dmax in service DelayExceeded is
sent. -/
def State.probeDelay (s : State) (port roundTrip turnaround : Nat) : State :=
  let d := (roundTrip - turnaround) / 2
  let s := (s.emit (.probe port)).setReg (Reg.portDelay port) d
  match s.neighbour port with
  | none => s
  | some n =>
    if s.prog.running ∧ n.dmax < ceilDiv d 8 then
      s.notice Note.delayExceeded (srcPort port) (u8 port ++ u32 d ++ u32 n.dmax)
    else s

def execDelayProbe (port roundTrip8 turnaround8 : Nat) (s : State) : Host.Outcome State Fault Refusal :=
  s.onUnit "DELAY_PROBE" (portOk port && s.portRole port == 0)
    (if s.awake then s.probeDelay port roundTrip8 turnaround8 else s)

/-! ### Edges (R221, R249) -/

/-- A failed block suspends the plan for a course, or shares the suspension that stands (R221). -/
def State.suspendEdge (s : State) : State :=
  if s.prog.running = false ∨ s.prog.suspension.isSome then s
  else s.mapProg fun p => { p with suspension := some { waiting := [], edges := [], courses := 1, cause := 1 } }

/-- EDGE_BLOCK_FAILURE. -/
def execEdgeBlockFailure (edge : Nat) (s : State) : Host.Outcome State Fault Refusal :=
  s.onUnit "EDGE_BLOCK_FAILURE" (edgeOk edge && s.edgeOn edge) ((s.bump (Reg.blockFailures edge)).suspendEdge)

/-- An edge retrains. -/
def State.retrainEdge (s : State) (edge cause : Nat) : State :=
  if s.reg (Reg.edgeState edge) = 2 then s
  else
    let s := (s.setReg (Reg.edgeState edge) 2).bump (Reg.edgeRetrains edge)
    s.notice Note.edgeRetrain (srcEdge edge) (u8 edge ++ u8 cause)

/-- EDGE_RETRAIN: the resent block fails as well; the suspension waits for the edge. -/
def State.edgeFailsAgain (s : State) (edge : Nat) : State :=
  let s := ((s.bump (Reg.blockFailures edge)).suspendEdge).retrainEdge edge 1
  let wait (x : Suspension) : Suspension := if x.edges.contains edge then x else { x with edges := x.edges ++ [edge] }
  s.mapProg fun p => { p with suspension := p.suspension.map wait }

def execEdgeRetrain (edge : Nat) (s : State) : Host.Outcome State Fault Refusal :=
  s.onUnit "EDGE_RETRAIN" (edgeOk edge && s.edgeOn edge) (s.edgeFailsAgain edge)

/-- EDGE_LOSS_OF_LOCK. -/
def execEdgeLossOfLock (edge : Nat) (s : State) : Host.Outcome State Fault Refusal :=
  s.onUnit "EDGE_LOSS_OF_LOCK" (edgeOk edge && s.edgeOn edge) (s.retrainEdge edge 2)

/-- EDGE_RETRAIN_DONE. -/
def State.edgeUp (s : State) (edge : Nat) : State :=
  let s := s.setReg (Reg.edgeState edge) 1
  s.mapProg fun p => { p with suspension := p.suspension.map fun x => { x with edges := x.edges.filter fun e => e != edge } }

def execEdgeRetrainDone (edge : Nat) (s : State) : Host.Outcome State Fault Refusal :=
  s.onUnit "EDGE_RETRAIN_DONE" (edgeOk edge && s.edgeOn edge) (s.edgeUp edge)

end Sys2Proof.Machine
end

