-- ==== Sys2Proof/Machine/Streams.lean ====
section
/-! DEFINITION. Streams: the stop matcher (R329, R332), draft lengths (R328), final and digest records (R331, R335), and
the SENDs that carry them (R333). -/

namespace Sys2Proof.Machine

/-! ### A slot's tokens -/

/-- Positions and tokens formed since admission, or since the takeover, oldest first. -/
def Slot.tokens (x : Slot) : List (Nat × Nat) := ((x.formed.zip x.recent).map fun e => (e.1.1, e.2)).reverse

/-- OutputDigest over the tokens below a position (R335). -/
def Slot.digestTo (x : Slot) (p : Nat) : Sponge :=
  (x.tokens.filter fun e => decide (e.1 < p)).foldl (fun d e => d.absorb (u32 e.2)) x.output

/-- The next position of the stream. -/
def Slot.nextPosition (x : Slot) : Nat :=
  match x.formed with
  | e :: _ => e.1 + 1
  | [] => if x.phase = 4 then x.committed + 1 else x.promptLength

/-- The first unvouched position (R317): the lowest among the records formed at or after the fault course. -/
def Slot.firstUnvouched (x : Slot) (fault : Nat) : Nat :=
  match ((x.formed.filter fun e => decide (fault ≤ e.2)).map (·.1)) with
  | [] => x.nextPosition
  | p :: r => r.foldl min p

/-! ### The port buffer (R333) -/

/-- Places of a queue pair's quota, and those that token records may use. -/
def Qp.quota (q : Qp) : Nat := field q.record 26 4
def Qp.tokenFits (q : Qp) : Bool := decide ((q.buffer.filter fun e => e.kind == 0).length + 64 < q.quota)

/-- The records that have places: all up to the 65th final or digest record. -/
def placedRecords (kept : Nat) (l : List Queued) : List Queued :=
  match l with
  | [] => []
  | e :: r =>
    if e.kind = 0 then e :: placedRecords kept r
    else
      match kept with
      | 0 => []
      | k + 1 => e :: placedRecords k r
def Qp.placed (q : Qp) : List Queued := placedRecords 64 q.buffer

/-- A slot's final or digest record waits for a place. -/
def State.recordWaits (s : State) (slot : Nat) : Bool :=
  let q := s.qp (s.slot slot).qp
  (q.buffer.drop q.placed.length).any fun e => e.slot == slot

/-- Records join the buffer of a return queue pair. -/
def State.queueRecords (s : State) (qp : Nat) (l : List Queued) : State :=
  let q := s.qp qp
  s.setQp qp { q with buffer := q.buffer ++ l }

/-! ### Records (R332, R335, R513) -/

/-- The record that the matcher forms: `flags` holds bits [111:107]. -/
def State.formRecord (s : State) (x : Slot) (tok pos reason flags : Nat) : Bytes :=
  let again := if pos ≤ x.reemit then 2 ^ 110 else 0
  leBytes 16
    (x.tint % 2 ^ 12 * 2 ^ 116 + reason % 16 * 2 ^ 112 + flags + again + s.stamp % 2 ^ 32 * 2 ^ 64 + pos % 2 ^ 32 * 2 ^ 32 +
      tok % 2 ^ 32)

/-- Options bit 0: the digest is wanted. -/
def Slot.wantsDigest (x : Slot) : Bool := bit (byteAt x.params 4) 0

/-- WeightDigest of a generation, and of an adapter. -/
def State.generationDigest (s : State) (g : Nat) : Bytes :=
  match s.sideOf g with
  | none => zeros 32
  | some i => padTo 32 (s.blob (Blob.weightDigest i))
def State.adapterDigest (s : State) (a : Nat) : Bytes :=
  if a = 0xFFFF then zeros 32 else padTo 32 (Map.get s.weights.adapterDigests [] a)

/-- The provenance digest (R296) of a stream up to a position. -/
def State.provenance (s : State) (x : Slot) (p : Nat) : Bytes :=
  let fresh := (x.tokens.filter fun e => decide (p ≤ e.1)).length
  sha3
    (padTo 32 (s.blob Blob.runningPlanDigest) ++ s.generationDigest x.generation ++ s.adapterDigest x.adapter ++
      padTo 32 x.inputDigest ++ s.unitMapDigest ++ u32 (s.reg Reg.firmwareVersion) ++ u32 (s.reg Reg.patternBookVersion) ++
      u8 (s.reg Reg.numericClass) ++ u8 x.generation ++ u16 x.adapter ++ zeros 4 ++ (x.digestTo p).digest ++
      u64 (x.generated - fresh) ++ zeros 40)

/-- The digest records that follow a final record. -/
def State.digestRecords (s : State) (slot : Nat) (p : Nat) : List Queued × State :=
  let x := s.slot slot
  if x.wantsDigest then
    let d := s.provenance x p
    ([⟨3, slot, slice d 0 16⟩, ⟨3, slot, slice d 16 16⟩], s.bump Reg.provenanceDigests)
  else ([], s)

/-- Ends a stream with a final record without a token (R331): nothing once a final record is out. -/
def State.endStream (s : State) (slot reason : Nat) : State :=
  let x := s.slot slot
  if x.finalSent then s
  else
    let pos := match x.fault with
      | some c => if 5 ≤ reason ∧ reason ≤ 7 then x.firstUnvouched c else x.nextPosition
      | none => x.nextPosition
    let flags := 2 ^ 111 + flagNat x.wantsDigest * 2 ^ 108
    let final : Queued := ⟨2, slot, s.formRecord x 0xFFFFFFFF pos reason flags⟩
    let (digest, s) := s.digestRecords slot pos
    (s.setSlot slot { x with finalSent := true, reason := reason }).queueRecords x.qp (final :: digest)

/-! ### The stop matcher (R329) -/

/-- End token ids, and stop sequence j, of a slot. -/
def Slot.endTokens (x : Slot) : List Nat := (List.range (min 8 (byteAt x.params 24))).map fun i => bits (field x.params 32 20) (20 * i) 20
def Slot.stopSequence (x : Slot) (j : Nat) : List Nat :=
  (List.range (byteAt x.params (25 + j))).map fun i => bits (field x.params 52 160) (20 * (16 * j + i)) 20

/-- The last tokens, this one included, are stop sequence j. -/
def Slot.stopsAt (x : Slot) (tok j : Nat) : Bool :=
  let q := x.stopSequence j
  !q.isEmpty && ((tok :: x.recent).take q.length).reverse == q

/-- The stop reason of the next token; 0 for none. -/
def Slot.stopReason (x : Slot) (tok : Nat) : Nat :=
  if x.endTokens.contains tok then 1
  else if [0, 1, 2, 3].any (x.stopsAt tok) then 2
  else if x.generated + 1 = field x.params 0 4 then 3
  else 0

/-! ### Draft lengths (R328, R342) -/

/-- What a round with k > 0 and `a` accepted drafts leaves: DraftLength, Z, tokens of a pause. -/
def draftAfter (k a z top : Nat) : Nat × Nat × Nat :=
  if k ≤ a then (min top (2 * k), 0, 0)
  else if 0 < a then (k, 0, 0)
  else if z + 1 = 8 then (0, 8, 64)
  else if z + 1 = 2 ∨ z + 1 = 4 ∨ z + 1 = 6 then (max 1 (k / 2), z + 1, 0)
  else (k, z + 1, 0)

/-- An emitted token counts against a pause, which ends with DraftLength 1 and Z 0. -/
def Slot.countPause (x : Slot) : Slot :=
  if x.paused = 0 then x
  else if x.paused = 1 then { x with paused := 0, draft := 1, zeroRun := 0 }
  else { x with paused := x.paused - 1 }

/-- AcceptanceRate (R342). -/
def rate32 (a b : Nat) : Nat :=
  if b = 0 then 0 else (fp32.round false false false (a * 2 ^ 64 / b) (-64) (decide (a * 2 ^ 64 % b ≠ 0))).1

/-- The counters of a round. -/
def State.countRound (s : State) (k a : Nat) (paused : Bool) : State :=
  let s := ((s.bump Reg.rounds).bumpBy Reg.draftsProposed k).bumpBy Reg.draftsAccepted a
  let s := (s.bumpBy Reg.zeroAcceptRounds (flagNat (a == 0))).bumpBy Reg.suspensions (flagNat paused)
  s.setReg Reg.acceptanceRate (rate32 (s.reg Reg.draftsAccepted) (s.reg Reg.draftsProposed))

/-- The round that ends with this record adjusts k. -/
def State.endRound (s : State) (slot : Nat) : State :=
  let x := s.slot slot
  let k := x.draft
  let a := x.accepted
  if k = 0 then s.setSlot slot { x with accepted := 0 }
  else
    let r := draftAfter k a x.zeroRun (x.param 37 1)
    let s := s.setSlot slot { x with accepted := 0, draft := r.1, zeroRun := r.2.1, paused := r.2.2 }
    s.countRound k a (decide (r.2.2 ≠ 0))

/-! ### Records of the plan (R332) -/

/-- The token joins the stream. -/
def Slot.take (x : Slot) (course tok pos : Nat) (drafted : Bool) : Slot :=
  { x.countPause with
    committed := pos, nextToken := tok, generated := x.generated + 1, recent := tok :: x.recent,
    formed := (pos, course) :: x.formed, emitted := max x.emitted pos, phase := 3,
    accepted := x.accepted + flagNat drafted }

/-- The slot's Phase and DraftLength after the record are kept for the handoff half (R321). -/
def State.keepHistory (s : State) (slot : Nat) : State :=
  let x := s.slot slot
  s.setSlot slot { x with history := (s.prog.course, x.phase, x.draft) :: x.history }

/-- A tint whose record finds its places full ends with reason 10 (R333). -/
def State.overrun (s : State) (slot : Nat) : State :=
  let x := s.slot slot
  let port := s.ingressPort (s.qp x.qp).ingress
  let s := (s.bump Reg.outputOverruns).notice Note.outputOverrun (srcSlot slot) (u8 port ++ u16 slot ++ u16 x.tint)
  let s := s.endStream slot 10
  s.setSlot slot { s.slot slot with state := 4, reason := 10, due := some s.prog.course }

/-- The matcher passes a record: `flags` is byte 14 as the plan sent it. -/
def State.passRecord (s : State) (slot tok pos flags reason : Nat) : State :=
  let x := s.slot slot
  let final := decide (reason ≠ 0)
  let bits_ := flagNat final * 2 ^ 111 + flagNat (bit flags 0) * 2 ^ 109 + flagNat (final && x.wantsDigest) * 2 ^ 108 +
    flagNat (bit flags 1) * 2 ^ 107
  let record := s.formRecord x tok pos reason bits_
  let s := s.setSlot slot (x.take s.prog.course tok pos (bit flags 0))
  let s := if bit flags 1 then s.endRound slot else s
  let s := s.keepHistory slot
  if final then
    let (digest, s) := s.digestRecords slot (pos + 1)
    let y := s.slot slot
    let s := s.setSlot slot { y with state := 4, reason := reason, due := some s.prog.course, finalSent := true }
    s.queueRecords x.qp (⟨1, slot, record⟩ :: digest)
  else s.queueRecords x.qp [⟨0, slot, record⟩]

/-- A record of a stream in service. -/
def State.liveSlot (s : State) (slot : Nat) : Bool :=
  let x := s.slot slot
  s.prog.running && s.reg Reg.domainRole == 1 && x.state == 3 && decide (x.start ≤ s.prog.course) && !x.finalSent

/-- TOKEN_RECORD: 16 bytes; a Void place is dropped. -/
def State.takeRecord (s : State) (r : Bytes) : State :=
  let slot := field r 12 2
  let flags := byteAt r 14
  if r.length ≠ 16 ∨ bit flags 2 then s
  else if s.liveSlot slot = false then s.bump Reg.recordsDiscarded
  else
    let reason := (s.slot slot).stopReason (field r 0 4)
    if reason = 0 ∧ (s.qp (s.slot slot).qp).tokenFits = false then s.overrun slot
    else s.passRecord slot (field r 0 4) (field r 4 4) flags reason

def execTokenRecord (record : Bytes) (s : State) : Host.Outcome State Fault Refusal := s.done (s.takeRecord record)

/-! ### SENDs of records (R333) -/

/-- Records that one SEND may carry: PathMtu / 16. -/
def Qp.sendRecords (q : Qp) : Nat := if byteAt q.record 2 = 3 then 64 else if byteAt q.record 2 = 4 then 128 else 256

/-- RECORD_SEND; with its ingress link down the records wait (R405). -/
def State.sendRecords (s : State) (n : Nat) : State :=
  let q := s.qp n
  let l := q.placed.take q.sendRecords
  if q.state ≠ 1 ∨ q.isHeld ∨ l.isEmpty ∨ s.reg (Reg.ethLinkState q.ingress) = 0 then s
  else
    let s := s.setQp n { q with buffer := q.buffer.drop l.length }
    let s := s.bumpBy Reg.tokensEmitted (l.countP fun e => decide (e.kind ≤ 1))
    let s := s.bumpBy Reg.streamsEnded (l.countP fun e => e.kind == 1 || e.kind == 2)
    s.sendQp n 2 (l.flatMap (·.data))

def execRecordSend (qp : Nat) (s : State) : Host.Outcome State Fault Refusal := s.onUnit "RECORD_SEND" (qpOk qp) (s.sendRecords qp)

end Sys2Proof.Machine
end

