-- ==== Sys2Proof/Machine/Admission.lean ====
section
/-! DEFINITION. Admission: descriptors (R309 to R311), batches (R312 to R314), replies (R313), the checks of R310 and
R312, and the choice of slot and tint (R307, R503). -/

namespace Sys2Proof.Machine

/-! ### Sequence numbers (R263) -/

/-- The judgement of a sequence number against the counter C: 0 accepted, 1 a duplicate, 2 a gap. -/
def judgeSeq (c n : Nat) : Nat := if n = (c + 1) % 2 ^ 32 then 0 else if n ≤ c then 1 else 2

/-! ### Replies (R313) -/

/-- Counts a refusal (R340). -/
def State.countRefusal (s : State) (rc off : Nat) : State :=
  let s :=
    if rc = rcRangeError then s.bump Reg.refusedRange
    else if rc = rcNoRoom then s.bump Reg.refusedNoRoom
    else s.bump Reg.refusedOther
  (s.setReg Reg.lastRefusalCode rc).setReg Reg.lastRefusalField off

/-- Sends a reply: Result, FieldOffset, RequestNumber, tint, slot, generation, X and X + StartLead. -/
def State.reply (s : State) (qp rc off : Nat) (d : Bytes) (tint slot gen : Nat) (x : Nat × Nat) : State :=
  let q := s.qp qp
  (s.setQp qp { q with replies := q.replies + 1 }).sendQp qp 1
    (padTo 64 (u32 (q.replies + 1) ++ u16 rc ++ u16 off ++ slice d 8 8 ++ u16 tint ++ u16 slot ++ u8 gen ++ zeros 3 ++
      u64 x.1 ++ u64 x.2))

/-- A refusal for a batch that takes effect at X. Its generation, which is not bound, is a free value (assumption
41). -/
def State.refuse (s : State) (qp rc off : Nat) (d : Bytes) (x : Nat) : State :=
  let g := (Config.freeWord s.drawn).toNat % 256
  ((s.drew 1).countRefusal rc off).reply qp rc off d 0xFFFF 0xFFFF g (x, x + s.reg Reg.startLead)

/-- A refusal before any batch: the courses, too, are free values (assumption 41). -/
def State.refuseNow (s : State) (qp rc : Nat) (d : Bytes) : State :=
  let f (i : Nat) : Nat := (Config.freeWord (s.drawn + i)).toNat
  ((s.drew 3).countRefusal rc 0xFFFF).reply qp rc 0xFFFF d 0xFFFF 0xFFFF (f 0 % 256) (f 1, f 2)

/-! ### Descriptors (R311) -/

/-- Messages of requests, orders and reports are taken in Run and Hold. -/
def State.onAir (s : State) : Bool := s.power.mode == .run || s.power.mode == .hold

/-- A descriptor accepted in sequence. -/
def State.queueDescriptor (s : State) (qp : Nat) (d : Bytes) : State :=
  if s.reg Reg.domainRole ≠ 1 ∨ s.limewash ∨ s.onAir = false then s.refuseNow qp rcStateRefused d
  else if 256 ≤ s.serving.queue.length then
    let port := s.ingressPort (s.qp qp).ingress
    (s.refuseNow qp rcGoverned d).notice Note.descriptorQueueFull (srcQp qp) (u8 port ++ u32 (0x100000 + qp))
  else
    ({ s with serving := { s.serving with queue := s.serving.queue ++ [(qp, d)] } }).bump Reg.descriptorsReceived

/-- DESCRIPTOR. -/
def State.takeDescriptor (s : State) (qp : Nat) (d : Bytes) : State :=
  let q := s.qp qp
  if q.state ≠ 1 ∨ q.purpose ≠ 1 ∨ s.awake = false then s
  else if d.length ≠ 256 then s.bump Reg.descriptorsMalformed
  else
    let n := field d 0 4
    let j := judgeSeq q.received n
    if j = 1 then s.bump Reg.descriptorDuplicates
    else if j = 2 then s.bump Reg.descriptorGaps
    else (s.setQp qp { q with received := n }).queueDescriptor qp d

def execDescriptor (qp : Nat) (message : Bytes) (s : State) : Host.Outcome State Fault Refusal :=
  s.onUnit "DESCRIPTOR" (qpOk qp) (s.takeDescriptor qp message)

/-! ### The field checks (R310) -/

/-- Contexts of the slots (R338). -/
def State.contextOf (s : State) (slot : Nat) : Nat := field (s.blob Blob.slotContexts) (4 * slot) 4
def State.largestContext (s : State) : Nat := (List.range s.tintSlots).foldl (fun n i => max n (s.contextOf i)) 0

/-- A window that the running plan declares. -/
def State.window (s : State) (w : Nat) : Option IngressWindow := s.thePlan.bind fun p => p.windows.find? fun x => x.window == w

/-- A cancel (R310). -/
def isCancel (d : Bytes) : Bool := bit (byteAt d 5) 0

/-- A positive normal FP32 value within bounds given as patterns. -/
def normalWithin (v lo hi : Nat) : Bool := decide (0x00800000 ≤ v ∧ lo ≤ v ∧ v ≤ hi)

/-- Twenty-bit token ids of a field: those in use lie below the vocabulary, the others are 0. -/
def idsOk (v : Nat) (used : Nat → Bool) (vocab n : Nat) : Bool :=
  (List.range n).all fun i =>
    let t := bits v (20 * i) 20
    if used i then decide (t < vocab) else t == 0

/-- The fields of R309 with their checks, in ascending offset: offset, and whether the field is accepted. The sum of
positions is judged at PromptLength (assumption 41). -/
def State.fieldChecks (s : State) (d : Bytes) : List (Nat × Bool) :=
  let opt := byteAt d 36
  let draft := byteAt d 37
  let spec := bit opt 1
  let vocab := s.reg Reg.vocabularySize
  let adapter := field d 18 2
  let total := field d 24 4 + field d 32 4 + draft
  let temp := field d 48 4
  [ (4, byteAt d 4 == 1),
    (5, decide (byteAt d 5 < 4)),
    (6, field d 6 2 == 0),
    (16, bit (byteAt d 5) 1 || byteAt d 16 == 0),
    (17, (s.window (byteAt d 17)).isSome),
    (18, decide (adapter < 1024) || adapter == 0xFFFF),
    (24, decide (1 ≤ field d 24 4 ∧ total ≤ s.largestContext)),
    (28, field d 28 4 == 0),
    (32, decide (1 ≤ field d 32 4)),
    (36, decide (opt < 4) && (!spec || s.reg Reg.draftAvailable == 1)),
    (37, if spec then decide (1 ≤ draft ∧ draft ≤ 16) else draft == 0),
    (38, decide (field d 38 2 ≤ 64)),
    (48, temp == 0 || normalWithin temp 0x3C800000 0x42800000),
    (52, normalWithin (field d 52 4) 0 0x3F800000),
    (56, decide (byteAt d 56 ≤ 8)),
    (57, (List.range 4).all fun j => decide (byteAt d (57 + j) ≤ 16)),
    (61, field d 61 3 == 0),
    (64, idsOk (field d 64 20) (fun i => decide (i < byteAt d 56)) vocab 8),
    (84, idsOk (field d 84 160) (fun i => decide (i % 16 < byteAt d (57 + i / 16))) vocab 64),
    (244, allZero (slice d 244 12)) ]

/-- The fields of a cancel: all but Sequence, LayoutVersion, Control and RequestNumber are 0. -/
def cancelChecks (d : Bytes) : List (Nat × Bool) :=
  let zero (off n : Nat) : Nat × Bool := (off, allZero (slice d off n))
  [ (4, byteAt d 4 == 1), (5, decide (byteAt d 5 < 4)), zero 6 2, zero 16 1, zero 17 1, zero 18 2, zero 20 4, zero 24 4,
    zero 28 4, zero 32 4, zero 36 1, zero 37 1, zero 38 2, zero 40 8, zero 48 4, zero 52 4, zero 56 1, zero 57 4, zero 61 3,
    zero 64 20, zero 84 160, zero 244 12 ]

/-- The offset of the first field that fails. -/
def State.badField (s : State) (d : Bytes) : Option Nat :=
  ((if isCancel d then cancelChecks d else s.fieldChecks d).find? fun e => !e.2).map (·.1)

/-! ### Residence (R349, R316, R544) -/

/-- The switch that is pending takes effect at or before X. -/
def State.switchedBy (s : State) (x : Nat) : Bool :=
  s.reg Reg.pendingSwitch != allOnes64 && decide (s.reg Reg.pendingSwitch ≤ x)

/-- The generation in force at X; 0 for none. -/
def State.inForceAt (s : State) (x : Nat) : Nat :=
  if s.switchedBy x then
    match s.sideIn 2 with
    | some i => s.reg (Reg.sideGeneration i)
    | none => s.reg Reg.inForce
  else s.reg Reg.inForce

/-- The generation is withheld (R544). -/
def State.withheld (s : State) (gen : Nat) : Bool := bit (byteAt (s.blob Blob.withheldGenerations) (gen / 8)) (gen % 8)

/-- Check 5 of R312. -/
def State.residentAt (s : State) (gen x : Nat) (pinned : Bool) : Bool :=
  !s.withheld gen && gen != 0 &&
    (match s.sideOf gen with
    | none => false
    | some i =>
      let st := s.reg (Reg.sideState i)
      if s.switchedBy x then st == 2 else st == 3 || (pinned && st == 2))

/-- Check 6 of R312. -/
def State.adapterAllowed (s : State) (a gen : Nat) : Bool :=
  a == 0xFFFF ||
    (bit (byteAt (s.blob Blob.adapterEnable) (a / 8)) (a % 8) && byteAt (s.blob Blob.adapterBases) a == gen)

/-- The generation and the adapter of an admit order are resident on this module (R316). -/
def State.orderReady (s : State) (gen adapter : Nat) : Bool :=
  ((s.sideOf gen).any fun i => s.reg (Reg.sideState i) == 2 || s.reg (Reg.sideState i) == 3) &&
    (adapter == 0xFFFF || s.adapterState adapter == 2)

/-! ### The prompt (R309, R335) -/

/-- Prompt tokens that a record of a window carries. -/
def IngressWindow.tokens (w : IngressWindow) : Nat := 16 * w.granules - 1

/-- Records that a prompt needs. -/
def IngressWindow.recordsFor (w : IngressWindow) (n : Nat) : Nat := ceilDiv n (max 1 w.tokens)

/-- Check 7 of R312. -/
def State.promptLanded (s : State) (w : IngressWindow) (first len : Nat) : Bool :=
  let c := s.reg (Reg.landingCounter w.window)
  decide (first + w.recordsFor len - 1 ≤ c ∧ c < first + w.positions)

/-- The module address of a record of a window. -/
def State.recordAddress (s : State) (w : IngressWindow) (n : Nat) : Nat :=
  let base := match s.thePlan with
    | none => 0
    | some p => ((p.regionId w.region).map (·.base)).getD 0
  base + n % max 1 w.positions * (w.granules * 64)

/-- The prompt tokens, as they stand in the window, four bytes each. -/
def State.promptBytes (s : State) (w : IngressWindow) (first len : Nat) : Bytes :=
  ((List.range (w.recordsFor len)).flatMap fun i =>
    (s.load (s.recordAddress w (first + i)) (w.granules * 64)).drop 4).take (4 * len)

/-! ### Slots and tints (R307, R312 check 8, R503) -/

/-- Admit orders built here that have not been applied. -/
def State.reserved (s : State) : List Order := (s.serving.batches.flatMap (·.orders)).filter fun o => o.kind == 1

/-- The batches of a slot are unbound or bound to a generation, orders not yet applied included (R349). -/
def State.bindingOpen (s : State) (held : List Order) (slot gen : Nat) : Bool :=
  (s.batchesOf slot).all fun b =>
    (s.boundTo b == 0 || s.boundTo b == gen) &&
      held.all fun o => o.generation == gen || !(s.batchesOf o.slot).contains b

/-- A slot that check 8 accepts. -/
def State.slotOpen (s : State) (held : List Order) (x need gen slot : Nat) : Bool :=
  let t := s.slot slot
  t.state == 0 && s.owns slot && !held.any (fun o => o.slot == slot) && decide (need ≤ s.contextOf slot) &&
    decide (t.releaseCourse + s.reg Reg.reuseDelay ≤ x) && s.bindingOpen held slot gen

/-- The tint id of R307, within the limit of R503. -/
def State.chooseTint (s : State) (held : List Order) (slot : Nat) : Nat :=
  let borne := ((List.range s.tintSlots).map fun i => (s.slot i).tint) ++ held.map (·.tint)
  let mine (t : Nat) : Bool := s.reg Reg.bondMode != 3 || t % 2 == s.reg Reg.bondSide
  ((List.range 4096).find? fun t => mine t && !borne.contains t).getD (s.slot slot).tint

/-! ### Orders -/

/-- An order with nothing set. -/
def Order.blank : Order :=
  { kind := 0, reason := 0, slot := 0, tint := 0, generation := 0, variant := 0, adapter := 0, start := 0, quoin := 0,
    resume := 0, qp := 0, descriptor := [], input := [] }

/-- The 64 bytes of an order (R314). -/
def Order.encode (o : Order) : Bytes :=
  padTo 64 (u8 o.kind ++ u8 o.reason ++ u16 o.slot ++ u16 o.tint ++ u8 o.generation ++ u8 o.variant ++ u16 o.adapter ++
    zeros 6 ++ u64 o.start ++ u64 o.quoin ++ u64 o.resume)

/-- An order as a member reads it. -/
def Order.decode (b : Bytes) : Order :=
  { Order.blank with
    kind := byteAt b 0, reason := byteAt b 1, slot := field b 2 2, tint := field b 4 2, generation := byteAt b 6,
    variant := byteAt b 7, adapter := field b 8 2, start := field b 16 8, quoin := field b 24 8, resume := field b 32 8 }

/-- A release order. -/
def State.releaseOrder (s : State) (slot : Nat) : Order :=
  { Order.blank with kind := 2, reason := (s.slot slot).reason, slot := slot, tint := (s.slot slot).tint }

/-- The first quoin course not earlier than a plan course. -/
def State.quoinFrom (s : State) (x : Nat) : Nat :=
  match s.thePlan with
  | none => x
  | some p => if s.position p x = 0 then x else x + (p.period - s.position p x)

/-! ### One descriptor (R312) -/

/-- The tint that a cancel names (check 4). -/
def State.cancelTarget (s : State) (qp : Nat) (d : Bytes) : Option Nat :=
  (List.range s.tintSlots).find? fun i =>
    let t := s.slot i
    t.state == 3 && !t.cancelled && !t.ordered && t.qp == qp && t.request == field d 8 8

/-- A cancel. -/
def State.takeCancel (s : State) (qp : Nat) (d : Bytes) (x : Nat) : State × List Order :=
  match s.cancelTarget qp d with
  | none => (s.refuse qp rcAbsent 0xFFFF d x, [])
  | some i =>
    let s := s.endStream i 8
    let t := s.slot i
    let s := s.setSlot i { t with cancelled := true, ordered := true, reason := 8, due := some s.prog.course }
    (s.reply qp rcOk 0xFFFF d t.tint i t.generation (x, x + s.reg Reg.startLead), [s.releaseOrder i])

/-- Admits a descriptor to a slot. -/
def State.admitTo (s : State) (held : List Order) (qp : Nat) (d : Bytes) (x gen slot : Nat) (w : IngressWindow) :
    State × List Order :=
  let tint := s.chooseTint held slot
  let start := x + s.reg Reg.startLead
  let input := sha3 (slice d 32 212 ++ s.promptBytes w (field d 20 4) (field d 24 4))
  let o : Order := { Order.blank with
    kind := 1, slot := slot, tint := tint, generation := gen, adapter := field d 18 2, start := start, qp := qp,
    descriptor := d, input := input }
  ((s.bump Reg.admitted).reply qp rcOk 0xFFFF d tint slot gen (x, start), [o])

/-- An admission (checks 5 to 8). -/
def State.takeAdmission (s : State) (now : List Order) (qp : Nat) (d : Bytes) (x : Nat) : State × List Order :=
  let pinned := bit (byteAt d 5) 1
  let gen := if pinned then byteAt d 16 else s.inForceAt x
  if s.residentAt gen x pinned = false then (s.refuse qp rcStaleGeneration 0xFFFF d x, [])
  else if s.adapterAllowed (field d 18 2) gen = false then (s.refuse qp rcAbsent 0xFFFF d x, [])
  else
    match s.window (byteAt d 17) with
    | none => (s.refuse qp rcAbsent 0xFFFF d x, [])
    | some w =>
      if s.promptLanded w (field d 20 4) (field d 24 4) = false then (s.refuse qp rcAbsent 0xFFFF d x, [])
      else
        let need := field d 24 4 + field d 32 4 + byteAt d 37
        let held := s.reserved ++ now.filter fun o => o.kind == 1
        match (List.range s.tintSlots).find? (s.slotOpen held x need gen) with
        | none => (s.refuse qp rcNoRoom 0xFFFF d x, [])
        | some i => s.admitTo held qp d x gen i w

/-- A descriptor taken for the batch of X: the first check that fails decides the reply. -/
def State.judgeDescriptor (s : State) (now : List Order) (qp : Nat) (d : Bytes) (x : Nat) : State × List Order :=
  let s := s.bumpBy Reg.cancelled (flagNat (isCancel d))
  if s.limewash ∨ s.prog.halt.any (fun h => decide (h ≤ x)) ∨ s.reg Reg.vocabularySize = 0 then
    (s.refuse qp rcStateRefused 0xFFFF d x, [])
  else
    match s.badField d with
    | some off => (s.refuse qp rcRangeError off d x, [])
    | none => if isCancel d then s.takeCancel qp d x else s.takeAdmission now qp d x

/-! ### Building a batch (R312) -/

/-- Inserts a slot in ascending (course, slot) order. -/
def insertDue (e : Nat × Nat) (l : List (Nat × Nat)) : List (Nat × Nat) :=
  match l with
  | [] => [e]
  | f :: r => if e.1 < f.1 ∨ (e.1 = f.1 ∧ e.2 < f.2) then e :: f :: r else f :: insertDue e r

/-- Slots whose release is due and not yet ordered, in the order of R312. -/
def State.dueSlots (s : State) : List Nat :=
  let l := s.serving.slots.filter fun e => (e.2.state == 4 || e.2.state == 5) && !e.2.ordered
  ((l.map fun e => (e.2.due.getD 0, e.1)).foldl (fun l e => insertDue e l) []).map (·.2)

/-- Orders the release of one slot. An aborted stream gets its final record first; a slot whose final or digest record
waits for a place stays as it is (R333). -/
def State.orderRelease (s : State) (slot : Nat) : State × List Order :=
  let s := if (s.slot slot).state = 5 then s.endStream slot (s.slot slot).reason else s
  if s.recordWaits slot then (s, [])
  else (s.setSlot slot { s.slot slot with ordered := true }, [s.releaseOrder slot])

/-- Release orders until the batch holds 63 orders. -/
def State.orderReleases (slots : List Nat) (s : State) (orders : List Order) : State × List Order :=
  match slots with
  | [] => (s, orders)
  | i :: r =>
    if 63 ≤ orders.length then (s, orders)
    else
      let (s, o) := s.orderRelease i
      State.orderReleases r s (orders ++ o)

/-- The variant order of a switch that the governor chose (R312 step 3, R323). -/
def State.orderVariant (s : State) (x : Nat) (orders : List Order) : State × List Order :=
  match s.serving.chosen with
  | none => (s, orders)
  | some (v, f) =>
    if 63 ≤ orders.length then (s, orders)
    else
      let q := s.quoinFrom x
      let s := { s with serving := { s.serving with chosen := none } }
      let s := (s.setReg Reg.lastVariantOrder q).notice Note.variantOrdered srcModule (u8 v ++ u64 q ++ u32 f)
      (s, orders ++ [{ Order.blank with kind := 3, variant := v, quoin := q }])

/-- The head's AppliedMark as a resume mark; with none, course 0 (assumption 45). -/
def State.markOrZero (s : State) : Nat := if s.reg Reg.appliedMark = allOnes64 then 0 else s.reg Reg.appliedMark

/-- The takeover order that is due (R511). -/
def State.orderTakeover (s : State) (x : Nat) : State × List Order :=
  if s.bond.lost then
    let rm := min s.markOrZero (s.prog.course - s.reg Reg.mirrorWindow)
    let t := s.quoinFrom x
    ({ s with bond := { s.bond with lost := false, takeover := some (t, rm) } }, [{ Order.blank with kind := 4, quoin := t, resume := rm }])
  else (s, [])

/-- Takes queued descriptors until the batch holds 63 orders; none while the Keystone restarts (R516). -/
def State.takeQueue (fuel : Nat) (s : State) (x : Nat) (orders : List Order) : State × List Order :=
  match fuel, s.serving.queue with
  | fuel + 1, (qp, d) :: r =>
    if 63 ≤ orders.length ∨ s.keystoneDown then (s, orders)
    else
      let s := { s with serving := { s.serving with queue := r } }
      let (s, o) := s.judgeDescriptor orders qp d x
      State.takeQueue fuel s x (orders ++ o)
  | _, _ => (s, orders)

/-- The bytes of a batch (R314). -/
def State.batchBytes (s : State) (b : Batch) : Bytes :=
  padTo 64 (u32 b.seq ++ u16 b.orders.length ++ u16 (s.reg Reg.deviceId) ++ u64 b.effect) ++ b.orders.flatMap Order.encode

/-- Sends a batch to every member. -/
def State.sendBatch (s : State) (b : Batch) : State :=
  let m := s.batchBytes b
  (s.orderQps.take ((s.blob Blob.members).length / 2)).foldl (fun s q => (s.bump Reg.batchesSent).sendQp q 5 m) s

/-- Builds and sends the batch of X. -/
def State.buildFor (s : State) (x : Nat) : State :=
  let (s, o) := s.orderTakeover x
  let (s, o) := State.orderReleases s.dueSlots s o
  let (s, o) := s.orderVariant x o
  let (s, o) := State.takeQueue s.serving.queue.length s x o
  let b : Batch := { seq := s.serving.batchOut + 1, effect := x, orders := o }
  let v := { s.serving with batches := s.serving.batches ++ [b], batchOut := s.serving.batchOut + 1, built := x + 1 }
  ({ s with serving := v }).sendBatch b

/-- The first admission course not earlier than a plan course. -/
def State.admissionFrom (s : State) (x : Nat) : Nat :=
  match s.thePlan with
  | none => x
  | some p => x + (16 - s.position p x % 16) % 16

/-- The admission course whose batch is built next: the first is at least OrderLead after the launch (R312). -/
def State.nextBatch (s : State) : Nat :=
  s.admissionFrom (if s.serving.built = 0 then s.prog.launchCourse + s.reg Reg.orderLead else s.serving.built)

/-- BATCH_BUILD: at X − OrderLead. -/
def State.buildBatch (s : State) : State :=
  let x := s.nextBatch
  if s.prog.running ∧ s.reg Reg.domainRole = 1 ∧ s.power.mode = .run ∧ x ≤ s.prog.course + s.reg Reg.orderLead then s.buildFor x
  else s

def execBatchBuild (s : State) : Host.Outcome State Fault Refusal := s.done s.buildBatch

end Sys2Proof.Machine
end

