-- ==== Sys2Proof/Machine/Orders.lean ====
section
/-! DEFINITION. Orders at work: batches received (R315), orders applied (R316), abort reports (R317), the governor
(R323), and the end of a plan at its halt course (R331, R337). -/

namespace Sys2Proof.Machine

/-! ### Batches received (R315) -/

/-- The orders of a batch message. -/
def decodeOrders (n : Nat) (b : Bytes) : List Order :=
  match n with
  | 0 => []
  | n + 1 => Order.decode (b.take 64) :: decodeOrders n (b.drop 64)

/-- A batch judged by its sequence number. -/
def State.judgeBatch (s : State) (m : Bytes) : State :=
  let n := field m 0 4
  let c := s.serving.batchIn
  let j := judgeSeq c n
  if j = 0 then
    let b : Batch := { seq := n, effect := field m 8 8, orders := decodeOrders (field m 4 2) (m.drop 64) }
    { s with serving := { s.serving with batchIn := n, batches := s.serving.batches ++ [b] } }
  else
    let s := s.bump Reg.batchDiscards
    if j = 2 then s.notice Note.batchSequenceGap srcModule (u32 (c + 1) ++ u32 n) else s

/-- ORDER_BATCH: on the order queue pair of a member, from its head, while a plan is armed or runs. -/
def State.takeBatch (s : State) (qp : Nat) (m : Bytes) : State :=
  let q := s.qp qp
  if q.state ≠ 1 ∨ q.purpose ≠ 3 ∨ s.onAir = false then s
  else if s.reg Reg.domainRole ≠ 2 ∨ field m 6 2 ≠ s.reg Reg.headDeviceId ∨ s.planActive = false ∨
      m.length ≠ 64 + 64 * field m 4 2 ∨ 63 < field m 4 2 then s.bump Reg.batchDiscards
  else s.judgeBatch m

def execOrderBatch (qp : Nat) (message : Bytes) (s : State) : Host.Outcome State Fault Refusal :=
  s.onUnit "ORDER_BATCH" (qpOk qp) (s.takeBatch qp message)

/-! ### Orders applied (R316) -/

/-- The batch of an admission course that has landed. -/
def State.batchFor (s : State) (x : Nat) : Option Batch := s.serving.batches.find? fun b => b.effect == x

/-- The admit orders of a batch. -/
def Batch.admits (b : Batch) : List Order := b.orders.filter fun o => o.kind == 1

/-- The conditions of an admit order (R316). -/
def State.admitReady (s : State) (o : Order) : Bool := (s.slot o.slot).state == 0 && s.orderReady o.generation o.adapter

/-- MemberNotReady, once for each admit order that waits for its generation or adapter (R316). -/
def State.noticeNotReady (s : State) (o : Order) : State :=
  if s.orderReady o.generation o.adapter ∨ s.serving.notReady.contains o.slot then s
  else
    let s := { s with serving := { s.serving with notReady := o.slot :: s.serving.notReady } }
    if s.orderReady o.generation 0xFFFF then s.notice Note.memberNotReady (srcSlot o.slot) (u16 o.slot ++ u8 1 ++ u16 o.adapter)
    else s.notice Note.memberNotReady (srcSlot o.slot) (u16 o.slot ++ u8 2 ++ u16 o.generation)

/-- The slot leaves for Clearing; the partner hears of it (R198, R507). -/
def State.freeSlot (s : State) (slot reason : Nat) : State :=
  let s := s.mirrorSlot 2 slot (u8 reason)
  let s := s.setSlot slot { s.slot slot with reason := reason }
  s.releaseSlot slot

/-- A release order that takes effect at X. -/
def State.applyRelease (x : Nat) (s : State) (o : Order) : State :=
  let st := (s.slot o.slot).state
  if o.slot < s.tintSlots ∧ 2 ≤ st ∧ st ≤ 5 then
    let s := s.freeSlot o.slot o.reason
    s.setSlot o.slot { s.slot o.slot with releaseCourse := x }
  else s

/-- The payload of an Admit record (R507). -/
def State.admitPayload (s : State) (slot : Nat) : Bytes :=
  let x := s.slot slot
  u8 x.generation ++ u8 0 ++ u16 x.adapter ++ u16 x.qp ++ u16 0 ++ u64 x.request ++ u64 x.start ++ u32 x.promptLength ++ u32 0 ++
    padTo 212 x.params

/-- The slot enters Stamping with the order's tint (R316); on the head it takes the descriptor too. -/
def State.applyAdmit (effect : Nat) (s : State) (o : Order) : State :=
  if o.slot < s.tintSlots ∧ s.admitReady o then
    let head := s.reg Reg.domainRole == 1
    let d := o.descriptor
    let x := s.slot o.slot
    let fresh : Slot :=
      { Slot.clear with
        state := 2, tint := o.tint, phase := flagNat head, epoch := x.epoch + 1, start := o.start, admission := effect,
        generation := o.generation, adapter := o.adapter, reason := x.reason, releasedAt := x.releasedAt,
        releaseCourse := x.releaseCourse }
    let own : Slot :=
      { fresh with
        request := field d 8 8, qp := o.qp, promptLength := field d 24 4, promptFirst := field d 20 4,
        promptWindow := byteAt d 17, params := slice d 32 212, inputDigest := o.input, draft := byteAt d 37 }
    let s := s.setSlot o.slot (if head then own else fresh)
    let s := s.bind o.slot o.generation
    let v := { s.serving with notReady := s.serving.notReady.filter fun i => i != o.slot }
    ({ s with serving := v }).mirrorSlot 1 o.slot (s.admitPayload o.slot)
  else s

/-- A variant order, and a takeover order (R286, R511). -/
def State.applyOther (s : State) (o : Order) : State :=
  if o.kind = 3 then s.mapProg fun p => { p with variant := some (o.variant, o.quoin) }
  else if o.kind = 4 then { s with bond := { s.bond with takeover := some (o.quoin, o.resume) } }
  else s

/-- BatchLate (R344): the batch slipped. -/
def State.noticeLate (s : State) (b : Batch) : State :=
  if s.serving.late = 0 then s
  else
    let n := s.serving.late
    ({ s with serving := { s.serving with late := 0 } }).notice Note.batchLate srcModule (u32 b.seq ++ u64 b.effect ++ u16 n)

/-- The orders of a batch: releases, then bindings that end, then admissions, then the others. -/
def State.applyBatch (s : State) (b : Batch) : State :=
  let s := { s with serving := { s.serving with batches := s.serving.batches.filter fun c => c.effect != b.effect } }
  let s := (b.orders.filter fun o => o.kind == 2).foldl (State.applyRelease b.effect) s
  let s := b.admits.foldl (State.applyAdmit b.effect) s.unbind
  let s := b.orders.foldl State.applyOther s
  ((s.bump Reg.batchesApplied).setReg Reg.lastBatchSequence b.seq).noticeLate b

/-- ORDER_APPLY: at cycle 0 of admission course X; bindings and sides are settled at every one (R348, R363). -/
def State.applyOrders (s : State) : State :=
  match s.reachedAdmission with
  | none => s
  | some x =>
    if s.haltDue then s
    else
      match s.batchFor x with
      | none => s.unbind.settleWeights
      | some b => if b.admits.all s.admitReady then (s.applyBatch b).settleWeights else s

def execOrderApply (s : State) : Host.Outcome State Fault Refusal := s.done s.applyOrders

/-! ### Abort reports (R317) -/

/-- A report from a member reaches its head on an order queue pair. -/
def State.headHears (s : State) (qp : Nat) (m : Bytes) : Bool :=
  (s.qp qp).state == 1 && (s.qp qp).purpose == 3 && s.reg Reg.domainRole == 1 && s.onAir && m.length == 64

/-- ABORT_REPORT. -/
def State.takeAbortReport (s : State) (qp : Nat) (m : Bytes) : State :=
  if s.headHears qp m then
    let slot := field m 4 2
    let s := s.bump Reg.abortReportsReceived
    if slot < s.tintSlots ∧ (s.slot slot).tint = field m 6 2 then
      s.markAborted slot (byteAt m 8) (field m 16 8) (field m 24 2)
    else s
  else s

def execAbortReport (qp : Nat) (message : Bytes) (s : State) : Host.Outcome State Fault Refusal :=
  s.onUnit "ABORT_REPORT" (qpOk qp) (s.takeAbortReport qp message)

/-- A takeover order becomes due on the head, once (R511). -/
def State.wantTakeover (s : State) : State :=
  if (s.reg Reg.bondState = 3 ∨ s.reg Reg.bondState = 4) ∧ s.bond.takeover.isNone ∧ s.bond.tookOver = false then
    { s with bond := { s.bond with lost := true } }
  else s

/-- BOND_REPORT (R510, R511). -/
def State.takeBondReport (s : State) (qp : Nat) (m : Bytes) : State := if s.headHears qp m then s.wantTakeover else s

def execBondReport (qp : Nat) (message : Bytes) (s : State) : Host.Outcome State Fault Refusal :=
  s.onUnit "BOND_REPORT" (qpOk qp) (s.takeBondReport qp message)

/-! ### The governor of variants (R323) -/

/-- The prefill share of a variant, as a fraction: logical clusters with role 1 or 3, and all of them. -/
def Plan.share (p : Plan) (v : Variant) : Nat × Nat :=
  ((v.roles.take p.placement.length).countP fun r => r == 1 || r == 3, max 1 p.placement.length)

/-- |a / b − c / d|, times b × d. -/
def apartBy (a b c d : Nat) : Nat := ((a * d : Int) - (c * b : Int)).natAbs

/-- The variant whose share is nearest the fraction; the lower number on a tie. -/
def Plan.nearest (p : Plan) (f : Nat × Nat) : Option Nat :=
  let dist (v : Variant) : Nat := apartBy (p.share v).1 (p.share v).2 f.1 f.2
  (p.variants.foldl (fun best v =>
    match best with
    | none => some v
    | some w => if dist v < dist w ∨ (dist v = dist w ∧ v.number < w.number) then some v else some w) none).map (·.number)

/-- f of R323, as a fraction. -/
def State.prefillShare (s : State) (p : Nat) : Nat × Nat :=
  let d := s.reg Reg.decodeStreams
  let q := p + d * s.reg Reg.decodeWeight
  if q = 0 then (0, 1) else (p, q)

/-- The governor orders a switch: it goes into the next batch. -/
def State.choose (s : State) (v : Nat) (f : Nat × Nat) : State :=
  { s with serving := { s.serving with chosen := some (v, rate32 f.1 f.2) } }

/-- GOVERNOR_EVALUATION: `unprocessed` is P, which the plan knows. -/
def State.evaluate (s : State) (unprocessed : Nat) : State :=
  match s.thePlan with
  | none => s
  | some p =>
    if s.reg Reg.domainRole ≠ 1 ∨ !s.reachedCourses.any (fun c => s.position p c == p.period / 2) then s
    else
      let d := s.serving.slots.countP fun e => e.2.phase == 3
      let s := (s.setReg Reg.prefillTokensPending unprocessed).setReg Reg.decodeStreams d
      let f := s.prefillShare unprocessed
      let now := s.reg Reg.activeVariant
      let best := p.nearest f
      let twice := best.isSome && best == s.serving.lastChoice && best != some now
      let s := { s with serving := { s.serving with lastChoice := best } }
      if s.reg Reg.governorMode = 1 then
        (if s.reg Reg.forcedVariant ≠ now then s.choose (s.reg Reg.forcedVariant) f else s)
      else if twice then s.choose (best.getD now) f
      else s

def execGovernorEvaluation (unprocessed : Nat) (s : State) : Host.Outcome State Fault Refusal :=
  s.done (s.evaluate unprocessed)

/-! ### The halt course (R297, R331, R337) -/

/-- What the head does with a held tint at the halt course. -/
def State.haltSlot (s : State) (slot : Nat) : State :=
  let x := s.slot slot
  if s.reg Reg.domainRole ≠ 1 then s
  else if (x.state = 2 ∨ x.state = 3) ∧ x.cancelled = false then s.endStream slot 9
  else if x.state = 5 then s.endStream slot x.reason
  else s

/-- Slots that hold a tint of either owner: states 2 to 6. -/
def State.tintedSlots (s : State) : List Nat := (s.serving.slots.filter fun e => decide (2 ≤ e.2.state ∧ e.2.state ≤ 6)).map (·.1)

/-- A held tint ends, and its slot is released. -/
def State.haltAndFree (s : State) (slot : Nat) : State :=
  let s := s.haltSlot slot
  s.freeSlot slot (s.slot slot).reason

/-- Admit orders of a batch at or after the halt course are withdrawn. -/
def State.withdrawBatch (s : State) (b : Batch) : State :=
  b.admits.foldl (fun s o => if o.descriptor.isEmpty then s else s.refuse o.qp rcStateRefused 0xFFFF o.descriptor b.effect) s

/-- Descriptors still queued when the plan ends are taken for no batch, and are answered (assumption 41). -/
def State.answerQueue (s : State) : State :=
  let q := s.serving.queue
  q.foldl (fun s e => s.refuseNow e.1 rcStateRefused e.2) { s with serving := { s.serving with queue := [] } }

/-- PLAN_HALTED. -/
def State.haltNow (s : State) : State :=
  if s.prog.running && s.prog.kind == .work s.prog.course && s.haltDue then
    let s := s.serving.batches.foldl State.withdrawBatch s
    let s := (s.tintedSlots.foldl State.haltAndFree s).answerQueue
    let s := s.notice Note.planHalted srcModule (u64 s.prog.course)
    s.endPlan
  else s

def execPlanHalted (s : State) : Host.Outcome State Fault Refusal := s.done s.haltNow

end Sys2Proof.Machine
end

