-- ==== Sys2Proof/Machine/Power.lean ====
section
/-! DEFINITION. Power states (R446 to R456), rests and thermal action (R457, R458), supply and coolant events (R454,
R529, R560, R563). -/

namespace Sys2Proof.Machine

/-! ### THERM_ALERT (R458, R563) -/

/-- Drives THERM_ALERT as its sources ask. -/
def State.driveAlert (s : State) : State :=
  let on : Bool := (s.awake && decide (2 ≤ s.reg Reg.thermalLevel)) || s.power.sleepAlert
  if flagNat on = s.reg Reg.thermAlertAsserted then s
  else (s.setReg Reg.thermAlertAsserted (flagNat on)).emit (.thermAlert on)

/-! ### Sensor samples -/

/-- The mean power in watts as FP32: the window's energy over 4,096 courses of 320 ns (R457, R461). -/
def meanPower (nj : Nat) : Nat :=
  let v := nj * 2 ^ 40
  (fp32.round false false false (v / 5) (-58) (decide (v % 5 ≠ 0))).1

/-- The sum of a window. -/
def sumOf (l : List Nat) : Nat := l.foldl (· + ·) 0

/-- The first `n` entries of a list, or all of a shorter one. -/
def keepFirst {α : Type} (n : Nat) (l : List α) : List α :=
  match l with
  | [] => []
  | x :: r => if n = 0 then [] else x :: keepFirst (n - 1) r

/-- One energy sample joins the window, and asks for a power rest if a cap is exceeded (R457). -/
def State.takeEnergy (s : State) (nj : Nat) : State :=
  let w := keepFirst 4096 (nj :: s.power.energy)
  let s := { s with power := { s.power with energy := w } }
  let s := s.setReg Reg.measuredPower (meanPower (sumOf w))
  let hot : Bool := decide (s.reg Reg.burstCap * 320 < nj) || decide (s.reg Reg.sustainedCap * 320 * 4096 < sumOf w)
  if hot && s.prog.running && s.power.mode == .run then s.mapProg fun p => { p with restPower := true } else s

/-- Thresholds of the levels, in tenths of a degree. -/
def State.threshold (s : State) (level : Nat) : Nat :=
  10 * s.reg (if level = 1 then Reg.thermalWarn else if level = 2 then Reg.thermalRest
    else if level = 3 then Reg.thermalCritical else Reg.thermalTrip)

/-- The level that a temperature enters, at least. -/
def State.levelUp (s : State) (t : Nat) : Nat := ([1, 2, 3].filter fun l => decide (s.threshold l ≤ t)).length

/-- The level that stays when a temperature falls: each lies 3 °C below the threshold that raised it. -/
def State.levelDown (s : State) (t : Nat) (level : Nat) : Nat :=
  match level with
  | 0 => 0
  | l + 1 => if t + 30 ≤ s.threshold (l + 1) then s.levelDown t l else l + 1

/-- A transition that nobody requested begins at the next course. -/
def State.forceTransition (s : State) (target cause : Nat) : State :=
  let p := { s.power with target := some target, startsAt := s.time.localCount + 1, started := false, cause := cause }
  { s.setReg Reg.pendingTransition target with power := p }

/-- A thermal trip (R458): forced Doze. -/
def State.trip (s : State) (r : Sensors) : State :=
  let t := s.threshold 4
  if r.tenths < t then
    if r.tenths + 30 ≤ t then { s with power := { s.power with tripped := false } } else s
  else if s.power.tripped then s
  else
    let s := { s with power := { s.power with tripped := true } }
    let s := s.notice Note.thermalTrip srcModule (u32 r.hottest ++ u8 r.brick)
    if s.power.mode = .doze then s else s.forceTransition 2 2

/-- ThermalLevel follows a sample (R458). -/
def State.takeTemperature (s : State) (r : Sensors) : State :=
  let old := s.reg Reg.thermalLevel
  let new := max (s.levelUp r.tenths) (s.levelDown r.tenths old)
  let s :=
    if new = old then s
    else (s.setReg Reg.thermalLevel new).notice Note.thermalLevelChanged srcModule (u8 new ++ u32 r.hottest)
  (s.trip r).driveAlert

/-- Thermal rests (R458): one in every RestSpacing courses at level 2, every course at level 3. -/
def State.thermalRests (s : State) : State :=
  if s.prog.running = false ∨ s.power.mode ≠ .run then s
  else
    let l := s.reg Reg.thermalLevel
    let n := s.prog.sinceRest + 1
    let due : Bool := l == 3 || (l == 2 && decide (s.reg Reg.restSpacing ≤ n))
    s.mapProg fun p => { p with sinceRest := n, restThermal := p.restThermal || due }

/-- The entries of R461 and R566. -/
def State.showSensors (s : State) (r : Sensors) : State :=
  let s := ((s.setReg Reg.hottestTemperature r.hottest).setReg Reg.inputVoltage r.voltage).setReg Reg.inputCurrent r.current
  ((s.setReg Reg.inletTemperature r.inlet).setReg Reg.outletTemperature r.outlet).setReg Reg.coolantFlow r.flowBits

/-- Counts the consecutive samples of low coolant flow (R563). -/
def State.noteFlow (s : State) (low : Bool) : State :=
  { s with power := { s.power with flowLow := if low then s.power.flowLow + 1 else 0 } }

/-- SENSOR_SAMPLE (R20, R39, R457, R458, R563); a deferred one uses the previous sample. -/
def State.sample (s : State) (fits : Bool) (r : Sensors) : State :=
  if s.awake = false then s
  else if fits then
    ((((s.showSensors r).takeEnergy r.energy).noteFlow r.flowLow).takeTemperature r).thermalRests
  else ((s.bump Reg.sensorDeferred).takeEnergy (s.power.energy.headD 0)).thermalRests

def execSensorSample (fits : Bool) (reading : Sensors) (s : State) : Host.Outcome State Fault Refusal :=
  s.done (s.sample fits reading)

/-- COOLANT_FLOW_LOW (R563). -/
def State.noticeFlow (s : State) : State :=
  if s.awake ∧ 3125 ≤ s.power.flowLow then
    s.notice Note.coolantFlowLow srcModule
      (u32 (s.reg Reg.coolantFlow) ++ u32 (s.reg Reg.inletTemperature) ++ u32 (s.reg Reg.outletTemperature))
  else s

def execCoolantFlowLow (s : State) : Host.Outcome State Fault Refusal := s.done s.noticeFlow

/-! ### Entering states (R446 to R449) -/

/-- Ingress ports go down, and every queue pair to Reset with its record (R405). -/
def State.ingressDown (s : State) : State :=
  let s := [0, 1, 2, 3].foldl (fun s n =>
    if s.reg (Reg.ethLinkState n) = 0 then s
    else
      (s.setReg (Reg.ethLinkState n) 0).notice Note.ingressLinkChange (srcRole n) (u8 n ++ u8 0)) s
  let reset (e : Nat × Qp) : Nat × Qp := (e.1, { Qp.fresh with record := e.2.record })
  { s with qps := (s.qps.map reset).filter (fun e => decide (e.2 ≠ Qp.fresh)) }

/-- Fabric lanes keep no flit for a retry in Doze (R244). -/
def Port.dropRetries (p : Port) : Port :=
  let bare (e : Nat × Lane) : Nat × Lane := (e.1, { e.2 with sent := [], retries := [], retried := [] })
  { p with lanes := (p.lanes.map bare).filter fun e => decide (e.2 ≠ Lane.down) }
def State.dropRetries (s : State) : State :=
  { s with ports := (s.ports.map fun e => (e.1, e.2.dropRetries)).filter fun e => decide (e.2 ≠ Port.down) }

/-- A Trowel that runs halts outside Run, and runs again on the return (R176, R446; assumption 36). -/
def State.haltTrowels (s : State) (run : Bool) : State :=
  (List.range 128).foldl (fun s c =>
    if s.reg (Reg.trowelState c) = (if run then 2 else 1) then s.setReg (Reg.trowelState c) (if run then 1 else 2) else s) s

/-- What Doze loses (R53, R361, R405, R448). -/
def State.enterDoze (s : State) : State :=
  let s := ((s.bump Reg.dozeEntries).keepClearing).losePlan.dropRetries
  let s := (s.units.substitutions.map (·.1)).foldl (fun s c => s.abandon c 1 0) s
  s.endSession.ingressDown

/-- PowerStateChanged. -/
def State.noticePower (s : State) (old new cause : Nat) : State :=
  s.notice Note.powerStateChanged srcModule (u8 old ++ u8 new ++ u8 cause)

/-- The module is in a state that is Awake. -/
def State.enterAwake (s : State) (m : PowerMode) (cause : Nat) : State :=
  let old := powerCode s.power.mode
  let s := if m = .doze then s.enterDoze else s
  let s := ({ s with power := { s.power with mode := m } }).noticePower old (powerCode m) cause
  let s := s.haltTrowels (m == .run)
  if m = .run then s.retryThresholds else s

/-- Sleep, Off: the rails fall (R446, R449, R452). A cause is kept for the entries of R460 only while Awake. -/
def State.enterSleep (s : State) (cause : Nat) : State :=
  let s := (s.bump Reg.sleepEntries).cold true .sleep
  s.setReg Reg.lastTransitionCause cause

/-! ### Requests and transitions (R450, R451) -/

/-- POWER_REQUEST past check 9. -/
def State.requestPower (s : State) (v : Nat) : Nat × State :=
  let target := v % 4
  let force := bit v 7
  let deep := decide (2 ≤ target)
  if v / 4 % 32 ≠ 0 ∨ (target = 3 ∧ s.reg Reg.wakeSources = 0) then (rcRangeError, s)
  else if s.power.target.isSome then (rcStateRefused, s)
  else if target = powerCode s.power.mode then (rcOk, s)
  else if deep && !force && (s.reg Reg.bondMode != 0 || s.planActive) then (rcStateRefused, s)
  else if target = 0 ∧ (s.reg Reg.thermalLevel = 3 ∨ s.power.tripped) then (rcStateRefused, s)
  else
    let p := { s.power with target := some target, startsAt := s.time.localCount + 2, started := false, cause := 1 }
    (rcOk, { s.setReg Reg.pendingTransition target with power := p })

def execPowerRequest (v : Via) (value : Nat) (s : State) : Host.Outcome State Fault Refusal :=
  s.done (s.writeNumber v 0x3000 0x02 1 value fun s => s.requestPower value)

/-- On the way to Sleep the change is announced before the queues drain (R449). -/
def State.announceSleep (s : State) : State :=
  if s.power.mode = .doze ∧ s.power.target = some 3 then
    let s := { s with power := { s.power with startsAt := s.time.localCount } }
    s.noticePower 2 3 s.power.cause
  else s

/-- POWER_TRANSITION_START. -/
def State.startTransition (s : State) : State :=
  if s.power.target.isNone ∨ s.power.started ∨ s.time.localCount < s.power.startsAt ∨ s.awake = false then s
  else
    let s := { s with power := { s.power with started := true } }
    ((s.setReg Reg.lastTransitionCause s.power.cause).setReg Reg.lastTransitionCourse s.stamp).announceSleep

def execPowerTransitionStart (s : State) : Host.Outcome State Fault Refusal := s.done s.startTransition

/-- The state that comes next on the way to a target: Run to Doze and Sleep passes through Hold, Sleep through Doze. -/
def nextMode (m : PowerMode) (target : Nat) : PowerMode :=
  match m with
  | .run => if target = 0 then .run else .hold
  | .hold => if target = 0 then .run else if target = 1 then .hold else .doze
  | .doze => if target = 0 then .run else if target = 1 then .hold else .doze
  | .sleep => .sleep
  | .off => .off
  | .inReset => .inReset

/-- POWER_TRANSITION_DONE: one leg of a transition is complete. -/
def State.endTransition (s : State) : State :=
  match s.power.target with
  | none => s
  | some t =>
    let m := nextMode s.power.mode t
    if s.power.started = false ∨ s.awake = false ∨ (m = s.power.mode ∧ t = 3) then s
    else
      let s := if m = s.power.mode then s else s.enterAwake m s.power.cause
      if powerCode m = t then
        { s.setReg Reg.pendingTransition 0xFF with power := { s.power with target := none, started := false } }
      else s.announceSleep

def execPowerTransitionDone (s : State) : Host.Outcome State Fault Refusal := s.done s.endTransition

/-- SLEEP_ENTRY (R449): both notice queues are empty, or 3,125 courses have passed. -/
def State.sleepNow (s : State) : State :=
  let waited : Bool := s.paths.chainQueue.isEmpty && s.paths.ringQueue.isEmpty
  if s.power.mode = .doze ∧ s.power.target = some 3 ∧ s.power.started ∧
      (waited ∨ s.power.startsAt + 3125 ≤ s.time.localCount) then
    s.enterSleep s.power.cause
  else s

def execSleepEntry (s : State) : Host.Outcome State Fault Refusal := s.done s.sleepNow

/-- A forced Sleep, without R449's wait. -/
def State.forceSleep (s : State) (cause : Nat) : State :=
  if s.awake then (s.setReg Reg.lastTransitionCourse s.stamp).enterSleep cause else s

/-- THERMAL_SHUTDOWN (R458). -/
def execThermalShutdown (s : State) : Host.Outcome State Fault Refusal := s.done (s.forceSleep 2)

/-- OVER_VOLTAGE (R560). -/
def execOverVoltage (s : State) : Host.Outcome State Fault Refusal :=
  s.done (if s.awake then (s.bump Reg.overVoltageEvents).forceSleep 3 else s)

/-- PWR_GOOD_DEASSERT (R529). -/
def execPwrGoodDeassert (s : State) : Host.Outcome State Fault Refusal :=
  s.done (if s.awake then (({ s with power := { s.power with pwrGood := false } }).forceSleep 3) else s)

/-- SUPPLY_LOW (R454): the loss stands until the input returns. -/
def State.supplyLost (s : State) (lowest : Nat) : State :=
  match s.power.mode with
  | .off => s
  | .run | .hold | .doze | .sleep | .inReset =>
    let l := (s.power.lowest.map fun x => min x lowest).getD lowest
    ({ s with power := { s.power with supplyLow := true, lowest := some l } }).forceSleep 3

def execSupplyLow (lowest : Nat) (s : State) : Host.Outcome State Fault Refusal := s.done (s.supplyLost lowest)

/-- POWER_LOSS (R454, R560): Off. -/
def execPowerLoss (s : State) : Host.Outcome State Fault Refusal := s.done (s.cold false .off)

/-! ### The comparators in Sleep (R454) -/

/-- A wake source acts: in Sleep, enabled, with the input in range (R529), and no wake under way. -/
def State.startWake (s : State) (src : Nat) : State :=
  if s.power.mode = .sleep ∧ s.power.waking.isNone ∧ bit (s.reg Reg.wakeSources) (src - 1) ∧ s.power.pwrGood ∧
      s.power.supplyLow = false then
    let s := { s with power := { s.power with waking := some src } }
    (s.setReg Reg.lastWakeSource src).setReg Reg.lastTransitionCourse s.stamp
  else s

/-- The keeper's error bound of R453: 0 for a count that stays exact. -/
def State.keeperBound (s : State) : Nat :=
  if s.time.known then 0 else ceilDiv (2 * (s.reg Reg.wakeCourse - s.time.sleptAt)) 1000000

/-- WAKE_AT_COURSE. -/
def State.wakeAtCourse (s : State) : State :=
  if s.reg Reg.wakeCourse ≠ allOnes64 ∧
      s.reg Reg.wakeCourse ≤ s.time.keeper + s.reg Reg.wakeLead + s.keeperBound then s.startWake 1
  else s

def execWakeAtCourse (s : State) : Host.Outcome State Fault Refusal := s.done s.wakeAtCourse

/-- A chain wake frame: Version 1, Operation 0x02, Index 0x3000, Sub 0x06, Type BOOL, Length 1, value 1. -/
def isWakeFrame (f : Bytes) : Bool :=
  byteAt f 0 == 1 && byteAt f 1 == 2 && field f 4 2 == 0x3000 && byteAt f 6 == 6 && byteAt f 7 == 7 && field f 16 2 == 1 &&
    byteAt f 24 == 1

/-- CHAIN_WAKE_FRAME. -/
def State.wakeFrame (s : State) (dest : Nat) (f : Bytes) : State :=
  if (dest = leVal (s.blob Blob.chainMac) ∨ dest = 2 ^ 48 - 1) ∧ isWakeFrame f then s.startWake 2 else s

def execChainWakeFrame (dest : Nat) (frame : Bytes) (s : State) : Host.Outcome State Fault Refusal :=
  s.done (s.wakeFrame dest frame)

/-- WAKE_N_LOW. -/
def execWakeNLow (s : State) : Host.Outcome State Fault Refusal := s.done (s.startWake 3)

/-- SUPPLY_RETURN: in Sleep the loss is counted. -/
def State.supplyReturns (s : State) : State :=
  let lost := s.power.supplyLow
  let s := { s with power := { s.power with supplyLow := false, pwrGood := true } }
  if lost ∧ s.power.mode = .sleep then (s.bump Reg.supplyLosses).startWake 4 else s

def execSupplyReturn (s : State) : Host.Outcome State Fault Refusal := s.done s.supplyReturns

/-- SLEEP_TEMP_EVENT: THERM_ALERT; it never wakes the module. -/
def State.sleepTemp (s : State) : State :=
  if s.power.mode = .sleep then
    let s := s.bump Reg.sleepTempEvents
    ({ s with power := { s.power with sleepAlert := true } }).driveAlert
  else s

def execSleepTempEvent (s : State) : Host.Outcome State Fault Refusal := s.done s.sleepTemp

end Sys2Proof.Machine
end

