-- ==== Sys2Proof/Machine/Repair.lean ====
section
/-! DEFINITION. Tiles that fail twice (R121, R539 to R543), Damaged sides (R544), hard faults and plan stops (R545,
R546). -/

namespace Sys2Proof.Machine

/-! ### The tile waited for (R121) -/

/-- A waiting tile is dropped from the suspension. -/
def State.stopWaiting (s : State) (w : TileWait) : State :=
  match s.prog.suspension with
  | none => s
  | some x => s.mapProg fun p => { p with suspension := some { x with waiting := x.waiting.erase w } }

/-- A waiting tile has failed its one re-read. -/
def State.failWaiting (s : State) (w : TileWait) : State :=
  let mark (v : TileWait) : TileWait := if v = w then { v with failed := true } else v
  match s.prog.suspension with
  | none => s
  | some x => s.mapProg fun p => { p with suspension := some { x with waiting := x.waiting.map mark } }

/-- The tile for which a reader waits, before or after its re-read failed. -/
def State.waitOf (s : State) (c : Consumer) (failed : Bool) : Option TileWait :=
  s.prog.suspension.bind fun x => x.waiting.find? fun w => w.consumer == c && w.failed == failed

/-- A later tile whose front has started is fetched again (R121). -/
def State.refetch (s : State) (g : Fill) : Fill :=
  if g.front.isSome then { g with bytes := s.load g.address (tileBytes g.fmt) } else g

/-- The bytes of the array's unjudged fill are replaced by the tile that has arrived, and those of the later ones whose
front has started are fetched again (R121). -/
def State.putBytes (s : State) (t : Bytes) (l : List Fill) : List Fill :=
  match l with
  | [] => []
  | g :: r => if g.verdict.isNone then { g with bytes := t } :: r.map s.refetch else g :: s.putBytes t r

/-- The array replays (R121, R132). -/
def State.replay (s : State) (core eng : Nat) : State :=
  let n := (s.prog.suspension.map (·.courses)).getD 1
  (s.bump (Reg.replays (coreCluster core))).notice Note.arrayReplay (srcCore core)
    (unitBytes core eng ++ u64 s.prog.course ++ u8 n)

/-- The suspended reader takes a tile that passed check 1, and goes on with its own checks. -/
def State.takeTile (s : State) (w : TileWait) (t : Bytes) : State :=
  let s := s.stopWaiting w
  match w.consumer with
  | .feeder core eng =>
    let a := s.arrayOf core eng
    let s := (s.setArrayOf core eng { a with fills := s.putBytes t a.fills }).replay core eng
    match (s.arrayOf core eng).fills.find? fun g => g.verdict.isNone with
    | none => s
    | some g =>
      match g.front with
      | none => s
      | some x =>
        let r := s.judgeRest core eng g x
        (r.2.judged core eng r.1).judgeFill core eng
  | .nQueue core => s.sendTile core (w.dest / 2 ^ 25) (w.dest % 2 ^ 25) w.fmt t (s.slotAt w.address)
  | .mQueue _ => s.landCopy w.fmt w.dest t

/-! ### Sources (R539, R541) -/

/-- The supplier of a side: DeviceId and port; none where it has none. -/
def State.supplierOf (s : State) (side : Nat) : Option (Nat × Nat) :=
  let b := s.blob Blob.suppliers
  if field b (4 * side) 2 = 0xFFFF then none else some (field b (4 * side) 2, byteAt b (4 * side + 2))

/-- The side of a Shared window that an address lies in. -/
def Region.sideAt (r : Region) (a : Nat) : Nat := if r.base + r.sideGranules * 64 ≤ a then 1 else 0

/-- The KeepTable of a side (R541). -/
def State.keepOfSide (s : State) (side : Nat) : List Keep := if side = 0 then s.weights.keep0 else s.weights.keep1

/-- The global index of the tile at an address of a side (R355, R356). -/
def State.globalIndex (s : State) (r : Region) (side a : Nat) : Option Nat :=
  let t := (a - r.base - side * (r.sideGranules * 64)) / max 1 (tileStride r.fmt)
  ((s.keepOfSide side).find? fun e => e.region == r.id && decide (e.target ≤ t ∧ t < e.target + e.count)).map fun e =>
    e.first + (t - e.target)

/-- BondState is Protected, or Protected or Degraded. -/
def State.bondProtected (s : State) : Bool := s.reg Reg.bondState == 3
def State.bondServes (s : State) : Bool := s.reg Reg.bondState == 3 || s.reg Reg.bondState == 4

/-- The sources to ask for a tile, in order: 1 the bond partner, 2 the supplier. -/
def State.repairSources (s : State) (a : Nat) : List Nat :=
  match s.windowAt a with
  | none => []
  | some r =>
    if r.kind = 1 then
      (if s.bondServes then [1] else []) ++
        (if (s.supplierOf (r.sideAt a)).isSome && (s.globalIndex r (r.sideAt a) a).isSome then [2] else [])
    else if r.kind = 3 ∧ s.bondProtected then [1]
    else []

/-- A repair granule (R540). -/
def repairGranule (kind form gen tag device address index tint n : Nat) : Bytes :=
  padTo 64 (u8 kind ++ u8 form ++ u8 gen ++ u8 0 ++ u16 tag ++ u16 device ++ u64 address ++ u32 index ++ u16 tint ++ u16 n)

/-- The mirror of an Owned tile has caught up (R539): MirrorMark has reached the last executed plan course. -/
def State.mirrorCaughtUp (s : State) : Bool :=
  s.reg Reg.mirrorMark != allOnes64 && decide (s.prog.course ≤ s.reg Reg.mirrorMark)

/-- Granules that a repair gives the bond to carry (R506). -/
def State.fillBond (s : State) (n : Nat) : State := { s with bond := { s.bond with granules := s.bond.granules + n } }

/-- Sends the request of a repair to its first source; an Owned tile waits for the mirror. -/
def State.askNow (s : State) (x : Repair) : State × Repair :=
  let dev := s.reg Reg.deviceId
  let tag := s.reg Reg.secondFailures % 0xFFFF + 1
  let sent : Repair := { x with tag := tag, since := s.time.localCount }
  match x.sources with
  | 1 :: _ =>
    if x.kind = 3 then
      if s.mirrorCaughtUp then
        ((s.emit (.repair false (s.bondPort 0) (repairGranule 1 0 0 tag dev x.address 0 (s.slot x.slot).tint 0) [])).fillBond 1,
          sent)
      else (s, { x with tag := 0 })
    else
      ((s.emit (.repair false (s.bondPort 0) (repairGranule 1 0 x.generation tag dev x.address 0 0xFFFF 0) [])).fillBond 1,
        sent)
  | 2 :: _ =>
    match s.supplierOf x.side, s.regionOf x.address with
    | some (_, port), some r =>
      let g := (s.globalIndex r x.side x.address).getD 0
      (s.emit (.repair true port (repairGranule 1 1 x.generation tag dev 0 g 0xFFFF 0) []), sent)
    | _, _ => (s, x)
  | _ => (s, x)

/-- A repair replaces the one of the same reader and address. -/
def State.putRepair (s : State) (x : Repair) : State :=
  let rest := s.repairs.filter fun y => !(y.consumer == x.consumer && y.address == x.address)
  { s with repairs := rest ++ [x] }

/-- Asks, and keeps the repair. -/
def State.ask (s : State) (x : Repair) : State :=
  let r := s.askNow x
  r.1.putRepair r.2

/-- Requests for Owned tiles that waited for the mirror are sent (R539). -/
def State.askWaiting (s : State) : State :=
  (s.repairs.filter fun x => x.tag == 0 && x.sources.head? == some 1 && x.kind == 3).foldl State.ask s

/-- A second failure (R539). -/
def State.failsTwice (s : State) (w : TileWait) : State :=
  let s := (s.failWaiting w).bump Reg.secondFailures
  let r := s.windowAt w.address
  let kind := (r.map (·.kind)).getD 0
  let side := (r.map fun r => r.sideAt w.address).getD 0
  s.ask
    { consumer := w.consumer, address := w.address, kind := kind, slot := (r.map (·.slot)).getD 0, side := side,
      generation := if kind = 1 then s.reg (Reg.sideGeneration side) else 0, sources := s.repairSources w.address,
      since := s.time.localCount, tag := 0 }

/-- TILE_REREAD (R121): the one re-read, with the bytes that arrive inverted; none in a Hold course (R22). -/
def State.reread (s : State) (c : Consumer) (err : Errors) : State :=
  match s.waitOf c false with
  | none => s
  | some w =>
    if s.inHold then s else
    let s := s.bump Reg.tileRereads
    let t := received (s.load w.address (tileBytes w.fmt)) err
    if tileChecks t then s.takeTile w t else s.failsTwice w

def execTileReread (consumer : Consumer) (err : Errors) (s : State) : Host.Outcome State Fault Refusal :=
  s.done (s.reread consumer err)

/-! ### Holders (R541) -/

/-- The address of the tile that a request asks for. -/
def State.requestedTile (s : State) (g : Bytes) : Option (Nat × Nat) :=
  let gen := byteAt g 2
  let a := field g 8 6
  if byteAt g 1 = 0 then
    if gen = 0 then
      match s.windowAt a with
      | some r => if r.kind = 3 ∧ (s.slot r.slot).state = 6 ∧ (s.slot r.slot).tint = field g 20 2 then some (a, r.fmt) else none
      | none => none
    else
      match s.sideOf gen, s.windowAt a with
      | some side, some r =>
        if r.kind = 1 then
          some (r.base + side * (r.sideGranules * 64) + (a - r.base) % max 1 (r.sideGranules * 64), r.fmt)
        else none
      | _, _ => none
  else
    match s.sideOf gen, s.anyPlan with
    | some side, some p =>
      match keepOf (s.keepOfSide side) (field g 16 4) with
      | none => none
      | some e =>
        match p.regionId e.region with
        | none => none
        | some r =>
          some (r.base + side * (r.sideGranules * 64) + (e.target + (field g 16 4 - e.first)) * tileStride r.fmt, r.fmt)
    | _, _ => none

/-- The answer to a request: its granule with Kind and Granules, and the tile. -/
def State.answerRepair (s : State) (fabric : Bool) (port : Nat) (g : Bytes) (t : Option Bytes) : State :=
  match t with
  | none => (s.emit (.repair fabric port (padTo 64 (u8 3 ++ slice g 1 21 ++ u16 0)) [])).fillBond (if fabric then 0 else 1)
  | some t =>
    let s := s.bump (if fabric then Reg.repairsServed else Reg.bondRepairsServed)
    (s.emit (.repair fabric port (padTo 64 (u8 2 ++ slice g 1 21 ++ u16 (t.length / 64))) t)).fillBond
      (if fabric then 0 else 1 + t.length / 64)

/-- REPAIR_REQUEST: served in every Awake state except Limewash. -/
def State.serveRepair (s : State) (port : Nat) (g : Bytes) : State :=
  if s.awake = false ∨ s.limewash ∨ 1 < s.portRole port ∨ g.length ≠ 64 ∨ byteAt g 0 ≠ 1 then s
  else
    let tile := match s.requestedTile g with
      | none => none
      | some (a, fmt) =>
        if tileChecks (s.load a (tileBytes fmt)) then some (s.load a (tileStride fmt)) else none
    s.answerRepair (s.portRole port == 0) port g tile

def execRepairRequest (port : Nat) (granule : Bytes) (s : State) : Host.Outcome State Fault Refusal :=
  s.onUnit "REPAIR_REQUEST" (portOk port) (s.serveRepair port granule)

/-! ### The requester (R542) -/

/-- The first source of a repair counts as having refused: the next is asked. -/
def State.nextSource (s : State) (x : Repair) : State := (s.bump Reg.repairsRefused).ask { x with sources := x.sources.drop 1, tag := 0 }

/-- A repair is over. -/
def State.dropRepair (s : State) (x : Repair) : State := { s with repairs := s.repairs.erase x }

/-- A delivered tile is written as received, and read once through the suspended reader. -/
def State.deliverRepair (s : State) (x : Repair) (t : Bytes) : State :=
  match s.waitOf x.consumer true with
  | none => s.dropRepair x
  | some w =>
    let s := s.store x.address t
    let t := s.load x.address (tileBytes w.fmt)
    if tileChecks t then
      let bond := x.sources.head? == some 1
      let s := (s.dropRepair x).bump (if bond then Reg.repairsFromBond else Reg.repairsFromSupplier)
      let s := s.notice Note.tileRepaired srcModule (u8 (if bond then 1 else 2) ++ u64 x.address ++ u64 s.prog.course)
      s.takeTile w t
    else s.nextSource x

/-- REPAIR_TILE: a tile or a refusal, known by its Tag. -/
def State.takeRepair (s : State) (g tile : Bytes) : State :=
  match s.repairs.find? fun x => x.tag != 0 && x.tag == field g 4 2 with
  | none => s
  | some x =>
    if s.awake = false ∨ g.length ≠ 64 then s
    else if byteAt g 0 = 2 then s.deliverRepair x (tile.take (64 * field g 22 2))
    else if byteAt g 0 = 3 then s.nextSource x
    else s

def execRepairTile (granule tile : Bytes) (s : State) : Host.Outcome State Fault Refusal := s.done (s.takeRepair granule tile)

/-- REPAIR_TIMEOUT (R539): sources that have not delivered within RepairTimeout courses. -/
def State.repairsLate (s : State) : State :=
  (s.repairs.filter fun x => x.tag != 0 && decide (x.since + s.reg Reg.repairTimeout ≤ s.time.localCount)).foldl
    State.nextSource s

def execRepairTimeout (s : State) : Host.Outcome State Fault Refusal := s.done s.repairsLate

/-! ### Damage (R543, R544) -/

/-- Aborts tints with DataFault at a plan course, and counts them (R551). -/
def State.abortForData (s : State) (course : Nat) (slots : List Nat) : State :=
  slots.foldl (fun s n =>
    let x := s.slot n
    let s := if (x.state = 2 ∨ x.state = 3) ∧ x.cancelled = false then s.bump Reg.dataFaultAborts else s
    s.abortSlot whyData course n) s

/-- The slots whose tints are bound to a generation. -/
def State.slotsOfGeneration (s : State) (g : Nat) : List Nat :=
  (s.serving.slots.filter fun e => e.2.generation == g && decide (2 ≤ e.2.state ∧ e.2.state ≤ 5)).map (·.1)

/-- A side becomes Damaged (R544, R548). -/
def State.damageSide (s : State) (side address : Nat) : State :=
  let g := s.reg (Reg.sideGeneration side)
  let st := s.reg (Reg.sideState side)
  if st = 0 ∨ st = 5 then s
  else
    let s := if st = 3 then s.setReg Reg.inForce 0 else s
    let s := if st = 2 then s.setReg Reg.pendingSwitch allOnes64 else s
    let s := (s.setReg (Reg.sideState side) 5).bump Reg.damagedMarks
    let c := s.prog.course
    let s := s.abortForData c (s.slotsOfGeneration g)
    let s := if s.reg Reg.domainRole = 2 then s.sendHead 8 (u8 side ++ u8 g ++ u16 (s.reg Reg.deviceId) ++ u64 c) else s
    s.notice Note.generationDamaged srcModule (u8 side ++ u8 g ++ u64 address ++ u64 c)

/-- The slots that the waiting reader's pass serves. -/
def State.waitingSlots (s : State) (c : Consumer) : List Nat :=
  match c with
  | .feeder core eng =>
    match (s.arrayOf core eng).fills.find? fun g => g.verdict.isNone with
    | none => []
    | some g => s.servedSlots g
  | .nQueue _ | .mQueue _ => []

/-- The reader goes on without data. -/
def State.noData (s : State) (w : TileWait) : State :=
  let s := s.stopWaiting w
  match w.consumer with
  | .feeder core eng => ((s.replay core eng).judged core eng false).judgeFill core eng
  | .nQueue _ | .mQueue _ => s

/-- No source is left for a repair. -/
def State.giveUp (s : State) (x : Repair) : State :=
  let slots := s.waitingSlots x.consumer
  let s := s.dropRepair x
  let s := match s.waitOf x.consumer true with
    | none => s
    | some w => s.noData w
  if x.kind = 1 then s.damageSide x.side x.address
  else if x.kind = 3 then s.abortForData s.prog.course [x.slot]
  else if x.kind = 4 then s.abortForData s.prog.course slots
  else s

/-- NO_REPAIR_SOURCE. -/
def State.giveUpRepairs (s : State) : State := (s.repairs.filter fun x => x.sources.isEmpty).foldl State.giveUp s

def execNoRepairSource (s : State) : Host.Outcome State Fault Refusal := s.done s.giveUpRepairs

/-- Sets or clears a generation's bit of WithheldGenerations. -/
def State.setWithheld (s : State) (g : Nat) (on : Bool) : State :=
  let b := byteAt (s.blob Blob.withheldGenerations) (g / 8)
  s.setBlobByte Blob.withheldGenerations (g / 8) (if on then orMask b (2 ^ (g % 8)) else clearBits b (2 ^ (g % 8)))

/-- DAMAGE_REPORT (R544). -/
def State.takeDamageReport (s : State) (qp : Nat) (m : Bytes) : State :=
  if s.headHears qp m then s.setWithheld (byteAt m 5) true else s

def execDamageReport (qp : Nat) (message : Bytes) (s : State) : Host.Outcome State Fault Refusal :=
  s.onUnit "DAMAGE_REPORT" (qpOk qp) (s.takeDamageReport qp message)

/-- CLEAR_WITHHELD (R551). -/
def execClearWithheld (v : Via) (value : Nat) (s : State) : Host.Outcome State Fault Refusal :=
  s.done (s.writeNumber v 0xA602 0x0B 1 value fun s => (rcOk, s.setWithheld value false))

/-! ### Hard faults (R54, R545, R546) -/

/-- A granule that a hard fault lost is rewritten with zeros by its group's engine (R546). -/
def State.zeroGranule (s : State) (a : Nat) : State := { s with mem := s.mem.clear (a / 64 * 64) 64 }

/-- The unit of a hard fault is one that the module has: 1 a core, 2 a cluster, 3 a brick. -/
def State.hardUnit (s : State) (kind unit : Nat) : Bool :=
  if kind = 1 then coreOk unit && s.clusterOn (coreCluster unit)
  else if kind = 2 then clusterOk unit && s.clusterOn unit
  else kind == 3 && s.brickOn unit

/-- HARD_FAULT. -/
def execHardFault (kind unit : Nat) (s : State) : Host.Outcome State Fault Refusal :=
  s.onUnit "HARD_FAULT" (s.hardUnit kind unit) (if s.awake then s.hardFault kind unit else s)

/-- What a plan stop does with one slot of a head, of a member (R545). -/
def State.stopHeadSlot (course : Nat) (s : State) (slot : Nat) : State :=
  let s := s.abortForData course [slot]
  if (s.slot slot).state = 5 then s.endStream slot (s.slot slot).reason else s

/-- The tints at a plan stop: left to the bond, ended by the head, or reported by a member. -/
def State.stopTints (s : State) (course : Nat) (yields : Bool) : State :=
  if yields then { s with bond := { s.bond with yield := true } }
  else if s.reg Reg.domainRole = 1 then (s.heldSlots.foldl (State.stopHeadSlot course) s).answerQueue
  else s.abortForData course s.heldSlots

/-- PLAN_STOP: at the course boundary after a hard fault. -/
def State.stopPlan (s : State) : State :=
  match s.start.hard with
  | [] => s
  | (_, _, course) :: _ =>
    if s.prog.running = false then { s with start := { s.start with hard := [] } }
    else
      let hard := s.start.hard
      let at_ := s.prog.course
      let yields := s.bondProtected
      let live := s.heldSlots.countP fun n => decide ((s.slot n).state ≤ 3) && !(s.slot n).cancelled
      let s := { s with start := { s.start with hard := [] } }
      let s := s.stopTints course yields
      let s := ((s.emptyPlan.endPlan).dropPoint).dropSlots
      let s := s.start.granules.foldl State.zeroGranule s
      let s := { s with start := { s.start with granules := [] } }
      let s := hard.foldl (fun s h => s.noticeHard h.1 h.2.1 h.2.2) s
      let s := (s.bump Reg.planStops).notice Note.planStopped srcModule
        (u64 at_ ++ u16 (if yields then 0 else live) ++ u8 (flagNat yields))
      s.doHardSwaps

def execPlanStop (s : State) : Host.Outcome State Fault Refusal := s.done s.stopPlan

/-- STORE_STUCK (R546): the rewritten granule fails again. -/
def State.storeSticks (s : State) (a : Nat) : State :=
  (s.setReg Reg.stuckAddress a).notice Note.storeStuck (storeSource a) (u64 a)

def execStoreStuck (address : Nat) (s : State) : Host.Outcome State Fault Refusal :=
  s.onUnit "STORE_STUCK" (addrSpace address == 2 && decide (address < 2 ^ 48) && s.brickOn (addrBrick address))
    (if s.awake then s.storeSticks address else s)

end Sys2Proof.Machine
end

