-- ==== Sys2Proof/Machine/Ingress.lean ====
section
/-! DEFINITION. Ingress ports and queue pairs: frames (R386), keys (R387, R388), packets (R389), queue pairs (R390,
R391, R395), WRITEs (R392), ingress windows (R263, R264) and their status (R394). -/

namespace Sys2Proof.Machine

/-! ### Ingress windows (R263, R264) -/

/-- K of a window: the Value of its credit tie. -/
def State.creditOf (s : State) (w : IngressWindow) : Nat :=
  match s.tieTarget w.credit with
  | none => 0
  | some t => (s.tie (t.brick * 64 + t.core % 64) t.tie).value

/-- A window status (R394). -/
def State.statusBytes (s : State) (w : IngressWindow) (seq reason discarded : Nat) : Bytes :=
  padTo 64 (u32 seq ++ u8 w.window ++ u8 reason ++ zeros 2 ++ u32 (s.reg (Reg.landingCounter w.window)) ++ u32 (s.creditOf w) ++
    u32 w.positions ++ u32 discarded ++ u64 s.stamp)

/-- A status may be sent: none for this window in the last 16 courses. -/
def State.statusReady (s : State) (q : Qp) (w : Nat) : Bool :=
  match Map.find q.statusAt w with
  | none => true
  | some t => decide (t + 16 ≤ s.time.localCount)

/-- Sends the status of a window that is due on a queue pair, if it may be sent now. -/
def State.sendStatus (s : State) (qp w : Nat) : State :=
  let q := s.qp qp
  match Map.find q.statusDue w, s.window w with
  | some (reason, discarded), some x =>
    if s.statusReady q w then
      let q' := { q with statuses := q.statuses + 1, statusAt := Map.put q.statusAt w s.time.localCount,
                         statusDue := Map.drop q.statusDue w }
      (s.setQp qp q').sendQp qp 3 (s.statusBytes x (q.statuses + 1) reason discarded)
    else s
  | _, _ => s

/-- A status becomes due, and is sent if it may be. -/
def State.wantStatus (s : State) (qp w reason discarded : Nat) : State :=
  let q := s.qp qp
  (s.setQp qp { q with statusDue := Map.put q.statusDue w (reason, discarded) }).sendStatus qp w

/-- The Ready request queue pairs that may write a window. -/
def State.windowQps (s : State) (w : Nat) : List Nat :=
  (s.qps.filter fun e => e.2.state == 1 && e.2.purpose == 1 && bit (field e.2.record 4 2) w).map (·.1)

/-- The credit of a window has risen. -/
def State.creditRises (s : State) (w : Nat) : State := (s.windowQps w).foldl (fun s q => s.wantStatus q w 0 0) s

/-- Statuses that had to wait. -/
def State.sendStatuses (s : State) : State :=
  s.qps.foldl (fun s e => e.2.statusDue.foldl (fun s d => s.sendStatus e.1 d.1) s) s

/-- The ingress set of an accepted record (R264). -/
def State.ingressSet (s : State) (w : IngressWindow) (n : Nat) : State :=
  match s.tieTarget w.counter with
  | none => s
  | some t =>
    let x : PointSource := { device := s.reg Reg.deviceId, brick := t.brick, cluster := 0, position := 0, kind := 1 }
    (s.bump Reg.signalsSent).emit (.packet (packetWord (t.brick * 64 + t.core % 64) 1 (s.prog.course + 1) t.tie n x))

/-- A gap (R263, R392). -/
def State.windowGap (s : State) (qp : Nat) (w : IngressWindow) (n : Nat) : State :=
  let c := s.reg (Reg.landingCounter w.window)
  let s := (s.bump (Reg.gaps w.window)).notice Note.ingressSequenceGap srcModule (u8 w.window ++ u32 (c + 1) ++ u32 n)
  s.wantStatus qp w.window 1 n

/-- A record is judged by its sequence number; `pos` is the position to which it was addressed, if it was. -/
def State.judgeRecord (s : State) (qp : Nat) (w : IngressWindow) (pos : Option Nat) (r : Bytes) : State :=
  let n := field r 0 4
  let c := s.reg (Reg.landingCounter w.window)
  let k := s.creditOf w
  let j := judgeSeq c n
  if j = 1 then s.bump (Reg.duplicates w.window)
  else if j = 2 then s.windowGap qp w n
  else if k + w.positions < n then
    let s := (s.bump (Reg.overruns w.window)).notice Note.ingressOverrun srcModule (u8 w.window ++ u32 n ++ u32 k)
    s.wantStatus qp w.window 2 n
  else if pos.any fun p => p != n % max 1 w.positions then s.windowGap qp w n
  else ((s.store (s.recordAddress w n) r).setReg (Reg.landingCounter w.window) n).ingressSet w n

/-- A queue pair may write a window of the running plan. -/
def State.mayWrite (s : State) (qp w : Nat) : Bool :=
  let q := s.qp qp
  q.state == 1 && q.purpose == 1 && bit (field q.record 4 2) w && s.onAir

/-- INGRESS_RECORD. -/
def State.takeIngress (s : State) (qp w : Nat) (r : Bytes) : State :=
  match s.window w with
  | none => s
  | some x => if s.mayWrite qp w && r.length == x.granules * 64 then s.judgeRecord qp x none r else s

def execIngressRecord (qp window : Nat) (record : Bytes) (s : State) : Host.Outcome State Fault Refusal :=
  s.onUnit "INGRESS_RECORD" (qpOk qp && windowOk window) (s.takeIngress qp window record)

/-! ### Queue pairs (R390, R391) -/

/-- A queue pair goes to Error (R389, R392, R395, R409). -/
def State.qpFails (s : State) (n cause : Nat) : State :=
  ((s.setQp n { s.qp n with state := 2 }).setReg Reg.lastQpError cause).notice Note.qpError (srcQp n) (u16 n ++ u8 cause)

/-- A NAK, after which the queue pair is in Error. -/
def State.nakQp (s : State) (n cause : Nat) : State :=
  ((s.bump Reg.naksSent).transmit (s.qp n).ingress (.nak n)).qpFails n cause

/-- The fields of a record lie in their ranges (R390, R391). -/
def qpRecordOk (r : Bytes) : Bool :=
  let p := byteAt r 0
  let mtu := byteAt r 2
  let quota := field r 26 4
  decide (1 ≤ p ∧ p ≤ 3) && decide (byteAt r 1 < 4) && decide (3 ≤ mtu ∧ mtu ≤ 5) && (p != 3 || mtu == 5) &&
    (p == 1 || field r 4 2 == 0) && byteAt r 11 == 0 && byteAt r 15 == 0 && byteAt r 19 == 0 &&
    (if p = 1 then decide (320 ≤ quota ∧ quota ≤ 65536) else quota == 0) && field r 30 2 == 0 && allZero (slice r 48 16)

/-- Places of a port's buffer that its Ready request queue pairs hold. -/
def State.quotaOf (s : State) (ingress : Nat) : Nat :=
  (s.qps.filter fun e => e.2.state == 1 && e.2.purpose == 1 && e.2.ingress == ingress).foldl (fun n e => n + e.2.quota) 0

/-- A fresh R_Key, and the sequence counters at 0; records that wait in the buffer stay. -/
def State.readyQp (s : State) (n : Nat) (r : Bytes) : State :=
  let key := (Config.freeRKey s.drawn).toNat
  (s.drew 1).setQp n { Qp.fresh with state := 1, record := r, rkey := key, buffer := (s.qp n).buffer }

/-- QP_CONFIG past check 6, on the queue pair of QpSelect. A write of the record already held changes nothing
(R414; assumption 43). -/
def State.configQp (s : State) (r : Bytes) : Nat × State :=
  let n := s.reg Reg.qpSelect
  let q := s.qp n
  if r.length ≠ 64 ∨ qpRecordOk r = false then (rcRangeError, s)
  else if q.state = 1 ∨ allZero (s.blob (Blob.ipAddress (byteAt r 1))) then (rcStateRefused, s)
  else if byteAt r 0 = 1 ∧ 65536 < s.quotaOf (byteAt r 1) + field r 26 4 then (rcNoRoom, s)
  else if q.record = r then (rcOk, s)
  else (rcOk, s.readyQp n r)

def execQpConfig (v : Via) (value : Bytes) (s : State) : Host.Outcome State Fault Refusal :=
  s.done (s.writeRequest v 0x7400 0x02 9 value fun s => s.configQp value)

/-- QP_RESET: back to Reset from any state, its record and waiting records kept. -/
def State.resetQp (s : State) (n : Nat) : State :=
  s.setQp n { Qp.fresh with record := (s.qp n).record, buffer := (s.qp n).buffer }

def execQpReset (v : Via) (value : Nat) (s : State) : Host.Outcome State Fault Refusal :=
  s.done (s.writeNumber v 0x7400 0x04 7 value fun s => (rcOk, s.resetQp (s.reg Reg.qpSelect)))

/-- QP_RETRY_TIMEOUT (R395). -/
def State.retryQp (s : State) (n : Nat) : State :=
  let q := s.qp n
  match q.outstanding with
  | [] => s
  | (imm, data) :: _ =>
    if q.state ≠ 1 ∨ q.paused then s
    else if 7 ≤ q.retries then s.qpFails n 2
    else (s.setQp n { q with retries := q.retries + 1 }).transmit q.ingress (.send n imm data)

def execQpRetryTimeout (qp : Nat) (s : State) : Host.Outcome State Fault Refusal := s.onUnit "QP_RETRY_TIMEOUT" (qpOk qp) (s.retryQp qp)

/-- Messages that waited while the queue pair was held are sent in order; `fuel` bounds them. -/
def State.releaseHeld (s : State) (n fuel : Nat) : State :=
  match fuel with
  | 0 => s
  | fuel + 1 =>
    let q := s.qp n
    match q.held with
    | [] => s
    | (imm, data) :: r =>
      if q.isHeld ∨ q.state ≠ 1 then s else ((s.setQp n { q with held := r }).sendQp n imm data).releaseHeld n fuel

/-- An acknowledgement of the oldest messages. -/
def State.takeAck (s : State) (n count : Nat) : State :=
  let q := s.qp n
  (s.setQp n { q with outstanding := q.outstanding.drop count, retries := 0 }).releaseHeld n q.held.length

/-! ### WRITEs (R392) -/

/-- The ring: RecordGranules × 64 bytes and the positions, of the plan that runs or is loaded. -/
def State.ringShape (s : State) : Option (Nat × Nat) :=
  match s.anyPlan with
  | none => none
  | some p => if p.ring.isSome then some (p.recordGranules * 64, p.ringPositions) else none

/-- A WRITE with this length and offset lies in a target of that record size and number of positions. -/
def inTarget (size positions off len : Nat) : Bool :=
  decide (0 < size) && len == size && off % size == 0 && decide (off / size < positions)

/-- A record written to the ring: a position that its number does not give is a gap. -/
def State.ringRecord (s : State) (size positions off : Nat) (r : Bytes) : State :=
  let n := field r 0 4
  match s.weights.session with
  | none => s
  | some x =>
    if n = x.accepted + 1 ∧ n ≤ s.releasedCount + x.positions ∧ off / size ≠ n % max 1 positions then s.bump Reg.recordGaps
    else s.acceptRecord false r

/-- RDMA_WRITE: access, sequence, position. -/
def State.takeWrite (s : State) (n address rkey : Nat) (r : Bytes) : State :=
  let q := s.qp n
  let target := address / 2 ^ 56 % 256
  let off := address % 2 ^ 56
  if q.state ≠ 1 ∨ s.onAir = false then s
  else if rkey ≠ q.rkey then s.nakQp n 3
  else if q.purpose = 1 ∧ target < 16 ∧ bit (field q.record 4 2) target then
    match s.window target with
    | none => s.nakQp n 3
    | some w =>
      if inTarget (w.granules * 64) w.positions off r.length then
        (s.transmit q.ingress (.ack n)).judgeRecord n w (some (off / (w.granules * 64))) r
      else s.nakQp n 3
  else if q.purpose = 2 ∧ target = 0x20 then
    match s.ringShape with
    | none => s.nakQp n 3
    | some (size, positions) =>
      if inTarget size positions off r.length then (s.transmit q.ingress (.ack n)).ringRecord size positions off r
      else s.nakQp n 3
  else s.nakQp n 3

/-- An inbound WRITE on a queue pair whose purpose takes WRITEs. -/
def execRdmaWrite (qp address rkey : Nat) (data : Bytes) (s : State) : Host.Outcome State Fault Refusal :=
  s.onUnit "RDMA_WRITE" (qpOk qp)
    (if (s.qp qp).state = 1 ∧ (s.qp qp).purpose = 3 then s.nakQp qp 1 else s.takeWrite qp address rkey data)

/-! ### Packets (R389, R395) -/

/-- A SEND on an order queue pair: a batch on a member; on the head the report that the immediate names. -/
def State.takeOrderSend (s : State) (n : Nat) (imm : Option Nat) (data : Bytes) : State :=
  if s.reg Reg.domainRole = 2 then s.takeBatch n data
  else if imm = some 6 then s.takeAbortReport n data
  else if imm = some 7 then s.takeBondReport n data
  else if imm = some 8 then s.takeDamageReport n data
  else s

/-- An inbound SEND. -/
def State.takeSend (s : State) (n : Nat) (imm : Option Nat) (data : Bytes) : State :=
  let q := s.qp n
  if q.purpose = 1 then (s.transmit q.ingress (.ack n)).takeDescriptor n data
  else if q.purpose = 3 then (s.transmit q.ingress (.ack n)).takeOrderSend n imm data
  else s.nakQp n 1

/-- What a packet does on a Ready queue pair. -/
def State.takeOp (s : State) (n : Nat) (op : RoceOp) : State :=
  match op with
  | .sendOnly data => s.takeSend n none data
  | .sendOnlyImm imm data => s.takeSend n (some imm) data
  | .write address rkey data => if (s.qp n).purpose = 3 then s.nakQp n 1 else s.takeWrite n address rkey data
  | .sendSegment | .writeImm | .readRequest | .atomic => s.nakQp n 1
  | .ack count => s.takeAck n count
  | .nak => s.qpFails n 4
  | .cnp => s.bump (Reg.cnpReceived (s.qp n).ingress)

/-- A CE-marked packet is answered with a CNP, at most one in 16 courses (R395). -/
def State.answerCe (s : State) (n : Nat) : State :=
  let q := s.qp n
  if q.cnpAt.any fun t => decide (s.time.localCount < t + 16) then s
  else
    ((s.setQp n { q with cnpAt := some s.time.localCount }).bump (Reg.cnpSent q.ingress)).transmit q.ingress (.cnp n)

/-- ROCE_PACKET. -/
def State.takePacket (s : State) (ingress qpn : Nat) (op : RoceOp) (icrcOk ce : Bool) : State :=
  let n := qpn - 0x100000
  if s.reg (Reg.ethLinkState ingress) = 0 ∨ s.onAir = false then s
  else if icrcOk = false then s.bump (Reg.icrcFailures ingress)
  else if qpn < 0x100000 ∨ 0x101000 ≤ qpn ∨ (s.qp n).state ≠ 1 ∨ (s.qp n).ingress ≠ ingress then
    s.bump (Reg.framesDropped ingress)
  else (if ce then s.answerCe n else s).takeOp n op

def execRocePacket (ingress qpn : Nat) (op : RoceOp) (icrcOk ce : Bool) (s : State) : Host.Outcome State Fault Refusal :=
  s.onUnit "ROCE_PACKET" (roleOk ingress) (s.takePacket ingress qpn op icrcOk ce)

/-! ### Frames and keys (R386 to R388) -/

/-- AN of a key record (R411). -/
def keyAn (k : Bytes) : Nat := byteAt k 44

/-- A frame under an association number, on the SAs in use: accepted, and what becomes of them. -/
def Macsec.accept (m : Macsec) (an : Nat) : Option Macsec :=
  if m.rx.any fun k => keyAn k == an then some { m with rxOld := none }
  else if m.rxOld.any fun k => keyAn k == an then some m
  else none

/-- Pause, and its end, on the queue pairs of a port; messages that waited are sent. -/
def State.pauseQps (s : State) (ingress : Nat) (on : Bool) : State :=
  let mine := (s.qps.filter fun e => e.2.ingress == ingress && e.2.state == 1).map (·.1)
  mine.foldl (fun s n =>
    let q := s.qp n
    let s := s.setQp n { q with paused := on }
    if on then s else s.releaseHeld n q.held.length) s

/-- A frame that MACsec lets pass (R386). -/
def State.passFrame (s : State) (n : Nat) (f : EthFrame) : State :=
  if f.bufferFull then s.bump (Reg.framesDropped n)
  else if (f.kind = 2 ∨ f.kind = 4) ∧ s.reg (Reg.pfcPriority n) ≠ 0xFF then s.pauseQps n (f.kind == 2)
  else if f.kind = 0 ∧ f.addressed then s.bump (Reg.framesReceived n)
  else if f.kind = 1 then s.transmit n (.arp n)
  else s.bump (Reg.framesDropped n)

/-- ETH_FRAME. -/
def State.takeFrame (s : State) (n : Nat) (f : EthFrame) : State :=
  if s.reg (Reg.ethLinkState n) = 0 ∨ s.onAir = false then s
  else
    match f.secAn with
    | none => if s.reg (Reg.macsecRequired n) = 1 then s.bump (Reg.macsecDropped n) else s.passFrame n f
    | some an =>
      match (s.macsecOf n).accept an with
      | none => s.bump (if s.reg (Reg.macsecRequired n) = 1 then Reg.macsecDropped n else Reg.framesDropped n)
      | some m => (s.setMacsec n m).passFrame n f

def execEthFrame (ingress : Nat) (frame : EthFrame) (s : State) : Host.Outcome State Fault Refusal :=
  s.onUnit "ETH_FRAME" (roleOk ingress) (s.takeFrame ingress frame)

/-- A key record is well formed (R411). -/
def keyRecordOk (k : Bytes) : Bool := k.length == 64 && decide (keyAn k < 4) && allZero (slice k 49 15)

/-- A transmit key: used from the next frame, its packet numbers from 1. -/
def State.putTxSak (s : State) (n : Nat) (k : Bytes) : Nat × State :=
  if keyRecordOk k then
    (rcOk, ((s.setMacsec n { s.macsecOf n with tx := some k }).setReg (Reg.txAn n) (keyAn k)).setReg (Reg.txPacketNumber n) 1)
  else (rcRangeError, s)

/-- TX_SAK. -/
def execTxSak (v : Via) (ingress : Nat) (value : Bytes) (s : State) : Host.Outcome State Fault Refusal :=
  s.onUnit "TX_SAK" (roleOk ingress) (s.writeRequest v (0x7420 + ingress) 0x02 9 value fun s => s.putTxSak ingress value)

/-- A receive key: the previous one stays in use until a frame comes under the new one. -/
def State.putRxSak (s : State) (n : Nat) (k : Bytes) : Nat × State :=
  if keyRecordOk k then
    let m := s.macsecOf n
    (rcOk, s.setMacsec n { m with rx := some k, rxOld := m.rx })
  else (rcRangeError, s)

/-- RX_SAK. -/
def execRxSak (v : Via) (ingress : Nat) (value : Bytes) (s : State) : Host.Outcome State Fault Refusal :=
  s.onUnit "RX_SAK" (roleOk ingress) (s.writeRequest v (0x7420 + ingress) 0x03 9 value fun s => s.putRxSak ingress value)

/-- INGRESS_LINK_CHANGE (R405): in Run and Hold, and not in Limewash, where the ports are down. -/
def State.ingressLink (s : State) (n : Nat) (up : Bool) : State :=
  let v := flagNat up
  if s.reg (Reg.ethLinkState n) = v ∨ (up ∧ (s.onAir = false ∨ s.limewash)) then s
  else (s.setReg (Reg.ethLinkState n) v).notice Note.ingressLinkChange (srcRole n) (u8 n ++ u8 v)

def execIngressLinkChange (ingress : Nat) (up : Bool) (s : State) : Host.Outcome State Fault Refusal :=
  s.onUnit "INGRESS_LINK_CHANGE" (roleOk ingress) (s.ingressLink ingress up)

end Sys2Proof.Machine
end

