-- ==== Sys2Proof/Machine/Host.lean ====
section
/-! DEFINITION. The PCI Express function (R396 to R399, R412), the management chain's enumeration (R400 to R404), the
sending of notices on both paths (R434 to R439), and the notice ring's registers (R435). -/

namespace Sys2Proof.Machine

/-! ### The function (R399, R407) -/

/-- Changes the dictionary paths. -/
def State.mapPaths (s : State) (f : Paths → Paths) : State := { s with paths := f s.paths }

/-- Changes the notice ring. -/
def State.mapRing (s : State) (f : Ring → Ring) : State := s.mapPaths fun p => { p with ring := f p.ring }

/-- A ring with nothing set up. -/
def Ring.clear : Ring :=
  { base := 0, entries := 0, control := 0, producer := 0, consumer := 0, vectorMask := 0, gatewayVector := 0, state := 0 }

/-- A request that waits came through the function. -/
def Waiting.viaFunction (w : Waiting) : Bool :=
  match w with
  | .frame _ _ => false
  | .slot _ => true
  | .write v _ _ _ _ => viaPcie v
  | .request v _ _ _ _ _ _ _ _ => viaPcie v

/-- A function reset (R399): MSI-X, the notice ring set-up, the gateway slots and the requests that wait there. -/
def State.resetFunction (s : State) : State :=
  if s.awake then
    let s := s.bump Reg.functionResets
    s.mapPaths fun p =>
      { p with ring := Ring.clear, gateway := [], msix := [], waiting := p.waiting.filter fun w => !w.viaFunction }
  else s

/-- FUNCTION_RESET: the four kinds do the same. -/
def execFunctionReset (kind : FunctionReset) (s : State) : Host.Outcome State Fault Refusal :=
  match kind with
  | .functionLevel | .hot | .fundamental | .linkLoss => s.done s.resetFunction

/-- The link's state, rate or width changes (R407, R412). -/
def State.linkTo (s : State) (state rate width : Nat) : State :=
  if s.awake ∧ (s.reg Reg.pcieLinkState, s.reg Reg.pcieRate, s.reg Reg.pcieWidth) ≠ (state, rate, width) then
    let s := ((s.setReg Reg.pcieLinkState state).setReg Reg.pcieRate rate).setReg Reg.pcieWidth width
    s.notice Note.pcieLinkChange srcModule (u8 state ++ u8 rate ++ u8 width)
  else s

/-- The codes of R407: a link state, a rate (0 with no link), a width (0 with no link). -/
def pcieOk (state rate width : Nat) : Bool := decide (state ≤ 2) && decide (rate ≤ 6) && [0, 1, 2, 4].contains width

/-- PCIE_LINK_CHANGE. -/
def execPcieLinkChange (state rate width : Nat) (s : State) : Host.Outcome State Fault Refusal :=
  s.onUnit "PCIE_LINK_CHANGE" (pcieOk state rate width) (s.linkTo state rate width)

/-- IDE_KM_EXCHANGE (R396): an IDE stream starts or ends. -/
def execIdeKmExchange (active : Bool) (s : State) : Host.Outcome State Fault Refusal :=
  s.done (if s.awake then s.setReg Reg.ideActive (flagNat active) else s)

/-! ### Chain frames (R426) -/

/-- A frame's header and value, padded with zeros to 46 bytes. -/
def chainBytes (op seq index sub typ result offset total : Nat) (value : Bytes) : Bytes :=
  let head := u8 1 ++ u8 op ++ u16 seq ++ u16 index ++ u8 sub ++ u8 typ ++ zeros 2 ++ u16 result ++ u32 offset ++
    u16 value.length ++ zeros 2 ++ u32 total
  let f := head ++ value
  f ++ zeros (46 - f.length)

/-- The broadcast address. -/
def broadcast : Nat := 2 ^ 48 - 1

/-- The value of an Answer (R402). -/
def State.answerValue (s : State) : Bytes :=
  padTo 12 (s.blob Blob.serialNumber) ++ padTo 16 (s.blob Blob.partNumber) ++ u8 (s.reg Reg.stepping)

/-- A Claim (R401, R402): an unaddressed module with CHAIN_IN asserted answers it. -/
def State.claimed (s : State) (node : Nat) (chainIn : Bool) : State :=
  if s.awake ∧ s.reg Reg.chainState ≠ 2 ∧ chainIn ∧ 1 ≤ node ∧ node ≤ 32 then
    let s := (s.setReg Reg.chainState 1).bump Reg.claimsAnswered
    let s := s.mapPaths fun p => { p with answered := some s.time.localCount }
    s.emit (.chain broadcast (chainBytes 0x21 0 0 0 9 0 0 0 s.answerValue))
  else s

/-- CLAIM. -/
def execClaim (node : Nat) (chainIn : Bool) (s : State) : Host.Outcome State Fault Refusal :=
  s.done (s.claimed node chainIn)

/-- A Confirm with this module's serial number: it is addressed, and asserts CHAIN_OUT. -/
def State.confirmed (s : State) (node : Nat) (serial : Bytes) : State :=
  if s.awake ∧ s.reg Reg.chainState ≠ 2 ∧ serial = padTo 12 (s.blob Blob.serialNumber) ∧ 1 ≤ node ∧ node ≤ 32 then
    let s := ((s.setReg Reg.chainState 2).setReg Reg.chainNode node).setReg Reg.chainOut 1
    let s := (s.mapPaths fun p => { p with answered := none }).emit (.chainOut true)
    s.notice Note.chainAddressed srcModule (u8 node ++ padTo 6 (s.blob Blob.chainMac))
  else s

/-- CONFIRM. -/
def execConfirm (node : Nat) (serial : Bytes) (s : State) : Host.Outcome State Fault Refusal :=
  s.done (s.confirmed node serial)

/-- No Confirm within 2¹⁶ courses of the Answer. -/
def State.claimLapses (s : State) : State :=
  match s.paths.answered with
  | none => s
  | some t =>
    if s.reg Reg.chainState = 1 ∧ t + 65536 ≤ s.time.localCount then
      (s.setReg Reg.chainState 0).mapPaths fun p => { p with answered := none }
    else s

/-- CLAIM_TIMEOUT. -/
def execClaimTimeout (s : State) : Host.Outcome State Fault Refusal := s.done s.claimLapses

/-! ### DeviceId (R404) -/

/-- A fabric or bond port that is Up or Training returns to phase 5. -/
def State.retrainIdentity (s : State) (port : Nat) : State :=
  let p := s.port port
  if s.portRole port ≤ 1 ∧ (p.linkState = 1 ∨ p.linkState = 2) then
    (s.setPort port { p.allLanes 1 with phase := 5 }).refreshLink port
  else s

/-- DEVICE_ID_WRITE past check 8. -/
def State.writeDeviceId (s : State) (v : Nat) : Nat × State :=
  let old := s.reg Reg.deviceId
  if s.planActive then (rcStateRefused, s)
  else if v = old then (rcOk, s)
  else
    let s := (s.setReg Reg.deviceId v).notice Note.deviceIdSet srcModule (u16 old ++ u16 v)
    (rcOk, (List.range 64).foldl State.retrainIdentity s)

/-- DEVICE_ID_WRITE. -/
def execDeviceIdWrite (v : Via) (value : Nat) (s : State) : Host.Outcome State Fault Refusal :=
  s.done (s.writeNumber v 0x1100 0x05 2 value fun s => s.writeDeviceId value)

/-! ### Notices on the two paths (R431 to R437) -/

/-- A notice of any code and class is raised (R438, R439); NoticesSuppressed is not rate-limited. -/
def State.raiseNotice (s : State) (code cls source : Nat) (payload : Bytes) : State :=
  if code = Note.noticesSuppressed.code ∧ cls = 0 ∧ bit (s.reg Reg.noticeClasses) 0 then
    s.deliver Note.noticesSuppressed source 0 payload
  else s.notice { code := code, cls := cls } source payload

/-- The fields fit those of R431. -/
def noticeOk (code cls : Nat) (payload : Bytes) : Bool := decide (code < 2 ^ 16) && decide (cls ≤ 3) && decide (payload.length ≤ 48)

/-- NOTICE_RAISE. -/
def execNoticeRaise (code cls source : Nat) (payload : Bytes) (s : State) : Host.Outcome State Fault Refusal :=
  s.onUnit "NOTICE_RAISE" (noticeOk code cls payload) (if s.awake then s.raiseNotice code cls source payload else s)

/-- The record of R431. -/
def Notice.bytes (n : Notice) : Bytes :=
  u16 n.code ++ u8 n.cls ++ u8 n.payload.length ++ u32 n.seq ++ u64 n.stamp ++ u32 n.source ++ u32 n.suppressed ++ zeros 8 ++
    padTo 48 n.payload ++ zeros 48

/-- The notice frame of R434. -/
def Notice.frame (n : Notice) : Bytes := chainBytes 0x10 n.seq 0 0 9 0 0 0 (n.bytes.take 80)

/-- The module's PLCA transmit opportunity (R434): a response first, then a notice. The Keystone restart holds both (R516),
and a path that ChainNotices disables holds its notices (R437). -/
def State.chainTurn (s : State) : State :=
  if s.awake = false ∨ s.reg Reg.chainState ≠ 2 ∨ s.keystoneDown then s
  else
    match s.paths.responses, s.paths.chainQueue with
    | r :: rest, _ => (s.mapPaths fun p => { p with responses := rest }).emit (.chain r.1 r.2)
    | [], [] => s
    | [], n :: rest =>
      if s.reg Reg.chainNotices = 1 then
        (s.mapPaths fun p => { p with chainQueue := rest }).emit (.chain (leVal (s.blob Blob.noticeMac)) n.frame)
      else s

/-- NOTICE_SEND_CHAIN. -/
def execNoticeSendChain (s : State) : Host.Outcome State Fault Refusal := s.done s.chainTurn

/-- NoticeRingFault (R445). -/
def State.ringFaults (s : State) : State :=
  let s := s.mapRing fun r => { r with state := 2 }
  s.notice Note.noticeRingFault srcModule (u8 2 ++ u16 s.paths.ringQueue.length)

/-- There is room in the ring (R436). -/
def Ring.room (r : Ring) : Bool := decide ((r.producer + 2 ^ 32 - r.consumer) % 2 ^ 32 < r.entries)

/-- The oldest queued notice is written to host memory, or the posted write fails (R436). -/
def State.ringTurn (s : State) (ok : Bool) : State :=
  let r := s.paths.ring
  match s.paths.ringQueue with
  | [] => s
  | n :: rest =>
    if s.awake = false ∨ s.keystoneDown ∨ r.state ≠ 1 ∨ r.room = false then s
    else if ok = false then s.ringFaults
    else
      let next := (r.producer + 1) % 2 ^ 32
      let s := s.mapPaths fun p => { p with ringQueue := rest, ring := { r with producer := next } }
      let s := s.emit (.host (r.base + 128 * (r.producer % r.entries)) n.bytes)
      let s := s.emit (.host (r.base + 128 * r.entries) (u32 next))
      if bit r.vectorMask n.cls then s else s.emit (.msix n.cls)

/-- NOTICE_RING_WRITE. -/
def execNoticeRingWrite (ok : Bool) (s : State) : Host.Outcome State Fault Refusal := s.done (s.ringTurn ok)

/-! ### The ring's registers (R435) -/

/-- The base and the size are valid. -/
def Ring.valid (r : Ring) : Bool :=
  r.base % 4096 == 0 && (List.range 11).any fun k => r.entries == 64 * 2 ^ k

/-- A write of RingControl. -/
def State.writeRingControl (s : State) (value : Nat) : State :=
  let r := s.paths.ring
  if bit value 0 = false then s.mapRing fun r => { r with control := 0, state := 0 }
  else if r.control = 1 then s
  else
    let s := s.mapRing fun r => { r with control := 1, producer := 0, consumer := 0, state := 1 }
    if r.valid then s else s.ringFaults

/-- RING_CONTROL. -/
def execRingControl (value : Nat) (s : State) : Host.Outcome State Fault Refusal :=
  s.done (if s.awake then s.writeRingControl value else s)

end Sys2Proof.Machine
end

