-- ==== Sys2Proof/Machine/Start.lean ====
section
/-! DEFINITION. Start attempts, confirmation, firmware slots and Limewash (R529 to R537), fatal faults (R547), diagnostics
(R552), firmware activation and Pattern Book patches (R516, R517). -/

namespace Sys2Proof.Machine

/-! ### Attempts (R529 to R531, R535) -/

/-- StartHistory gains a record (R531, R549): newest first, eight kept. -/
def State.recordStart (s : State) (reason slot step detail : Nat) : State :=
  let r := u32 (s.reg Reg.startsTotal) ++ u8 reason ++ u8 slot ++ u8 step ++ u8 0 ++ u32 detail ++ u32 0
  { s with start := { s.start with history := (r :: s.start.history).take 8 } }

/-- An internal reset has the effect of RESET_N (R531). -/
def State.internalReset (s : State) : State := s.cold true .inReset

/-- An attempt begins: the ROM finds the one before unfinished (reason 7), and counts this one (R531). -/
def State.beginAttempt (s : State) : State :=
  let slot := s.reg Reg.runningSlot
  let step := s.start.step
  let s := if s.start.unfinished then s.recordStart 7 slot step step else s
  let s := { s with start := { s.start with unfinished := false, step := 1 } }
  s.bump Reg.startsTotal

/-- Reasons of the latest failed attempts, newest first. -/
def State.failedReasons (s : State) : Bytes :=
  padTo 3 ((s.start.history.map fun r => r.getD 4 0).filter fun b => b != 0)

/-- Limewash (R536, R537): it runs from the ROM, ingress ports are down. -/
def State.enterLimewash (s : State) (reason : Nat) : State :=
  let s := (s.setReg Reg.startState 3).setReg Reg.limewashReason reason
  let s := (s.setReg Reg.runningSlot 0xFF).setReg Reg.firmwareVersion (field Config.limewashHeader 8 4)
  let s := (s.setReg Reg.patternBookVersion 0).ingressDown
  let s := { s with start := { s.start with patchRam := [] } }
  (s.setReg Reg.patchedRoutines 0).notice Note.limewashEntered srcModule (u8 reason ++ s.failedReasons)

/-- What sends an attempt to Limewash in step 2 (R535). -/
def State.limewashCause (s : State) : Option Nat :=
  if s.reg Reg.lifecycle = 3 then some 2 else if s.reg Reg.failedStarts = 3 then some 1 else none

/-- An attempt that goes on: FailedStarts counts it, and it is unfinished. -/
def State.countAttempt (s : State) : State :=
  let s := s.bump Reg.failedStarts
  { s with start := { s.start with unfinished := true, step := 2 } }

/-- An attempt fails (R531): recorded, and the module restarts. -/
def State.failAttempt (s : State) (reason slot step detail : Nat) : State :=
  let s := s.recordStart reason slot step detail
  ({ s with start := { s.start with unfinished := false } }).internalReset

/-! ### The ROM (R475, R534) -/

/-- The image of a slot. -/
def State.slotItem (s : State) (slot : Nat) : Item := ⟨Map.get s.start.flash [] slot⟩

/-- The ROM's verification of a slot: the cause that fails it; an empty slot fails check 1 and holds no item to refuse. -/
def State.romCause (s : State) (slot : Nat) : Nat :=
  if (s.slotItem slot).bytes.isEmpty then 1
  else
    match s.verify (s.slotItem slot) [1] true with
    | some (cause, _) => cause
    | none => 0

/-- SlotStates and SlotVersions of one slot. -/
def State.showSlot (s : State) (slot st version : Nat) : State :=
  let s := s.setBlobByte Blob.slotStates slot st
  let b := s.blob Blob.slotVersions
  s.setBlob Blob.slotVersions (b.take (4 * slot) ++ u32 version ++ b.drop (4 * slot + 4))

/-- A slot that the ROM refuses (R472, R534): an item that fails leaves it Invalid (R532). -/
def State.romRefuses (s : State) (slot : Nat) : State :=
  if (s.slotItem slot).bytes.isEmpty then s.setReg Reg.imageVerifyCause 1
  else (s.showSlot slot 3 0).refuseItem (s.slotItem slot) (s.romCause slot) 2

/-- Pattern Book manifest records of 48 bytes. -/
def manifestRecords (b : Bytes) : List Bytes := splitVecs 48 (b.length / 48) b

/-- Every Trowel holds the image of a firmware header (R176). -/
def State.trowelImages (s : State) (header : Bytes) : State :=
  (List.range 128).foldl (fun s c => s.setReg (Reg.trowelImage c) (Config.trowelVersion header).toNat) s

/-- The firmware of a slot is in force: its header, versions, manifest and patches (R470, R516, R569). -/
def State.takeFirmware (s : State) (slot : Nat) : State :=
  let i := s.slotItem slot
  let manifest := Config.imageManifest i.body
  let patches := Config.imagePatches i.body
  let s := { s with security := { s.security with image := i.header, notAfterSeen := false } }
  let s := ((s.showSlot slot 2 i.firmwareVersion).setReg Reg.runningSlot slot).setReg Reg.firmwareVersion i.firmwareVersion
  let s := (s.setReg Reg.patternBookVersion i.bookVersion).setReg Reg.securityVersionRunning i.securityVersion
  let s := (s.setBlob Blob.patternBookManifest manifest).setReg Reg.patternBookRoutines (manifestRecords manifest).length
  let s := { s with start := { s.start with patchRam := patches } }
  (s.setReg Reg.patchedRoutines (manifestRecords (Config.patchRecords patches)).length).trowelImages i.header

/-- The ROM blows the bits of RevokeMask but those of the anchors that signed the image (R475). -/
def State.revokeAnchors (s : State) (i : Item) : State :=
  let signers := bitSet ((anchorOf 0 i.vendorE.1).toList ++ (anchorOf 4 i.vendorM.1).toList)
  let old := s.reg Reg.anchorRevoked
  let new := old ||| clearBits i.revokeMask signers
  if new = old then s else (s.setReg Reg.anchorRevoked new).notice Note.anchorRevoked srcModule (u8 new)

/-- Step 2: PreferredSlot first, then the other (R534); none where neither verifies. -/
def State.chooseSlot (s : State) : Option Nat × State :=
  let p := s.reg Reg.preferredSlot
  let o := 1 - p
  if s.romCause p = 0 then (some p, s)
  else
    let cause := s.romCause p
    let s := s.romRefuses p
    if s.romCause o = 0 then
      (some o, (s.setReg Reg.preferredSlot o).notice Note.slotFallback srcModule (u8 p ++ u8 cause))
    else (none, s.romRefuses o)

/-! ### Steps 3 to 5 -/

/-- Clusters of which cores failed the self-test. -/
def failingClusters (failing : List Nat) : List Nat := (List.range 128).filter fun c => failing.any fun k => coreCluster k == c

/-- The self-test's verdict on a cluster (R49): one failing core is served by the spare; two retire the cluster. -/
def State.selfTest (s : State) (failing : List Nat) (c : Nat) : State :=
  match (List.range 8).filter fun p => failing.contains (8 * c + p) with
  | [] => s
  | [p] =>
    if s.clusterOn c then
      (s.notice Note.substitutionStarted (srcCluster c) (u16 c ++ u8 p ++ u8 0)).spareTakes c p
    else s
  | _ :: _ :: _ => s.retire c

/-- Step 4: self-test and substitution; a retirement changes the unit map (R58). -/
def State.selfTests (s : State) (failing : List Nat) : State :=
  let old := s.units.clusterMask
  let s := (failingClusters failing).foldl (fun s c => s.selfTest failing c) s
  if s.units.clusterMask = old then s
  else
    let s := { s with units := { s.units with mapSerial := s.units.mapSerial + 1 } }
    s.notice Note.unitMapChanged srcModule (u32 s.units.mapSerial ++ s.unitMapDigest)

/-- The Trowels of the enabled clusters run. -/
def State.startTrowels (s : State) : State :=
  ((List.range 128).filter s.clusterOn).foldl (fun s c => s.setReg (Reg.trowelState c) 1) s

/-- The end of step 5 (R530, R547): Operational, the stores zero (R208), `longest` courses at most after the start. -/
def State.operational (s : State) (longest : Nat) : State :=
  let s := ({ s with mem := [] }).startTrowels
  let s := s.setReg Reg.startState 1
  let s := (s.setReg Reg.lastStartCourses ((Config.freeWord s.drawn).toNat % (longest + 1))).drew 1
  let s := { s with start := { s.start with operationalAt := s.time.localCount, step := 6 } }
  match s.start.fatal with
  | none => s
  | some (cause, stamp) =>
    ({ s with start := { s.start with fatal := none } }).notice Note.fatalReset srcModule (u8 cause ++ u64 stamp)

/-- The module leaves reset, Off or Sleep and its attempt runs steps 1 to 5: `none` leaves out the self-test (R455). -/
def State.attempt (s : State) (failing : Option (List Nat)) : State :=
  let s := s.beginAttempt
  let awake (s : State) : State := { s with power := { s.power with mode := .run, pwrGood := true, supplyLow := false } }
  match s.limewashCause with
  | some r => ((awake s).enterLimewash r).startLevel
  | none =>
    let s := s.countAttempt
    match s.chooseSlot with
    | (none, t) =>
      t.failAttempt 1 (1 - s.reg Reg.preferredSlot) 2 (s.romCause 1 * 256 + s.romCause 0)
    | (some slot, t) =>
      let t := ((awake t).takeFirmware slot).revokeAnchors (t.slotItem slot)
      match failing with
      | some l => ((t.startLevel).selfTests l).operational 25241
      | none => (t.startLevel).operational 18991

/-- A start may begin: in reset, Off, or where the module stands in StartState 0. -/
def State.mayStart (s : State) : Bool :=
  match s.power.mode with
  | .off | .inReset => true
  | .run => s.reg Reg.startState == 0
  | .hold | .doze | .sleep => false

/-- ATTEMPT_START. -/
def State.startUp (s : State) (failing : List Nat) : State :=
  if s.mayStart then (s.attempt (some failing)).wakeClock else s

def execAttemptStart (failing : List Nat) (s : State) : Host.Outcome State Fault Refusal := s.done (s.startUp failing)

/-- SupplyLoss is sent at the next start or wake (R454, R463). -/
def State.noticeSupply (s : State) : State :=
  match s.power.lowest with
  | none => s
  | some l => ({ s with power := { s.power with lowest := none } }).notice Note.supplyLoss srcModule (u32 l)

/-- The end of a wake sequence: WakeTarget, with the count that its source confirmed, if one did (R453, R455). -/
def State.endWake (s : State) (src : Nat) (source : Option Nat) : State :=
  if s.awake = false then s
  else
    let target := s.reg Reg.wakeTarget
    let mode : PowerMode := if target = 2 then .doze else .run
    let p := { s.power with mode := mode, waking := none, sleepAlert := false }
    let s := (({ s with power := p }).setReg Reg.lastTransitionCause 4).noticePower 3 target 4
    let s :=
      match source with
      | none => s.wakeClock
      | some c => (s.confirmCount c).wakeClock
    let s := s.notice Note.woken srcModule (u8 src ++ u32 (s.reg Reg.lastKeeperError) ++ u32 (s.reg Reg.sleepTempEvents))
    s.noticeSupply.driveAlert

/-- WOKEN. -/
def State.wake (s : State) (source : Option Nat) : State :=
  match s.power.mode, s.power.waking with
  | .sleep, some src => (s.attempt none).endWake src source
  | _, _ => s

def execWoken (source : Option Nat) (s : State) : Host.Outcome State Fault Refusal := s.done (s.wake source)

/-- RESET_N (R529): a pulse of 16 courses or longer. -/
def State.resetPin (s : State) (low : Nat) : State :=
  match s.power.mode with
  | .off => s
  | .run | .hold | .doze | .sleep | .inReset => if 16 ≤ low then s.cold true .inReset else s

def execResetN (low : Nat) (s : State) : Host.Outcome State Fault Refusal := s.done (s.resetPin low)

/-- START_CONFIRMED (R531). -/
def State.confirmStart (s : State) : State :=
  if s.reg Reg.startState = 1 ∧ s.start.operationalAt + 2 ^ 20 ≤ s.time.localCount then
    let s := (s.setReg Reg.startState 2).setReg Reg.failedStarts 0
    let s := s.recordStart 0 (s.reg Reg.runningSlot) 7 0
    let s := { s with start := { s.start with unfinished := false } }
    s.notice Note.startConfirmed srcModule
      (u8 (s.reg Reg.runningSlot) ++ u32 (s.reg Reg.firmwareVersion) ++ u32 (s.reg Reg.lastStartCourses))
  else s

def execStartConfirmed (s : State) : Host.Outcome State Fault Refusal := s.done s.confirmStart

/-- The step in which a failure of reasons 2 to 5 occurs before Operational. -/
def failStep (reason detail : Nat) : Nat :=
  if reason = 2 then detail else if reason = 3 then (if detail = 0xFF then 1 else 4) else if reason = 4 then 2 else 5

/-- START_FAILED (R531): reasons 2 to 5, of an attempt that is not yet Operational, or not yet confirmed. -/
def State.startFails (s : State) (reason detail : Nat) : State :=
  if reason < 2 ∨ 5 < reason then s
  else if s.mayStart then
    let s := s.beginAttempt
    match s.limewashCause with
    | some r => ({ s with power := { s.power with mode := .run } }).enterLimewash r
    | none =>
      let step := failStep reason detail
      s.countAttempt.failAttempt reason (if step < 2 then 0xFF else s.reg Reg.preferredSlot) step detail
  else if s.awake ∧ s.reg Reg.startState = 1 then s.failAttempt reason (s.reg Reg.runningSlot) s.stepReached detail
  else s

def execStartFailed (reason detail : Nat) (s : State) : Host.Outcome State Fault Refusal := s.done (s.startFails reason detail)

/-- FATAL_FAULT (R547, R548): before confirmation it fails the attempt with reason 6. -/
def State.fatalFault (s : State) (cause : Nat) : State :=
  if s.awake = false ∨ cause = 0 ∨ 5 < cause then s
  else
    let s := s.bump Reg.fatalResets
    let s := { s with start := { s.start with fatal := some (cause, s.stamp) } }
    if s.reg Reg.startState = 1 then s.failAttempt 6 (s.reg Reg.runningSlot) s.stepReached cause else s.internalReset

def execFatalFault (cause : Nat) (s : State) : Host.Outcome State Fault Refusal := s.done (s.fatalFault cause)

/-- START_RETRY past check 9 (R535). -/
def State.retryStart (s : State) : Nat × State :=
  if s.limewash = false ∨ s.reg Reg.limewashReason = 2 then (rcStateRefused, s)
  else (rcOk, (s.setReg Reg.failedStarts 0).internalReset)

def execStartRetry (v : Via) (value : Nat) (s : State) : Host.Outcome State Fault Refusal :=
  s.done (s.writeNumber v 0xA600 0x05 7 value State.retryStart)

/-! ### Firmware slots (R532, R550) -/

/-- SLOT_SELECT past check 9. -/
def State.selectSlot (s : State) (v : Nat) : Nat × State :=
  if s.limewash = false ∧ v = s.reg Reg.runningSlot then (rcStateRefused, s) else s.putReg Reg.slotSelect v

def execSlotSelect (v : Via) (value : Nat) (s : State) : Host.Outcome State Fault Refusal :=
  s.done (s.writeNumber v 0xA601 0x03 1 value fun s => s.selectSlot value)

/-- A write of the selected slot: erased, written, verified. -/
def State.writeSlot (s : State) (path : Nat) (b : Bytes) : Nat × State :=
  let slot := s.reg Reg.slotSelect
  if s.limewash = false ∧ slot = s.reg Reg.runningSlot then (rcStateRefused, s)
  else
    let i : Item := ⟨b⟩
    let s := { s with start := { s.start with flash := Map.set s.start.flash [] slot b } }
    match s.verify i [1] false with
    | some (cause, rc) => (rc, (s.showSlot slot 3 0).refuseItem i cause path)
    | none => (rcOk, s.showSlot slot 2 i.firmwareVersion)

def execSlotImage (v : Via) (value : Bytes) (s : State) : Host.Outcome State Fault Refusal :=
  s.done (s.writeRequest v 0xA601 0x04 9 value fun s => s.writeSlot (viaCode v) value)

/-- SLOT_STAGE past check 9. -/
def State.stageSlot (s : State) (path n : Nat) : Nat × State :=
  if 2 ^ 24 < n then (rcRangeError, s)
  else if s.reg Reg.planState ≠ 0 then (rcStateRefused, s)
  else s.writeSlot path (s.staging.read 0 n)

def execSlotStage (v : Via) (value : Nat) (s : State) : Host.Outcome State Fault Refusal :=
  s.done (s.writeNumber v 0xA601 0x05 3 value fun s => s.stageSlot (viaCode v) value)

/-- DIAGNOSTIC_RUN past check 9 (R552). -/
def State.diagnose (s : State) (test : Nat) (failing : List Nat) : Nat × State :=
  if s.limewash = false then (rcStateRefused, s)
  else
    let s := if test = 2 then { s with mem := [] } else s
    (rcOk, s.setBlob Blob.diagnosticResult ((u8 test ++ u8 (flagNat failing.isEmpty) ++ failing.flatMap u32).take 4096))

def execDiagnosticRun (v : Via) (value : Nat) (failing : List Nat) (s : State) : Host.Outcome State Fault Refusal :=
  s.done (s.writeNumber v 0xA603 0x06 1 value fun s => s.diagnose value failing)

/-! ### Firmware activation (R516, R533) -/

/-- The other slot. -/
def State.otherSlot (s : State) : Nat := 1 - s.reg Reg.runningSlot

/-- A course that an activation may name: a quoin course at least `ahead` ahead, or 0 with no plan running. -/
def State.activationCourse (s : State) (c ahead : Nat) : Bool :=
  if s.prog.running then s.isQuoin c && decide (s.prog.course + ahead ≤ c) else c == 0

/-- An activation is armed. -/
def State.armFirmware (c : Nat) (s : State) : State :=
  { s.setReg Reg.activationState 1 with start := { s.start with firmwareAt := some c } }

/-- FIRMWARE_ACTIVATE past check 9, in the order of R516. -/
def State.activateFirmware (s : State) (path c : Nat) : Nat × State :=
  let i := s.slotItem s.otherSlot
  if s.limewash then (rcStateRefused, s)
  else if s.activationCourse c 64 = false then (rcRangeError, s)
  else
    match s.verify i [1] false with
    | some (cause, rc) => (rc, s.refuseItem i cause path)
    | none =>
      if s.prog.running ∧ i.bookVersion ≠ s.reg Reg.patternBookVersion then (rcStateRefused, s)
      else if s.reg Reg.activationState ≠ 0 then (rcStateRefused, s)
      else s.govern 1 path c (State.armFirmware c)

def execFirmwareActivate (v : Via) (value : Nat) (s : State) : Host.Outcome State Fault Refusal :=
  s.done (s.writeNumber v 0x9020 0x01 4 value fun s => s.activateFirmware (viaCode v) value)

/-- The present course boundary carries out what was armed for a course (R33, R523): a takeover comes first. -/
def State.serviceCourse (s : State) (c : Nat) : Bool :=
  if s.prog.running then
    s.atQuoinCourse && decide (c ≤ s.prog.course) && s.reg Reg.lastTakeover != s.prog.course &&
      !(s.bond.takeover.any fun x => x.1 == s.prog.course)
  else true

/-- The course that the notices of an activation carry. -/
def State.serviceStamp (s : State) : Nat := if s.prog.running then s.prog.course else s.stamp

/-- FIRMWARE_ACTIVATION: every Trowel swaps banks, patch RAM takes the image's patches, the Keystone restarts. -/
def State.activate (s : State) : State :=
  match s.start.firmwareAt with
  | none => s
  | some c =>
    if s.reg Reg.activationState ≠ 1 ∨ s.serviceCourse c = false ∨ s.awake = false then s
    else
      let patches := Config.imagePatches (s.slotItem s.otherSlot).body
      let swap (s : State) (c : Nat) : State := s.setReg (Reg.trowelBank c) (1 - s.reg (Reg.trowelBank c))
      let s := (((List.range 128).filter s.clusterOn).foldl swap s).trowelImages (s.slotItem s.otherSlot).header
      let st := { s.start with firmwareAt := some s.serviceStamp, patchRam := patches }
      let s := { s with start := st }
      (s.setReg Reg.patchedRoutines (manifestRecords (Config.patchRecords patches)).length).setReg Reg.activationState 2

def execFirmwareActivation (s : State) : Host.Outcome State Fault Refusal := s.done s.activate

/-- The end of the Keystone restart, but for the requests that waited and the notice: the slot is RunningSlot and
PreferredSlot. -/
def State.restartDone (s : State) : State :=
  let slot := s.otherSlot
  let s := (s.takeFirmware slot).setReg Reg.preferredSlot slot
  let s := s.revokeAnchors (s.slotItem slot)
  { s.setReg Reg.activationState 0 with start := { s.start with firmwareAt := none } }

/-- FirmwareActivated (R516), of the course of the activation. -/
def State.noticeActivated (s : State) (course : Nat) : State :=
  s.notice Note.firmwareActivated srcModule (u32 (s.reg Reg.firmwareVersion) ++ u64 course)

/-! ### Pattern Book patches (R169, R517) -/

/-- A patch keeps the manifest record of every routine that it replaces (R169), names the running versions and fits. -/
def State.patchFits (s : State) (i : Item) : Bool :=
  let inForce := manifestRecords (s.blob Blob.patternBookManifest)
  i.firmwareVersion == s.reg Reg.firmwareVersion && i.bookVersion == s.reg Reg.patternBookVersion &&
    decide (i.bodyLength ≤ 32768) && (manifestRecords (Config.patchRecords i.body)).all fun r => inForce.contains r

/-- PATCH_LOAD past check 9. -/
def State.loadPatch (s : State) (path n : Nat) : Nat × State :=
  if s.reg Reg.planState ≠ 0 ∨ s.limewash then (rcStateRefused, s)
  else if 2 ^ 28 < n then (rcRangeError, s)
  else
    let i : Item := ⟨s.staging.read 0 n⟩
    match s.verify i [2] false with
    | some (cause, rc) => (rc, (s.setReg Reg.patchState 4).refuseItem i cause path)
    | none =>
      if s.patchFits i then
        (rcOk, { s.setReg Reg.patchState 2 with start := { s.start with patch := some i.body, patchAt := none } })
      else (rcRangeError, s.setReg Reg.patchState 4)

def execPatchLoad (v : Via) (value : Nat) (s : State) : Host.Outcome State Fault Refusal :=
  s.done (s.writeNumber v 0x9020 0x03 3 value fun s => s.loadPatch (viaCode v) value)

/-- PatchActivate's own conditions, and its start. -/
def State.judgePatch (c : Nat) (s : State) : Nat :=
  if s.reg Reg.patchState ≠ 2 then rcStateRefused else if s.activationCourse c 1 then rcOk else rcRangeError
def State.armPatch (c : Nat) (s : State) : State :=
  { s.setReg Reg.patchState 3 with start := { s.start with patchAt := some c } }

def execPatchActivate (v : Via) (value : Nat) (s : State) : Host.Outcome State Fault Refusal :=
  s.done (s.writeNumber v 0x9020 0x05 4 value fun s => s.governed (State.judgePatch value) 2 0 value (State.armPatch value))

/-- PATCH_SWAP: the halves of patch RAM swap. -/
def State.swapPatch (s : State) : State :=
  match s.start.patchAt, s.start.patch with
  | some c, some b =>
    if s.reg Reg.patchState ≠ 3 ∨ s.serviceCourse c = false ∨ s.awake = false then s
    else
      let course := s.serviceStamp
      let s := { s with start := { s.start with patchRam := b, patch := none, patchAt := none } }
      let s := (s.setReg Reg.patchState 0).setReg Reg.patchedRoutines (manifestRecords (Config.patchRecords b)).length
      s.notice Note.patchActivated srcModule (u16 (s.reg Reg.patchedRoutines) ++ u64 course)
  | _, _ => s

def execPatchSwap (s : State) : Host.Outcome State Fault Refusal := s.done s.swapPatch

end Sys2Proof.Machine
end

