-- ==== Sys2Proof/Machine/Bond.lean ====
section
/-! DEFINITION. Bond pairs: modes (R501 to R503), heartbeats (R504, R505), mirror records (R507, R508), bond states (R509),
loss and takeover (R510 to R513), resync (R514); and the requests that the governor holds (R520). -/

namespace Sys2Proof.Machine

/-- Changes the bond's record. -/
def State.mapBond (s : State) (f : Bond → Bond) : State := { s with bond := f s.bond }

/-! ### Heartbeat words (R504) -/

/-- KeyTag: bytes 0 to 3 of ResultClassKey. -/
def State.keyTag (s : State) : Nat := field s.resultClassKey 0 4

/-- The word that the module sends in this course. -/
def State.heartbeatWord (s : State) : Nat :=
  let mark := s.reg Reg.appliedMark % 2 ^ 32
  let body := 2 ^ 108 + s.reg Reg.bondMode % 4 * 2 ^ 106 + s.reg Reg.bondSide % 2 * 2 ^ 105 + flagNat s.bond.yield * 2 ^ 104 +
    flagNat s.bond.tookOver * 2 ^ 103 + flagNat s.prog.running * 2 ^ 102 + s.keyTag * 2 ^ 64 + mark * 2 ^ 32 +
    s.prog.course % 2 ^ 32
  crc16 (leBytes 14 body) * 2 ^ 112 + body

/-- Fields of a word. -/
def hbMode (w : Nat) : Nat := bits w 106 2
def hbSide (w : Nat) : Nat := bits w 105 1
def hbYield (w : Nat) : Bool := bit w 104
def hbTookOver (w : Nat) : Bool := bit w 103
def hbKeyTag (w : Nat) : Nat := bits w 64 32
def hbMark (w : Nat) : Nat := bits w 32 32

/-- The partner's word carries this module's KeyTag. -/
def State.keysEqual (s : State) : Bool := s.bond.partner.any fun w => hbKeyTag w == s.keyTag

/-- The partner's word shows the complementary mode (R509). -/
def State.complements (s : State) (w : Nat) : Bool :=
  let m := s.reg Reg.bondMode
  (m == 1 && hbMode w == 2) || (m == 2 && hbMode w == 1) || (m == 3 && hbMode w == 3 && hbSide w != s.reg Reg.bondSide)

/-! ### What a sender says of a slot (R507) -/

/-- The slot's last 15 generated tokens, oldest first. -/
def Slot.lastTokens (x : Slot) : Bytes := padTo 60 ((x.recent.take 15).reverse.flatMap u32)

/-- The highest position emitted; none emitted, the one before the first (assumption 45). -/
def Slot.emittedThrough (x : Slot) : Nat := max x.emitted (x.promptLength - 1)

/-- The payload of a Sequence record; a Stopped or Aborted slot shows Phase 0 (assumption 45). -/
def Slot.sequence (x : Slot) : Bytes :=
  let phase := if x.state ≤ 3 then x.phase else 0
  u32 x.committed ++ u32 x.nextToken ++ u32 x.generated ++ u32 x.emittedThrough ++ u8 phase ++ u8 x.draft ++ u8 x.zeroRun ++ u8 0 ++
    x.lastTokens

/-- The sponge state of OutputDigest, the bytes not yet permuted added in. -/
def Sponge.bytes (d : Sponge) : Bytes :=
  let l := d.lanes.flatMap (leBytes 8)
  List.zipWith (fun a b => a ^^^ b) l (padTo 200 d.pending)

/-- A sponge from its state after a number of tokens. -/
def Sponge.ofBytes (b : Bytes) (tokens : Nat) : Sponge :=
  { lanes := (List.range 25).map fun i => field b (8 * i) 8, pending := zeros (4 * tokens % 136) }

/-- The payload of a Digest state record. -/
def Slot.digestState (x : Slot) : Bytes := u64 x.generated ++ (x.digestTo (x.nextPosition + 1)).bytes

/-- A Sequence record, and a Digest state record where the tint wants its digest. -/
def State.sendSequence (s : State) (slot : Nat) : State :=
  let x := s.slot slot
  let s := s.mirrorSlot 4 slot x.sequence
  if x.wantsDigest then s.mirrorSlot 5 slot x.digestState else s

/-- The Sequence record of a slot whose fields changed in this course. -/
def State.mirrorChanged (s : State) (slot : Nat) : State :=
  let x := s.slot slot
  if s.mirrors slot = false ∨ Map.get s.bond.latest [] slot = x.sequence then s
  else (s.mapBond fun b => { b with latest := Map.set b.latest [] slot x.sequence }).sendSequence slot

/-- A Course end record, which counts itself. -/
def State.endMirrorCourse (s : State) (course : Nat) : State :=
  let n := s.bond.sentNow + 1
  (s.sendMirrorAt course 6 0 0 (u32 n)).mapBond fun b => { b with sentNow := 0 }

/-- The module sends mirror records (R501, R508, R509). -/
def State.mirrorsOn (s : State) : Bool :=
  (s.reg Reg.bondMode == 1 || s.reg Reg.bondMode == 3) && decide (2 ≤ s.reg Reg.bondState ∧ s.reg Reg.bondState ≤ 4) &&
    !s.bond.bufferFilled

/-- The end of a plan course on a sender (R507). -/
def State.mirrorCourse (s : State) : State :=
  if s.mirrorsOn then (s.heldSlots.foldl State.mirrorChanged s).endMirrorCourse s.prog.course else s

/-! ### The modes (R501, R502) -/

/-- Bond ports that are lit. -/
def State.bondPorts (s : State) : List Nat := ((List.range 4).map s.bondPort).filter fun p => s.portRole p == 1

/-- The partner is there: named, and at the far end of every bond port, each Up. -/
def State.partnerUp (s : State) : Bool :=
  s.reg Reg.bondPartner != 0xFFFF &&
    s.bondPorts.all fun p => (s.port p).linkState == 2 && s.reg (Reg.partnerDeviceId p) == s.reg Reg.bondPartner

/-- The slots divide between the sides of an Active/Active pair. -/
def Plan.divides (p : Plan) : Bool :=
  let h := p.tintSlots / 2
  p.tintSlots % 2 == 0 && p.batches.all fun b => b.all (fun x => decide (x < h)) || b.all fun x => decide (h ≤ x)

/-- Every brick with an Owned window has the ingress share (R353). -/
def Plan.sharesIngress (p : Plan) : Bool :=
  p.regions.all fun r => r.kind != 3 || p.regions.any fun q => q.brick == r.brick && [1, 2, 5, 6].contains q.kind

/-- The conditions of a paired mode before the governor's. -/
def State.judgePair (v : Nat) (s : State) : Nat :=
  if s.limewash ∨ s.power.mode ≠ .run ∨ s.planActive = false then rcStateRefused
  else if s.partnerUp = false then rcStateRefused
  else
    match s.anyPlan with
    | none => rcStateRefused
    | some p =>
      if v = 3 ∧ p.divides = false then rcRangeError else if p.sharesIngress = false then rcRangeError else rcOk

/-- A pair begins: Waiting, nothing known of the partner's records. -/
def State.pair (v : Nat) (s : State) : State :=
  let s := (s.setReg Reg.bondMode v).setReg Reg.bondState 1
  let s := ((s.setReg Reg.mirrorMark allOnes64).setReg Reg.appliedMark allOnes64).setReg Reg.resyncTilesLeft 0
  s.mapBond fun b => { State.reset.bond with partner := b.partner, seen := b.seen, yieldSeen := b.yieldSeen, reportSeq := b.reportSeq }

/-- The slots that hold, or are being stamped with, the partner's tint. -/
def State.mirroredSlots (s : State) : List Nat :=
  (s.serving.slots.filter fun e => e.2.state == 6 || (e.2.state == 2 && !s.owns e.1)).map (·.1)

/-- The bond ends: Solo, and mirrored slots enter Clearing (R502, R510). -/
def State.solo (s : State) : State :=
  let s := s.mirroredSlots.foldl State.releaseSlot s
  let s := (s.setReg Reg.bondMode 0).setReg Reg.bondState 0
  s.mapBond fun b =>
    { b with buffer := [], sentNow := 0, appliedNow := 0, received := none, latest := [], waiting := [], shadows := [],
             takeover := none, degraded := false, lost := false, missed := 0, keyDiffers := 0, ending := false,
             resync := [] }

/-- A write of Solo takes effect at a course boundary (R502). -/
def State.endPairing (s : State) : State := if s.bond.ending then s.solo else s

/-- A takeover is pending (R523). -/
def State.takeoverPending (s : State) : Bool := s.bond.takeover.isSome || s.bond.lost

/-- BOND_MODE_WRITE past check 9. -/
def State.writeBondMode (s : State) (v : Nat) : Nat × State :=
  if v = 0 then
    if s.reg Reg.bondMode = 0 then (rcOk, s)
    else if s.takeoverPending then (rcStateRefused, s)
    else (rcOk, s.mapBond fun b => { b with ending := true })
  else if v = s.reg Reg.bondMode then (State.judgePair v s, s)
  else s.governed (State.judgePair v) 8 0 v (State.pair v)

/-- BOND_MODE_WRITE. -/
def execBondModeWrite (v : Via) (value : Nat) (s : State) : Host.Outcome State Fault Refusal :=
  s.done (s.writeNumber v 0x9000 0x01 1 value fun s => s.writeBondMode value)

/-- BOND_YIELD (R505): Yield from the next course on. -/
def execBondYield (v : Via) (value : Nat) (s : State) : Host.Outcome State Fault Refusal :=
  s.done (s.writeNumber v 0x9000 0x06 7 value fun s => (rcOk, s.mapBond fun b => { b with yield := true }))

/-! ### Resync (R514) -/

/-- Tiles in the Owned windows of a slot. -/
def State.slotTiles (s : State) (slot : Nat) : Nat := (s.slotWindows slot).foldl (fun n r => n + r.tiles) 0

/-- A slot whose tiles have left: its Sequence and Digest state. -/
def State.closeCopy (s : State) (slot : Nat) : State :=
  (s.mapBond fun b => { b with latest := Map.set b.latest [] slot (s.slot slot).sequence }).sendSequence slot

/-- One slot leaves for the partner: Admit, and then its tiles; a slot without tiles closes at once. -/
def State.copySlot (s : State) (slot : Nat) : State :=
  let s := s.mirrorSlot 1 slot (s.admitPayload slot)
  let l := ((s.slotWindows slot).filter fun r => r.tiles != 0).map fun r => (slot, r.base, r.tiles, r.fmt)
  if l.isEmpty then s.closeCopy slot else s.mapBond fun b => { b with resync := b.resync ++ l }

/-- Flits of a tile. -/
def tileFlits (fmt : Nat) : Nat := ceilDiv (tileStride fmt) 256

/-- The next tile of the resync leaves, if it passes check 1; the slot's last one closes it (R514). -/
def State.mirrorTile (s : State) (x : Nat × Nat × Nat × Nat) (rest : List (Nat × Nat × Nat × Nat)) : State :=
  let (slot, a, n, fmt) := x
  let t := s.load a (tileStride fmt)
  let s := if tileChecks (t.take (tileBytes fmt)) then s.emit (.resync slot a t) else s
  let s := s.setReg Reg.resyncTilesLeft (s.reg Reg.resyncTilesLeft - 1)
  if n ≤ 1 then
    let s := s.mapBond fun b => { b with resync := rest }
    if rest.any fun y => y.1 == slot then s else s.closeCopy slot
  else s.mapBond fun b => { b with resync := (slot, a + tileStride fmt, n - 1, fmt) :: rest }

/-- Tiles leave while the course's flits last; `fuel` bounds their number. -/
def State.mirrorTiles (s : State) (fuel flits : Nat) : State :=
  match fuel with
  | 0 => s
  | fuel + 1 =>
    match s.bond.resync with
    | [] => s
    | x :: rest =>
      if flits < tileFlits x.2.2.2 then s else (s.mirrorTile x rest).mirrorTiles fuel (flits - tileFlits x.2.2.2)

/-- The resync flits of a course (R506): repair and mirror flits take their slots of the 896 first, and of those that
remain resync takes no more than ResyncShare per cent. -/
def State.resyncCourse (s : State) : State :=
  let left := 896 - ceilDiv s.bond.granules 4
  let n := left * s.reg Reg.resyncShare / 100
  (s.mapBond fun b => { b with granules := 0 }).mirrorTiles n n

/-- The copy of every owned slot that holds a tint begins. -/
def State.startResync (s : State) : State :=
  let mine := s.heldSlots.filter s.owns
  let s := (s.setReg Reg.bondState 2).setReg Reg.resyncTilesLeft (mine.foldl (fun n i => n + s.slotTiles i) 0)
  let s := s.mapBond fun b => { b with copied := mine.length, resyncAt := s.time.localCount }
  mine.foldl State.copySlot s

/-- BondProtected (R528). -/
def State.protect (s : State) : State :=
  (s.setReg Reg.bondState 3).notice Note.bondProtected srcModule (u16 (s.reg Reg.bondPartner) ++ u8 (s.reg Reg.bondMode))

/-- RESYNC_DONE: the last slot of both sides is complete, this one's tiles sent; KeyTags must be equal (R514). -/
def State.resyncEnds (s : State) : State :=
  if s.reg Reg.bondState = 2 ∧ s.keysEqual ∧ s.bond.resync = [] then
    let s := s.setReg Reg.resyncTilesLeft 0
    let s := s.notice Note.resyncDone srcModule (u16 s.bond.copied ++ u32 (s.time.localCount + 1 - s.bond.resyncAt))
    s.protect
  else s

/-- RESYNC_DONE. -/
def execResyncDone (s : State) : Host.Outcome State Fault Refusal := s.done s.resyncEnds

/-! ### A heartbeat arrives (R504, R508, R509) -/

/-- MirrorMark follows the partner's AppliedMark; records that it covers are dropped, and repairs that waited for it are
asked for (R539). -/
def State.takeMarkOf (s : State) (w : Nat) : State :=
  if hbMark w = 2 ^ 32 - 1 then s
  else
    let m := nearestCourse s.prog.course 32 (hbMark w)
    let old := s.reg Reg.mirrorMark
    if old ≠ allOnes64 ∧ m ≤ old then s
    else
      let s := (s.setReg Reg.mirrorMark m).mapBond fun b => { b with buffer := b.buffer.filter fun r => decide (m < r.course) }
      s.askWaiting

/-- The first word of a pair, and a Degraded bond whose KeyTags agree again. -/
def State.meetPartner (s : State) (w : Nat) : State :=
  let st := s.reg Reg.bondState
  if st = 1 ∧ s.complements w then s.startResync
  else if st = 4 ∧ s.keysEqual ∧ s.bond.bufferFilled = false then s.protect
  else s

/-- HEARTBEAT. -/
def State.hear (s : State) (w : Nat) : State :=
  if (s.power.mode ≠ .run ∧ s.power.mode ≠ .hold) ∨ wordChecks w = false then s
  else
    let s := s.mapBond fun b =>
      { b with partner := some w, seen := true, yieldSeen := if b.seen then b.yieldSeen || hbYield w else hbYield w }
    if s.reg Reg.bondMode = 0 then s else (s.takeMarkOf w).meetPartner w

/-- HEARTBEAT: bond index, lane, 128-bit word. -/
def execHeartbeat (bond lane word : Nat) (s : State) : Host.Outcome State Fault Refusal :=
  s.onUnit "HEARTBEAT" (decide (bond < 4) && laneOk lane && word128Ok word) (s.hear word)

/-- The end of a course on the bond link (R505, R509): a missed course is counted, KeyTags are compared. -/
def State.heartbeatEnd (s : State) : State :=
  let st := s.reg Reg.bondState
  if s.reg Reg.bondMode = 0 ∨ st = 0 ∨ st = 5 ∨ (s.power.mode ≠ .run ∧ s.power.mode ≠ .hold) then
    s.mapBond fun b => { b with seen := false, yieldSeen := false }
  else
    let miss : Bool := !s.bond.seen || s.bond.yieldSeen
    let differs : Bool := s.bond.seen && !s.keysEqual
    let s := if miss then s.bump Reg.heartbeatsMissed else s
    s.mapBond fun b =>
      { b with missed := if miss then b.missed + 1 else 0, cause := if b.seen then 2 else 1,
               keyDiffers := if differs then b.keyDiffers + 1 else if b.seen then 0 else b.keyDiffers,
               seen := false, yieldSeen := false }

/-- BOND_DEGRADED: KeyTags have differed for 64 consecutive courses. -/
def State.degrade (s : State) : State :=
  if s.reg Reg.bondState = 3 ∧ 64 ≤ s.bond.keyDiffers then
    (s.setReg Reg.bondState 4).notice Note.bondDegraded srcModule (u8 1)
  else s

/-- BOND_DEGRADED. -/
def execBondDegraded (s : State) : Host.Outcome State Fault Refusal := s.done s.degrade

/-- MIRROR_BUFFER_FULL (R508). -/
def State.mirrorFull (s : State) : State :=
  let st := s.reg Reg.bondState
  if s.bond.bufferFilled ∧ s.bond.lagged = false ∧ 2 ≤ st ∧ st ≤ 4 then
    let s := (s.setReg Reg.bondState 4).mapBond fun b => { b with lagged := true }
    let s := s.notice Note.mirrorLagging srcModule (u64 (s.reg Reg.mirrorMark) ++ u32 s.bond.buffered)
    if st = 4 then s else s.notice Note.bondDegraded srcModule (u8 2)
  else s

/-- MIRROR_BUFFER_FULL. -/
def execMirrorBufferFull (s : State) : Host.Outcome State Fault Refusal := s.done s.mirrorFull

/-! ### A mirror record arrives (R507, R508) -/

/-- Nothing kept of a slot. -/
def Shadow.none_ : Shadow := { admitRecord := [], sequences := [], digests := [], highest := 0, released := none }

/-- What is kept of a slot, and a change of it. -/
def State.shadow (s : State) (slot : Nat) : Shadow := Map.get s.bond.shadows Shadow.none_ slot
def State.setShadow (s : State) (slot : Nat) (v : Shadow) : State :=
  s.mapBond fun b => { b with shadows := Map.set b.shadows Shadow.none_ slot v }

/-- Admit: the slot enters Stamping with the record's tint. -/
def State.mirrorAdmit (s : State) (slot : Nat) (r : Bytes) : State :=
  let x := s.slot slot
  let y : Slot :=
    { Slot.clear with
      state := 2, tint := field r 4 2, epoch := x.epoch + 1, start := field r 32 8, admission := field r 8 8,
      generation := byteAt r 16, adapter := field r 18 2, reason := x.reason, releasedAt := x.releasedAt,
      releaseCourse := x.releaseCourse }
  ((s.setShadow slot { Shadow.none_ with admitRecord := r }).setSlot slot y).bind slot y.generation

/-- Release: the slot enters Clearing. -/
def State.mirrorRelease (s : State) (slot : Nat) (r : Bytes) : State :=
  let x := s.shadow slot
  let s := (s.setShadow slot { x with released := some (field r 8 8) }).setSlot slot { s.slot slot with reason := byteAt r 16 }
  s.releaseSlot slot

/-- Sequence and Digest state: the latest four are kept, and the highest EmittedThrough. -/
def State.keepSequence (s : State) (slot : Nat) (r : Bytes) : State :=
  let x := s.shadow slot
  s.setShadow slot { x with sequences := ((field r 8 8, r) :: x.sequences).take 4, highest := max x.highest (field r 28 4) }
def State.keepDigest (s : State) (slot : Nat) (r : Bytes) : State :=
  let x := s.shadow slot
  s.setShadow slot { x with digests := ((field r 8 8, r) :: x.digests).take 4 }

/-- Course end: every record of the course has come. -/
def State.courseEnded (s : State) (r : Bytes) : State :=
  if s.bond.appliedNow + 1 = field r 16 4 then
    (s.mapBond fun b => { b with appliedNow := 0, received := some (field r 8 8) }).advanceMark
  else s

/-- One record in its order. -/
def State.applyMirror (s : State) (r : Bytes) : State :=
  let kind := byteAt r 0
  let slot := field r 2 2
  if kind = 6 then (s.bump Reg.mirrorRecordsApplied).courseEnded r
  else
    let s := s.mapBond fun b => { b with appliedNow := b.appliedNow + 1 }
    if kind = 3 then
      (if (s.slot slot).state = 2 then s.mapBond fun b => { b with waiting := b.waiting ++ [r] } else s.applyKv r)
    else
      let s := s.bump Reg.mirrorRecordsApplied
      if kind = 1 then s.mirrorAdmit slot r
      else if kind = 2 then s.mirrorRelease slot r
      else if kind = 4 then s.keepSequence slot r
      else s.keepDigest slot r

/-- A record is well formed (R507). -/
def mirrorOk (r : Bytes) : Bool :=
  let k := byteAt r 0
  let n := byteAt r 1
  decide (1 ≤ k ∧ k ≤ 6) && decide (1 ≤ n ∧ n ≤ 9) && r.length == 64 * n

/-- MIRROR_RECORD: in a mode that receives, of a slot that the partner owns. -/
def State.takeMirror (s : State) (r : Bytes) : State :=
  let st := s.reg Reg.bondState
  let m := s.reg Reg.bondMode
  let slot := field r 2 2
  if mirrorOk r ∧ s.awake ∧ (m = 2 ∨ m = 3) ∧ 1 ≤ st ∧ st ≤ 4 ∧ (byteAt r 0 = 6 ∨ (slot < s.tintSlots ∧ s.owns slot = false)) then
    s.applyMirror r
  else s

/-- MIRROR_RECORD. -/
def execMirrorRecord (record : Bytes) (s : State) : Host.Outcome State Fault Refusal := s.done (s.takeMirror record)

/-! ### The partner is lost (R505, R510, R511) -/

/-- The bond report of a member, after its Sequence. -/
def State.bondReport (s : State) (cause : Nat) : Bytes :=
  u8 cause ++ u8 0 ++ u16 (s.reg Reg.deviceId) ++ u64 (s.reg Reg.appliedMark) ++ u64 s.stamp

/-- What a loss does to a bond that protects: a member reports it, a head with members orders the takeover in its next
batch, any other module fixes T and RM at once. -/
def State.lossTakeover (s : State) (cause : Nat) : State :=
  let s := s.wantTakeover
  let s := (s.setReg Reg.bondState 5).mapBond fun b => { b with degraded := s.reg Reg.bondState == 4 }
  if s.reg Reg.domainRole = 2 then (s.mapBond fun b => { b with lost := false }).sendHead 7 (s.bondReport cause)
  else if s.reg Reg.domainRole = 1 ∧ s.blob Blob.members ≠ [] then s
  else
    let t := s.quoinFrom (s.prog.course + 16)
    s.mapBond fun b => { b with lost := false, takeover := if b.takeover.isSome then b.takeover else some (t, s.markOrZero) }

/-- PARTNER_LOST. -/
def State.losePartner (s : State) : State :=
  let st := s.reg Reg.bondState
  if s.reg Reg.bondMode = 0 ∨ st = 0 ∨ st = 5 ∨ s.bond.missed < s.reg Reg.heartbeatLimit then s
  else
    let cause := s.bond.cause
    let s := s.notice Note.bondLost srcModule (u8 cause ++ u64 (s.reg Reg.appliedMark))
    let s := if st = 3 ∨ st = 4 then s.lossTakeover cause else s.solo
    (s.repairs.filter fun x => x.sources.head? == some 1).foldl State.nextSource s

/-- PARTNER_LOST. -/
def execPartnerLost (s : State) : Host.Outcome State Fault Refusal := s.done s.losePartner

/-! ### Takeover (R511 to R513) -/

/-- The newest record of a list up to a course. -/
def newestTo (rm : Nat) (l : List (Nat × Bytes)) : Option Bytes := (l.find? fun e => decide (e.1 ≤ rm)).map (·.2)

/-- A generation, an adapter, is resident on this module. -/
def State.generationHere (s : State) (g : Nat) : Bool :=
  (s.sideOf g).any fun i => decide (2 ≤ s.reg (Reg.sideState i) ∧ s.reg (Reg.sideState i) ≤ 4)
def State.adapterHere (s : State) (a : Nat) : Bool := a == 0xFFFF || s.adapterState a == 2

/-- What becomes of a mirrored slot. -/
inductive Fate where
  | resume
  | clear
  | abort (reason : Nat)
  deriving DecidableEq, Repr

/-- The table of R511; a member, which has no Phase, resumes a tint that its records show admitted (assumption 45). -/
def State.fateOf (s : State) (rm slot : Nat) : Fate :=
  let x := s.slot slot
  let h := s.shadow slot
  let mark := s.reg Reg.appliedMark
  let newest := newestTo rm h.sequences
  let phase := newest.map fun r => byteAt r 32
  if x.unrecoverable ∨ mark = allOnes64 ∨ mark < rm then .abort whyData
  else if s.bond.degraded ∨ s.reg Reg.bondState = 4 then .abort whyData
  else if s.generationHere x.generation = false then .abort whyStale
  else if s.adapterHere x.adapter = false then .abort whyData
  else if h.released.any fun c => decide (c ≤ rm) then .clear
  else if s.reg Reg.domainRole ≠ 1 then (if field h.admitRecord 8 8 ≤ rm then .resume else .abort whyData)
  else if phase = some 0 then .clear
  else if phase = some 3 then .resume
  else .abort whyData

/-- The slot as the records describe it up to RM (R512). -/
def State.restored (s : State) (rm slot : Nat) : Slot :=
  let x := s.slot slot
  let h := s.shadow slot
  let a := h.admitRecord
  let q := (newestTo rm h.sequences).getD []
  let d := newestTo rm h.digests
  let generated := field q 24 4
  let output := match d with
    | none => Sponge.empty
    | some b => Sponge.ofBytes (slice b 24 200) (field b 16 8)
  let tokens := ((List.range (min 15 generated)).map fun i => field q (36 + 4 * i) 4).reverse
  if s.reg Reg.domainRole = 1 then
    { x with
      state := 3, qp := field a 20 2, request := field a 24 8, promptLength := field a 40 4, params := slice a 48 212,
      committed := field q 16 4, nextToken := field q 20 4, generated := generated, draft := byteAt q 33, zeroRun := byteAt q 34,
      recent := tokens, output := output, reemit := h.highest, emitted := max h.highest (field q 28 4), formed := [], history := [] }
  else { x with state := 3 }

/-- A resumed slot: Phase 4 and StartCourse T. -/
def State.resumeSlot (s : State) (t rm slot : Nat) : State :=
  let head := s.reg Reg.domainRole == 1
  s.setSlot slot { s.restored rm slot with start := t, phase := if head then 4 else 0 }

/-- A taken-over tint that is aborted: the first unvouched position is its committed length at RM, or its PromptLength
when it was not in decode; members report it with FaultCourse RM. -/
def State.abortTaken (s : State) (rm slot reason : Nat) : State :=
  let y := s.restored rm slot
  let decode := ((newestTo rm (s.shadow slot).sequences).map fun r => byteAt r 32) == some 3
  let position := if decode then y.committed else y.promptLength
  let s := s.setSlot slot { y with phase := if decode then 3 else 2, formed := [(position, rm)] }
  s.abortSlot reason rm slot

/-- One mirrored slot at T; counts of slots resumed and aborted. -/
def State.takeSlot (t rm : Nat) (e : State × Nat × Nat) (slot : Nat) : State × Nat × Nat :=
  match e.1.fateOf rm slot with
  | .resume => (e.1.resumeSlot t rm slot, e.2.1 + 1, e.2.2)
  | .clear => (e.1.releaseSlot slot, e.2.1, e.2.2)
  | .abort reason => (e.1.abortTaken rm slot reason, e.2.1, e.2.2 + 1)

/-- BOND_TAKEOVER: at cycle 0 of plan course T, unless the plan halts there. -/
def State.takeOver (s : State) : State :=
  match s.bond.takeover with
  | none => s
  | some (t, rm) =>
    if s.reg Reg.bondMode = 0 ∨ s.haltDue ∨ !s.reachedCourses.any (fun c => decide (t ≤ c)) then s
    else
      let mirrored := (s.serving.slots.filter fun e => e.2.state == 6).map (·.1)
      let r := mirrored.foldl (State.takeSlot t rm) (s, 0, 0)
      let s := r.1.solo.mapBond fun b => { b with tookOver := true }
      let s := ((s.bump Reg.takeovers).setReg Reg.lastTakeover t).setReg Reg.lastResumeMark rm
      s.notice Note.bondTakeover srcModule (u64 t ++ u64 rm ++ u16 r.2.1 ++ u16 r.2.2)

/-- BOND_TAKEOVER. -/
def execBondTakeover (s : State) : Host.Outcome State Fault Refusal := s.done s.takeOver

/-- BOND_TAKEN_OVER (R513): the partner's heartbeat carries TookOver. The word has no field for the partner's T, so what
the notice carries is free. -/
def State.takenOver (s : State) : State :=
  if s.reg Reg.bondMode ≠ 0 ∧ s.bond.partner.any hbTookOver then
    let t := (Config.freeWord s.drawn).toNat
    let s := (s.drew 1).solo
    s.notice Note.bondTakenOver srcModule (u16 (s.reg Reg.bondPartner) ++ u64 t)
  else s

/-- BOND_TAKEN_OVER. -/
def execBondTakenOver (s : State) : Host.Outcome State Fault Refusal := s.done s.takenOver

/-! ### The requests that the governor holds (R520) -/

/-- A threshold-triggered substitution is judged again: its cluster enabled, its spare free. -/
def State.judgeThreshold (core : Nat) (s : State) : Nat :=
  if s.clusterOn (core / 8) = false then rcAbsent
  else if s.reg (spareReg (core / 8)) ≠ 0 ∨ s.spareTaken (core / 8) then rcStateRefused
  else rcOk

/-- A held request is judged again, and starts if its own conditions hold. -/
def State.retryHeld (s : State) (h : Held) : Nat × State :=
  let run (own : State → Nat) (start : State → State) : Nat × State :=
    let rc := own s
    if rc = rcOk then (rcOk, start s) else (rc, s)
  if h.activity = 1 then s.activateFirmware h.port h.value
  else if h.activity = 2 then run (State.judgePatch h.value) (State.armPatch h.value)
  else if h.activity = 3 ∧ h.port = 1 then
    run (State.judgeThreshold h.value) (State.startSubstitution (h.value / 8) (h.value % 8) 1)
  else if h.activity = 3 then
    run (State.judgeSubstitute h.value) (State.startSubstitution (substCluster h.value) (substPosition h.value) 2)
  else if h.activity = 4 then run (State.judgeRetire h.value) fun s => s.pendRetirement h.value
  else if h.activity = 5 ∧ h.port = 0 then run (State.judgeGeneration h.value) (State.startGeneration h.value)
  else if h.activity = 5 then run (State.judgeAdapter h.value) (State.startAdapter h.value)
  else if h.activity = 6 then run (State.judgeSwitch h.value) fun s => s.setReg Reg.pendingSwitch h.value
  else if h.activity = 7 then run (State.judgeRetrain h.port) (State.startRetrain h.port)
  else run (State.judgePair h.value) (State.pair h.value)

/-- One held request at a course boundary. -/
def State.releaseHeldRequest (s : State) (h : Held) : State :=
  if (s.blocker h.activity h.port).isSome then s
  else
    let s := { s with held := s.held.erase h }
    let r := s.retryHeld h
    if r.1 = rcOk then r.2
    else (r.2.bump Reg.droppedTotal).notice Note.maintenanceDropped srcModule (u8 h.activity ++ u16 r.1)

/-- MAINTENANCE_RELEASE: the held requests in their order. -/
def State.releaseRequests (s : State) : State := if s.awake then s.held.foldl State.releaseHeldRequest s else s

/-- MAINTENANCE_RELEASE. -/
def execMaintenanceRelease (s : State) : Host.Outcome State Fault Refusal := s.done s.releaseRequests

end Sys2Proof.Machine
end

