-- ==== Sys2Proof/Machine/Due.lean ====
section
/-! DEFINITION. The due check of cycle 543 (R23 to R30, R34, R37): inputs, lag slips, grout, the snapshot, and the
PlanStalled notice (R27, R505). -/

namespace Sys2Proof.Machine

/-! ### Inputs (R23) -/

/-- Whether what an input waits for is there, and the granules left when it takes its own (R158, R235, R258, R266). -/
def State.meets (s : State) (landed : Map Nat) (n : Need) : Option (Map Nat) :=
  match n with
  | .granules r c =>
    let have_ := Map.get landed 0 r
    if c ≤ have_ then some (Map.set landed 0 r (have_ - c)) else none
  | .tie core t v exact =>
    let x := (s.tie core t).value
    if (if exact then x = v else v ≤ x) then some landed else none
  | .level core l =>
    if Map.get (s.core core).seq.arrivals 0 l ≤ (s.level (brickNode (core / 64) l)).completions then some landed else none
  | .relay port route flit =>
    if (s.port port).landing.any fun f => f.route == route && f.index == flit then some landed else none

/-- LastSlipCause of a missing input (R37, R164, R266): of a tie, by its last signaller. -/
def State.missCause (s : State) (i : Input) : Nat :=
  match i.need with
  | .granules _ _ | .relay _ _ _ => i.cause
  | .tie core t _ _ =>
    let x := s.tie core t
    if x.source ≠ 0 ∧ x.device ≠ s.reg Reg.deviceId then 1 else 2
  | .level _ _ => 1

/-- What a sweep over inputs finds: the granules left, and due course and cause of the missing input due first. -/
structure Sweep where
  landed : Map Nat
  missing : Option (Nat × Nat)
  deriving DecidableEq, Repr

/-- One input of a sweep. -/
def State.sweepInput (s : State) (x : Sweep) (i : Input) : Sweep :=
  match s.meets x.landed i.need with
  | some m => { x with landed := m }
  | none =>
    match x.missing with
    | none => { x with missing := some (i.due, s.missCause i) }
    | some (d, _) => if i.due < d then { x with missing := some (i.due, s.missCause i) } else x

/-- The inputs due after one plan course and at or before another. -/
def State.sweepDue (s : State) (x : Sweep) (due : Nat → Bool) : Sweep :=
  (s.prog.inputs.filter fun i => due i.due).foldl s.sweepInput x

/-! ### What serving needs of the next plan course (R315, R316, R321) -/

/-- The batch of an admission course is missing on a member (R315). -/
def State.batchMissing (s : State) (x : Nat) : Bool :=
  s.reg Reg.domainRole == 2 && decide (s.prog.launchCourse + s.reg Reg.orderLead ≤ x) && (s.batchFor x).isNone

/-- An admit order of the batch cannot take effect (R316). -/
def State.admitsWait (s : State) (x : Nat) : Bool := (s.batchFor x).any fun b => !b.admits.all s.admitReady

/-- A handoff half cannot be completed: its Trowel does not run (R321, R538). -/
def State.handoffMissing (s : State) : Bool :=
  s.thePlan.any fun p => p.headers.any fun c => s.reg (Reg.trowelState c) != 1

/-- A slot of this module is still Stamping at its StartCourse (R316). -/
def State.stampingLate (s : State) (x : Nat) : Bool :=
  s.serving.slots.any fun e => e.2.state == 2 && s.owns e.1 && decide (e.2.start ≤ x)

/-- An input that serving declares for plan course x is missing. -/
def State.servingMissing (s : State) (x : Nat) : Bool :=
  (s.isAdmission x && (s.batchMissing x || s.admitsWait x || s.handoffMissing)) || s.stampingLate x

/-- MemberNotReady for the admit orders that wait (R316). -/
def State.noticeWaiting (s : State) (x : Nat) : State :=
  if s.isAdmission x then
    match s.batchFor x with
    | none => s
    | some b => b.admits.foldl State.noticeNotReady s
  else s

/-! ### Lag slips (R26, R230) -/

/-- A port carries slots of a fabric route of the running plan. -/
def State.sendsOn (s : State) (port : Nat) : Bool :=
  s.thePlan.any fun p => p.routes.any fun r => r.slots.any fun x => x.port == port

/-- A consumer's lag exceeds this module's own by more than the allowance of the link. -/
def State.consumerLags (s : State) : Bool :=
  s.thePlan.any fun p => p.neighbours.any fun n =>
    s.sendsOn n.port && (Map.find s.time.marks n.port).any fun m => decide (s.lag + n.allowance < m.senderLag)

/-- Flits of a lane that no report has released. -/
def Lane.unreleased (l : Lane) : List Flit := l.sent.map (·.2) ++ l.retries ++ l.retried.map fun e => e.2.2

/-- A retry-buffer position that the next plan course needs holds a flit of 12 sender courses before (R230). -/
def State.bufferHeld (s : State) : Bool :=
  let next := s.prog.course + 1
  s.thePlan.any fun p => p.routes.any fun r => r.slots.any fun x =>
    (((s.port x.port).lane x.lane).unreleased).any fun f =>
      f.slot == x.slot && decide (nearestCourse next 5 f.tag + 12 ≤ next)

/-! ### The decision (R23, R28, R30) -/

/-- A plan course is a grout course of the variant in force (R29). -/
def State.isGrout (s : State) (c : Nat) : Bool :=
  s.thePlan.any fun p => (p.variant (s.reg Reg.activeVariant)).any fun v => v.grout.contains (s.position p c)

/-- The next external course slips; a serving input is counted (R341). -/
def State.slipNext (s : State) (cause : Nat) (serving : Bool) : State :=
  let s := if serving then
      let s := s.bump Reg.batchSlips
      { s with serving := { s.serving with late := s.serving.late + 1 } }
    else s
  s.mapProg fun p => { p with next := .slip cause }

/-- The inputs that a check has passed are consumed; wait slots and WaiterMasks are freed (R158, R258). -/
def State.consume (s : State) (landed : Map Nat) (upto : Nat) : State :=
  let gone := s.prog.inputs.filter fun i => decide (i.due ≤ upto)
  let free (s : State) (i : Input) : State :=
    match i.need with
    | .tie core t _ _ =>
      let s := s.setTie core t { s.tie core t with waiters := 0 }
      s.mapSeq core fun x => { x with waits := [] }
    | .level core _ => s.mapSeq core fun x => { x with waits := [] }
    | .granules _ _ | .relay _ _ _ => s
  let s := gone.foldl free s
  s.mapProg fun p => { p with landed := landed, inputs := p.inputs.filter fun i => !decide (i.due ≤ upto) }

/-- The next plan course is a grout course: idled with lag 0 or for a rest, else skipped if the inputs due for the
course after it have landed, else a slip. -/
def State.decideGrout (s : State) (x : Sweep) : State :=
  let c := s.prog.course
  let wants : Bool := s.prog.restPower || s.prog.restThermal
  if wants ∨ s.lag = 0 then
    let thermal := s.prog.restThermal
    let s := s.mapProg fun p =>
      { p with next := .grout (c + 1), restPower := false, restThermal := false,
               sinceRest := if thermal then 0 else p.sinceRest }
    s.consume x.landed c
  else
    let y := s.sweepDue x fun d => d == c + 1
    let serving := s.servingMissing (c + 2)
    match y.missing with
    | some (_, cause) => (s.consume x.landed c).slipNext cause false
    | none =>
      if serving then ((s.consume x.landed c).noticeWaiting (c + 2)).slipNext 2 true
      else (s.consume y.landed (c + 1)).mapProg fun p => { p with next := .work (c + 2) }

/-- What the next external course carries. Where the next plan course is a grout course a missing input, a lag slip
and a held retry buffer come before idling through it, which the spec does not order (assumption 46). -/
def State.settleNext (s : State) : State :=
  let c := s.prog.course
  let x := s.sweepDue { landed := s.prog.landed, missing := none } fun d => decide (d ≤ c)
  match x.missing with
  | some (_, cause) => s.slipNext cause false
  | none =>
    let s := s.noticeWaiting (c + 1)
    if s.servingMissing (c + 1) then s.slipNext 2 true
    else if s.consumerLags || s.bufferHeld then s.slipNext 5 false
    else if s.isGrout (c + 1) then s.decideGrout x
    else (s.consume x.landed c).mapProg fun p => { p with next := .work (c + 1) }

/-- The due check, which a suspension puts off to the course in which its plan course ends (R121). -/
def State.dueCheck (s : State) : State :=
  if s.prog.running && s.prog.suspension.isNone then s.settleNext else s

/-! ### The snapshot (R34, R37, R270, R343) -/

/-- The lag, 0 with no plan running. -/
def State.planLag (s : State) : Nat := if s.prog.running then s.lag else 0

/-- A course counted as a slip or as a rest. -/
def CourseKind.slipsOrRests (k : CourseKind) : Bool :=
  match k with
  | .slip _ | .phase | .rest _ => true
  | .idle | .work _ | .grout _ | .lead | .held => false

/-- On time (R34). -/
def State.onTime (s : State) : Bool :=
  s.reg Reg.lockState == 2 && s.prog.running && s.lag == 0 && !s.prog.kind.slipsOrRests

/-- The entries of 0x2010. -/
def State.showProgress (s : State) : State :=
  let lag := s.planLag
  let s := s.mapProg fun p => { p with counts := { p.counts with maxLag := max p.counts.maxLag lag } }
  let c := s.prog.counts
  let s := (s.setReg Reg.planCourse s.prog.course).setReg Reg.slipCount lag
  let s := ((s.setReg Reg.slipsTotal c.slips).setReg Reg.restsTotal c.rests).setReg Reg.groutsSkipped c.skipped
  let s := ((s.setReg Reg.groutsIdled c.idled).setReg Reg.lagSlips c.lagSlips).setReg Reg.lastSlipCause c.cause
  let s := ((s.setReg Reg.lastSlipCourse c.course).setReg Reg.maxLag c.maxLag).setReg Reg.leadCourses c.lead
  (s.setReg Reg.snapshotCourse s.stamp).setReg Reg.onTime (flagNat s.onTime)

/-- K as a U32 of ProgramState. -/
def Comparator.word (k : Comparator) : Nat :=
  k.left % 16 + k.right % 16 * 2 ^ 4 + k.imm % 2 ^ 16 * 2 ^ 8 + k.relation % 4 * 2 ^ 24 + flagNat k.useImm * 2 ^ 26

/-- The 144 bytes of ProgramState (R492) of a core. -/
def Core.program (c : Core) : Bytes :=
  (List.range 16).flatMap (fun i => u32 (Map.get c.seq.counts 0 i)) ++
    (List.range 8).flatMap (fun i => u32 (Map.get c.seq.comparators Comparator.clear i).word) ++
    [0, 1, 2, 3, 5, 6].flatMap (fun q => u32 (c.queue q).aoLast) ++
    u8 (bitSet ((List.range 8).filter fun q => (c.queue q).flush)) ++ u8 c.seq.loops.length ++ zeros 6 ++
    (List.range 8).flatMap fun q => u16 (c.queue q).index

/-- Largest retry queue over a port's lanes (R246). -/
def Port.backlog (p : Port) : Nat := p.lanes.foldl (fun n e => max n e.2.retries.length) 0

/-- The records captured at cycle 543. -/
def State.capture (s : State) : State :=
  let backlog := (s.ports.map fun e => (e.1, e.2.backlog)).filter fun e => e.2 != 0
  { s with snap :=
      { ties := s.point.ties, levels := s.point.levels, slots := s.serving.slots, signals := s.point.signals,
        program := (s.core (s.reg Reg.traceCore)).program, backlog := backlog } }

/-! ### Credits, the mirror -/

/-- Landed signals are applied (R259, R260; not in Hold, R268), and windows whose credit they raise send their
status (R394). -/
def State.applyPoint (s : State) : State :=
  if s.power.mode ≠ .run then s
  else
    let before := s
    let s := s.applyLanded
    let ws := (s.thePlan.map (·.windows)).getD []
    ws.foldl (fun s w => if before.creditOf w < s.creditOf w then s.creditRises w.window else s) s

/-- A plan course ends in this external course, none of it suspended. -/
def State.courseEnds (s : State) : Bool :=
  s.prog.running && s.prog.suspension.isNone && (s.prog.kind.executes || s.prog.resumed)

/-! ### Course marks (R13) -/

/-- The course mark of this course (R13). -/
def State.markWord (s : State) : Nat :=
  let w := s.reg Reg.depth % 256 * 2 ^ 104 + flagNat (s.reg Reg.lockState == 3) * 2 ^ 103 +
    flagNat (s.time.count % 2 ^ 20 == 0) * 2 ^ 102 + min s.planLag 0xFFFF * 2 ^ 80 + s.reg Reg.rootId % 2 ^ 15 * 2 ^ 65 +
    s.time.count % 2 ^ 64
  crc16 (leBytes 14 w) * 2 ^ 112 + w

/-- The marks of a course that waited for a CourseLoad to be taken or not (R12, R13): they carry the count of the
course as it then stands. -/
def State.sendMarks (s : State) : State :=
  if s.time.marksOwed then
    let s := s.mapTime fun t => { t with marksOwed := false }
    if s.time.known then
      (s.ports.filter fun e => s.portRole e.1 == 0 && !e.2.upLanes.isEmpty).foldl
        (fun s e => s.emit (.mark e.1 s.markWord)) s
    else s
  else s

/-! ### Cycle 543 -/

/-- DUE_CHECK: cycle 543 of an external course. -/
def State.cycle543 (s : State) : State :=
  if s.awake then
    let s := s.runArrays.sendMarks.heartbeatEnd.applyPoint
    let s := if s.courseEnds then s.mirrorCourse else s
    s.showProgress.capture.captureReport.dueCheck
  else s

/-- DUE_CHECK. -/
def execDueCheck (s : State) : Host.Outcome State Fault Refusal := s.done s.cycle543

/-! ### PlanStalled (R27, R505) -/

/-- PLAN_STALLED: StallLimit consecutive courses counted in SlipsTotal; the bond asks the partner to take over. -/
def State.planStalls (s : State) : State :=
  if s.prog.running ∧ s.prog.stalled = false ∧ s.reg Reg.stallLimit ≤ s.prog.stall then
    let s := s.notice Note.planStalled srcModule (u64 (s.prog.course + 1) ++ u8 s.prog.counts.cause)
    let s := s.mapProg fun p => { p with stalled := true }
    s.mapBond fun b => { b with yield := true }
  else s

/-- PLAN_STALLED. -/
def execPlanStalled (s : State) : Host.Outcome State Fault Refusal := s.done s.planStalls

end Sys2Proof.Machine
end

