-- ==== Sys2Proof/Machine/Timeline.lean ====
section
/-! DEFINITION. The beginning of an external course (R7 to R13, R18, R19, R25, R28, R30), and the epoch course (R9,
R12, R18, R35, R48, R243, R439, R453). -/

namespace Sys2Proof.Machine

/-! ### The count (R8, R12) -/

/-- A count is taken: no difference from the keeper is reported twice (R453). -/
def State.takeCount (s : State) (v : Nat) : State :=
  (s.confirmCount v).mapTime fun t =>
    { t with known := true, count := v, load := none, epoch := true, acquiring := some t.localCount, step := none }

/-- CourseLoad under Free-run: the course that begins is the epoch course with that count, and the module is Locked
(R12, R18). -/
def State.loadFreeRun (s : State) : State :=
  match s.time.load with
  | none => s
  | some v => if s.reg Reg.courseSource = 3 then (s.takeCount v).lock else s

/-- The local count, the keeper and the count known go on by one (R4, R8, R453). -/
def Time.tick (t : Time) : Time :=
  { t with localCount := t.localCount + 1, keeper := t.keeper + 1, epoch := false,
           count := if t.known then t.count + 1 else t.count, step := t.step.map fun x => (x.1 + 1, x.2),
           slew := if 0 < t.slew then t.slew - 1 else if t.slew < 0 then t.slew + 1 else 0,
           markless := if t.marked then 0 else t.markless + 1, marked := false, conflicts := [] }

/-- A course of Sleep, or in reset: the always-on island counts (R453). -/
def State.islandCourse (s : State) : State :=
  let s := if s.power.mode = .sleep then s.bump Reg.sleepCourses else s
  s.mapTime fun t => { t with keeper := t.keeper + 1, count := if t.known then t.count + 1 else t.count }

/-! ### What the course carries (R19, R22 to R30) -/

/-- A slip course, a suspension or a phase step: counted with its cause (R25, R37). -/
def State.countSlip (s : State) (cause : Nat) : State :=
  let e := s.time.count
  s.mapProg fun p =>
    { p with stall := p.stall + 1,
             counts := { p.counts with slips := p.counts.slips + 1, cause := cause, course := e,
                                       lagSlips := p.counts.lagSlips + flagNat (cause == 5) } }

/-- The course of a kind, whose plan course stays pending. -/
def State.carry (s : State) (k : CourseKind) : State := s.mapProg fun p => { p with kind := k }

/-- A plan course is executed: the run of R27 ends, the segment's sends begin anew at position 0 (R280), flits that
waited for it are written (R232), a prompt due starts (R322), and a trace whose courses have passed is complete
(R492). -/
def State.execute (s : State) (c : Nat) (k : CourseKind) : State :=
  let s := s.mapProg fun p =>
    { p with course := c, kind := k, stall := 0, stalled := false, sends := if s.isQuoin c then [] else p.sends }
  let s := s.relayInputs
  let s := s.ports.foldl (fun s e => s.landDue e.1) s
  let begin_ (x : Slot) : Slot := if x.state = 3 ∧ x.phase = 1 ∧ x.start ≤ c then { x with phase := 2 } else x
  let slots := s.serving.slots.map fun e => (e.1, begin_ e.2)
  let s : State := { s with serving := { s.serving with slots := slots } }
  if s.reg Reg.traceState = 2 ∧ s.security.traceUntil ≤ c then s.setReg Reg.traceState 3 else s

/-- Runs a plan course; the grout course before it may be skipped (R30), and then both reach their actions. -/
def State.runCourse (s : State) (c : Nat) : State :=
  let skips : Bool := c == s.prog.course + 2
  let s := if skips && s.mirrorsOn then s.endMirrorCourse (c - 1) else s
  let s := s.mapProg fun p =>
    { p with jumped := skips, counts := { p.counts with skipped := p.counts.skipped + flagNat skips } }
  s.execute c (.work c)

/-- The course that the decision of cycle 543 gives. -/
def State.follow (s : State) (k : CourseKind) : State :=
  match k with
  | .work c => s.runCourse c
  | .grout c => (s.mapProg fun p => { p with counts := { p.counts with idled := p.counts.idled + 1 } }).execute c k
  | .slip cause => (s.countSlip cause).carry k
  | .rest _ => (s.mapProg fun p => { p with counts := { p.counts with rests := p.counts.rests + 1 } }).carry k
  | .lead => (s.mapProg fun p => { p with counts := { p.counts with lead := p.counts.lead + 1 } }).carry k
  | .phase => (s.countSlip 6).carry k
  | .idle | .held => s.carry .idle

/-- The course with a plan running: a phase step, then Hold (R447, R459), then a lead course (R19), then a suspension
(R121), then what cycle 543 decided. -/
def State.planCourse (s : State) : State :=
  let k := s.prog.next
  let s := s.mapProg fun p => { p with next := .idle, jumped := false, resumed := false }
  if k = .phase then s.follow .phase
  else if s.power.mode = .hold then
    ((s.bump Reg.holdCourses).mapProg fun p => { p with restPower := false, restThermal := false }).carry .held
  else if s.time.count ≤ s.prog.course then s.follow .lead
  else
    match s.prog.suspension with
    | some x => s.follow (if k.isRest then k else .slip x.cause)
    | none => s.follow k

/-! ### Control slots (R13, R223, R227, R253, R504) -/

/-- The training word of a port in phases 3 to 6 (R383). Ready, Turnaround, ProbeId and LaneMask say what the sender's
receiver has found, which no command brings: they are a free value. -/
def State.trainingWord (s : State) (port : Nat) : Nat :=
  let seen := (Config.freeWord s.drawn).toNat % 2 ^ 45
  let w := (s.port port).phase % 2 ^ 4 * 2 ^ 108 + s.portRole port * 2 ^ 106 + s.reg Reg.deviceId % 2 ^ 15 * 2 ^ 91 +
    port % 2 ^ 6 * 2 ^ 85 + seen * 2 ^ 40 + 2 ^ 32
  crc16 (leBytes 14 w) * 2 ^ 112 + w

/-- Lanes that train. -/
def Port.trainingLanes (p : Port) : List Nat :=
  (List.range 8).filter fun l => (p.lane l).status == 1 || (p.lane l).status == 3

/-- Training words, on a port in phases 3 to 6 (R383). -/
def State.sendTraining (s : State) (port : Nat) : State :=
  let p := s.port port
  if 3 ≤ p.phase ∧ p.phase ≤ 6 ∧ s.portRole port ≤ 1 then
    (p.trainingLanes.foldl (fun t l => t.emit (.training port l (s.trainingWord port))) s).drew 1
  else s

/-- The control slots of a trained fabric port. -/
def State.openPort (s : State) (port : Nat) : State :=
  let s := s.sendTraining port
  let p := s.port port
  if s.portRole port ≠ 0 ∨ p.upLanes.isEmpty then s
  else
    let s := if s.time.known && !s.time.marksOwed then s.emit (.mark port s.markWord) else s
    let s := p.upLanes.foldl (fun s l => s.emit (.linkControl port l (p.lane l).reportWord)) s
    let s := if s.power.mode = .doze ∨ s.limewash then s else p.upLanes.foldl (fun s l => s.emit (.idleFlits port l)) s
    s.sendSlots port

/-- The heartbeat word and the course's resync tiles, on trained bond ports in Run and Hold. -/
def State.openBond (s : State) : State :=
  if (s.power.mode = .run ∨ s.power.mode = .hold) ∧
      s.ports.any (fun e => s.portRole e.1 == 1 && !e.2.upLanes.isEmpty) then
    (s.emit (.heartbeat s.heartbeatWord)).resyncCourse
  else s

/-- The ingress engine's flits of a plan course (R360). -/
def State.openEngine (s : State) : State :=
  match s.prog.kind with
  | .work _ => s.engineSends
  | .idle | .slip _ | .rest _ | .grout _ | .lead | .phase | .held => s

/-! ### COURSE_START -/

/-- NoticesSuppressed while the count is not known (R439). -/
def State.sweepLocal (s : State) : State :=
  if s.time.known = false ∧ s.time.localCount % 2 ^ 20 = 0 then s.sweep else s

/-- A course of an Awake module. Where a root fed by the reference has a CourseLoad waiting, its marks wait until
EPOCH_COURSE has taken it or the course has turned out to be none (R12, R13). -/
def State.openCourse (s : State) : State :=
  let s := (s.mapTime Time.tick).loadFreeRun
  let s := s.bumpBy Reg.holdoverCourses (flagNat (s.reg Reg.lockState == 3))
  let s := s.endPairing
  let s := if s.prog.running then s.planCourse else s.doHardSwaps
  let s := s.mapTime fun t => { t with marksOwed := s.onReference && t.load.isSome }
  let s := ((s.ports.foldl (fun s e => s.openPort e.1) s).openBond).openEngine
  s.sendStatuses.sweepLocal

/-- COURSE_START: cycle 0. A lifecycle restart begins here (R483). -/
def State.startCourse (s : State) : State :=
  match s.power.mode with
  | .off => s
  | .sleep | .inReset => s.islandCourse
  | .run | .hold | .doze =>
    if s.start.lifecycleRestart then (s.mapTime Time.tick).internalReset else s.openCourse

/-- COURSE_START. -/
def execCourseStart (s : State) : Host.Outcome State Fault Refusal := s.done s.startCourse

/-! ### EPOCH_COURSE -/

/-- A root's EPOCH pulse (R10, R12, R18): the written CourseLoad becomes the count, or a count that does not fit is
kept and reported; a count known and unchallenged is Locked. -/
def State.rootEpoch (s : State) : State :=
  match s.time.load with
  | some v => (s.takeCount v).lock
  | none =>
    if s.time.known = false then s
    else if s.time.count % 2 ^ 20 ≠ 0 then
      (s.bump Reg.epochMismatch).notice Note.courseEpochMismatch srcModule (u64 s.time.count)
    else if s.reg Reg.lockState = 1 then (s.mapTime fun t => { t with acquiring := some t.localCount }).lock
    else s

/-- An epoch course is an EPOCH pulse at the module's own inputs: with CourseSource 1, and with 0 while the reference is
valid or no count is known; otherwise it is an epoch course of the count (assumption 46). -/
def State.takesPulse (s : State) : Bool :=
  s.reg Reg.courseSource == 1 || (s.reg Reg.courseSource == 0 && (s.time.refValid || !s.time.known))

/-- An EPOCH pulse (R10): exactly 2²⁰ reference periods after the one before it makes the reference valid; at any
other distance it makes the reference invalid, until two consecutive pulses are again correctly spaced. A reference
that becomes valid is a source that returns (R19). -/
def State.countPulse (s : State) (phase8 : Int) : State :=
  if s.takesPulse then
    let spaced : Bool := s.time.lastPulse.any fun l => s.time.localCount == l + 2 ^ 20
    let early : Bool := s.time.lastPulse.isSome && !spaced
    let s := s.mapTime fun t => { t with lastPulse := some t.localCount }
    if s.time.refValid then (if early then s.loseReference else s)
    else if spaced then s.referenceReturns s.time.count phase8
    else s.mapTime fun t => { t with goodPulses := 1 }
  else s

/-- Whether an EPOCH pulse gives this module its count: a root but not under Free-run. -/
def State.pulsed (s : State) : Bool := s.reg Reg.courseSource == 1 || s.onReference

/-- Codeword counts start anew. -/
def Port.clearErrors (p : Port) : Port :=
  let l := p.lanes.map fun e => (e.1, { e.2 with errors := 0 })
  { p with lanes := l.filter fun e => decide (e.2 ≠ Lane.down) }

/-- Lanes of a trained port that stayed down train again (R243), and a port that a role mismatch keeps Down tries phase 5
again (R384). -/
def Port.trainDown (p : Port) : Port :=
  if (p.identity.isSome && p.phase == 0) || (p.phase == 5 && p.linkState == 0) then
    (List.range 8).foldl (fun p l =>
      if (p.lane l).status = 0 then p.setLane l { p.lane l with status := 1 } else p) p
  else p

/-- The epoch interval of a port begins. -/
def State.epochPort (s : State) (port : Nat) : State :=
  (s.setPort port (s.port port).clearErrors.trainDown).refreshLink port

/-- The epoch interval of the units and links begins (R48, R53, R243, R246). -/
def State.epochUnits (s : State) (ber : List (Nat × Nat)) : State :=
  let s := { s with units := { s.units with corrected := [], exhausted := [] } }
  let s := (s.ports.filter fun e => decide (s.portRole e.1 ≤ 1)).foldl (fun s e => s.epochPort e.1) s
  (ber.filter fun e => portOk e.1).foldl (fun s e => s.setReg (Reg.preFecBer e.1) e.2) s

/-- The keeper's offset, stored while Locked (R453); PhaseError of a module with a source (R35). -/
def State.epochClock (s : State) (phase8 offset : Int) : State :=
  let s := if s.reg Reg.lockState = 2 then s.mapTime fun t => { t with keeperOffset := offset } else s
  if s.reg Reg.courseSource = 3 then s else s.setReg Reg.phaseError (ofSigned 32 phase8)

/-- EPOCH_COURSE: clock, epoch interval, and last the sweep of suppressed notices (R439). -/
def State.epochCourse (s : State) (phase8 offset : Int) (ber : List (Nat × Nat)) : State :=
  if s.awake then
    let s := (s.mapTime fun t => { t with epoch := true }).countPulse phase8
    let s := if s.pulsed then s.rootEpoch else s
    let s := (s.sendMarks.epochClock phase8 offset).epochUnits ber
    if s.time.known then s.sweep else s
  else s

/-- EPOCH_COURSE: phase error and keeper offset measured, and the pre-FEC bit error ratios by port. -/
def execEpochCourse (phase8 keeperOffset : Int) (ber : List (Nat × Nat)) (s : State) : Host.Outcome State Fault Refusal :=
  s.done (s.epochCourse phase8 keeperOffset ber)

end Sys2Proof.Machine
end

