-- ==== Sys2Proof/Machine/Launch.lean ====
section
/-! DEFINITION. The launch of a plan (R31, R32, R126, R142, R163, R170, R199, R233, R255, R284, R340 to R342, R568). -/

namespace Sys2Proof.Machine

/-! ### LAUNCH_COURSE_WRITE (R568) -/

/-- A plan has a fabric transfer. -/
def Plan.usesFabric (p : Plan) : Bool := p.routes.any fun r => r.kind == 2

/-- The checks of one port, in order (R233). -/
def State.judgePort (s : State) (n : Neighbour) : Nat :=
  if s.reg (Reg.linkState n.port) ≠ 2 then rcStateRefused
  else if s.reg (Reg.partnerDeviceId n.port) ≠ n.partnerDevice ∨ s.reg (Reg.partnerPort n.port) ≠ n.partnerPort then
    rcStateRefused
  else if n.dmax < ceilDiv (s.reg (Reg.portDelay n.port)) 8 then rcLatencyExceeded
  else rcOk

/-- The ports of a plan in ascending order, and the first that its checks refuse. -/
def insertPort (n : Neighbour) (l : List Neighbour) : List Neighbour :=
  match l with
  | [] => [n]
  | m :: r => if n.port ≤ m.port then n :: m :: r else m :: insertPort n r
def Plan.ports (p : Plan) : List Neighbour := p.neighbours.foldr insertPort []
def State.refusedPort (s : State) (p : Plan) : Option (Nat × Nat) :=
  (p.ports.find? fun n => s.judgePort n != rcOk).map fun n => (n.port, s.judgePort n)

/-- Order, port and result of a LaunchCourse write; order 0 accepts it. -/
def State.judgeLaunch (s : State) (v : Nat) : Nat × Nat × Nat :=
  match s.plan.loaded with
  | none => (1, 0xFF, rcStateRefused)
  | some p =>
    if s.reg Reg.planState ≠ 2 ∨ s.prog.running then (1, 0xFF, rcStateRefused)
    else if s.time.known = false then (2, 0xFF, rcStateRefused)
    else if v < s.time.count + 16 then (3, 0xFF, rcRangeError)
    else if s.reg Reg.courseSource = 3 ∧ p.usesFabric then (4, 0xFF, rcStateRefused)
    else if (s.blob Blob.slotContexts).length ≠ 4 * p.tintSlots then (5, 0xFF, rcStateRefused)
    else
      match s.refusedPort p with
      | some (port, rc) => (6, port, rc)
      | none => (0, 0xFF, rcOk)

/-- LaunchCourse past check 9: armed, or refused with its order and port recorded. -/
def State.putLaunchCourse (s : State) (v : Nat) : Nat × State :=
  let j := s.judgeLaunch v
  let s := (s.setReg Reg.launchRefusal j.1).setReg Reg.launchRefusalPort j.2.1
  if j.1 = 0 then (rcOk, (s.setReg Reg.launchCourse v).setReg Reg.launchState 1) else (j.2.2, s)

/-- LAUNCH_COURSE_WRITE. -/
def execLaunchCourseWrite (v : Via) (value : Nat) (s : State) : Host.Outcome State Fault Refusal :=
  s.done (s.writeNumber v 0x2020 0x01 4 value fun s => s.putLaunchCourse value)

/-! ### LAUNCH (R31, R32) -/

/-- A load in progress that the launch waits for: of a plan, or of the only generation of a module on which none is in
force or Loaded (assumption 46). -/
def State.launchLoads (s : State) : Bool :=
  s.plan.checking.isSome ||
    (s.weights.session.any (·.generation) && (s.sideIn 2).isNone && (s.sideIn 3).isNone)

/-- An input that the first course needs is missing: the handoff half of a header cluster whose Trowel does not run
(R321, R538). -/
def State.launchMisses (s : State) (p : Plan) : Bool := p.headers.any fun c => s.reg (Reg.trowelState c) != 1

/-- A module that is ready: in Run, Locked, its launch course reached and not too long ago, no load in progress and no
input missing (R32). -/
def State.launchReady (s : State) (p : Plan) : Bool :=
  let l := s.reg Reg.launchCourse
  s.reg Reg.launchState == 1 && s.power.mode == .run && s.time.known && s.reg Reg.lockState == 2 &&
    !s.launchLoads && !s.launchMisses p &&
    decide (l ≤ s.time.count ∧ s.time.count ≤ l + s.reg Reg.launchLateLimit)

/-- Puts registers at their Default. -/
def State.clearRegs (s : State) (l : List RegId) : State := l.foldl (fun s r => s.setReg r r.dflt) s

/-- The counters that count since launch (R37, R273, R299, R340 to R342, R372, R447, R461). -/
def launchCounters : List RegId :=
  [Reg.holdCourses, Reg.powerRests, Reg.thermalRests, Reg.variantSwitches, Reg.switches,
   Reg.descriptorsReceived, Reg.descriptorsMalformed, Reg.descriptorDuplicates, Reg.descriptorGaps, Reg.admitted,
   Reg.refusedRange, Reg.refusedNoRoom, Reg.refusedOther, Reg.lastRefusalCode, Reg.lastRefusalField, Reg.cancelled,
   Reg.tokensEmitted, Reg.streamsEnded, Reg.aborts, Reg.recordsDiscarded, Reg.outputOverruns, Reg.idleSlotPasses,
   Reg.batchesSent, Reg.batchesApplied, Reg.batchSlips, Reg.batchDiscards, Reg.lastBatchSequence, Reg.abortReportsSent,
   Reg.abortReportsReceived, Reg.rounds, Reg.draftsProposed, Reg.draftsAccepted, Reg.zeroAcceptRounds, Reg.suspensions,
   Reg.acceptanceRate] ++ (List.range 16).map Reg.landingCounter

/-- Every slot of a plan at its launch (R199): Clearing, of the tint with its own number. -/
def State.launchSlots (s : State) (p : Plan) (course : Nat) : Map Slot :=
  (List.range p.tintSlots).map fun n =>
    (n, { Slot.clear with state := 1, tint := n, releasedAt := s.time.localCount, releaseCourse := course })

/-- Serving at launch. -/
def State.launchServing (s : State) (p : Plan) (course : Nat) : Serving :=
  { s.serving with slots := s.launchSlots p course, bindings := [], handoff := [], notReady := [], late := 0, built := 0,
                   chosen := none, lastChoice := none, clearing := [] }

/-- Plan progress at launch: nothing is owed, the first course is about to run. -/
def launchProgress (course sinceRest : Nat) : Progress :=
  { State.reset.prog with
    running := true, course := course - 1, launchCourse := course, sinceRest := sinceRest }

/-- A side that is Loaded comes into force (R347). -/
def State.launchWeights (s : State) : State :=
  match s.sideIn 2 with
  | none => s
  | some side => (s.setReg Reg.pendingSwitch allOnes64).putInForce side

/-- At launch the bank that the loader wrote becomes active, unless an armed swap has made it so already (R170). -/
def State.launchBanks (s : State) : State := if s.plan.wrote = s.reg Reg.activeBank then s else s.flipBanks

/-- The plan starts: its banks and tables are in force, every core, tie and level at its launch state. -/
def State.startPlan (s : State) (p : Plan) : State :=
  let l := s.reg Reg.launchCourse
  let s := s.launchBanks
  let s := { s with plan := { s.plan with running := some p, loaded := none }, cores := [], nodes := [] }
  let s := { s with point := { ties := [], signals := [], levels := [] }, serving := s.launchServing p l }
  let s := s.mapProg fun q => launchProgress l q.sinceRest
  let s := ((s.setReg Reg.planState 0).setReg Reg.launchState 2).clearRegs launchCounters
  let s := s.showPlan.setReg Reg.activeVariant p.defaultVariant
  ((s.openLevels p).restartQueues).launchWeights

/-- The launch: LaunchLate with a lag, then the first plan course. -/
def State.launchPlan (s : State) : State :=
  match s.plan.loaded with
  | none => s
  | some p =>
    if s.launchReady p then
      let late := s.time.count - s.reg Reg.launchCourse
      let s := s.startPlan p
      let s := if late = 0 then s else s.notice Note.launchLate srcModule (u64 late)
      s.runCourse s.prog.launchCourse
    else s

/-- LAUNCH. -/
def execLaunch (s : State) : Host.Outcome State Fault Refusal := s.done s.launchPlan

end Sys2Proof.Machine
end

