-- ==== Sys2Proof/Machine/Reads.lean ====
section
/-! DEFINITION. What an entry reads (R414, R423): the entries computed from other state, chapter by chapter, and else
the register or the bytes held. -/

namespace Sys2Proof.Machine

/-! ### Units (R62, R107) -/

/-- OR of the EngineFlags of a cluster, and of the module (R107). -/
def State.orFlags (s : State) (lo hi : Nat) : Nat :=
  s.regs.foldl (fun n e => if lo ≤ e.1 ∧ e.1 < hi then n ||| e.2 else n) 0

/-- Enabled clusters: all, those numbered 0 to 3 in their brick, those numbered 4 to 7. -/
def State.clusterCount (s : State) (pick : Nat → Bool) : Nat :=
  (List.range 128).countP fun c => bit s.units.clusterMask c && pick c

/-- An entry of R62. -/
def State.readUnits (s : State) (sub : Nat) : Nat :=
  if sub = 3 then countBits 16 s.units.brickMask
  else if sub = 4 then s.clusterCount fun _ => true
  else if sub = 5 then s.clusterCount fun c => !isHeader c
  else if sub = 6 then s.clusterCount isHeader
  else if sub = 7 then 8 * s.clusterCount fun _ => true
  else if sub = 8 then s.units.mapSerial
  else (List.range 24).countP s.edgeOn

/-! ### Stores (R209 to R211) -/

/-- Latency cycles by class (R185); Stepping 0xA1 is A1, and any other B0. -/
def localLatency : Bytes := [3, 4, 5, 6]
def clusterLatency : Bytes := [9, 10, 11, 12, 13, 14, 15, 16]
def State.stackLatency (s : State) : Bytes :=
  if s.reg Reg.stepping = 0xA1 then [20, 23, 26, 29, 32, 36, 40, 44] else [20, 22, 25, 28, 31, 34, 37, 40]

/-- StoreLatencyDigest. -/
def State.latencyDigest (s : State) : Bytes := sha3 (localLatency ++ clusterLatency ++ s.stackLatency ++ u8 (s.reg Reg.peerHopCycles))

/-- A region of kinds 1 to 4 is a tile window (R279). -/
def Region.tileWindow (r : Region) : Bool := decide (1 ≤ r.kind ∧ r.kind ≤ 4)

/-- Bytes of the regions that satisfy a test. -/
def Plan.bytesOf (p : Plan) (f : Region → Bool) : Nat := (p.regions.filter f).foldl (fun n r => n + r.size * 64) 0

/-- Cycles of the clearing share of the engine of a share. -/
def Plan.shareOf (p : Plan) (x : Share) : Nat :=
  (p.shares.filter fun y => y.store == x.store && y.brick == x.brick && y.unit == x.unit).foldl (fun n y => n + y.count) 0

/-- An entry of R210, of the plan that runs or is loaded; 0 with none. -/
def State.readStoreUse (s : State) (sub : Nat) : Nat :=
  match s.anyPlan with
  | none => 0
  | some p =>
    if sub = 1 then p.bytesOf fun r => r.space == 0
    else if sub = 2 then p.bytesOf fun r => r.space == 1
    else if sub = 3 then p.bytesOf fun r => r.space == 2 && r.tileWindow
    else if sub = 4 then p.bytesOf fun r => r.space == 2 && !r.tileWindow
    else if sub = 5 then p.remotes.length
    else p.shares.foldl (fun n x => max n (p.shareOf x)) 0

/-- OwnedSlots and SlotsClearing (R211). -/
def State.ownedSlots (s : State) : Nat :=
  match s.thePlan with
  | none => 0
  | some p => ((p.regions.filter fun r => r.kind == 3).map (·.slot)).eraseDups.length
def State.slotsIn (s : State) (f : Nat → Bool) : Nat :=
  (List.range ((s.thePlan.map (·.tintSlots)).getD 0)).countP fun n => f (s.slot n).state

/-! ### Ports and links (R36, R246, R408) -/

/-- A fabric port that is trained: Up or Degraded. -/
def State.trained (s : State) (p : Nat) : Bool := s.portRole p == 0 && [2, 4].contains (s.reg (Reg.linkState p))

/-- DelayLimit: Dmax of the armed or running plan. -/
def State.delayLimit (s : State) (port : Nat) : Nat :=
  match s.anyPlan with
  | none => 0xFFFFFFFF
  | some p =>
    if s.planActive then ((p.neighbours.find? fun n => n.port == port).map (·.dmax)).getD 0xFFFFFFFF else 0xFFFFFFFF

/-- LaneStatus. -/
def State.laneStatus (s : State) (port : Nat) : Bytes := (List.range 8).flatMap fun l => u8 ((s.port port).lane l).status

/-- Token records that a port's buffer holds (R333). -/
def State.recordsBuffered (s : State) (n : Nat) : Nat :=
  (s.qps.filter fun e => e.2.ingress == n).foldl (fun k e => k + e.2.placed.length) 0

/-! ### Snapshot records (R269, R272, R343) -/

/-- The record of R269: `held` signals wait for their landing. -/
def Tie.record (t : Tie) (held : Nat) : Bytes :=
  leBytes 32
    (t.lastCourse * 2 ^ 192 + t.lastLanding * 2 ^ 128 + t.device % 2 ^ 15 * 2 ^ 113 + t.brick % 16 * 2 ^ 109 +
      t.cluster % 8 * 2 ^ 106 + t.position % 8 * 2 ^ 103 + t.source % 4 * 2 ^ 101 + t.op % 8 * 2 ^ 98 + held % 128 * 2 ^ 91 +
      t.waiters % 256 * 2 ^ 32 + t.value % 2 ^ 32)

/-- TieRecords of a core. -/
def State.tieRecords (s : State) (core : Nat) : Bytes :=
  (List.range 64).flatMap fun t =>
    (Map.get s.snap.ties Tie.clear (core * 64 + t)).record
      (s.snap.signals.countP fun x => x.kind != 3 && x.target == core && x.number == t)

/-- A level record of the module root node. -/
def LevelNode.record (n : LevelNode) : Bytes := u16 n.expected ++ u16 n.arrived ++ u32 n.completions ++ u64 n.lastRelease

/-- LevelTable. -/
def State.levelTable (s : State) : Bytes :=
  (List.range 256).flatMap fun l => (Map.get s.snap.levels LevelNode.clear (rootNode l)).record

/-- A slot record. -/
def Slot.record (x : Slot) : Bytes :=
  leBytes 32
    (x.request * 2 ^ 192 + x.admission * 2 ^ 128 + x.committed % 2 ^ 32 * 2 ^ 96 + x.generated % 2 ^ 32 * 2 ^ 64 +
      x.adapter % 2 ^ 16 * 2 ^ 48 + x.generation % 256 * 2 ^ 40 + x.draft % 256 * 2 ^ 32 + x.reason % 16 * 2 ^ 28 +
      x.phase % 16 * 2 ^ 24 + x.state % 16 * 2 ^ 20 + x.zeroRun % 256 * 2 ^ 12 + x.tint % 2 ^ 12)

/-! ### Weights (R363, R371 to R373) -/

/-- BatchBindings: a byte per batch of the running plan. -/
def State.batchBindings (s : State) : Bytes :=
  match s.thePlan with
  | none => []
  | some p => (List.range p.batches.length).flatMap fun b => u8 (s.boundTo b)

/-! ### Fixed entries -/

/-- The value of a fixed-type entry that is computed; none where a register holds it. -/
def State.computed (s : State) (index sub : Nat) : Option Nat :=
  if index = 0x2000 then (if sub = 2 then some s.stamp else none)
  else if index = 0x2001 then (if s.trained (sub - 1) then none else some 0xFFFFFFFF)
  else if index = 0x1010 then
    (if sub = 1 then some s.stateWord
     else if sub = 3 then some (dictionary.foldl (fun n e => n + e.count * (e.hi - e.lo + 1)) 0)
     else none)
  else if index = 0x1020 then some (s.readUnits sub)
  else if index = 0x1300 then
    (if sub = 0x0B then some s.paths.chainQueue.length
     else if sub = 0x0C then some s.paths.ringQueue.length
     else none)
  else if index = 0x3000 then (if sub = 1 then some (powerCode s.power.mode) else none)
  else if index = 0x3020 then (if sub = 3 then some s.floorEnergy else none)
  else if index = 0x4301 then some (s.readStoreUse sub)
  else if index = 0x4480 then (if sub = 1 then some ((s.thePlan.map (·.ties.length)).getD 0) else none)
  else if index = 0x4500 then (if sub = 2 then some ((s.thePlan.map (·.levels.length)).getD 0) else none)
  else if index = 0x5010 then
    (if sub = 5 then some s.serving.queue.length
     else if sub = 0x0D then some (s.slotsIn fun x => decide (2 ≤ x ∧ x ≤ 5))
     else if sub = 0x0E then some (s.slotsIn fun x => x == 0)
     else none)
  else if index = 0x5300 then
    (if sub = 1 then some s.ownedSlots
     else if sub = 2 then some (s.slotsIn fun x => x == 1 || x == 2)
     else none)
  else if index = 0x6000 then
    (if sub = 9 then some ((s.anyPlan.map Plan.recordGranules).getD 0)
     else if sub = 0x0A then some ((s.anyPlan.map Plan.ringPositions).getD 0)
     else none)
  else if 0x6010 ≤ index ∧ index ≤ 0x6011 then
    (if sub = 3 then some (s.boundCount (s.reg (Reg.sideGeneration (index - 0x6010)))) else none)
  else if index = 0x7000 then some (s.portRole (sub - 1))
  else if 0x7100 ≤ index ∧ index ≤ 0x713F then
    (if sub = 5 then some (s.delayLimit (index - 0x7100))
     else if sub = 0x0C then some (Map.get s.snap.backlog 0 (index - 0x7100))
     else none)
  else if index = 0x7280 then
    (if sub = 5 then some ((s.thePlan.map (·.routes.length)).getD 0)
     else if sub = 6 then some ((s.thePlan.map (·.treeNodes)).getD 0)
     else none)
  else if 0x7300 ≤ index ∧ index ≤ 0x730F then
    (if sub = 2 then some ((((s.thePlan.map (·.windows)).getD []).find? fun w => w.window == index - 0x7300).elim 0 s.creditOf)
     else none)
  else if index = 0x7400 then
    (if sub = 3 then some (s.qp (s.reg Reg.qpSelect)).state
     else if sub = 5 then some (0x00100000 + s.reg Reg.qpSelect)
     else if sub = 6 then some (if (s.qp (s.reg Reg.qpSelect)).state = 1 then (s.qp (s.reg Reg.qpSelect)).rkey else 0)
     else if sub = 7 then some (s.qps.countP fun e => e.2.state == 1)
     else none)
  else if 0x7410 ≤ index ∧ index ≤ 0x7413 then (if sub = 0x0E then some (s.recordsBuffered (index - 0x7410)) else none)
  else if index = 0x9001 then
    (if sub = 4 then some s.mirroredSlots.length else if sub = 0x0E then some s.bond.buffered else none)
  else if index = 0x9010 then
    (if sub = 1 then some (bitSet ((List.range 9).filter s.activityRuns))
     else if sub = 2 then some s.held.length
     else none)
  else if index = 0xA180 then some (s.orFlags ((0xA100 + (sub - 1)) * 256) ((0xA101 + (sub - 1)) * 256))
  else if index = 0xA181 then some (s.orFlags (0xA100 * 256) (0xA180 * 256))
  else none

/-- The register of a fixed-type entry. -/
def Entry.regId (e : Entry) (index sub : Nat) : RegId := ⟨entryKey index sub, 8 * typeLength e.typ, e.dflt⟩

/-- A fixed-type entry's value. -/
def State.readFixed (s : State) (e : Entry) (index sub : Nat) : Nat :=
  ((s.computed index sub).getD (s.reg (e.regId index sub))) % 2 ^ (8 * typeLength e.typ)

/-! ### STR and BLOB entries -/

/-- The whole value of a STR or BLOB entry. -/
def State.readBlob (s : State) (index sub : Nat) : Bytes :=
  if index = 0x1020 then (if sub = 1 then s.unitMap else s.unitMapDigest)
  else if index = 0x4100 ∧ sub = 4 then s.bookDigest
  else if index = 0x4300 then
    (if sub = 1 then localLatency
     else if sub = 2 then clusterLatency
     else if sub = 3 then s.stackLatency
     else s.latencyDigest)
  else if 0x4400 ≤ index ∧ index ≤ 0x447F then s.tieRecords (8 * (index - 0x4400) + (sub - 1))
  else if index = 0x4500 then s.levelTable
  else if index = 0x4020 then s.resultClassKey
  else if 0x5200 ≤ index ∧ index ≤ 0x521F then (Map.get s.snap.slots Slot.clear (128 * (index - 0x5200) + (sub - 1))).record
  else if index = 0x6020 then s.batchBindings
  else if index = 0x6030 ∧ sub = 4 then s.adapterDigest (s.reg Reg.adapterSelect)
  else if index = 0x7000 then
    (if sub = 0x41 then (List.range 4).flatMap fun n => u8 (s.ingressPort n)
     else if sub = 0x42 then (List.range 4).flatMap fun n => u8 (s.bondPort n)
     else s.fabricPorts.flatMap u8)
  else if 0x7100 ≤ index ∧ index ≤ 0x713F then s.laneStatus (index - 0x7100)
  else if index = 0x7400 then padTo 64 (s.qp (s.reg Reg.qpSelect)).record
  else if index = 0x8000 then
    (if sub = 5 then s.devDigests
     else if sub = 6 then s.aliasDigests
     else s.certificate (sub == 8))
  else if index = 0x8100 then
    (if sub = 9 then (s.security.trace.flatMap u64) else padTo 144 s.snap.program)
  else if index = 0xA600 then s.start.history.flatMap fun r => r
  else s.blob (entryKey index sub)

end Sys2Proof.Machine
end

