-- ==== Sys2Proof/Machine/Writes.lean ====
section
/-! DEFINITION. Check 10 of R419 and the effect of a write (R414), for every entry that can be written: those that have a
row of their own call what that row calls. -/

namespace Sys2Proof.Machine

/-! ### RW entries that a condition guards -/

/-- The U16 fields of a byte string. -/
def halves (b : Bytes) : List Nat := (List.range (b.length / 2)).map fun i => field b (2 * i) 2

/-- Members (R338): whole DeviceIds, none twice. -/
def membersOk (b : Bytes) : Bool := b.length % 2 == 0 && decide (halves b).Nodup

/-- NoticeMac (R443): a multicast address only if it is broadcast. -/
def noticeMacOk (b : Bytes) : Bool := byteAt b 0 % 2 == 0 || b.all (· == 0xFF)

/-- The thermal limits (R461), one of them as written: they rise strictly below ThermalShutdown. -/
def State.limitsRise (s : State) (sub v : Nat) : Bool :=
  let at_ (i : Nat) (r : RegId) : Nat := if sub = i then v else s.reg r
  decide (at_ 2 Reg.thermalWarn < at_ 3 Reg.thermalRest ∧ at_ 3 Reg.thermalRest < at_ 4 Reg.thermalCritical ∧
    at_ 4 Reg.thermalCritical < at_ 5 Reg.thermalTrip ∧ at_ 5 Reg.thermalTrip < s.reg Reg.thermalShutdown)

/-- A queue pair of an ingress port is Ready. -/
def State.portBusy (s : State) (n : Nat) : Bool := s.qps.any fun e => e.2.state == 1 && e.2.ingress == n

/-- Check 10 of a fixed-type RW entry without an action of its own. -/
def State.fixedCondition (s : State) (index sub v : Nat) : Nat :=
  if index = 0x5000 then (if [1, 2, 4, 5, 7].contains sub && s.planActive then rcStateRefused else rcOk)
  else if index = 0x5001 ∧ sub = 2 then (if s.reg Reg.variantCount ≤ v then rcRangeError else rcOk)
  else if index = 0x6000 then (if s.weights.session.isSome then rcStateRefused else rcOk)
  else if 0x7410 ≤ index ∧ index ≤ 0x7413 ∧ sub = 1 then (if s.portBusy (index - 0x7410) then rcStateRefused else rcOk)
  else if index = 0x1300 ∧ sub = 3 then (if bit v 3 then rcOk else rcRangeError)
  else if index = 0x3010 ∧ sub ≤ 5 then (if s.limitsRise sub v then rcOk else rcRangeError)
  else if index = 0x3030 ∧ sub = 1 then
    (if v = allOnes64 ∨ (s.time.known ∧ s.stamp + s.reg Reg.wakeLead ≤ v) then rcOk else rcRangeError)
  else if index = 0x8100 then
    (if sub = 1 then (if v < 2 ^ 48 ∧ v % 4 = 0 then rcOk else rcRangeError)
     else if sub = 5 then (if s.clusterOn (v / 8) then rcOk else rcAbsent)
     else rcOk)
  else if index = 0x9000 ∧ (sub = 2 ∨ sub = 3) then (if s.reg Reg.bondMode = 0 then rcOk else rcStateRefused)
  else rcOk

/-- What follows from the new value of an RW entry. -/
def State.afterWrite (s : State) (index sub v : Nat) : State :=
  if index = 0x1300 ∧ (sub = 4 ∨ sub = 5) then s.refillBuckets
  else if index = 0x8100 ∧ sub = 6 then s.setReg Reg.traceState (if v = allOnes64 then 0 else 1)
  else s

/-- A write of a fixed-type RW entry without an action of its own; the value already held has no further effect. -/
def State.writePlain (s : State) (e : Entry) (index sub v : Nat) : Nat × State :=
  let rc := s.fixedCondition index sub v
  if rc ≠ rcOk then (rc, s)
  else if v = s.reg (e.regId index sub) then (rcOk, s)
  else (rcOk, (s.setReg (e.regId index sub) v).afterWrite index sub v)

/-- The reserved fields of a KeepTable are 0 (R6, R355). -/
def keepReserved (b : Bytes) : Bool := (List.range (b.length / 16)).all fun i => field b (16 * i + 10) 2 == 0

/-- Check 10 of a BLOB entry without an action of its own. -/
def State.blobCondition (s : State) (index sub : Nat) (b : Bytes) : Nat :=
  if index = 0x5000 ∧ sub = 3 then
    (if !membersOk b then rcRangeError else if s.planActive then rcStateRefused else rcOk)
  else if index = 0x5000 ∧ sub = 8 then (if s.planActive then rcStateRefused else rcOk)
  else if index = 0x6000 then
    (if !keepReserved b then rcRangeError else if s.weights.session.isSome then rcStateRefused else rcOk)
  else if index = 0x1300 then (if noticeMacOk b then rcOk else rcRangeError)
  else if 0x7410 ≤ index ∧ index ≤ 0x7413 then (if s.portBusy (index - 0x7410) then rcStateRefused else rcOk)
  else rcOk

/-- A write of an RW BLOB entry without an action of its own. -/
def State.writeBytes (s : State) (index sub : Nat) (b : Bytes) : Nat × State :=
  let rc := s.blobCondition index sub b
  if rc ≠ rcOk then (rc, s) else (rcOk, s.setBlob (entryKey index sub) b)

/-! ### Entries with a row of their own -/

/-- DiagnosticRun on a path that carries no finding: what it finds is a free value (assumption 47). -/
def State.diagnoseFreely (s : State) (test : Nat) : Nat × State :=
  (s.drew 1).diagnose test ((Config.freeDiagnosis s.drawn test).map BitVec.toNat)

/-- An EngineFlags byte is written 1s to clear; no raise meets it (R106). -/
def State.clearFlagByte (s : State) (index sub v : Nat) : Nat × State :=
  (rcOk, s.clearFlags (8 * (index - 0xA100) + (sub - 1) / 5) ((sub - 1) % 5) v 0)

/-- The action of a fixed-type entry that has one: checks 1 to 9 passed. -/
def State.fixedAction (s : State) (v : Via) (index sub value : Nat) : Option (Nat × State) :=
  if index = 0x2000 then
    (if sub = 1 then some (s.setCourseSource value) else if sub = 3 then some (s.loadCourse value) else none)
  else if index = 0x2020 then some (s.putLaunchCourse value)
  else if index = 0x1100 then some (s.writeDeviceId value)
  else if index = 0x3000 then (if sub = 2 then some (s.requestPower value) else some (rcOk, s))
  else if index = 0x3020 then some (s.putCap (sub == 2) value)
  else if index = 0x4000 then
    (if sub = 1 then some (s.loadPlan value) else if sub = 7 then some s.discardPlan else some (s.haltPlan value))
  else if index = 0x4101 then (if sub = 3 then some s.armSwap else some (s.putLoadBank value))
  else if index = 0x6000 then
    (if sub = 1 then some (s.governed (State.judgeGeneration value) 5 0 value (State.startGeneration value))
     else if sub = 2 then some (s.governed (State.judgeAdapter value) 5 1 value (State.startAdapter value))
     else if sub = 8 then some (rcOk, s.endSession)
     else none)
  else if index = 0x6020 then
    (if sub = 1 then some (s.governed (State.judgeSwitch value) 6 0 value fun s => s.setReg Reg.pendingSwitch value)
     else some (s.discardGeneration value))
  else if index = 0x6030 then (if sub = 5 then some (s.unloadAdapter value) else none)
  else if 0x7100 ≤ index ∧ index ≤ 0x713F then
    some (s.governed (State.judgeRetrain (index - 0x7100)) 7 (index - 0x7100) value (State.startRetrain (index - 0x7100)))
  else if index = 0x7400 then (if sub = 4 then some (rcOk, s.resetQp (s.reg Reg.qpSelect)) else none)
  else if index = 0x8000 then some s.commitVersion
  else if index = 0x8020 then some (s.requestLevel v value)
  else if index = 0x9000 then
    (if sub = 1 then some (s.writeBondMode value)
     else if sub = 6 then some (rcOk, s.mapBond fun b => { b with yield := true })
     else none)
  else if index = 0x9020 then
    (if sub = 1 then some (s.activateFirmware (viaCode v) value)
     else if sub = 3 then some (s.loadPatch (viaCode v) value)
     else if sub = 5 then some (s.governed (State.judgePatch value) 2 0 value (State.armPatch value))
     else some (s.retireRequest value))
  else if index = 0x9041 then
    (if sub = 1 then
       some (s.governed (State.judgeSubstitute value) 3 2 value (State.startSubstitution (substCluster value) (substPosition value) 2))
     else none)
  else if 0xA100 ≤ index ∧ index ≤ 0xA17F then some (s.clearFlagByte index sub value)
  else if index = 0xA181 then some (rcOk, s.clearEveryFlag value)
  else if index = 0xA600 then some s.retryStart
  else if index = 0xA601 then
    (if sub = 3 then some (s.selectSlot value) else if sub = 5 then some (s.stageSlot (viaCode v) value) else none)
  else if index = 0xA602 then (if sub = 0x0B then some (rcOk, s.setWithheld value false) else none)
  else if index = 0xA603 then some (s.diagnoseFreely value)
  else none

/-- The action of a BLOB entry that has one. -/
def State.blobAction (s : State) (v : Via) (index sub : Nat) (b : Bytes) : Option (Nat × State) :=
  if index = 0x7400 then some (s.configQp b)
  else if 0x7420 ≤ index ∧ index ≤ 0x7423 then
    some (if sub = 2 then s.putTxSak (index - 0x7420) b else s.putRxSak (index - 0x7420) b)
  else if index = 0x8010 then
    some (if sub = 1 then s.beginReport b else if sub = 7 then s.enroll b else s.changeOwner (viaCode v) b)
  else if index = 0x8020 then some (if sub = 2 then s.takeLifecycle (viaCode v) b else s.takeToken v b)
  else if index = 0x8100 then some (s.debugWrite b)
  else if index = 0xA601 then some (s.writeSlot (viaCode v) b)
  else none

/-- A whole value past check 9 (R419, check 10; R414). -/
def State.writeEntry (s : State) (v : Via) (e : Entry) (index sub : Nat) (value : Bytes) : Nat × State :=
  if typeLength e.typ = 0 then
    match s.blobAction v index sub value with
    | some r => r
    | none => s.writeBytes index sub value
  else
    match s.fixedAction v index sub (leVal value) with
    | some r => r
    | none => s.writePlain e index sub (leVal value)

end Sys2Proof.Machine
end

