-- ==== Sys2Proof/Machine/Access.lean ====
section
/-! DEFINITION. Requests (R413 to R427): reads with latches, writes in segments, Describe and Next; and the rows of the
dictionary that come without a frame. -/

namespace Sys2Proof.Machine

/-- What a request answers (R426): result code, value, and the length of the latched value. -/
structure Answer where
  result : Nat
  value : Bytes
  total : Nat
  deriving DecidableEq, Repr

/-- A result without a value. -/
def Answer.code (rc : Nat) : Answer := ⟨rc, [], 0⟩

/-- Value bytes that one response carries (R424). -/
def segmentLimit (v : Via) : Nat := if viaPcie v then 4032 else 1024

/-! ### Descriptors (R418, R427) -/

/-- The default of a row is a value that the entry reads now: per part, firmware, stepping, start or index, or current
(R417, R418). -/
def readDefault (index sub : Nat) : Bool :=
  [(0x1000, 2), (0x1000, 3), (0x1010, 1), (0x1010, 2), (0x1010, 3), (0x1010, 4), (0x1020, 3), (0x1020, 4), (0x1020, 5),
   (0x1020, 6), (0x1020, 7), (0x1020, 9), (0x3020, 3), (0x4100, 1), (0x4100, 2), (0x7400, 5), (0x8000, 1), (0x8000, 2),
   (0x8000, 4), (0x8020, 1), (0x8020, 3), (0xA600, 2), (0xA600, 7), (0xA600, 8), (0xA601, 1), (0xA601, 2)].contains (index, sub) ||
    (decide (0x4200 ≤ index ∧ index ≤ 0x427F) && sub == 2) || (index == 0x7000 && decide (sub ≤ 0x40))

/-- The Default field: I32 sign-extended; 0 for STR, BLOB and WO. -/
def State.defaultField (s : State) (e : Entry) (index sub : Nat) : Nat :=
  if typeLength e.typ = 0 ∨ e.access = 2 then 0
  else if readDefault index sub then s.readFixed e index sub
  else if e.typ = 5 then ofSigned 64 (toSigned 32 e.dflt)
  else e.dflt

/-- Minimum and Maximum: those of RefDelay are negative and positive. -/
def rangeFields (e : Entry) (index sub : Nat) : Nat × Nat :=
  if index = 0x2000 ∧ sub = 9 then (ofSigned 64 (-64), 64) else (e.minimum, e.maximum)

/-- The DOMAIN value of an entry. -/
def State.descriptor (s : State) (e : Entry) (index sub : Nat) : Bytes :=
  let level : Nat := if entryLevel index sub = 0 then 0 else 8
  let r := rangeFields e index sub
  u16 index ++ u8 sub ++ u8 e.typ ++ u8 e.access ++ u8 e.states ++ u8 (e.flags % 8 + level) ++ u8 0 ++
    u32 (if typeLength e.typ = 0 then e.maxLength else typeLength e.typ) ++ u32 0 ++ u64 (s.defaultField e index sub) ++
    u64 r.1 ++ u64 r.2 ++ zeros 8

/-- Describe. -/
def State.describeEntry (s : State) (index sub : Nat) : Answer :=
  match findEntry index sub with
  | none => Answer.code rcRangeError
  | some e => ⟨rcOk, s.descriptor e index sub, 0⟩

/-- The lowest pair of a row that lies above a key. -/
def Entry.above (e : Entry) (key : Nat) : Option Nat :=
  let first := entryKey e.index e.lo
  let last := entryKey (e.index + e.count - 1) e.hi
  if key < first then some first
  else if last ≤ key then none
  else
    let index := key / 256
    if key % 256 < e.lo then some (entryKey index e.lo)
    else if key % 256 < e.hi then some (key + 1)
    else some (entryKey (index + 1) e.lo)

/-- The next defined pair after a key, in ascending order. -/
def nextKey (key : Nat) : Option Nat :=
  dictionary.foldl (fun best e =>
    match best, e.above key with
    | some b, some k => some (min b k)
    | some b, none => some b
    | none, k => k) none

/-- Next. -/
def State.describeNext (s : State) (index sub : Nat) : Answer :=
  match nextKey (entryKey index sub) with
  | none => Answer.code rcAbsent
  | some k => s.describeEntry (k / 256) (k % 256)

/-! ### Reads (R424) -/

/-- The requester's latch. -/
def State.latchOf (s : State) (v : Via) : Option Latch := s.paths.latches.find? fun x => x.via == v

/-- A segment of a latched value. -/
def serveLatch (v : Via) (value : Bytes) (offset : Nat) : Answer :=
  ⟨rcOk, (value.drop offset).take (segmentLimit v), value.length⟩

/-- The whole value of a STR or BLOB entry, or what DebugRead (R490, R492) and, on a Retired part, AttestReport (R485)
answer instead. -/
def State.wholeValue (s : State) (index sub : Nat) : Nat × Bytes :=
  if index = 0x8100 ∧ sub = 3 then s.debugValue
  else if index = 0x8010 ∧ sub = 2 ∧ s.reg Reg.lifecycle = 3 then (rcStateRefused, [])
  else (rcOk, s.readBlob index sub)

/-- A read of a STR or BLOB entry at Offset 0: it latches the value. -/
def State.latchValue (s : State) (v : Via) (index sub : Nat) : Answer × State :=
  let r := s.wholeValue index sub
  if r.1 = rcOk then
    let x : Latch := { via := v, key := entryKey index sub, value := r.2, at_ := s.time.localCount }
    (serveLatch v r.2 0,
      { s with paths := { s.paths with latches := (s.paths.latches.filter fun y => y.via != v) ++ [x] } })
  else (Answer.code r.1, if r.1 = rcAccessDenied then s.bump Reg.debugRefusals else s)

/-- A read of a STR or BLOB entry. -/
def State.readSegments (s : State) (v : Via) (index sub offset : Nat) : Answer × State :=
  if offset = 0 then s.latchValue v index sub
  else
    match s.latchOf v with
    | none => (Answer.code rcStateRefused, s)
    | some x =>
      if x.key ≠ entryKey index sub ∨ x.at_ + 2 ^ 16 < s.time.localCount then (Answer.code rcStateRefused, s)
      else if x.value.length ≤ offset then (Answer.code rcRangeError, s)
      else (serveLatch v x.value offset, s)

/-- A read past check 8. -/
def State.readEntry (s : State) (v : Via) (e : Entry) (index sub offset : Nat) : Answer × State :=
  if typeLength e.typ = 0 then s.readSegments v index sub offset
  else (⟨rcOk, leBytes (typeLength e.typ) (s.readFixed e index sub), 0⟩, s)

/-! ### Writes (R425) -/

/-- The requester's incomplete value. -/
def State.partialOf (s : State) (v : Via) : Option Partial := s.paths.partials.find? fun x => x.via == v

/-- The requester's incomplete value is dropped; `lost` when it is discarded. -/
def State.dropPartial (s : State) (v : Via) (lost : Bool) : State :=
  let n := s.paths.partials.countP fun x => x.via == v
  let s := { s with paths := { s.paths with partials := s.paths.partials.filter fun x => x.via != v } }
  if lost then s.bumpBy Reg.segmentsDiscarded n else s

/-- Keeps a segment. -/
def State.keepPartial (s : State) (v : Via) (key total : Nat) (value : Bytes) : State :=
  let x : Partial := { via := v, key := key, total := total, value := value, at_ := s.time.localCount }
  let s := s.dropPartial v false
  { s with paths := { s.paths with partials := s.paths.partials ++ [x] } }

/-- An incomplete value has had no segment for 2¹⁶ courses. -/
def State.stale (s : State) (x : Partial) : Bool := decide (x.at_ + 2 ^ 16 ≤ s.time.localCount)

/-- The value of which a segment is the next part: what went before it, if it continues its predecessor. -/
def State.before (s : State) (v : Via) (key offset total : Nat) : Option Bytes :=
  if offset = 0 then some []
  else
    match s.partialOf v with
    | none => none
    | some x => if !s.stale x && x.key == key && x.total == total && x.value.length == offset then some x.value else none

/-- A segment of a STR or BLOB write past check 8. -/
def State.writeSegment (s : State) (v : Via) (e : Entry) (index sub offset total : Nat) (last : Bool) (value : Bytes) :
    Nat × State :=
  match s.before v (entryKey index sub) offset total with
  | none => (rcRangeError, s.dropPartial v true)
  | some b =>
    let s := s.dropPartial v (offset == 0)
    if last then s.applyWhole e index sub (b ++ value) fun s => s.writeEntry v e index sub (b ++ value)
    else (rcOk, s.keepPartial v (entryKey index sub) total (b ++ value))

/-- A write past check 8. -/
def State.writeValue (s : State) (v : Via) (e : Entry) (index sub offset total : Nat) (last : Bool) (value : Bytes) :
    Nat × State :=
  if typeLength e.typ = 0 then s.writeSegment v e index sub offset total last value
  else s.applyWhole e index sub value fun s => s.writeEntry v e index sub value

/-! ### Judging (R419) -/

/-- Check 1: Length, Offset and Total agree, and nothing but a write carries a value. Segments belong to STR and BLOB
entries. -/
def shapeOk (op index sub offset total : Nat) (last : Bool) (length : Nat) : Bool :=
  if op = 2 then
    decide (offset + length ≤ total) && (!last || offset + length == total) &&
      match findEntry index sub with
      | none => true
      | some e => typeLength e.typ == 0 || (offset == 0 && last)
  else length == 0 && total == 0 && (op == 1 || offset == 0)

/-- A request past checks 1 and 2, before its result is counted. -/
def State.serve (s : State) (v : Via) (op index sub typ offset total : Nat) (last : Bool) (value : Bytes) : Answer × State :=
  if op = 3 then (s.describeEntry index sub, s)
  else if op = 4 then (s.describeNext index sub, s)
  else
    match s.judgeAccess v index sub typ (op == 2) (if op = 2 then some value.length else none) with
    | (rc, none) => (Answer.code rc, s)
    | (_, some e) =>
      if op = 1 then s.readEntry v e index sub offset
      else
        let r := s.writeValue v e index sub offset total last value
        (Answer.code r.1, r.2)

/-- A request: judged, applied, counted (R422, R444); a StateRefused answer carries the state word as it stood (R421). -/
def State.request (s : State) (v : Via) (op index sub typ offset total : Nat) (last : Bool) (value : Bytes) : Answer × State :=
  let s := s.countRequest v
  let word := s.stateWord
  let r :=
    if decide (op < 1 ∨ 4 < op) || !shapeOk op index sub offset total last value.length then (Answer.code rcRangeError, s)
    else s.serve v op index sub typ offset total last value
  let t := if r.1.result = rcAbsent ∧ op ≠ 4 then r.2.recordAbsent v index sub op else r.2
  (if r.1.result = rcStateRefused then ⟨rcStateRefused, u32 word, 0⟩ else r.1, t.countResult r.1.result)

/-- A request whose answer goes out as a response. -/
def State.requestNow (s : State) (v : Via) (op index sub typ offset total : Nat) (last : Bool) (value : Bytes) : State :=
  let r := s.request v op index sub typ offset total last value
  r.2.emit (.response v r.1.result r.1.value)

/-- A request that comes without a frame: it waits while the Keystone restarts (R516). -/
def State.submit (s : State) (v : Via) (op index sub typ offset total : Nat) (last : Bool) (value : Bytes) : State :=
  if s.keystoneDown then s.holdBack (.request v op index sub typ offset total last value)
  else if s.serves v then s.requestNow v op index sub typ offset total last value
  else s

/-- READ_SEGMENT. -/
def execReadSegment (v : Via) (index sub typ offset : Nat) (s : State) : Host.Outcome State Fault Refusal :=
  s.done (s.submit v 1 index sub typ offset 0 false [])

/-- REGISTER_WRITE. -/
def execRegisterWrite (v : Via) (index sub typ offset total : Nat) (last : Bool) (value : Bytes) (s : State) :
    Host.Outcome State Fault Refusal :=
  s.done (s.submit v 2 index sub typ offset total last value)

/-- DESCRIBE. -/
def execDescribe (v : Via) (index sub : Nat) (s : State) : Host.Outcome State Fault Refusal :=
  s.done (s.submit v 3 index sub 10 0 0 false [])

/-- NEXT. -/
def execNextEntry (v : Via) (index sub : Nat) (s : State) : Host.Outcome State Fault Refusal :=
  s.done (s.submit v 4 index sub 10 0 0 false [])

/-- DEBUG_READ: a read of DebugRead at Offset 0. -/
def execDebugRead (v : Via) (s : State) : Host.Outcome State Fault Refusal :=
  s.done (s.submit v 1 0x8100 3 9 0 0 false [])

/-- WRITE_SEGMENT_TIMEOUT: an incomplete value without a segment for 2¹⁶ courses is discarded. -/
def State.expirePartial (s : State) (v : Via) : State :=
  if s.awake && (s.partialOf v).any s.stale then s.dropPartial v true else s

def execWriteSegmentTimeout (v : Via) (s : State) : Host.Outcome State Fault Refusal := s.done (s.expirePartial v)

end Sys2Proof.Machine
end

