-- ==== Sys2Proof/Machine/Gateway.lean ====
section
/-! DEFINITION. Dictionary frames on the chain (R426 to R428), the gateway and the other offsets of BAR0 (R397, R429,
R430, R435), and the requests that waited for a Keystone restart (R516). -/

namespace Sys2Proof.Machine

/-! ### Headers (R426) -/

/-- The fields of a request's header. -/
def hdOp (h : Bytes) : Nat := byteAt h 1
def hdSeq (h : Bytes) : Nat := field h 2 2
def hdIndex (h : Bytes) : Nat := field h 4 2
def hdSub (h : Bytes) : Nat := byteAt h 6
def hdType (h : Bytes) : Nat := byteAt h 7
def hdLast (h : Bytes) : Bool := bit (byteAt h 8) 0
def hdOffset (h : Bytes) : Nat := field h 12 4
def hdLength (h : Bytes) : Nat := field h 16 2
def hdTotal (h : Bytes) : Nat := field h 20 4

/-- Check 1 on the header: Version 1, reserved fields and Result 0, and a Length that the path carries. -/
def headerOk (h : Bytes) (limit : Nat) : Bool :=
  byteAt h 0 == 1 && decide (byteAt h 8 < 2) && byteAt h 9 == 0 && field h 10 2 == 0 && decide (hdLength h ≤ limit) &&
    field h 18 2 == 0

/-- A request as its header gives it: one whose header is not well formed is counted with its RangeError. -/
def State.headed (s : State) (v : Via) (h value : Bytes) (ok : Bool) : Answer × State :=
  if ok then
    s.request v (hdOp h) (hdIndex h) (hdSub h) (hdType h) (hdOffset h) (hdTotal h) (hdLast h) value
  else (Answer.code rcRangeError, (s.countRequest v).countResult rcRangeError)

/-! ### Frames -/

/-- The response frame: a descriptor has type DOMAIN. -/
def responseFrame (h : Bytes) (a : Answer) : Bytes :=
  let typ := if (hdOp h = 3 ∨ hdOp h = 4) ∧ a.result = rcOk then 10 else hdType h
  chainBytes (hdOp h % 128 + 128) (hdSeq h) (hdIndex h) (hdSub h) typ a.result (hdOffset h) a.total a.value

/-- A response waits for the module's PLCA opportunity, and is remembered among the last 64 (R428). -/
def State.storeReply (s : State) (mac seq : Nat) (f : Bytes) : State :=
  s.mapPaths fun p => { p with responses := p.responses ++ [(mac, f)], replies := ((mac, seq, f) :: p.replies).take 64 }

/-- The response stored for a pair of source MAC and Sequence. -/
def State.storedReply (s : State) (mac seq : Nat) : Option Bytes :=
  (s.paths.replies.find? fun r => r.1 == mac && r.2.1 == seq).map (·.2.2)

/-- A request frame at an addressed module: replayed or executed. -/
def State.answerFrame (s : State) (mac : Nat) (f : Bytes) : State :=
  match s.storedReply mac (hdSeq f) with
  | some r => (s.bump Reg.repliesReplayed).mapPaths fun p => { p with responses := p.responses ++ [(mac, r)] }
  | none =>
    let ok := headerOk f 1024 && decide (24 + hdLength f ≤ f.length)
    let r := s.headed (.chain mac) f ((f.drop 24).take (hdLength f)) ok
    r.2.storeReply mac (hdSeq f) (responseFrame f r.1)

/-- A frame for the module on the chain (R401, R426); enumeration frames are the business of CLAIM and CONFIRM. -/
def State.frameArrives (s : State) (mac : Nat) (f : Bytes) : State :=
  if s.awake = false then s
  else if 24 ≤ f.length ∧ 0x20 ≤ hdOp f ∧ hdOp f ≤ 0x22 then s
  else if f.length < 24 ∨ s.reg Reg.chainState ≠ 2 then s.bump Reg.chainFramesDropped
  else if s.keystoneDown then s.holdBack (.frame mac f)
  else s.answerFrame mac f

/-- DICTIONARY_FRAME. -/
def execDictionaryFrame (mac : Nat) (frame : Bytes) (s : State) : Host.Outcome State Fault Refusal :=
  s.done (s.frameArrives mac frame)

/-! ### The gateway (R429, R430) -/

/-- A slot at reset. -/
def GatewaySlot.clear : GatewaySlot := { owner := false, header := zeros 24, value := zeros 4032 }

/-- A gateway slot. -/
def State.gatewaySlot (s : State) (i : Nat) : GatewaySlot := Map.get s.paths.gateway GatewaySlot.clear i

/-- Changes a gateway slot. -/
def State.setGateway (s : State) (i : Nat) (g : GatewaySlot) : State :=
  s.mapPaths fun p => { p with gateway := Map.set p.gateway GatewaySlot.clear i g }

/-- Bytes written over a field: the field begins at offset `base`, the write at offset `at_`. -/
def overlay (old : Bytes) (base at_ : Nat) (new : Bytes) : Bytes :=
  (if base ≤ at_ then old.take (at_ - base) ++ new ++ old.drop (at_ - base + new.length)
   else new.drop (base - at_) ++ old.drop (new.length - (base - at_))).take old.length

/-- Result, Length and Total of a header. -/
def completeHeader (h : Bytes) (a : Answer) : Bytes :=
  overlay (overlay (overlay h 0 10 (u16 a.result)) 0 16 (u16 a.value.length)) 0 20 (u32 a.total)

/-- A submitted slot is executed and completed. -/
def State.runSlot (s : State) (i : Nat) : State :=
  let g := s.gatewaySlot i
  let r := s.headed (.pcie i) g.header (g.value.take (hdLength g.header)) (headerOk g.header 4032)
  let t := r.2.setGateway i
    { owner := false, header := completeHeader g.header r.1, value := overlay g.value 0 0 r.1.value }
  if t.paths.ring.gatewayVector = 1 then t.emit (.msix 4) else t

/-- Owner is set: the slot is executed, or waits while the Keystone restarts. -/
def State.submitSlot (s : State) (i : Nat) : State :=
  if s.awake = false then s
  else if (s.gatewaySlot i).owner then s.bump Reg.gatewayWritesDiscarded
  else
    let s := s.setGateway i { s.gatewaySlot i with owner := true }
    if s.keystoneDown then s.holdBack (.slot i) else s.runSlot i

/-- GATEWAY_SUBMIT. -/
def execGatewaySubmit (slot : Nat) (s : State) : Host.Outcome State Fault Refusal :=
  s.onUnit "GATEWAY_SUBMIT" (gatewayOk slot) (s.submitSlot slot)

/-! ### BAR0 (R397, R429, R435) -/

/-- Some byte of a write of `n` bytes at `at_` lies in [lo, hi). -/
def touches (at_ n lo hi : Nat) : Bool := decide (at_ < hi ∧ lo < at_ + n)

/-- A write to a reserved offset. -/
def State.discardBar0 (s : State) : State := s.bump Reg.bar0WritesDiscarded

/-- A host write within a gateway slot: Header and Value are stored, and a 1 in Owner submits. -/
def State.writeSlotBytes (s : State) (i at_ : Nat) (b : Bytes) : State :=
  let g := s.gatewaySlot i
  if g.owner then s.bump Reg.gatewayWritesDiscarded
  else
    let s := if touches at_ b.length 4 8 || touches at_ b.length 0x20 0x40 then s.discardBar0 else s
    let s := s.setGateway i { g with header := overlay g.header 8 at_ b, value := overlay g.value 0x40 at_ b }
    if touches at_ b.length 3 4 && bit (byteAt b (3 - at_)) 7 then s.submitSlot i else s

/-- The notice ring's registers as they lie at BAR0 offset 0x0001_0000. -/
def Ring.image (r : Ring) : Bytes :=
  u64 r.base ++ u32 r.entries ++ u32 r.control ++ u32 r.producer ++ u32 r.consumer ++ u32 r.vectorMask ++ u32 r.gatewayVector ++
    u32 r.state

/-- A host write to the notice ring's registers: RingBase and RingEntries only while Enable is 0. -/
def State.writeRing (s : State) (at_ : Nat) (b : Bytes) : State :=
  if 0x24 ≤ at_ then s.discardBar0
  else
    let r := s.paths.ring
    let i := overlay r.image 0 at_ b
    let open_ : Bool := r.control == 0
    let s := s.mapRing fun r =>
      { r with
        base := if open_ then field i 0 8 else r.base,
        entries := if open_ then field i 8 4 else r.entries,
        consumer := field i 0x14 4,
        vectorMask := field i 0x18 4 % 8,
        gatewayVector := field i 0x1C 4 % 2 }
    if touches at_ b.length 0x0C 0x10 then s.writeRingControl (field i 0x0C 4) else s

/-- A host write to the MSI-X table. -/
def State.writeMsix (s : State) (at_ : Nat) (b : Bytes) : State :=
  s.mapPaths fun p =>
    { p with msix := (b.zipIdx).foldl (fun m e => Map.set m 0 (at_ + e.2) e.1.toNat) p.msix }

/-- A host write to BAR0. -/
def State.writeBar0 (s : State) (offset : Nat) (b : Bytes) : State :=
  if s.awake = false then s
  else if offset < 0x10000 then s.writeSlotBytes (offset / 0x1000) (offset % 0x1000) b
  else if offset < 0x11000 then s.writeRing (offset - 0x10000) b
  else if 0x20000 ≤ offset ∧ offset < 0x20400 then s.writeMsix (offset - 0x20000) b
  else if 0x21000 ≤ offset ∧ offset < 0x21008 then s
  else s.discardBar0

/-- A write of 1, 2, 4 or 8 bytes, aligned, inside BAR0. -/
def bar0Ok (offset length value : Nat) : Bool :=
  [1, 2, 4, 8].contains length && offset % length == 0 && decide (offset < 2 ^ 24 ∧ value < 2 ^ (8 * length))

/-- BAR0_WRITE. -/
def execBar0Write (offset length value : Nat) (s : State) : Host.Outcome State Fault Refusal :=
  s.onUnit "BAR0_WRITE" (bar0Ok offset length value) (s.writeBar0 offset (leBytes length value))

/-! ### After a Keystone restart (R516) -/

/-- One request that waited. -/
def State.runWaiting (s : State) (w : Waiting) : State :=
  match w with
  | .frame mac f => s.frameArrives mac f
  | .slot i => if (s.gatewaySlot i).owner then s.runSlot i else s
  | .write v index sub typ b => s.submit v 2 index sub typ 0 b.length true b
  | .request v op index sub typ offset total last b => s.submit v op index sub typ offset total last b

/-- The Keystone restart ends: the requests that waited are executed in order, and FirmwareActivated follows. -/
def State.endRestart (s : State) : State :=
  if s.awake ∧ s.keystoneDown then
    let course := s.start.firmwareAt.getD allOnes64
    let waiting := s.paths.waiting
    let s := s.restartDone.mapPaths fun p => { p with waiting := [] }
    (waiting.foldl State.runWaiting s).noticeActivated course
  else s

/-- KEYSTONE_RESTART_DONE. -/
def execKeystoneRestartDone (s : State) : Host.Outcome State Fault Refusal := s.done s.endRestart

end Sys2Proof.Machine
end

