-- ==== Sys2Proof/Machine/Dispatch.lean ====
section
/-! DEFINITION. One arm for each command: its meaning. -/

namespace Sys2Proof.Machine

def exec (i : Instr) (s : State) : Host.Outcome State Fault Refusal :=
  match i with
  | .courseStart => Sys2Proof.Machine.execCourseStart s
  | .epochCourse phase8 keeperOffset ber => Sys2Proof.Machine.execEpochCourse phase8 keeperOffset ber s
  | .referenceInvalid => Sys2Proof.Machine.execReferenceInvalid s
  | .courseSourceWrite v value => Sys2Proof.Machine.execCourseSourceWrite v value s
  | .courseLoad v value => Sys2Proof.Machine.execCourseLoad v value s
  | .courseMark port mark phase8 => Sys2Proof.Machine.execCourseMark port mark phase8 s
  | .parentReselect => Sys2Proof.Machine.execParentReselect s
  | .courseHoldover => Sys2Proof.Machine.execCourseHoldover s
  | .courseLocked => Sys2Proof.Machine.execCourseLocked s
  | .sourceReturn count phase8 => Sys2Proof.Machine.execSourceReturn count phase8 s
  | .phaseStep => Sys2Proof.Machine.execPhaseStep s
  | .leadCourse => Sys2Proof.Machine.execLeadCourse s
  | .delayProbe port roundTrip8 turnaround8 => Sys2Proof.Machine.execDelayProbe port roundTrip8 turnaround8 s
  | .dueCheck => Sys2Proof.Machine.execDueCheck s
  | .planStalled => Sys2Proof.Machine.execPlanStalled s
  | .restCourse => Sys2Proof.Machine.execRestCourse s
  | .linkRetry port lane => Sys2Proof.Machine.execLinkRetry port lane s
  | .tileReread consumer err => Sys2Proof.Machine.execTileReread consumer err s
  | .scrubStep unit bank claimed ecc => Sys2Proof.Machine.execScrubStep unit bank claimed ecc s
  | .pointingHousekeeping fits => Sys2Proof.Machine.execPointingHousekeeping fits s
  | .sensorSample fits reading => Sys2Proof.Machine.execSensorSample fits reading s
  | .maintenanceMicrostep cluster bytes => Sys2Proof.Machine.execMaintenanceMicrostep cluster bytes s
  | .launchCourseWrite v value => Sys2Proof.Machine.execLaunchCourseWrite v value s
  | .launch => Sys2Proof.Machine.execLaunch s
  | .launchRefused => Sys2Proof.Machine.execLaunchRefused s
  | .quoinCourse => Sys2Proof.Machine.execQuoinCourse s
  | .correctedThreshold cluster position => Sys2Proof.Machine.execCorrectedThreshold cluster position s
  | .substituteCore v value => Sys2Proof.Machine.execSubstituteCore v value s
  | .substitutionRegisterCopy cluster fits => Sys2Proof.Machine.execSubstitutionRegisterCopy cluster fits s
  | .substitutionSwap cluster => Sys2Proof.Machine.execSubstitutionSwap cluster s
  | .unitMapChange => Sys2Proof.Machine.execUnitMapChange s
  | .engineFlagsClear v cluster position engine value raised => Sys2Proof.Machine.execEngineFlagsClear v cluster position engine value raised s
  | .clearAllFlags v value raised => Sys2Proof.Machine.execClearAllFlags v value raised s
  | .nop q f => Sys2Proof.Machine.execNop q f s
  | .wait q f => Sys2Proof.Machine.execWait q f s
  | .plumb q f => Sys2Proof.Machine.execPlumb q f s
  | .plumbRelease core arrival => Sys2Proof.Machine.execPlumbRelease core arrival s
  | .callRoutine q f => Sys2Proof.Machine.execCallRoutine q f s
  | .ret q f => Sys2Proof.Machine.execRet q f s
  | .endBundle q f => Sys2Proof.Machine.execEndBundle q f s
  | .fmode q f => Sys2Proof.Machine.execFmode q f s
  | .bundleStart core queue => Sys2Proof.Machine.execBundleStart core queue s
  | .tset q f => Sys2Proof.Machine.execTset q f s
  | .tfill q f batch err => Sys2Proof.Machine.execTfill q f batch err s
  | .tileVerdict core engine => Sys2Proof.Machine.execTileVerdict core engine s
  | .suspensionEnd => Sys2Proof.Machine.execSuspensionEnd s
  | .mma q f batch => Sys2Proof.Machine.execMma q f batch s
  | .vrd q f => Sys2Proof.Machine.execVrd q f s
  | .addLane q f => Sys2Proof.Machine.execAddLane q f s
  | .subLane q f => Sys2Proof.Machine.execSubLane q f s
  | .mulLane q f => Sys2Proof.Machine.execMulLane q f s
  | .fma q f => Sys2Proof.Machine.execFma q f s
  | .divLane q f => Sys2Proof.Machine.execDivLane q f s
  | .sqrt q f => Sys2Proof.Machine.execSqrt q f s
  | .minLane q f => Sys2Proof.Machine.execMinLane q f s
  | .maxLane q f => Sys2Proof.Machine.execMaxLane q f s
  | .fn q f => Sys2Proof.Machine.execFn q f s
  | .tbl q f => Sys2Proof.Machine.execTbl q f s
  | .red q f => Sys2Proof.Machine.execRed q f s
  | .sqa q f => Sys2Proof.Machine.execSqa q f s
  | .rot q f => Sys2Proof.Machine.execRot q f s
  | .amax q f => Sys2Proof.Machine.execAmax q f s
  | .topk q f => Sys2Proof.Machine.execTopk q f s
  | .rng q f => Sys2Proof.Machine.execRng q f s
  | .cvt q f => Sys2Proof.Machine.execCvt q f s
  | .dup q f => Sys2Proof.Machine.execDup q f s
  | .ld q f ecc => Sys2Proof.Machine.execLd q f ecc s
  | .st q f => Sys2Proof.Machine.execSt q f s
  | .sta q f => Sys2Proof.Machine.execSta q f s
  | .ldi q f ecc => Sys2Proof.Machine.execLdi q f ecc s
  | .sti q f => Sys2Proof.Machine.execSti q f s
  | .wcol q f => Sys2Proof.Machine.execWcol q f s
  | .wrow q f => Sys2Proof.Machine.execWrow q f s
  | .fill q f => Sys2Proof.Machine.execFill q f s
  | .copy q f err => Sys2Proof.Machine.execCopy q f err s
  | .snd q f => Sys2Proof.Machine.execSnd q f s
  | .sndt q f err => Sys2Proof.Machine.execSndt q f err s
  | .due q f => Sys2Proof.Machine.execDue q f s
  | .tsig q f => Sys2Proof.Machine.execTsig q f s
  | .lva q f => Sys2Proof.Machine.execLva q f s
  | .rel q f => Sys2Proof.Machine.execRel q f s
  | .lp q f => Sys2Proof.Machine.execLp q f s
  | .setCount q f => Sys2Proof.Machine.execSetCount q f s
  | .addc q f => Sys2Proof.Machine.execAddc q f s
  | .kset q f => Sys2Proof.Machine.execKset q f s
  | .bk q f => Sys2Proof.Machine.execBk q f s
  | .wcrs q f => Sys2Proof.Machine.execWcrs q f s
  | .ao q f => Sys2Proof.Machine.execAo q f s
  | .twait q f => Sys2Proof.Machine.execTwait q f s
  | .lvw q f => Sys2Proof.Machine.execLvw q f s
  | .swapArm v value => Sys2Proof.Machine.execSwapArm v value s
  | .bankSwap => Sys2Proof.Machine.execBankSwap s
  | .handoffSwap cluster => Sys2Proof.Machine.execHandoffSwap cluster s
  | .trowelFault cluster cause => Sys2Proof.Machine.execTrowelFault cluster cause s
  | .slotClearingDone slot => Sys2Proof.Machine.execSlotClearingDone slot s
  | .slotStampingDone slot => Sys2Proof.Machine.execSlotStampingDone slot s
  | .edgeBlockFailure edge => Sys2Proof.Machine.execEdgeBlockFailure edge s
  | .edgeRetrain edge => Sys2Proof.Machine.execEdgeRetrain edge s
  | .flitReceived port lane slot flit fecOk corrected => Sys2Proof.Machine.execFlitReceived port lane slot flit fecOk corrected s
  | .lateFlitWrite port => Sys2Proof.Machine.execLateFlitWrite port s
  | .linkReport port lane word => Sys2Proof.Machine.execLinkReport port lane word s
  | .reportTimeout port lane course => Sys2Proof.Machine.execReportTimeout port lane course s
  | .relayForward port route flitIndex egress lane slot => Sys2Proof.Machine.execRelayForward port route flitIndex egress lane slot s
  | .laneDown port lane cause => Sys2Proof.Machine.execLaneDown port lane cause s
  | .laneRetrainDone port lane full ok => Sys2Proof.Machine.execLaneRetrainDone port lane full ok s
  | .retrain v port value => Sys2Proof.Machine.execRetrain v port value s
  | .partnerChange port deviceId partnerPort => Sys2Proof.Machine.execPartnerChange port deviceId partnerPort s
  | .pointingMessage port lane word => Sys2Proof.Machine.execPointingMessage port lane word s
  | .pointingResend port => Sys2Proof.Machine.execPointingResend port s
  | .signalArrival packet => Sys2Proof.Machine.execSignalArrival packet s
  | .levelArrival packet => Sys2Proof.Machine.execLevelArrival packet s
  | .levelRelease packet => Sys2Proof.Machine.execLevelRelease packet s
  | .ingressRecord qp window record => Sys2Proof.Machine.execIngressRecord qp window record s
  | .bar2Write offset data => Sys2Proof.Machine.execBar2Write offset data s
  | .planLoad v value => Sys2Proof.Machine.execPlanLoad v value s
  | .planLoaderDone schedule => Sys2Proof.Machine.execPlanLoaderDone schedule s
  | .planDiscard v value => Sys2Proof.Machine.execPlanDiscard v value s
  | .planHalt v value => Sys2Proof.Machine.execPlanHalt v value s
  | .planHalted => Sys2Proof.Machine.execPlanHalted s
  | .descriptor qp message => Sys2Proof.Machine.execDescriptor qp message s
  | .batchBuild => Sys2Proof.Machine.execBatchBuild s
  | .orderBatch qp message => Sys2Proof.Machine.execOrderBatch qp message s
  | .orderApply => Sys2Proof.Machine.execOrderApply s
  | .abortReport qp message => Sys2Proof.Machine.execAbortReport qp message s
  | .governorEvaluation unprocessed => Sys2Proof.Machine.execGovernorEvaluation unprocessed s
  | .tokenRecord record => Sys2Proof.Machine.execTokenRecord record s
  | .recordSend qp => Sys2Proof.Machine.execRecordSend qp s
  | .loadGeneration v value => Sys2Proof.Machine.execLoadGeneration v value s
  | .loadAdapter v value => Sys2Proof.Machine.execLoadAdapter v value s
  | .loadAbort v value => Sys2Proof.Machine.execLoadAbort v value s
  | .weightRecord => Sys2Proof.Machine.execWeightRecord s
  | .creditMessage message => Sys2Proof.Machine.execCreditMessage message s
  | .creditSend => Sys2Proof.Machine.execCreditSend s
  | .switchCourse v value => Sys2Proof.Machine.execSwitchCourse v value s
  | .generationSwitch => Sys2Proof.Machine.execGenerationSwitch s
  | .generationDiscard v value => Sys2Proof.Machine.execGenerationDiscard v value s
  | .adapterUnload v value => Sys2Proof.Machine.execAdapterUnload v value s
  | .trainingPhase port word => Sys2Proof.Machine.execTrainingPhase port word s
  | .trainingTimeout port => Sys2Proof.Machine.execTrainingTimeout port s
  | .portRoleMismatch port partnerRole partnerDevice => Sys2Proof.Machine.execPortRoleMismatch port partnerRole partnerDevice s
  | .ethFrame ingress frame => Sys2Proof.Machine.execEthFrame ingress frame s
  | .txSak v ingress value => Sys2Proof.Machine.execTxSak v ingress value s
  | .rxSak v ingress value => Sys2Proof.Machine.execRxSak v ingress value s
  | .rocePacket ingress qpn op icrcOk ce => Sys2Proof.Machine.execRocePacket ingress qpn op icrcOk ce s
  | .rdmaWrite qp address rkey data => Sys2Proof.Machine.execRdmaWrite qp address rkey data s
  | .qpConfig v value => Sys2Proof.Machine.execQpConfig v value s
  | .qpReset v value => Sys2Proof.Machine.execQpReset v value s
  | .qpRetryTimeout qp => Sys2Proof.Machine.execQpRetryTimeout qp s
  | .functionReset kind => Sys2Proof.Machine.execFunctionReset kind s
  | .claim node chainIn => Sys2Proof.Machine.execClaim node chainIn s
  | .confirm node serial => Sys2Proof.Machine.execConfirm node serial s
  | .claimTimeout => Sys2Proof.Machine.execClaimTimeout s
  | .deviceIdWrite v value => Sys2Proof.Machine.execDeviceIdWrite v value s
  | .dictionaryFrame mac frame => Sys2Proof.Machine.execDictionaryFrame mac frame s
  | .gatewaySubmit slot => Sys2Proof.Machine.execGatewaySubmit slot s
  | .readSegment v index sub typ offset => Sys2Proof.Machine.execReadSegment v index sub typ offset s
  | .registerWrite v index sub typ offset total last value => Sys2Proof.Machine.execRegisterWrite v index sub typ offset total last value s
  | .writeSegmentTimeout v => Sys2Proof.Machine.execWriteSegmentTimeout v s
  | .describe v index sub => Sys2Proof.Machine.execDescribe v index sub s
  | .nextEntry v index sub => Sys2Proof.Machine.execNextEntry v index sub s
  | .noticeRaise code cls source payload => Sys2Proof.Machine.execNoticeRaise code cls source payload s
  | .noticeSendChain => Sys2Proof.Machine.execNoticeSendChain s
  | .noticeRingWrite ok => Sys2Proof.Machine.execNoticeRingWrite ok s
  | .ringControl value => Sys2Proof.Machine.execRingControl value s
  | .powerRequest v value => Sys2Proof.Machine.execPowerRequest v value s
  | .powerTransitionStart => Sys2Proof.Machine.execPowerTransitionStart s
  | .powerTransitionDone => Sys2Proof.Machine.execPowerTransitionDone s
  | .sleepEntry => Sys2Proof.Machine.execSleepEntry s
  | .wakeAtCourse => Sys2Proof.Machine.execWakeAtCourse s
  | .chainWakeFrame dest frame => Sys2Proof.Machine.execChainWakeFrame dest frame s
  | .wakeNLow => Sys2Proof.Machine.execWakeNLow s
  | .supplyLow lowest => Sys2Proof.Machine.execSupplyLow lowest s
  | .supplyReturn => Sys2Proof.Machine.execSupplyReturn s
  | .overVoltage => Sys2Proof.Machine.execOverVoltage s
  | .sleepTempEvent => Sys2Proof.Machine.execSleepTempEvent s
  | .woken source => Sys2Proof.Machine.execWoken source s
  | .thermalShutdown => Sys2Proof.Machine.execThermalShutdown s
  | .coolantFlowLow => Sys2Proof.Machine.execCoolantFlowLow s
  | .attestNonce v value => Sys2Proof.Machine.execAttestNonce v value s
  | .attestComplete => Sys2Proof.Machine.execAttestComplete s
  | .spdmRequest request => Sys2Proof.Machine.execSpdmRequest request s
  | .ownerEnroll v value => Sys2Proof.Machine.execOwnerEnroll v value s
  | .ownerChange v value => Sys2Proof.Machine.execOwnerChange v value s
  | .lifecycleToken v value => Sys2Proof.Machine.execLifecycleToken v value s
  | .debugRequest v value => Sys2Proof.Machine.execDebugRequest v value s
  | .debugToken v value => Sys2Proof.Machine.execDebugToken v value s
  | .debugRead v => Sys2Proof.Machine.execDebugRead v s
  | .debugWrite v value => Sys2Proof.Machine.execDebugWrite v value s
  | .traceStart => Sys2Proof.Machine.execTraceStart s
  | .securityVersionCommit v value => Sys2Proof.Machine.execSecurityVersionCommit v value s
  | .notafterPassed => Sys2Proof.Machine.execNotafterPassed s
  | .bondModeWrite v value => Sys2Proof.Machine.execBondModeWrite v value s
  | .bondYield v value => Sys2Proof.Machine.execBondYield v value s
  | .heartbeat bond lane word => Sys2Proof.Machine.execHeartbeat bond lane word s
  | .partnerLost => Sys2Proof.Machine.execPartnerLost s
  | .bondReport qp message => Sys2Proof.Machine.execBondReport qp message s
  | .bondTakeover => Sys2Proof.Machine.execBondTakeover s
  | .bondTakenOver => Sys2Proof.Machine.execBondTakenOver s
  | .mirrorRecord record => Sys2Proof.Machine.execMirrorRecord record s
  | .mirrorBufferFull => Sys2Proof.Machine.execMirrorBufferFull s
  | .bondDegraded => Sys2Proof.Machine.execBondDegraded s
  | .resyncDone => Sys2Proof.Machine.execResyncDone s
  | .repairRequest port granule => Sys2Proof.Machine.execRepairRequest port granule s
  | .repairTile granule tile => Sys2Proof.Machine.execRepairTile granule tile s
  | .repairTimeout => Sys2Proof.Machine.execRepairTimeout s
  | .noRepairSource => Sys2Proof.Machine.execNoRepairSource s
  | .damageReport qp message => Sys2Proof.Machine.execDamageReport qp message s
  | .firmwareActivate v value => Sys2Proof.Machine.execFirmwareActivate v value s
  | .firmwareActivation => Sys2Proof.Machine.execFirmwareActivation s
  | .keystoneRestartDone => Sys2Proof.Machine.execKeystoneRestartDone s
  | .patchLoad v value => Sys2Proof.Machine.execPatchLoad v value s
  | .patchActivate v value => Sys2Proof.Machine.execPatchActivate v value s
  | .patchSwap => Sys2Proof.Machine.execPatchSwap s
  | .retireCluster v value => Sys2Proof.Machine.execRetireCluster v value s
  | .maintenanceRelease => Sys2Proof.Machine.execMaintenanceRelease s
  | .attemptStart failing => Sys2Proof.Machine.execAttemptStart failing s
  | .resetN low => Sys2Proof.Machine.execResetN low s
  | .pwrGoodDeassert => Sys2Proof.Machine.execPwrGoodDeassert s
  | .powerLoss => Sys2Proof.Machine.execPowerLoss s
  | .startConfirmed => Sys2Proof.Machine.execStartConfirmed s
  | .startFailed reason detail => Sys2Proof.Machine.execStartFailed reason detail s
  | .startRetry v value => Sys2Proof.Machine.execStartRetry v value s
  | .slotSelect v value => Sys2Proof.Machine.execSlotSelect v value s
  | .slotImage v value => Sys2Proof.Machine.execSlotImage v value s
  | .slotStage v value => Sys2Proof.Machine.execSlotStage v value s
  | .diagnosticRun v value failing => Sys2Proof.Machine.execDiagnosticRun v value failing s
  | .clearWithheld v value => Sys2Proof.Machine.execClearWithheld v value s
  | .hardFault kind unit => Sys2Proof.Machine.execHardFault kind unit s
  | .planStop => Sys2Proof.Machine.execPlanStop s
  | .storeStuck address => Sys2Proof.Machine.execStoreStuck address s
  | .fatalFault cause => Sys2Proof.Machine.execFatalFault cause s
  | .bar0Write offset length value => Sys2Proof.Machine.execBar0Write offset length value s
  | .ingressLinkChange ingress up => Sys2Proof.Machine.execIngressLinkChange ingress up s
  | .pcieLinkChange state rate width => Sys2Proof.Machine.execPcieLinkChange state rate width s
  | .ideKmExchange active => Sys2Proof.Machine.execIdeKmExchange active s
  | .edgeLossOfLock edge => Sys2Proof.Machine.execEdgeLossOfLock edge s
  | .edgeRetrainDone edge => Sys2Proof.Machine.execEdgeRetrainDone edge s
  | .spareFault cluster => Sys2Proof.Machine.execSpareFault cluster s
  | .trowelRestartDone cluster => Sys2Proof.Machine.execTrowelRestartDone cluster s

end Sys2Proof.Machine
end

