-- ==== Sys2Proof/Safety.lean ====
section
/-! DEFINITION. What a sound state is: the invariant of the block that every command keeps. -/

namespace Sys2Proof.Machine

/-- Each path of notices holds at most 1,024 (R437). -/
def Paths.bounded (p : Paths) : Bool := decide (p.chainQueue.length ≤ 1024) && decide (p.ringQueue.length ≤ 1024)

/-- A sound state: both addressed memories are in their one canonical form, and neither queue of notices exceeds its
bound. -/
def State.sound (s : State) : Bool := s.mem.wf && s.staging.wf && s.paths.bounded

/-- The fields of an instruction, a routine's parameters substituted (R165). -/
def State.fieldsOf (s : State) (q : Issue) (f : Fields) (sh : Shape) : Fields :=
  resolveFields f sh (s.queueOf q).calls.head?

/-- An instruction that its queue runs: the loader admits its word there (R137, R138, R166), and its queue issues in this
course (`State.queueHeld`). -/
def State.runs (s : State) (q : Issue) (f : Fields) (sh : Shape) (ok : Fields → Bool) : Bool :=
  let g := s.fieldsOf q f sh
  q.ok && f.ok && sh.legal q g && sh.hodsAllowed (s.queueOf q).calls.head? q.queue f && ok g && !s.queueHeld q

/-- The hod holds `n` entries to pop. -/
def State.holds (s : State) (core h n : Nat) : Bool := decide (n ≤ ((s.core core).hod h).length)

/-- The oldest `n` entries of a hod. -/
def State.front (s : State) (core h n : Nat) : List Bytes := ((s.core core).hod h).take n

/-- The state after the oldest `n` entries of a hod are popped. -/
def State.popped (s : State) (core h n : Nat) : State :=
  s.setCore core ((s.core core).setHod h (((s.core core).hod h).drop n))

/-- The codes and flags of `c` lane vectors, chunk by chunk. -/
def chunksOf (flush : Bool) (fmt c : Nat) (es : List Bytes) : List (List Nat) × Nat :=
  let n := laneEntries fmt
  let l := (List.range c).map fun i => widenAll flush fmt ((es.drop (n * i)).take n)
  (l.map (·.1), l.foldl (fun a x => a ||| x.2) 0)

/-- Operand B of a V instruction (R153) leaves state `v` with codes `b` and flags `fl`: a lane vector of hod SrcB, or
with Flags [32] one FP32 scalar for every lane. -/
structure State.takesB (s : State) (q : Issue) (g : Fields) (v : State) (b : List Nat) (fl : Nat) : Prop where
  takes :
    (flagOf g 0 = false ∧ s.holds q.core g.srcB (laneEntries g.fmt) = true ∧
      v = s.popped q.core g.srcB (laneEntries g.fmt) ∧
      b = (widenAll (v.vFlush q.core) g.fmt (s.front q.core g.srcB (laneEntries g.fmt))).1 ∧
      fl = (widenAll (v.vFlush q.core) g.fmt (s.front q.core g.srcB (laneEntries g.fmt))).2) ∨
    (flagOf g 0 = true ∧ s.holds q.core g.srcB 1 = true ∧ v = s.popped q.core g.srcB 1 ∧
      b = List.replicate 128 (widen (v.vFlush q.core) 0 (field ((s.front q.core g.srcB 1).headD []) 0 4)).1 ∧
      fl = (widen (v.vFlush q.core) 0 (field ((s.front q.core g.srcB 1).headD []) 0 4)).2)

/-- The module serves a write of a whole value and no check of R419 refuses it: the request reaches its entry. A BOOL
action entry written 0 does not (R414). -/
def State.grants (s : State) (v : Via) (index sub typ : Nat) (value : Bytes) : Bool :=
  !s.keystoneDown && s.serves v &&
    (match (s.countRequest v).judgeAccess v index sub typ true (some value.length) with
      | (_, none) => false
      | (_, some e) => valueOk e index sub value && !(e.typ == 7 && e.access == 2 && leVal value == 0))

/-- The same for a value that is a number of the entry's type. -/
def State.grantsNumber (s : State) (v : Via) (index sub typ value : Nat) : Bool :=
  decide (value < 2 ^ (8 * typeLength typ)) && s.grants v index sub typ (leBytes (typeLength typ) value)

/-- The answer Ok to a request (R420, R444). -/
def State.answerOk (s : State) (v : Via) : State := s.emit (.response v rcOk [])

end Sys2Proof.Machine

namespace Sys2Proof

/-- Commands that can write a store or the staging area: the moves, the arrival of data, the restarts that clear the
stores, and every access through the dictionary, since a requester can order any of these by it. -/
def Instr.storing (c : Instr) : Bool :=
  match c with
  | .courseStart => true
  | .epochCourse _ _ _ => false
  | .referenceInvalid => false
  | .courseSourceWrite _ _ => false
  | .courseLoad _ _ => false
  | .courseMark _ _ _ => false
  | .parentReselect => false
  | .courseHoldover => false
  | .courseLocked => false
  | .sourceReturn _ _ => false
  | .phaseStep => false
  | .leadCourse => false
  | .delayProbe _ _ _ => false
  | .dueCheck => false
  | .planStalled => false
  | .restCourse => false
  | .linkRetry _ _ => false
  | .tileReread _ _ => true
  | .scrubStep _ _ _ _ => true
  | .pointingHousekeeping _ => false
  | .sensorSample _ _ => false
  | .maintenanceMicrostep _ _ => false
  | .launchCourseWrite _ _ => false
  | .launch => true
  | .launchRefused => false
  | .quoinCourse => false
  | .correctedThreshold _ _ => false
  | .substituteCore _ _ => false
  | .substitutionRegisterCopy _ _ => false
  | .substitutionSwap _ => false
  | .unitMapChange => true
  | .engineFlagsClear _ _ _ _ _ _ => false
  | .clearAllFlags _ _ _ => false
  | .nop _ _ => false
  | .wait _ _ => false
  | .plumb _ _ => false
  | .plumbRelease _ _ => false
  | .callRoutine _ _ => true
  | .ret _ _ => false
  | .endBundle _ _ => false
  | .fmode _ _ => false
  | .bundleStart _ _ => false
  | .tset _ _ => false
  | .tfill _ _ _ _ => true
  | .tileVerdict _ _ => false
  | .suspensionEnd => false
  | .mma _ _ _ => false
  | .vrd _ _ => false
  | .addLane _ _ => false
  | .subLane _ _ => false
  | .mulLane _ _ => false
  | .fma _ _ => false
  | .divLane _ _ => false
  | .sqrt _ _ => false
  | .minLane _ _ => false
  | .maxLane _ _ => false
  | .fn _ _ => false
  | .tbl _ _ => true
  | .red _ _ => false
  | .sqa _ _ => false
  | .rot _ _ => false
  | .amax _ _ => false
  | .topk _ _ => false
  | .rng _ _ => false
  | .cvt _ _ => false
  | .dup _ _ => false
  | .ld _ _ _ => true
  | .st _ _ => true
  | .sta _ _ => true
  | .ldi _ _ _ => true
  | .sti _ _ => true
  | .wcol _ _ => true
  | .wrow _ _ => true
  | .fill _ _ => true
  | .copy _ _ _ => true
  | .snd _ _ => true
  | .sndt _ _ _ => true
  | .due _ _ => false
  | .tsig _ _ => false
  | .lva _ _ => false
  | .rel _ _ => false
  | .lp _ _ => false
  | .setCount _ _ => false
  | .addc _ _ => false
  | .kset _ _ => false
  | .bk _ _ => false
  | .wcrs _ _ => false
  | .ao _ _ => false
  | .twait _ _ => false
  | .lvw _ _ => false
  | .swapArm _ _ => false
  | .bankSwap => false
  | .handoffSwap _ => true
  | .trowelFault _ _ => false
  | .slotClearingDone _ => true
  | .slotStampingDone _ => true
  | .edgeBlockFailure _ => false
  | .edgeRetrain _ => false
  | .flitReceived _ _ _ _ _ _ => true
  | .lateFlitWrite _ => true
  | .linkReport _ _ _ => false
  | .reportTimeout _ _ _ => false
  | .relayForward _ _ _ _ _ _ => true
  | .laneDown _ _ _ => false
  | .laneRetrainDone _ _ _ _ => false
  | .retrain _ _ _ => false
  | .partnerChange _ _ _ => false
  | .pointingMessage _ _ _ => false
  | .pointingResend _ => false
  | .signalArrival _ => false
  | .levelArrival _ => false
  | .levelRelease _ => false
  | .ingressRecord _ _ _ => true
  | .bar2Write _ _ => true
  | .planLoad _ _ => false
  | .planLoaderDone _ => true
  | .planDiscard _ _ => false
  | .planHalt _ _ => false
  | .planHalted => false
  | .descriptor _ _ => false
  | .batchBuild => false
  | .orderBatch _ _ => false
  | .orderApply => false
  | .abortReport _ _ => false
  | .governorEvaluation _ => false
  | .tokenRecord _ => false
  | .recordSend _ => false
  | .loadGeneration _ _ => false
  | .loadAdapter _ _ => false
  | .loadAbort _ _ => false
  | .weightRecord => true
  | .creditMessage _ => false
  | .creditSend => false
  | .switchCourse _ _ => false
  | .generationSwitch => false
  | .generationDiscard _ _ => false
  | .adapterUnload _ _ => true
  | .trainingPhase _ _ => false
  | .trainingTimeout _ => false
  | .portRoleMismatch _ _ _ => false
  | .ethFrame _ _ => false
  | .txSak _ _ _ => false
  | .rxSak _ _ _ => false
  | .rocePacket _ _ _ _ _ => true
  | .rdmaWrite _ _ _ _ => true
  | .qpConfig _ _ => false
  | .qpReset _ _ => false
  | .qpRetryTimeout _ => false
  | .functionReset _ => false
  | .claim _ _ => false
  | .confirm _ _ => false
  | .claimTimeout => false
  | .deviceIdWrite _ _ => false
  | .dictionaryFrame _ _ => true
  | .gatewaySubmit _ => true
  | .readSegment _ _ _ _ _ => true
  | .registerWrite _ _ _ _ _ _ _ _ => true
  | .writeSegmentTimeout _ => false
  | .describe _ _ _ => true
  | .nextEntry _ _ _ => true
  | .noticeRaise _ _ _ _ => false
  | .noticeSendChain => false
  | .noticeRingWrite _ => false
  | .ringControl _ => false
  | .powerRequest _ _ => false
  | .powerTransitionStart => false
  | .powerTransitionDone => false
  | .sleepEntry => true
  | .wakeAtCourse => false
  | .chainWakeFrame _ _ => false
  | .wakeNLow => false
  | .supplyLow _ => true
  | .supplyReturn => false
  | .overVoltage => true
  | .sleepTempEvent => false
  | .woken _ => true
  | .thermalShutdown => true
  | .coolantFlowLow => false
  | .attestNonce _ _ => false
  | .attestComplete => false
  | .spdmRequest _ => false
  | .ownerEnroll _ _ => false
  | .ownerChange _ _ => false
  | .lifecycleToken _ _ => false
  | .debugRequest _ _ => false
  | .debugToken _ _ => false
  | .debugRead _ => true
  | .debugWrite _ _ => true
  | .traceStart => false
  | .securityVersionCommit _ _ => false
  | .notafterPassed => false
  | .bondModeWrite _ _ => false
  | .bondYield _ _ => false
  | .heartbeat _ _ _ => false
  | .partnerLost => false
  | .bondReport _ _ => false
  | .bondTakeover => false
  | .bondTakenOver => false
  | .mirrorRecord _ => true
  | .mirrorBufferFull => false
  | .bondDegraded => false
  | .resyncDone => false
  | .repairRequest _ _ => false
  | .repairTile _ _ => true
  | .repairTimeout => false
  | .noRepairSource => false
  | .damageReport _ _ => false
  | .firmwareActivate _ _ => false
  | .firmwareActivation => false
  | .keystoneRestartDone => true
  | .patchLoad _ _ => false
  | .patchActivate _ _ => false
  | .patchSwap => false
  | .retireCluster _ _ => false
  | .maintenanceRelease => false
  | .attemptStart _ => true
  | .resetN _ => true
  | .pwrGoodDeassert => true
  | .powerLoss => true
  | .startConfirmed => false
  | .startFailed _ _ => true
  | .startRetry _ _ => true
  | .slotSelect _ _ => false
  | .slotImage _ _ => false
  | .slotStage _ _ => false
  | .diagnosticRun _ _ _ => true
  | .clearWithheld _ _ => false
  | .hardFault _ _ => false
  | .planStop => true
  | .storeStuck _ => false
  | .fatalFault _ => true
  | .bar0Write _ _ _ => true
  | .ingressLinkChange _ _ => false
  | .pcieLinkChange _ _ _ => false
  | .ideKmExchange _ => false
  | .edgeLossOfLock _ => false
  | .edgeRetrainDone _ => false
  | .spareFault _ => false
  | .trowelRestartDone _ => false

end Sys2Proof
end

