-- ==== Sys2Proof/Certificates/Slice0/Obligations.lean ====
section
/-! DEFINITION. The statements for the provers. -/

open Sys2Proof Sys2Proof.Machine

/-- With a command at the front of the queue of waiting commands, a step is that command's effect on the state whose
queue is the rest. With no command waiting a step leaves the whole state as it is. That commands wait in a queue,
and the idle step, are the model's own form (DESIGN CHOICE, assumption 1) (spec/13_parameter_dictionary.md,
spec/95_what_each_step_holds.md). -/
def Obligations.StepRunsFront : Prop :=
  (∀ (c : Instr) (rest : List Instr) (s : State),
    step { s with pending := c :: rest } = exec c { s with pending := rest }) ∧
    (∀ s : State, s.pending = [] → step s = .next s)

/-- When a command answers a next state, the queue of waiting commands is as it was: only a step takes from it
(spec/13_parameter_dictionary.md, spec/95_what_each_step_holds.md). -/
def Obligations.CommandsKeepQueue : Prop :=
  ∀ (c : Instr) (s t : State), exec c s = .next t → t.pending = s.pending

/-- No command ends in a fault: each takes effect or is refused, and a refusal is one of two, an instruction word
that the loader refuses or a unit that the part does not have (R68, R79, R137, R138, R432,
spec/02_bricks_clusters_grades.md). -/
def Obligations.CommandsEnd : Prop :=
  ∀ (c : Instr) (s : State),
    (∃ t, exec c s = .next t) ∨ (∃ m, exec c s = .refused (.invalidInstruction m)) ∨
      (∃ m, exec c s = .refused (.noSuchUnit m))

/-- After reset both addressed memories are in their canonical form and both queues of notices are within their
bound; every register holds its default, every byte of every store reads 0, the count is not known, so that a stamp
reads all ones, no plan is there and no command waits. A default that the spec calls per part, per firmware or per
start is a value the model names (assumption 4) (R417, R208, R8, R437, spec/13_parameter_dictionary.md,
spec/06_stores_and_tiles.md). -/
def Obligations.ResetState : Prop :=
  State.reset.sound = true ∧ State.reset.pending = [] ∧
    (∀ r : RegId, State.reset.reg r = r.dflt) ∧
    (∀ a n : Nat, State.reset.mem.read a n = List.replicate n 0) ∧
    State.reset.stamp = 0xFFFFFFFFFFFFFFFF ∧ State.reset.prog.running = false ∧
    State.reset.plan.loaded = none ∧ State.reset.plan.running = none

/-- From every sound state every step that answers a next state answers a sound one: the stores and the staging area
stay in their canonical form, whatever a command writes to them, and neither queue of notices comes to hold more
than 1,024 (R437, R181, R398, spec/13_parameter_dictionary.md, spec/06_stores_and_tiles.md). -/
def Obligations.SoundKept : Prop :=
  ∀ s t : State, s.sound = true → step s = .next t → t.sound = true

/-- A command that is none of those that move data into a store, restart the module or let a requester do so leaves
every byte of every store, and every byte of the staging area, as it was (R181, R398, spec/06_stores_and_tiles.md,
spec/12_ports_and_host_links.md). -/
def Obligations.StoresLeftAlone : Prop :=
  ∀ (c : Instr) (s t : State), c.storing = false → exec c s = .next t →
    ∀ a, t.mem.byte a = s.mem.byte a ∧ t.staging.byte a = s.staging.byte a

/-- An instruction whose word the loader admits, on a queue that is not held, issues and the queue advances; NOP
does no more, WAIT takes its queue for Imm plan cycles, PLUMB leaves the queue held with its mark and mask from this
cycle on, FMODE sets the flush bit once its array has done what the cycles so far bring, RET ends the innermost
routine and END the bundle (R135, R146, R147, R148, R165, R137, R138). -/
def Obligations.QueueInstructionsRun : Prop :=
  ∀ (q : Issue) (f : Fields) (s : State),
    (s.runs q f (bare allQueues) anyFields = true → exec (.nop q f) s = .next ((s.issue q 0x00).advance q)) ∧
    (s.runs q f (immOnly allQueues 0x1FFFFF) (fun g => decide (1 ≤ g.imm ∧ g.imm ≤ 2 ^ 20)) = true →
      let g := s.fieldsOf q f (immOnly allQueues 0x1FFFFF)
      exec (.wait q f) s = .next (((s.issue q 0x01).occupy q g.imm).advance q)) ∧
    (s.runs q f (immOnly allQueues 0xFFFF00FF)
        (fun g => bit g.imm q.queue && (bitList 8 g.imm).all (hasQueue q.core) && (s.queueOf q).calls.isEmpty) = true →
      let g := s.fieldsOf q f (immOnly allQueues 0xFFFF00FF)
      let u := s.issue q 0x02
      exec (.plumb q f) s =
        .next ((u.setQueueOf q { u.queueOf q with plumb := some (g.imm / 2 ^ 16, g.imm % 256), plumbAt := u.planCycle q }).advance q)) ∧
    (s.runs q f { bare allQueues with flags := 1 } anyFields = true →
      let g := s.fieldsOf q f { bare allQueues with flags := 1 }
      let u := if q.queue < 4 then (s.issue q 0x06).runToNow q else s.issue q 0x06
      exec (.fmode q f) s = .next ((u.setQueueOf q { u.queueOf q with flush := flagOf g 0 }).advance q)) ∧
    (s.runs q f (bare engineQueues) (fun _ => !(s.queueOf q).calls.isEmpty && s.scratchEmpty q) = true →
      let u := s.issue q 0x04
      exec (.ret q f) s = .next ((u.setQueueOf q { u.queueOf q with calls := (u.queueOf q).calls.drop 1 }).advance q)) ∧
    (s.runs q f (bare engineQueues) (fun _ => (s.queueOf q).calls.isEmpty) = true →
      let u := s.issue q 0x05
      exec (.endBundle q f) s = .next ((u.setQueueOf q { u.queueOf q with bundle := none }).advance q))

/-- CALL counts a call of its cluster. Routine 0 only takes its queue for the routine's cycles; a routine above
those that R168 fixes puts itself, with the caller's three hods, its format and its parameter word, on the queue's
calls, of which `ret` ends one (R165, R168). -/
def Obligations.RoutineCalls : Prop :=
  ∀ (q : Issue) (f : Fields) (s : State) (sh : Shape),
    sh = { queues := engineQueues, fmts := List.range 16, dst := .hod, srcA := .hod, srcB := .hod, flags := 0,
           imm := 0xFFFFFFFF } →
    s.runs q f sh (s.callOk q) = true →
    let g := s.fieldsOf q f sh
    let u := (s.issue q 0x03).bump (Reg.calls (coreCluster q.core))
    (callNumber g = 0 → exec (.callRoutine q f) s = .next ((u.occupy q (u.callCycles 0 (callWord g))).advance q)) ∧
    (0x100 ≤ callNumber g →
      exec (.callRoutine q f) s =
        .next ((u.setQueueOf q { u.queueOf q with
          calls := ⟨callNumber g, g.dst, g.srcA, g.srcB, g.fmt, callWord g⟩ :: (u.queueOf q).calls }).advance q))

/-- REL appends the bundle to the release list of a queue; BUNDLE_START starts the oldest released bundle of an idle
queue; PLUMB_RELEASE lets every queue of a plumb's mask go on in the next cycle once all of them are held at that
mark and mask, and counts the cycles for which they were held (R134, R146, R164). -/
def Obligations.BundlesAndPlumbs : Prop :=
  (∀ (q : Issue) (f : Fields) (s : State),
    s.runs q f (qShape .num .unused .unused 0 0xFFF)
        (fun g => below g.dst 7 && hasQueue q.core g.dst && below (s.queueOf (queueAt q.core g.dst)).released.length 4) = true →
    let g := s.fieldsOf q f (qShape .num .unused .unused 0 0xFFF)
    let u := s.issue q 0x60
    let x := u.queueOf (queueAt q.core g.dst)
    exec (.rel q f) s =
      .next ((u.setQueueOf (queueAt q.core g.dst) { x with released := x.released ++ [g.imm] }).advance q)) ∧
  (∀ (core queue b : Nat) (r : List Nat) (s : State), core < 1024 → queue < 7 → s.issues = true →
    (s.queueOf (queueAt core queue)).bundle = none → (s.queueOf (queueAt core queue)).released = b :: r →
    exec (.bundleStart core queue) s =
      .next (s.setQueueOf (queueAt core queue)
        { (s.queueOf (queueAt core queue)) with bundle := some b, released := r, index := b })) ∧
  (∀ (core mark cycle : Nat) (i : Nat) (mask : Nat) (s : State), core < 1024 → mark < 2 ^ 16 → cycle < 512 →
    s.issues = true →
    allQueues.find? (fun j => ((s.core core).queue j).plumb.any fun p => p.1 == mark && (s.core core).arrived mark p.2) =
      some i →
    ((s.core core).queue i).plumb = some (mark, mask) →
    let position := s.prog.course * 512 + cycle
    exec (.plumbRelease core ⟨mark, cycle⟩) s =
      .next ((s.setCore core ((bitList 8 mask).foldl
          (fun c j => c.setQueue j { c.queue j with plumb := none, busy := position + 1 }) (s.core core))).bumpBy
        (Reg.plumbHeldCycles (coreCluster core))
        ((bitList 8 mask).foldl (fun n j => n + (position - ((s.core core).queue j).plumbAt)) 0)))

/-- SET writes a count register with Imm; ADDC writes one with C[SrcA] plus Imm modulo 2³²; KSET configures a
comparator; LP starts a loop of the next Imm instructions, or skips them when the count is 0; BK branches when the
comparator has the value of Flags [32]; WCRS waits for a later plan cycle; AO sets the offset of a queue, from two
cycles on, to the signed product modulo 2²⁵ (R160, R161, R162, R164, R145). -/
def Obligations.SequencerCounts : Prop :=
  ∀ (q : Issue) (f : Fields) (s : State),
    (s.runs q f (qShape .num .unused .unused 0 0xFFFFFFFF) (fun g => below g.dst 16) = true →
      let g := s.fieldsOf q f (qShape .num .unused .unused 0 0xFFFFFFFF)
      exec (.setCount q f) s = .next (((s.issue q 0x62).mapSeq q.core fun x =>
        { x with counts := Map.set x.counts 0 g.dst g.imm }).advance q)) ∧
    (s.runs q f (qShape .num .num .unused 0 0xFFFFFFFF) (fun g => below g.dst 16 && below g.srcA 16) = true →
      let g := s.fieldsOf q f (qShape .num .num .unused 0 0xFFFFFFFF)
      exec (.addc q f) s = .next (((s.issue q 0x63).mapSeq q.core fun x =>
        { x with counts := Map.set x.counts 0 g.dst ((Map.get x.counts 0 g.srcA + g.imm) % 2 ^ 32) }).advance q)) ∧
    (s.runs q f (qShape .num .num .num 7 0xFFFF)
        (fun g => below g.dst 8 && below g.srcA 16 && below g.srcB 16 && (flagOf g 2 || g.imm == 0) &&
          (!flagOf g 2 || g.srcB == 0)) = true →
      let g := s.fieldsOf q f (qShape .num .num .num 7 0xFFFF)
      exec (.kset q f) s = .next (((s.issue q 0x64).mapSeq q.core fun x =>
        { x with
          comparators := Map.set x.comparators Comparator.clear g.dst
            (Comparator.mk g.srcA g.srcB g.imm (g.flags % 4) (flagOf g 2)) }).advance q)) ∧
    (s.runs q f (qShape .num .num .unused 8 0xFFF)
        (fun g => below g.dst 8 && below g.srcA 16 && (flagOf g 3 || g.dst == 0) &&
          below (s.core q.core).seq.loops.length 4 &&
          (s.core q.core).seq.inBody ((s.queueOf q).index + 1 + g.imm)) = true →
      let g := s.fieldsOf q f (qShape .num .num .unused 8 0xFFF)
      let u := s.issue q 0x61
      let n := u.count q.core g.srcA
      let i := (u.queueOf q).index
      (n = 0 ∨ g.imm = 0 →
        exec (.lp q f) s = .next ((u.setQueueOf q { u.queueOf q with index := i + g.imm }).advance q)) ∧
      (n ≠ 0 → g.imm ≠ 0 →
        exec (.lp q f) s = .next ((u.mapSeq q.core fun x =>
          { x with loops := { start := i + 1, length := g.imm, left := n,
                              until_ := if flagOf g 3 then some g.dst else none } :: x.loops }).advance q))) ∧
    (s.runs q f (qShape .num .unused .unused 1 0xFFF) (fun g =>
        below g.dst 8 && below (s.queueOf q).index g.imm && (s.core q.core).seq.inBody g.imm) = true →
      let g := s.fieldsOf q f (qShape .num .unused .unused 1 0xFFF)
      let u := s.issue q 0x65
      ((u.core q.core).seq.holds g.dst = flagOf g 0 →
        exec (.bk q f) s = .next ((u.setQueueOf q { u.queueOf q with index := g.imm - 1 }).advance q)) ∧
      ((u.core q.core).seq.holds g.dst ≠ flagOf g 0 → exec (.bk q f) s = .next (u.advance q))) ∧
    (s.runs q f (qShape .unused .unused .unused 0 0xFFFF01FF)
        (fun g => decide (q.cycle < g.imm / 2 ^ 16 * 512 + g.imm % 512)) = true →
      let g := s.fieldsOf q f (qShape .unused .unused .unused 0 0xFFFF01FF)
      exec (.wcrs q f) s = .next (((s.issue q 0x66).mapSeq q.core fun x =>
        { x with until_ := (s.prog.course + g.imm / 2 ^ 16, g.imm % 512) }).advance q)) ∧
    (s.runs q f (qShape .num .num .unused 0 0x1FFFFFF)
        (fun g => (below g.dst 4 || g.dst == 5 || g.dst == 6) && hasQueue q.core g.dst && below g.srcA 16) = true →
      let g := s.fieldsOf q f (qShape .num .num .unused 0 0x1FFFFFF)
      let u := s.issue q 0x67
      exec (.ao q f) s = .next ((u.setQueueOf (queueAt q.core g.dst)
        ((u.queueOf (queueAt q.core g.dst)).setAo (u.planCycle q)
          (ofSigned 25 ((u.count q.core g.srcA : Int) * toSigned 25 g.imm)))).advance q))

/-- TWAIT marks its wait slot in the tie's Waiters, fills the lowest free of the eight wait slots and declares the
tie condition, and LVW does the same with a level's completion, as an input that is due in the present plan course
and slips with cause 1 (R164, R258, R266, R23, R25). -/
def Obligations.SequencerWaits : Prop :=
  ∀ (q : Issue) (f : Fields) (s : State),
    (s.runs q f (qShape .unused .num .unused 1 0x3F)
        (fun g => below g.srcA 16 && (s.core q.core).seq.freeWait.isSome) = true →
      let k := (s.core q.core).seq.freeWait.getD 0
      let g := s.fieldsOf q f (qShape .unused .num .unused 1 0x3F)
      let u := s.issue q 0x68
      let v := u.count q.core g.srcA
      let t := u.tie q.core g.imm
      exec (.twait q f) s = .next ((((u.setTie q.core g.imm { t with waiters := t.waiters ||| 2 ^ k }).mapSeq q.core fun x =>
          { x with waits := Map.put x.waits k (.tie g.imm v (flagOf g 0)) }).mapProg fun p =>
            { p with inputs := p.inputs ++ [⟨.tie q.core g.imm v (flagOf g 0), p.course, 1⟩] }).advance q)) ∧
    (s.runs q f (qShape .unused .unused .unused 0 0xFF) (fun _ => (s.core q.core).seq.freeWait.isSome) = true →
      let k := (s.core q.core).seq.freeWait.getD 0
      let g := s.fieldsOf q f (qShape .unused .unused .unused 0 0xFF)
      exec (.lvw q f) s = .next ((((s.issue q 0x69).mapSeq q.core fun x =>
          { x with waits := Map.put x.waits k (.level g.imm) }).mapProg fun p =>
            { p with inputs := p.inputs ++ [⟨.level q.core g.imm, p.course, 1⟩] }).advance q))

/-- ADD, SUB, MUL, DIV, MIN and MAX, where the hods hold their operands: the lane vector at SrcA and then the one at
SrcB (or, with Flags [32], one scalar for all lanes) are popped, every lane of the result is the operation on the
two lanes, the flags raised are those of reading and of every lane, and the FP32 result is pushed to Dst (R94, R141,
R153, R154, R163). -/
def Obligations.LaneArithmetic : Prop :=
  ∀ (i : Issue → Fields → Instr) (code : Nat) (fn : Bool → Nat → Nat → Flagged),
    (i, code, fn) ∈ [(Instr.addLane, 0x20, add32), (Instr.subLane, 0x21, sub32), (Instr.mulLane, 0x22, mul32),
      (Instr.divLane, 0x24, div32), (Instr.minLane, 0x26, min32), (Instr.maxLane, 0x27, max32)] →
    ∀ (q : Issue) (f : Fields) (s : State), s.runs q f (vShape .hod 1 0) anyFields = true →
      let g := s.fieldsOf q f (vShape .hod 1 0)
      let n := laneEntries g.fmt
      let u := s.issue q code
      let v := u.popped q.core g.srcA n
      let a := widenAll (v.vFlush q.core) g.fmt (u.front q.core g.srcA n)
      u.holds q.core g.srcA n = true →
      (flagOf g 0 = false → v.holds q.core g.srcB n = true →
        let w := v.popped q.core g.srcB n
        let b := widenAll (w.vFlush q.core) g.fmt (v.front q.core g.srcB n)
        exec (i q f) s = .next ((w.lanesOut q.core g.dst (a.2 ||| b.2)
          (List.zipWith (fn (w.vFlush q.core)) a.1 b.1)).advance q)) ∧
      (flagOf g 0 = true → v.holds q.core g.srcB 1 = true →
        let w := v.popped q.core g.srcB 1
        let b := widen (w.vFlush q.core) 0 (field ((v.front q.core g.srcB 1).headD []) 0 4)
        exec (i q f) s = .next ((w.lanesOut q.core g.dst (a.2 ||| b.2)
          (List.zipWith (fn (w.vFlush q.core)) a.1 (List.replicate 128 b.1))).advance q))

/-- SQRT, FN and TBL, where SrcA holds a lane vector: it is popped and Dst receives the square root, the function of
Imm [3:0], or the value of the stored table, lane by lane, with the flags of reading and of every lane; an error
that the store's code meets in the table is handled after it (R94, R95, R96, R153, R154). -/
def Obligations.LaneFunctions : Prop :=
  ∀ (q : Issue) (f : Fields) (s : State),
    (s.runs q f (vShape .unused 0 0) anyFields = true →
      let g := s.fieldsOf q f (vShape .unused 0 0)
      let n := laneEntries g.fmt
      let u := s.issue q 0x25
      let v := u.popped q.core g.srcA n
      let a := widenAll (v.vFlush q.core) g.fmt (u.front q.core g.srcA n)
      u.holds q.core g.srcA n = true →
      exec (.sqrt q f) s = .next ((v.lanesOut q.core g.dst a.2 (a.1.map (sqrt32 (v.vFlush q.core)))).advance q)) ∧
    (∀ fn : Fn, s.runs q f (vShape .unused 0 0xF) (fun g => (fnOf g.imm).isSome) = true →
      let g := s.fieldsOf q f (vShape .unused 0 0xF)
      let n := laneEntries g.fmt
      let u := s.issue q 0x28
      let v := u.popped q.core g.srcA n
      let a := widenAll (v.vFlush q.core) g.fmt (u.front q.core g.srcA n)
      fnOf g.imm = some fn → u.holds q.core g.srcA n = true →
      exec (.fn q f) s = .next ((v.lanesOut q.core g.dst a.2 (a.1.map (fn32 (v.vFlush q.core) fn))).advance q)) ∧
    (s.runs q f (vShape .unused 0 0xFFFFFFFF)
        (fun g => bits g.imm 29 3 == 0 && (s.shortAddress q.core g.imm 1044).any fun a => s.raw a 1044) = true →
      let g := s.fieldsOf q f (vShape .unused 0 0xFFFFFFFF)
      let n := laneEntries g.fmt
      let u := s.issue q 0x29
      let v := u.popped q.core g.srcA n
      let a := widenAll (v.vFlush q.core) g.fmt (u.front q.core g.srcA n)
      let z := (u.shortAddress q.core g.imm 1044).getD 0
      let t := u.load z 1044
      u.holds q.core g.srcA n = true →
      exec (.tbl q f) s = .next (((v.lanesOut q.core g.dst a.2 (a.1.map
        (table32 (v.vFlush q.core) (field t 0 4) (toSigned 8 (byteAt t 4)) fun i => field t (16 + 4 * i) 4))).eccFound z 1044
          q.ecc 0).advance q))

/-- FMA without broadcast pops three lane vectors and pushes a × b + c of every lane; ROT without broadcast pops x₀,
x₁, the cosines and the sines and pushes y₀ and then y₁ of every lane; with Flags [32] the second operand is one
scalar for all lanes (R94, R100, R153, R154). -/
def Obligations.LaneCombinations : Prop :=
  ∀ (q : Issue) (f : Fields) (s v : State) (b : List Nat) (fb : Nat),
    (s.runs q f (vShape .hod 1 0x1F) (fun g => s.immAllowed q g.imm) = true →
      let g := s.fieldsOf q f (vShape .hod 1 0x1F)
      let n := laneEntries g.fmt
      let u := s.issue q 0x23
      let t := u.popped q.core g.srcA n
      let a := widenAll (t.vFlush q.core) g.fmt (u.front q.core g.srcA n)
      u.holds q.core g.srcA n = true → t.takesB q g v b fb →
      let hc := v.immHod q g.imm
      v.holds q.core hc n = true →
      let w := v.popped q.core hc n
      let c := widenAll (w.vFlush q.core) g.fmt (v.front q.core hc n)
      exec (.fma q f) s = .next ((w.lanesOut q.core g.dst (a.2 ||| fb ||| c.2)
        (zip3 (fma32 (w.vFlush q.core)) a.1 b c.1)).advance q)) ∧
    (s.runs q f (vShape .hod 1 0x3FF) (fun g => s.immAllowed q g.imm && s.immAllowed q (g.imm / 32)) = true →
      let g := s.fieldsOf q f (vShape .hod 1 0x3FF)
      let n := laneEntries g.fmt
      let u := s.issue q 0x2C
      let t := u.popped q.core g.srcA n
      let a := widenAll (t.vFlush q.core) g.fmt (u.front q.core g.srcA n)
      u.holds q.core g.srcA n = true → t.takesB q g v b fb →
      let hc := v.immHod q g.imm
      v.holds q.core hc n = true →
      let w := v.popped q.core hc n
      let hs := w.immHod q (g.imm / 32)
      w.holds q.core hs n = true →
      let x := w.popped q.core hs n
      let c := widenAll (w.vFlush q.core) g.fmt (v.front q.core hc n)
      let sn := widenAll (x.vFlush q.core) g.fmt (w.front q.core hs n)
      let y0 := zip4 (rotary (x.vFlush q.core) false) a.1 c.1 b sn.1
      let y1 := zip4 (rotary (x.vFlush q.core) true) a.1 sn.1 b c.1
      exec (.rot q f) s = .next ((((x.raise q.core 4 (a.2 ||| fb ||| c.2 ||| sn.2 ||| flagsOf y0 ||| flagsOf y1)).push
        q.core g.dst (fromLanes (y0.map (·.1)))).push q.core g.dst (fromLanes (y1.map (·.1)))).advance q))

/-- RED, SQA, AMAX and TOPK, where SrcA holds the chunks that Imm [31:16] counts: they are popped, a cycle a chunk,
and Dst receives the sum or maximum, the sum of squares, the index and value of the largest element, or the k
largest in rank order, eight to an entry (R97, R98, R101, R153, R154). -/
def Obligations.LaneReductions : Prop :=
  ∀ (q : Issue) (f : Fields) (s : State),
    (s.runs q f (vShape .unused 1 0xFFFF0000) chunksOk = true →
      let g := s.fieldsOf q f (vShape .unused 1 0xFFFF0000)
      let n := chunkCount g * laneEntries g.fmt
      let u := s.issue q 0x2A
      let v := u.popped q.core g.srcA n
      let x := chunksOf (v.vFlush q.core) g.fmt (chunkCount g) (u.front q.core g.srcA n)
      let op := if flagOf g 0 then max32 else add32
      u.holds q.core g.srcA n = true →
      exec (.red q f) s =
        .next (((v.scalarOut q.core g.dst x.2 (reduce (op (v.vFlush q.core)) x.1)).occupy q (chunkCount g)).advance q)) ∧
    (s.runs q f (vShape .unused 0 0xFFFF0000) chunksOk = true →
      let g := s.fieldsOf q f (vShape .unused 0 0xFFFF0000)
      let n := chunkCount g * laneEntries g.fmt
      let u := s.issue q 0x2B
      let v := u.popped q.core g.srcA n
      let x := chunksOf (v.vFlush q.core) g.fmt (chunkCount g) (u.front q.core g.srcA n)
      let y := squares (v.vFlush q.core) x.1
      u.holds q.core g.srcA n = true →
      exec (.sqa q f) s =
        .next (((v.scalarOut q.core g.dst (x.2 ||| y.2) (reduce (add32 (v.vFlush q.core)) y.1)).occupy q
          (chunkCount g)).advance q)) ∧
    (s.runs q f (vShape .unused 0 0xFFFF0000) chunksOk = true →
      let g := s.fieldsOf q f (vShape .unused 0 0xFFFF0000)
      let n := chunkCount g * laneEntries g.fmt
      let u := s.issue q 0x2D
      let v := u.popped q.core g.srcA n
      let x := chunksOf (v.vFlush q.core) g.fmt (chunkCount g) (u.front q.core g.srcA n)
      let l := x.1.flatMap id
      let best := (topRank 1 (indexed l)).headD (0, 0)
      let fl := x.2 ||| rankFlags l ||| (if l.all fun c => (val32 c).isNaN then flIV else 0)
      u.holds q.core g.srcA n = true →
      exec (.amax q f) s =
        .next ((((v.raise q.core 4 fl).push q.core g.dst [u32 best.1 ++ u32 (canon32 best.2)]).occupy q
          (chunkCount g)).advance q)) ∧
    (s.runs q f (vShape .unused 0 0xFFFF007F)
        (fun g => chunksOk g && decide (1 ≤ g.imm % 128 ∧ g.imm % 128 ≤ 64)) = true →
      let g := s.fieldsOf q f (vShape .unused 0 0xFFFF007F)
      let n := chunkCount g * laneEntries g.fmt
      let u := s.issue q 0x2E
      let v := u.popped q.core g.srcA n
      let x := chunksOf (v.vFlush q.core) g.fmt (chunkCount g) (u.front q.core g.srcA n)
      let l := x.1.flatMap id
      u.holds q.core g.srcA n = true →
      exec (.topk q f) s = .next ((((v.raise q.core 4 (x.2 ||| rankFlags l)).push q.core g.dst
        (pairEntries (topRank (g.imm % 128) (indexed l)))).occupy q (chunkCount g)).advance q))

/-- RNG pops an entry and pushes 128 draws of its seed, position and purpose; CVT pops a lane vector and pushes its
four W vectors in the target format, one to each of four hods with Flags [33]; DUP pushes the popped lane vector to
two hods. An E3M2 or E2M3 vector is packed as R74 packs 32 elements, with its scale after them (the model's reading,
log entry 22) (R90, R91, R92, R102, R153, R154). -/
def Obligations.LaneSources : Prop :=
  ∀ (q : Issue) (f : Fields) (s : State),
    (s.runs q f { vShape .unused 0 0 with fmts := [] } anyFields = true →
      let g := s.fieldsOf q f { vShape .unused 0 0 with fmts := [] }
      let u := s.issue q 0x2F
      let e := (u.front q.core g.srcA 1).headD []
      let lane (l : Nat) : Nat := draw (field e 0 8) (field e 8 4) (field e 12 4) (field e 16 4 + l)
      u.holds q.core g.srcA 1 = true →
      exec (.rng q f) s = .next (((u.popped q.core g.srcA 1).push q.core g.dst
        (fromLanes ((List.range 128).map lane))).advance q)) ∧
    (s.runs q f (vShape .unused 3 0x1F) (fun g => cvtTarget g.imm && (!flagOf g 1 || decide (g.dst ≤ 28))) = true →
      let g := s.fieldsOf q f (vShape .unused 3 0x1F)
      let n := laneEntries g.fmt
      let u := s.issue q 0x30
      let v := u.popped q.core g.srcA n
      let x := widenAll (v.vFlush q.core) g.fmt (u.front q.core g.srcA n)
      let vec (i : Nat) := cvtVec g.imm (flagOf g 0) (v.vFlush q.core) ((x.1.drop (32 * i)).take 32)
      let y := v.raise q.core 4 (x.2 ||| ((List.range 4).map vec).foldl (fun a v => a ||| v.2) 0)
      u.holds q.core g.srcA n = true →
      exec (.cvt q f) s = .next (State.advance
        (if flagOf g 1 then
          (List.range 4).foldl (fun s i => s.push q.core (g.dst + i) (toEntries g.imm [(vec i).1])) y
        else y.push q.core g.dst (toEntries g.imm (((List.range 4).map vec).map (·.1)))) q)) ∧
    (s.runs q f (vShape .unused 0 0x1F) (fun g => s.immAllowed q g.imm) = true →
      let g := s.fieldsOf q f (vShape .unused 0 0x1F)
      let n := laneEntries g.fmt
      let u := s.issue q 0x31
      let v := u.popped q.core g.srcA n
      let es := u.front q.core g.srcA n
      u.holds q.core g.srcA n = true →
      exec (.dup q f) s = .next (((v.push q.core g.dst es).push q.core (v.immHod q g.imm) es).advance q))

/-- TSET writes tile descriptor Dst of its array with the slot or the generation that Imm gives; TFILL, at a rate
that the core's port delivers and with fewer than eight fills in progress, appends a fill to its array, with the
bytes of the tile at its address as they arrive: a shared tile with the generation expected, from the side of its
window that holds it. Waiting fronts take the fills in their order (R117, R129, R149, R185, R190, R345, R350). -/
def Obligations.TilesEnterArrays : Prop :=
  ∀ (q : Issue) (f : Fields) (batch : Option Nat) (err : Errors) (s : State),
    (let sh : Shape := { queues := aQueues, fmts := [], dst := .num, srcA := .unused, srcB := .unused, flags := 0,
                         imm := 0x8FFFFF00 }
      let g := s.fieldsOf q f sh
      let u := s.issue q 0x10
      let a := u.arrayOf q.core q.queue
      s.runs q f sh (fun g => below g.dst 8 && (if bit g.imm 31 then bits g.imm 8 8 == 0 else bits g.imm 16 12 == 0)) =
        true →
      exec (.tset q f) s = .next ((u.setArrayOf q.core q.queue { a with
        descs := Map.set a.descs { slotKind := false, slot := 0, generation := 0 } g.dst
          { slotKind := bit g.imm 31, slot := bits g.imm 16 12, generation := bits g.imm 8 8 } }).advance q)) ∧
    (let sh : Shape := { queues := aQueues, fmts := List.range 15, dst := .num, srcA := .unused, srcB := .unused,
                         flags := 15, imm := 0xFFFFFFFF }
      let g := s.fieldsOf q f sh
      let u := (s.issue q 0x11).runToNow q
      let a := u.arrayOf q.core q.queue
      let d := a.desc g.dst
      let at_ := (u.instrAddress q g (tileBytes g.fmt)).getD 0
      let n := tileBytes g.fmt
      s.runs q f sh (fun g => below g.dst 8 && rateOk q.core (g.flags % 8) &&
        (s.instrAddress q g (tileBytes g.fmt)).any (s.tileAt g.fmt) &&
        decide ((s.arrayOf q.core q.queue).fills.countP (fun x => !x.arrived) < 8)) = true →
      (d.slotKind = true →
        let x : Fill := { address := at_, fmt := g.fmt, shared := false, expected := none, batch := batch,
                          bytes := received (u.load at_ n) err, front := none, arrived := false, verdict := none,
                          flush := false }
        exec (.tfill q f batch err) s = .next (((u.setArrayOf q.core q.queue
          (ArrayState.bind { a with fills := a.fills ++ [x] })).eccFound at_ n q.ecc 0).advance q)) ∧
      (d.slotKind = false →
        let e := u.expectedGeneration d batch
        let at2 := u.sideAddress at_ e
        let x : Fill := { address := at2, fmt := g.fmt, shared := true, expected := e, batch := batch,
                          bytes := received (u.load at2 n) err, front := none, arrived := false, verdict := none,
                          flush := false }
        exec (.tfill q f batch err) s = .next (((u.setArrayOf q.core q.queue
          (ArrayState.bind { a with fills := a.fills ++ [x] })).eccFound at2 n q.ecc 0).advance q)))

/-- MMA opens a pass that starts 2 cycles later with what its fields and its tile descriptor name. It takes its
vectors from hod SrcA, those that are there and those still to come, or joins the take that another array of the
same mask, format, count and mode began for the same cycle; a new-tile pass takes the next fill and counts a front,
every pass counts its vectors and the cycles in which it starts products, and a tile whose verdict is due is judged
for it (R79, R87, R113, R114, R130, R140, R143, R150, R163). -/
def Obligations.PassesOpen : Prop :=
  ∀ (q : Issue) (f : Fields) (batch : Option Nat) (s : State) (sh : Shape),
    sh = { queues := aQueues, fmts := [0, 1, 2, 3, 4, 5, 6, 9, 10, 11, 12], dst := .unused, srcA := .hod, srcB := .num,
           flags := 15, imm := 0xFFFFFF00 } →
    s.runs q f sh (fun g => mmaOk q g && s.tagsMatch q g && s.mayTake q g) = true →
    let g := s.fieldsOf q f sh
    let u := (s.issue q 0x12).runToNow q
    let d := (u.arrayOf q.core q.queue).desc g.srcB
    let p : Pass :=
      { fresh := mmaNew g, act := g.fmt, wt := mmaWeight g, opening := mmaOpening g, saturate := flagOf g 1,
        transposed := mmaTransposed g, base := bits g.imm 20 6, stride := bits g.imm 19 1, quarter := bits g.imm 17 2,
        count := mmaCount g, hod := g.srcA, start := u.planCycle q + 2, slot := if d.slotKind then some d.slot else none,
        generation := d.generation, expected := u.expectedGeneration d batch, flush := none }
    let opened (c : Core) : State :=
      let v := u.setCore q.core c
      let a := v.arrayOf q.core q.queue
      let w := v.setArrayOf q.core q.queue (ArrayState.bind { a with
        passes := a.passes ++ [p]
        fills := if p.fresh then nameBatch (a.passes.countP fun p => p.fresh) batch a.fills else a.fills
        busyTo := (p.busyFrom a.busyTo).1 })
      let w := if p.fresh then w.bump (Reg.fronts (coreCluster q.core)) else w
      ((w.bumpBy (Reg.vectorsEntered (coreCluster q.core)) p.count).bumpBy (Reg.busyCycles (coreCluster q.core))
        (p.busyFrom a.busyTo).2).judgeFill q.core q.queue
    let c := u.core q.core
    let n := entriesOf g.fmt (mmaVectors g)
    (c.takeOf p = none →
      let t : Take :=
        { hod := g.srcA, start := p.start, mask := mmaMask g, fmt := g.fmt, transposed := p.transposed, count := p.count,
          need := n, entries := (c.hod g.srcA).take n, joined := [q.queue],
          left := if mmaMask g = 0 then [q.queue] else bitList 4 (mmaMask g) }
      exec (.mma q f batch) s =
        .next ((opened ({ c with takes := c.takes ++ [t] }.setHod g.srcA ((c.hod g.srcA).drop n))).advance q)) ∧
    (∀ t, c.takeOf p = some t →
      exec (.mma q f batch) s = .next ((opened { c with takes := c.takes.map fun x =>
        if x.hod = t.hod ∧ x.start = t.start then { x with joined := q.queue :: x.joined } else x }).advance q))

/-- VRD pushes row Imm of its array's vat, as it stands in the cycle after issue, to hod Dst, an unopened row as
zeros, in FP32, BF16 or INT32, and raises the flags of the conversion on the array; with Flags [35], where no
addition to it is to come, the row is unopened afterwards (R124, R125, R126, R151). -/
def Obligations.VatRowsRead : Prop :=
  ∀ (q : Issue) (f : Fields) (s : State) (sh : Shape),
    sh = { queues := aQueues, fmts := [0, 2, 15], dst := .hod, srcA := .unused, srcB := .unused, flags := 8,
           imm := 0x3F } →
    s.runs q f sh (fun g =>
      let a := (s.runToNow q).arrayOf q.core q.queue
      let r := a.rowSeen (s.planCycle q + 1) g.imm
      (!r.opened || r.int == (g.fmt == 15)) && (!flagOf g 3 || !a.pendingAdd g.imm (s.planCycle q + 1))) = true →
    let g := s.fieldsOf q f sh
    let u := (s.issue q 0x13).runToNow q
    let a := u.arrayOf q.core q.queue
    let e := rowEntries g.fmt (u.queueOf q).flush (a.rowSeen (u.planCycle q + 1) g.imm)
    (flagOf g 3 = false →
      exec (.vrd q f) s = .next (((u.raise q.core q.queue e.2).push q.core g.dst e.1).advance q)) ∧
    (flagOf g 3 = true →
      let v := u.setArrayOf q.core q.queue { a with vat := Map.drop a.vat g.imm }
      exec (.vrd q f) s = .next (((v.raise q.core q.queue e.2).push q.core g.dst e.1).advance q))

/-- TILE_VERDICT marks that the verdict of an array's next tile is due, and acts on the oldest unjudged tile once
its front has issued; outside plan work it does nothing. A pass that is not to read the tile gets no data and no
check is made; a tile whose Check fails is counted, faults the array and suspends the plan; then a format other than
the pass's or non-zero reserved bits, an invalid codebook, a wrong tint and a wrong generation each stop it with
their own fault, in this order; a tile that passes delivers data, its invalid TRN5 bytes counted (R116, R119, R120,
R121, R193, R350). -/
def Obligations.TileVerdicts : Prop :=
  ∀ (core eng : Nat) (s : State), core < 1024 → eng < 4 → hasQueue core eng = true →
    (s.prog.works = false → exec (.tileVerdict core eng) s = .next s) ∧
    (s.prog.works = true →
      let u := s.setArrayOf core eng
        { s.arrayOf core eng with fills := markArrived (s.arrayOf core eng).fills }
      u.awaits (.feeder core eng) = false →
      ∀ g : Fill, ((u.arrayOf core eng).fills.find? fun g => g.verdict.isNone) = some g →
        (g.front = none → exec (.tileVerdict core eng) s = .next u) ∧
        (∀ x : Front, g.front = some x → g.arrived = true →
          (u.unchecked x = true → exec (.tileVerdict core eng) s = .next ((u.countUnchecked x).judged core eng false)) ∧
          (u.unchecked x = false →
            (crc32c (g.bytes.drop 8) ≠ tileCheck g.bytes →
              exec (.tileVerdict core eng) s =
                .next (State.suspendFor ((u.bump (Reg.tileCrcFailures (coreCluster core))).arrayFault 1 core eng)
                  { consumer := .feeder core eng, address := g.address, fmt := g.fmt, dest := 0, failed := false })) ∧
            (crc32c (g.bytes.drop 8) = tileCheck g.bytes →
              (tileFormat g.bytes ≠ x.wt ∨ tileReserved g.bytes ≠ 0 →
                exec (.tileVerdict core eng) s =
                  .next ((u.formatFault core eng 1 (u.servedSlots g)).judged core eng false)) ∧
              (tileFormat g.bytes = x.wt → tileReserved g.bytes = 0 →
                (x.wt = 13 ∧ codebookOk (tileStrip 13 g.bytes) = false →
                  exec (.tileVerdict core eng) s =
                    .next ((u.formatFault core eng 2 (u.servedSlots g)).judged core eng false)) ∧
                (¬(x.wt = 13 ∧ codebookOk (tileStrip 13 g.bytes) = false) →
                  (u.tintOk x g.bytes = false →
                    exec (.tileVerdict core eng) s = .next ((u.tintMismatch core eng g x).judged core eng false)) ∧
                  (u.tintOk x g.bytes = true → generationOk x g.bytes = false →
                    exec (.tileVerdict core eng) s = .next ((u.generationMismatch core eng g x).judged core eng false)) ∧
                  (u.tintOk x g.bytes = true → generationOk x g.bytes = true →
                    let n := invalidTrits x.wt g.bytes
                    exec (.tileVerdict core eng) s = .next (State.judged
                      (if n = 0 then u else (u.bumpBy Reg.trnInvalidBytes n).raise core eng flIV) core eng true))))))))

/-- SUSPENSION_END with no suspension changes nothing; with one that awaits nothing it lets the plan resume;
otherwise the suspension takes another course, and after its first one every tile still awaited is counted as a
reread overrun (R121, R221). -/
def Obligations.SuspensionsEnd : Prop :=
  ∀ s : State,
    (s.prog.suspension = none → exec .suspensionEnd s = .next s) ∧
    ∀ x : Suspension, s.prog.suspension = some x →
      (x.waiting = [] ∧ x.edges = [] →
        exec .suspensionEnd s = .next { s with prog := { s.prog with suspension := none, resumed := true } }) ∧
      (¬(x.waiting = [] ∧ x.edges = []) →
        let u := if x.courses = 1 then s.bumpBy Reg.rereadOverruns x.waiting.length else s
        exec .suspensionEnd s =
          .next { u with prog := { u.prog with suspension := some { x with courses := x.courses + 1 } } })

/-- LD pushes the packed vectors at its address to Dst; ST pops vectors and writes their packed bytes; STA pops
vectors and adds them there element by element; LDI and STI move one vector at the address that the popped index
selects. What the memory code found in what was read takes effect after it, and an access to another brick's stack
crosses the edges to it (R89, R143, R145, R155, R163, R194). -/
def Obligations.LoadsAndStores : Prop :=
  ∀ (q : Issue) (f : Fields) (ecc : Ecc) (s : State),
    (let sh := mShape moveFmts .hod .unused .num 15 allImm
      let g := s.fieldsOf q f sh
      let n := moveBytes g
      let u := s.issue q 0x40
      let a := u.moveAt q g n
      s.runs q f sh (fun g => s.moveOk q g (moveBytes g)) = true →
      exec (.ld q f ecc) s = .next ((((u.push q.core g.dst (toEntries g.fmt
        (splitVecs (vecBytes g.fmt) (g.srcB + 1) (u.mem.read a n)))).eccFound a n ecc 0).crossAccess q.core a n).advance q)) ∧
    (let sh := mShape moveFmts .unused .hod .num 15 allImm
      let g := s.fieldsOf q f sh
      let u := s.issue q 0x41
      let a := u.moveAt q g (moveBytes g)
      let k := entriesOf g.fmt (g.srcB + 1)
      let v := u.popped q.core g.srcA k
      let bs := (fromEntries g.fmt (g.srcB + 1) (u.front q.core g.srcA k)).flatMap id
      s.runs q f sh (fun g => s.moveOk q g (moveBytes g)) = true → u.holds q.core g.srcA k = true →
      exec (.st q f) s =
        .next ((State.crossAccess { v with mem := v.mem.write a bs } q.core a (moveBytes g)).advance q)) ∧
    (let sh := mShape accFmts .unused .hod .num 15 allImm
      let g := s.fieldsOf q f sh
      let u := s.issue q 0x42
      let a := u.moveAt q g (moveBytes g)
      let k := entriesOf g.fmt (g.srcB + 1)
      let v := u.popped q.core g.srcA k
      let bs := (fromEntries g.fmt (g.srcB + 1) (u.front q.core g.srcA k)).flatMap id
      let w := { v with mem := v.mem.write a (accBytes g.fmt (v.mem.read a bs.length) bs) }
      let x := if addrSpace a ≤ 1 then w.bumpBy (Reg.accumulateGranules (addrCluster a)) (ceilDiv bs.length 64) else w
      s.runs q f sh (fun g => s.moveOk q g (moveBytes g)) = true → u.holds q.core g.srcA k = true →
      exec (.sta q f) s =
        .next (((x.eccFound a (moveBytes g) q.ecc 0).crossAccess q.core a (moveBytes g)).advance q)) ∧
    (let sh := mShape moveFmts .hod .num .hod 0 allImm
      let g := s.fieldsOf q f sh
      let n := vecBytes g.fmt
      let u := s.issue q 0x43
      let v := u.popped q.core g.srcB 1
      let a := v.indexedAt q g g.srcA (u.front q.core g.srcB 1)
      s.runs q f sh (fun g => s.indexedOk q g g.srcA) = true → u.holds q.core g.srcB 1 = true →
      exec (.ldi q f ecc) s =
        .next ((((v.push q.core g.dst (toEntries g.fmt [v.mem.read a n])).eccFound a n ecc 0).crossAccess q.core a
          n).advance q)) ∧
    (let sh := mShape moveFmts .num .hod .hod 0 allImm
      let g := s.fieldsOf q f sh
      let u := s.issue q 0x44
      let k := entriesOf g.fmt 1
      let v := u.popped q.core g.srcA k
      let w := v.popped q.core g.srcB 1
      let a := w.indexedAt q g g.dst (v.front q.core g.srcB 1)
      let bs := vecAt g.fmt (u.front q.core g.srcA k) 0
      s.runs q f sh (fun g => s.indexedOk q g g.dst) = true → u.holds q.core g.srcA k = true →
      v.holds q.core g.srcB 1 = true →
      exec (.sti q f) s =
        .next ((State.crossAccess { w with mem := w.mem.write a bs } q.core a (vecBytes g.fmt)).advance q))

/-- Where an ST, an STA or an STI answers a next state from a state whose hods hold its operands, every byte of the
stores outside the bytes it stores at its address reads as before, and where the memory is canonical every byte of
an ST's data reads back; the staging area is as before (R143, R155, R182, R194). -/
def Obligations.StoresReachTheirBytesOnly : Prop :=
  ∀ (q : Issue) (f : Fields) (s t : State),
    (let sh := mShape moveFmts .unused .hod .num 15 allImm
      let g := s.fieldsOf q f sh
      let u := s.issue q 0x41
      let k := entriesOf g.fmt (g.srcB + 1)
      let a := u.moveAt q g (moveBytes g)
      let bs := (fromEntries g.fmt (g.srcB + 1) (u.front q.core g.srcA k)).flatMap id
      s.queueHeld q = false → u.holds q.core g.srcA k = true → exec (.st q f) s = .next t →
      (∀ c, c < a ∨ a + bs.length ≤ c → t.mem.byte c = s.mem.byte c) ∧
      (s.mem.wf = true → ∀ i, i < bs.length → t.mem.byte (a + i) = bs.getD i 0) ∧ t.staging = s.staging) ∧
    (let sh := mShape accFmts .unused .hod .num 15 allImm
      let g := s.fieldsOf q f sh
      let u := s.issue q 0x42
      let k := entriesOf g.fmt (g.srcB + 1)
      let a := u.moveAt q g (moveBytes g)
      let bs := (fromEntries g.fmt (g.srcB + 1) (u.front q.core g.srcA k)).flatMap id
      s.queueHeld q = false → u.holds q.core g.srcA k = true → exec (.sta q f) s = .next t →
      (∀ c, c < a ∨ a + bs.length ≤ c → t.mem.byte c = s.mem.byte c) ∧ t.staging = s.staging) ∧
    (let sh := mShape moveFmts .num .hod .hod 0 allImm
      let g := s.fieldsOf q f sh
      let u := s.issue q 0x44
      let k := entriesOf g.fmt 1
      let v := u.popped q.core g.srcA k
      let a := (v.popped q.core g.srcB 1).indexedAt q g g.dst (v.front q.core g.srcB 1)
      let bs := vecAt g.fmt (u.front q.core g.srcA k) 0
      s.queueHeld q = false → u.holds q.core g.srcA k = true → v.holds q.core g.srcB 1 = true →
      exec (.sti q f) s = .next t →
      (∀ c, c < a ∨ a + bs.length ≤ c → t.mem.byte c = s.mem.byte c) ∧
      (s.mem.wf = true → ∀ i, i < bs.length → t.mem.byte (a + i) = bs.getD i 0) ∧ t.staging = s.staging)

/-- WCOL and WROW pop their vectors and an address entry. Where the slot is not Stamped they count an idle slot
write and write nothing. Where it is, and the address is in the slot's window and the tile is owned, of the tint and
of the format, the column or row named is replaced, the strip byte with it, and the Check takes the difference; with
a bond the write is mirrored. Otherwise the write is refused, counted, and the slot's tint aborted. What the memory
code found in the tile comes first. An index beyond the tile, for which the spec states no column or row, is a free
one (the model's choice, log entry 26) (R156, R163, R191, R193). -/
def Obligations.WritesIntoTiles : Prop :=
  ∀ (row : Bool) (q : Issue) (f : Fields) (s : State),
    let sh := mShape (if row then rowFmts else colFmts) .unused .hod .hod 0 0xFFF
    let g := s.fieldsOf q f sh
    let u := s.issue q (if row then 0x46 else 0x45)
    let n := if row then 4 else 1
    let k := entriesOf g.fmt n
    let v := u.popped q.core g.srcA k
    let w := v.popped q.core g.srcB 1
    let es := u.front q.core g.srcA k
    let entry := (v.front q.core g.srcB 1).getD 0 []
    let data := if row then (fromEntries g.fmt 4 es).flatMap id else vecAt g.fmt es 0
    let i := if row then Instr.wrow q f else Instr.wcol q f
    let at_ := w.shortAddress q.core (field entry 0 4) (tileBytes g.fmt)
    s.runs q f sh anyFields = true → u.holds q.core g.srcA k = true → v.holds q.core g.srcB 1 = true →
    (w.stamped g.imm = false → exec i s = .next ((w.bump (Reg.idleSlotWrites (coreCluster q.core))).advance q)) ∧
    (w.stamped g.imm = true →
      (∀ a, at_ = some a →
        let x := w.eccFound a (tileBytes g.fmt) q.ecc 0
        (x.kvChecks g.imm (x.slot g.imm).tint g.fmt a = true →
          exec i s = .next (((x.kvWrite row g.fmt (field entry 4 2) a data).mirrorSlot 3 g.imm
            (u8 (if row then 0x46 else 0x45) ++ u8 g.fmt ++ u16 (field entry 4 2) ++ u64 a ++ data)).advance q)) ∧
        (x.kvChecks g.imm (x.slot g.imm).tint g.fmt a = false →
          exec i s = .next (((x.bump (Reg.kvWritesRefused (coreCluster q.core))).abortSlot whyTint x.prog.course
            g.imm).advance q))) ∧
      (at_ = none →
        exec i s = .next (((w.bump (Reg.kvWritesRefused (coreCluster q.core))).abortSlot whyTint w.prog.course
          g.imm).advance q)))

/-- FILL of a raw range writes the popped constant in every word; in an Owned window it clears whole tiles under the
slot's tint. COPY of a raw range to a raw range in one store moves its bytes; of whole tiles between two windows of
one format and kind it copies tile by tile, unless the source window's slot holds no Stamped tint, when nothing is
read; the remote-tier space is no destination. What the memory code found in the source takes effect afterwards
(R157, R163, R192, R193, R196, R197, R198). -/
def Obligations.FillsAndCopies : Prop :=
  ∀ (q : Issue) (f : Fields) (err : Errors) (s : State),
    (let sh := mShape [] .unused .hod .num 0 allImm
      let g := s.fieldsOf q f sh
      let u := s.issue q 0x47
      let a := (u.fillAt q g).getD 0
      let v := u.popped q.core g.srcA 1
      let word := slice ((u.front q.core g.srcA 1).getD 0 []) 0 4
      s.runs q f sh (fun g => (s.fillAt q g).any fun a => s.fillOk a (fillGranules g * 64)) = true →
      u.holds q.core g.srcA 1 = true →
      (v.windowAt a = none → exec (.fill q f) s = .next (State.advance
        { v with mem := v.mem.write a ((List.replicate (fillGranules g * 16) word).flatMap id) } q)) ∧
      (∀ r, v.windowAt a = some r → exec (.fill q f) s = .next
        ((v.clearTiles r.fmt (v.slot r.slot).tint a (fillGranules g * 64 / tileStride r.fmt)).advance q))) ∧
    (let sh := mShape [] .unused .hod .num 0 0
      let g := s.fieldsOf q f sh
      let n := fillGranules g * 64
      let u := s.issue q 0x48
      let v := u.popped q.core g.srcA 1
      let e := (u.front q.core g.srcA 1).getD 0 []
      s.runs q f sh anyFields = true → u.holds q.core g.srcA 1 = true →
      ∀ src dest, v.shortAddress q.core (field e 0 4) n = some src →
        v.shortAddress q.core (field e 4 4) n = some dest →
        (bits (field e 4 4) 29 3 = 4 → exec (.copy q f err) s = .next (v.advance q)) ∧
        (bits (field e 4 4) 29 3 ≠ 4 → addrSpace src = addrSpace dest → addrCore src = addrCore dest →
          (v.windowAt src = none → v.windowAt dest = none → v.raw src n = true → v.raw dest n = true →
            exec (.copy q f err) s =
              .next ((State.eccFound { v with mem := v.mem.write dest (v.mem.read src n) } src n q.ecc 0).advance q)) ∧
          (∀ a b, v.windowAt src = some a → v.windowAt dest = some b → a.fmt = b.fmt → a.kind = b.kind →
            a.holdsTiles src n = true → b.holdsTiles dest n = true →
            (∀ slot, v.unstampedSlot a = some slot →
              exec (.copy q f err) s = .next (((v.refuseRead slot).eccFound src n q.ecc 0).advance q)) ∧
            (v.unstampedSlot a = none → exec (.copy q f err) s =
              .next (((v.copyTiles q.core a.fmt src dest 0 (n / tileStride a.fmt) err).eccFound src n q.ecc 0).advance
                q)))))

/-- SCRUB_STEP on a bank that an access claims, or in a course that does not run the low priorities, counts a
deferral and nothing else; otherwise the bank's next granule is scrubbed, what its memory code finds takes effect,
and a full pass of the store is counted and, where it took too long, reported (R20, R22, R201, R212). -/
def Obligations.ScrubSteps : Prop :=
  ∀ (unit : StoreUnit) (bank : Nat) (claimed : Bool) (ecc : Ecc) (s : State), s.storeOn unit = true →
    bank < (scrubGeometry unit).1 →
    (claimed = true ∨ s.lowPriorities = false →
      exec (.scrubStep unit bank claimed ecc) s = .next (s.bump Reg.scrubDeferred)) ∧
    (claimed = false → s.lowPriorities = true →
      let g := scrubGeometry unit
      let k := g.2.2.2.1 + bank
      let x := s.scrubOf k
      let began := if x.1 % g.2.1 = 0 then s.time.localCount else x.2
      let u := { s with units := { s.units with scrub := Map.set s.units.scrub (0, 0) k (x.1 + 1, began) } }
      let v := u.eccFound (g.2.2.2.2 + bankOffset unit bank (x.1 % g.2.1)) 64 ecc 1
      exec (.scrubStep unit bank claimed ecc) s =
        .next (if s.scrubPasses unit < v.scrubPasses unit then
          v.scrubPassDone unit (v.time.localCount - began + 1) else v))

/-- SND pops its granules and sends them on its route: an ingress route emits one record a granule; an adding send
of a route with a tree enters the tree at the route's node, a flit's four granules at a time; otherwise a fabric
route goes out in flits and any other lands at its store, added there where the send adds, its granules counted at
every edge that they cross. The queue is busy for one cycle for eight granules (R159, R194, R216, R218, R236, R239,
R256). -/
def Obligations.SendsTakeTheirRoutes : Prop :=
  ∀ (q : Issue) (f : Fields) (s : State) (r : Route),
    let sh := nShape (List.range 16) .hod .num 9 allImm
    let g := s.fieldsOf q f sh
    let u := s.issue q 0x50
    let k := g.srcB + 1
    let v := u.popped q.core g.srcA k
    let es := u.front q.core g.srcA k
    let n := sendRouteNo g
    let gr := v.sendGranule q g
    let add := flagOf g 0
    let done (t : State) := (t.occupy q (ceilDiv k 8)).advance q
    s.runs q f sh (fun g => (s.route (sendRouteNo g)).isSome && (!flagOf g 0 || accFmts.contains g.fmt)) = true →
    u.holds q.core g.srcA k = true → v.route n = some r →
    (r.kind = 3 → exec (.snd q f) s =
      .next (done (es.foldl (fun s x => s.emit (.token r.destBrick (padTo 64 x))) v))) ∧
    (r.kind ≠ 3 → r.tree ≠ 0xFFFF → add = true →
      exec (.snd q f) s = .next (done ((fours es).zipIdx.foldl (fun s e =>
        s.enterNode 256 n r add (gr + 4 * e.2) e.2 r.node (q.core / 64) (corePort q.core) e.1) v))) ∧
    (r.kind ≠ 3 → ¬(r.tree ≠ 0xFFFF ∧ add = true) →
      (r.kind = 2 → exec (.snd q f) s = .next (done (v.sendFabric n r 0 es))) ∧
      (r.kind ≠ 2 → exec (.snd q f) s =
        .next (done ((v.crossEdges (q.core / 64) r.destBrick es.length).landGranules r add gr es))))

/-- SNDT pops an address entry. An entry that names no whole tile of a window is not read. A tile of a slot without
a Stamped tint is not read; a tile whose Check fails suspends the plan for its re-read; one of another format or
with reserved bits set is a format fault; any other leaves whole on its route, granule by granule. What the memory
code found on the read is counted (R120, R121, R158, R193, R351). -/
def Obligations.TilesAreSentWhole : Prop :=
  ∀ (q : Issue) (f : Fields) (err : Errors) (s : State) (r : Route) (x : Nat),
    let sh := nShape (List.range 15) .unused .hod 8 allImm
    let g := s.fieldsOf q f sh
    let u := s.issue q 0x51
    let v := u.popped q.core g.srcB 1
    let e := (u.front q.core g.srcB 1).getD 0 []
    let n := sendRouteNo g
    let gr := v.sendGranule q g
    let a := v.entryTile x (byteAt e 4)
    let t := received (v.load a (tileBytes g.fmt)) err
    let done (w : State) := (w.eccFound a (tileBytes g.fmt) q.ecc 0).advance q
    s.runs q f sh (fun g => (s.route (sendRouteNo g)).isSome) = true → u.holds q.core g.srcB 1 = true →
    (v.shortAddress q.core (field e 0 4) (tileBytes g.fmt) = none →
      exec (.sndt q f err) s = .next (v.advance q)) ∧
    (v.shortAddress q.core (field e 0 4) (tileBytes g.fmt) = some x → v.tileAt g.fmt a = false →
      exec (.sndt q f err) s = .next (v.advance q)) ∧
    (v.shortAddress q.core (field e 0 4) (tileBytes g.fmt) = some x → v.tileAt g.fmt a = true → v.route n = some r →
      (∀ slot, ((v.slotAt a).find? fun i => !v.stamped i) = some slot →
        exec (.sndt q f err) s = .next (done (v.refuseRead slot))) ∧
      (((v.slotAt a).find? fun i => !v.stamped i) = none →
        (tileChecks t = false → exec (.sndt q f err) s = .next (done (v.suspendFor
          { consumer := .nQueue q.core, address := a, fmt := g.fmt, dest := n * 2 ^ 25 + gr, failed := false }))) ∧
        (tileChecks t = true → (tileFormat t ≠ g.fmt ∨ tileReserved t ≠ 0) →
          exec (.sndt q f err) s = .next (done (v.formatFault q.core 6 1 (v.slotAt a)))) ∧
        (tileChecks t = true → tileFormat t = g.fmt → tileReserved t = 0 →
          exec (.sndt q f err) s = .next (done (v.sendRoute q.core n r false gr (tileGranules g.fmt t))))))

/-- DUE puts the granules of a route on the list of inputs, due a stated number of plan courses later; TSIG counts a
signal and sends it to its tie: as a packet of this module, or on the port of its path; LVA counts this core's
arrival at a level and sends its packet to the brick node (R36, R158, R159, R164, R251, R254, R256, R265, R266). -/
def Obligations.SignalsAndInputsLeave : Prop :=
  ∀ (q : Issue) (f : Fields) (s : State),
    (let sh := nShape [] .unused .unused 0 allImm
      let g := s.fieldsOf q f sh
      let n := sendRouteNo g
      let u := s.issue q 0x52
      s.runs q f sh (fun g => bits g.imm 0 4 != 0) = true →
      exec (.due q f) s = .next (State.advance { u with
        prog := { u.prog with
          inputs := u.prog.inputs ++ [{ need := .granules n (bits g.imm 4 16), due := u.prog.course + bits g.imm 0 4,
                                        cause := u.routeCause n }] } } q)) ∧
    (let sh := { bare [6, 7] with flags := 3, imm := allImm }
      let g := s.fieldsOf q f sh
      let u := (s.issue q 0x53).bump Reg.signalsSent
      let op := g.flags % 4
      let operand := bits g.imm 16 16
      s.runs q f sh (fun g => (s.tieTarget (bits g.imm 0 16)).isSome) = true →
      ∀ t : TieTarget, (s.issue q 0x53).tieTarget (bits g.imm 0 16) = some t →
      let tag := u.prog.course + t.offset
      let core := t.brick * 64 + t.core % 64
      let x := (s.issue q 0x53).coreSource q.core
      (t.path = 0xFFFF → exec (.tsig q f) s =
        .next ((u.emit (.packet (packetWord core 0 tag 0 (signalMessage operand t.tie op) x))).advance q)) ∧
      (∀ p, t.path ≠ 0xFFFF → u.routePort t.path = some p → exec (.tsig q f) s =
        .next ((u.outbound (outboundWord t.device p 0 core tag t.tie op operand x)).advance q)) ∧
      (t.path ≠ 0xFFFF → u.routePort t.path = none → exec (.tsig q f) s = .next (u.advance q))) ∧
    (let sh := { bare [6] with imm := 0xFF }
      let g := s.fieldsOf q f sh
      let u := (s.issue q 0x54).mapSeq q.core fun x =>
        { x with arrivals := Map.set x.arrivals 0 g.imm (Map.get x.arrivals 0 g.imm + 1) }
      s.runs q f sh anyFields = true →
      exec (.lva q f) s = .next ((u.emit (.packet (packetWord (q.core / 64 * 64) 2 u.prog.course 0
        (levelMessage g.imm) (u.coreSource q.core)))).advance q))

/-- A tie signal or an ingress set that the running plan declares waits in its router; an outbound packet goes to
its port; a level arrival counts at its node; a release waits at every brick node of the level and at the root, and
goes on to the child modules when it came from another module; anything else is stray. Housekeeping that does not
fit, or that meets a rest or a Hold course, is counted, and otherwise changes nothing (R253, R259, R265, R268,
R274). -/
def Obligations.SignalsReachTheirRouters : Prop :=
  ∀ (w : Nat) (s : State), w < 2 ^ 128 →
    (s.pointingOpen = true → s.declared w = true → bits w 83 3 ≠ 2 → bits w 83 3 ≠ 4 →
      exec (.signalArrival w) s = .next (s.holdSignal w)) ∧
    (s.pointingOpen = true → s.declared w = true → bits w 83 3 = 4 →
      exec (.signalArrival w) s = .next (s.outbound w)) ∧
    (∀ d, s.pointingOpen = true → bits w 83 3 = 2 → s.declared w = true → s.levelDecl (bits w 32 8) = some d →
      exec (.levelArrival w) s = .next (s.countArrival d
        (if bits w 5 2 = 0 then brickNode (bits w 92 4) d.level else rootNode d.level)
        (nearestCourse s.prog.course 16 (bits w 67 16)))) ∧
    (∀ d, s.pointingOpen = true → bits w 83 3 = 3 → s.declared w = true → s.levelDecl (bits w 32 8) = some d →
      let l := nearestCourse s.prog.course 16 (bits w 67 16)
      let own := bits w 17 15 == s.reg Reg.deviceId
      let u := if own then s else d.children.foldl (fun t c =>
        t.outbound (outboundWord c.2.1 c.1 3 (c.2.2 * 64) l 0 0 d.level (t.nodeSource (t.rootBrick d.level)))) s
      let bricks := (List.range 16).filter fun b => (u.level (brickNode b d.level)).expected != 0
      let one (t : Nat) : Signal :=
        { kind := 3, target := t, number := d.level, op := 0, operand := 0, landing := l, device := bits w 17 15,
          brick := bits w 13 4, cluster := 0, position := 0, source := 2, counted := false }
      exec (.levelRelease w) s =
        .next { u with point := { u.point with signals := u.point.signals ++ (bricks ++ [255]).map one } }) ∧
    ((s.pointingOpen = false ∨ s.declared w = false) →
      exec (.signalArrival w) s = .next (s.stray w) ∧ exec (.levelArrival w) s = .next (s.stray w) ∧
      exec (.levelRelease w) s = .next (s.stray w)) ∧
    (s.lowPriorities = true → exec (.pointingHousekeeping true) s = .next s) ∧
    (s.lowPriorities = false → exec (.pointingHousekeeping true) s = .next (s.bump Reg.housekeepingDeferred)) ∧
    exec (.pointingHousekeeping false) s = .next (s.bump Reg.housekeepingDeferred)

/-- On a fabric port of an awake module, a slot 2 whose check fails is discarded and counted; otherwise its
acknowledgement is applied, and a valid message is taken only in sequence, any other being discarded and counted. A
message unacknowledged after three courses is to go again with every later one (R252, R253, R254, R268). -/
def Obligations.SlotMessagesTakenInOrder : Prop :=
  ∀ (port lane w : Nat) (s : State), port < 64 → lane < 8 → w < 2 ^ 128 → s.awake = true → s.portRole port = 0 →
    let p := (s.port port).acknowledge (bits w 97 7)
    let u := s.setPort port p
    let expected := match p.lastSeq with
      | none => 0
      | some n => (n + 1) % 128
    (wordChecks w = false → exec (.pointingMessage port lane w) s = .next (s.bump Reg.pointingDiscards)) ∧
    (wordChecks w = true → bit w 111 = false → exec (.pointingMessage port lane w) s = .next u) ∧
    (wordChecks w = true → bit w 111 = true → bits w 104 7 ≠ expected →
      exec (.pointingMessage port lane w) s = .next (u.bump Reg.pointingDiscards)) ∧
    (wordChecks w = true → bit w 111 = true → bits w 104 7 = expected →
      exec (.pointingMessage port lane w) s =
        .next ((u.setPort port { p with lastSeq := some expected }).deliverMessage w)) ∧
    (let x := s.port port
      let late := x.queue.dropWhile fun m => !(m.sentAt.any fun t => decide (t + 3 ≤ s.time.localCount))
      let again := (late.filter fun m => m.sentAt.isSome).map fun m => m.seq
      exec (.pointingResend port) s = .next (if again.length = 0 then s else s.setPort port { x with resend := again }))

/-- A granted write of ones to an engine's flags clears those flags and their cluster's event counters, or those of
every engine at once; a flag that the hardware raises in the same cycle stays set and counts a collision; the
request is answered Ok (R103, R106, R107, R414). -/
def Obligations.EngineFlagsCleared : Prop :=
  ∀ (v : Via) (value : Nat) (s : State), value < 2 ^ 64 →
    (∀ cluster position engine raised : Nat, cluster < 128 → position < 8 → engine < 5 →
      s.grantsNumber v (0xA100 + cluster) (1 + 5 * position + engine) 1 value = true →
      let u := s.countRequest v
      let r := flagReg (8 * cluster + position) engine
      let w := (bitList 5 value).foldl (fun t i => t.setReg (eventReg cluster i) 0) (u.setReg r (clearBits (u.reg r) value))
      exec (.engineFlagsClear v cluster position engine value raised) s =
        .next (((w.bumpBy Reg.clearCollisions (countBits 5 (value &&& raised))).answerOk v).raise
          (8 * cluster + position) engine raised)) ∧
    (∀ raised : List (Nat × Nat), (∀ e ∈ raised, e.1 < 5120) → s.grantsNumber v 0xA181 2 1 value = true →
      let u := s.countRequest v
      let w := { u with regs := u.regs.filterMap (keptEntry value) }
      let hits := raised.foldl (fun (n : Nat) (e : Nat × Nat) => n + countBits 5 (value &&& e.2)) 0
      exec (.clearAllFlags v value raised) s = .next (raised.foldl (fun (t : State) (e : Nat × Nat) => t.raise (e.1 / 5) (e.1 % 5) e.2)
        ((w.bumpBy Reg.clearCollisions hits).answerOk v)))

/-- Once a core's corrected words stand at the threshold, on a cluster that is present, in Run or Hold: a free spare
that no hard fault takes begins a substitution unless the governor serialises it; a position met while another
substitution of its cluster runs is recorded; any other is reported as exhausted. A granted SubstituteCore for an
enabled cluster with a free spare, outside Limewash and not governed, begins one with trigger 2 (R48, R50, R53, R64,
R520). -/
def Obligations.SubstitutionsBegin : Prop :=
  ∀ (cluster position : Nat) (s : State), cluster < 128 → position < 8 → s.clusterOn cluster = true →
    (s.atThreshold (8 * cluster + position) = true → (s.power.mode = .run ∨ s.power.mode = .hold) →
      (s.reg (spareReg cluster) = 0 → s.spareTaken cluster = false → s.thresholdHeld (8 * cluster + position) = false →
        s.blocker 3 1 = none →
        exec (.correctedThreshold cluster position) s = .next (State.startSubstitution cluster position 1 s)) ∧
      (∀ x, s.reg (spareReg cluster) = 1 → Map.find s.units.substitutions cluster = some x →
        exec (.correctedThreshold cluster position) s = .next { s with
          units := { s.units with substitutions := Map.put s.units.substitutions cluster (x.record position) } }) ∧
      (1 < s.reg (spareReg cluster) →
        exec (.correctedThreshold cluster position) s = .next (s.noticeExhausted cluster position))) ∧
    (∀ v : Via, s.grantsNumber v 0x9041 1 2 (8 * cluster + position) = true →
      let u := s.countRequest v
      u.clusterOn cluster = true → u.reg (spareReg cluster) = 0 → u.spareTaken cluster = false → u.limewash = false →
      u.blocker 3 2 = none →
      exec (.substituteCore v (8 * cluster + position)) s =
        .next ((State.startSubstitution cluster position 2 u).answerOk v))

/-- From the course after a substitution's admission on, a maintenance micro-step of no bytes, or one that meets a
rest or a Hold course, is counted as deferred, any other adds its portion, within what its course still has; the
register copy of a finished store copy in its due course is marked with that course where it fits, and otherwise
deferred and counted; at a quoin course, or with no plan running in a course after the register copy, the swap drops
the record and the spare takes the position; a spare fault abandons the substitution and leaves SpareState 3 (R39,
R50, R52, R53, R54). -/
def Obligations.SubstitutionsRun : Prop :=
  ∀ (cluster : Nat) (x : Subst) (s : State), cluster < 128 → Map.find s.units.substitutions cluster = some x →
    let put (y : Subst) : State :=
      { s with units := { s.units with substitutions := Map.put s.units.substitutions cluster y } }
    let l := s.time.localCount
    (x.since < l → x.complete cluster = false →
      exec (.maintenanceMicrostep cluster 0) s = .next (s.bump Reg.maintenanceDeferred) ∧
      ∀ bytes, bytes ≠ 0 →
        (s.lowPriorities = false → exec (.maintenanceMicrostep cluster bytes) s = .next (s.bump Reg.maintenanceDeferred)) ∧
        (s.lowPriorities = true →
          let done := if x.portionAt = l then x.portion else 0
          let n := min bytes (s.copyLimit - done)
          exec (.maintenanceMicrostep cluster bytes) s =
            .next (put { x with copied := min (substBytes cluster) (x.copied + n), portionAt := l, portion := done + n }))) ∧
    (x.complete cluster = true → s.registersDue x = true →
      let later := (put { x with deferred := if s.prog.running then some (s.prog.course + 1) else none }).bump
        Reg.maintenanceDeferred
      exec (.substitutionRegisterCopy cluster false) s = .next later ∧
      (s.lowPriorities = false → exec (.substitutionRegisterCopy cluster true) s = .next later) ∧
      (s.lowPriorities = true → exec (.substitutionRegisterCopy cluster true) s = .next (put { x with registers := some l }))) ∧
    (∀ k, x.registers = some k → (s.prog.running = true → s.atQuoin = true) → (s.prog.running = false → k < l) →
      let u := { s with units := { s.units with substitutions := Map.drop s.units.substitutions cluster } }
      exec (.substitutionSwap cluster) s =
        .next (x.others.foldl (fun t p => t.noticeExhausted cluster p) (u.spareTakes cluster x.position))) ∧
    (let u := { s with units := { s.units with substitutions := Map.drop s.units.substitutions cluster } }
     exec (.spareFault cluster) s =
        .next (((u.setReg (spareReg cluster) 3).bump Reg.substitutionsAbandoned).notice Note.substitutionAbandoned
          (srcCluster cluster) (u16 cluster ++ u8 x.position ++ u8 2)))

/-- A granted RetireCluster of an enabled cluster with none pending, not governed, makes the cluster pending; 0xFFFF
takes back a pending one that no loaded plan was placed against. A unit map change retires every cluster that is
due, one after another, counts the map's serial up and sends UnitMapChanged, and refuses a plan that is loaded and
not running; with none due it does nothing (R55, R57, R58, R65, R294, R518, R520). -/
def Obligations.ClustersRetire : Prop :=
  ∀ (v : Via) (cluster : Nat) (s : State),
    (s.grantsNumber v 0x9020 6 2 cluster = true → cluster < 128 →
      let u := s.countRequest v
      u.clusterOn cluster = true → u.reg Reg.retirePending = 0xFFFF → u.blocker 4 0 = none →
      exec (.retireCluster v cluster) s = .next ((u.pendRetirement cluster).answerOk v)) ∧
    (s.grantsNumber v 0x9020 6 2 0xFFFF = true →
      let u := s.countRequest v
      let p := u.reg Reg.retirePending
      p ≠ 0xFFFF → u.loadedAgainst p = false →
      exec (.retireCluster v 0xFFFF) s = .next ((u.unpend p).answerOk v)) ∧
    (s.dueRetirements = [] → exec .unitMapChange s = .next s) ∧
    (s.dueRetirements ≠ [] →
      let u := s.dueRetirements.foldl State.retire s
      let w := { u with units := { u.units with mapSerial := u.units.mapSerial + 1 } }
      let x := w.notice Note.unitMapChanged srcModule (u32 w.units.mapSerial ++ w.unitMapDigest)
      (x.plan.loaded = none ∨ x.prog.running = true → exec .unitMapChange s = .next x) ∧
      ∀ p, x.plan.loaded = some p → x.prog.running = false →
        exec .unitMapChange s = .next (x.forgetLaunch.refusePlan (7, rcNoRoom, siteOf 1 0 0) p.digest))

/-- A granted write of CourseSource with no plan armed or running: the same value changes nothing; Free-run leaves
the module Unlocked; another source keeps the count, drops the parent and what was being acquired, and shows the
entries of a root where the module is one; a source that ignores the reference has it found valid anew. A granted
CourseLoad with the low 20 bits 0, on a root with no plan armed or running, is kept until the course that takes it;
otherwise the answer is RangeError or StateRefused and nothing is kept (R11, R12, R18, R419). -/
def Obligations.CourseSourceRequests : Prop :=
  ∀ (v : Via) (n : Nat) (s : State),
    let u := s.countRequest v
    (s.grantsNumber v 0x2000 1 1 n = true → u.planActive = false →
      (n = u.reg Reg.courseSource → exec (.courseSourceWrite v n) s = .next (u.answerOk v)) ∧
      (n ≠ u.reg Reg.courseSource → n = 3 →
        let w := u.setReg Reg.courseSource 3
        exec (.courseSourceWrite v n) s = .next (State.answerOk (State.unlock
          { w with time := { w.time with refValid := false, goodPulses := 0, lastPulse := none } }) v)) ∧
      (n ≠ u.reg Reg.courseSource → n ≠ 3 →
        let w := u.setReg Reg.courseSource n
        let x := if 2 ≤ n then { w with time := { w.time with refValid := false, goodPulses := 0, lastPulse := none } } else w
        let y := x.setReg Reg.parentPort 0xFF
        exec (.courseSourceWrite v n) s = .next (State.answerOk (State.showSource
          { y with time := { y.time with markless := 0, acquiring := none, step := none } }) v))) ∧
    (s.grantsNumber v 0x2000 3 4 n = true →
      (n % 2 ^ 20 ≠ 0 → exec (.courseLoad v n) s = .next (u.respond v 0x2000 3 2 rcRangeError [])) ∧
      (n % 2 ^ 20 = 0 → u.isRoot = true → u.planActive = false →
        exec (.courseLoad v n) s = .next (State.answerOk { u with time := { u.time with load := some n } } v)) ∧
      (n % 2 ^ 20 = 0 → (u.isRoot = false ∨ u.planActive = true) →
        exec (.courseLoad v n) s = .next (u.respond v 0x2000 3 2 rcStateRefused [])))

/-- An awake module whose reference becomes invalid marks it so, and one that ignores its reference does nothing;
one whose holdover is due takes LockState 3, drops its parent and sends CourseHoldover; one whose source and count
are settled is Locked, a root with Depth 0, no parent and its own RootId, and sends CourseLocked; a reference that
returns is valid again, the module a root, and where its count is known compared with it, while a fed module in
Holdover takes the first port of the accepted group; a phase step puts the source's count in place, sends
CoursePhaseStep, and with a plan running makes the next course a phase course, unless it rests (R10, R11, R14, R18,
R19). -/
def Obligations.LockAndHoldover : Prop :=
  ∀ (count : Nat) (phase8 : Int) (s : State), s.awake = true →
    (let t := { s with time := { s.time with refValid := false, goodPulses := 0, markless := 0, marked := false } }
     (s.reg Reg.courseSource ≤ 1 → exec .referenceInvalid s = .next t.showSource) ∧
      (1 < s.reg Reg.courseSource → exec .referenceInvalid s = .next s)) ∧
    (s.holdoverDue = true → exec .courseHoldover s =
      .next (((s.setReg Reg.lockState 3).setReg Reg.parentPort 0xFF).notice Note.courseHoldover srcModule
        (u8 (s.reg Reg.parentPort)))) ∧
    (s.holdoverDue = false → exec .courseHoldover s = .next s) ∧
    (s.time.known = true → s.time.acquiring.isSome = true →
      let w := s.setReg Reg.lockState 2
      let t := if w.isRoot && w.reg Reg.lockState != 0 then
          ((w.setReg Reg.depth 0).setReg Reg.parentPort 0xFF).setReg Reg.rootId (w.reg Reg.deviceId) else w
      let x := { t with time := { t.time with acquiring := none } }
      exec .courseLocked s = .next (x.notice Note.courseLocked srcModule
        (u8 (x.reg Reg.depth) ++ u16 (x.reg Reg.rootId) ++ u8 (x.reg Reg.parentPort)))) ∧
    (s.reg Reg.courseSource < 2 → (s.isFed = false ∨ s.reg Reg.lockState ≠ 3 ∨ firstParent s.accepted = none) →
      let t := { s with time := { s.time with refValid := true, goodPulses := 2, markless := 0 } }
      (s.time.known = false → exec (.sourceReturn count phase8) s = .next t.showSource) ∧
      (s.time.known = true → t.showSource.time.known = true ∧
        exec (.sourceReturn count phase8) s = .next (t.showSource.compareSource count phase8))) ∧
    (∀ e, s.isFed = true → s.reg Reg.lockState = 3 → s.reg Reg.courseSource ≠ 3 → firstParent s.accepted = some e →
      exec (.sourceReturn count phase8) s = .next (s.acceptParent e.1 e.2)) ∧
    (s.time.step = some (count, phase8) →
      let t := { s with
        time := { s.time with
          step := none, slew := 0, count := count,
          acquiring := if s.reg Reg.lockState = 2 then s.time.acquiring else some s.time.localCount } }
      let w := if s.prog.running && !s.prog.next.isRest then { t with prog := { t.prog with next := .phase } } else t
      exec .phaseStep s = .next (w.notice Note.coursePhaseStep srcModule
        (u64 (ofSigned 64 ((count : Int) - (s.time.count : Int))) ++ u32 (ofSigned 32 phase8)))) ∧
    (s.time.step = none → exec .phaseStep s = .next s)

/-- A mark whose check is right, on a fabric port of an awake module, replaces the port's mark; a root does no more.
On a fed module every qualifying mark of the course outside the accepted group counts a conflict, once; the parent's
mark inside it gives Depth and RootId, ends the run without a mark and steers the phase; a module without a parent,
not Locked or four courses without a mark, takes the first of the accepted group as its parent. After four courses
without a valid mark a fed module that knows its count selects again (R13, R14, R15, R18, R19). -/
def Obligations.MarksAndParents : Prop :=
  ∀ (port w : Nat) (phase8 : Int) (s : State), port < 64 → w < 2 ^ 128 → s.awake = true → s.portRole port = 0 →
    wordChecks w = true →
    let m := markOf w s.time.localCount phase8
    let t := { s with time := { s.time with marks := Map.put s.time.marks port m } }
    let l := t.disagreeing
    let b := t.bumpBy Reg.courseMarkConflict l.length
    let x := { b with time := { b.time with conflicts := b.time.conflicts ++ l } }
    (t.isRoot = true → exec (.courseMark port w phase8) s = .next t) ∧
    (t.isRoot = false →
      (x.reg Reg.parentPort = port → x.isAccepted port = true →
        let y := (x.setReg Reg.depth (bits w 104 8 + 1)).setReg Reg.rootId (bits w 65 15)
        exec (.courseMark port w phase8) s =
          .next { y with time := { y.time with markless := 0, marked := true, slew := phase8 } }) ∧
      (x.reg Reg.parentPort = port → x.isAccepted port = false → exec (.courseMark port w phase8) s = .next x) ∧
      (∀ e, port ≠ 0xFF → x.reg Reg.parentPort = 0xFF → (x.reg Reg.lockState ≠ 2 ∨ 4 ≤ x.time.markless) →
        firstParent x.accepted = some e → exec (.courseMark port w phase8) s = .next (x.acceptParent e.1 e.2))) ∧
    (s.isFed = true → s.time.known = true → 4 ≤ s.time.markless →
      (∀ e, firstParent s.accepted = some e → exec .parentReselect s = .next (s.acceptParent e.1 e.2)) ∧
      (firstParent s.accepted = none → exec .parentReselect s = .next s))

/-- A course of an awake module ticks its counts, takes a Free-run load, counts Holdover, ends a pairing, runs what
cycle 543 decided for the plan (or, with none, the swaps that wait), opens its ports, its bond and its ingress
engine, and sends the statuses and the sweep that fall due; in Sleep and in reset only the always-on island counts;
powered off nothing happens. An epoch course of an awake module marks itself, counts the reference's pulse, gives a
pulsed root its count, sends the marks that waited for it, stores the clock's errors, begins the epoch interval of
units and ports, and sweeps once the count is known (R8, R9, R10, R12, R19, R22, R25, R28, R439, R453). -/
def Obligations.CoursesBegin : Prop :=
  ∀ (phase8 offset : Int) (ber : List (Nat × Nat)) (s : State),
    (s.awake = true → s.start.lifecycleRestart = false →
      let u := (s.mapTime Time.tick).loadFreeRun
      let v := (u.bumpBy Reg.holdoverCourses (flagNat (u.reg Reg.lockState == 3))).endPairing
      let w := if v.prog.running then v.planCourse else v.doHardSwaps
      let x := { w with time := { w.time with marksOwed := w.onReference && w.time.load.isSome } }
      exec .courseStart s =
        .next ((x.ports.foldl (fun t e => t.openPort e.1) x).openBond.openEngine.sendStatuses.sweepLocal)) ∧
    (s.awake = true → s.start.lifecycleRestart = true →
      exec .courseStart s = .next (s.mapTime Time.tick).internalReset) ∧
    (s.power.mode = .sleep ∨ s.power.mode = .inReset →
      let u := if s.power.mode = .sleep then s.bump Reg.sleepCourses else s
      exec .courseStart s = .next { u with
        time := { u.time with
          keeper := u.time.keeper + 1, count := if u.time.known then u.time.count + 1 else u.time.count } }) ∧
    (s.power.mode = .off → exec .courseStart s = .next s) ∧
    (s.awake = true →
      let t := State.countPulse { s with time := { s.time with epoch := true } } phase8
      let u := if t.pulsed then t.rootEpoch else t
      let w := (u.sendMarks.epochClock phase8 offset).epochUnits ber
      exec (.epochCourse phase8 offset ber) s = .next (if w.time.known then w.sweep else w)) ∧
    (s.awake = false → exec (.epochCourse phase8 offset ber) s = .next s)

/-- While the plan course exceeds the count the next course leads, unless it is a phase course; a requested rest
takes the next work course, slip, suspension or phase course, or is served by a grout or a lead course; cycle 543
brings the arrays to the end of the course, sends marks that waited, ends heartbeats, applies landed signals, ends
the mirror's course, takes the snapshot and, with a plan running and not suspended, decides what the next course
carries; after StallLimit courses that slipped PlanStalled is sent once and the bond asks its partner to take over
(R19, R23, R27, R28, R34, R121, R259, R505). -/
def Obligations.PlanCoursesDecided : Prop :=
  ∀ s : State,
    (s.prog.running = true → s.time.count < s.prog.course → s.prog.next ≠ .phase →
      exec .leadCourse s = .next { s with prog := { s.prog with next := .lead } }) ∧
    (¬(s.prog.running = true ∧ s.time.count < s.prog.course ∧ s.prog.next ≠ .phase) →
      exec .leadCourse s = .next s) ∧
    (s.prog.running = true → (s.prog.restPower = true ∨ s.prog.restThermal = true) →
      let t := { s with prog := { s.prog with restPower := false, restThermal := false } }
      let forced := t.forceRest s.prog.restPower s.prog.restThermal
      (s.time.count < s.prog.course → exec .restCourse s = .next t) ∧
      (s.prog.course ≤ s.time.count →
        (∀ n, s.prog.next = .work n → n ≠ s.prog.course + 2 → exec .restCourse s = .next forced) ∧
        (s.prog.next = .work (s.prog.course + 2) →
          exec .restCourse s = .next (t.serveRest s.prog.restThermal (s.prog.course + 1))) ∧
        (∀ c, s.prog.next = .slip c → exec .restCourse s = .next forced) ∧
        (s.prog.next = .phase → exec .restCourse s = .next forced) ∧
        (s.prog.next = .idle → s.prog.suspension.isSome = true → exec .restCourse s = .next forced) ∧
        (∀ g, s.prog.next = .grout g → exec .restCourse s = .next (t.serveRest s.prog.restThermal g)))) ∧
    (s.awake = true →
      let t := s.runArrays.sendMarks.heartbeatEnd.applyPoint
      let u := if t.courseEnds then t.mirrorCourse else t
      let w := u.showProgress.capture.captureReport
      (w.prog.running = true → w.prog.suspension = none → exec .dueCheck s = .next w.settleNext) ∧
      ((w.prog.running = false ∨ w.prog.suspension ≠ none) → exec .dueCheck s = .next w)) ∧
    (s.prog.running = true → s.prog.stalled = false → s.reg Reg.stallLimit ≤ s.prog.stall →
      let t := s.notice Note.planStalled srcModule (u64 (s.prog.course + 1) ++ u8 s.prog.counts.cause)
      exec .planStalled s = .next (State.mapBond { t with prog := { t.prog with stalled := true } }
        fun b => { b with yield := true })) ∧
    (¬(s.prog.running = true ∧ s.prog.stalled = false ∧ s.reg Reg.stallLimit ≤ s.prog.stall) →
      exec .planStalled s = .next s)

/-- A granted LaunchCourse that the checks of R568 accept arms the module; one that they refuse records its order
and port. A module that is ready launches its loaded plan, sends LaunchLate with a lag, and runs the first plan
course; one that is not ready does nothing. At the end of the late limit an armed module that knows its count is
refused and sends LaunchRefused (R31, R32, R199, R233, R284, R568). -/
def Obligations.PlansLaunch : Prop :=
  ∀ (v : Via) (n : Nat) (p : Plan) (s : State),
    (s.grantsNumber v 0x2020 1 4 n = true →
      let u := s.countRequest v
      let j := u.judgeLaunch n
      let w := (u.setReg Reg.launchRefusal j.1).setReg Reg.launchRefusalPort j.2.1
      (j.1 = 0 → exec (.launchCourseWrite v n) s =
        .next (((w.setReg Reg.launchCourse n).setReg Reg.launchState 1).answerOk v)) ∧
      (j.1 ≠ 0 → exec (.launchCourseWrite v n) s = .next (w.respond v 0x2020 1 2 j.2.2 []))) ∧
    (s.plan.loaded = some p → s.launchReady p = true →
      let late := s.time.count - s.reg Reg.launchCourse
      let t := s.startPlan p
      let u := if late = 0 then t else t.notice Note.launchLate srcModule (u64 late)
      exec .launch s = .next (u.runCourse u.prog.launchCourse)) ∧
    (s.plan.loaded = some p → s.launchReady p = false → exec .launch s = .next s) ∧
    (s.plan.loaded = none → exec .launch s = .next s) ∧
    (s.reg Reg.launchState = 1 → s.time.known = true →
      s.reg Reg.launchCourse + s.reg Reg.launchLateLimit ≤ s.time.count →
      let t := s.setReg Reg.launchState 3
      exec .launchRefused s =
        .next (t.notice Note.launchRefused srcModule (u64 (t.reg Reg.launchLateLimit + 1)))) ∧
    (¬(s.reg Reg.launchState = 1 ∧ s.time.known = true ∧
        s.reg Reg.launchCourse + s.reg Reg.launchLateLimit ≤ s.time.count) → exec .launchRefused s = .next s)

/-- On a fabric port in Run or Hold, outside Limewash, a flit whose codeword and check are right and that the
landing map expects is judged good; one of a distribution is taken for its set, and another is filed for its course
where it is new; one seen before is only judged; one the map does not expect, and one whose codeword or check is
wrong, fails. A late flit is written and its granules counted. A report releases what it names good and queues what
failed, its second part after its first; a report missing for four courses queues every flit of its course. The
first queued flit of an up lane goes again, one in a work course and thirty in another, and in plan work a landed
flit of a relayed route leaves under a new slot and tag, or enters the tree at this module's node (R224, R225, R227,
R228, R229, R230, R231, R232, R235). -/
def Obligations.FlitsLandAndGoAgain : Prop :=
  ∀ (port lane slot : Nat) (s : State), port < 64 → lane < 8 → s.portRole port = 0 → s.awake = true →
    (∀ (b : Bytes) (fecOk : Bool) (corrected : Nat), b.length = 264 → slot < 29 →
      (s.power.mode = .run ∨ s.power.mode = .hold) → s.limewash = false →
      let u := s.bumpBy (Reg.fecCorrected port) corrected
      let f := flitOf b
      let c := u.flitCourse f
      let good : State := u.setPort port ((u.port port).setLane lane
        (((u.port port).lane lane).judge (u.slotCourse port lane slot (some f)) slot false))
      (fecOk = false →
        let p := u.port port
        let v := (u.bump (Reg.fecUncorrectable port)).setPort port
          (p.setLane lane { p.lane lane with errors := (p.lane lane).errors + 1 })
        exec (.flitReceived port lane slot b fecOk corrected) s =
          .next (v.failFlit port lane slot slot v.prog.course none)) ∧
      (fecOk = true → flitChecks b = false → exec (.flitReceived port lane slot b fecOk corrected) s =
        .next (u.failFlit port lane slot slot u.prog.course none)) ∧
      (fecOk = true → flitChecks b = true →
        (f.slot = 31 → exec (.flitReceived port lane slot b fecOk corrected) s = .next u) ∧
        (f.slot ≠ 31 → u.landingAt port lane f.slot c = none →
          exec (.flitReceived port lane slot b fecOk corrected) s =
            .next (u.failFlit port lane slot f.slot c (some f))) ∧
        (∀ l, u.landingAt port lane f.slot c = some l → (u.route l.route).any u.distribution = true →
          l.route = f.route → f.slot < 28 → exec (.flitReceived port lane slot b fecOk corrected) s =
            .next ((good.bump (Reg.flitsLanded port)).takeDistribution port c lane f.slot f.granules)) ∧
        (∀ l, u.landingAt port lane f.slot c = some l → (u.route l.route).any u.distribution = false →
          l.route = f.route → l.flit = f.index → f.slot < 28 →
          let t := good
          let p := t.port port
          (p.seen.contains (f.route, f.index, f.tag) = true →
            exec (.flitReceived port lane slot b fecOk corrected) s = .next t) ∧
          (p.seen.contains (f.route, f.index, f.tag) = false →
            let recent := p.seen.filter fun x =>
              decide (t.prog.course ≤ nearestCourse t.prog.course 5 x.2.2 + 12)
            exec (.flitReceived port lane slot b fecOk corrected) s =
              .next ((t.setPort port { p with seen := (f.route, f.index, f.tag) :: recent }).fileFlit port slot f l))))) ∧
    (∀ f r, (s.port port).late = f :: r → exec (.lateFlitWrite port) s =
      .next (((s.setPort port { s.port port with late := r }).bumpBy (Reg.lateGranules port) f.count).writeFlit port f)) ∧
    (∀ w, w < 2 ^ 128 → wordChecks w = true →
      let u := if bit w 76 then s.applyReport port lane (bits w 71 5) (bits w 42 29) else s
      exec (.linkReport port lane w) s =
        .next (if bit w 111 then u.applyReport port lane (bits w 106 5) (bits w 77 29) else u)) ∧
    (∀ course, let l := (s.port port).lane lane
      let old (t : Nat) : Bool := decide (t + 4 ≤ s.time.localCount)
      (l.sent.any fun e => e.2.tag == course % 32 && old e.1) = true ∨
        (old l.resent.1 = true ∧ (l.retried.any fun e => e.1 == course % 32) = true) →
      exec (.reportTimeout port lane course) s =
        .next ((s.applyReport port lane (course % 32) (2 ^ 29 - 1)).bump (Reg.reportTimeouts port))) ∧
    (∀ f r, let p := s.port port
      let l := p.lane lane
      let k := s.resentNow l
      l.retries = f :: r → l.status = 2 → (s.power.mode = .run ∨ s.power.mode = .hold) → s.limewash = false →
      k < (if s.working then 1 else 30) →
      let pos := if s.working then 28 else k
      let u := s.setPort port (p.setLane lane
        { l with retries := r, retried := l.retried ++ [(s.prog.course % 32, pos, f)], resent := (s.time.localCount, k + 1) })
      exec (.linkRetry port lane) s = .next (State.emit
        (((u.bump (Reg.flitsSent port)).bump (Reg.retriesSent port)).bumpBy Reg.retryFlits (flagNat u.working))
        (.flit port lane pos f))) ∧
    (∀ route index egress f, egress < 64 → s.portRole egress = 0 → slot < 28 → s.relays route = true → s.issues = true →
      (s.port port).landing.find? (fun x => x.route == route && x.index == index) = some f →
      let u := s.setPort port { s.port port with landing := (s.port port).landing.erase f }
      let v := (u.bump (Reg.flitsLanded port)).bump Reg.relayFlits
      (((v.route route).filter fun r => r.tree != 0xFFFF && r.add) = none →
        exec (.relayForward port route index egress lane slot) s =
          .next (v.sendFlit egress lane 0 { f with slot := slot, tag := v.prog.course % 32 })) ∧
      (∀ r, ((v.route route).filter fun r => r.tree != 0xFFFF && r.add) = some r →
        exec (.relayForward port route index egress lane slot) s =
          .next (v.enterNode 256 route r true (4 * index) index r.node (port / 4) (100 + port % 4) f.granules)))

/-- A lane that is up and loses its signal, or reaches the error limit, retrains and LinkDown is sent. A training
that ends moves its lane to up, to a full training or to down. A granted Retrain of a link that is up, not governed,
retrains every lane. Another partner makes the port train anew. A training word moves the port on by one phase, its
identity recorded in phase 5 unless the port is down, and out of phase 6 the port is up; a timeout goes back to
phase 1. A partner of another role is counted and leaves the port down. A probe stores half of the round trip less
the turnaround, and reports a delay above Dmax while the plan runs (R16, R233, R243, R244, R245, R246, R249, R382,
R383, R384, R520). -/
def Obligations.PortsTrain : Prop :=
  ∀ (port lane : Nat) (s : State), port < 64 → lane < 8 → s.portRole port = 0 →
    let p := s.port port
    let l := p.lane lane
    (∀ cause, (cause = 1 ∨ cause = 2) → l.status = 2 → (cause = 2 → s.reg Reg.laneErrorLimit ≤ l.errors) →
      let u := s.setPort port (p.setLane lane { l with status := 3 })
      exec (.laneDown port lane cause) s =
        .next ((((u.bump Reg.laneDowns).bump (Reg.retrains port)).refreshLink port).noticeLinkDown port cause)) ∧
    (∀ full ok : Bool, (full = true → l.status = 0 ∨ l.status = 1) → (full = false → l.status = 3) →
      let u := s.setPort port (p.setLane lane { l with
        status := if ok then 2 else if full then 0 else 1
        errors := if ok then 0 else l.errors })
      exec (.laneRetrainDone port lane full ok) s = .next (if full && !ok then
        (u.refreshLink port).noticeLinkDown port 4 else u.refreshLink port)) ∧
    (∀ v value, s.grantsNumber v (0x7100 + port) 0x10 7 value = true →
      let u := s.countRequest v
      1 < u.reg (Reg.linkState port) → u.blocker 7 port = none →
      let w := u.setPort port { (u.port port).allLanes 3 with phase := 3, requested := true }
      exec (.retrain v port value) s =
        .next (((w.bump (Reg.retrains port)).setReg (Reg.linkState port) 3).answerOk v)) ∧
    (∀ device partnerPort, device < 2 ^ 15 → partnerPort < 64 → s.reg (Reg.linkState port) = 2 →
      ¬(device = s.reg (Reg.partnerDeviceId port) ∧ partnerPort = s.reg (Reg.partnerPort port)) →
      let u := ((s.setPort port { p.allLanes 1 with phase := 1 }).refreshLink port).noticeLinkDown port 3
      (u.neighbour port = none → exec (.partnerChange port device partnerPort) s = .next u) ∧
      (∀ n, u.neighbour port = some n → n.partnerDevice = device ∧ n.partnerPort = partnerPort →
        exec (.partnerChange port device partnerPort) s = .next u) ∧
      (∀ n, u.neighbour port = some n → ¬(n.partnerDevice = device ∧ n.partnerPort = partnerPort) →
        exec (.partnerChange port device partnerPort) s = .next (u.notice Note.partnerMismatch (srcPort port)
          (u8 port ++ u16 n.partnerDevice ++ u16 device ++ u8 partnerPort)))) ∧
    (∀ w, w < 2 ^ 128 →
      ((p.phase = 1 ∨ p.phase = 2) →
        exec (.trainingPhase port w) s = .next (s.toPhase port (p.phase + 1))) ∧
      (p.phase = 3 → wordReady w 3 = true → exec (.trainingPhase port w) s = .next (s.toPhase port 4)) ∧
      (p.phase = 5 → p.linkState = 0 → exec (.trainingPhase port w) s = .next s) ∧
      (p.phase = 5 → p.linkState ≠ 0 → wordReady w 5 = true → (wordIdentity w).1 = 0 → (wordIdentity w).2.1 ≠ 0x7FFF →
        s.reg Reg.deviceId ≠ 0x7FFF → exec (.trainingPhase port w) s =
          .next ((s.setPort port { p with identity := some (wordIdentity w) }).toPhase port 6)) ∧
      (p.phase = 6 → wordReady w 6 = true → exec (.trainingPhase port w) s = .next (s.portUp port))) ∧
    (1 ≤ p.phase → p.phase ≤ 6 → exec (.trainingTimeout port) s =
      .next (((s.bump Reg.trainingTimeouts).setPort port { p.allLanes 1 with phase := 1 }).refreshLink port)) ∧
    (∀ role device, p.phase = 5 → role ≠ 0 → exec (.portRoleMismatch port role device) s =
      .next ((((s.bump Reg.roleMismatches).setPort port (p.allLanes 0)).refreshLink port).notice
        Note.portRoleMismatch (srcPort port) (u8 port ++ u8 role ++ u16 device))) ∧
    (∀ trip turn, s.awake = true →
      let d := (trip - turn) / 2
      let u := (s.emit (.probe port)).setReg (Reg.portDelay port) d
      (∀ n, u.neighbour port = some n → u.prog.running = true → n.dmax < ceilDiv d 8 →
        exec (.delayProbe port trip turn) s =
          .next (u.notice Note.delayExceeded (srcPort port) (u8 port ++ u32 d ++ u32 n.dmax))) ∧
      ((∀ n, u.neighbour port = some n → ¬(u.prog.running = true ∧ n.dmax < ceilDiv d 8)) →
        exec (.delayProbe port trip turn) s = .next u))

/-- On an enabled edge, a failed block is counted and, with a plan running and not suspended, suspends it for one
course; a resent block that fails as well also retrains the edge, and the suspension waits for it; a loss of lock
retrains an edge that was not retraining, and sends EdgeRetrain; when the retrain is done the edge is up and no
suspension waits for it (R221, R249). -/
def Obligations.EdgesFailAndRetrain : Prop :=
  ∀ (e : Nat) (s : State), e < 24 → s.edgeOn e = true →
    let b := s.bump (Reg.blockFailures e)
    (b.prog.running = true → b.prog.suspension = none → exec (.edgeBlockFailure e) s = .next { b with
      prog := { b.prog with suspension := some { waiting := [], edges := [], courses := 1, cause := 1 } } }) ∧
    ((b.prog.running = false ∨ b.prog.suspension ≠ none) → exec (.edgeBlockFailure e) s = .next b) ∧
    (let u := b.suspendEdge.retrainEdge e 1
      let wait (x : Suspension) : Suspension := if x.edges.contains e then x else { x with edges := x.edges ++ [e] }
      exec (.edgeRetrain e) s =
        .next { u with prog := { u.prog with suspension := u.prog.suspension.map wait } }) ∧
    (s.reg (Reg.edgeState e) = 2 → exec (.edgeLossOfLock e) s = .next s) ∧
    (s.reg (Reg.edgeState e) ≠ 2 → exec (.edgeLossOfLock e) s =
      .next (((s.setReg (Reg.edgeState e) 2).bump (Reg.edgeRetrains e)).notice Note.edgeRetrain (srcEdge e)
        (u8 e ++ u8 2))) ∧
    (let u := s.setReg (Reg.edgeState e) 1
     exec (.edgeRetrainDone e) s = .next { u with
        prog := { u.prog with
          suspension := u.prog.suspension.map fun x => { x with edges := x.edges.filter fun j => j != e } } })

/-- A granted SwapArm arms shadow banks that are loaded, and is refused otherwise and in Limewash. An armed swap
with no plan running turns the banks: the active bank changes, the loader writes the other, the shadow is empty, the
swap is counted and BankSwapped is sent. With a plan running it waits for a quoin course that is not a halt; there a
loaded successor takes over and restarts its queues. A quoin course takes the ordered variant switch whose course
has come and restarts Q on every core (R126, R163, R170, R175, R286, R292, R294, R299). -/
def Obligations.BanksAndQuoinsTurn : Prop :=
  ∀ (v : Via) (s : State),
    (s.grantsNumber v 0x4101 3 7 1 = true →
      let u := s.countRequest v
      (u.reg Reg.shadowState = 2 → u.limewash = false →
        exec (.swapArm v 1) s = .next ((u.setReg Reg.shadowState 3).answerOk v)) ∧
      (u.reg Reg.shadowState ≠ 2 ∨ u.limewash = true →
        exec (.swapArm v 1) s = .next (u.respond v 0x4101 3 2 rcStateRefused []))) ∧
    (let b := 1 - s.reg Reg.activeBank
     let t := (((((s.setReg Reg.activeBank b).setReg Reg.loadBank (1 - b)).setReg Reg.lastSwapCourse s.stamp).bump
        Reg.bankSwaps).setReg Reg.shadowState 0).notice Note.bankSwapped srcModule (u8 b ++ u64 s.stamp)
     (s.reg Reg.shadowState = 3 → s.prog.running = false → exec .bankSwap s = .next t) ∧
      (s.reg Reg.shadowState = 3 → s.prog.running = true → s.atQuoinCourse = false → exec .bankSwap s = .next s) ∧
      (s.reg Reg.shadowState = 3 → s.prog.running = true → s.atQuoinCourse = true → ∀ p, t.plan.loaded = some p →
        exec .bankSwap s = .next (t.takeOverPlan p)) ∧
      (s.reg Reg.shadowState ≠ 3 → exec .bankSwap s = .next s)) ∧
    (s.atQuoinCourse = true →
      (s.prog.variant = none → exec .quoinCourse s = .next s.restartQueues) ∧
      (∀ n q, s.prog.variant = some (n, q) → s.prog.course < q → exec .quoinCourse s = .next s.restartQueues) ∧
      (∀ n q, s.prog.variant = some (n, q) → q ≤ s.prog.course →
        let u : State := { s with prog := { s.prog with variant := none } }
        let old := u.reg Reg.activeVariant
        let w := ((u.setReg Reg.activeVariant n).bump Reg.variantSwitches).setReg Reg.lastSwitchCourse u.prog.course
        n ≠ old → (u.nextPlan.bind fun p => p.variant n).isSome = true →
        exec .quoinCourse s = .next (w.notice Note.variantSwitched srcModule
          (u8 old ++ u8 n ++ u64 w.prog.course)).restartQueues)) ∧
    (s.atQuoinCourse = false → exec .quoinCourse s = .next s)

/-- On a cluster whose Trowel runs, a handoff swap at an admission course not yet swapped is counted, the half that
was active is the shadow, and the active half holds the cluster's slot blocks. A Trowel fault makes TrowelState 3
and is sent, and its restart makes it 1 and is counted. In Run, a Clearing slot of a running plan whose clearing is
done is zeroed and Free, and the courses it took are kept; a slot to be stamped whose stamping is done carries its
tint in every tile, and is Held on its owner, Mirrored on the partner. With no plan running a clearing that outlived
its plan zeroes its windows. In every other power mode neither does anything (R173, R178, R198, R320, R321, R503,
R508, R538). -/
def Obligations.SlotsAndTrowelsTurn : Prop :=
  ∀ (cluster cause slot : Nat) (s : State),
    (cluster < 128 → s.clusterOn cluster = true →
      (∀ x, s.reachedAdmission = some x → s.reg (Reg.trowelState cluster) = 1 →
        Map.get s.serving.handoff 0 cluster ≠ x + 1 →
        let u : State := { s with serving := { s.serving with handoff := Map.set s.serving.handoff 0 cluster (x + 1) } }
        let w := u.bump (Reg.handoffSwaps cluster)
        (∀ b, w.handoffHalf cluster x = some b → exec (.handoffSwap cluster) s =
          .next ((w.store (shadowHalf cluster) (w.load (activeHalf cluster) 0x1000)).store (activeHalf cluster) b)) ∧
        (w.handoffHalf cluster x = none → exec (.handoffSwap cluster) s = .next w)) ∧
      (s.reachedAdmission = none → exec (.handoffSwap cluster) s = .next s) ∧
      (1 ≤ cause → cause ≤ 3 → s.reg (Reg.trowelState cluster) = 1 → exec (.trowelFault cluster cause) s =
        .next ((s.setReg (Reg.trowelState cluster) 3).notice Note.trowelFault (srcCluster cluster)
          (u16 cluster ++ u8 cause))) ∧
      (s.reg (Reg.trowelState cluster) = 3 → exec (.trowelRestartDone cluster) s =
        .next ((s.setReg (Reg.trowelState cluster) 1).bump (Reg.trowelResets cluster))) ∧
      (s.reg (Reg.trowelState cluster) ≠ 3 → exec (.trowelRestartDone cluster) s = .next s)) ∧
    (slot < 4096 → s.power.mode = .run →
      let x := s.slot slot
      s.prog.running = true →
      (x.state = 1 →
        let u := ((s.clearSlot slot).setSlot slot { x with state := 0 }).bump Reg.clearsDone
        exec (.slotClearingDone slot) s = .next (u.setReg Reg.lastClearCourses (u.time.localCount - x.releasedAt))) ∧
      (x.state ≠ 1 → exec (.slotClearingDone slot) s = .next s) ∧
      (x.state = 2 →
        let u := (s.stampSlot slot).bump Reg.stampsDone
        (u.owns slot = true → exec (.slotStampingDone slot) s = .next (u.setSlot slot { x with state := 3 })) ∧
        (u.owns slot = false →
          exec (.slotStampingDone slot) s = .next ((u.setSlot slot { x with state := 6 }).applyWaiting slot))) ∧
      (x.state ≠ 2 → exec (.slotStampingDone slot) s = .next s)) ∧
    (slot < 4096 → s.power.mode ≠ .run →
      exec (.slotClearingDone slot) s = .next s ∧ exec (.slotStampingDone slot) s = .next s) ∧
    (slot < 4096 → s.power.mode = .run → s.prog.running = false →
      exec (.slotStampingDone slot) s = .next s ∧
      ((s.serving.clearing.find? fun e => e.1 == slot) = none → exec (.slotClearingDone slot) s = .next s) ∧
      ∀ e, (s.serving.clearing.find? fun e => e.1 == slot) = some e →
        let u : State := { s with
          serving := { s.serving with clearing := s.serving.clearing.filter fun x => x.1 != slot } }
        exec (.slotClearingDone slot) s = .next
          ((e.2.2.foldl (fun t r => t.clearTiles r.fmt e.2.1 r.base r.tiles) u).bump Reg.clearsDone))

/-- Bytes written in BAR 2 of an awake module stand in the staging area, and are dropped and counted while the
loader checks. A granted PlanLoad of a multiple of 64 up to 2²⁸ bytes with no plan being checked or loaded begins
the checks. At their end a plan that fails is refused with its cause, result and site, and one that passes fills the
shadow bank and its initial data, and is Loaded. Of every segment of a plan that passes, as the loader runs it cycle
by cycle: no hod of a core is popped empty or pushed full and all are empty at its end, no bank gives more granules
in a cycle than its width, and no instruction's latency exceeds the assumed one by more than its slack. A granted
PlanDiscard empties the loaded or refused plan. A granted PlanHalt at a quoin course a period ahead is kept; at its
course every batch is withdrawn, every tinted slot halted and freed, the waiting descriptors answered and the plan
ends (R141, R142, R187, R275, R276, R288, R293, R294, R297, R302, R419, R448). -/
def Obligations.PlansAreLoaded : Prop :=
  ∀ (v : Via) (n : Nat) (x : Schedule) (data : Bytes) (s : State),
    let u := s.countRequest v
    (s.awake = true →
      (s.reg Reg.planState = 1 → exec (.bar2Write n data) s = .next (s.bump Reg.stagingWritesDropped)) ∧
      (s.reg Reg.planState ≠ 1 → n + data.length ≤ 2 ^ 28 →
        exec (.bar2Write n data) s = .next { s with staging := s.staging.write n data })) ∧
    (s.grantsNumber v 0x4000 1 3 n = true →
      (n % 64 = 0 → n ≤ 2 ^ 28 → u.reg Reg.planState ≠ 1 → u.reg Reg.planState ≠ 2 → u.limewash = false →
        let w := (u.setReg Reg.planState 1).setReg Reg.shadowState 1
        exec (.planLoad v n) s = .next (State.answerOk { w with plan := { w.plan with checking := some n } } v)) ∧
      ((n % 64 ≠ 0 ∨ 2 ^ 28 < n) → exec (.planLoad v n) s = .next (u.respond v 0x4000 1 2 rcRangeError [])) ∧
      (n % 64 = 0 → n ≤ 2 ^ 28 → (u.reg Reg.planState = 1 ∨ u.reg Reg.planState = 2 ∨ u.limewash = true) →
        exec (.planLoad v n) s = .next (u.respond v 0x4000 1 2 rcStateRefused []))) ∧
    (∀ k, s.plan.checking = some k →
      let i : Image := ⟨s.staging.read 0 k⟩
      let w := s.setBlob Blob.stagedDigest (sha3 i.bytes)
      (∀ cause rc site, w.judgeImage i x = .inl (cause, rc, site) →
        let t : State := { w with plan := { w.plan with checking := none, loaded := none } }
        let t := (((t.setReg Reg.planState 3).setReg Reg.shadowState 0).setReg Reg.planLoadResult rc)
        let t := (t.setReg Reg.planRefusalCause cause).setReg Reg.planRefusalSite site
        exec (.planLoaderDone x) s = .next (t.showPlan.notice Note.planRefused srcModule
          (u16 rc ++ u16 cause ++ u64 site ++ (sha3 i.bytes).take 8))) ∧
      (∀ p, w.judgeImage i x = .inr p → exec (.planLoaderDone x) s = .next (w.installPlan p) ∧
        ∃ q regions, w.place i = some q ∧ i.placeRegions q i.placeOrder [] = .inr regions ∧
          let y := w.loadOf i q regions x
          ∀ r, r ∈ y.paces →
            (∀ c, c ∈ r.sims → ∃ left, hodsRun (y.coreUses false (r.events.filter fun e => e.core == c.1)) = some left ∧
              left.all (·.isEmpty) = true) ∧
            overloaded y.site.regions (y.traffic false r).demands = none ∧
            ∀ e, e ∈ y.latencies r → e.2.exceeds = false)) ∧
    (s.plan.checking = none → exec (.planLoaderDone x) s = .next s) ∧
    (s.grantsNumber v 0x4000 7 7 1 = true →
      (u.reg Reg.planState = 1 →
        exec (.planDiscard v 1) s = .next (u.respond v 0x4000 7 2 rcStateRefused [])) ∧
      (u.reg Reg.planState = 0 → exec (.planDiscard v 1) s = .next (u.answerOk v)) ∧
      (2 ≤ u.reg Reg.planState → exec (.planDiscard v 1) s = .next (u.emptyPlan.answerOk v))) ∧
    (s.grantsNumber v 0x4000 0xD 4 n = true →
      (u.thePlan = none → exec (.planHalt v n) s = .next (u.respond v 0x4000 0xD 2 rcStateRefused [])) ∧
      (∀ p, u.thePlan = some p → (u.isQuoin n = false ∨ n < u.prog.course + p.period) →
        exec (.planHalt v n) s = .next (u.respond v 0x4000 0xD 2 rcRangeError [])) ∧
      (∀ p, u.thePlan = some p → u.isQuoin n = true → u.prog.course + p.period ≤ n →
        exec (.planHalt v n) s = .next (State.answerOk { u with prog := { u.prog with halt := some n } } v))) ∧
    (s.prog.running = true → s.prog.kind = .work s.prog.course → s.haltDue = true →
      let w := s.serving.batches.foldl State.withdrawBatch s
      let w := (w.tintedSlots.foldl State.haltAndFree w).answerQueue
      exec .planHalted s = .next (w.notice Note.planHalted srcModule (u64 w.prog.course)).endPlan) ∧
    (s.haltDue = false → exec .planHalted s = .next s)

/-- On a Ready request queue pair a descriptor in sequence is queued, one repeated is counted, one after a gap is
counted, one of another length is malformed. The head builds the batch of the next admission course once it is
within OrderLead. A member takes a batch of its head in sequence. At an admission course the batch that landed is
applied if every admit order is ready, and with none the bindings and sides are settled. A report to the head marks
its slot aborted. At half a period the governor weighs the share and follows ForcedVariant in Forced mode. A token
record in service that does not stop its stream joins the buffer while its place is free, one that does ends the
stream, and one that finds its places full overruns; the placed records go out in one SEND (R263, R311, R312, R315,
R316, R317, R323, R329, R332, R333, R348, R363). -/
def Obligations.RequestsAreServed : Prop :=
  ∀ (qp : Nat) (m : Bytes) (p : Nat) (s : State),
    let q := s.qp qp
    (qp < 4096 → q.state = 1 → q.purpose = 1 → s.awake = true →
      (m.length ≠ 256 → exec (.descriptor qp m) s = .next (s.bump Reg.descriptorsMalformed)) ∧
      (m.length = 256 →
        let n := field m 0 4
        (n ≠ (q.received + 1) % 2 ^ 32 → n ≤ q.received →
          exec (.descriptor qp m) s = .next (s.bump Reg.descriptorDuplicates)) ∧
        (n ≠ (q.received + 1) % 2 ^ 32 → q.received < n →
          exec (.descriptor qp m) s = .next (s.bump Reg.descriptorGaps)) ∧
        (n = (q.received + 1) % 2 ^ 32 → s.onAir = true → s.limewash = false → s.reg Reg.domainRole = 1 →
          s.serving.queue.length < 256 →
          let t := s.setQp qp { q with received := n }
          exec (.descriptor qp m) s = .next (State.bump
            { t with serving := { t.serving with queue := t.serving.queue ++ [(qp, m)] } } Reg.descriptorsReceived)))) ∧
    (let x := s.nextBatch
     (s.prog.running = true → s.reg Reg.domainRole = 1 → s.power.mode = .run →
        x ≤ s.prog.course + s.reg Reg.orderLead → exec .batchBuild s = .next (s.buildFor x)) ∧
      (s.prog.course + s.reg Reg.orderLead < x → exec .batchBuild s = .next s)) ∧
    (qp < 4096 → q.state = 1 → q.purpose = 3 → s.onAir = true → s.reg Reg.domainRole = 2 →
      field m 6 2 = s.reg Reg.headDeviceId → s.planActive = true → m.length = 64 + 64 * field m 4 2 →
      field m 4 2 ≤ 63 →
      let n := field m 0 4
      let c := s.serving.batchIn
      (n = (c + 1) % 2 ^ 32 →
        let b : Batch := { seq := n, effect := field m 8 8, orders := decodeOrders (field m 4 2) (m.drop 64) }
        exec (.orderBatch qp m) s =
          .next { s with serving := { s.serving with batchIn := n, batches := s.serving.batches ++ [b] } }) ∧
      (n ≠ (c + 1) % 2 ^ 32 → n ≤ c → exec (.orderBatch qp m) s = .next (s.bump Reg.batchDiscards)) ∧
      (n ≠ (c + 1) % 2 ^ 32 → c < n → exec (.orderBatch qp m) s =
        .next ((s.bump Reg.batchDiscards).notice Note.batchSequenceGap srcModule (u32 (c + 1) ++ u32 n)))) ∧
    ((s.reachedAdmission = none → exec .orderApply s = .next s) ∧
      (∀ x, s.reachedAdmission = some x → s.haltDue = false →
        (s.batchFor x = none → exec .orderApply s = .next s.unbind.settleWeights) ∧
        (∀ b, s.batchFor x = some b → b.admits.all s.admitReady = true →
          exec .orderApply s = .next (s.applyBatch b).settleWeights) ∧
        (∀ b, s.batchFor x = some b → b.admits.all s.admitReady = false → exec .orderApply s = .next s))) ∧
    (qp < 4096 → s.headHears qp m = true →
      let slot := field m 4 2
      let t := s.bump Reg.abortReportsReceived
      (slot < t.tintSlots → (t.slot slot).tint = field m 6 2 → exec (.abortReport qp m) s =
        .next (t.markAborted slot (byteAt m 8) (field m 16 8) (field m 24 2))) ∧
      (t.tintSlots ≤ slot → exec (.abortReport qp m) s = .next t)) ∧
    ((s.thePlan = none → exec (.governorEvaluation p) s = .next s) ∧
      (∀ plan, s.thePlan = some plan → s.reg Reg.domainRole = 1 →
        s.reachedCourses.any (fun c => s.position plan c == plan.period / 2) = true →
        let d := s.serving.slots.countP fun e => e.2.phase == 3
        let t := (s.setReg Reg.prefillTokensPending p).setReg Reg.decodeStreams d
        let f := t.prefillShare p
        let best := plan.nearest f
        let w : State := { t with serving := { t.serving with lastChoice := best } }
        (w.reg Reg.governorMode = 1 →
          (w.reg Reg.forcedVariant ≠ t.reg Reg.activeVariant →
            exec (.governorEvaluation p) s = .next (w.choose (w.reg Reg.forcedVariant) f)) ∧
          (w.reg Reg.forcedVariant = t.reg Reg.activeVariant → exec (.governorEvaluation p) s = .next w)) ∧
        (w.reg Reg.governorMode ≠ 1 →
          (∀ b, best = some b → t.serving.lastChoice = some b → b ≠ t.reg Reg.activeVariant →
            exec (.governorEvaluation p) s = .next (w.choose b f)) ∧
          (best ≠ t.serving.lastChoice → exec (.governorEvaluation p) s = .next w)))) ∧
    (m.length = 16 → bit (byteAt m 14) 2 = false →
      let slot := field m 12 2
      let x := s.slot slot
      (s.liveSlot slot = false → exec (.tokenRecord m) s = .next (s.bump Reg.recordsDiscarded)) ∧
      (s.liveSlot slot = true →
        let reason := x.stopReason (field m 0 4)
        (reason ≠ 0 ∨ (s.qp x.qp).tokenFits = true → exec (.tokenRecord m) s =
          .next (s.passRecord slot (field m 0 4) (field m 4 4) (byteAt m 14) reason)) ∧
        (reason = 0 → (s.qp x.qp).tokenFits = false → exec (.tokenRecord m) s = .next (s.overrun slot)))) ∧
    (qp < 4096 → q.state = 1 → q.isHeld = false →
      let l := q.placed.take q.sendRecords
      (s.reg (Reg.ethLinkState q.ingress) = 0 → exec (.recordSend qp) s = .next s) ∧
      (l ≠ [] → s.reg (Reg.ethLinkState q.ingress) ≠ 0 →
      let t := s.setQp qp { q with buffer := q.buffer.drop l.length }
      let t := t.bumpBy Reg.tokensEmitted (l.countP fun e => decide (e.kind ≤ 1))
      let t := t.bumpBy Reg.streamsEnded (l.countP fun e => e.kind == 1 || e.kind == 2)
      exec (.recordSend qp) s = .next (t.sendQp qp 2 (l.flatMap (·.data)))))

/-- A granted LoadGeneration or LoadAdapter that its own conditions and the governor let begin opens a session, and
one that the governor holds is queued and Governed. LoadAbort ends the session. The next record that landed is
checked: on the fabric a wrong check goes back to it and is reported, else it is kept, counted, forwarded and
completes the session if it is the last. A credit message drops what is processed downstream, sets what may be sent,
and from its ResendFrom the records go again; a storage session sends its credit. A granted SwitchCourse at an
admission course far enough ahead is kept until that course, where the complete side comes into force. A complete
generation that nothing uses is discarded, and an Available adapter that nothing uses is cleared and unloads (R263,
R354, R357, R358, R359, R360, R361, R362, R364, R365, R366, R520). -/
def Obligations.WeightsLoadAndSwitch : Prop :=
  ∀ (v : Via) (n : Nat) (m : Bytes) (s : State),
    let u := s.countRequest v
    (s.grantsNumber v 0x6000 1 1 n = true → n ≠ 0 → u.sideOf n = none → u.sessionBarred = false →
      (u.prog.running = true ∨ u.reg (Reg.sideState 0) ≠ 2 ∧ u.reg (Reg.sideState 1) ≠ 2) →
      ∀ p keep side, u.anyPlan = some p → u.keepFor p true = some keep → u.emptySide = some side →
        (u.blocker 5 0 = none →
          exec (.loadGeneration v n) s = .next ((u.beginSession p true n side 0 keep).answerOk v)) ∧
        (∀ b, u.blocker 5 0 = some b → u.held.length < 8 →
          let w : State := { u with held := u.held ++ [{ activity := 5, port := 0, value := n }] }
          let w := (w.bump Reg.governedTotal).setReg Reg.lastGoverned (5 * 256 + b)
          exec (.loadGeneration v n) s = .next
            ((w.notice Note.maintenanceGoverned srcModule (u8 5 ++ u8 b)).respond v 0x6000 1 2 rcGoverned []))) ∧
    (s.grantsNumber v 0x6000 2 3 n = true → n = adapterId n + adapterBase n * 2 ^ 16 → adapterBase n ≠ 0 →
      u.adapterState (adapterId n) = 0 → u.sessionBarred = false →
      ∀ p keep, u.anyPlan = some p → p.regions.any (fun r => r.kind == 6) = true → u.keepFor p false = some keep →
        u.blocker 5 1 = none →
        exec (.loadAdapter v n) s =
          .next ((u.beginSession p false (adapterId n) 0 (adapterBase n) keep).answerOk v)) ∧
    (s.grantsNumber v 0x6000 8 7 1 = true → exec (.loadAbort v 1) s = .next (u.endSession.answerOk v)) ∧
    (∀ x, s.weights.session = some x →
      let i := x.processed + 1
      (x.accepted < i ∨ s.power.mode ≠ .run → exec .weightRecord s = .next s) ∧
      (i ≤ x.accepted → s.power.mode = .run →
        let a := x.ring + i % max 1 x.positions * (x.granules * 64)
        let r := s.load a (x.granules * 64)
        let crc := crc32c (coveredBytes x r)
        (x.fabric = true → field r 16 4 ≠ crc →
          let t := s.bump Reg.recordCheckFailures
          let t : State := { t with weights := { t.weights with
            session := some { x with accepted := x.processed, resend := i } } }
          exec .weightRecord s = .next (t.notice Note.weightRecordFault srcModule (u32 i ++ u16 x.upstream))) ∧
        (x.fabric = false ∨ field r 16 4 = crc →
          let r' := slice r 0 16 ++ leBytes 4 crc ++ r.drop 20
          let y : Session := { x with
            processed := i, resend := 0,
            digest := x.digest.absorb (if x.generation then u8 (byteAt r 7) ++ coveredBytes x r else coveredBytes x r) }
          let t := ((s.store a r').keepRecord x r' crc).setReg Reg.processedCount i
          let t := State.queueForward { t with weights := { t.weights with session := some y } } i r'
          (i = x.total → exec .weightRecord s = .next (t.completeSession y)) ∧
          (i ≠ x.total → exec .weightRecord s = .next t))) ∧
      (x.fabric = false → exec .creditSend s = .next (s.sendCredit x)) ∧
      (x.fabric = true → exec .creditSend s = .next s)) ∧
    (m.length = 64 → s.awake = true →
      let w := s.weights.forward
      let again := field m 16 4
      let w' : Forward :=
        { records := w.records.filter fun e => decide (field m 8 4 < e.1), processed := field m 8 4,
          released := field m 12 4, positions := field m 20 4,
          next := if again ≠ 0 ∧ again ≤ w.next then again else w.next,
          sent := if again ≠ 0 ∧ again ≤ w.next then 0 else w.sent }
      exec (.creditMessage m) s = .next { s with weights := { s.weights with forward := w' } }) ∧
    (s.grantsNumber v 0x6020 1 4 n = true → u.thePlan.isSome = true →
      (u.isAdmission n = true → u.prog.course + u.reg Reg.orderLead + 16 ≤ n → (u.sideIn 2).isSome = true →
        u.reg Reg.pendingSwitch = allOnes64 → u.blocker 6 0 = none →
        exec (.switchCourse v n) s = .next ((u.setReg Reg.pendingSwitch n).answerOk v)) ∧
      (u.isAdmission n = false ∨ n < u.prog.course + u.reg Reg.orderLead + 16 →
        exec (.switchCourse v n) s = .next (u.respond v 0x6020 1 2 rcRangeError []))) ∧
    (let x := s.reg Reg.pendingSwitch
     (x = allOnes64 ∨ s.prog.course < x → exec .generationSwitch s = .next s) ∧
      (s.prog.running = true → x ≠ allOnes64 → x ≤ s.prog.course →
        let t := s.setReg Reg.pendingSwitch allOnes64
        ∀ side, t.sideIn 2 = some side →
        let w := (t.putInForce side).bump Reg.switches
        exec .generationSwitch s = .next (w.notice Note.generationSwitched srcModule
          (u8 (w.reg Reg.inForce) ++ u8 (t.reg Reg.inForce) ++ u64 x)))) ∧
    (s.grantsNumber v 0x6020 5 1 n = true →
      (u.sideOf n = none → exec (.generationDiscard v n) s = .next (u.respond v 0x6020 5 2 rcAbsent [])) ∧
      (∀ i, u.sideOf n = some i → u.reg (Reg.sideState i) = 2 → u.boundCount n = 0 →
        u.reg Reg.pendingSwitch = allOnes64 → exec (.generationDiscard v n) s =
          .next (State.answerOk { u with weights := { u.weights with discard := some i } } v))) ∧
    (s.grantsNumber v 0x6030 5 2 n = true →
      (n < 1024 → u.adapterState n ≠ 2 →
        exec (.adapterUnload v n) s = .next (u.respond v 0x6030 5 2 rcStateRefused [])) ∧
      (n < 1024 → u.adapterState n = 2 → u.adapterBound n = false → u.reg Reg.domainRole ≠ 1 →
        let t := (u.setBlobByte Blob.adapterStates n 3).clearPlaces n
        exec (.adapterUnload v n) s = .next (State.answerOk
          { t with weights := { t.weights with unloading := t.weights.unloading ++ [n] } } v)))

/-- A record of a window comes under the sequence rule: stored under the next number, else a duplicate, a gap or an
overrun. A frame on a port that is up passes MACsec or is dropped and counted. A good key record replaces the
transmit or the receive key. A packet with a wrong ICRC, or for a queue pair that is not Ready on that port, is
counted; else it does what its operation says. A WRITE with a wrong key is answered with a NAK, and so is one on an
order queue pair. QP_CONFIG makes a queue pair Ready with a fresh key, QP_RESET resets it, an unanswered message
goes again and after seven goes the queue pair is in Error. A link that changes is shown and sent (R263, R264, R386,
R387, R389, R390, R391, R392, R395, R405, R411). -/
def Obligations.IngressServes : Prop :=
  ∀ (v : Via) (n qp w : Nat) (r : Bytes) (s : State),
    let u := s.countRequest v
    let q := s.qp qp
    (∀ x, qp < 4096 → w < 16 → s.window w = some x → s.mayWrite qp w = true → r.length = x.granules * 64 →
      let i := field r 0 4
      let c := s.reg (Reg.landingCounter x.window)
      (i ≠ (c + 1) % 2 ^ 32 → i ≤ c →
        exec (.ingressRecord qp w r) s = .next (s.bump (Reg.duplicates x.window))) ∧
      (i ≠ (c + 1) % 2 ^ 32 → c < i → exec (.ingressRecord qp w r) s = .next (s.windowGap qp x i)) ∧
      (i = (c + 1) % 2 ^ 32 → s.creditOf x + x.positions < i → exec (.ingressRecord qp w r) s =
        .next (((s.bump (Reg.overruns x.window)).notice Note.ingressOverrun srcModule
          (u8 x.window ++ u32 i ++ u32 (s.creditOf x))).wantStatus qp x.window 2 i)) ∧
      (i = (c + 1) % 2 ^ 32 → i ≤ s.creditOf x + x.positions → exec (.ingressRecord qp w r) s =
        .next (((s.store (s.recordAddress x i) r).setReg (Reg.landingCounter x.window) i).ingressSet x i))) ∧
    (∀ f : EthFrame, n < 4 → s.reg (Reg.ethLinkState n) ≠ 0 → s.onAir = true →
      (f.secAn = none → s.reg (Reg.macsecRequired n) = 1 →
        exec (.ethFrame n f) s = .next (s.bump (Reg.macsecDropped n))) ∧
      (f.secAn = none → s.reg (Reg.macsecRequired n) ≠ 1 → exec (.ethFrame n f) s = .next (s.passFrame n f)) ∧
      (∀ an, f.secAn = some an → (s.macsecOf n).accept an = none → exec (.ethFrame n f) s =
        .next (s.bump (if s.reg (Reg.macsecRequired n) = 1 then Reg.macsecDropped n else Reg.framesDropped n))) ∧
      (∀ an m, f.secAn = some an → (s.macsecOf n).accept an = some m →
        exec (.ethFrame n f) s = .next ((s.setMacsec n m).passFrame n f))) ∧
    (n < 4 →
      (s.grants v (0x7420 + n) 2 9 r = true →
        (keyRecordOk r = true → exec (.txSak v n r) s = .next
          ((((u.setMacsec n { u.macsecOf n with tx := some r }).setReg (Reg.txAn n) (keyAn r)).setReg
            (Reg.txPacketNumber n) 1).answerOk v)) ∧
        (keyRecordOk r = false → exec (.txSak v n r) s = .next (u.respond v (0x7420 + n) 2 2 rcRangeError []))) ∧
      (s.grants v (0x7420 + n) 3 9 r = true →
        (keyRecordOk r = true → exec (.rxSak v n r) s = .next
          ((u.setMacsec n { u.macsecOf n with rx := some r, rxOld := (u.macsecOf n).rx }).answerOk v)) ∧
        (keyRecordOk r = false → exec (.rxSak v n r) s = .next (u.respond v (0x7420 + n) 3 2 rcRangeError [])))) ∧
    (∀ (op : RoceOp) (ce : Bool), n < 4 → s.reg (Reg.ethLinkState n) ≠ 0 → s.onAir = true →
      exec (.rocePacket n (0x100000 + qp) op false ce) s = .next (s.bump (Reg.icrcFailures n)) ∧
      (qp < 4096 → q.state = 1 → q.ingress = n → exec (.rocePacket n (0x100000 + qp) op true ce) s =
        .next ((if ce then s.answerCe qp else s).takeOp qp op)) ∧
      ((4096 ≤ qp ∨ q.state ≠ 1 ∨ q.ingress ≠ n) →
        exec (.rocePacket n (0x100000 + qp) op true ce) s = .next (s.bump (Reg.framesDropped n)))) ∧
    (∀ address rkey, qp < 4096 → q.state = 1 →
      (q.purpose = 3 → exec (.rdmaWrite qp address rkey r) s = .next (s.nakQp qp 1)) ∧
      (q.purpose ≠ 3 → s.onAir = true → rkey ≠ q.rkey → exec (.rdmaWrite qp address rkey r) s = .next (s.nakQp qp 3)) ∧
      (s.onAir = true → rkey = q.rkey → q.purpose = 1 →
        let t := address / 2 ^ 56 % 256
        let off := address % 2 ^ 56
        t < 16 → bit (field q.record 4 2) t = true → ∀ x, s.window t = some x →
          (inTarget (x.granules * 64) x.positions off r.length = true → exec (.rdmaWrite qp address rkey r) s =
            .next ((s.transmit q.ingress (.ack qp)).judgeRecord qp x (some (off / (x.granules * 64))) r)) ∧
          (inTarget (x.granules * 64) x.positions off r.length = false →
            exec (.rdmaWrite qp address rkey r) s = .next (s.nakQp qp 3)))) ∧
    (s.grants v 0x7400 2 9 r = true →
      let k := u.reg Reg.qpSelect
      (r.length ≠ 64 ∨ qpRecordOk r = false →
        exec (.qpConfig v r) s = .next (u.respond v 0x7400 2 2 rcRangeError [])) ∧
      (r.length = 64 → qpRecordOk r = true → (u.qp k).state ≠ 1 →
        allZero (u.blob (Blob.ipAddress (byteAt r 1))) = false → (u.qp k).record ≠ r →
        (byteAt r 0 = 1 → 65536 < u.quotaOf (byteAt r 1) + field r 26 4 →
          exec (.qpConfig v r) s = .next (u.respond v 0x7400 2 2 rcNoRoom [])) ∧
        ((byteAt r 0 ≠ 1 ∨ u.quotaOf (byteAt r 1) + field r 26 4 ≤ 65536) →
          exec (.qpConfig v r) s = .next ((u.readyQp k r).answerOk v)))) ∧
    (s.grantsNumber v 0x7400 4 7 1 = true →
      exec (.qpReset v 1) s = .next ((u.resetQp (u.reg Reg.qpSelect)).answerOk v)) ∧
    (qp < 4096 →
      (q.outstanding = [] → exec (.qpRetryTimeout qp) s = .next s) ∧
      (∀ imm data l, q.outstanding = (imm, data) :: l → q.state = 1 → q.paused = false →
        (7 ≤ q.retries → exec (.qpRetryTimeout qp) s = .next (s.qpFails qp 2)) ∧
        (q.retries < 7 → exec (.qpRetryTimeout qp) s =
          .next ((s.setQp qp { q with retries := q.retries + 1 }).transmit q.ingress (.send qp imm data))))) ∧
    (∀ up : Bool, n < 4 →
      (s.reg (Reg.ethLinkState n) = flagNat up → exec (.ingressLinkChange n up) s = .next s) ∧
      (s.reg (Reg.ethLinkState n) ≠ flagNat up → (up = true → s.onAir = true ∧ s.limewash = false) →
        exec (.ingressLinkChange n up) s = .next ((s.setReg (Reg.ethLinkState n) (flagNat up)).notice
          Note.ingressLinkChange (srcRole n) (u8 n ++ u8 (flagNat up)))))

/-- A function reset of any kind clears the ring's registers, the gateway slots and the MSI-X table of an awake
module. An unaddressed module with CHAIN_IN asserted answers a Claim; a Confirm with its serial number addresses it,
asserts CHAIN_OUT and is sent; an Answer without a Confirm lapses. A granted DeviceId with no plan armed or running
takes the value and retrains. A link that changes is shown and sent, IDE starts and ends. A raised notice joins its
queues; a turn on the chain sends a response, then a notice; a turn of the ring writes the oldest notice and the
producer index, with an interrupt unless masked, or faults; RingControl enables and disables the ring (R396, R399,
R401, R402, R404, R407, R434, R435, R436, R437, R438, R445). -/
def Obligations.HostAndChainServe : Prop :=
  ∀ (v : Via) (n : Nat) (b : Bytes) (s : State),
    (s.awake = true →
      (∀ kind, let t := s.bump Reg.functionResets
        exec (.functionReset kind) s = .next { t with
          paths := { t.paths with
            ring := Ring.clear, gateway := [], msix := [], waiting := t.paths.waiting.filter fun w => !w.viaFunction } }) ∧
      (1 ≤ n → n ≤ 32 → s.reg Reg.chainState ≠ 2 →
        let t := (s.setReg Reg.chainState 1).bump Reg.claimsAnswered
        let t : State := { t with paths := { t.paths with answered := some t.time.localCount } }
        exec (.claim n true) s = .next (t.emit (.chain broadcast (chainBytes 0x21 0 0 0 9 0 0 0 t.answerValue))) ∧
        exec (.claim n false) s = .next s ∧
        (b = padTo 12 (s.blob Blob.serialNumber) →
          let t := ((s.setReg Reg.chainState 2).setReg Reg.chainNode n).setReg Reg.chainOut 1
          let t : State := { t with paths := { t.paths with answered := none } }
          let t := t.emit (.chainOut true)
          exec (.confirm n b) s =
            .next (t.notice Note.chainAddressed srcModule (u8 n ++ padTo 6 (t.blob Blob.chainMac)))) ∧
        (b ≠ padTo 12 (s.blob Blob.serialNumber) → exec (.confirm n b) s = .next s)) ∧
      (∀ state rate width, pcieOk state rate width = true →
        ((s.reg Reg.pcieLinkState, s.reg Reg.pcieRate, s.reg Reg.pcieWidth) ≠ (state, rate, width) →
          exec (.pcieLinkChange state rate width) s =
            .next ((((s.setReg Reg.pcieLinkState state).setReg Reg.pcieRate rate).setReg Reg.pcieWidth width).notice
              Note.pcieLinkChange srcModule (u8 state ++ u8 rate ++ u8 width))) ∧
        ((s.reg Reg.pcieLinkState, s.reg Reg.pcieRate, s.reg Reg.pcieWidth) = (state, rate, width) →
          exec (.pcieLinkChange state rate width) s = .next s)) ∧
      (∀ active : Bool, exec (.ideKmExchange active) s = .next (s.setReg Reg.ideActive (flagNat active))) ∧
      (∀ code cls source, code < 2 ^ 16 → cls ≤ 3 → b.length ≤ 48 →
        exec (.noticeRaise code cls source b) s = .next (s.raiseNotice code cls source b)) ∧
      (let r := s.paths.ring
       (bit n 0 = false → exec (.ringControl n) s =
          .next { s with paths := { s.paths with ring := { r with control := 0, state := 0 } } }) ∧
        (bit n 0 = true → r.control = 1 → exec (.ringControl n) s = .next s) ∧
        (bit n 0 = true → r.control ≠ 1 →
          let t : State := { s with
            paths := { s.paths with ring := { r with control := 1, producer := 0, consumer := 0, state := 1 } } }
          (t.paths.ring.valid = true → exec (.ringControl n) s = .next t) ∧
          (t.paths.ring.valid = false → exec (.ringControl n) s = .next t.ringFaults)))) ∧
    (∀ at_, s.paths.answered = some at_ → s.reg Reg.chainState = 1 → at_ + 65536 ≤ s.time.localCount →
      let t := s.setReg Reg.chainState 0
      exec .claimTimeout s = .next { t with paths := { t.paths with answered := none } }) ∧
    (s.paths.answered = none → exec .claimTimeout s = .next s) ∧
    (s.grantsNumber v 0x1100 5 2 n = true →
      let u := s.countRequest v
      (u.planActive = true → exec (.deviceIdWrite v n) s = .next (u.respond v 0x1100 5 2 rcStateRefused [])) ∧
      (u.planActive = false → n = u.reg Reg.deviceId → exec (.deviceIdWrite v n) s = .next (u.answerOk v)) ∧
      (u.planActive = false → n ≠ u.reg Reg.deviceId →
        let t := (u.setReg Reg.deviceId n).notice Note.deviceIdSet srcModule (u16 (u.reg Reg.deviceId) ++ u16 n)
        exec (.deviceIdWrite v n) s = .next (((List.range 64).foldl State.retrainIdentity t).answerOk v))) ∧
    (s.awake = true → s.reg Reg.chainState = 2 → s.keystoneDown = false →
      (∀ mac f l, s.paths.responses = (mac, f) :: l → exec .noticeSendChain s =
        .next (State.emit { s with paths := { s.paths with responses := l } } (.chain mac f))) ∧
      (s.paths.responses = [] → s.paths.chainQueue = [] → exec .noticeSendChain s = .next s) ∧
      (∀ x l, s.paths.responses = [] → s.paths.chainQueue = x :: l →
        (s.reg Reg.chainNotices = 1 → exec .noticeSendChain s = .next (State.emit
          { s with paths := { s.paths with chainQueue := l } } (.chain (leVal (s.blob Blob.noticeMac)) x.frame))) ∧
        (s.reg Reg.chainNotices ≠ 1 → exec .noticeSendChain s = .next s))) ∧
    (∀ x l, s.paths.ringQueue = x :: l → s.awake = true → s.keystoneDown = false → s.paths.ring.state = 1 →
      let r := s.paths.ring
      (r.room = false → ∀ ok, exec (.noticeRingWrite ok) s = .next s) ∧
      (r.room = true →
        exec (.noticeRingWrite false) s = .next s.ringFaults ∧
        (let next := (r.producer + 1) % 2 ^ 32
         let t : State := { s with paths := { s.paths with ringQueue := l, ring := { r with producer := next } } }
         let t := t.emit (.host (r.base + 128 * (r.producer % r.entries)) x.bytes)
         let t := t.emit (.host (r.base + 128 * r.entries) (u32 next))
         exec (.noticeRingWrite true) s = .next (if bit r.vectorMask x.cls then t else t.emit (.msix x.cls)))))

/-- A frame at an addressed module is answered again from the last 64 responses if its pair stands there, else
executed; a shorter one, and one to a module that is not addressed, is dropped and counted. A slot that the module
does not own is executed, one that it owns only counts. A read that the checks allow answers with the entry's value,
or with the value latched now; AttestReport on a Retired part with StateRefused and the state word, one they refuse
with the result code. A write of a whole fixed value in range reaches its entry. Describe answers with the
descriptor of a defined pair, Next with that of the pair after. A write to BAR0 reaches a slot, the ring's
registers, the MSI-X table or nothing, and is counted where it is reserved (R397, R401, R418, R419, R424, R425,
R426, R427, R428, R429, R435, R485). -/
def Obligations.RequestsAreAnswered : Prop :=
  ∀ (v : Via) (n m : Nat) (b : Bytes) (s : State), s.awake = true → s.keystoneDown = false →
    (s.reg Reg.chainState = 2 → 24 ≤ b.length → (hdOp b < 0x20 ∨ 0x22 < hdOp b) →
      (∀ r, s.storedReply n (hdSeq b) = some r →
        let t := s.bump Reg.repliesReplayed
        exec (.dictionaryFrame n b) s =
          .next { t with paths := { t.paths with responses := t.paths.responses ++ [(n, r)] } }) ∧
      (s.storedReply n (hdSeq b) = none →
        let r := s.headed (.chain n) b ((b.drop 24).take (hdLength b))
          (headerOk b 1024 && decide (24 + hdLength b ≤ b.length))
        exec (.dictionaryFrame n b) s = .next (r.2.storeReply n (hdSeq b) (responseFrame b r.1)))) ∧
    (b.length < 24 → exec (.dictionaryFrame n b) s = .next (s.bump Reg.chainFramesDropped)) ∧
    (n < 16 →
      let g := s.gatewaySlot n
      (g.owner = true → exec (.gatewaySubmit n) s = .next (s.bump Reg.gatewayWritesDiscarded)) ∧
      (g.owner = false →
        exec (.gatewaySubmit n) s = .next ((s.setGateway n { g with owner := true }).runSlot n))) ∧
    (s.serves v = true →
      let u := s.countRequest v
      let say (rc : Nat) (t : State) (value : Bytes) : State := t.emit (.response v rc value)
      (∀ typ e, u.judgeAccess v n m typ false none = (rcOk, some e) →
        (typeLength e.typ ≠ 0 → exec (.readSegment v n m typ 0) s =
          .next (say rcOk u (leBytes (typeLength e.typ) (u.readFixed e n m)))) ∧
        (typeLength e.typ = 0 → n = 0x8010 → m = 2 → u.reg Reg.lifecycle = 3 → exec (.readSegment v n m typ 0) s =
          .next (say rcStateRefused (u.bump Reg.stateRefusals) (u32 u.stateWord))) ∧
        (typeLength e.typ = 0 → (n, m) ≠ (0x8100, 3) → ¬(n = 0x8010 ∧ m = 2 ∧ u.reg Reg.lifecycle = 3) →
          let x : Latch := { via := v, key := entryKey n m, value := u.readBlob n m, at_ := u.time.localCount }
          let t : State := { u with
            paths := { u.paths with latches := (u.paths.latches.filter fun y => y.via != v) ++ [x] } }
          exec (.readSegment v n m typ 0) s = .next (say rcOk t (x.value.take (segmentLimit v))))) ∧
      (∀ typ off, u.judgeAccess v n m typ false none = (rcAccessDenied, none) →
        exec (.readSegment v n m typ off) s = .next (say rcAccessDenied (u.bump Reg.accessDenials) [])) ∧
      (∀ e, u.judgeAccess v 0x8100 3 9 false none = (rcOk, some e) → typeLength e.typ = 0 → u.debugValue.1 = rcOk →
        let x : Latch := { via := v, key := entryKey 0x8100 3, value := u.debugValue.2, at_ := u.time.localCount }
        let t : State := { u with
          paths := { u.paths with latches := (u.paths.latches.filter fun y => y.via != v) ++ [x] } }
        exec (.debugRead v) s = .next (say rcOk t (x.value.take (segmentLimit v)))) ∧
      (∀ typ e rc t, u.judgeAccess v n m typ true (some b.length) = (rcOk, some e) →
        findEntry n m = some e → typeLength e.typ ≠ 0 → valueOk e n m b = true →
        ¬(e.typ = 7 ∧ e.access = 2 ∧ leVal b = 0) → u.writeEntry v e n m b = (rc, t) →
        rc = rcOk → exec (.registerWrite v n m typ 0 b.length true b) s = .next (say rcOk t [])) ∧
      (∀ e, findEntry n m = some e → exec (.describe v n m) s = .next (say rcOk u (u.descriptor e n m))) ∧
      (findEntry n m = none →
        exec (.describe v n m) s = .next (say rcRangeError (u.bump Reg.rangeErrors) [])) ∧
      (nextKey (entryKey n m) = none → exec (.nextEntry v n m) s = .next (say rcAbsent u [])) ∧
      (∀ k e, nextKey (entryKey n m) = some k → findEntry (k / 256) (k % 256) = some e →
        exec (.nextEntry v n m) s = .next (say rcOk u (u.descriptor e (k / 256) (k % 256))))) ∧
    (∀ x, s.partialOf v = some x →
      (s.stale x = true → exec (.writeSegmentTimeout v) s = .next (s.dropPartial v true)) ∧
      (s.stale x = false → exec (.writeSegmentTimeout v) s = .next s)) ∧
    (∀ len value, bar0Ok n len value = true →
      let bytes := leBytes len value
      (n < 0x10000 →
        exec (.bar0Write n len value) s = .next (s.writeSlotBytes (n / 0x1000) (n % 0x1000) bytes)) ∧
      (0x10000 ≤ n → n < 0x11000 → exec (.bar0Write n len value) s = .next (s.writeRing (n - 0x10000) bytes)) ∧
      (0x20000 ≤ n → n < 0x20400 → exec (.bar0Write n len value) s = .next (s.writeMsix (n - 0x20000) bytes)) ∧
      (0x21000 ≤ n → n < 0x21008 → exec (.bar0Write n len value) s = .next s) ∧
      ((0x11000 ≤ n ∧ n < 0x20000 ∨ 0x20400 ≤ n ∧ n < 0x21000 ∨ 0x21008 ≤ n) →
        exec (.bar0Write n len value) s = .next (s.bump Reg.bar0WritesDiscarded)))

/-- A granted PowerRequest that nothing refuses arms a transition two courses ahead; it starts when its course has
come, passes from state to state with the losses of each and is reported, and reaches Sleep once the notice queues
are empty or the wait is over. In Sleep, the course, a wake frame, WAKE_N and the supply each start a wake that is
enabled, and the end of the wake runs an attempt. A lost supply, too much voltage, PWR_GOOD and the thermal shutdown
force Sleep; a power loss leaves Off. A sensor sample on an awake module is taken or deferred. Sleep's own
temperature event and a low coolant flow are reported (R446, R449, R450, R451, R452, R454, R455, R457, R458, R529,
R560, R563). -/
def Obligations.PowerStatesChange : Prop :=
  ∀ (v : Via) (n : Nat) (b : Bytes) (s : State),
    (s.grantsNumber v 0x3000 2 1 n = true →
      let u := s.countRequest v
      let target := n % 4
      (n / 4 % 32 ≠ 0 ∨ target = 3 ∧ u.reg Reg.wakeSources = 0 →
        exec (.powerRequest v n) s = .next (u.respond v 0x3000 2 2 rcRangeError [])) ∧
      (n / 4 % 32 = 0 → (target = 3 → u.reg Reg.wakeSources ≠ 0) →
        (u.power.target.isSome = true →
          exec (.powerRequest v n) s = .next (u.respond v 0x3000 2 2 rcStateRefused [])) ∧
        (u.power.target = none → target = powerCode u.power.mode →
          exec (.powerRequest v n) s = .next (u.answerOk v)) ∧
        (u.power.target = none → target ≠ powerCode u.power.mode →
          (target < 2 ∨ bit n 7 = true ∨ u.reg Reg.bondMode = 0 ∧ u.planActive = false) →
          (target = 0 → u.reg Reg.thermalLevel ≠ 3 ∧ u.power.tripped = false) →
          exec (.powerRequest v n) s = .next (State.answerOk { u.setReg Reg.pendingTransition target with
            power := { u.power with
              target := some target, startsAt := u.time.localCount + 2, started := false, cause := 1 } } v)))) ∧
    (∀ t, s.power.target = some t → s.awake = true →
      (s.power.started = false → s.power.startsAt ≤ s.time.localCount →
        let w : State := { s with power := { s.power with started := true } }
        let w := (w.setReg Reg.lastTransitionCause w.power.cause).setReg Reg.lastTransitionCourse w.stamp
        exec .powerTransitionStart s = .next w.announceSleep) ∧
      (s.time.localCount < s.power.startsAt → exec .powerTransitionStart s = .next s) ∧
      (s.power.started = true →
        let m := nextMode s.power.mode t
        (m ≠ s.power.mode → powerCode m = t →
          let w := s.enterAwake m s.power.cause
          exec .powerTransitionDone s = .next { w.setReg Reg.pendingTransition 0xFF with
            power := { w.power with target := none, started := false } }) ∧
        (m ≠ s.power.mode → powerCode m ≠ t →
          exec .powerTransitionDone s = .next (s.enterAwake m s.power.cause).announceSleep) ∧
        (s.power.mode = .doze → t = 3 →
          (s.paths.chainQueue = [] ∧ s.paths.ringQueue = [] ∨ s.power.startsAt + 3125 ≤ s.time.localCount) →
          let w := (s.bump Reg.sleepEntries).cold true .sleep
          exec .sleepEntry s = .next (w.setReg Reg.lastTransitionCause s.power.cause)))) ∧
    (s.power.mode ≠ .doze → exec .sleepEntry s = .next s) ∧
    (let wakes (src : Nat) : State :=
      let w : State := { s with power := { s.power with waking := some src } }
      (w.setReg Reg.lastWakeSource src).setReg Reg.lastTransitionCourse w.stamp
     let may (src : Nat) : Prop := s.power.mode = .sleep ∧ s.power.waking = none ∧
      bit (s.reg Reg.wakeSources) (src - 1) = true ∧ s.power.pwrGood = true ∧ s.power.supplyLow = false
     (may 1 → s.reg Reg.wakeCourse ≠ allOnes64 →
        s.reg Reg.wakeCourse ≤ s.time.keeper + s.reg Reg.wakeLead + s.keeperBound →
        exec .wakeAtCourse s = .next (wakes 1)) ∧
      (s.reg Reg.wakeCourse = allOnes64 → exec .wakeAtCourse s = .next s) ∧
      (may 2 → isWakeFrame b = true → (n = leVal (s.blob Blob.chainMac) ∨ n = 2 ^ 48 - 1) →
        exec (.chainWakeFrame n b) s = .next (wakes 2)) ∧
      (isWakeFrame b = false → exec (.chainWakeFrame n b) s = .next s) ∧
      (may 3 → exec .wakeNLow s = .next (wakes 3)) ∧
      (s.power.mode ≠ .sleep → exec .wakeNLow s = .next s) ∧
      (let w : State := { s with power := { s.power with supplyLow := false, pwrGood := true } }
       (s.power.supplyLow = true → s.power.mode = .sleep →
          exec .supplyReturn s = .next ((w.bump Reg.supplyLosses).startWake 4)) ∧
        (s.power.supplyLow = false ∨ s.power.mode ≠ .sleep → exec .supplyReturn s = .next w))) ∧
    (s.power.mode = .sleep →
      (∀ src count, s.power.waking = some src →
        exec (.woken count) s = .next ((s.attempt none).endWake src count)) ∧
      (s.power.waking = none → ∀ count, exec (.woken count) s = .next s) ∧
      (let w := s.bump Reg.sleepTempEvents
       exec .sleepTempEvent s = .next (State.driveAlert { w with power := { w.power with sleepAlert := true } }))) ∧
    (s.awake = true →
      let sleeps (u : State) (cause : Nat) : State := (u.setReg Reg.lastTransitionCourse u.stamp).enterSleep cause
      let l := (s.power.lowest.map fun x => min x n).getD n
      exec (.supplyLow n) s = .next (sleeps { s with power := { s.power with supplyLow := true, lowest := some l } } 3) ∧
      exec .overVoltage s = .next (sleeps (s.bump Reg.overVoltageEvents) 3) ∧
      exec .pwrGoodDeassert s = .next (sleeps { s with power := { s.power with pwrGood := false } } 3) ∧
      exec .thermalShutdown s = .next (sleeps s 2) ∧
      (3125 ≤ s.power.flowLow → exec .coolantFlowLow s = .next (s.notice Note.coolantFlowLow srcModule
        (u32 (s.reg Reg.coolantFlow) ++ u32 (s.reg Reg.inletTemperature) ++ u32 (s.reg Reg.outletTemperature)))) ∧
      (s.power.flowLow < 3125 → exec .coolantFlowLow s = .next s) ∧
      (∀ r, exec (.sensorSample true r) s =
          .next ((((s.showSensors r).takeEnergy r.energy).noteFlow r.flowLow).takeTemperature r).thermalRests ∧
        exec (.sensorSample false r) s =
          .next ((s.bump Reg.sensorDeferred).takeEnergy (s.power.energy.headD 0)).thermalRests)) ∧
    exec .powerLoss s = .next (s.cold false .off)

/-- A granted AttestNonce with no report under way and not Retired begins a report with its nonce; the end of a
report signs the body captured, or captured now, shows it and counts it, and with no report under way changes
nothing. While the module is awake and not Retired, an SPDM request is answered: a certificate of slot 0, a
measurement block, or a signed report of all blocks, counted. A configured trace starts when its course has come,
and not before. NotAfter of the running image is judged once, and an image out of date is announced. An AttestNonce
with a report under way or in Retired is StateRefused, and an SPDM request in Retired is answered with nothing; the
form of an SPDM error is assumption 39 (R469, R473, R478, R479, R480, R481, R485, R492). -/
def Obligations.ReportsAndTraces : Prop :=
  ∀ (v : Via) (b : Bytes) (s : State),
    (s.grants v 0x8010 1 9 b = true →
      let u := s.countRequest v
      (u.reg Reg.attestState ≠ 1 → u.reg Reg.lifecycle ≠ 3 → exec (.attestNonce v b) s =
        .next (State.answerOk { u.setReg Reg.attestState 1 with
          security := { u.security with attest := some ⟨b, []⟩ } } v)) ∧
      (u.reg Reg.attestState = 1 ∨ u.reg Reg.lifecycle = 3 →
        exec (.attestNonce v b) s = .next (u.respond v 0x8010 1 2 rcStateRefused []))) ∧
    (∀ a, s.security.attest = some a →
      let body := if a.body.isEmpty then s.reportBody a.nonce else a.body
      let t : State := { s with security := { s.security with attest := some { a with body := body } } }
      let t := ((t.setBlob Blob.attestReport (t.signReport body)).setReg Reg.attestState 2).bump Reg.attestReports
      exec .attestComplete s = .next { t with security := { t.security with attest := none } }) ∧
    (s.security.attest = none → exec .attestComplete s = .next s) ∧
    (s.awake = true → s.reg Reg.lifecycle ≠ 3 →
      exec (.spdmRequest (.getCertificate 0)) s = .next (s.emit (.spdm (s.certificate false))) ∧
      (∀ index nonce, index ≠ 0x10 → exec (.spdmRequest (.getMeasurements index nonce)) s =
        .next (s.emit (.spdm (s.measurementBlock index)))) ∧
      (∀ nonce, exec (.spdmRequest (.getMeasurements 0x10 nonce)) s =
        .next ((s.bump Reg.attestReports).emit (.spdm (s.signReport (s.reportBody nonce)))))) ∧
    (s.awake = true → s.reg Reg.lifecycle = 3 → ∀ r, exec (.spdmRequest r) s = .next (s.emit (.spdm []))) ∧
    (s.reg Reg.traceState = 1 → s.prog.running = true → s.reg Reg.traceStart ≤ s.prog.course →
      let t := s.setReg Reg.traceState 2
      exec .traceStart s = .next { t with
        security := { t.security with trace := [], traceUntil := t.prog.course + t.reg Reg.traceCourses } }) ∧
    (s.prog.course < s.reg Reg.traceStart → exec .traceStart s = .next s) ∧
    (s.time.known = true → s.security.notAfterSeen = false → s.limewash = false → s.awake = true →
      let i : Item := ⟨s.security.image⟩
      let t : State := { s with security := { s.security with notAfterSeen := true } }
      (i.notAfter = 0 ∨ s.time.count ≤ i.notAfter → exec .notafterPassed s = .next t) ∧
      (i.notAfter ≠ 0 → i.notAfter < s.time.count → exec .notafterPassed s =
        .next (t.notice Note.imageRefused srcModule (u8 1 ++ u8 9 ++ u8 i.securityVersion ++ u8 2))))

/-- A granted OwnerEnroll in Sealed with no owner enrols. A verified owner change sets the new enrolment, or removes
the owner where it is zero, and takes a fresh nonce. A verified lifecycle token whose move is allowed moves the
state. A debug request at or below the level lowers it, and one for 1 or 2 raises it where R491 and R493 allow it. A
verified debug token sets the level it asks for where R493 allows it, and one at or below the level leaves it; both
take a fresh nonce. A DebugWrite in Hold with no plan armed or running stores its bytes at a range that exists. A
commit fuses the running version and announces it. An item that does not verify is refused with its cause and
result, and each of these writes outside its conditions is turned away with the result that R476, R477, R483, R491
or R492 gives (R472, R474, R476, R477, R483, R484, R485, R491, R492, R493, R495). -/
def Obligations.SecurityCommandsAct : Prop :=
  ∀ (v : Via) (n : Nat) (b : Bytes) (s : State),
    let u := s.countRequest v
    let i : Item := ⟨b⟩
    let refuse (cause rc index sub : Nat) : Host.Outcome State Fault Refusal :=
      .next ((u.refuseItem i cause (viaCode v)).respond v index sub 2 rc [])
    (s.grants v 0x8010 7 9 b = true →
      (u.reg Reg.lifecycle = 1 → u.owned = false →
        exec (.ownerEnroll v b) s = .next ((u.setOwner (some b) 1).answerOk v)) ∧
      (u.reg Reg.lifecycle ≠ 1 ∨ u.owned = true →
        exec (.ownerEnroll v b) s = .next (u.respond v 0x8010 7 2 rcStateRefused []))) ∧
    (s.grants v 0x8010 8 9 b = true →
      (u.verify i [4] false = none → allZero (slice i.body 64 64) = false →
        exec (.ownerChange v b) s = .next ((u.setOwner (some (slice i.body 64 64)) 2).freshNonce.answerOk v)) ∧
      (u.verify i [4] false = none → allZero (slice i.body 64 64) = true →
        exec (.ownerChange v b) s = .next ((u.setOwner none 3).freshNonce.answerOk v)) ∧
      (∀ cause rc, u.verify i [4] false = some (cause, rc) → exec (.ownerChange v b) s = refuse cause rc 0x8010 8)) ∧
    (s.grants v 0x8020 2 9 b = true →
      (u.verify i [5] false = none → u.moveAllowed i.request = true →
        exec (.lifecycleToken v b) s = .next ((u.moveLifecycle i.request).answerOk v)) ∧
      (u.verify i [5] false = none → u.moveAllowed i.request = false →
        exec (.lifecycleToken v b) s = .next (u.respond v 0x8020 2 2 rcStateRefused [])) ∧
      (∀ cause rc, u.verify i [5] false = some (cause, rc) → exec (.lifecycleToken v b) s = refuse cause rc 0x8020 2)) ∧
    (s.grantsNumber v 0x8020 5 1 n = true →
      (n ≤ u.reg Reg.debugLevel → n ≤ 3 →
        exec (.debugRequest v n) s = .next ((u.setDebugLevel n (viaCode v) 1).answerOk v)) ∧
      (u.reg Reg.debugLevel < n → n < 3 → (n = 2 → u.secure v = true ∧ u.owned = false) → u.levelAllowed n = true →
        exec (.debugRequest v n) s = .next ((u.setDebugLevel n (viaCode v) 1).answerOk v)) ∧
      (u.reg Reg.debugLevel < n → n = 3 →
        exec (.debugRequest v n) s = .next (u.respond v 0x8020 5 2 rcStateRefused []))) ∧
    (s.grants v 0x8020 6 9 b = true →
      (u.verify i [3] false = none → i.request ≤ 3 → u.reg Reg.debugLevel < i.request → u.levelAllowed i.request = true →
        exec (.debugToken v b) s = .next ((u.setDebugLevel i.request (viaCode v) 2).freshNonce.answerOk v)) ∧
      (u.verify i [3] false = none → i.request ≤ 3 → i.request ≤ u.reg Reg.debugLevel →
        exec (.debugToken v b) s = .next (u.freshNonce.answerOk v)) ∧
      (u.verify i [3] false = none → 3 < i.request →
        exec (.debugToken v b) s = .next (u.respond v 0x8020 6 2 rcRangeError [])) ∧
      (∀ cause rc, u.verify i [3] false = some (cause, rc) → exec (.debugToken v b) s = refuse cause rc 0x8020 6)) ∧
    (s.grants v 0x8100 4 9 b = true →
      (u.power.mode = .hold → u.planActive = false →
        ∀ a, u.debugRange (u.reg Reg.debugAddress) b.length = (rcOk, a) →
          exec (.debugWrite v b) s = .next ((u.store a b).answerOk v)) ∧
      (u.power.mode ≠ .hold ∨ u.planActive = true →
        exec (.debugWrite v b) s = .next (u.respond v 0x8100 4 2 rcStateRefused []))) ∧
    (s.grantsNumber v 0x8000 3 7 1 = true →
      let w := u.reg Reg.securityVersionRunning
      (u.limewash = false → u.reg Reg.securityVersionFused < w → u.olderImage = false →
        exec (.securityVersionCommit v 1) s =
          .next (((u.setReg Reg.securityVersionFused w).notice Note.securityVersionCommitted srcModule (u8 w)).answerOk v)) ∧
      (u.limewash = true ∨ w ≤ u.reg Reg.securityVersionFused ∨ u.olderImage = true →
        exec (.securityVersionCommit v 1) s = .next (u.respond v 0x8000 3 2 rcStateRefused [])))

/-- A granted write of Solo ends the pair at the next course, unless a takeover is pending; a paired mode whose
conditions hold and that nothing blocks begins Waiting. Yield is kept. A heartbeat that checks is kept, and on a
pair moves the mirror's mark and its state. A protected pair whose keys differ for 64 courses is Degraded, and a
full buffer is reported once. A resync whose keys agree is Protected. A record of a slot that the partner owns is
applied. A partner missed for the limit is lost: a takeover becomes due where the bond protects, else the bond ends.
A report to the head makes the takeover due, and at T the mirrored slots resume, clear or abort. A module that was
taken over goes Solo. At a boundary the held requests are judged in their order (R501, R502, R504, R505, R507, R508,
R509, R510, R511, R513, R514, R520). -/
def Obligations.BondsActTogether : Prop :=
  ∀ (v : Via) (n : Nat) (b : Bytes) (s : State),
    let u := s.countRequest v
    (s.grantsNumber v 0x9000 1 1 n = true →
      (n = 0 → u.reg Reg.bondMode = 0 → exec (.bondModeWrite v n) s = .next (u.answerOk v)) ∧
      (n = 0 → u.reg Reg.bondMode ≠ 0 → u.takeoverPending = true →
        exec (.bondModeWrite v n) s = .next (u.respond v 0x9000 1 2 rcStateRefused [])) ∧
      (n = 0 → u.reg Reg.bondMode ≠ 0 → u.takeoverPending = false →
        exec (.bondModeWrite v n) s = .next (State.answerOk { u with bond := { u.bond with ending := true } } v)) ∧
      (n ≠ 0 → n ≠ u.reg Reg.bondMode → u.limewash = false → u.power.mode = .run → u.planActive = true →
        u.partnerUp = true → ∀ p, u.anyPlan = some p → (n = 3 → p.divides = true) → p.sharesIngress = true →
        u.blocker 8 0 = none → exec (.bondModeWrite v n) s = .next ((State.pair n u).answerOk v))) ∧
    (s.grantsNumber v 0x9000 6 7 1 = true →
      exec (.bondYield v 1) s = .next (State.answerOk { u with bond := { u.bond with yield := true } } v)) ∧
    (∀ bond lane, bond < 4 → lane < 8 → n < 2 ^ 128 → wordChecks n = true →
      (s.power.mode = .run ∨ s.power.mode = .hold) →
      let y := if s.bond.seen then s.bond.yieldSeen || hbYield n else hbYield n
      let t : State := { s with bond := { s.bond with partner := some n, seen := true, yieldSeen := y } }
      (s.reg Reg.bondMode = 0 → exec (.heartbeat bond lane n) s = .next t) ∧
      (s.reg Reg.bondMode ≠ 0 → exec (.heartbeat bond lane n) s = .next ((t.takeMarkOf n).meetPartner n))) ∧
    (s.reg Reg.bondState = 3 →
      (64 ≤ s.bond.keyDiffers → exec .bondDegraded s =
        .next ((s.setReg Reg.bondState 4).notice Note.bondDegraded srcModule (u8 1))) ∧
      (s.bond.keyDiffers < 64 → exec .bondDegraded s = .next s) ∧
      (s.bond.bufferFilled = true → s.bond.lagged = false →
        let t := s.setReg Reg.bondState 4
        let t : State := { t with bond := { t.bond with lagged := true } }
        exec .mirrorBufferFull s = .next ((t.notice Note.mirrorLagging srcModule
          (u64 (t.reg Reg.mirrorMark) ++ u32 t.bond.buffered)).notice Note.bondDegraded srcModule (u8 2))) ∧
      (s.bond.bufferFilled = false → exec .mirrorBufferFull s = .next s)) ∧
    (s.reg Reg.bondState = 2 →
      (s.keysEqual = true → s.bond.resync = [] → exec .resyncDone s = .next ((s.setReg Reg.resyncTilesLeft 0).notice Note.resyncDone srcModule
        (u16 s.bond.copied ++ u32 (s.time.localCount + 1 - s.bond.resyncAt))).protect) ∧
      ((s.keysEqual = false ∨ s.bond.resync ≠ []) → exec .resyncDone s = .next s)) ∧
    (mirrorOk b = true → s.awake = true → 1 ≤ s.reg Reg.bondState → s.reg Reg.bondState ≤ 4 →
      ((s.reg Reg.bondMode = 2 ∨ s.reg Reg.bondMode = 3) →
        (byteAt b 0 = 6 ∨ field b 2 2 < s.tintSlots ∧ s.owns (field b 2 2) = false) →
        exec (.mirrorRecord b) s = .next (s.applyMirror b)) ∧
      (s.reg Reg.bondMode ≤ 1 → exec (.mirrorRecord b) s = .next s)) ∧
    (s.reg Reg.bondMode ≠ 0 → s.reg Reg.bondState ≠ 0 → s.reg Reg.bondState ≠ 5 →
      (s.bond.missed < s.reg Reg.heartbeatLimit → exec .partnerLost s = .next s) ∧
      (s.reg Reg.heartbeatLimit ≤ s.bond.missed →
        let t := s.notice Note.bondLost srcModule (u8 s.bond.cause ++ u64 (s.reg Reg.appliedMark))
        let t := if s.reg Reg.bondState = 3 ∨ s.reg Reg.bondState = 4 then t.lossTakeover s.bond.cause else t.solo
        exec .partnerLost s =
          .next ((t.repairs.filter fun x => x.sources.head? == some 1).foldl State.nextSource t))) ∧
    (n < 4096 → s.headHears n b = true →
      (s.reg Reg.bondState = 3 ∨ s.reg Reg.bondState = 4) → s.bond.takeover = none → s.bond.tookOver = false →
      exec (.bondReport n b) s = .next { s with bond := { s.bond with lost := true } }) ∧
    (n < 4096 → s.headHears n b = false → exec (.bondReport n b) s = .next s) ∧
    (s.bond.takeover = none → exec .bondTakeover s = .next s) ∧
    (∀ t rm, s.bond.takeover = some (t, rm) → s.reg Reg.bondMode ≠ 0 → s.haltDue = false →
      (s.reachedCourses.any (fun c => decide (t ≤ c)) = false → exec .bondTakeover s = .next s) ∧
      (s.reachedCourses.any (fun c => decide (t ≤ c)) = true →
        let mirrored := (s.serving.slots.filter fun e => e.2.state == 6).map (·.1)
        let r := mirrored.foldl (State.takeSlot t rm) (s, 0, 0)
        let w := r.1.solo
        let w : State := { w with bond := { w.bond with tookOver := true } }
        let w := ((w.bump Reg.takeovers).setReg Reg.lastTakeover t).setReg Reg.lastResumeMark rm
        exec .bondTakeover s = .next (w.notice Note.bondTakeover srcModule
          (u64 t ++ u64 rm ++ u16 r.2.1 ++ u16 r.2.2)))) ∧
    (s.reg Reg.bondMode ≠ 0 → s.bond.partner.any hbTookOver = true →
      let t := (s.drew 1).solo
      exec .bondTakenOver s = .next (t.notice Note.bondTakenOver srcModule
        (u16 (t.reg Reg.bondPartner) ++ u64 (Config.freeWord s.drawn).toNat))) ∧
    (s.reg Reg.bondMode = 0 → exec .bondTakenOver s = .next s) ∧
    (s.awake = true → exec .maintenanceRelease s = .next (s.held.foldl State.releaseHeldRequest s))

/-- A waiting tile is read once more: taken if its check holds, else it fails twice and a source is asked. A holder
that is awake answers a request with a tile that passes its check, else with a refusal. A tile that comes under a
repair's tag is delivered, a refusal asks the next source, and so does a source that is late; a repair without a
source is given up. A damage report to the head withholds its generation, and CLEAR_WITHHELD ends that. A hard fault
is counted and kept; with a plan running it stops the plan at the boundary, where tints end or pass to the bond and
the notices follow, else its notice is sent at once. A stuck granule is shown and sent (R54, R121, R539, R540, R541,
R542, R543, R544, R545, R546, R551, R552). -/
def Obligations.FaultsAreRepaired : Prop :=
  ∀ (v : Via) (n : Nat) (b tile : Bytes) (s : State),
    (∀ (c : Consumer) (err : Errors),
      (s.waitOf c false = none → exec (.tileReread c err) s = .next s) ∧
      (∀ w, s.waitOf c false = some w →
        (s.inHold = true → exec (.tileReread c err) s = .next s) ∧
        (s.inHold = false →
        let t := s.bump Reg.tileRereads
        let r := received (t.load w.address (tileBytes w.fmt)) err
        (tileChecks r = true → exec (.tileReread c err) s = .next (t.takeTile w r)) ∧
        (tileChecks r = false → exec (.tileReread c err) s = .next (t.failsTwice w))))) ∧
    (n < 64 → s.awake = true → s.limewash = false → s.portRole n ≤ 1 → b.length = 64 → byteAt b 0 = 1 →
      let fabric := s.portRole n == 0
      let bond (k : Nat) (t : State) := t.fillBond (if fabric then 0 else k)
      let refusal := bond 1 (s.emit (.repair fabric n (padTo 64 (u8 3 ++ slice b 1 21 ++ u16 0)) []))
      (s.requestedTile b = none → exec (.repairRequest n b) s = .next refusal) ∧
      (∀ a fmt, s.requestedTile b = some (a, fmt) →
        (tileChecks (s.load a (tileBytes fmt)) = false → exec (.repairRequest n b) s = .next refusal) ∧
        (tileChecks (s.load a (tileBytes fmt)) = true →
          let t := s.load a (tileStride fmt)
          exec (.repairRequest n b) s =
            .next (bond (1 + t.length / 64) ((s.bump (if fabric then Reg.repairsServed else Reg.bondRepairsServed)).emit
              (.repair fabric n (padTo 64 (u8 2 ++ slice b 1 21 ++ u16 (t.length / 64))) t)))))) ∧
    (let mine := s.repairs.find? fun x => x.tag != 0 && x.tag == field b 4 2
     (mine = none → exec (.repairTile b tile) s = .next s) ∧
      (∀ x, mine = some x → s.awake = true → b.length = 64 →
        (byteAt b 0 = 2 →
          exec (.repairTile b tile) s = .next (s.deliverRepair x (tile.take (64 * field b 22 2)))) ∧
        (byteAt b 0 = 3 → exec (.repairTile b tile) s = .next (s.nextSource x)))) ∧
    exec .repairTimeout s = .next ((s.repairs.filter fun x =>
      x.tag != 0 && decide (x.since + s.reg Reg.repairTimeout ≤ s.time.localCount)).foldl State.nextSource s) ∧
    exec .noRepairSource s = .next ((s.repairs.filter fun x => x.sources.isEmpty).foldl State.giveUp s) ∧
    (n < 4096 →
      (s.headHears n b = true → exec (.damageReport n b) s = .next (s.setWithheld (byteAt b 5) true)) ∧
      (s.headHears n b = false → exec (.damageReport n b) s = .next s)) ∧
    (s.grantsNumber v 0xA602 0xB 1 n = true →
      exec (.clearWithheld v n) s = .next (((s.countRequest v).setWithheld n false).answerOk v)) ∧
    (∀ kind, s.hardUnit kind n = true → s.awake = true →
      let course := if s.prog.running then s.prog.course else allOnes64
      let t := ((s.bump Reg.hardFaults).setReg Reg.lastHardFault (kind * 2 ^ 24 + n % 2 ^ 24)).setReg
        Reg.lastHardFaultCourse course
      let t := if kind = 1 then t.coreFault n else if kind = 2 then t.pendRetirement n else t
      (t.prog.running = true → exec (.hardFault kind n) s =
        .next { t with start := { t.start with hard := t.start.hard ++ [(kind, n, course)] } }) ∧
      (t.prog.running = false → exec (.hardFault kind n) s = .next (t.noticeHard kind n course))) ∧
    (s.start.hard = [] → exec .planStop s = .next s) ∧
    (∀ k unit course l, s.start.hard = (k, unit, course) :: l →
      let t : State := { s with start := { s.start with hard := [] } }
      (s.prog.running = false → exec .planStop s = .next t) ∧
      (s.prog.running = true →
        let live := s.heldSlots.countP fun n => decide ((s.slot n).state ≤ 3) && !(s.slot n).cancelled
        let w := (((t.stopTints course s.bondProtected).emptyPlan.endPlan).dropPoint).dropSlots
        let w := w.start.granules.foldl State.zeroGranule w
        let w : State := { w with start := { w.start with granules := [] } }
        let w := s.start.hard.foldl (fun s h => s.noticeHard h.1 h.2.1 h.2.2) w
        exec .planStop s = .next ((w.bump Reg.planStops).notice Note.planStopped srcModule (u64 s.prog.course ++
          u16 (if s.bondProtected then 0 else live) ++ u8 (flagNat s.bondProtected))).doHardSwaps)) ∧
    (addrSpace n = 2 → n < 2 ^ 48 → s.brickOn (addrBrick n) = true → s.awake = true →
      exec (.storeStuck n) s = .next ((s.setReg Reg.stuckAddress n).notice Note.storeStuck (storeSource n) (u64 n)))

/-- In reset and Off an attempt runs its steps. RESET_N low for 16 courses resets. A start that stands for 2²⁰
courses is confirmed; a failure of an attempt under way, and a fatal fault, fail it or restart the module. In
Limewash a retry restarts. A granted slot image is kept, verified, and shown Valid or refused; a staged one comes
from the staging area. A diagnostic in Limewash shows its result. An activation of a verified image at its course is
armed or held; there the Trowels swap banks and the Keystone restarts; its end runs what waited and is sent. A
verified patch that fits is kept, armed, and swapped in at its course (R472, R516, R517, R529, R530, R531, R532,
R534, R535, R547, R550, R552). -/
def Obligations.StartsAndFirmware : Prop :=
  ∀ (v : Via) (n : Nat) (b : Bytes) (l : List Nat) (s : State),
    let u := s.countRequest v
    let stored (w : State) : Nat × State :=
      let slot := w.reg Reg.slotSelect
      let t : State := { w with start := { w.start with flash := Map.set w.start.flash [] slot b } }
      match t.verify ⟨b⟩ [1] false with
      | some (cause, rc) => (rc, (t.showSlot slot 3 0).refuseItem ⟨b⟩ cause (viaCode v))
      | none => (rcOk, t.showSlot slot 2 (⟨b⟩ : Item).firmwareVersion)
    (s.mayStart = true → exec (.attemptStart l) s = .next (s.attempt (some l)).wakeClock) ∧
    (s.mayStart = false → exec (.attemptStart l) s = .next s) ∧
    (s.power.mode ≠ .off → 16 ≤ n → exec (.resetN n) s = .next (s.cold true .inReset)) ∧
    (n < 16 → exec (.resetN n) s = .next s) ∧
    (s.reg Reg.startState = 1 →
      (s.start.operationalAt + 2 ^ 20 ≤ s.time.localCount →
        let t := (s.setReg Reg.startState 2).setReg Reg.failedStarts 0
        let t := t.recordStart 0 (t.reg Reg.runningSlot) 7 0
        let t : State := { t with start := { t.start with unfinished := false } }
        exec .startConfirmed s = .next (t.notice Note.startConfirmed srcModule
          (u8 (t.reg Reg.runningSlot) ++ u32 (t.reg Reg.firmwareVersion) ++ u32 (t.reg Reg.lastStartCourses)))) ∧
      (s.time.localCount < s.start.operationalAt + 2 ^ 20 → exec .startConfirmed s = .next s) ∧
      (s.mayStart = false → s.awake = true → ∀ reason detail, 2 ≤ reason → reason ≤ 5 →
        exec (.startFailed reason detail) s =
          .next (s.failAttempt reason (s.reg Reg.runningSlot) s.stepReached detail))) ∧
    (s.awake = true → 1 ≤ n → n ≤ 5 →
      let t := s.bump Reg.fatalResets
      let t : State := { t with start := { t.start with fatal := some (n, t.stamp) } }
      (t.reg Reg.startState = 1 →
        exec (.fatalFault n) s = .next (t.failAttempt 6 (t.reg Reg.runningSlot) t.stepReached n)) ∧
      (t.reg Reg.startState ≠ 1 → exec (.fatalFault n) s = .next t.internalReset)) ∧
    (s.grantsNumber v 0xA600 5 7 1 = true →
      (u.limewash = true → u.reg Reg.limewashReason ≠ 2 →
        exec (.startRetry v 1) s = .next ((u.setReg Reg.failedStarts 0).internalReset.answerOk v)) ∧
      (u.limewash = false ∨ u.reg Reg.limewashReason = 2 →
        exec (.startRetry v 1) s = .next (u.respond v 0xA600 5 2 rcStateRefused []))) ∧
    (s.grantsNumber v 0xA601 3 1 n = true →
      (u.limewash = true ∨ n ≠ u.reg Reg.runningSlot →
        exec (.slotSelect v n) s = .next ((u.setReg Reg.slotSelect n).answerOk v)) ∧
      (u.limewash = false → n = u.reg Reg.runningSlot →
        exec (.slotSelect v n) s = .next (u.respond v 0xA601 3 2 rcStateRefused []))) ∧
    (s.grants v 0xA601 4 9 b = true → (u.limewash = true ∨ u.reg Reg.slotSelect ≠ u.reg Reg.runningSlot) →
      exec (.slotImage v b) s = .next ((stored u).2.respond v 0xA601 4 2 (stored u).1 [])) ∧
    (s.grantsNumber v 0xA601 5 3 n = true →
      (n ≤ 2 ^ 24 → u.reg Reg.planState = 0 → u.staging.read 0 n = b →
        (u.limewash = true ∨ u.reg Reg.slotSelect ≠ u.reg Reg.runningSlot) →
        exec (.slotStage v n) s = .next ((stored u).2.respond v 0xA601 5 2 (stored u).1 [])) ∧
      (n ≤ 2 ^ 24 → u.reg Reg.planState ≠ 0 →
        exec (.slotStage v n) s = .next (u.respond v 0xA601 5 2 rcStateRefused []))) ∧
    (s.grantsNumber v 0xA603 6 1 n = true →
      (u.limewash = false → exec (.diagnosticRun v n l) s = .next (u.respond v 0xA603 6 2 rcStateRefused [])) ∧
      (u.limewash = true →
        let t : State := if n = 2 then { u with mem := [] } else u
        exec (.diagnosticRun v n l) s = .next ((t.setBlob Blob.diagnosticResult
          ((u8 n ++ u8 (flagNat l.isEmpty) ++ l.flatMap u32).take 4096)).answerOk v))) ∧
    (s.grantsNumber v 0x9020 1 4 n = true → u.limewash = false →
      (u.activationCourse n 64 = false →
        exec (.firmwareActivate v n) s = .next (u.respond v 0x9020 1 2 rcRangeError [])) ∧
      (u.activationCourse n 64 = true →
        let i := u.slotItem u.otherSlot
        let r := match u.verify i [1] false with
          | some (cause, rc) => (rc, u.refuseItem i cause (viaCode v))
          | none =>
            if u.prog.running = true ∧ i.bookVersion ≠ u.reg Reg.patternBookVersion then (rcStateRefused, u)
            else if u.reg Reg.activationState ≠ 0 then (rcStateRefused, u)
            else u.govern 1 (viaCode v) n (State.armFirmware n)
        exec (.firmwareActivate v n) s = .next (r.2.respond v 0x9020 1 2 r.1 []))) ∧
    (s.start.firmwareAt = none → exec .firmwareActivation s = .next s) ∧
    (∀ c, s.start.firmwareAt = some c → s.reg Reg.activationState = 1 → s.serviceCourse c = true → s.awake = true →
      let swap (s : State) (c : Nat) : State := s.setReg (Reg.trowelBank c) (1 - s.reg (Reg.trowelBank c))
      let patches := Config.imagePatches (s.slotItem s.otherSlot).body
      let t := (((List.range 128).filter s.clusterOn).foldl swap s).trowelImages (s.slotItem s.otherSlot).header
      let t : State := { t with start := { t.start with firmwareAt := some t.serviceStamp, patchRam := patches } }
      exec .firmwareActivation s = .next ((t.setReg Reg.patchedRoutines
        (manifestRecords (Config.patchRecords patches)).length).setReg Reg.activationState 2)) ∧
    (s.awake = true → s.keystoneDown = true →
      let t := s.restartDone
      let t : State := { t with paths := { t.paths with waiting := [] } }
      exec .keystoneRestartDone s =
        .next ((s.paths.waiting.foldl State.runWaiting t).noticeActivated (s.start.firmwareAt.getD allOnes64))) ∧
    (s.keystoneDown = false → exec .keystoneRestartDone s = .next s) ∧
    (s.grantsNumber v 0x9020 3 3 n = true → n ≤ 2 ^ 28 →
      (u.reg Reg.planState ≠ 0 ∨ u.limewash = true →
        exec (.patchLoad v n) s = .next (u.respond v 0x9020 3 2 rcStateRefused [])) ∧
      (u.reg Reg.planState = 0 → u.limewash = false →
        let i : Item := ⟨u.staging.read 0 n⟩
        exec (.patchLoad v n) s = .next (match u.verify i [2] false with
          | some (cause, rc) => ((u.setReg Reg.patchState 4).refuseItem i cause (viaCode v)).respond v 0x9020 3 2 rc []
          | none => if u.patchFits i then
                State.answerOk { u.setReg Reg.patchState 2 with
                  start := { u.start with patch := some i.body, patchAt := none } } v
              else (u.setReg Reg.patchState 4).respond v 0x9020 3 2 rcRangeError []))) ∧
    (s.grantsNumber v 0x9020 5 4 n = true →
      (u.reg Reg.patchState ≠ 2 → exec (.patchActivate v n) s = .next (u.respond v 0x9020 5 2 rcStateRefused [])) ∧
      (u.reg Reg.patchState = 2 → u.activationCourse n 1 = true → u.blocker 2 0 = none →
        exec (.patchActivate v n) s = .next (State.answerOk { u.setReg Reg.patchState 3 with
          start := { u.start with patchAt := some n } } v))) ∧
    (∀ c body, s.start.patchAt = some c → s.start.patch = some body → s.reg Reg.patchState = 3 →
      s.serviceCourse c = true → s.awake = true →
      let t : State := { s with start := { s.start with patchRam := body, patch := none, patchAt := none } }
      let t := (t.setReg Reg.patchState 0).setReg Reg.patchedRoutines (manifestRecords (Config.patchRecords body)).length
      exec .patchSwap s = .next (t.notice Note.patchActivated srcModule
        (u16 (t.reg Reg.patchedRoutines) ++ u64 s.serviceStamp))) ∧
    (s.start.patchAt = none → exec .patchSwap s = .next s)

/-- Where byte j is t0 + 3 t1 + 9 t2 + 27 t3 + 81 t4 of five digits, elements 5j to 5j + 4 are those digits, and a
digit t stands for t - 1; 4,096 elements take 820 bytes, and of byte 819 only t0 is an element. A byte of 243 to 255
gives five elements of 0. A TRN5 tile that passes its checks sets IV on the array where it has such bytes, and each
is counted in TrnInvalidBytes. The byte 0x79 is five elements of 0, the byte 0x00 five of -1 (R78). -/
def Obligations.TritsOfATile : Prop :=
  (∀ (book bs : Bytes) (j t0 t1 t2 t3 t4 : Nat), t0 < 3 → t1 < 3 → t2 < 3 → t3 < 3 → t4 < 3 →
    byteAt bs j = t0 + 3 * t1 + 9 * t2 + 27 * t3 + 81 * t4 →
    ((List.range 5).map fun i => unpackElem 14 bs (5 * j + i)) = [t0, t1, t2, t3, t4] ∧
    ((List.range 5).map fun i => elemValue 14 book (unpackElem 14 bs (5 * j + i))) =
      [t0, t1, t2, t3, t4].map fun t : Nat => numOfInt ((t : Int) - 1)) ∧
  packedLen 14 4096 = 820 ∧
  (∀ bs : Bytes, (unpackAll 14 4096 bs).length = 4096 ∧
    (byteAt bs 819 < 243 → (unpackAll 14 4096 bs)[4095]? = some (byteAt bs 819 % 3))) ∧
  (∀ (book bs : Bytes) (j i : Nat), i < 5 →
    (243 ≤ byteAt bs j → elemValue 14 book (unpackElem 14 bs (5 * j + i)) = numOfInt 0) ∧
    (byteAt bs j = 0x79 → elemValue 14 book (unpackElem 14 bs (5 * j + i)) = numOfInt 0) ∧
    (byteAt bs j = 0x00 → elemValue 14 book (unpackElem 14 bs (5 * j + i)) = numOfInt (-1))) ∧
  ∀ (core eng : Nat) (s : State) (g : Fill) (x : Front), core < 1024 → eng < 4 → hasQueue core eng = true →
    s.prog.works = true →
    let u := s.setArrayOf core eng { s.arrayOf core eng with fills := markArrived (s.arrayOf core eng).fills }
    u.awaits (.feeder core eng) = false →
    ((u.arrayOf core eng).fills.find? fun g => g.verdict.isNone) = some g → g.front = some x → g.arrived = true →
    u.unchecked x = false → crc32c (g.bytes.drop 8) = tileCheck g.bytes → x.wt = 14 → tileFormat g.bytes = 14 →
    tileReserved g.bytes = 0 → u.tintOk x g.bytes = true → generationOk x g.bytes = true →
    let n := (tileElems 14 g.bytes).countP fun b => decide (243 ≤ b.toNat)
    exec (.tileVerdict core eng) s = .next (State.judged
      (if n = 0 then u else (u.bumpBy Reg.trnInvalidBytes n).raise core eng flIV) core eng true)

/-- Every entry's mask is Awake, 0x0F, or a set of Run, Hold and Doze without bit 3. With the checks before it
passed, an entry can be read and written exactly where, outside Limewash, the bit of the power state is set, and in
Limewash where bit 3 is set too; elsewhere a read and a whole write are answered StateRefused and have no effect but
that count and the answer. In Sleep and in Off no request reaches an entry (R416). -/
def Obligations.AllowedStates : Prop :=
  (∀ e ∈ dictionary, e.states = 0x0F ∨ e.states < 8) ∧
  ∀ (v : Via) (index sub off : Nat) (b : Bytes) (s : State) (e : Entry), s.keystoneDown = false →
    (s.power.mode = .sleep ∨ s.power.mode = .off → ∀ typ tot last,
      exec (.readSegment v index sub typ off) s = .next s ∧
      exec (.registerWrite v index sub typ off tot last b) s = .next s) ∧
    (s.serves v = true → index < 0xF000 → findEntry index sub = some e →
      let u := s.countRequest v
      let here := match s.power.mode with
        | .run => bit e.states 0
        | .hold => bit e.states 1
        | .doze => bit e.states 2
        | _ => false
      let reached := (u.limewash = false ∧ here = true) ∨ (u.limewash = true ∧ bit e.states 3 = true ∧ here = true)
      let refused := ((u.bump Reg.stateRefusals).emit (.response v rcStateRefused (u32 u.stateWord)))
      u.allowed v e index sub = true → u.unitPresent index sub = true →
      (e.access ≠ 2 →
        (reached → u.judgeAccess v index sub e.typ false none = (rcOk, some e)) ∧
        (reached → typeLength e.typ ≠ 0 → exec (.readSegment v index sub e.typ 0) s =
          .next (u.emit (.response v rcOk (leBytes (typeLength e.typ) (u.readFixed e index sub))))) ∧
        (¬reached → exec (.readSegment v index sub e.typ off) s = .next refused)) ∧
      (e.access ≠ 0 → e.access ≠ 4 → (typeLength e.typ ≠ 0 → b.length = typeLength e.typ) →
        (reached → u.judgeAccess v index sub e.typ true (some b.length) = (rcOk, some e)) ∧
        (¬reached → exec (.registerWrite v index sub e.typ 0 b.length true b) s = .next refused)))
end

