-- ==== Sys2Proof/Laws/Memory.lean ====
section
/-! SUPPORT. The laws of sparse tables and of addressed bytes: a read after a write, and the canonical form, which every
operation keeps. -/

namespace Sys2Proof.Machine

variable {α : Type}

/-- Every key of a table lies above a bound. -/
def Map.above (k : Nat) (m : Map α) : Bool := m.all fun e => decide (k < e.1)

theorem Map.above_mono {j k : Nat} (h : j ≤ k) {m : Map α} (hm : Map.above k m = true) : Map.above j m = true := by
  simp only [Map.above, List.all_eq_true, decide_eq_true_eq] at *
  exact fun e he => Nat.lt_of_le_of_lt h (hm e he)

theorem Map.rising_cons (e : Nat × α) (m : Map α) :
    Map.rising (e :: m) = (Map.above e.1 m && Map.rising m) := rfl

/-! ### Dropping and putting -/

theorem Map.mem_drop {m : Map α} {k : Nat} {e : Nat × α} (h : e ∈ Map.drop m k) : e ∈ m := by
  induction m with
  | nil => simp [Map.drop] at h
  | cons x m ih =>
    obtain ⟨j, v⟩ := x
    by_cases hj : j = k
    · simp only [Map.drop, hj, if_true] at h
      exact List.mem_cons_of_mem _ h
    · simp only [Map.drop, hj, if_false, List.mem_cons] at h
      rcases h with h | h
      · exact h ▸ List.mem_cons_self
      · exact List.mem_cons_of_mem _ (ih h)

theorem Map.mem_put {m : Map α} {k : Nat} {v : α} {e : Nat × α} (h : e ∈ Map.put m k v) : e = (k, v) ∨ e ∈ m := by
  induction m with
  | nil => simpa [Map.put] using h
  | cons x m ih =>
    obtain ⟨j, w⟩ := x
    simp only [Map.put] at h
    split at h
    · simpa using h
    · split at h
      · rcases List.mem_cons.mp h with h | h
        · exact .inl h
        · exact .inr (List.mem_cons_of_mem _ h)
      · rcases List.mem_cons.mp h with h | h
        · exact .inr (h ▸ List.mem_cons_self)
        · exact (ih h).imp_right (List.mem_cons_of_mem _)

theorem Map.above_drop {m : Map α} {j k : Nat} (h : Map.above j m = true) : Map.above j (Map.drop m k) = true := by
  simp only [Map.above, List.all_eq_true] at *
  exact fun e he => h e (Map.mem_drop he)

theorem Map.above_put {m : Map α} {j k : Nat} {v : α} (hk : j < k) (h : Map.above j m = true) :
    Map.above j (Map.put m k v) = true := by
  simp only [Map.above, List.all_eq_true, decide_eq_true_eq] at *
  intro e he
  rcases Map.mem_put he with rfl | he
  · exact hk
  · exact h e he

theorem Map.rising_drop {m : Map α} {k : Nat} (h : Map.rising m = true) : Map.rising (Map.drop m k) = true := by
  induction m with
  | nil => exact h
  | cons x m ih =>
    obtain ⟨j, v⟩ := x
    rw [Map.rising_cons, Bool.and_eq_true] at h
    by_cases hj : j = k
    · simpa [Map.drop, hj] using h.2
    · simp only [Map.drop, hj, if_false, Map.rising_cons, Bool.and_eq_true]
      exact ⟨Map.above_drop h.1, ih h.2⟩

theorem Map.rising_put {m : Map α} {k : Nat} {v : α} (h : Map.rising m = true) : Map.rising (Map.put m k v) = true := by
  induction m with
  | nil => rfl
  | cons x m ih =>
    obtain ⟨j, w⟩ := x
    have h' := h
    rw [Map.rising_cons, Bool.and_eq_true] at h
    simp only [Map.put]
    split
    · rename_i hk
      rw [Map.rising_cons, Bool.and_eq_true]
      refine ⟨?_, h'⟩
      simp only [Map.above, List.all_cons, Bool.and_eq_true, decide_eq_true_eq]
      exact ⟨hk, Map.above_mono (Nat.le_of_lt hk) h.1⟩
    · split
      · rename_i hj
        subst hj
        rw [Map.rising_cons, Bool.and_eq_true]
        exact h
      · rename_i h1 h2
        rw [Map.rising_cons, Bool.and_eq_true]
        exact ⟨Map.above_put (show j < k by omega) h.1, ih h.2⟩

/-! ### The canonical form -/

/-- A write keeps the canonical form. -/
theorem Map.wf_set [DecidableEq α] {d : Nat → α} {m : Map α} {k : Nat} {v : α} (h : Map.wf d m = true) :
    Map.wf d (Map.set m (d k) k v) = true := by
  simp only [Map.wf, Bool.and_eq_true, List.all_eq_true, decide_eq_true_eq] at h ⊢
  unfold Map.set
  split
  · exact ⟨Map.rising_drop h.1, fun e he => h.2 e (Map.mem_drop he)⟩
  · rename_i hv
    refine ⟨Map.rising_put h.1, fun e he => ?_⟩
    rcases Map.mem_put he with rfl | he
    · exact hv
    · exact h.2 e he

/-- A filter keeps the canonical form. -/
theorem Map.wf_filter [DecidableEq α] {d : Nat → α} {m : Map α} {p : Nat × α → Bool} (h : Map.wf d m = true) :
    Map.wf d (m.filter p) = true := by
  simp only [Map.wf, Bool.and_eq_true, List.all_eq_true, decide_eq_true_eq] at h ⊢
  refine ⟨?_, fun e he => h.2 e (List.mem_of_mem_filter he)⟩
  obtain ⟨hr, -⟩ := h
  induction m with
  | nil => rfl
  | cons x m ih =>
    rw [Map.rising_cons, Bool.and_eq_true] at hr
    rw [List.filter_cons]
    split
    · rw [Map.rising_cons, Bool.and_eq_true]
      refine ⟨?_, ih hr.2⟩
      have := hr.1
      simp only [Map.above, List.all_eq_true] at this ⊢
      exact fun e he => this e (List.mem_of_mem_filter he)
    · exact ih hr.2

/-! ### A read after a write -/

theorem Map.get_above [DecidableEq α] {m : Map α} {d : α} {k : Nat} (h : Map.above k m = true) : Map.get m d k = d := by
  induction m with
  | nil => rfl
  | cons x m ih =>
    obtain ⟨j, v⟩ := x
    simp only [Map.above, List.all_cons, Bool.and_eq_true, decide_eq_true_eq] at h
    rw [Map.get, if_neg (by omega)]
    exact ih h.2

/-- A key reads back what was written to it. -/
theorem Map.get_set_same [DecidableEq α] {m : Map α} {d : α} {k : Nat} {v : α} (h : Map.rising m = true) :
    Map.get (Map.set m d k v) d k = v := by
  unfold Map.set
  split
  · rename_i hv
    subst hv
    induction m with
    | nil => rfl
    | cons x m ih =>
      obtain ⟨j, w⟩ := x
      rw [Map.rising_cons, Bool.and_eq_true] at h
      by_cases hj : j = k
      · subst hj
        simpa [Map.drop] using Map.get_above h.1
      · simp only [Map.drop, hj, if_false, Map.get]
        exact ih h.2
  · clear h
    induction m with
    | nil => simp [Map.put, Map.get]
    | cons x m ih =>
      obtain ⟨j, w⟩ := x
      simp only [Map.put]
      split
      · simp [Map.get]
      · split
        · rename_i hj
          simp [Map.get]
        · rename_i hj
          rw [Map.get, if_neg hj]
          exact ih

/-- A write leaves every other key as it was. -/
theorem Map.get_set_other [DecidableEq α] {m : Map α} {d e : α} {j k : Nat} {v : α} (hjk : j ≠ k) :
    Map.get (Map.set m d k v) e j = Map.get m e j := by
  unfold Map.set
  split
  · induction m with
    | nil => rfl
    | cons x m ih =>
      obtain ⟨i, w⟩ := x
      by_cases hi : i = k
      · subst hi
        simp [Map.drop, Map.get, Ne.symm hjk]
      · simp only [Map.drop, hi, if_false, Map.get, ih]
  · induction m with
    | nil => simp [Map.put, Map.get, Ne.symm hjk]
    | cons x m ih =>
      obtain ⟨i, w⟩ := x
      simp only [Map.put]
      split
      · simp [Map.get, Ne.symm hjk]
      · split
        · rename_i hi
          subst hi
          simp [Map.get, Ne.symm hjk]
        · simp only [Map.get, ih]

/-! ### Addressed bytes -/

/-- Every memory operation keeps the canonical form: a byte written. -/
theorem Memory.wf_setByte {m : Memory} {a : Nat} {b : Byte} (h : m.wf = true) : (m.setByte a b).wf = true :=
  Map.wf_set (d := fun _ => (0 : Byte)) h

/-- Nothing listed. -/
@[simp] theorem Memory.wf_nil : Memory.wf [] = true := rfl

/-- A run of bytes written. -/
@[simp] theorem Memory.wf_write {m : Memory} {a : Nat} {bs : Bytes} (h : m.wf = true) : (m.write a bs).wf = true := by
  induction bs generalizing m a with
  | nil => exact h
  | cons b bs ih => exact ih (Memory.wf_setByte h)

/-- A range zeroed. -/
@[simp] theorem Memory.wf_clear {m : Memory} {a n : Nat} (h : m.wf = true) : (m.clear a n).wf = true := Map.wf_filter h

theorem Memory.rising_of_wf {m : Memory} (h : m.wf = true) : Map.rising m = true := by
  simp only [Memory.wf, Map.wf, Bool.and_eq_true] at h
  exact h.1

/-- A byte written reads back. -/
theorem Memory.byte_setByte {m : Memory} {a : Nat} {b : Byte} (h : m.wf = true) : (m.setByte a b).byte a = b :=
  Map.get_set_same (Memory.rising_of_wf h)

/-- A byte written leaves every other byte. -/
theorem Memory.byte_setByte_other {m : Memory} {a c : Nat} {b : Byte} (h : c ≠ a) : (m.setByte a b).byte c = m.byte c :=
  Map.get_set_other h

/-- A run of bytes written leaves every byte outside it. -/
theorem Memory.byte_write_other {m : Memory} {a c : Nat} {bs : Bytes} (h : c < a ∨ a + bs.length ≤ c) :
    (m.write a bs).byte c = m.byte c := by
  induction bs generalizing m a with
  | nil => rfl
  | cons b bs ih =>
    rw [Memory.write, ih (by simp only [List.length_cons] at h; omega), Memory.byte_setByte_other]
    simp only [List.length_cons] at h
    omega

/-- A run of bytes written reads back, byte by byte. -/
theorem Memory.byte_write {m : Memory} {a i : Nat} {bs : Bytes} (h : m.wf = true) (hi : i < bs.length) :
    (m.write a bs).byte (a + i) = bs.getD i 0 := by
  induction bs generalizing m a i with
  | nil => exact absurd hi (by simp)
  | cons b bs ih =>
    rw [Memory.write]
    cases i with
    | zero =>
      rw [Memory.byte_write_other (by omega), Nat.add_zero, Memory.byte_setByte h]
      rfl
    | succ i =>
      rw [show a + (i + 1) = a + 1 + i by omega, ih (Memory.wf_setByte h) (by simpa using hi)]
      rfl

end Sys2Proof.Machine
end

