-- ==== Sys2Proof/Laws/Base.lean ====
section
/-! SUPPORT. What the lemmas about the operations rest on: a fold keeps what its step keeps, a conditional is read
field by field, and a queue of notices stays within its bound. -/

namespace Sys2Proof.Machine

/-! ### Conditionals -/

section
variable {c : Prop} [Decidable c]

@[simp] theorem ite_mem (a b : State) : (if c then a else b).mem = if c then a.mem else b.mem := apply_ite _ _ _ _
@[simp] theorem ite_staging (a b : State) : (if c then a else b).staging = if c then a.staging else b.staging :=
  apply_ite _ _ _ _
@[simp] theorem ite_paths (a b : State) : (if c then a else b).paths = if c then a.paths else b.paths :=
  apply_ite _ _ _ _
@[simp] theorem ite_pending (a b : State) : (if c then a else b).pending = if c then a.pending else b.pending :=
  apply_ite _ _ _ _
@[simp] theorem ite_sndState {α : Type} (a b : α × State) : (if c then a else b).2 = if c then a.2 else b.2 :=
  apply_ite _ _ _ _
@[simp] theorem ite_fstState {α : Type} (a b : State × α) : (if c then a else b).1 = if c then a.1 else b.1 :=
  apply_ite _ _ _ _
@[simp] theorem ite_wf (a b : Memory) : (if c then a else b).wf = if c then a.wf else b.wf := apply_ite _ _ _ _
@[simp] theorem ite_bounded (a b : Paths) : (if c then a else b).bounded = if c then a.bounded else b.bounded :=
  apply_ite _ _ _ _

/-- A property of both branches. -/
theorem all_of_ite {α : Type} {p : α → Bool} {a b : Option α} (ha : a.all p = true) (hb : b.all p = true) :
    (if c then a else b).all p = true := by
  split
  · exact ha
  · exact hb

end

/-! ### Folds -/

@[simp] theorem foldl_mem {α : Type} (g : State → α → State) (h : ∀ s a, (g s a).mem = s.mem) (l : List α) (s : State) :
    (l.foldl g s).mem = s.mem := by
  induction l generalizing s with
  | nil => rfl
  | cons a l ih => rw [List.foldl_cons, ih, h]

@[simp] theorem foldl_staging {α : Type} (g : State → α → State) (h : ∀ s a, (g s a).staging = s.staging) (l : List α)
    (s : State) : (l.foldl g s).staging = s.staging := by
  induction l generalizing s with
  | nil => rfl
  | cons a l ih => rw [List.foldl_cons, ih, h]

@[simp] theorem foldlWf_mem {α : Type} (g : State → α → State) (hg : ∀ s a, s.mem.wf = true → (g s a).mem.wf = true)
    (l : List α) (s : State) (h : s.mem.wf = true) : (l.foldl g s).mem.wf = true := by
  induction l generalizing s with
  | nil => exact h
  | cons a l ih => exact ih _ (hg _ _ h)

@[simp] theorem foldlWf_staging {α : Type} (g : State → α → State)
    (hg : ∀ s a, s.staging.wf = true → (g s a).staging.wf = true) (l : List α)
    (s : State) (h : s.staging.wf = true) : (l.foldl g s).staging.wf = true := by
  induction l generalizing s with
  | nil => exact h
  | cons a l ih => exact ih _ (hg _ _ h)

@[simp] theorem foldlWf_paths {α : Type} (g : State → α → State)
    (hg : ∀ s a, s.paths.bounded = true → (g s a).paths.bounded = true) (l : List α)
    (s : State) (h : s.paths.bounded = true) : (l.foldl g s).paths.bounded = true := by
  induction l generalizing s with
  | nil => exact h
  | cons a l ih => exact ih _ (hg _ _ h)

/-! ### Queues of notices -/

theorem Paths.bounded_iff {p : Paths} :
    p.bounded = true ↔ p.chainQueue.length ≤ 1024 ∧ p.ringQueue.length ≤ 1024 := by
  simp [Paths.bounded]

theorem dropOldest_length (c : Nat) (l : List Notice) (h : ∃ n ∈ l, n.cls = c) :
    (dropOldest c l).length + 1 = l.length := by
  induction l with
  | nil => simp at h
  | cons n l ih =>
    unfold dropOldest
    split
    · rfl
    · rename_i hn
      obtain ⟨m, hm, hc⟩ := h
      rcases List.mem_cons.mp hm with rfl | hm
      · exact absurd hc hn
      · simp [ih ⟨m, hm, hc⟩]

theorem lowestClass_mem (l : List Notice) (k : Nat) :
    l.foldl (fun m n => min m n.cls) k = k ∨ ∃ n ∈ l, n.cls = l.foldl (fun m n => min m n.cls) k := by
  induction l generalizing k with
  | nil => exact .inl rfl
  | cons n l ih =>
    rcases ih (min k n.cls) with h | ⟨m, hm, hc⟩
    · simp only [List.foldl_cons, h]
      rcases Nat.le_total k n.cls with hk | hk
      · exact .inl (Nat.min_eq_left hk)
      · exact .inr ⟨n, List.mem_cons_self, (Nat.min_eq_right hk).symm⟩
    · exact .inr ⟨m, List.mem_cons_of_mem _ hm, hc⟩

/-- Some notice is of the lowest class. -/
theorem lowestClass_present (l : List Notice) (h : l ≠ []) : ∃ n ∈ l, n.cls = lowestClass l := by
  cases l with
  | nil => exact absurd rfl h
  | cons n l =>
    rcases lowestClass_mem l n.cls with h | ⟨m, hm, hc⟩
    · exact ⟨n, List.mem_cons_self, h.symm⟩
    · exact ⟨m, List.mem_cons_of_mem _ hm, hc⟩

/-- A queue that holds at most 1,024 still does when a notice joins (R437). -/
theorem queueNotice_length (l : List Notice) (n : Notice) (h : l.length ≤ 1024) :
    (queueNotice l n).1.length ≤ 1024 := by
  unfold queueNotice
  dsimp only
  split
  · have h1 := dropOldest_length (lowestClass (l ++ [n])) (l ++ [n]) (lowestClass_present _ (by simp))
    simp only [List.length_append, List.length_cons, List.length_nil] at h1
    dsimp only
    omega
  · rename_i hl
    exact Nat.le_of_not_lt hl

end Sys2Proof.Machine
end

