-- ==== Sys2Proof/Laws/Ops.lean ====
section
/-! SUPPORT. What the operations of Machine/Ops.lean leave alone and keep: the addressed memories that they do not
write are as they were, those that they write stay canonical, and the queues of notices stay within their bound. -/

namespace Sys2Proof.Machine

@[simp] theorem State.setReg_stores (s : State) (r : RegId) (v : Nat) :
    (State.setReg s r v).mem = s.mem ∧ (State.setReg s r v).staging = s.staging := by
  unfold State.setReg
  simp

@[simp] theorem State.setReg_bounded (s : State) (r : RegId) (v : Nat) (hw : s.paths.bounded = true) :
    (State.setReg s r v).paths.bounded = true := by
  unfold State.setReg
  simp (maxDischargeDepth := 40) [*]

@[simp] theorem State.bumpBy_stores (s : State) (r : RegId) (n : Nat) :
    (State.bumpBy s r n).mem = s.mem ∧ (State.bumpBy s r n).staging = s.staging := by
  unfold State.bumpBy
  simp

@[simp] theorem State.bumpBy_bounded (s : State) (r : RegId) (n : Nat) (hw : s.paths.bounded = true) :
    (State.bumpBy s r n).paths.bounded = true := by
  unfold State.bumpBy
  simp (maxDischargeDepth := 40) [*]

@[simp] theorem State.bump_stores (s : State) (r : RegId) :
    (State.bump s r).mem = s.mem ∧ (State.bump s r).staging = s.staging := by
  unfold State.bump
  simp

@[simp] theorem State.bump_bounded (s : State) (r : RegId) (hw : s.paths.bounded = true) :
    (State.bump s r).paths.bounded = true := by
  unfold State.bump
  simp (maxDischargeDepth := 40) [*]

@[simp] theorem State.lower_stores (s : State) (r : RegId) (n : Nat) :
    (State.lower s r n).mem = s.mem ∧ (State.lower s r n).staging = s.staging := by
  unfold State.lower
  simp

@[simp] theorem State.lower_bounded (s : State) (r : RegId) (n : Nat) (hw : s.paths.bounded = true) :
    (State.lower s r n).paths.bounded = true := by
  unfold State.lower
  simp (maxDischargeDepth := 40) [*]

@[simp] theorem State.setBlob_stores (s : State) (k : Nat) (v : Bytes) :
    (State.setBlob s k v).mem = s.mem ∧ (State.setBlob s k v).staging = s.staging := by
  unfold State.setBlob
  simp

@[simp] theorem State.setBlob_bounded (s : State) (k : Nat) (v : Bytes) (hw : s.paths.bounded = true) :
    (State.setBlob s k v).paths.bounded = true := by
  unfold State.setBlob
  simp (maxDischargeDepth := 40) [*]

@[simp] theorem State.setBlobByte_stores (s : State) (k i v : Nat) :
    (State.setBlobByte s k i v).mem = s.mem ∧ (State.setBlobByte s k i v).staging = s.staging := by
  unfold State.setBlobByte
  simp

@[simp] theorem State.setBlobByte_bounded (s : State) (k i v : Nat) (hw : s.paths.bounded = true) :
    (State.setBlobByte s k i v).paths.bounded = true := by
  unfold State.setBlobByte
  simp (maxDischargeDepth := 40) [*]

@[simp] theorem State.emit_stores (s : State) (o : Out) :
    (State.emit s o).mem = s.mem ∧ (State.emit s o).staging = s.staging := by
  unfold State.emit
  simp

@[simp] theorem State.emit_bounded (s : State) (o : Out) (hw : s.paths.bounded = true) :
    (State.emit s o).paths.bounded = true := by
  unfold State.emit
  simp (maxDischargeDepth := 40) [*]

@[simp] theorem State.drew_stores (s : State) (n : Nat) :
    (State.drew s n).mem = s.mem ∧ (State.drew s n).staging = s.staging := by
  unfold State.drew
  simp

@[simp] theorem State.drew_bounded (s : State) (n : Nat) (hw : s.paths.bounded = true) :
    (State.drew s n).paths.bounded = true := by
  unfold State.drew
  simp (maxDischargeDepth := 40) [*]

@[simp] theorem State.mapTime_stores (s : State) (f : Time → Time) :
    (State.mapTime s f).mem = s.mem ∧ (State.mapTime s f).staging = s.staging := by
  unfold State.mapTime
  simp

@[simp] theorem State.mapTime_bounded (s : State) (f : Time → Time) (hw : s.paths.bounded = true) :
    (State.mapTime s f).paths.bounded = true := by
  unfold State.mapTime
  simp (maxDischargeDepth := 40) [*]

@[simp] theorem State.mapProg_stores (s : State) (f : Progress → Progress) :
    (State.mapProg s f).mem = s.mem ∧ (State.mapProg s f).staging = s.staging := by
  unfold State.mapProg
  simp

@[simp] theorem State.mapProg_bounded (s : State) (f : Progress → Progress) (hw : s.paths.bounded = true) :
    (State.mapProg s f).paths.bounded = true := by
  unfold State.mapProg
  simp (maxDischargeDepth := 40) [*]

@[simp] theorem State.crossEdges_stores (s : State) (a b granules : Nat) :
    (State.crossEdges s a b granules).mem = s.mem ∧ (State.crossEdges s a b granules).staging = s.staging := by
  unfold State.crossEdges
  refine ⟨(foldl_mem _ (fun s a => ?_) _ _).trans ?_, (foldl_staging _ (fun s a => ?_) _ _).trans ?_⟩ <;>
    (repeat' split) <;> simp

@[simp] theorem State.crossEdges_bounded (s : State) (a b granules : Nat) (hw : s.paths.bounded = true) :
    (State.crossEdges s a b granules).paths.bounded = true := by
  unfold State.crossEdges
  refine foldlWf_paths _ (fun s a h => ?_) _ _ ?_ <;> (repeat' split) <;> simp (maxDischargeDepth := 40) [*]

@[simp] theorem State.crossAccess_stores (s : State) (core a n : Nat) :
    (State.crossAccess s core a n).mem = s.mem ∧ (State.crossAccess s core a n).staging = s.staging := by
  unfold State.crossAccess
  simp

@[simp] theorem State.crossAccess_bounded (s : State) (core a n : Nat) (hw : s.paths.bounded = true) :
    (State.crossAccess s core a n).paths.bounded = true := by
  unfold State.crossAccess
  simp (maxDischargeDepth := 40) [*]

@[simp] theorem State.deliver_stores (s : State) (k : NoticeKind) (source suppressed : Nat) (payload : Bytes) :
    (State.deliver s k source suppressed payload).mem = s.mem ∧ (State.deliver s k source suppressed payload).staging = s.staging := by
  unfold State.deliver
  simp

@[simp] theorem State.deliver_bounded (s : State) (k : NoticeKind) (source suppressed : Nat) (payload : Bytes)
    (h : s.paths.bounded = true) : (s.deliver k source suppressed payload).paths.bounded = true := by
  simp only [Paths.bounded, Bool.and_eq_true, decide_eq_true_eq] at h
  unfold State.deliver
  simp only [Paths.bounded, Bool.and_eq_true, decide_eq_true_eq]
  refine ⟨?_, queueNotice_length _ _ h.2⟩
  split
  · exact queueNotice_length _ _ h.1
  · exact h.1

@[simp] theorem State.notice_stores (s : State) (k : NoticeKind) (source : Nat) (payload : Bytes) :
    (State.notice s k source payload).mem = s.mem ∧ (State.notice s k source payload).staging = s.staging := by
  unfold State.notice
  simp

@[simp] theorem State.notice_bounded (s : State) (k : NoticeKind) (source : Nat) (payload : Bytes)
    (h : s.paths.bounded = true) : (s.notice k source payload).paths.bounded = true := by
  unfold State.notice
  split
  · exact State.deliver_bounded _ _ _ _ _ h
  · split
    · exact State.bump_bounded _ _ h
    · extract_lets b
      split
      · exact State.deliver_bounded _ _ _ _ _ h
      · exact State.bump_bounded _ _ h

@[simp] theorem sweepBuckets_stores (l : Map Bucket) (s : State) :
    (sweepBuckets l s).mem = s.mem ∧ (sweepBuckets l s).staging = s.staging := by
  induction l generalizing s with
  | nil => exact ⟨rfl, rfl⟩
  | cons e l ih =>
    unfold sweepBuckets
    split
    · exact ih s
    · simp [ih, apply_ite State.mem, apply_ite State.staging]

@[simp] theorem sweepBuckets_bounded (l : Map Bucket) (s : State) (h : s.paths.bounded = true) :
    (sweepBuckets l s).paths.bounded = true := by
  induction l generalizing s with
  | nil => exact h
  | cons e l ih =>
    unfold sweepBuckets
    split
    · exact ih s h
    · refine ih _ ?_
      split
      · exact State.deliver_bounded _ _ _ _ _ h
      · exact State.bump_bounded _ _ h

@[simp] theorem State.sweep_stores (s : State) :
    (State.sweep s).mem = s.mem ∧ (State.sweep s).staging = s.staging := by
  unfold State.sweep
  simp

@[simp] theorem State.sweep_bounded (s : State) (hw : s.paths.bounded = true) :
    (State.sweep s).paths.bounded = true := by
  unfold State.sweep
  simp [hw]

@[simp] theorem State.refillBuckets_stores (s : State) :
    (State.refillBuckets s).mem = s.mem ∧ (State.refillBuckets s).staging = s.staging := by
  unfold State.refillBuckets
  simp

@[simp] theorem State.refillBuckets_bounded (s : State) (hw : s.paths.bounded = true) :
    (State.refillBuckets s).paths.bounded = true := by
  unfold State.refillBuckets
  exact hw

@[simp] theorem State.setPort_stores (s : State) (p : Nat) (v : Port) :
    (State.setPort s p v).mem = s.mem ∧ (State.setPort s p v).staging = s.staging := by
  unfold State.setPort
  simp

@[simp] theorem State.setPort_bounded (s : State) (p : Nat) (v : Port) (hw : s.paths.bounded = true) :
    (State.setPort s p v).paths.bounded = true := by
  unfold State.setPort
  simp (maxDischargeDepth := 40) [*]

@[simp] theorem State.setCore_stores (s : State) (c : Nat) (v : Core) :
    (State.setCore s c v).mem = s.mem ∧ (State.setCore s c v).staging = s.staging := by
  unfold State.setCore
  simp

@[simp] theorem State.setCore_bounded (s : State) (c : Nat) (v : Core) (hw : s.paths.bounded = true) :
    (State.setCore s c v).paths.bounded = true := by
  unfold State.setCore
  simp (maxDischargeDepth := 40) [*]

@[simp] theorem State.setSlot_stores (s : State) (n : Nat) (v : Slot) :
    (State.setSlot s n v).mem = s.mem ∧ (State.setSlot s n v).staging = s.staging := by
  unfold State.setSlot
  simp

@[simp] theorem State.setSlot_bounded (s : State) (n : Nat) (v : Slot) (hw : s.paths.bounded = true) :
    (State.setSlot s n v).paths.bounded = true := by
  unfold State.setSlot
  simp (maxDischargeDepth := 40) [*]

@[simp] theorem State.setQp_stores (s : State) (n : Nat) (v : Qp) :
    (State.setQp s n v).mem = s.mem ∧ (State.setQp s n v).staging = s.staging := by
  unfold State.setQp
  simp

@[simp] theorem State.setQp_bounded (s : State) (n : Nat) (v : Qp) (hw : s.paths.bounded = true) :
    (State.setQp s n v).paths.bounded = true := by
  unfold State.setQp
  simp (maxDischargeDepth := 40) [*]

end Sys2Proof.Machine
end

