-- ==== Sys2Proof/Laws/Requests.lean ====
section
/-! SUPPORT. What the operations of Machine/Requests.lean leave alone and keep: the addressed memories that they do not
write are as they were, those that they write stay canonical, and the queues of notices stay within their bound. -/

namespace Sys2Proof.Machine

@[simp] theorem State.recordAbsent_stores (s : State) (v : Via) (index sub op : Nat) :
    (State.recordAbsent s v index sub op).mem = s.mem ∧ (State.recordAbsent s v index sub op).staging = s.staging := by
  unfold State.recordAbsent
  simp

@[simp] theorem State.recordAbsent_bounded (s : State) (v : Via) (index sub op : Nat)
    (hw : s.paths.bounded = true) : (State.recordAbsent s v index sub op).paths.bounded = true := by
  unfold State.recordAbsent
  simp (maxDischargeDepth := 40) [*]

@[simp] theorem State.countResult_stores (s : State) (rc : Nat) :
    (State.countResult s rc).mem = s.mem ∧ (State.countResult s rc).staging = s.staging := by
  unfold State.countResult
  simp

@[simp] theorem State.countResult_bounded (s : State) (rc : Nat) (hw : s.paths.bounded = true) :
    (State.countResult s rc).paths.bounded = true := by
  unfold State.countResult
  simp [hw]

@[simp] theorem State.countRequest_stores (s : State) (v : Via) :
    (State.countRequest s v).mem = s.mem ∧ (State.countRequest s v).staging = s.staging := by
  unfold State.countRequest
  simp

@[simp] theorem State.countRequest_bounded (s : State) (v : Via) (hw : s.paths.bounded = true) :
    (s.countRequest v).paths.bounded = true := by
  unfold State.countRequest
  (repeat' split) <;> simp [hw]

@[simp] theorem State.applyWhole_mem (s : State) (e : Entry) (index sub : Nat) (value : Bytes)
    (act : State → Nat × State) (hact : ∀ x0, (act x0).2.mem = x0.mem) :
    (State.applyWhole s e index sub value act).2.mem = s.mem := by
  unfold State.applyWhole
  (repeat' split) <;> simp_all

@[simp] theorem State.applyWhole_staging (s : State) (e : Entry) (index sub : Nat) (value : Bytes)
    (act : State → Nat × State) (hact : ∀ x0, (act x0).2.staging = x0.staging) :
    (State.applyWhole s e index sub value act).2.staging = s.staging := by
  unfold State.applyWhole
  (repeat' split) <;> simp_all

@[simp] theorem State.applyWhole_wf (s : State) (e : Entry) (index sub : Nat) (value : Bytes)
    (act : State → Nat × State) (hact : ∀ x0, x0.mem.wf = true → (act x0).2.mem.wf = true) (hw : s.mem.wf = true) :
    (State.applyWhole s e index sub value act).2.mem.wf = true := by
  unfold State.applyWhole
  simp (maxDischargeDepth := 40) [*]

@[simp] theorem State.applyWhole_stagingWf (s : State) (e : Entry) (index sub : Nat) (value : Bytes)
    (act : State → Nat × State) (hact : ∀ x0, x0.staging.wf = true → (act x0).2.staging.wf = true)
    (hw : s.staging.wf = true) : (State.applyWhole s e index sub value act).2.staging.wf = true := by
  unfold State.applyWhole
  simp (maxDischargeDepth := 40) [*]

@[simp] theorem State.applyWhole_bounded (s : State) (e : Entry) (index sub : Nat) (value : Bytes)
    (act : State → Nat × State) (hact : ∀ x0, x0.paths.bounded = true → (act x0).2.paths.bounded = true)
    (hw : s.paths.bounded = true) : (State.applyWhole s e index sub value act).2.paths.bounded = true := by
  unfold State.applyWhole
  simp (maxDischargeDepth := 40) [*]

@[simp] theorem State.respond_stores (s : State) (v : Via) (index sub op rc : Nat) (value : Bytes) :
    (State.respond s v index sub op rc value).mem = s.mem ∧ (State.respond s v index sub op rc value).staging = s.staging := by
  unfold State.respond
  simp

@[simp] theorem State.respond_bounded (s : State) (v : Via) (index sub op rc : Nat) (value : Bytes)
    (hw : s.paths.bounded = true) : (State.respond s v index sub op rc value).paths.bounded = true := by
  unfold State.respond
  simp (maxDischargeDepth := 40) [*]

@[simp] theorem State.holdBack_stores (s : State) (w : Waiting) :
    (State.holdBack s w).mem = s.mem ∧ (State.holdBack s w).staging = s.staging := by
  unfold State.holdBack
  simp

@[simp] theorem State.holdBack_bounded (s : State) (w : Waiting) (hw : s.paths.bounded = true) :
    (State.holdBack s w).paths.bounded = true := by
  unfold State.holdBack
  exact hw

@[simp] theorem State.writeNow_mem (s : State) (v : Via) (index sub typ : Nat) (value : Bytes)
    (act : State → Nat × State) (hact : ∀ x0, (act x0).2.mem = x0.mem) :
    (State.writeNow s v index sub typ value act).mem = s.mem := by
  unfold State.writeNow
  dsimp only
  (repeat' split) <;> simp [hact]

@[simp] theorem State.writeNow_staging (s : State) (v : Via) (index sub typ : Nat) (value : Bytes)
    (act : State → Nat × State) (hact : ∀ x0, (act x0).2.staging = x0.staging) :
    (State.writeNow s v index sub typ value act).staging = s.staging := by
  unfold State.writeNow
  dsimp only
  (repeat' split) <;> simp [hact]

@[simp] theorem State.writeNow_wf (s : State) (v : Via) (index sub typ : Nat) (value : Bytes)
    (act : State → Nat × State) (hact : ∀ x0, x0.mem.wf = true → (act x0).2.mem.wf = true) (hw : s.mem.wf = true) :
    (State.writeNow s v index sub typ value act).mem.wf = true := by
  unfold State.writeNow
  dsimp only
  (repeat' split) <;> simp (maxDischargeDepth := 40) +contextual [*]

@[simp] theorem State.writeNow_stagingWf (s : State) (v : Via) (index sub typ : Nat) (value : Bytes)
    (act : State → Nat × State) (hact : ∀ x0, x0.staging.wf = true → (act x0).2.staging.wf = true)
    (hw : s.staging.wf = true) : (State.writeNow s v index sub typ value act).staging.wf = true := by
  unfold State.writeNow
  dsimp only
  (repeat' split) <;> simp (maxDischargeDepth := 40) +contextual [*]

@[simp] theorem State.writeNow_bounded (s : State) (v : Via) (index sub typ : Nat) (value : Bytes)
    (act : State → Nat × State) (hact : ∀ x0, x0.paths.bounded = true → (act x0).2.paths.bounded = true)
    (hw : s.paths.bounded = true) : (State.writeNow s v index sub typ value act).paths.bounded = true := by
  unfold State.writeNow
  dsimp only
  (repeat' split) <;> simp (maxDischargeDepth := 40) +contextual [*]

@[simp] theorem State.writeRequest_mem (s : State) (v : Via) (index sub typ : Nat) (value : Bytes)
    (act : State → Nat × State) (hact : ∀ x0, (act x0).2.mem = x0.mem) :
    (State.writeRequest s v index sub typ value act).mem = s.mem := by
  unfold State.writeRequest
  (repeat' split) <;> simp_all

@[simp] theorem State.writeRequest_staging (s : State) (v : Via) (index sub typ : Nat) (value : Bytes)
    (act : State → Nat × State) (hact : ∀ x0, (act x0).2.staging = x0.staging) :
    (State.writeRequest s v index sub typ value act).staging = s.staging := by
  unfold State.writeRequest
  (repeat' split) <;> simp_all

@[simp] theorem State.writeRequest_wf (s : State) (v : Via) (index sub typ : Nat) (value : Bytes)
    (act : State → Nat × State) (hact : ∀ x0, x0.mem.wf = true → (act x0).2.mem.wf = true) (hw : s.mem.wf = true) :
    (State.writeRequest s v index sub typ value act).mem.wf = true := by
  unfold State.writeRequest
  simp (maxDischargeDepth := 40) +contextual [*]

@[simp] theorem State.writeRequest_stagingWf (s : State) (v : Via) (index sub typ : Nat) (value : Bytes)
    (act : State → Nat × State) (hact : ∀ x0, x0.staging.wf = true → (act x0).2.staging.wf = true)
    (hw : s.staging.wf = true) : (State.writeRequest s v index sub typ value act).staging.wf = true := by
  unfold State.writeRequest
  simp (maxDischargeDepth := 40) +contextual [*]

@[simp] theorem State.writeRequest_bounded (s : State) (v : Via) (index sub typ : Nat) (value : Bytes)
    (act : State → Nat × State) (hact : ∀ x0, x0.paths.bounded = true → (act x0).2.paths.bounded = true)
    (hw : s.paths.bounded = true) : (State.writeRequest s v index sub typ value act).paths.bounded = true := by
  unfold State.writeRequest
  simp (maxDischargeDepth := 40) +contextual [*]

@[simp] theorem State.writeNumber_mem (s : State) (v : Via) (index sub typ value : Nat) (act : State → Nat × State)
    (hact : ∀ x0, (act x0).2.mem = x0.mem) : (State.writeNumber s v index sub typ value act).mem = s.mem := by
  unfold State.writeNumber
  (repeat' split) <;> simp_all

@[simp] theorem State.writeNumber_staging (s : State) (v : Via) (index sub typ value : Nat)
    (act : State → Nat × State) (hact : ∀ x0, (act x0).2.staging = x0.staging) :
    (State.writeNumber s v index sub typ value act).staging = s.staging := by
  unfold State.writeNumber
  (repeat' split) <;> simp_all

@[simp] theorem State.writeNumber_wf (s : State) (v : Via) (index sub typ value : Nat) (act : State → Nat × State)
    (hact : ∀ x0, x0.mem.wf = true → (act x0).2.mem.wf = true) (hw : s.mem.wf = true) :
    (State.writeNumber s v index sub typ value act).mem.wf = true := by
  unfold State.writeNumber
  simp (maxDischargeDepth := 40) +contextual [*]

@[simp] theorem State.writeNumber_stagingWf (s : State) (v : Via) (index sub typ value : Nat)
    (act : State → Nat × State) (hact : ∀ x0, x0.staging.wf = true → (act x0).2.staging.wf = true)
    (hw : s.staging.wf = true) : (State.writeNumber s v index sub typ value act).staging.wf = true := by
  unfold State.writeNumber
  simp (maxDischargeDepth := 40) +contextual [*]

@[simp] theorem State.writeNumber_bounded (s : State) (v : Via) (index sub typ value : Nat)
    (act : State → Nat × State) (hact : ∀ x0, x0.paths.bounded = true → (act x0).2.paths.bounded = true)
    (hw : s.paths.bounded = true) : (State.writeNumber s v index sub typ value act).paths.bounded = true := by
  unfold State.writeNumber
  simp (maxDischargeDepth := 40) +contextual [*]

@[simp] theorem State.putReg_stores (s : State) (r : RegId) (v : Nat) :
    (State.putReg s r v).2.mem = s.mem ∧ (State.putReg s r v).2.staging = s.staging := by
  unfold State.putReg
  simp

@[simp] theorem State.putReg_bounded (s : State) (r : RegId) (v : Nat) (hw : s.paths.bounded = true) :
    (State.putReg s r v).2.paths.bounded = true := by
  unfold State.putReg
  simp (maxDischargeDepth := 40) [*]

end Sys2Proof.Machine
end

