-- ==== Sys2Proof/Laws/Courses.lean ====
section
/-! SUPPORT. What the operations of Machine/Courses.lean leave alone and keep: the addressed memories that they do not
write are as they were, those that they write stay canonical, and the queues of notices stay within their bound. -/

namespace Sys2Proof.Machine

@[simp] theorem State.unlock_stores (s : State) :
    (State.unlock s).mem = s.mem ∧ (State.unlock s).staging = s.staging := by
  unfold State.unlock
  simp

@[simp] theorem State.unlock_bounded (s : State) (hw : s.paths.bounded = true) :
    (State.unlock s).paths.bounded = true := by
  unfold State.unlock
  exact hw

@[simp] theorem State.showRoot_stores (s : State) :
    (State.showRoot s).mem = s.mem ∧ (State.showRoot s).staging = s.staging := by
  unfold State.showRoot
  simp

@[simp] theorem State.showRoot_bounded (s : State) (hw : s.paths.bounded = true) :
    (State.showRoot s).paths.bounded = true := by
  unfold State.showRoot
  simp (maxDischargeDepth := 40) [*]

@[simp] theorem State.showSource_stores (s : State) :
    (State.showSource s).mem = s.mem ∧ (State.showSource s).staging = s.staging := by
  unfold State.showSource
  simp

@[simp] theorem State.showSource_bounded (s : State) (hw : s.paths.bounded = true) :
    (State.showSource s).paths.bounded = true := by
  unfold State.showSource
  simp (maxDischargeDepth := 40) [*]

@[simp] theorem State.loseReference_stores (s : State) :
    (State.loseReference s).mem = s.mem ∧ (State.loseReference s).staging = s.staging := by
  unfold State.loseReference
  simp

@[simp] theorem State.loseReference_bounded (s : State) (hw : s.paths.bounded = true) :
    (State.loseReference s).paths.bounded = true := by
  unfold State.loseReference
  simp [hw]

@[simp] theorem State.setCourseSource_stores (s : State) (v : Nat) :
    (State.setCourseSource s v).2.mem = s.mem ∧ (State.setCourseSource s v).2.staging = s.staging := by
  unfold State.setCourseSource
  simp

@[simp] theorem State.setCourseSource_bounded (s : State) (v : Nat) (hw : s.paths.bounded = true) :
    (State.setCourseSource s v).2.paths.bounded = true := by
  unfold State.setCourseSource
  simp (maxDischargeDepth := 40) [*]

@[simp] theorem State.loadCourse_stores (s : State) (v : Nat) :
    (State.loadCourse s v).2.mem = s.mem ∧ (State.loadCourse s v).2.staging = s.staging := by
  unfold State.loadCourse
  simp

@[simp] theorem State.loadCourse_bounded (s : State) (v : Nat) (hw : s.paths.bounded = true) :
    (State.loadCourse s v).2.paths.bounded = true := by
  unfold State.loadCourse
  simp [hw]

@[simp] theorem State.confirmCount_stores (s : State) (count : Nat) :
    (State.confirmCount s count).mem = s.mem ∧ (State.confirmCount s count).staging = s.staging := by
  unfold State.confirmCount
  simp

@[simp] theorem State.confirmCount_bounded (s : State) (count : Nat) (hw : s.paths.bounded = true) :
    (State.confirmCount s count).paths.bounded = true := by
  unfold State.confirmCount
  simp [hw]

@[simp] theorem State.compareSource_stores (s : State) (count : Nat) (phase8 : Int) :
    (State.compareSource s count phase8).mem = s.mem ∧ (State.compareSource s count phase8).staging = s.staging := by
  unfold State.compareSource
  simp

@[simp] theorem State.compareSource_bounded (s : State) (count : Nat) (phase8 : Int) (hw : s.paths.bounded = true) :
    (State.compareSource s count phase8).paths.bounded = true := by
  unfold State.compareSource
  simp [hw]

@[simp] theorem State.acceptParent_stores (s : State) (port : Nat) (m : Mark) :
    (State.acceptParent s port m).mem = s.mem ∧ (State.acceptParent s port m).staging = s.staging := by
  unfold State.acceptParent
  simp

@[simp] theorem State.acceptParent_bounded (s : State) (port : Nat) (m : Mark) (hw : s.paths.bounded = true) :
    (State.acceptParent s port m).paths.bounded = true := by
  unfold State.acceptParent
  simp (maxDischargeDepth := 40) [*]

@[simp] theorem State.countConflicts_stores (s : State) :
    (State.countConflicts s).mem = s.mem ∧ (State.countConflicts s).staging = s.staging := by
  unfold State.countConflicts
  simp

@[simp] theorem State.countConflicts_bounded (s : State) (hw : s.paths.bounded = true) :
    (State.countConflicts s).paths.bounded = true := by
  unfold State.countConflicts
  simp (maxDischargeDepth := 40) [*]

@[simp] theorem State.hearParent_stores (s : State) (m : Mark) :
    (State.hearParent s m).mem = s.mem ∧ (State.hearParent s m).staging = s.staging := by
  unfold State.hearParent
  simp

@[simp] theorem State.hearParent_bounded (s : State) (m : Mark) (hw : s.paths.bounded = true) :
    (State.hearParent s m).paths.bounded = true := by
  unfold State.hearParent
  simp (maxDischargeDepth := 40) [*]

@[simp] theorem State.takeMark_stores (s : State) (port w : Nat) (phase8 : Int) :
    (State.takeMark s port w phase8).mem = s.mem ∧ (State.takeMark s port w phase8).staging = s.staging := by
  unfold State.takeMark
  dsimp only
  (repeat' split) <;> simp

@[simp] theorem State.takeMark_bounded (s : State) (port w : Nat) (phase8 : Int) (hw : s.paths.bounded = true) :
    (State.takeMark s port w phase8).paths.bounded = true := by
  unfold State.takeMark
  dsimp only
  (repeat' split) <;> simp (maxDischargeDepth := 40) [*]

@[simp] theorem State.reselect_stores (s : State) :
    (State.reselect s).mem = s.mem ∧ (State.reselect s).staging = s.staging := by
  unfold State.reselect
  (repeat' split) <;> simp

@[simp] theorem State.reselect_bounded (s : State) (hw : s.paths.bounded = true) :
    (State.reselect s).paths.bounded = true := by
  unfold State.reselect
  (repeat' split) <;> simp (maxDischargeDepth := 40) [*]

@[simp] theorem State.holdover_stores (s : State) :
    (State.holdover s).mem = s.mem ∧ (State.holdover s).staging = s.staging := by
  unfold State.holdover
  simp

@[simp] theorem State.holdover_bounded (s : State) (hw : s.paths.bounded = true) :
    (State.holdover s).paths.bounded = true := by
  unfold State.holdover
  simp (maxDischargeDepth := 40) [*]

@[simp] theorem State.lock_stores (s : State) : (State.lock s).mem = s.mem ∧ (State.lock s).staging = s.staging := by
  unfold State.lock
  simp

@[simp] theorem State.lock_bounded (s : State) (hw : s.paths.bounded = true) :
    (State.lock s).paths.bounded = true := by
  unfold State.lock
  simp (maxDischargeDepth := 40) [*]

@[simp] theorem State.referenceReturns_stores (s : State) (count : Nat) (phase8 : Int) :
    (State.referenceReturns s count phase8).mem = s.mem ∧ (State.referenceReturns s count phase8).staging = s.staging := by
  unfold State.referenceReturns
  simp

@[simp] theorem State.referenceReturns_bounded (s : State) (count : Nat) (phase8 : Int)
    (hw : s.paths.bounded = true) : (State.referenceReturns s count phase8).paths.bounded = true := by
  unfold State.referenceReturns
  simp (maxDischargeDepth := 40) [*]

@[simp] theorem State.sourceReturns_stores (s : State) (count : Nat) (phase8 : Int) :
    (State.sourceReturns s count phase8).mem = s.mem ∧ (State.sourceReturns s count phase8).staging = s.staging := by
  unfold State.sourceReturns
  (repeat' split) <;> simp

@[simp] theorem State.sourceReturns_bounded (s : State) (count : Nat) (phase8 : Int) (hw : s.paths.bounded = true) :
    (State.sourceReturns s count phase8).paths.bounded = true := by
  unfold State.sourceReturns
  (repeat' split) <;> simp (maxDischargeDepth := 40) [*]

@[simp] theorem State.phaseStep_stores (s : State) :
    (State.phaseStep s).mem = s.mem ∧ (State.phaseStep s).staging = s.staging := by
  unfold State.phaseStep
  (repeat' split) <;> simp

@[simp] theorem State.phaseStep_bounded (s : State) (hw : s.paths.bounded = true) :
    (State.phaseStep s).paths.bounded = true := by
  unfold State.phaseStep
  (repeat' split) <;> simp (maxDischargeDepth := 40) [*]

@[simp] theorem State.lead_stores (s : State) : (State.lead s).mem = s.mem ∧ (State.lead s).staging = s.staging := by
  unfold State.lead
  simp

@[simp] theorem State.lead_bounded (s : State) (hw : s.paths.bounded = true) :
    (State.lead s).paths.bounded = true := by
  unfold State.lead
  simp [hw]

@[simp] theorem State.forceRest_stores (s : State) (power thermal : Bool) :
    (State.forceRest s power thermal).mem = s.mem ∧ (State.forceRest s power thermal).staging = s.staging := by
  unfold State.forceRest
  simp

@[simp] theorem State.forceRest_bounded (s : State) (power thermal : Bool) (hw : s.paths.bounded = true) :
    (State.forceRest s power thermal).paths.bounded = true := by
  unfold State.forceRest
  exact hw

@[simp] theorem State.serveRest_stores (s : State) (thermal : Bool) (g : Nat) :
    (State.serveRest s thermal g).mem = s.mem ∧ (State.serveRest s thermal g).staging = s.staging := by
  unfold State.serveRest
  simp

@[simp] theorem State.serveRest_bounded (s : State) (thermal : Bool) (g : Nat) (hw : s.paths.bounded = true) :
    (State.serveRest s thermal g).paths.bounded = true := by
  unfold State.serveRest
  simp (maxDischargeDepth := 40) [*]

@[simp] theorem State.rest_stores (s : State) : (State.rest s).mem = s.mem ∧ (State.rest s).staging = s.staging := by
  unfold State.rest
  dsimp only
  (repeat' split) <;> simp

@[simp] theorem State.rest_bounded (s : State) (hw : s.paths.bounded = true) :
    (State.rest s).paths.bounded = true := by
  unfold State.rest
  dsimp only
  (repeat' split) <;> simp (maxDischargeDepth := 40) [*]

@[simp] theorem State.refuseLaunch_stores (s : State) :
    (State.refuseLaunch s).mem = s.mem ∧ (State.refuseLaunch s).staging = s.staging := by
  unfold State.refuseLaunch
  simp

@[simp] theorem State.refuseLaunch_bounded (s : State) (hw : s.paths.bounded = true) :
    (State.refuseLaunch s).paths.bounded = true := by
  unfold State.refuseLaunch
  simp [hw]

end Sys2Proof.Machine
end

