-- ==== Sys2Proof/Laws/Faults.lean ====
section
/-! SUPPORT. What the operations of Machine/Faults.lean leave alone and keep: the addressed memories that they do not
write are as they were, those that they write stay canonical, and the queues of notices stay within their bound. -/

namespace Sys2Proof.Machine

@[simp] theorem State.setMacsec_stores (s : State) (n : Nat) (v : Macsec) :
    (State.setMacsec s n v).mem = s.mem ∧ (State.setMacsec s n v).staging = s.staging := by
  unfold State.setMacsec
  simp

@[simp] theorem State.setMacsec_bounded (s : State) (n : Nat) (v : Macsec) (hw : s.paths.bounded = true) :
    (State.setMacsec s n v).paths.bounded = true := by
  unfold State.setMacsec
  simp (maxDischargeDepth := 40) [*]

@[simp] theorem State.transmit_stores (s : State) (n : Nat) (o : Out) :
    (State.transmit s n o).mem = s.mem ∧ (State.transmit s n o).staging = s.staging := by
  unfold State.transmit
  (repeat' split) <;> simp

@[simp] theorem State.transmit_bounded (s : State) (n : Nat) (o : Out) (hw : s.paths.bounded = true) :
    (State.transmit s n o).paths.bounded = true := by
  unfold State.transmit
  (repeat' split) <;> simp (maxDischargeDepth := 40) [*]

@[simp] theorem State.sendQp_stores (s : State) (n imm : Nat) (data : Bytes) :
    (State.sendQp s n imm data).mem = s.mem ∧ (State.sendQp s n imm data).staging = s.staging := by
  unfold State.sendQp
  simp

@[simp] theorem State.sendQp_bounded (s : State) (n imm : Nat) (data : Bytes) (hw : s.paths.bounded = true) :
    (State.sendQp s n imm data).paths.bounded = true := by
  unfold State.sendQp
  simp [hw]

@[simp] theorem State.sendHead_stores (s : State) (imm : Nat) (body : Bytes) :
    (State.sendHead s imm body).mem = s.mem ∧ (State.sendHead s imm body).staging = s.staging := by
  unfold State.sendHead
  (repeat' split) <;> simp

@[simp] theorem State.sendHead_bounded (s : State) (imm : Nat) (body : Bytes) (hw : s.paths.bounded = true) :
    (State.sendHead s imm body).paths.bounded = true := by
  unfold State.sendHead
  (repeat' split) <;> simp (maxDischargeDepth := 40) [*]

@[simp] theorem State.noticeAborted_stores (s : State) (slot reason course reporter : Nat) :
    (State.noticeAborted s slot reason course reporter).mem = s.mem ∧ (State.noticeAborted s slot reason course reporter).staging = s.staging := by
  unfold State.noticeAborted
  simp

@[simp] theorem State.noticeAborted_bounded (s : State) (slot reason course reporter : Nat)
    (hw : s.paths.bounded = true) : (State.noticeAborted s slot reason course reporter).paths.bounded = true := by
  unfold State.noticeAborted
  simp [hw]

@[simp] theorem State.withdrawFinal_stores (s : State) (slot : Nat) :
    (State.withdrawFinal s slot).mem = s.mem ∧ (State.withdrawFinal s slot).staging = s.staging := by
  unfold State.withdrawFinal
  simp

@[simp] theorem State.withdrawFinal_bounded (s : State) (slot : Nat) (hw : s.paths.bounded = true) :
    (State.withdrawFinal s slot).paths.bounded = true := by
  unfold State.withdrawFinal
  simp (maxDischargeDepth := 40) [*]

@[simp] theorem State.markAborted_stores (s : State) (slot reason course reporter : Nat) :
    (State.markAborted s slot reason course reporter).mem = s.mem ∧ (State.markAborted s slot reason course reporter).staging = s.staging := by
  unfold State.markAborted
  simp

@[simp] theorem State.markAborted_bounded (s : State) (slot reason course reporter : Nat)
    (hw : s.paths.bounded = true) : (State.markAborted s slot reason course reporter).paths.bounded = true := by
  unfold State.markAborted
  simp (maxDischargeDepth := 40) [*]

@[simp] theorem State.reportAbort_stores (s : State) (slot reason course : Nat) :
    (State.reportAbort s slot reason course).mem = s.mem ∧ (State.reportAbort s slot reason course).staging = s.staging := by
  unfold State.reportAbort
  simp

@[simp] theorem State.reportAbort_bounded (s : State) (slot reason course : Nat) (hw : s.paths.bounded = true) :
    (State.reportAbort s slot reason course).paths.bounded = true := by
  unfold State.reportAbort
  simp (maxDischargeDepth := 40) [*]

@[simp] theorem State.abortSlot_stores (s : State) (reason course slot : Nat) :
    (State.abortSlot s reason course slot).mem = s.mem ∧ (State.abortSlot s reason course slot).staging = s.staging := by
  unfold State.abortSlot
  simp

@[simp] theorem State.abortSlot_bounded (s : State) (reason course slot : Nat) (hw : s.paths.bounded = true) :
    (State.abortSlot s reason course slot).paths.bounded = true := by
  unfold State.abortSlot
  simp [hw]

@[simp] theorem State.abortSlots_stores (s : State) (reason : Nat) (slots : List Nat) :
    (State.abortSlots s reason slots).mem = s.mem ∧ (State.abortSlots s reason slots).staging = s.staging := by
  unfold State.abortSlots
  simp

@[simp] theorem State.abortSlots_bounded (s : State) (reason : Nat) (slots : List Nat)
    (hw : s.paths.bounded = true) : (State.abortSlots s reason slots).paths.bounded = true := by
  unfold State.abortSlots
  simp (maxDischargeDepth := 40) +contextual [*]

@[simp] theorem State.arrayFault_stores (s : State) (code core engine : Nat) :
    (State.arrayFault s code core engine).mem = s.mem ∧ (State.arrayFault s code core engine).staging = s.staging := by
  unfold State.arrayFault
  simp

@[simp] theorem State.arrayFault_bounded (s : State) (code core engine : Nat) (hw : s.paths.bounded = true) :
    (State.arrayFault s code core engine).paths.bounded = true := by
  unfold State.arrayFault
  exact hw

@[simp] theorem State.formatFault_stores (s : State) (core engine cause : Nat) (slots : List Nat) :
    (State.formatFault s core engine cause slots).mem = s.mem ∧ (State.formatFault s core engine cause slots).staging = s.staging := by
  unfold State.formatFault
  simp

@[simp] theorem State.formatFault_bounded (s : State) (core engine cause : Nat) (slots : List Nat)
    (hw : s.paths.bounded = true) : (State.formatFault s core engine cause slots).paths.bounded = true := by
  unfold State.formatFault
  simp (maxDischargeDepth := 40) [*]

@[simp] theorem State.abandon_stores (s : State) (cluster reason next : Nat) :
    (State.abandon s cluster reason next).mem = s.mem ∧ (State.abandon s cluster reason next).staging = s.staging := by
  unfold State.abandon
  (repeat' split) <;> simp

@[simp] theorem State.abandon_bounded (s : State) (cluster reason next : Nat) (hw : s.paths.bounded = true) :
    (State.abandon s cluster reason next).paths.bounded = true := by
  unfold State.abandon
  (repeat' split) <;> simp (maxDischargeDepth := 40) [*]

@[simp] theorem State.pendRetirement_stores (s : State) (cluster : Nat) :
    (State.pendRetirement s cluster).mem = s.mem ∧ (State.pendRetirement s cluster).staging = s.staging := by
  unfold State.pendRetirement
  simp

@[simp] theorem State.pendRetirement_bounded (s : State) (cluster : Nat) (hw : s.paths.bounded = true) :
    (State.pendRetirement s cluster).paths.bounded = true := by
  unfold State.pendRetirement
  simp [hw]

@[simp] theorem State.coreFault_stores (s : State) (core : Nat) :
    (State.coreFault s core).mem = s.mem ∧ (State.coreFault s core).staging = s.staging := by
  unfold State.coreFault
  simp

@[simp] theorem State.coreFault_bounded (s : State) (core : Nat) (hw : s.paths.bounded = true) :
    (State.coreFault s core).paths.bounded = true := by
  unfold State.coreFault
  simp [hw]

@[simp] theorem State.noticeHard_stores (s : State) (kind unit course : Nat) :
    (State.noticeHard s kind unit course).mem = s.mem ∧ (State.noticeHard s kind unit course).staging = s.staging := by
  unfold State.noticeHard
  simp

@[simp] theorem State.noticeHard_bounded (s : State) (kind unit course : Nat) (hw : s.paths.bounded = true) :
    (State.noticeHard s kind unit course).paths.bounded = true := by
  unfold State.noticeHard
  simp [hw]

@[simp] theorem State.hardFault_stores (s : State) (kind unit : Nat) :
    (State.hardFault s kind unit).mem = s.mem ∧ (State.hardFault s kind unit).staging = s.staging := by
  unfold State.hardFault
  simp

@[simp] theorem State.hardFault_bounded (s : State) (kind unit : Nat) (hw : s.paths.bounded = true) :
    (State.hardFault s kind unit).paths.bounded = true := by
  unfold State.hardFault
  simp (maxDischargeDepth := 40) [*]

@[simp] theorem State.hodFault_stores (s : State) (core hod kind : Nat) :
    (State.hodFault s core hod kind).mem = s.mem ∧ (State.hodFault s core hod kind).staging = s.staging := by
  unfold State.hodFault
  simp

@[simp] theorem State.hodFault_bounded (s : State) (core hod kind : Nat) (hw : s.paths.bounded = true) :
    (State.hodFault s core hod kind).paths.bounded = true := by
  unfold State.hodFault
  simp (maxDischargeDepth := 40) [*]

end Sys2Proof.Machine
end

