-- ==== Sys2Proof/Laws/Operands.lean ====
section
/-! SUPPORT. What the operations of Machine/Operands.lean leave alone and keep: the addressed memories that they do not
write are as they were, those that they write stay canonical, and the queues of notices stay within their bound. -/

namespace Sys2Proof.Machine

@[simp] theorem State.setQueueOf_stores (s : State) (q : Issue) (v : QueueState) :
    (State.setQueueOf s q v).mem = s.mem ∧ (State.setQueueOf s q v).staging = s.staging := by
  unfold State.setQueueOf
  simp

@[simp] theorem State.setQueueOf_bounded (s : State) (q : Issue) (v : QueueState) (hw : s.paths.bounded = true) :
    (State.setQueueOf s q v).paths.bounded = true := by
  unfold State.setQueueOf
  simp (maxDischargeDepth := 40) [*]

@[simp] theorem State.occupy_stores (s : State) (q : Issue) (n : Nat) :
    (State.occupy s q n).mem = s.mem ∧ (State.occupy s q n).staging = s.staging := by
  unfold State.occupy
  simp

@[simp] theorem State.occupy_bounded (s : State) (q : Issue) (n : Nat) (hw : s.paths.bounded = true) :
    (State.occupy s q n).paths.bounded = true := by
  unfold State.occupy
  simp (maxDischargeDepth := 40) [*]

@[simp] theorem State.trace_stores (s : State) (q : Issue) (op : Nat) :
    (State.trace s q op).mem = s.mem ∧ (State.trace s q op).staging = s.staging := by
  unfold State.trace
  simp

@[simp] theorem State.trace_bounded (s : State) (q : Issue) (op : Nat) (hw : s.paths.bounded = true) :
    (State.trace s q op).paths.bounded = true := by
  unfold State.trace
  simp [hw]

@[simp] theorem State.countCorrected_stores (s : State) (core n : Nat) :
    (State.countCorrected s core n).mem = s.mem ∧ (State.countCorrected s core n).staging = s.staging := by
  unfold State.countCorrected
  simp

@[simp] theorem State.countCorrected_bounded (s : State) (core n : Nat) (hw : s.paths.bounded = true) :
    (State.countCorrected s core n).paths.bounded = true := by
  unfold State.countCorrected
  simp (maxDischargeDepth := 40) [*]

@[simp] theorem State.issue_stores (s : State) (q : Issue) (op : Nat) :
    (State.issue s q op).mem = s.mem ∧ (State.issue s q op).staging = s.staging := by
  unfold State.issue
  simp

@[simp] theorem State.issue_bounded (s : State) (q : Issue) (op : Nat) (hw : s.paths.bounded = true) :
    (State.issue s q op).paths.bounded = true := by
  unfold State.issue
  simp (maxDischargeDepth := 40) [*]

@[simp] theorem State.advance_stores (s : State) (q : Issue) :
    (State.advance s q).mem = s.mem ∧ (State.advance s q).staging = s.staging := by
  unfold State.advance
  simp

@[simp] theorem State.advance_bounded (s : State) (q : Issue) (hw : s.paths.bounded = true) :
    (State.advance s q).paths.bounded = true := by
  unfold State.advance
  simp [hw]

@[simp] theorem State.pop_stores (s : State) (core h n : Nat) :
    (State.pop s core h n).2.mem = s.mem ∧ (State.pop s core h n).2.staging = s.staging := by
  unfold State.pop
  simp

@[simp] theorem State.pop_bounded (s : State) (core h n : Nat) (hw : s.paths.bounded = true) :
    (State.pop s core h n).2.paths.bounded = true := by
  unfold State.pop
  simp [hw]

@[simp] theorem State.push_stores (s : State) (core h : Nat) (es : List Bytes) :
    (State.push s core h es).mem = s.mem ∧ (State.push s core h es).staging = s.staging := by
  unfold State.push
  simp

@[simp] theorem State.push_bounded (s : State) (core h : Nat) (es : List Bytes) (hw : s.paths.bounded = true) :
    (State.push s core h es).paths.bounded = true := by
  unfold State.push
  dsimp only
  (repeat' split) <;> simp (maxDischargeDepth := 40) [*]

@[simp] theorem State.popping_mem (s : State) (core h n : Nat) (k : List Bytes → State → State) (hk : ∀ x0 x1,
    (k x0 x1).mem = x1.mem) : (State.popping s core h n k).mem = s.mem := by
  unfold State.popping
  (repeat' split) <;> (try simp only [Prod.ext_iff] at *) <;> (try casesm* _ ∧ _) <;> (try subst_vars) <;>
    simp [hk]

@[simp] theorem State.popping_staging (s : State) (core h n : Nat) (k : List Bytes → State → State) (hk : ∀ x0 x1,
    (k x0 x1).staging = x1.staging) : (State.popping s core h n k).staging = s.staging := by
  unfold State.popping
  (repeat' split) <;> (try simp only [Prod.ext_iff] at *) <;> (try casesm* _ ∧ _) <;> (try subst_vars) <;>
    simp [hk]

@[simp] theorem State.popping_wf (s : State) (core h n : Nat) (k : List Bytes → State → State)
    (hk : ∀ x0 x1, x1.mem.wf = true → (k x0 x1).mem.wf = true) (hw : s.mem.wf = true) :
    (State.popping s core h n k).mem.wf = true := by
  unfold State.popping
  (repeat' split) <;> (try simp only [Prod.ext_iff] at *) <;> (try casesm* _ ∧ _) <;> (try subst_vars) <;> simp (maxDischargeDepth := 40) [*]

@[simp] theorem State.popping_stagingWf (s : State) (core h n : Nat) (k : List Bytes → State → State)
    (hk : ∀ x0 x1, x1.staging.wf = true → (k x0 x1).staging.wf = true) (hw : s.staging.wf = true) :
    (State.popping s core h n k).staging.wf = true := by
  unfold State.popping
  (repeat' split) <;> (try simp only [Prod.ext_iff] at *) <;> (try casesm* _ ∧ _) <;> (try subst_vars) <;> simp (maxDischargeDepth := 40) [*]

@[simp] theorem State.popping_bounded (s : State) (core h n : Nat) (k : List Bytes → State → State)
    (hk : ∀ x0 x1, x1.paths.bounded = true → (k x0 x1).paths.bounded = true) (hw : s.paths.bounded = true) :
    (State.popping s core h n k).paths.bounded = true := by
  unfold State.popping
  (repeat' split) <;> (try simp only [Prod.ext_iff] at *) <;> (try casesm* _ ∧ _) <;> (try subst_vars) <;> simp (maxDischargeDepth := 40) [*]

@[simp] theorem State.store_staging (s : State) (a : Nat) (bs : Bytes) :
    (State.store s a bs).staging = s.staging := by
  unfold State.store
  simp

@[simp] theorem State.store_wf (s : State) (a : Nat) (bs : Bytes) (hw : s.mem.wf = true) :
    (State.store s a bs).mem.wf = true := by
  unfold State.store
  simp [hw]

@[simp] theorem State.store_bounded (s : State) (a : Nat) (bs : Bytes) (hw : s.paths.bounded = true) :
    (State.store s a bs).paths.bounded = true := by
  unfold State.store
  simp (maxDischargeDepth := 40) [*]

end Sys2Proof.Machine
end

