-- ==== Sys2Proof/Laws/Codes.lean ====
section
/-! SUPPORT. What the operations of Machine/Codes.lean leave alone and keep: the addressed memories that they do not
write are as they were, those that they write stay canonical, and the queues of notices stay within their bound. -/

namespace Sys2Proof.Machine

@[simp] theorem State.correctedAt_stores (s : State) (a n : Nat) :
    (State.correctedAt s a n).mem = s.mem ∧ (State.correctedAt s a n).staging = s.staging := by
  unfold State.correctedAt
  simp

@[simp] theorem State.correctedAt_bounded (s : State) (a n : Nat) (hw : s.paths.bounded = true) :
    (State.correctedAt s a n).paths.bounded = true := by
  unfold State.correctedAt
  simp [hw]

@[simp] theorem State.countUncorrectable_stores (s : State) (a : Nat) :
    (State.countUncorrectable s a).mem = s.mem ∧ (State.countUncorrectable s a).staging = s.staging := by
  unfold State.countUncorrectable
  simp

@[simp] theorem State.countUncorrectable_bounded (s : State) (a : Nat) (hw : s.paths.bounded = true) :
    (State.countUncorrectable s a).paths.bounded = true := by
  unfold State.countUncorrectable
  simp [hw]

@[simp] theorem State.uncorrectableAt_staging (s : State) (a foundBy : Nat) :
    (State.uncorrectableAt s a foundBy).staging = s.staging := by
  unfold State.uncorrectableAt
  simp

@[simp] theorem State.uncorrectableAt_wf (s : State) (a foundBy : Nat) (hw : s.mem.wf = true) :
    (State.uncorrectableAt s a foundBy).mem.wf = true := by
  unfold State.uncorrectableAt
  simp [hw]

@[simp] theorem State.uncorrectableAt_bounded (s : State) (a foundBy : Nat) (hw : s.paths.bounded = true) :
    (State.uncorrectableAt s a foundBy).paths.bounded = true := by
  unfold State.uncorrectableAt
  simp (maxDischargeDepth := 40) [*]

@[simp] theorem State.eccFound_staging (s : State) (a n : Nat) (e : Ecc) (foundBy : Nat) :
    (State.eccFound s a n e foundBy).staging = s.staging := by
  unfold State.eccFound
  (repeat' split) <;> simp

@[simp] theorem State.eccFound_wf (s : State) (a n : Nat) (e : Ecc) (foundBy : Nat) (hw : s.mem.wf = true) :
    (State.eccFound s a n e foundBy).mem.wf = true := by
  unfold State.eccFound
  (repeat' split) <;> simp (maxDischargeDepth := 40) [*]

@[simp] theorem State.eccFound_bounded (s : State) (a n : Nat) (e : Ecc) (foundBy : Nat)
    (hw : s.paths.bounded = true) : (State.eccFound s a n e foundBy).paths.bounded = true := by
  unfold State.eccFound
  (repeat' split) <;> simp (maxDischargeDepth := 40) [*]

end Sys2Proof.Machine
end

