-- ==== Sys2Proof/Laws/Common.lean ====
section
/-! SUPPORT. What the operations of Machine/Common.lean leave alone and keep: the addressed memories that they do not
write are as they were, those that they write stay canonical, and the queues of notices stay within their bound. -/

namespace Sys2Proof.Machine

@[simp] theorem State.releasePlumb_stores (s : State) (core mark cycle : Nat) :
    (State.releasePlumb s core mark cycle).mem = s.mem ∧ (State.releasePlumb s core mark cycle).staging = s.staging := by
  unfold State.releasePlumb
  dsimp only
  (repeat' split) <;> simp

@[simp] theorem State.releasePlumb_bounded (s : State) (core mark cycle : Nat) (hw : s.paths.bounded = true) :
    (State.releasePlumb s core mark cycle).paths.bounded = true := by
  unfold State.releasePlumb
  dsimp only
  (repeat' split) <;> simp (maxDischargeDepth := 40) [*]

@[simp] theorem State.startBundle_stores (s : State) (q : Issue) :
    (State.startBundle s q).mem = s.mem ∧ (State.startBundle s q).staging = s.staging := by
  unfold State.startBundle
  dsimp only
  (repeat' split) <;> simp

@[simp] theorem State.startBundle_bounded (s : State) (q : Issue) (hw : s.paths.bounded = true) :
    (State.startBundle s q).paths.bounded = true := by
  unfold State.startBundle
  dsimp only
  (repeat' split) <;> simp (maxDischargeDepth := 40) [*]

@[simp] theorem State.mapSeq_stores (s : State) (core : Nat) (g : Sequencer → Sequencer) :
    (State.mapSeq s core g).mem = s.mem ∧ (State.mapSeq s core g).staging = s.staging := by
  unfold State.mapSeq
  simp

@[simp] theorem State.mapSeq_bounded (s : State) (core : Nat) (g : Sequencer → Sequencer)
    (hw : s.paths.bounded = true) : (State.mapSeq s core g).paths.bounded = true := by
  unfold State.mapSeq
  simp (maxDischargeDepth := 40) [*]

@[simp] theorem State.waitFor_stores (s : State) (core : Nat) (w : WaitSlot) (n : Need) :
    (State.waitFor s core w n).mem = s.mem ∧ (State.waitFor s core w n).staging = s.staging := by
  unfold State.waitFor
  (repeat' split) <;> simp

@[simp] theorem State.waitFor_bounded (s : State) (core : Nat) (w : WaitSlot) (n : Need)
    (hw : s.paths.bounded = true) : (State.waitFor s core w n).paths.bounded = true := by
  unfold State.waitFor
  (repeat' split) <;> simp (maxDischargeDepth := 40) [*]

@[simp] theorem State.setTie_stores (s : State) (core n : Nat) (v : Tie) :
    (State.setTie s core n v).mem = s.mem ∧ (State.setTie s core n v).staging = s.staging := by
  unfold State.setTie
  simp

@[simp] theorem State.setTie_bounded (s : State) (core n : Nat) (v : Tie) (hw : s.paths.bounded = true) :
    (State.setTie s core n v).paths.bounded = true := by
  unfold State.setTie
  simp (maxDischargeDepth := 40) [*]

end Sys2Proof.Machine
end

