-- ==== Sys2Proof/Laws/Flags.lean ====
section
/-! SUPPORT. What the operations of Machine/Flags.lean leave alone and keep: the addressed memories that they do not
write are as they were, those that they write stay canonical, and the queues of notices stay within their bound. -/

namespace Sys2Proof.Machine

@[simp] theorem State.countEvents_stores (s : State) (cluster mask : Nat) :
    (State.countEvents s cluster mask).mem = s.mem ∧ (State.countEvents s cluster mask).staging = s.staging := by
  unfold State.countEvents
  simp

@[simp] theorem State.countEvents_bounded (s : State) (cluster mask : Nat) (hw : s.paths.bounded = true) :
    (State.countEvents s cluster mask).paths.bounded = true := by
  unfold State.countEvents
  simp (maxDischargeDepth := 40) +contextual [*]

@[simp] theorem State.raise_stores (s : State) (core engine mask : Nat) :
    (State.raise s core engine mask).mem = s.mem ∧ (State.raise s core engine mask).staging = s.staging := by
  unfold State.raise
  simp

@[simp] theorem State.raise_bounded (s : State) (core engine mask : Nat) (hw : s.paths.bounded = true) :
    (State.raise s core engine mask).paths.bounded = true := by
  unfold State.raise
  simp [hw]

@[simp] theorem State.clearEvents_stores (s : State) (cluster value : Nat) :
    (State.clearEvents s cluster value).mem = s.mem ∧ (State.clearEvents s cluster value).staging = s.staging := by
  unfold State.clearEvents
  simp

@[simp] theorem State.clearEvents_bounded (s : State) (cluster value : Nat) (hw : s.paths.bounded = true) :
    (State.clearEvents s cluster value).paths.bounded = true := by
  unfold State.clearEvents
  refine foldlWf_paths _ (fun s a h => ?_) _ _ ?_ <;> (repeat' split) <;> simp (maxDischargeDepth := 40) [*]

@[simp] theorem State.clearFlags_stores (s : State) (core engine value raised : Nat) :
    (State.clearFlags s core engine value raised).mem = s.mem ∧ (State.clearFlags s core engine value raised).staging = s.staging := by
  unfold State.clearFlags
  simp

@[simp] theorem State.clearFlags_bounded (s : State) (core engine value raised : Nat)
    (hw : s.paths.bounded = true) : (State.clearFlags s core engine value raised).paths.bounded = true := by
  unfold State.clearFlags
  simp (maxDischargeDepth := 40) [*]

@[simp] theorem State.clearEveryFlag_stores (s : State) (value : Nat) :
    (State.clearEveryFlag s value).mem = s.mem ∧ (State.clearEveryFlag s value).staging = s.staging := by
  unfold State.clearEveryFlag
  simp

@[simp] theorem State.clearEveryFlag_bounded (s : State) (value : Nat) (hw : s.paths.bounded = true) :
    (State.clearEveryFlag s value).paths.bounded = true := by
  unfold State.clearEveryFlag
  simp (maxDischargeDepth := 40) [*]

end Sys2Proof.Machine
end

