-- ==== Sys2Proof/Laws/Glaze.lean ====
section
/-! SUPPORT. What the operations of Machine/Glaze.lean leave alone and keep: the addressed memories that they do not
write are as they were, those that they write stay canonical, and the queues of notices stay within their bound. -/

namespace Sys2Proof.Machine

@[simp] theorem State.lanesOut_stores (s : State) (core hod flags : Nat) (l : List Flagged) :
    (State.lanesOut s core hod flags l).mem = s.mem ∧ (State.lanesOut s core hod flags l).staging = s.staging := by
  unfold State.lanesOut
  simp

@[simp] theorem State.lanesOut_bounded (s : State) (core hod flags : Nat) (l : List Flagged)
    (hw : s.paths.bounded = true) : (State.lanesOut s core hod flags l).paths.bounded = true := by
  unfold State.lanesOut
  simp [hw]

@[simp] theorem State.lanesIn_mem (s : State) (q : Issue) (hod fmt : Nat) (k : List Nat → Nat → State → State)
    (hk : ∀ x0 x1 x2, (k x0 x1 x2).mem = x2.mem) : (State.lanesIn s q hod fmt k).mem = s.mem := by
  unfold State.lanesIn
  (repeat' split) <;> simp_all

@[simp] theorem State.lanesIn_staging (s : State) (q : Issue) (hod fmt : Nat) (k : List Nat → Nat → State → State)
    (hk : ∀ x0 x1 x2, (k x0 x1 x2).staging = x2.staging) : (State.lanesIn s q hod fmt k).staging = s.staging := by
  unfold State.lanesIn
  (repeat' split) <;> simp_all

@[simp] theorem State.lanesIn_wf (s : State) (q : Issue) (hod fmt : Nat) (k : List Nat → Nat → State → State)
    (hk : ∀ x0 x1 x2, x2.mem.wf = true → (k x0 x1 x2).mem.wf = true) (hw : s.mem.wf = true) :
    (State.lanesIn s q hod fmt k).mem.wf = true := by
  unfold State.lanesIn
  simp (maxDischargeDepth := 40) +contextual [*]

@[simp] theorem State.lanesIn_stagingWf (s : State) (q : Issue) (hod fmt : Nat) (k : List Nat → Nat → State → State)
    (hk : ∀ x0 x1 x2, x2.staging.wf = true → (k x0 x1 x2).staging.wf = true) (hw : s.staging.wf = true) :
    (State.lanesIn s q hod fmt k).staging.wf = true := by
  unfold State.lanesIn
  simp (maxDischargeDepth := 40) +contextual [*]

@[simp] theorem State.lanesIn_bounded (s : State) (q : Issue) (hod fmt : Nat) (k : List Nat → Nat → State → State)
    (hk : ∀ x0 x1 x2, x2.paths.bounded = true → (k x0 x1 x2).paths.bounded = true) (hw : s.paths.bounded = true) :
    (State.lanesIn s q hod fmt k).paths.bounded = true := by
  unfold State.lanesIn
  simp (maxDischargeDepth := 40) +contextual [*]

@[simp] theorem State.lanesB_mem (s : State) (q : Issue) (f : Fields) (k : List Nat → Nat → State → State)
    (hk : ∀ x0 x1 x2, (k x0 x1 x2).mem = x2.mem) : (State.lanesB s q f k).mem = s.mem := by
  unfold State.lanesB
  (repeat' split) <;> simp_all

@[simp] theorem State.lanesB_staging (s : State) (q : Issue) (f : Fields) (k : List Nat → Nat → State → State)
    (hk : ∀ x0 x1 x2, (k x0 x1 x2).staging = x2.staging) : (State.lanesB s q f k).staging = s.staging := by
  unfold State.lanesB
  (repeat' split) <;> simp_all

@[simp] theorem State.lanesB_wf (s : State) (q : Issue) (f : Fields) (k : List Nat → Nat → State → State)
    (hk : ∀ x0 x1 x2, x2.mem.wf = true → (k x0 x1 x2).mem.wf = true) (hw : s.mem.wf = true) :
    (State.lanesB s q f k).mem.wf = true := by
  unfold State.lanesB
  simp (maxDischargeDepth := 40) +contextual [*]

@[simp] theorem State.lanesB_stagingWf (s : State) (q : Issue) (f : Fields) (k : List Nat → Nat → State → State)
    (hk : ∀ x0 x1 x2, x2.staging.wf = true → (k x0 x1 x2).staging.wf = true) (hw : s.staging.wf = true) :
    (State.lanesB s q f k).staging.wf = true := by
  unfold State.lanesB
  simp (maxDischargeDepth := 40) +contextual [*]

@[simp] theorem State.lanesB_bounded (s : State) (q : Issue) (f : Fields) (k : List Nat → Nat → State → State)
    (hk : ∀ x0 x1 x2, x2.paths.bounded = true → (k x0 x1 x2).paths.bounded = true) (hw : s.paths.bounded = true) :
    (State.lanesB s q f k).paths.bounded = true := by
  unfold State.lanesB
  simp (maxDischargeDepth := 40) +contextual [*]

@[simp] theorem State.unary_stores (s : State) (q : Issue) (f : Fields) (op : Bool → Nat → Flagged) :
    (State.unary s q f op).mem = s.mem ∧ (State.unary s q f op).staging = s.staging := by
  unfold State.unary
  simp

@[simp] theorem State.unary_bounded (s : State) (q : Issue) (f : Fields) (op : Bool → Nat → Flagged)
    (hw : s.paths.bounded = true) : (State.unary s q f op).paths.bounded = true := by
  unfold State.unary
  simp (maxDischargeDepth := 40) +contextual [*]

@[simp] theorem State.binary_stores (s : State) (q : Issue) (f : Fields) (op : Bool → Nat → Nat → Flagged) :
    (State.binary s q f op).mem = s.mem ∧ (State.binary s q f op).staging = s.staging := by
  unfold State.binary
  simp

@[simp] theorem State.binary_bounded (s : State) (q : Issue) (f : Fields) (op : Bool → Nat → Nat → Flagged)
    (hw : s.paths.bounded = true) : (State.binary s q f op).paths.bounded = true := by
  unfold State.binary
  simp (maxDischargeDepth := 40) +contextual [*]

@[simp] theorem State.chunksIn_mem (s : State) (q : Issue) (hod fmt c : Nat) (k : List
    (List Nat) → Nat → State → State) (hk : ∀ x0 x1 x2, (k x0 x1 x2).mem = x2.mem) :
    (State.chunksIn s q hod fmt c k).mem = s.mem := by
  unfold State.chunksIn
  (repeat' split) <;> simp_all

@[simp] theorem State.chunksIn_staging (s : State) (q : Issue) (hod fmt c : Nat) (k : List
    (List Nat) → Nat → State → State) (hk : ∀ x0 x1 x2, (k x0 x1 x2).staging = x2.staging) :
    (State.chunksIn s q hod fmt c k).staging = s.staging := by
  unfold State.chunksIn
  (repeat' split) <;> simp_all

@[simp] theorem State.chunksIn_wf (s : State) (q : Issue) (hod fmt c : Nat) (k : List
    (List Nat) → Nat → State → State) (hk : ∀ x0 x1 x2, x2.mem.wf = true → (k x0 x1 x2).mem.wf = true)
    (hw : s.mem.wf = true) : (State.chunksIn s q hod fmt c k).mem.wf = true := by
  unfold State.chunksIn
  simp (maxDischargeDepth := 40) +contextual [*]

@[simp] theorem State.chunksIn_stagingWf (s : State) (q : Issue) (hod fmt c : Nat) (k : List
    (List Nat) → Nat → State → State) (hk : ∀ x0 x1 x2, x2.staging.wf = true → (k x0 x1 x2).staging.wf = true)
    (hw : s.staging.wf = true) : (State.chunksIn s q hod fmt c k).staging.wf = true := by
  unfold State.chunksIn
  simp (maxDischargeDepth := 40) +contextual [*]

@[simp] theorem State.chunksIn_bounded (s : State) (q : Issue) (hod fmt c : Nat) (k : List
    (List Nat) → Nat → State → State) (hk : ∀ x0 x1 x2, x2.paths.bounded = true → (k x0 x1 x2).paths.bounded = true)
    (hw : s.paths.bounded = true) : (State.chunksIn s q hod fmt c k).paths.bounded = true := by
  unfold State.chunksIn
  simp (maxDischargeDepth := 40) +contextual [*]

@[simp] theorem State.overChunks_mem (s : State) (q : Issue) (g : Fields) (k : List
    (List Nat) → Nat → State → State) (hk : ∀ x0 x1 x2, (k x0 x1 x2).mem = x2.mem) :
    (State.overChunks s q g k).mem = s.mem := by
  unfold State.overChunks
  (repeat' split) <;> simp_all

@[simp] theorem State.overChunks_staging (s : State) (q : Issue) (g : Fields) (k : List
    (List Nat) → Nat → State → State) (hk : ∀ x0 x1 x2, (k x0 x1 x2).staging = x2.staging) :
    (State.overChunks s q g k).staging = s.staging := by
  unfold State.overChunks
  (repeat' split) <;> simp_all

@[simp] theorem State.overChunks_wf (s : State) (q : Issue) (g : Fields) (k : List (List Nat) → Nat → State → State)
    (hk : ∀ x0 x1 x2, x2.mem.wf = true → (k x0 x1 x2).mem.wf = true) (hw : s.mem.wf = true) :
    (State.overChunks s q g k).mem.wf = true := by
  unfold State.overChunks
  (repeat' split) <;> simp_all (maxDischargeDepth := 40)

@[simp] theorem State.overChunks_stagingWf (s : State) (q : Issue) (g : Fields) (k : List
    (List Nat) → Nat → State → State) (hk : ∀ x0 x1 x2, x2.staging.wf = true → (k x0 x1 x2).staging.wf = true)
    (hw : s.staging.wf = true) : (State.overChunks s q g k).staging.wf = true := by
  unfold State.overChunks
  (repeat' split) <;> simp_all (maxDischargeDepth := 40)

@[simp] theorem State.overChunks_bounded (s : State) (q : Issue) (g : Fields) (k : List
    (List Nat) → Nat → State → State) (hk : ∀ x0 x1 x2, x2.paths.bounded = true → (k x0 x1 x2).paths.bounded = true)
    (hw : s.paths.bounded = true) : (State.overChunks s q g k).paths.bounded = true := by
  unfold State.overChunks
  (repeat' split) <;> simp_all (maxDischargeDepth := 40)

@[simp] theorem State.scalarOut_stores (s : State) (core hod flags : Nat) (r : Flagged) :
    (State.scalarOut s core hod flags r).mem = s.mem ∧ (State.scalarOut s core hod flags r).staging = s.staging := by
  unfold State.scalarOut
  simp

@[simp] theorem State.scalarOut_bounded (s : State) (core hod flags : Nat) (r : Flagged)
    (hw : s.paths.bounded = true) : (State.scalarOut s core hod flags r).paths.bounded = true := by
  unfold State.scalarOut
  simp [hw]

@[simp] theorem State.rotateOut_stores (s : State) (core hod flags : Nat) (x0 x1 c sn : List Nat) :
    (State.rotateOut s core hod flags x0 x1 c sn).mem = s.mem ∧ (State.rotateOut s core hod flags x0 x1 c sn).staging = s.staging := by
  unfold State.rotateOut
  simp

@[simp] theorem State.rotateOut_bounded (s : State) (core hod flags : Nat) (x0 x1 c sn : List Nat)
    (hw : s.paths.bounded = true) : (State.rotateOut s core hod flags x0 x1 c sn).paths.bounded = true := by
  unfold State.rotateOut
  simp (maxDischargeDepth := 40) [*]

end Sys2Proof.Machine
end

