-- ==== Sys2Proof/Laws/Arrays.lean ====
section
/-! SUPPORT. What the operations of Machine/Arrays.lean leave alone and keep: the addressed memories that they do not
write are as they were, those that they write stay canonical, and the queues of notices stay within their bound. -/

namespace Sys2Proof.Machine

@[simp] theorem State.setArrayOf_stores (s : State) (core eng : Nat) (v : ArrayState) :
    (State.setArrayOf s core eng v).mem = s.mem ∧ (State.setArrayOf s core eng v).staging = s.staging := by
  unfold State.setArrayOf
  simp

@[simp] theorem State.setArrayOf_bounded (s : State) (core eng : Nat) (v : ArrayState)
    (hw : s.paths.bounded = true) : (State.setArrayOf s core eng v).paths.bounded = true := by
  unfold State.setArrayOf
  simp (maxDischargeDepth := 40) [*]

@[simp] theorem State.runOn_stores (s : State) (core eng : Nat) (x : Recent) :
    (State.runOn s core eng x).mem = s.mem ∧ (State.runOn s core eng x).staging = s.staging := by
  unfold State.runOn
  simp

@[simp] theorem State.runOn_bounded (s : State) (core eng : Nat) (x : Recent) (hw : s.paths.bounded = true) :
    (State.runOn s core eng x).paths.bounded = true := by
  unfold State.runOn
  simp (maxDischargeDepth := 40) [*]

@[simp] theorem State.runFirst_stores (s : State) (core eng : Nat) (p : Pass) (flush : Bool) (vs : List
    (Nat × List Nat)) (g : Fill) :
    (State.runFirst s core eng p flush vs g).mem = s.mem ∧ (State.runFirst s core eng p flush vs g).staging = s.staging := by
  unfold State.runFirst
  simp

@[simp] theorem State.runFirst_bounded (s : State) (core eng : Nat) (p : Pass) (flush : Bool) (vs : List
    (Nat × List Nat)) (g : Fill) (hw : s.paths.bounded = true) :
    (State.runFirst s core eng p flush vs g).paths.bounded = true := by
  unfold State.runFirst
  simp (maxDischargeDepth := 40) [*]

@[simp] theorem State.settle_stores (s : State) (core eng n : Nat) :
    (s.settle core eng n).mem = s.mem ∧ (s.settle core eng n).staging = s.staging := by
  induction n generalizing s with
  | zero => exact ⟨rfl, rfl⟩
  | succ n ih =>
    unfold State.settle
    dsimp only
    (repeat' split) <;> simp [ih]

@[simp] theorem State.settle_bounded (s : State) (core eng n : Nat) (hw : s.paths.bounded = true) :
    (s.settle core eng n).paths.bounded = true := by
  induction n generalizing s with
  | zero => exact hw
  | succ n ih =>
    unfold State.settle
    dsimp only
    (repeat' split) <;> simp (maxDischargeDepth := 40) [*]

@[simp] theorem State.capturePasses_stores (s : State) (core eng now : Nat) :
    (State.capturePasses s core eng now).mem = s.mem ∧ (State.capturePasses s core eng now).staging = s.staging := by
  unfold State.capturePasses
  simp

@[simp] theorem State.capturePasses_bounded (s : State) (core eng now : Nat) (hw : s.paths.bounded = true) :
    (State.capturePasses s core eng now).paths.bounded = true := by
  unfold State.capturePasses
  simp (maxDischargeDepth := 40) [*]

@[simp] theorem State.runTo_stores (s : State) (core eng now : Nat) :
    (State.runTo s core eng now).mem = s.mem ∧ (State.runTo s core eng now).staging = s.staging := by
  unfold State.runTo
  simp

@[simp] theorem State.runTo_bounded (s : State) (core eng now : Nat) (hw : s.paths.bounded = true) :
    (State.runTo s core eng now).paths.bounded = true := by
  unfold State.runTo
  simp (maxDischargeDepth := 40) [*]

@[simp] theorem State.runCore_stores (s : State) (core now : Nat) :
    (State.runCore s core now).mem = s.mem ∧ (State.runCore s core now).staging = s.staging := by
  unfold State.runCore
  dsimp only
  (repeat' split) <;> simp

@[simp] theorem State.runCore_bounded (s : State) (core now : Nat) (hw : s.paths.bounded = true) :
    (State.runCore s core now).paths.bounded = true := by
  unfold State.runCore
  dsimp only
  (repeat' split) <;> simp (maxDischargeDepth := 40) +contextual [*]

@[simp] theorem State.runArrays_stores (s : State) :
    (State.runArrays s).mem = s.mem ∧ (State.runArrays s).staging = s.staging := by
  unfold State.runArrays
  simp

@[simp] theorem State.runArrays_bounded (s : State) (hw : s.paths.bounded = true) :
    (State.runArrays s).paths.bounded = true := by
  unfold State.runArrays
  simp (maxDischargeDepth := 40) +contextual [*]

@[simp] theorem State.suspendFor_stores (s : State) (w : TileWait) :
    (State.suspendFor s w).mem = s.mem ∧ (State.suspendFor s w).staging = s.staging := by
  unfold State.suspendFor
  (repeat' split) <;> simp

@[simp] theorem State.suspendFor_bounded (s : State) (w : TileWait) (hw : s.paths.bounded = true) :
    (State.suspendFor s w).paths.bounded = true := by
  unfold State.suspendFor
  (repeat' split) <;> simp (maxDischargeDepth := 40) [*]

@[simp] theorem State.endSuspension_stores (s : State) :
    (State.endSuspension s).mem = s.mem ∧ (State.endSuspension s).staging = s.staging := by
  unfold State.endSuspension
  (repeat' split) <;> simp

@[simp] theorem State.endSuspension_bounded (s : State) (hw : s.paths.bounded = true) :
    (State.endSuspension s).paths.bounded = true := by
  unfold State.endSuspension
  (repeat' split) <;> simp (maxDischargeDepth := 40) [*]

@[simp] theorem State.countIdle_stores (s : State) (slot : Nat) :
    (State.countIdle s slot).mem = s.mem ∧ (State.countIdle s slot).staging = s.staging := by
  unfold State.countIdle
  simp

@[simp] theorem State.countIdle_bounded (s : State) (slot : Nat) (hw : s.paths.bounded = true) :
    (State.countIdle s slot).paths.bounded = true := by
  unfold State.countIdle
  simp [hw]

@[simp] theorem State.tintMismatch_stores (s : State) (core eng : Nat) (g : Fill) (x : Front) :
    (State.tintMismatch s core eng g x).mem = s.mem ∧ (State.tintMismatch s core eng g x).staging = s.staging := by
  unfold State.tintMismatch
  simp

@[simp] theorem State.tintMismatch_bounded (s : State) (core eng : Nat) (g : Fill) (x : Front)
    (hw : s.paths.bounded = true) : (State.tintMismatch s core eng g x).paths.bounded = true := by
  unfold State.tintMismatch
  simp (maxDischargeDepth := 40) [*]

@[simp] theorem State.generationMismatch_stores (s : State) (core eng : Nat) (g : Fill) (x : Front) :
    (State.generationMismatch s core eng g x).mem = s.mem ∧ (State.generationMismatch s core eng g x).staging = s.staging := by
  unfold State.generationMismatch
  simp

@[simp] theorem State.generationMismatch_bounded (s : State) (core eng : Nat) (g : Fill) (x : Front)
    (hw : s.paths.bounded = true) : (State.generationMismatch s core eng g x).paths.bounded = true := by
  unfold State.generationMismatch
  simp (maxDischargeDepth := 40) [*]

@[simp] theorem State.judgeRest_stores (s : State) (core eng : Nat) (g : Fill) (x : Front) :
    (State.judgeRest s core eng g x).2.mem = s.mem ∧ (State.judgeRest s core eng g x).2.staging = s.staging := by
  unfold State.judgeRest
  simp

@[simp] theorem State.judgeRest_bounded (s : State) (core eng : Nat) (g : Fill) (x : Front)
    (hw : s.paths.bounded = true) : (State.judgeRest s core eng g x).2.paths.bounded = true := by
  unfold State.judgeRest
  simp [hw]

@[simp] theorem State.countUnchecked_stores (s : State) (x : Front) :
    (State.countUnchecked s x).mem = s.mem ∧ (State.countUnchecked s x).staging = s.staging := by
  unfold State.countUnchecked
  (repeat' split) <;> simp

@[simp] theorem State.countUnchecked_bounded (s : State) (x : Front) (hw : s.paths.bounded = true) :
    (State.countUnchecked s x).paths.bounded = true := by
  unfold State.countUnchecked
  (repeat' split) <;> simp (maxDischargeDepth := 40) [*]

@[simp] theorem State.judged_stores (s : State) (core eng : Nat) (v : Bool) :
    (State.judged s core eng v).mem = s.mem ∧ (State.judged s core eng v).staging = s.staging := by
  unfold State.judged
  simp

@[simp] theorem State.judged_bounded (s : State) (core eng : Nat) (v : Bool) (hw : s.paths.bounded = true) :
    (State.judged s core eng v).paths.bounded = true := by
  unfold State.judged
  simp [hw]

@[simp] theorem State.checkFailed_stores (s : State) (core eng : Nat) (g : Fill) :
    (State.checkFailed s core eng g).mem = s.mem ∧ (State.checkFailed s core eng g).staging = s.staging := by
  unfold State.checkFailed
  simp

@[simp] theorem State.checkFailed_bounded (s : State) (core eng : Nat) (g : Fill) (hw : s.paths.bounded = true) :
    (State.checkFailed s core eng g).paths.bounded = true := by
  unfold State.checkFailed
  simp (maxDischargeDepth := 40) [*]

@[simp] theorem State.judgeFill_stores (s : State) (core eng : Nat) :
    (State.judgeFill s core eng).mem = s.mem ∧ (State.judgeFill s core eng).staging = s.staging := by
  unfold State.judgeFill
  (repeat' split) <;> simp

@[simp] theorem State.judgeFill_bounded (s : State) (core eng : Nat) (hw : s.paths.bounded = true) :
    (State.judgeFill s core eng).paths.bounded = true := by
  unfold State.judgeFill
  (repeat' split) <;> simp (maxDischargeDepth := 40) [*]

@[simp] theorem State.tileVerdict_stores (s : State) (core eng : Nat) :
    (State.tileVerdict s core eng).mem = s.mem ∧ (State.tileVerdict s core eng).staging = s.staging := by
  unfold State.tileVerdict
  simp

@[simp] theorem State.tileVerdict_bounded (s : State) (core eng : Nat) (hw : s.paths.bounded = true) :
    (State.tileVerdict s core eng).paths.bounded = true := by
  unfold State.tileVerdict
  simp (maxDischargeDepth := 40) [*]

@[simp] theorem State.runToNow_stores (s : State) (q : Issue) :
    (State.runToNow s q).mem = s.mem ∧ (State.runToNow s q).staging = s.staging := by
  unfold State.runToNow
  simp

@[simp] theorem State.runToNow_bounded (s : State) (q : Issue) (hw : s.paths.bounded = true) :
    (State.runToNow s q).paths.bounded = true := by
  unfold State.runToNow
  simp (maxDischargeDepth := 40) [*]

@[simp] theorem State.startFill_stores (s : State) (q : Issue) (f : Fields) (a : Nat) (batch : Option Nat)
    (err : Errors) :
    (State.startFill s q f a batch err).mem = s.mem ∧ (State.startFill s q f a batch err).staging = s.staging := by
  unfold State.startFill
  simp

@[simp] theorem State.startFill_bounded (s : State) (q : Issue) (f : Fields) (a : Nat) (batch : Option Nat)
    (err : Errors) (hw : s.paths.bounded = true) : (State.startFill s q f a batch err).paths.bounded = true := by
  unfold State.startFill
  simp (maxDischargeDepth := 40) [*]

@[simp] theorem State.openPass_stores (s : State) (q : Issue) (f : Fields) (batch : Option Nat) :
    (State.openPass s q f batch).mem = s.mem ∧ (State.openPass s q f batch).staging = s.staging := by
  unfold State.openPass
  simp

@[simp] theorem State.openPass_bounded (s : State) (q : Issue) (f : Fields) (batch : Option Nat)
    (hw : s.paths.bounded = true) : (State.openPass s q f batch).paths.bounded = true := by
  unfold State.openPass
  simp (maxDischargeDepth := 40) [*]

end Sys2Proof.Machine
end

