-- ==== Sys2Proof/Laws/Mirror.lean ====
section
/-! SUPPORT. What the operations of Machine/Mirror.lean leave alone and keep: the addressed memories that they do not
write are as they were, those that they write stay canonical, and the queues of notices stay within their bound. -/

namespace Sys2Proof.Machine

@[simp] theorem State.sendMirrorAt_stores (s : State) (course kind slot tint : Nat) (payload : Bytes) :
    (State.sendMirrorAt s course kind slot tint payload).mem = s.mem ∧ (State.sendMirrorAt s course kind slot tint payload).staging = s.staging := by
  unfold State.sendMirrorAt
  simp

@[simp] theorem State.sendMirrorAt_bounded (s : State) (course kind slot tint : Nat) (payload : Bytes)
    (hw : s.paths.bounded = true) : (State.sendMirrorAt s course kind slot tint payload).paths.bounded = true := by
  unfold State.sendMirrorAt
  simp [hw]

@[simp] theorem State.sendMirror_stores (s : State) (kind slot tint : Nat) (payload : Bytes) :
    (State.sendMirror s kind slot tint payload).mem = s.mem ∧ (State.sendMirror s kind slot tint payload).staging = s.staging := by
  unfold State.sendMirror
  simp

@[simp] theorem State.sendMirror_bounded (s : State) (kind slot tint : Nat) (payload : Bytes)
    (hw : s.paths.bounded = true) : (State.sendMirror s kind slot tint payload).paths.bounded = true := by
  unfold State.sendMirror
  simp [hw]

@[simp] theorem State.mirrorSlot_stores (s : State) (kind slot : Nat) (payload : Bytes) :
    (State.mirrorSlot s kind slot payload).mem = s.mem ∧ (State.mirrorSlot s kind slot payload).staging = s.staging := by
  unfold State.mirrorSlot
  simp

@[simp] theorem State.mirrorSlot_bounded (s : State) (kind slot : Nat) (payload : Bytes)
    (hw : s.paths.bounded = true) : (State.mirrorSlot s kind slot payload).paths.bounded = true := by
  unfold State.mirrorSlot
  simp [hw]

end Sys2Proof.Machine
end

