-- ==== Sys2Proof/Laws/Moves.lean ====
section
/-! SUPPORT. What the operations of Machine/Moves.lean leave alone and keep: the addressed memories that they do not
write are as they were, those that they write stay canonical, and the queues of notices stay within their bound. -/

namespace Sys2Proof.Machine

@[simp] theorem State.accumulate_staging (s : State) (fmt a : Nat) (bs : Bytes) :
    (State.accumulate s fmt a bs).staging = s.staging := by
  unfold State.accumulate
  simp

@[simp] theorem State.accumulate_wf (s : State) (fmt a : Nat) (bs : Bytes) (hw : s.mem.wf = true) :
    (State.accumulate s fmt a bs).mem.wf = true := by
  unfold State.accumulate
  simp [hw]

@[simp] theorem State.accumulate_bounded (s : State) (fmt a : Nat) (bs : Bytes) (hw : s.paths.bounded = true) :
    (State.accumulate s fmt a bs).paths.bounded = true := by
  unfold State.accumulate
  simp [hw]

@[simp] theorem State.kvWrite_staging (s : State) (row : Bool) (fmt index a : Nat) (data : Bytes) :
    (State.kvWrite s row fmt index a data).staging = s.staging := by
  unfold State.kvWrite
  simp

@[simp] theorem State.kvWrite_wf (s : State) (row : Bool) (fmt index a : Nat) (data : Bytes)
    (hw : s.mem.wf = true) : (State.kvWrite s row fmt index a data).mem.wf = true := by
  unfold State.kvWrite
  simp [hw]

@[simp] theorem State.kvWrite_bounded (s : State) (row : Bool) (fmt index a : Nat) (data : Bytes)
    (hw : s.paths.bounded = true) : (State.kvWrite s row fmt index a data).paths.bounded = true := by
  unfold State.kvWrite
  simp [hw]

@[simp] theorem State.tileWrite_staging (s : State) (q : Issue) (row : Bool) (fmt slot : Nat) (ecc : Ecc)
    (data entry : Bytes) : (State.tileWrite s q row fmt slot ecc data entry).staging = s.staging := by
  unfold State.tileWrite
  dsimp only
  (repeat' split) <;> simp

@[simp] theorem State.tileWrite_wf (s : State) (q : Issue) (row : Bool) (fmt slot : Nat) (ecc : Ecc)
    (data entry : Bytes) (hw : s.mem.wf = true) :
    (State.tileWrite s q row fmt slot ecc data entry).mem.wf = true := by
  unfold State.tileWrite
  dsimp only
  (repeat' split) <;> simp (maxDischargeDepth := 40) [*]

@[simp] theorem State.tileWrite_bounded (s : State) (q : Issue) (row : Bool) (fmt slot : Nat) (ecc : Ecc)
    (data entry : Bytes) (hw : s.paths.bounded = true) :
    (State.tileWrite s q row fmt slot ecc data entry).paths.bounded = true := by
  unfold State.tileWrite
  dsimp only
  (repeat' split) <;> simp (maxDischargeDepth := 40) [*]

@[simp] theorem State.clearTiles_staging (s : State) (fmt tint a n : Nat) :
    (State.clearTiles s fmt tint a n).staging = s.staging := by
  fun_induction State.clearTiles s fmt tint a n <;> simp_all

@[simp] theorem State.clearTiles_wf (s : State) (fmt tint a n : Nat) (hw : s.mem.wf = true) :
    (s.clearTiles fmt tint a n).mem.wf = true := by
  induction n generalizing s a with
  | zero => exact hw
  | succ n ih => exact ih _ _ (State.store_wf _ _ _ hw)

@[simp] theorem State.clearTiles_bounded (s : State) (fmt tint a n : Nat) (hw : s.paths.bounded = true) :
    (State.clearTiles s fmt tint a n).paths.bounded = true := by
  fun_induction State.clearTiles s fmt tint a n <;> simp_all (maxDischargeDepth := 40)

@[simp] theorem State.clearSlot_staging (s : State) (slot : Nat) : (State.clearSlot s slot).staging = s.staging := by
  unfold State.clearSlot
  simp

@[simp] theorem State.clearSlot_wf (s : State) (slot : Nat) (hw : s.mem.wf = true) :
    (State.clearSlot s slot).mem.wf = true := by
  unfold State.clearSlot
  simp (maxDischargeDepth := 40) +contextual [*]

@[simp] theorem State.clearSlot_bounded (s : State) (slot : Nat) (hw : s.paths.bounded = true) :
    (State.clearSlot s slot).paths.bounded = true := by
  unfold State.clearSlot
  simp (maxDischargeDepth := 40) +contextual [*]

@[simp] theorem State.stampTiles_staging (s : State) (fmt tint a n : Nat) :
    (State.stampTiles s fmt tint a n).staging = s.staging := by
  fun_induction State.stampTiles s fmt tint a n <;> simp_all

@[simp] theorem State.stampTiles_wf (s : State) (fmt tint a n : Nat) (hw : s.mem.wf = true) :
    (s.stampTiles fmt tint a n).mem.wf = true := by
  induction n generalizing s a with
  | zero => exact hw
  | succ n ih => exact ih _ _ (State.store_wf _ _ _ hw)

@[simp] theorem State.stampTiles_bounded (s : State) (fmt tint a n : Nat) (hw : s.paths.bounded = true) :
    (State.stampTiles s fmt tint a n).paths.bounded = true := by
  fun_induction State.stampTiles s fmt tint a n <;> simp_all (maxDischargeDepth := 40)

@[simp] theorem State.stampSlot_staging (s : State) (slot : Nat) : (State.stampSlot s slot).staging = s.staging := by
  unfold State.stampSlot
  simp

@[simp] theorem State.stampSlot_wf (s : State) (slot : Nat) (hw : s.mem.wf = true) :
    (State.stampSlot s slot).mem.wf = true := by
  unfold State.stampSlot
  simp (maxDischargeDepth := 40) +contextual [*]

@[simp] theorem State.stampSlot_bounded (s : State) (slot : Nat) (hw : s.paths.bounded = true) :
    (State.stampSlot s slot).paths.bounded = true := by
  unfold State.stampSlot
  simp (maxDischargeDepth := 40) +contextual [*]

@[simp] theorem State.refuseRead_stores (s : State) (slot : Nat) :
    (State.refuseRead s slot).mem = s.mem ∧ (State.refuseRead s slot).staging = s.staging := by
  unfold State.refuseRead
  simp

@[simp] theorem State.refuseRead_bounded (s : State) (slot : Nat) (hw : s.paths.bounded = true) :
    (State.refuseRead s slot).paths.bounded = true := by
  unfold State.refuseRead
  simp [hw]

@[simp] theorem State.landCopy_staging (s : State) (fmt dest : Nat) (t : Bytes) :
    (State.landCopy s fmt dest t).staging = s.staging := by
  unfold State.landCopy
  (repeat' split) <;> simp

@[simp] theorem State.landCopy_wf (s : State) (fmt dest : Nat) (t : Bytes) (hw : s.mem.wf = true) :
    (State.landCopy s fmt dest t).mem.wf = true := by
  unfold State.landCopy
  (repeat' split) <;> simp (maxDischargeDepth := 40) [*]

@[simp] theorem State.landCopy_bounded (s : State) (fmt dest : Nat) (t : Bytes) (hw : s.paths.bounded = true) :
    (State.landCopy s fmt dest t).paths.bounded = true := by
  unfold State.landCopy
  (repeat' split) <;> simp (maxDischargeDepth := 40) [*]

@[simp] theorem State.copyTile_staging (s : State) (core fmt src dest : Nat) (err : Errors) :
    (State.copyTile s core fmt src dest err).staging = s.staging := by
  unfold State.copyTile
  simp

@[simp] theorem State.copyTile_wf (s : State) (core fmt src dest : Nat) (err : Errors) (hw : s.mem.wf = true) :
    (State.copyTile s core fmt src dest err).mem.wf = true := by
  unfold State.copyTile
  simp [hw]

@[simp] theorem State.copyTile_bounded (s : State) (core fmt src dest : Nat) (err : Errors)
    (hw : s.paths.bounded = true) : (State.copyTile s core fmt src dest err).paths.bounded = true := by
  unfold State.copyTile
  simp [hw]

@[simp] theorem State.copyTiles_staging (s : State) (core fmt src dest i n : Nat) (err : Errors) :
    (State.copyTiles s core fmt src dest i n err).staging = s.staging := by
  fun_induction State.copyTiles s core fmt src dest i n err <;> simp_all

@[simp] theorem State.copyTiles_wf (s : State) (core fmt src dest i n : Nat) (err : Errors) (hw : s.mem.wf = true) :
    (s.copyTiles core fmt src dest i n err).mem.wf = true := by
  induction n generalizing s src dest i with
  | zero => exact hw
  | succ n ih => exact ih _ _ _ _ (State.copyTile_wf _ _ _ _ _ _ hw)

@[simp] theorem State.copyTiles_bounded (s : State) (core fmt src dest i n : Nat) (err : Errors)
    (hw : s.paths.bounded = true) : (s.copyTiles core fmt src dest i n err).paths.bounded = true := by
  induction n generalizing s src dest i with
  | zero => exact hw
  | succ n ih => exact ih _ _ _ _ (State.copyTile_bounded _ _ _ _ _ _ hw)

@[simp] theorem State.copyRange_staging (s : State) (core src dest granules : Nat) (err : Errors) :
    (State.copyRange s core src dest granules err).staging = s.staging := by
  unfold State.copyRange
  (repeat' split) <;> simp

@[simp] theorem State.copyRange_wf (s : State) (core src dest granules : Nat) (err : Errors)
    (hw : s.mem.wf = true) : (State.copyRange s core src dest granules err).mem.wf = true := by
  unfold State.copyRange
  (repeat' split) <;> simp (maxDischargeDepth := 40) [*]

@[simp] theorem State.copyRange_bounded (s : State) (core src dest granules : Nat) (err : Errors)
    (hw : s.paths.bounded = true) : (State.copyRange s core src dest granules err).paths.bounded = true := by
  unfold State.copyRange
  (repeat' split) <;> simp (maxDischargeDepth := 40) [*]

@[simp] theorem State.scrubPassDone_stores (s : State) (u : StoreUnit) (courses : Nat) :
    (State.scrubPassDone s u courses).mem = s.mem ∧ (State.scrubPassDone s u courses).staging = s.staging := by
  unfold State.scrubPassDone
  (repeat' split) <;> simp

@[simp] theorem State.scrubPassDone_bounded (s : State) (u : StoreUnit) (courses : Nat)
    (hw : s.paths.bounded = true) : (State.scrubPassDone s u courses).paths.bounded = true := by
  unfold State.scrubPassDone
  (repeat' split) <;> simp (maxDischargeDepth := 40) [*]

@[simp] theorem State.scrubOne_staging (s : State) (u : StoreUnit) (bank : Nat) (claimed : Bool) (ecc : Ecc) :
    (State.scrubOne s u bank claimed ecc).staging = s.staging := by
  unfold State.scrubOne
  simp

@[simp] theorem State.scrubOne_wf (s : State) (u : StoreUnit) (bank : Nat) (claimed : Bool) (ecc : Ecc)
    (hw : s.mem.wf = true) : (State.scrubOne s u bank claimed ecc).mem.wf = true := by
  unfold State.scrubOne
  simp [hw]

@[simp] theorem State.scrubOne_bounded (s : State) (u : StoreUnit) (bank : Nat) (claimed : Bool) (ecc : Ecc)
    (hw : s.paths.bounded = true) : (State.scrubOne s u bank claimed ecc).paths.bounded = true := by
  unfold State.scrubOne
  simp [hw]

end Sys2Proof.Machine
end

