-- ==== Sys2Proof/Laws/Mortar.lean ====
section
/-! SUPPORT. What the operations of Machine/Mortar.lean leave alone and keep: the addressed memories that they do not
write are as they were, those that they write stay canonical, and the queues of notices stay within their bound. -/

namespace Sys2Proof.Machine

@[simp] theorem State.landGranules_staging (s : State) (r : Route) (add : Bool) (g : Nat) (gs : List Bytes) :
    (State.landGranules s r add g gs).staging = s.staging := by
  unfold State.landGranules
  dsimp only
  (repeat' split) <;> simp

@[simp] theorem State.landGranules_wf (s : State) (r : Route) (add : Bool) (g : Nat) (gs : List Bytes)
    (hw : s.mem.wf = true) : (State.landGranules s r add g gs).mem.wf = true := by
  unfold State.landGranules
  dsimp only
  (repeat' split) <;> simp (maxDischargeDepth := 40) [*]

@[simp] theorem State.landGranules_bounded (s : State) (r : Route) (add : Bool) (g : Nat) (gs : List Bytes)
    (hw : s.paths.bounded = true) : (State.landGranules s r add g gs).paths.bounded = true := by
  unfold State.landGranules
  dsimp only
  (repeat' split) <;> simp (maxDischargeDepth := 40) [*]

@[simp] theorem State.queueRetry_stores (s : State) (port lane : Nat) (fs : List Flit) :
    (State.queueRetry s port lane fs).mem = s.mem ∧ (State.queueRetry s port lane fs).staging = s.staging := by
  unfold State.queueRetry
  simp

@[simp] theorem State.queueRetry_bounded (s : State) (port lane : Nat) (fs : List Flit)
    (hw : s.paths.bounded = true) : (State.queueRetry s port lane fs).paths.bounded = true := by
  unfold State.queueRetry
  simp [hw]

@[simp] theorem State.sendFlit_stores (s : State) (port lane offset : Nat) (f : Flit) :
    (State.sendFlit s port lane offset f).mem = s.mem ∧ (State.sendFlit s port lane offset f).staging = s.staging := by
  unfold State.sendFlit
  simp

@[simp] theorem State.sendFlit_bounded (s : State) (port lane offset : Nat) (f : Flit)
    (hw : s.paths.bounded = true) : (State.sendFlit s port lane offset f).paths.bounded = true := by
  unfold State.sendFlit
  simp (maxDischargeDepth := 40) [*]

@[simp] theorem State.sendFabric_stores (s : State) (n : Nat) (r : Route) (first : Nat) (gs : List Bytes) :
    (State.sendFabric s n r first gs).mem = s.mem ∧ (State.sendFabric s n r first gs).staging = s.staging := by
  unfold State.sendFabric
  refine ⟨(foldl_mem _ (fun s a => ?_) _ _).trans ?_, (foldl_staging _ (fun s a => ?_) _ _).trans ?_⟩ <;>
    (repeat' split) <;> simp

@[simp] theorem State.sendFabric_bounded (s : State) (n : Nat) (r : Route) (first : Nat) (gs : List Bytes)
    (hw : s.paths.bounded = true) : (State.sendFabric s n r first gs).paths.bounded = true := by
  unfold State.sendFabric
  refine foldlWf_paths _ (fun s a h => ?_) _ _ ?_ <;> (repeat' split) <;> simp (maxDischargeDepth := 40) [*]

@[simp] theorem State.deliverRoute_staging (s : State) (n : Nat) (r : Route) (add : Bool) (g first fromBrick : Nat)
    (gs : List Bytes) : (State.deliverRoute s n r add g first fromBrick gs).staging = s.staging := by
  unfold State.deliverRoute
  simp

@[simp] theorem State.deliverRoute_wf (s : State) (n : Nat) (r : Route) (add : Bool) (g first fromBrick : Nat)
    (gs : List Bytes) (hw : s.mem.wf = true) : (State.deliverRoute s n r add g first fromBrick gs).mem.wf = true := by
  unfold State.deliverRoute
  simp [hw]

@[simp] theorem State.deliverRoute_bounded (s : State) (n : Nat) (r : Route) (add : Bool) (g first fromBrick : Nat)
    (gs : List Bytes) (hw : s.paths.bounded = true) :
    (State.deliverRoute s n r add g first fromBrick gs).paths.bounded = true := by
  unfold State.deliverRoute
  simp [hw]

@[simp] theorem State.enterNode_staging (s : State) (fuel n : Nat) (r : Route) (add : Bool) (g first node fromBrick
    port : Nat) (gs : List Bytes) : (s.enterNode fuel n r add g first node fromBrick port gs).staging = s.staging := by
  induction fuel generalizing s node fromBrick port gs with
  | zero => rfl
  | succ n ih =>
    unfold State.enterNode
    dsimp only
    (repeat' split) <;> simp [ih]

@[simp] theorem State.enterNode_wf (s : State) (fuel n : Nat) (r : Route) (add : Bool) (g first node fromBrick port : Nat)
    (gs : List Bytes) (hw : s.mem.wf = true) : (s.enterNode fuel n r add g first node fromBrick port gs).mem.wf = true := by
  induction fuel generalizing s node fromBrick port gs with
  | zero => exact hw
  | succ n ih =>
    unfold State.enterNode
    dsimp only
    (repeat' split) <;> simp (maxDischargeDepth := 40) [*]

@[simp] theorem State.enterNode_bounded (s : State) (fuel n : Nat) (r : Route) (add : Bool) (g first node fromBrick port : Nat)
    (gs : List Bytes) (hw : s.paths.bounded = true) : (s.enterNode fuel n r add g first node fromBrick port gs).paths.bounded = true := by
  induction fuel generalizing s node fromBrick port gs with
  | zero => exact hw
  | succ n ih =>
    unfold State.enterNode
    dsimp only
    (repeat' split) <;> simp (maxDischargeDepth := 40) [*]

@[simp] theorem State.sendRoute_staging (s : State) (core n : Nat) (r : Route) (add : Bool) (g : Nat)
    (gs : List Bytes) : (State.sendRoute s core n r add g gs).staging = s.staging := by
  unfold State.sendRoute
  simp

@[simp] theorem State.sendRoute_wf (s : State) (core n : Nat) (r : Route) (add : Bool) (g : Nat) (gs : List Bytes)
    (hw : s.mem.wf = true) : (s.sendRoute core n r add g gs).mem.wf = true := by
  unfold State.sendRoute
  repeat' split
  · refine foldlWf_mem _ (fun s x h => ?_) _ _ hw
    exact h
  · exact foldlWf_mem _ (fun s x h => State.enterNode_wf s _ _ _ _ _ _ _ _ _ _ h) _ _ hw
  · simp [hw]

@[simp] theorem State.sendRoute_bounded (s : State) (core n : Nat) (r : Route) (add : Bool) (g : Nat) (gs : List Bytes)
    (hw : s.paths.bounded = true) : (s.sendRoute core n r add g gs).paths.bounded = true := by
  unfold State.sendRoute
  repeat' split
  · exact foldlWf_paths _ (fun s x h => State.emit_bounded s _ h) _ _ hw
  · exact foldlWf_paths _ (fun s x h => State.enterNode_bounded s _ _ _ _ _ _ _ _ _ _ h) _ _ hw
  · simp [hw]

@[simp] theorem State.sendTile_staging (s : State) (core n g fmt : Nat) (t : Bytes) (slots : List Nat) :
    (State.sendTile s core n g fmt t slots).staging = s.staging := by
  unfold State.sendTile
  (repeat' split) <;> simp

@[simp] theorem State.sendTile_wf (s : State) (core n g fmt : Nat) (t : Bytes) (slots : List Nat)
    (hw : s.mem.wf = true) : (State.sendTile s core n g fmt t slots).mem.wf = true := by
  unfold State.sendTile
  (repeat' split) <;> simp (maxDischargeDepth := 40) [*]

@[simp] theorem State.sendTile_bounded (s : State) (core n g fmt : Nat) (t : Bytes) (slots : List Nat)
    (hw : s.paths.bounded = true) : (State.sendTile s core n g fmt t slots).paths.bounded = true := by
  unfold State.sendTile
  (repeat' split) <;> simp (maxDischargeDepth := 40) [*]

@[simp] theorem State.sndt_staging (s : State) (core n g fmt a : Nat) (err : Errors) :
    (State.sndt s core n g fmt a err).staging = s.staging := by
  unfold State.sndt
  (repeat' split) <;> simp

@[simp] theorem State.sndt_wf (s : State) (core n g fmt a : Nat) (err : Errors) (hw : s.mem.wf = true) :
    (State.sndt s core n g fmt a err).mem.wf = true := by
  unfold State.sndt
  (repeat' split) <;> simp (maxDischargeDepth := 40) [*]

@[simp] theorem State.sndt_bounded (s : State) (core n g fmt a : Nat) (err : Errors) (hw : s.paths.bounded = true) :
    (State.sndt s core n g fmt a err).paths.bounded = true := by
  unfold State.sndt
  (repeat' split) <;> simp (maxDischargeDepth := 40) [*]

@[simp] theorem State.sndtEntry_staging (s : State) (q : Issue) (n g fmt : Nat) (err : Errors) (ecc : Ecc)
    (e : Bytes) : (State.sndtEntry s q n g fmt err ecc e).staging = s.staging := by
  unfold State.sndtEntry
  (repeat' split) <;> simp

@[simp] theorem State.sndtEntry_wf (s : State) (q : Issue) (n g fmt : Nat) (err : Errors) (ecc : Ecc) (e : Bytes)
    (hw : s.mem.wf = true) : (State.sndtEntry s q n g fmt err ecc e).mem.wf = true := by
  unfold State.sndtEntry
  (repeat' split) <;> simp (maxDischargeDepth := 40) [*]

@[simp] theorem State.sndtEntry_bounded (s : State) (q : Issue) (n g fmt : Nat) (err : Errors) (ecc : Ecc)
    (e : Bytes) (hw : s.paths.bounded = true) : (State.sndtEntry s q n g fmt err ecc e).paths.bounded = true := by
  unfold State.sndtEntry
  (repeat' split) <;> simp (maxDischargeDepth := 40) [*]

end Sys2Proof.Machine
end

