-- ==== Sys2Proof/Laws/Pointing.lean ====
section
/-! SUPPORT. What the operations of Machine/Pointing.lean leave alone and keep: the addressed memories that they do not
write are as they were, those that they write stay canonical, and the queues of notices stay within their bound. -/

namespace Sys2Proof.Machine

@[simp] theorem State.queueMessage_stores (s : State) (port word : Nat) :
    (State.queueMessage s port word).mem = s.mem ∧ (State.queueMessage s port word).staging = s.staging := by
  unfold State.queueMessage
  simp

@[simp] theorem State.queueMessage_bounded (s : State) (port word : Nat) (hw : s.paths.bounded = true) :
    (State.queueMessage s port word).paths.bounded = true := by
  unfold State.queueMessage
  simp [hw]

@[simp] theorem State.sendSlots_stores (s : State) (port : Nat) :
    (State.sendSlots s port).mem = s.mem ∧ (State.sendSlots s port).staging = s.staging := by
  unfold State.sendSlots
  simp

@[simp] theorem State.sendSlots_bounded (s : State) (port : Nat) (hw : s.paths.bounded = true) :
    (State.sendSlots s port).paths.bounded = true := by
  unfold State.sendSlots
  simp (maxDischargeDepth := 40) +contextual [*]

@[simp] theorem State.resendMessages_stores (s : State) (port : Nat) :
    (State.resendMessages s port).mem = s.mem ∧ (State.resendMessages s port).staging = s.staging := by
  unfold State.resendMessages
  simp

@[simp] theorem State.resendMessages_bounded (s : State) (port : Nat) (hw : s.paths.bounded = true) :
    (State.resendMessages s port).paths.bounded = true := by
  unfold State.resendMessages
  simp [hw]

@[simp] theorem State.stray_stores (s : State) (w : Nat) :
    (State.stray s w).mem = s.mem ∧ (State.stray s w).staging = s.staging := by
  unfold State.stray
  simp

@[simp] theorem State.stray_bounded (s : State) (w : Nat) (hw : s.paths.bounded = true) :
    (State.stray s w).paths.bounded = true := by
  unfold State.stray
  simp [hw]

@[simp] theorem State.holdSignal_stores (s : State) (w : Nat) :
    (State.holdSignal s w).mem = s.mem ∧ (State.holdSignal s w).staging = s.staging := by
  unfold State.holdSignal
  simp

@[simp] theorem State.holdSignal_bounded (s : State) (w : Nat) (hw : s.paths.bounded = true) :
    (State.holdSignal s w).paths.bounded = true := by
  unfold State.holdSignal
  simp [hw]

@[simp] theorem State.outbound_stores (s : State) (w : Nat) :
    (State.outbound s w).mem = s.mem ∧ (State.outbound s w).staging = s.staging := by
  unfold State.outbound
  simp

@[simp] theorem State.outbound_bounded (s : State) (w : Nat) (hw : s.paths.bounded = true) :
    (State.outbound s w).paths.bounded = true := by
  unfold State.outbound
  simp (maxDischargeDepth := 40) [*]

@[simp] theorem State.signalArrives_stores (s : State) (w : Nat) :
    (State.signalArrives s w).mem = s.mem ∧ (State.signalArrives s w).staging = s.staging := by
  unfold State.signalArrives
  simp

@[simp] theorem State.signalArrives_bounded (s : State) (w : Nat) (hw : s.paths.bounded = true) :
    (State.signalArrives s w).paths.bounded = true := by
  unfold State.signalArrives
  simp [hw]

@[simp] theorem State.setLevel_stores (s : State) (k : Nat) (v : LevelNode) :
    (State.setLevel s k v).mem = s.mem ∧ (State.setLevel s k v).staging = s.staging := by
  unfold State.setLevel
  simp

@[simp] theorem State.setLevel_bounded (s : State) (k : Nat) (v : LevelNode) (hw : s.paths.bounded = true) :
    (State.setLevel s k v).paths.bounded = true := by
  unfold State.setLevel
  simp (maxDischargeDepth := 40) [*]

@[simp] theorem State.applySignal_stores (s : State) (x : Signal) :
    (State.applySignal s x).mem = s.mem ∧ (State.applySignal s x).staging = s.staging := by
  unfold State.applySignal
  simp

@[simp] theorem State.applySignal_bounded (s : State) (x : Signal) (hw : s.paths.bounded = true) :
    (State.applySignal s x).paths.bounded = true := by
  unfold State.applySignal
  simp (maxDischargeDepth := 40) [*]

@[simp] theorem State.applyLanded_stores (s : State) :
    (State.applyLanded s).mem = s.mem ∧ (State.applyLanded s).staging = s.staging := by
  unfold State.applyLanded
  simp

@[simp] theorem State.applyLanded_bounded (s : State) (hw : s.paths.bounded = true) :
    (State.applyLanded s).paths.bounded = true := by
  unfold State.applyLanded
  simp (maxDischargeDepth := 40) +contextual [*]

@[simp] theorem State.signalTo_stores (s : State) (t : TieTarget) (x : PointSource) (op operand : Nat) :
    (State.signalTo s t x op operand).mem = s.mem ∧ (State.signalTo s t x op operand).staging = s.staging := by
  unfold State.signalTo
  dsimp only
  (repeat' split) <;> simp

@[simp] theorem State.signalTo_bounded (s : State) (t : TieTarget) (x : PointSource) (op operand : Nat)
    (hw : s.paths.bounded = true) : (State.signalTo s t x op operand).paths.bounded = true := by
  unfold State.signalTo
  dsimp only
  (repeat' split) <;> simp (maxDischargeDepth := 40) [*]

@[simp] theorem State.release_stores (s : State) (d : LevelDecl) (landing : Nat) (x : PointSource) :
    (State.release s d landing x).mem = s.mem ∧ (State.release s d landing x).staging = s.staging := by
  unfold State.release
  simp

@[simp] theorem State.release_bounded (s : State) (d : LevelDecl) (landing : Nat) (x : PointSource)
    (hw : s.paths.bounded = true) : (State.release s d landing x).paths.bounded = true := by
  unfold State.release
  simp (maxDischargeDepth := 40) +contextual [*]

@[simp] theorem State.completeRound_stores (s : State) (d : LevelDecl) (k course : Nat) :
    (State.completeRound s d k course).mem = s.mem ∧ (State.completeRound s d k course).staging = s.staging := by
  unfold State.completeRound
  (repeat' split) <;> simp

@[simp] theorem State.completeRound_bounded (s : State) (d : LevelDecl) (k course : Nat)
    (hw : s.paths.bounded = true) : (State.completeRound s d k course).paths.bounded = true := by
  unfold State.completeRound
  (repeat' split) <;> simp (maxDischargeDepth := 40) [*]

@[simp] theorem State.countArrival_stores (s : State) (d : LevelDecl) (k course : Nat) :
    (State.countArrival s d k course).mem = s.mem ∧ (State.countArrival s d k course).staging = s.staging := by
  unfold State.countArrival
  simp

@[simp] theorem State.countArrival_bounded (s : State) (d : LevelDecl) (k course : Nat)
    (hw : s.paths.bounded = true) : (State.countArrival s d k course).paths.bounded = true := by
  unfold State.countArrival
  simp [hw]

@[simp] theorem State.levelArrives_stores (s : State) (w : Nat) :
    (State.levelArrives s w).mem = s.mem ∧ (State.levelArrives s w).staging = s.staging := by
  unfold State.levelArrives
  (repeat' split) <;> simp

@[simp] theorem State.levelArrives_bounded (s : State) (w : Nat) (hw : s.paths.bounded = true) :
    (State.levelArrives s w).paths.bounded = true := by
  unfold State.levelArrives
  (repeat' split) <;> simp (maxDischargeDepth := 40) [*]

@[simp] theorem State.levelReleased_stores (s : State) (w : Nat) :
    (State.levelReleased s w).mem = s.mem ∧ (State.levelReleased s w).staging = s.staging := by
  unfold State.levelReleased
  (repeat' split) <;> simp

@[simp] theorem State.levelReleased_bounded (s : State) (w : Nat) (hw : s.paths.bounded = true) :
    (State.levelReleased s w).paths.bounded = true := by
  unfold State.levelReleased
  (repeat' split) <;> simp (maxDischargeDepth := 40) +contextual [*]

@[simp] theorem State.deliverMessage_stores (s : State) (w : Nat) :
    (State.deliverMessage s w).mem = s.mem ∧ (State.deliverMessage s w).staging = s.staging := by
  unfold State.deliverMessage
  (repeat' split) <;> simp

@[simp] theorem State.deliverMessage_bounded (s : State) (w : Nat) (hw : s.paths.bounded = true) :
    (State.deliverMessage s w).paths.bounded = true := by
  unfold State.deliverMessage
  (repeat' split) <;> simp (maxDischargeDepth := 40) [*]

@[simp] theorem State.takeMessage_stores (s : State) (port w : Nat) :
    (State.takeMessage s port w).mem = s.mem ∧ (State.takeMessage s port w).staging = s.staging := by
  unfold State.takeMessage
  simp

@[simp] theorem State.takeMessage_bounded (s : State) (port w : Nat) (hw : s.paths.bounded = true) :
    (State.takeMessage s port w).paths.bounded = true := by
  unfold State.takeMessage
  simp [hw]

end Sys2Proof.Machine
end

