-- ==== Sys2Proof/Laws/Governor.lean ====
section
/-! SUPPORT. What the operations of Machine/Governor.lean leave alone and keep: the addressed memories that they do not
write are as they were, those that they write stay canonical, and the queues of notices stay within their bound. -/

namespace Sys2Proof.Machine

@[simp] theorem State.holdRequest_stores (s : State) (a port value b : Nat) :
    (State.holdRequest s a port value b).2.mem = s.mem ∧ (State.holdRequest s a port value b).2.staging = s.staging := by
  unfold State.holdRequest
  simp

@[simp] theorem State.holdRequest_bounded (s : State) (a port value b : Nat) (hw : s.paths.bounded = true) :
    (State.holdRequest s a port value b).2.paths.bounded = true := by
  unfold State.holdRequest
  simp (maxDischargeDepth := 40) [*]

@[simp] theorem State.govern_mem (s : State) (a port value : Nat) (start : State → State) (hstart : ∀ x0,
    (start x0).mem = x0.mem) : (State.govern s a port value start).2.mem = s.mem := by
  unfold State.govern
  (repeat' split) <;> simp_all

@[simp] theorem State.govern_staging (s : State) (a port value : Nat) (start : State → State) (hstart : ∀ x0,
    (start x0).staging = x0.staging) : (State.govern s a port value start).2.staging = s.staging := by
  unfold State.govern
  (repeat' split) <;> simp_all

@[simp] theorem State.govern_wf (s : State) (a port value : Nat) (start : State → State)
    (hstart : ∀ x0, x0.mem.wf = true → (start x0).mem.wf = true) (hw : s.mem.wf = true) :
    (State.govern s a port value start).2.mem.wf = true := by
  unfold State.govern
  (repeat' split) <;> simp (maxDischargeDepth := 40) [*]

@[simp] theorem State.govern_stagingWf (s : State) (a port value : Nat) (start : State → State)
    (hstart : ∀ x0, x0.staging.wf = true → (start x0).staging.wf = true) (hw : s.staging.wf = true) :
    (State.govern s a port value start).2.staging.wf = true := by
  unfold State.govern
  (repeat' split) <;> simp (maxDischargeDepth := 40) [*]

@[simp] theorem State.govern_bounded (s : State) (a port value : Nat) (start : State → State)
    (hstart : ∀ x0, x0.paths.bounded = true → (start x0).paths.bounded = true) (hw : s.paths.bounded = true) :
    (State.govern s a port value start).2.paths.bounded = true := by
  unfold State.govern
  (repeat' split) <;> simp (maxDischargeDepth := 40) [*]

@[simp] theorem State.governed_mem (s : State) (own : State → Nat) (a port value : Nat) (start : State → State)
    (hstart : ∀ x0, (start x0).mem = x0.mem) : (State.governed s own a port value start).2.mem = s.mem := by
  unfold State.governed
  (repeat' split) <;> simp_all

@[simp] theorem State.governed_staging (s : State) (own : State → Nat) (a port value : Nat) (start : State → State)
    (hstart : ∀ x0, (start x0).staging = x0.staging) :
    (State.governed s own a port value start).2.staging = s.staging := by
  unfold State.governed
  (repeat' split) <;> simp_all

@[simp] theorem State.governed_wf (s : State) (own : State → Nat) (a port value : Nat) (start : State → State)
    (hstart : ∀ x0, x0.mem.wf = true → (start x0).mem.wf = true) (hw : s.mem.wf = true) :
    (State.governed s own a port value start).2.mem.wf = true := by
  unfold State.governed
  simp (maxDischargeDepth := 40) +contextual [*]

@[simp] theorem State.governed_stagingWf (s : State) (own : State → Nat) (a port value : Nat)
    (start : State → State) (hstart : ∀ x0, x0.staging.wf = true → (start x0).staging.wf = true)
    (hw : s.staging.wf = true) : (State.governed s own a port value start).2.staging.wf = true := by
  unfold State.governed
  simp (maxDischargeDepth := 40) +contextual [*]

@[simp] theorem State.governed_bounded (s : State) (own : State → Nat) (a port value : Nat) (start : State → State)
    (hstart : ∀ x0, x0.paths.bounded = true → (start x0).paths.bounded = true) (hw : s.paths.bounded = true) :
    (State.governed s own a port value start).2.paths.bounded = true := by
  unfold State.governed
  simp (maxDischargeDepth := 40) +contextual [*]

end Sys2Proof.Machine
end

