-- ==== Sys2Proof/Laws/Weights.lean ====
section
/-! SUPPORT. What the operations of Machine/Weights.lean leave alone and keep: the addressed memories that they do not
write are as they were, those that they write stay canonical, and the queues of notices stay within their bound. -/

namespace Sys2Proof.Machine

@[simp] theorem State.setSupplier_stores (s : State) (side device port : Nat) :
    (State.setSupplier s side device port).mem = s.mem ∧ (State.setSupplier s side device port).staging = s.staging := by
  unfold State.setSupplier
  simp

@[simp] theorem State.setSupplier_bounded (s : State) (side device port : Nat) (hw : s.paths.bounded = true) :
    (State.setSupplier s side device port).paths.bounded = true := by
  unfold State.setSupplier
  simp (maxDischargeDepth := 40) [*]

@[simp] theorem State.emptyASide_stores (s : State) (i : Nat) :
    (State.emptyASide s i).mem = s.mem ∧ (State.emptyASide s i).staging = s.staging := by
  unfold State.emptyASide
  simp

@[simp] theorem State.emptyASide_bounded (s : State) (i : Nat) (hw : s.paths.bounded = true) :
    (State.emptyASide s i).paths.bounded = true := by
  unfold State.emptyASide
  exact hw

@[simp] theorem State.setAdapter_stores (s : State) (a st base : Nat) :
    (State.setAdapter s a st base).mem = s.mem ∧ (State.setAdapter s a st base).staging = s.staging := by
  unfold State.setAdapter
  simp

@[simp] theorem State.setAdapter_bounded (s : State) (a st base : Nat) (hw : s.paths.bounded = true) :
    (State.setAdapter s a st base).paths.bounded = true := by
  unfold State.setAdapter
  simp (maxDischargeDepth := 40) [*]

@[simp] theorem State.beginSession_stores (s : State) (p : Plan) (generation : Bool) (id side base : Nat)
    (keep : List Keep) :
    (State.beginSession s p generation id side base keep).mem = s.mem ∧ (State.beginSession s p generation id side base keep).staging = s.staging := by
  unfold State.beginSession
  simp

@[simp] theorem State.beginSession_bounded (s : State) (p : Plan) (generation : Bool) (id side base : Nat)
    (keep : List Keep) (hw : s.paths.bounded = true) :
    (State.beginSession s p generation id side base keep).paths.bounded = true := by
  unfold State.beginSession
  simp (maxDischargeDepth := 40) [*]

@[simp] theorem State.startGeneration_stores (gen : Nat) (s : State) :
    (State.startGeneration gen s).mem = s.mem ∧ (State.startGeneration gen s).staging = s.staging := by
  unfold State.startGeneration
  (repeat' split) <;> simp

@[simp] theorem State.startGeneration_bounded (gen : Nat) (s : State) (hw : s.paths.bounded = true) :
    (State.startGeneration gen s).paths.bounded = true := by
  unfold State.startGeneration
  (repeat' split) <;> simp (maxDischargeDepth := 40) [*]

@[simp] theorem State.startAdapter_stores (v : Nat) (s : State) :
    (State.startAdapter v s).mem = s.mem ∧ (State.startAdapter v s).staging = s.staging := by
  unfold State.startAdapter
  (repeat' split) <;> simp

@[simp] theorem State.startAdapter_bounded (v : Nat) (s : State) (hw : s.paths.bounded = true) :
    (State.startAdapter v s).paths.bounded = true := by
  unfold State.startAdapter
  (repeat' split) <;> simp (maxDischargeDepth := 40) [*]

@[simp] theorem State.sendCredit_stores (s : State) (x : Session) :
    (State.sendCredit s x).mem = s.mem ∧ (State.sendCredit s x).staging = s.staging := by
  unfold State.sendCredit
  simp

@[simp] theorem State.sendCredit_bounded (s : State) (x : Session) (hw : s.paths.bounded = true) :
    (State.sendCredit s x).paths.bounded = true := by
  unfold State.sendCredit
  simp [hw]

@[simp] theorem State.creditTick_stores (s : State) :
    (State.creditTick s).mem = s.mem ∧ (State.creditTick s).staging = s.staging := by
  unfold State.creditTick
  (repeat' split) <;> simp

@[simp] theorem State.creditTick_bounded (s : State) (hw : s.paths.bounded = true) :
    (State.creditTick s).paths.bounded = true := by
  unfold State.creditTick
  (repeat' split) <;> simp (maxDischargeDepth := 40) [*]

@[simp] theorem State.closeSession_stores (s : State) (x : Session) (result state : Nat) :
    (State.closeSession s x result state).mem = s.mem ∧ (State.closeSession s x result state).staging = s.staging := by
  unfold State.closeSession
  simp

@[simp] theorem State.closeSession_bounded (s : State) (x : Session) (result state : Nat)
    (hw : s.paths.bounded = true) : (State.closeSession s x result state).paths.bounded = true := by
  unfold State.closeSession
  simp (maxDischargeDepth := 40) [*]

@[simp] theorem State.endSession_stores (s : State) :
    (State.endSession s).mem = s.mem ∧ (State.endSession s).staging = s.staging := by
  unfold State.endSession
  (repeat' split) <;> simp

@[simp] theorem State.endSession_bounded (s : State) (hw : s.paths.bounded = true) :
    (State.endSession s).paths.bounded = true := by
  unfold State.endSession
  (repeat' split) <;> simp (maxDischargeDepth := 40) [*]

@[simp] theorem State.acceptRecord_staging (s : State) (fabric : Bool) (r : Bytes) :
    (State.acceptRecord s fabric r).staging = s.staging := by
  unfold State.acceptRecord
  (repeat' split) <;> simp

@[simp] theorem State.acceptRecord_wf (s : State) (fabric : Bool) (r : Bytes) (hw : s.mem.wf = true) :
    (State.acceptRecord s fabric r).mem.wf = true := by
  unfold State.acceptRecord
  (repeat' split) <;> simp (maxDischargeDepth := 40) [*]

@[simp] theorem State.acceptRecord_bounded (s : State) (fabric : Bool) (r : Bytes) (hw : s.paths.bounded = true) :
    (State.acceptRecord s fabric r).paths.bounded = true := by
  unfold State.acceptRecord
  (repeat' split) <;> simp (maxDischargeDepth := 40) [*]

@[simp] theorem State.keepRecord_staging (s : State) (x : Session) (r : Bytes) (check : Nat) :
    (State.keepRecord s x r check).staging = s.staging := by
  unfold State.keepRecord
  dsimp only
  (repeat' split) <;> simp

@[simp] theorem State.keepRecord_wf (s : State) (x : Session) (r : Bytes) (check : Nat) (hw : s.mem.wf = true) :
    (State.keepRecord s x r check).mem.wf = true := by
  unfold State.keepRecord
  dsimp only
  (repeat' split) <;> simp (maxDischargeDepth := 40) [*]

@[simp] theorem State.keepRecord_bounded (s : State) (x : Session) (r : Bytes) (check : Nat)
    (hw : s.paths.bounded = true) : (State.keepRecord s x r check).paths.bounded = true := by
  unfold State.keepRecord
  dsimp only
  (repeat' split) <;> simp (maxDischargeDepth := 40) [*]

@[simp] theorem State.queueForward_stores (s : State) (n : Nat) (r : Bytes) :
    (State.queueForward s n r).mem = s.mem ∧ (State.queueForward s n r).staging = s.staging := by
  unfold State.queueForward
  simp

@[simp] theorem State.queueForward_bounded (s : State) (n : Nat) (r : Bytes) (hw : s.paths.bounded = true) :
    (State.queueForward s n r).paths.bounded = true := by
  unfold State.queueForward
  simp [hw]

@[simp] theorem State.completeSession_stores (s : State) (x : Session) :
    (State.completeSession s x).mem = s.mem ∧ (State.completeSession s x).staging = s.staging := by
  unfold State.completeSession
  simp

@[simp] theorem State.completeSession_bounded (s : State) (x : Session) (hw : s.paths.bounded = true) :
    (State.completeSession s x).paths.bounded = true := by
  unfold State.completeSession
  simp (maxDischargeDepth := 40) [*]

@[simp] theorem State.processRecord_staging (s : State) : (State.processRecord s).staging = s.staging := by
  unfold State.processRecord
  (repeat' split) <;> simp

@[simp] theorem State.processRecord_wf (s : State) (hw : s.mem.wf = true) :
    (State.processRecord s).mem.wf = true := by
  unfold State.processRecord
  (repeat' split) <;> simp (maxDischargeDepth := 40) [*]

@[simp] theorem State.processRecord_bounded (s : State) (hw : s.paths.bounded = true) :
    (State.processRecord s).paths.bounded = true := by
  unfold State.processRecord
  (repeat' split) <;> simp (maxDischargeDepth := 40) [*]

@[simp] theorem State.takeCredit_stores (s : State) (m : Bytes) :
    (State.takeCredit s m).mem = s.mem ∧ (State.takeCredit s m).staging = s.staging := by
  unfold State.takeCredit
  simp

@[simp] theorem State.takeCredit_bounded (s : State) (m : Bytes) (hw : s.paths.bounded = true) :
    (State.takeCredit s m).paths.bounded = true := by
  unfold State.takeCredit
  simp [hw]

@[simp] theorem State.sendReserved_stores (s : State) (n : Nat) (x : RouteSlot) (gs : List Bytes) :
    (State.sendReserved s n x gs).mem = s.mem ∧ (State.sendReserved s n x gs).staging = s.staging := by
  unfold State.sendReserved
  simp

@[simp] theorem State.sendReserved_bounded (s : State) (n : Nat) (x : RouteSlot) (gs : List Bytes)
    (hw : s.paths.bounded = true) : (State.sendReserved s n x gs).paths.bounded = true := by
  unfold State.sendReserved
  simp (maxDischargeDepth := 40) [*]

@[simp] theorem State.forwardFlit_stores (n : Nat) (s : State) (x : RouteSlot) :
    (State.forwardFlit n s x).mem = s.mem ∧ (State.forwardFlit n s x).staging = s.staging := by
  unfold State.forwardFlit
  (repeat' split) <;> simp

@[simp] theorem State.forwardFlit_bounded (n : Nat) (s : State) (x : RouteSlot) (hw : s.paths.bounded = true) :
    (State.forwardFlit n s x).paths.bounded = true := by
  unfold State.forwardFlit
  dsimp only
  (repeat' split) <;> simp (maxDischargeDepth := 40) [*]

@[simp] theorem State.engineSends_stores (s : State) :
    (State.engineSends s).mem = s.mem ∧ (State.engineSends s).staging = s.staging := by
  unfold State.engineSends
  dsimp only
  (repeat' split) <;> simp

@[simp] theorem State.engineSends_bounded (s : State) (hw : s.paths.bounded = true) :
    (State.engineSends s).paths.bounded = true := by
  unfold State.engineSends
  dsimp only
  (repeat' split) <;> simp (maxDischargeDepth := 40) +contextual [*]

@[simp] theorem State.cutRecords_staging (s : State) (fuel : Nat) : (s.cutRecords fuel).staging = s.staging := by
  induction fuel generalizing s with
  | zero => rfl
  | succ n ih =>
    unfold State.cutRecords
    dsimp only
    (repeat' split) <;> simp_all

@[simp] theorem State.cutRecords_wf (s : State) (fuel : Nat) (hw : s.mem.wf = true) :
    (s.cutRecords fuel).mem.wf = true := by
  induction fuel generalizing s with
  | zero => exact hw
  | succ n ih =>
    unfold State.cutRecords
    dsimp only
    (repeat' split) <;> simp_all (maxDischargeDepth := 40)

@[simp] theorem State.cutRecords_bounded (s : State) (fuel : Nat) (hw : s.paths.bounded = true) :
    (s.cutRecords fuel).paths.bounded = true := by
  induction fuel generalizing s with
  | zero => exact hw
  | succ n ih =>
    unfold State.cutRecords
    dsimp only
    (repeat' split) <;> simp_all (maxDischargeDepth := 40)

@[simp] theorem State.drainFlits_staging (s : State) : (State.drainFlits s).staging = s.staging := by
  unfold State.drainFlits
  simp

@[simp] theorem State.drainFlits_wf (s : State) (hw : s.mem.wf = true) : s.drainFlits.mem.wf = true := by
  unfold State.drainFlits
  exact State.cutRecords_wf _ _ hw

@[simp] theorem State.drainFlits_bounded (s : State) (hw : s.paths.bounded = true) :
    (State.drainFlits s).paths.bounded = true := by
  unfold State.drainFlits
  simp [hw]

@[simp] theorem State.takeDistribution_staging (s : State) (port course lane slot : Nat) (gs : List Bytes) :
    (State.takeDistribution s port course lane slot gs).staging = s.staging := by
  unfold State.takeDistribution
  simp

@[simp] theorem State.takeDistribution_wf (s : State) (port course lane slot : Nat) (gs : List Bytes)
    (hw : s.mem.wf = true) : (State.takeDistribution s port course lane slot gs).mem.wf = true := by
  unfold State.takeDistribution
  simp [hw]

@[simp] theorem State.takeDistribution_bounded (s : State) (port course lane slot : Nat) (gs : List Bytes)
    (hw : s.paths.bounded = true) : (State.takeDistribution s port course lane slot gs).paths.bounded = true := by
  unfold State.takeDistribution
  simp [hw]

@[simp] theorem State.missDistribution_stores (s : State) (port course lane slot : Nat) :
    (State.missDistribution s port course lane slot).mem = s.mem ∧ (State.missDistribution s port course lane slot).staging = s.staging := by
  unfold State.missDistribution
  simp

@[simp] theorem State.missDistribution_bounded (s : State) (port course lane slot : Nat)
    (hw : s.paths.bounded = true) : (State.missDistribution s port course lane slot).paths.bounded = true := by
  unfold State.missDistribution
  dsimp only
  (repeat' split) <;> simp (maxDischargeDepth := 40) [*]

@[simp] theorem State.putInForce_stores (s : State) (side : Nat) :
    (State.putInForce s side).mem = s.mem ∧ (State.putInForce s side).staging = s.staging := by
  unfold State.putInForce
  dsimp only
  (repeat' split) <;> simp

@[simp] theorem State.putInForce_bounded (s : State) (side : Nat) (hw : s.paths.bounded = true) :
    (State.putInForce s side).paths.bounded = true := by
  unfold State.putInForce
  dsimp only
  (repeat' split) <;> simp (maxDischargeDepth := 40) [*]

@[simp] theorem State.switchGeneration_stores (s : State) :
    (State.switchGeneration s).mem = s.mem ∧ (State.switchGeneration s).staging = s.staging := by
  unfold State.switchGeneration
  dsimp only
  (repeat' split) <;> simp

@[simp] theorem State.switchGeneration_bounded (s : State) (hw : s.paths.bounded = true) :
    (State.switchGeneration s).paths.bounded = true := by
  unfold State.switchGeneration
  dsimp only
  (repeat' split) <;> simp (maxDischargeDepth := 40) [*]

@[simp] theorem State.discardGeneration_stores (s : State) (gen : Nat) :
    (State.discardGeneration s gen).2.mem = s.mem ∧ (State.discardGeneration s gen).2.staging = s.staging := by
  unfold State.discardGeneration
  (repeat' split) <;> simp

@[simp] theorem State.discardGeneration_bounded (s : State) (gen : Nat) (hw : s.paths.bounded = true) :
    (State.discardGeneration s gen).2.paths.bounded = true := by
  unfold State.discardGeneration
  (repeat' split) <;> simp (maxDischargeDepth := 40) [*]

@[simp] theorem State.clearPlaces_staging (s : State) (a : Nat) : (State.clearPlaces s a).staging = s.staging := by
  unfold State.clearPlaces
  (repeat' split) <;> simp

@[simp] theorem State.clearPlaces_wf (s : State) (a : Nat) (hw : s.mem.wf = true) : (s.clearPlaces a).mem.wf = true := by
  unfold State.clearPlaces
  split
  · exact hw
  · exact foldlWf_mem _ (fun _ _ h => Memory.wf_clear h) _ _ hw

@[simp] theorem State.clearPlaces_bounded (s : State) (a : Nat) (hw : s.paths.bounded = true) :
    (s.clearPlaces a).paths.bounded = true := by
  unfold State.clearPlaces
  split
  · exact hw
  · refine foldlWf_paths _ (fun s r h => ?_) _ _ hw
    exact h

@[simp] theorem State.unloadAdapter_staging (s : State) (a : Nat) :
    (State.unloadAdapter s a).2.staging = s.staging := by
  unfold State.unloadAdapter
  simp

@[simp] theorem State.unloadAdapter_wf (s : State) (a : Nat) (hw : s.mem.wf = true) :
    (State.unloadAdapter s a).2.mem.wf = true := by
  unfold State.unloadAdapter
  simp [hw]

@[simp] theorem State.unloadAdapter_bounded (s : State) (a : Nat) (hw : s.paths.bounded = true) :
    (State.unloadAdapter s a).2.paths.bounded = true := by
  unfold State.unloadAdapter
  simp [hw]

@[simp] theorem State.settleWeights_stores (s : State) :
    (State.settleWeights s).mem = s.mem ∧ (State.settleWeights s).staging = s.staging := by
  unfold State.settleWeights
  dsimp only
  (repeat' split) <;> simp

@[simp] theorem State.settleWeights_bounded (s : State) (hw : s.paths.bounded = true) :
    (State.settleWeights s).paths.bounded = true := by
  unfold State.settleWeights
  dsimp only
  (repeat' split) <;> simp (maxDischargeDepth := 40) +contextual [*]

end Sys2Proof.Machine
end

