-- ==== Sys2Proof/Laws/Links.lean ====
section
/-! SUPPORT. What the operations of Machine/Links.lean leave alone and keep: the addressed memories that they do not
write are as they were, those that they write stay canonical, and the queues of notices stay within their bound. -/

namespace Sys2Proof.Machine

@[simp] theorem State.writeFlit_staging (s : State) (port : Nat) (f : Flit) :
    (State.writeFlit s port f).staging = s.staging := by
  unfold State.writeFlit
  dsimp only
  (repeat' split) <;> simp

@[simp] theorem State.writeFlit_wf (s : State) (port : Nat) (f : Flit) (hw : s.mem.wf = true) :
    (State.writeFlit s port f).mem.wf = true := by
  unfold State.writeFlit
  dsimp only
  (repeat' split) <;> simp (maxDischargeDepth := 40) [*]

@[simp] theorem State.writeFlit_bounded (s : State) (port : Nat) (f : Flit) (hw : s.paths.bounded = true) :
    (State.writeFlit s port f).paths.bounded = true := by
  unfold State.writeFlit
  dsimp only
  (repeat' split) <;> simp (maxDischargeDepth := 40) [*]

@[simp] theorem State.fileFlit_staging (s : State) (port arrival : Nat) (f : Flit) (l : Landing) :
    (State.fileFlit s port arrival f l).staging = s.staging := by
  unfold State.fileFlit
  simp

@[simp] theorem State.fileFlit_wf (s : State) (port arrival : Nat) (f : Flit) (l : Landing) (hw : s.mem.wf = true) :
    (State.fileFlit s port arrival f l).mem.wf = true := by
  unfold State.fileFlit
  simp [hw]

@[simp] theorem State.fileFlit_bounded (s : State) (port arrival : Nat) (f : Flit) (l : Landing)
    (hw : s.paths.bounded = true) : (State.fileFlit s port arrival f l).paths.bounded = true := by
  unfold State.fileFlit
  simp [hw]

@[simp] theorem State.failFlit_stores (s : State) (port lane arrival slot course : Nat) (f : Option Flit) :
    (State.failFlit s port lane arrival slot course f).mem = s.mem ∧ (State.failFlit s port lane arrival slot course f).staging = s.staging := by
  unfold State.failFlit
  dsimp only
  (repeat' split) <;> simp

@[simp] theorem State.failFlit_bounded (s : State) (port lane arrival slot course : Nat) (f : Option Flit)
    (hw : s.paths.bounded = true) : (State.failFlit s port lane arrival slot course f).paths.bounded = true := by
  unfold State.failFlit
  dsimp only
  (repeat' split) <;> simp (maxDischargeDepth := 40) [*]

@[simp] theorem State.takeFlit_staging (s : State) (port lane slot : Nat) (b : Bytes) (fecOk : Bool)
    (corrected : Nat) : (State.takeFlit s port lane slot b fecOk corrected).staging = s.staging := by
  unfold State.takeFlit
  dsimp only
  (repeat' split) <;> simp

@[simp] theorem State.takeFlit_wf (s : State) (port lane slot : Nat) (b : Bytes) (fecOk : Bool) (corrected : Nat)
    (hw : s.mem.wf = true) : (State.takeFlit s port lane slot b fecOk corrected).mem.wf = true := by
  unfold State.takeFlit
  dsimp only
  (repeat' split) <;> simp (maxDischargeDepth := 40) [*]

@[simp] theorem State.takeFlit_bounded (s : State) (port lane slot : Nat) (b : Bytes) (fecOk : Bool)
    (corrected : Nat) (hw : s.paths.bounded = true) :
    (State.takeFlit s port lane slot b fecOk corrected).paths.bounded = true := by
  unfold State.takeFlit
  dsimp only
  (repeat' split) <;> simp (maxDischargeDepth := 40) [*]

@[simp] theorem State.writeLate_staging (s : State) (port : Nat) : (State.writeLate s port).staging = s.staging := by
  unfold State.writeLate
  dsimp only
  (repeat' split) <;> simp

@[simp] theorem State.writeLate_wf (s : State) (port : Nat) (hw : s.mem.wf = true) :
    (State.writeLate s port).mem.wf = true := by
  unfold State.writeLate
  dsimp only
  (repeat' split) <;> simp (maxDischargeDepth := 40) [*]

@[simp] theorem State.writeLate_bounded (s : State) (port : Nat) (hw : s.paths.bounded = true) :
    (State.writeLate s port).paths.bounded = true := by
  unfold State.writeLate
  dsimp only
  (repeat' split) <;> simp (maxDischargeDepth := 40) [*]

@[simp] theorem State.landDue_staging (s : State) (port : Nat) : (State.landDue s port).staging = s.staging := by
  unfold State.landDue
  simp

@[simp] theorem State.landDue_wf (s : State) (port : Nat) (hw : s.mem.wf = true) :
    (State.landDue s port).mem.wf = true := by
  unfold State.landDue
  simp (maxDischargeDepth := 40) +contextual [*]

@[simp] theorem State.landDue_bounded (s : State) (port : Nat) (hw : s.paths.bounded = true) :
    (State.landDue s port).paths.bounded = true := by
  unfold State.landDue
  simp (maxDischargeDepth := 40) +contextual [*]

@[simp] theorem State.applyReport_stores (s : State) (port lane tag map : Nat) :
    (State.applyReport s port lane tag map).mem = s.mem ∧ (State.applyReport s port lane tag map).staging = s.staging := by
  unfold State.applyReport
  simp

@[simp] theorem State.applyReport_bounded (s : State) (port lane tag map : Nat) (hw : s.paths.bounded = true) :
    (State.applyReport s port lane tag map).paths.bounded = true := by
  unfold State.applyReport
  simp [hw]

@[simp] theorem State.takeReport_stores (s : State) (port lane w : Nat) :
    (State.takeReport s port lane w).mem = s.mem ∧ (State.takeReport s port lane w).staging = s.staging := by
  unfold State.takeReport
  simp

@[simp] theorem State.takeReport_bounded (s : State) (port lane w : Nat) (hw : s.paths.bounded = true) :
    (State.takeReport s port lane w).paths.bounded = true := by
  unfold State.takeReport
  simp [hw]

@[simp] theorem State.reportLate_stores (s : State) (port lane course : Nat) :
    (State.reportLate s port lane course).mem = s.mem ∧ (State.reportLate s port lane course).staging = s.staging := by
  unfold State.reportLate
  simp

@[simp] theorem State.reportLate_bounded (s : State) (port lane course : Nat) (hw : s.paths.bounded = true) :
    (State.reportLate s port lane course).paths.bounded = true := by
  unfold State.reportLate
  simp [hw]

@[simp] theorem State.retryFlit_stores (s : State) (port lane : Nat) :
    (State.retryFlit s port lane).mem = s.mem ∧ (State.retryFlit s port lane).staging = s.staging := by
  unfold State.retryFlit
  dsimp only
  (repeat' split) <;> simp

@[simp] theorem State.retryFlit_bounded (s : State) (port lane : Nat) (hw : s.paths.bounded = true) :
    (State.retryFlit s port lane).paths.bounded = true := by
  unfold State.retryFlit
  dsimp only
  (repeat' split) <;> simp (maxDischargeDepth := 40) [*]

@[simp] theorem State.relayInputs_stores (s : State) :
    (State.relayInputs s).mem = s.mem ∧ (State.relayInputs s).staging = s.staging := by
  unfold State.relayInputs
  simp

@[simp] theorem State.relayInputs_bounded (s : State) (hw : s.paths.bounded = true) :
    (State.relayInputs s).paths.bounded = true := by
  unfold State.relayInputs
  simp (maxDischargeDepth := 40) [*]

@[simp] theorem State.relayFlit_staging (s : State) (port route index egress lane slot : Nat) :
    (State.relayFlit s port route index egress lane slot).staging = s.staging := by
  unfold State.relayFlit
  dsimp only
  (repeat' split) <;> simp

@[simp] theorem State.relayFlit_wf (s : State) (port route index egress lane slot : Nat) (hw : s.mem.wf = true) :
    (State.relayFlit s port route index egress lane slot).mem.wf = true := by
  unfold State.relayFlit
  dsimp only
  (repeat' split) <;> simp (maxDischargeDepth := 40) [*]

@[simp] theorem State.relayFlit_bounded (s : State) (port route index egress lane slot : Nat)
    (hw : s.paths.bounded = true) : (State.relayFlit s port route index egress lane slot).paths.bounded = true := by
  unfold State.relayFlit
  dsimp only
  (repeat' split) <;> simp (maxDischargeDepth := 40) [*]

@[simp] theorem State.sourceDown_stores (s : State) (port : Nat) :
    (State.sourceDown s port).mem = s.mem ∧ (State.sourceDown s port).staging = s.staging := by
  unfold State.sourceDown
  simp

@[simp] theorem State.sourceDown_bounded (s : State) (port : Nat) (hw : s.paths.bounded = true) :
    (State.sourceDown s port).paths.bounded = true := by
  unfold State.sourceDown
  simp [hw]

@[simp] theorem State.refreshLink_stores (s : State) (port : Nat) :
    (State.refreshLink s port).mem = s.mem ∧ (State.refreshLink s port).staging = s.staging := by
  unfold State.refreshLink
  simp

@[simp] theorem State.refreshLink_bounded (s : State) (port : Nat) (hw : s.paths.bounded = true) :
    (State.refreshLink s port).paths.bounded = true := by
  unfold State.refreshLink
  simp (maxDischargeDepth := 40) [*]

@[simp] theorem State.noticeLinkDown_stores (s : State) (port cause : Nat) :
    (State.noticeLinkDown s port cause).mem = s.mem ∧ (State.noticeLinkDown s port cause).staging = s.staging := by
  unfold State.noticeLinkDown
  simp

@[simp] theorem State.noticeLinkDown_bounded (s : State) (port cause : Nat) (hw : s.paths.bounded = true) :
    (State.noticeLinkDown s port cause).paths.bounded = true := by
  unfold State.noticeLinkDown
  simp [hw]

@[simp] theorem State.laneFails_stores (s : State) (port lane cause : Nat) :
    (State.laneFails s port lane cause).mem = s.mem ∧ (State.laneFails s port lane cause).staging = s.staging := by
  unfold State.laneFails
  simp

@[simp] theorem State.laneFails_bounded (s : State) (port lane cause : Nat) (hw : s.paths.bounded = true) :
    (State.laneFails s port lane cause).paths.bounded = true := by
  unfold State.laneFails
  simp (maxDischargeDepth := 40) [*]

@[simp] theorem State.laneTrained_stores (s : State) (port lane : Nat) (full ok : Bool) :
    (State.laneTrained s port lane full ok).mem = s.mem ∧ (State.laneTrained s port lane full ok).staging = s.staging := by
  unfold State.laneTrained
  simp

@[simp] theorem State.laneTrained_bounded (s : State) (port lane : Nat) (full ok : Bool)
    (hw : s.paths.bounded = true) : (State.laneTrained s port lane full ok).paths.bounded = true := by
  unfold State.laneTrained
  simp (maxDischargeDepth := 40) [*]

@[simp] theorem State.startRetrain_stores (port : Nat) (s : State) :
    (State.startRetrain port s).mem = s.mem ∧ (State.startRetrain port s).staging = s.staging := by
  unfold State.startRetrain
  simp

@[simp] theorem State.startRetrain_bounded (port : Nat) (s : State) (hw : s.paths.bounded = true) :
    (State.startRetrain port s).paths.bounded = true := by
  unfold State.startRetrain
  simp (maxDischargeDepth := 40) [*]

@[simp] theorem State.partnerChanges_stores (s : State) (port device partnerPort : Nat) :
    (State.partnerChanges s port device partnerPort).mem = s.mem ∧ (State.partnerChanges s port device partnerPort).staging = s.staging := by
  unfold State.partnerChanges
  dsimp only
  (repeat' split) <;> simp

@[simp] theorem State.partnerChanges_bounded (s : State) (port device partnerPort : Nat)
    (hw : s.paths.bounded = true) : (State.partnerChanges s port device partnerPort).paths.bounded = true := by
  unfold State.partnerChanges
  dsimp only
  (repeat' split) <;> simp (maxDischargeDepth := 40) [*]

@[simp] theorem State.portUp_stores (s : State) (port : Nat) :
    (State.portUp s port).mem = s.mem ∧ (State.portUp s port).staging = s.staging := by
  unfold State.portUp
  dsimp only
  (repeat' split) <;> simp

@[simp] theorem State.portUp_bounded (s : State) (port : Nat) (hw : s.paths.bounded = true) :
    (State.portUp s port).paths.bounded = true := by
  unfold State.portUp
  dsimp only
  (repeat' split) <;> simp (maxDischargeDepth := 40) [*]

@[simp] theorem State.toPhase_stores (s : State) (port phase : Nat) :
    (State.toPhase s port phase).mem = s.mem ∧ (State.toPhase s port phase).staging = s.staging := by
  unfold State.toPhase
  simp

@[simp] theorem State.toPhase_bounded (s : State) (port phase : Nat) (hw : s.paths.bounded = true) :
    (State.toPhase s port phase).paths.bounded = true := by
  unfold State.toPhase
  simp (maxDischargeDepth := 40) [*]

@[simp] theorem State.trainPhase_stores (s : State) (port w : Nat) :
    (State.trainPhase s port w).mem = s.mem ∧ (State.trainPhase s port w).staging = s.staging := by
  unfold State.trainPhase
  simp

@[simp] theorem State.trainPhase_bounded (s : State) (port w : Nat) (hw : s.paths.bounded = true) :
    (State.trainPhase s port w).paths.bounded = true := by
  unfold State.trainPhase
  simp [hw]

@[simp] theorem State.trainTimeout_stores (s : State) (port : Nat) :
    (State.trainTimeout s port).mem = s.mem ∧ (State.trainTimeout s port).staging = s.staging := by
  unfold State.trainTimeout
  simp

@[simp] theorem State.trainTimeout_bounded (s : State) (port : Nat) (hw : s.paths.bounded = true) :
    (State.trainTimeout s port).paths.bounded = true := by
  unfold State.trainTimeout
  simp (maxDischargeDepth := 40) [*]

@[simp] theorem State.roleMismatch_stores (s : State) (port role device : Nat) :
    (State.roleMismatch s port role device).mem = s.mem ∧ (State.roleMismatch s port role device).staging = s.staging := by
  unfold State.roleMismatch
  simp

@[simp] theorem State.roleMismatch_bounded (s : State) (port role device : Nat) (hw : s.paths.bounded = true) :
    (State.roleMismatch s port role device).paths.bounded = true := by
  unfold State.roleMismatch
  simp (maxDischargeDepth := 40) [*]

@[simp] theorem State.probeDelay_stores (s : State) (port roundTrip turnaround : Nat) :
    (State.probeDelay s port roundTrip turnaround).mem = s.mem ∧ (State.probeDelay s port roundTrip turnaround).staging = s.staging := by
  unfold State.probeDelay
  dsimp only
  (repeat' split) <;> simp

@[simp] theorem State.probeDelay_bounded (s : State) (port roundTrip turnaround : Nat)
    (hw : s.paths.bounded = true) : (State.probeDelay s port roundTrip turnaround).paths.bounded = true := by
  unfold State.probeDelay
  dsimp only
  (repeat' split) <;> simp (maxDischargeDepth := 40) [*]

@[simp] theorem State.suspendEdge_stores (s : State) :
    (State.suspendEdge s).mem = s.mem ∧ (State.suspendEdge s).staging = s.staging := by
  unfold State.suspendEdge
  simp

@[simp] theorem State.suspendEdge_bounded (s : State) (hw : s.paths.bounded = true) :
    (State.suspendEdge s).paths.bounded = true := by
  unfold State.suspendEdge
  simp [hw]

@[simp] theorem State.retrainEdge_stores (s : State) (edge cause : Nat) :
    (State.retrainEdge s edge cause).mem = s.mem ∧ (State.retrainEdge s edge cause).staging = s.staging := by
  unfold State.retrainEdge
  simp

@[simp] theorem State.retrainEdge_bounded (s : State) (edge cause : Nat) (hw : s.paths.bounded = true) :
    (State.retrainEdge s edge cause).paths.bounded = true := by
  unfold State.retrainEdge
  simp (maxDischargeDepth := 40) [*]

@[simp] theorem State.edgeFailsAgain_stores (s : State) (edge : Nat) :
    (State.edgeFailsAgain s edge).mem = s.mem ∧ (State.edgeFailsAgain s edge).staging = s.staging := by
  unfold State.edgeFailsAgain
  simp

@[simp] theorem State.edgeFailsAgain_bounded (s : State) (edge : Nat) (hw : s.paths.bounded = true) :
    (State.edgeFailsAgain s edge).paths.bounded = true := by
  unfold State.edgeFailsAgain
  simp (maxDischargeDepth := 40) [*]

@[simp] theorem State.edgeUp_stores (s : State) (edge : Nat) :
    (State.edgeUp s edge).mem = s.mem ∧ (State.edgeUp s edge).staging = s.staging := by
  unfold State.edgeUp
  simp

@[simp] theorem State.edgeUp_bounded (s : State) (edge : Nat) (hw : s.paths.bounded = true) :
    (State.edgeUp s edge).paths.bounded = true := by
  unfold State.edgeUp
  simp (maxDischargeDepth := 40) [*]

end Sys2Proof.Machine
end

