-- ==== Sys2Proof/Laws/Images.lean ====
section
/-! SUPPORT. What the operations of Machine/Images.lean leave alone and keep: the addressed memories that they do not
write are as they were, those that they write stay canonical, and the queues of notices stay within their bound. -/

namespace Sys2Proof.Machine

@[simp] theorem State.refuseItem_stores (s : State) (i : Item) (cause path : Nat) :
    (State.refuseItem s i cause path).mem = s.mem ∧ (State.refuseItem s i cause path).staging = s.staging := by
  unfold State.refuseItem
  simp

@[simp] theorem State.refuseItem_bounded (s : State) (i : Item) (cause path : Nat) (hw : s.paths.bounded = true) :
    (State.refuseItem s i cause path).paths.bounded = true := by
  unfold State.refuseItem
  simp (maxDischargeDepth := 40) [*]

@[simp] theorem State.accept_mem (s : State) (i : Item) (kinds : List Nat) (path : Nat) (act : State → Nat × State)
    (hact : ∀ x0, (act x0).2.mem = x0.mem) : (State.accept s i kinds path act).2.mem = s.mem := by
  unfold State.accept
  (repeat' split) <;> simp_all

@[simp] theorem State.accept_staging (s : State) (i : Item) (kinds : List Nat) (path : Nat)
    (act : State → Nat × State) (hact : ∀ x0, (act x0).2.staging = x0.staging) :
    (State.accept s i kinds path act).2.staging = s.staging := by
  unfold State.accept
  (repeat' split) <;> simp_all

@[simp] theorem State.accept_wf (s : State) (i : Item) (kinds : List Nat) (path : Nat) (act : State → Nat × State)
    (hact : ∀ x0, x0.mem.wf = true → (act x0).2.mem.wf = true) (hw : s.mem.wf = true) :
    (State.accept s i kinds path act).2.mem.wf = true := by
  unfold State.accept
  (repeat' split) <;> simp (maxDischargeDepth := 40) [*]

@[simp] theorem State.accept_stagingWf (s : State) (i : Item) (kinds : List Nat) (path : Nat)
    (act : State → Nat × State) (hact : ∀ x0, x0.staging.wf = true → (act x0).2.staging.wf = true)
    (hw : s.staging.wf = true) : (State.accept s i kinds path act).2.staging.wf = true := by
  unfold State.accept
  (repeat' split) <;> simp (maxDischargeDepth := 40) [*]

@[simp] theorem State.accept_bounded (s : State) (i : Item) (kinds : List Nat) (path : Nat)
    (act : State → Nat × State) (hact : ∀ x0, x0.paths.bounded = true → (act x0).2.paths.bounded = true)
    (hw : s.paths.bounded = true) : (State.accept s i kinds path act).2.paths.bounded = true := by
  unfold State.accept
  (repeat' split) <;> simp (maxDischargeDepth := 40) [*]

@[simp] theorem State.freshNonce_stores (s : State) :
    (State.freshNonce s).mem = s.mem ∧ (State.freshNonce s).staging = s.staging := by
  unfold State.freshNonce
  simp

@[simp] theorem State.freshNonce_bounded (s : State) (hw : s.paths.bounded = true) :
    (State.freshNonce s).paths.bounded = true := by
  unfold State.freshNonce
  simp (maxDischargeDepth := 40) [*]

end Sys2Proof.Machine
end

