-- ==== Sys2Proof/Laws/Slots.lean ====
section
/-! SUPPORT. What the operations of Machine/Slots.lean leave alone and keep: the addressed memories that they do not
write are as they were, those that they write stay canonical, and the queues of notices stay within their bound. -/

namespace Sys2Proof.Machine

@[simp] theorem State.unbind_stores (s : State) :
    (State.unbind s).mem = s.mem ∧ (State.unbind s).staging = s.staging := by
  unfold State.unbind
  simp

@[simp] theorem State.unbind_bounded (s : State) (hw : s.paths.bounded = true) :
    (State.unbind s).paths.bounded = true := by
  unfold State.unbind
  simp (maxDischargeDepth := 40) [*]

@[simp] theorem State.bind_stores (s : State) (slot gen : Nat) :
    (State.bind s slot gen).mem = s.mem ∧ (State.bind s slot gen).staging = s.staging := by
  unfold State.bind
  simp

@[simp] theorem State.bind_bounded (s : State) (slot gen : Nat) (hw : s.paths.bounded = true) :
    (State.bind s slot gen).paths.bounded = true := by
  unfold State.bind
  refine foldlWf_paths _ (fun s a h => ?_) _ _ ?_ <;> (repeat' split) <;> simp (maxDischargeDepth := 40) [*]

@[simp] theorem State.releaseSlot_stores (s : State) (slot : Nat) :
    (State.releaseSlot s slot).mem = s.mem ∧ (State.releaseSlot s slot).staging = s.staging := by
  unfold State.releaseSlot
  simp

@[simp] theorem State.releaseSlot_bounded (s : State) (slot : Nat) (hw : s.paths.bounded = true) :
    (State.releaseSlot s slot).paths.bounded = true := by
  unfold State.releaseSlot
  simp (maxDischargeDepth := 40) [*]

@[simp] theorem State.clearLeft_staging (s : State) (slot : Nat) : (State.clearLeft s slot).staging = s.staging := by
  unfold State.clearLeft
  (repeat' split) <;> simp

@[simp] theorem State.clearLeft_wf (s : State) (slot : Nat) (hw : s.mem.wf = true) :
    (State.clearLeft s slot).mem.wf = true := by
  unfold State.clearLeft
  (repeat' split) <;> simp (maxDischargeDepth := 40) +contextual [*]

@[simp] theorem State.clearLeft_bounded (s : State) (slot : Nat) (hw : s.paths.bounded = true) :
    (State.clearLeft s slot).paths.bounded = true := by
  unfold State.clearLeft
  (repeat' split) <;> simp (maxDischargeDepth := 40) +contextual [*]

@[simp] theorem State.slotCleared_staging (s : State) (slot : Nat) :
    (State.slotCleared s slot).staging = s.staging := by
  unfold State.slotCleared
  simp

@[simp] theorem State.slotCleared_wf (s : State) (slot : Nat) (hw : s.mem.wf = true) :
    (State.slotCleared s slot).mem.wf = true := by
  unfold State.slotCleared
  simp (maxDischargeDepth := 40) [*]

@[simp] theorem State.slotCleared_bounded (s : State) (slot : Nat) (hw : s.paths.bounded = true) :
    (State.slotCleared s slot).paths.bounded = true := by
  unfold State.slotCleared
  simp (maxDischargeDepth := 40) [*]

@[simp] theorem State.applyKv_staging (s : State) (r : Bytes) : (State.applyKv s r).staging = s.staging := by
  unfold State.applyKv
  simp

@[simp] theorem State.applyKv_wf (s : State) (r : Bytes) (hw : s.mem.wf = true) :
    (State.applyKv s r).mem.wf = true := by
  unfold State.applyKv
  simp (maxDischargeDepth := 40) [*]

@[simp] theorem State.applyKv_bounded (s : State) (r : Bytes) (hw : s.paths.bounded = true) :
    (State.applyKv s r).paths.bounded = true := by
  unfold State.applyKv
  simp (maxDischargeDepth := 40) [*]

@[simp] theorem State.advanceMark_stores (s : State) :
    (State.advanceMark s).mem = s.mem ∧ (State.advanceMark s).staging = s.staging := by
  unfold State.advanceMark
  (repeat' split) <;> simp

@[simp] theorem State.advanceMark_bounded (s : State) (hw : s.paths.bounded = true) :
    (State.advanceMark s).paths.bounded = true := by
  unfold State.advanceMark
  (repeat' split) <;> simp (maxDischargeDepth := 40) [*]

@[simp] theorem State.applyWaiting_staging (s : State) (slot : Nat) :
    (State.applyWaiting s slot).staging = s.staging := by
  unfold State.applyWaiting
  simp

@[simp] theorem State.applyWaiting_wf (s : State) (slot : Nat) (hw : s.mem.wf = true) :
    (State.applyWaiting s slot).mem.wf = true := by
  unfold State.applyWaiting
  simp (maxDischargeDepth := 40) +contextual [*]

@[simp] theorem State.applyWaiting_bounded (s : State) (slot : Nat) (hw : s.paths.bounded = true) :
    (State.applyWaiting s slot).paths.bounded = true := by
  unfold State.applyWaiting
  simp (maxDischargeDepth := 40) +contextual [*]

@[simp] theorem State.slotStamped_staging (s : State) (slot : Nat) :
    (State.slotStamped s slot).staging = s.staging := by
  unfold State.slotStamped
  simp

@[simp] theorem State.slotStamped_wf (s : State) (slot : Nat) (hw : s.mem.wf = true) :
    (State.slotStamped s slot).mem.wf = true := by
  unfold State.slotStamped
  simp (maxDischargeDepth := 40) [*]

@[simp] theorem State.slotStamped_bounded (s : State) (slot : Nat) (hw : s.paths.bounded = true) :
    (State.slotStamped s slot).paths.bounded = true := by
  unfold State.slotStamped
  simp (maxDischargeDepth := 40) [*]

@[simp] theorem State.swapHandoff_staging (s : State) (cluster : Nat) :
    (State.swapHandoff s cluster).staging = s.staging := by
  unfold State.swapHandoff
  dsimp only
  (repeat' split) <;> simp

@[simp] theorem State.swapHandoff_wf (s : State) (cluster : Nat) (hw : s.mem.wf = true) :
    (State.swapHandoff s cluster).mem.wf = true := by
  unfold State.swapHandoff
  dsimp only
  (repeat' split) <;> simp (maxDischargeDepth := 40) [*]

@[simp] theorem State.swapHandoff_bounded (s : State) (cluster : Nat) (hw : s.paths.bounded = true) :
    (State.swapHandoff s cluster).paths.bounded = true := by
  unfold State.swapHandoff
  dsimp only
  (repeat' split) <;> simp (maxDischargeDepth := 40) [*]

@[simp] theorem State.trowelFaults_stores (s : State) (cluster cause : Nat) :
    (State.trowelFaults s cluster cause).mem = s.mem ∧ (State.trowelFaults s cluster cause).staging = s.staging := by
  unfold State.trowelFaults
  simp

@[simp] theorem State.trowelFaults_bounded (s : State) (cluster cause : Nat) (hw : s.paths.bounded = true) :
    (State.trowelFaults s cluster cause).paths.bounded = true := by
  unfold State.trowelFaults
  simp (maxDischargeDepth := 40) [*]

@[simp] theorem State.trowelRestarts_stores (s : State) (cluster : Nat) :
    (State.trowelRestarts s cluster).mem = s.mem ∧ (State.trowelRestarts s cluster).staging = s.staging := by
  unfold State.trowelRestarts
  simp

@[simp] theorem State.trowelRestarts_bounded (s : State) (cluster : Nat) (hw : s.paths.bounded = true) :
    (State.trowelRestarts s cluster).paths.bounded = true := by
  unfold State.trowelRestarts
  simp (maxDischargeDepth := 40) [*]

end Sys2Proof.Machine
end

