-- ==== Sys2Proof/Laws/Banks.lean ====
section
/-! SUPPORT. What the operations of Machine/Banks.lean leave alone and keep: the addressed memories that they do not
write are as they were, those that they write stay canonical, and the queues of notices stay within their bound. -/

namespace Sys2Proof.Machine

@[simp] theorem State.showPlan_stores (s : State) :
    (State.showPlan s).mem = s.mem ∧ (State.showPlan s).staging = s.staging := by
  unfold State.showPlan
  dsimp only
  (repeat' split) <;> simp

@[simp] theorem State.showPlan_bounded (s : State) (hw : s.paths.bounded = true) :
    (State.showPlan s).paths.bounded = true := by
  unfold State.showPlan
  dsimp only
  (repeat' split) <;> simp (maxDischargeDepth := 40) [*]

@[simp] theorem State.restartQueues_stores (s : State) :
    (State.restartQueues s).mem = s.mem ∧ (State.restartQueues s).staging = s.staging := by
  unfold State.restartQueues
  (repeat' split) <;> simp

@[simp] theorem State.restartQueues_bounded (s : State) (hw : s.paths.bounded = true) :
    (State.restartQueues s).paths.bounded = true := by
  unfold State.restartQueues
  (repeat' split) <;> simp (maxDischargeDepth := 40) +contextual [*]

@[simp] theorem State.openLevel_stores (s : State) (p : Plan) (d : LevelDecl) :
    (State.openLevel s p d).mem = s.mem ∧ (State.openLevel s p d).staging = s.staging := by
  unfold State.openLevel
  simp

@[simp] theorem State.openLevel_bounded (s : State) (p : Plan) (d : LevelDecl) (hw : s.paths.bounded = true) :
    (State.openLevel s p d).paths.bounded = true := by
  unfold State.openLevel
  refine foldlWf_paths _ (fun s a h => ?_) _ _ ?_ <;> (repeat' split) <;> simp (maxDischargeDepth := 40) [*]

@[simp] theorem State.openLevels_stores (s : State) (p : Plan) :
    (State.openLevels s p).mem = s.mem ∧ (State.openLevels s p).staging = s.staging := by
  unfold State.openLevels
  simp

@[simp] theorem State.openLevels_bounded (s : State) (p : Plan) (hw : s.paths.bounded = true) :
    (State.openLevels s p).paths.bounded = true := by
  unfold State.openLevels
  refine foldlWf_paths _ (fun s a h => ?_) _ _ ?_ <;> (repeat' split) <;> simp (maxDischargeDepth := 40) [*]

@[simp] theorem State.flipBanks_stores (s : State) :
    (State.flipBanks s).mem = s.mem ∧ (State.flipBanks s).staging = s.staging := by
  unfold State.flipBanks
  simp

@[simp] theorem State.flipBanks_bounded (s : State) (hw : s.paths.bounded = true) :
    (State.flipBanks s).paths.bounded = true := by
  unfold State.flipBanks
  simp (maxDischargeDepth := 40) [*]

@[simp] theorem State.takeOverPlan_stores (s : State) (p : Plan) :
    (State.takeOverPlan s p).mem = s.mem ∧ (State.takeOverPlan s p).staging = s.staging := by
  unfold State.takeOverPlan
  simp

@[simp] theorem State.takeOverPlan_bounded (s : State) (p : Plan) (hw : s.paths.bounded = true) :
    (State.takeOverPlan s p).paths.bounded = true := by
  unfold State.takeOverPlan
  simp (maxDischargeDepth := 40) [*]

@[simp] theorem State.swapBanks_stores (s : State) :
    (State.swapBanks s).mem = s.mem ∧ (State.swapBanks s).staging = s.staging := by
  unfold State.swapBanks
  dsimp only
  (repeat' split) <;> simp

@[simp] theorem State.swapBanks_bounded (s : State) (hw : s.paths.bounded = true) :
    (State.swapBanks s).paths.bounded = true := by
  unfold State.swapBanks
  dsimp only
  (repeat' split) <;> simp (maxDischargeDepth := 40) [*]

@[simp] theorem State.armSwap_stores (s : State) :
    (State.armSwap s).2.mem = s.mem ∧ (State.armSwap s).2.staging = s.staging := by
  unfold State.armSwap
  simp

@[simp] theorem State.armSwap_bounded (s : State) (hw : s.paths.bounded = true) :
    (State.armSwap s).2.paths.bounded = true := by
  unfold State.armSwap
  simp (maxDischargeDepth := 40) [*]

@[simp] theorem State.switchVariant_stores (s : State) :
    (State.switchVariant s).mem = s.mem ∧ (State.switchVariant s).staging = s.staging := by
  unfold State.switchVariant
  (repeat' split) <;> simp

@[simp] theorem State.switchVariant_bounded (s : State) (hw : s.paths.bounded = true) :
    (State.switchVariant s).paths.bounded = true := by
  unfold State.switchVariant
  (repeat' split) <;> simp (maxDischargeDepth := 40) [*]

@[simp] theorem State.quoin_stores (s : State) :
    (State.quoin s).mem = s.mem ∧ (State.quoin s).staging = s.staging := by
  unfold State.quoin
  simp

@[simp] theorem State.quoin_bounded (s : State) (hw : s.paths.bounded = true) :
    (State.quoin s).paths.bounded = true := by
  unfold State.quoin
  simp (maxDischargeDepth := 40) [*]

@[simp] theorem State.endPlan_stores (s : State) :
    (State.endPlan s).mem = s.mem ∧ (State.endPlan s).staging = s.staging := by
  unfold State.endPlan
  simp

@[simp] theorem State.endPlan_bounded (s : State) (hw : s.paths.bounded = true) :
    (State.endPlan s).paths.bounded = true := by
  unfold State.endPlan
  simp (maxDischargeDepth := 40) [*]

end Sys2Proof.Machine
end

