-- ==== Sys2Proof/Laws/Routines.lean ====
section
/-! SUPPORT. What the operations of Machine/Routines.lean leave alone and keep: the addressed memories that they do not
write are as they were, those that they write stay canonical, and the queues of notices stay within their bound. -/

namespace Sys2Proof.Machine

@[simp] theorem State.elementsOut_stores (s : State) (core hod flags n : Nat) (l : List Nat) :
    (State.elementsOut s core hod flags n l).mem = s.mem ∧ (State.elementsOut s core hod flags n l).staging = s.staging := by
  unfold State.elementsOut
  simp

@[simp] theorem State.elementsOut_bounded (s : State) (core hod flags n : Nat) (l : List Nat)
    (hw : s.paths.bounded = true) : (State.elementsOut s core hod flags n l).paths.bounded = true := by
  unfold State.elementsOut
  refine foldlWf_paths _ (fun s a h => ?_) _ _ ?_ <;> (repeat' split) <;> simp (maxDischargeDepth := 40) [*]

@[simp] theorem State.scalarIn_mem (s : State) (q : Issue) (hod : Nat) (k : Nat → Nat → State → State)
    (hk : ∀ x0 x1 x2, (k x0 x1 x2).mem = x2.mem) : (State.scalarIn s q hod k).mem = s.mem := by
  unfold State.scalarIn
  (repeat' split) <;> simp_all

@[simp] theorem State.scalarIn_staging (s : State) (q : Issue) (hod : Nat) (k : Nat → Nat → State → State)
    (hk : ∀ x0 x1 x2, (k x0 x1 x2).staging = x2.staging) : (State.scalarIn s q hod k).staging = s.staging := by
  unfold State.scalarIn
  (repeat' split) <;> simp_all

@[simp] theorem State.scalarIn_wf (s : State) (q : Issue) (hod : Nat) (k : Nat → Nat → State → State)
    (hk : ∀ x0 x1 x2, x2.mem.wf = true → (k x0 x1 x2).mem.wf = true) (hw : s.mem.wf = true) :
    (State.scalarIn s q hod k).mem.wf = true := by
  unfold State.scalarIn
  (repeat' split) <;> simp_all (maxDischargeDepth := 40)

@[simp] theorem State.scalarIn_stagingWf (s : State) (q : Issue) (hod : Nat) (k : Nat → Nat → State → State)
    (hk : ∀ x0 x1 x2, x2.staging.wf = true → (k x0 x1 x2).staging.wf = true) (hw : s.staging.wf = true) :
    (State.scalarIn s q hod k).staging.wf = true := by
  unfold State.scalarIn
  (repeat' split) <;> simp_all (maxDischargeDepth := 40)

@[simp] theorem State.scalarIn_bounded (s : State) (q : Issue) (hod : Nat) (k : Nat → Nat → State → State)
    (hk : ∀ x0 x1 x2, x2.paths.bounded = true → (k x0 x1 x2).paths.bounded = true) (hw : s.paths.bounded = true) :
    (State.scalarIn s q hod k).paths.bounded = true := by
  unfold State.scalarIn
  (repeat' split) <;> simp_all (maxDischargeDepth := 40)

@[simp] theorem State.callRms_stores (s : State) (q : Issue) (f : Fields) (n : Nat) :
    (s.callRms q f n).mem = s.mem ∧ (s.callRms q f n).staging = s.staging := by
  unfold State.callRms
  constructor
  · exact State.chunksIn_mem _ _ _ _ _ _ fun _ _ _ => State.scalarIn_mem _ _ _ _ fun _ _ _ =>
      State.chunksIn_mem _ _ _ _ _ _ fun _ _ _ => by split <;> simp
  · exact State.chunksIn_staging _ _ _ _ _ _ fun _ _ _ => State.scalarIn_staging _ _ _ _ fun _ _ _ =>
      State.chunksIn_staging _ _ _ _ _ _ fun _ _ _ => by split <;> simp

@[simp] theorem State.callRms_bounded (s : State) (q : Issue) (f : Fields) (n : Nat) (hw : s.paths.bounded = true) :
    (s.callRms q f n).paths.bounded = true := by
  unfold State.callRms
  exact State.chunksIn_bounded _ _ _ _ _ _ (fun _ _ _ h => State.scalarIn_bounded _ _ _ _ (fun _ _ _ h =>
    State.chunksIn_bounded _ _ _ _ _ _ (fun _ _ _ h => by split <;> simp [h]) h) h) hw

@[simp] theorem State.callLayer_stores (s : State) (q : Issue) (f : Fields) (n : Nat) :
    (s.callLayer q f n).mem = s.mem ∧ (s.callLayer q f n).staging = s.staging := by
  unfold State.callLayer
  constructor
  · exact State.chunksIn_mem _ _ _ _ _ _ fun _ _ _ => State.scalarIn_mem _ _ _ _ fun _ _ _ =>
      State.chunksIn_mem _ _ _ _ _ _ fun _ _ _ => State.chunksIn_mem _ _ _ _ _ _ fun _ _ _ => by split <;> simp
  · exact State.chunksIn_staging _ _ _ _ _ _ fun _ _ _ => State.scalarIn_staging _ _ _ _ fun _ _ _ =>
      State.chunksIn_staging _ _ _ _ _ _ fun _ _ _ => State.chunksIn_staging _ _ _ _ _ _ fun _ _ _ => by split <;> simp

@[simp] theorem State.callLayer_bounded (s : State) (q : Issue) (f : Fields) (n : Nat) (hw : s.paths.bounded = true) :
    (s.callLayer q f n).paths.bounded = true := by
  unfold State.callLayer
  exact State.chunksIn_bounded _ _ _ _ _ _ (fun _ _ _ h => State.scalarIn_bounded _ _ _ _ (fun _ _ _ h =>
    State.chunksIn_bounded _ _ _ _ _ _ (fun _ _ _ h => State.chunksIn_bounded _ _ _ _ _ _ (fun _ _ _ h => by
      split <;> simp [h]) h) h) h) hw

@[simp] theorem State.callSoftmax_stores (s : State) (q : Issue) (f : Fields) (n : Nat) :
    (State.callSoftmax s q f n).mem = s.mem ∧ (State.callSoftmax s q f n).staging = s.staging := by
  unfold State.callSoftmax
  simp

@[simp] theorem State.callSoftmax_bounded (s : State) (q : Issue) (f : Fields) (n : Nat)
    (hw : s.paths.bounded = true) : (State.callSoftmax s q f n).paths.bounded = true := by
  unfold State.callSoftmax
  (repeat' split) <;> simp_all (maxDischargeDepth := 40)

@[simp] theorem State.callRope_stores (s : State) (q : Issue) (f : Fields) (n : Nat) :
    (s.callRope q f n).mem = s.mem ∧ (s.callRope q f n).staging = s.staging := by
  induction n generalizing s with
  | zero => exact ⟨rfl, rfl⟩
  | succ n ih =>
    unfold State.callRope
    constructor
    · exact State.lanesIn_mem _ _ _ _ _ fun _ _ _ => State.lanesIn_mem _ _ _ _ _ fun _ _ _ =>
        State.lanesIn_mem _ _ _ _ _ fun _ _ _ => State.lanesIn_mem _ _ _ _ _ fun _ _ _ => by simp [ih]
    · exact State.lanesIn_staging _ _ _ _ _ fun _ _ _ => State.lanesIn_staging _ _ _ _ _ fun _ _ _ =>
        State.lanesIn_staging _ _ _ _ _ fun _ _ _ => State.lanesIn_staging _ _ _ _ _ fun _ _ _ => by simp [ih]

@[simp] theorem State.callRope_bounded (s : State) (q : Issue) (f : Fields) (n : Nat) (hw : s.paths.bounded = true) :
    (s.callRope q f n).paths.bounded = true := by
  induction n generalizing s with
  | zero => exact hw
  | succ n ih =>
    unfold State.callRope
    exact State.lanesIn_bounded _ _ _ _ _ (fun _ _ _ h => State.lanesIn_bounded _ _ _ _ _ (fun _ _ _ h =>
      State.lanesIn_bounded _ _ _ _ _ (fun _ _ _ h => State.lanesIn_bounded _ _ _ _ _ (fun _ _ _ h =>
        ih _ (State.rotateOut_bounded _ _ _ _ _ _ _ _ h)) h) h) h) hw

@[simp] theorem State.callSample_stores (s : State) (q : Issue) (f : Fields) :
    (State.callSample s q f).mem = s.mem ∧ (State.callSample s q f).staging = s.staging := by
  unfold State.callSample
  simp

@[simp] theorem State.callSample_bounded (s : State) (q : Issue) (f : Fields) (hw : s.paths.bounded = true) :
    (State.callSample s q f).paths.bounded = true := by
  unfold State.callSample
  (repeat' split) <;> simp_all (maxDischargeDepth := 40)

@[simp] theorem State.draftsIn_mem (s : State) (q : Issue) (f : Fields) (v n : Nat) (l : List (Nat × List Nat × List Nat)) (fl : Nat)
    (k : List (Nat × List Nat × List Nat) → Nat → State → State)
    (hk : ∀ x0 x1 x2, (k x0 x1 x2).mem = x2.mem) : (s.draftsIn q f v n l fl k).mem = s.mem := by
  induction n generalizing s l fl with
  | zero => exact hk _ _ _
  | succ n ih =>
    unfold State.draftsIn
    exact State.popping_mem _ _ _ _ _ fun _ _ => State.chunksIn_mem _ _ _ _ _ _ fun _ _ _ =>
      State.chunksIn_mem _ _ _ _ _ _ fun _ _ _ => ih _ _ _

@[simp] theorem State.draftsIn_staging (s : State) (q : Issue) (f : Fields) (v n : Nat) (l : List (Nat × List Nat × List Nat)) (fl : Nat)
    (k : List (Nat × List Nat × List Nat) → Nat → State → State)
    (hk : ∀ x0 x1 x2, (k x0 x1 x2).staging = x2.staging) : (s.draftsIn q f v n l fl k).staging = s.staging := by
  induction n generalizing s l fl with
  | zero => exact hk _ _ _
  | succ n ih =>
    unfold State.draftsIn
    exact State.popping_staging _ _ _ _ _ fun _ _ => State.chunksIn_staging _ _ _ _ _ _ fun _ _ _ =>
      State.chunksIn_staging _ _ _ _ _ _ fun _ _ _ => ih _ _ _

@[simp] theorem State.draftsIn_wf (s : State) (q : Issue) (f : Fields) (v n : Nat) (l : List (Nat × List Nat × List Nat)) (fl : Nat)
    (k : List (Nat × List Nat × List Nat) → Nat → State → State)
    (hk : ∀ x0 x1 x2, x2.mem.wf = true → (k x0 x1 x2).mem.wf = true) (hw : s.mem.wf = true) :
    (s.draftsIn q f v n l fl k).mem.wf = true := by
  induction n generalizing s l fl with
  | zero => exact hk _ _ _ hw
  | succ n ih =>
    unfold State.draftsIn
    exact State.popping_wf _ _ _ _ _ (fun _ _ h => State.chunksIn_wf _ _ _ _ _ _ (fun _ _ _ h =>
      State.chunksIn_wf _ _ _ _ _ _ (fun _ _ _ h => ih _ _ _ h) h) h) hw

@[simp] theorem State.draftsIn_stagingWf (s : State) (q : Issue) (f : Fields) (v n : Nat) (l : List (Nat × List Nat × List Nat)) (fl : Nat)
    (k : List (Nat × List Nat × List Nat) → Nat → State → State)
    (hk : ∀ x0 x1 x2, x2.staging.wf = true → (k x0 x1 x2).staging.wf = true) (hw : s.staging.wf = true) :
    (s.draftsIn q f v n l fl k).staging.wf = true := by
  induction n generalizing s l fl with
  | zero => exact hk _ _ _ hw
  | succ n ih =>
    unfold State.draftsIn
    exact State.popping_stagingWf _ _ _ _ _ (fun _ _ h => State.chunksIn_stagingWf _ _ _ _ _ _ (fun _ _ _ h =>
      State.chunksIn_stagingWf _ _ _ _ _ _ (fun _ _ _ h => ih _ _ _ h) h) h) hw

@[simp] theorem State.draftsIn_bounded (s : State) (q : Issue) (f : Fields) (v n : Nat) (l : List (Nat × List Nat × List Nat)) (fl : Nat)
    (k : List (Nat × List Nat × List Nat) → Nat → State → State)
    (hk : ∀ x0 x1 x2, x2.paths.bounded = true → (k x0 x1 x2).paths.bounded = true) (hw : s.paths.bounded = true) :
    (s.draftsIn q f v n l fl k).paths.bounded = true := by
  induction n generalizing s l fl with
  | zero => exact hk _ _ _ hw
  | succ n ih =>
    unfold State.draftsIn
    exact State.popping_bounded _ _ _ _ _ (fun _ _ h => State.chunksIn_bounded _ _ _ _ _ _ (fun _ _ _ h =>
      State.chunksIn_bounded _ _ _ _ _ _ (fun _ _ _ h => ih _ _ _ h) h) h) hw

@[simp] theorem State.callAccept_stores (s : State) (q : Issue) (f : Fields) :
    (s.callAccept q f).mem = s.mem ∧ (s.callAccept q f).staging = s.staging := by
  unfold State.callAccept
  constructor
  · exact State.popping_mem _ _ _ _ _ fun _ _ => State.draftsIn_mem _ _ _ _ _ _ _ _ fun _ _ _ =>
      State.chunksIn_mem _ _ _ _ _ _ fun _ _ _ => by simp
  · exact State.popping_staging _ _ _ _ _ fun _ _ => State.draftsIn_staging _ _ _ _ _ _ _ _ fun _ _ _ =>
      State.chunksIn_staging _ _ _ _ _ _ fun _ _ _ => by simp

@[simp] theorem State.callAccept_bounded (s : State) (q : Issue) (f : Fields) (hw : s.paths.bounded = true) :
    (s.callAccept q f).paths.bounded = true := by
  unfold State.callAccept
  exact State.popping_bounded _ _ _ _ _ (fun _ _ h => State.draftsIn_bounded _ _ _ _ _ _ _ _ (fun _ _ _ h =>
    State.chunksIn_bounded _ _ _ _ _ _ (fun _ _ _ h => by simp [h]) h) h) hw

@[simp] theorem State.appendTiles_staging (s : State) (q : Issue) (f : Fields) (row : Bool) (slot n : Nat) :
    (State.appendTiles s q f row slot n).staging = s.staging := by
  fun_induction State.appendTiles s q f row slot n <;> simp_all

@[simp] theorem State.appendTiles_wf (s : State) (q : Issue) (f : Fields) (row : Bool) (slot n : Nat) (hw : s.mem.wf = true) :
    (s.appendTiles q f row slot n).mem.wf = true := by
  induction n generalizing s with
  | zero => exact hw
  | succ n ih =>
    unfold State.appendTiles
    exact State.popping_wf _ _ _ _ _ (fun _ _ h => State.popping_wf _ _ _ _ _ (fun _ _ h => ih _ (by simp [h])) h) hw

@[simp] theorem State.appendTiles_bounded (s : State) (q : Issue) (f : Fields) (row : Bool) (slot n : Nat)
    (hw : s.paths.bounded = true) : (State.appendTiles s q f row slot n).paths.bounded = true := by
  fun_induction State.appendTiles s q f row slot n <;> simp_all (maxDischargeDepth := 40)

@[simp] theorem State.callAppend_staging (s : State) (q : Issue) (f : Fields) (r : Bytes) (w : Nat) :
    (State.callAppend s q f r w).staging = s.staging := by
  unfold State.callAppend
  simp

@[simp] theorem State.callAppend_wf (s : State) (q : Issue) (f : Fields) (r : Bytes) (w : Nat)
    (hw : s.mem.wf = true) : (State.callAppend s q f r w).mem.wf = true := by
  unfold State.callAppend
  simp (maxDischargeDepth := 40) [*]

@[simp] theorem State.callAppend_bounded (s : State) (q : Issue) (f : Fields) (r : Bytes) (w : Nat)
    (hw : s.paths.bounded = true) : (State.callAppend s q f r w).paths.bounded = true := by
  unfold State.callAppend
  simp (maxDischargeDepth := 40) [*]

@[simp] theorem State.gatherRows_stores (s : State) (q : Issue) (f : Fields) (base w n : Nat) :
    (State.gatherRows s q f base w n).mem = s.mem ∧ (State.gatherRows s q f base w n).staging = s.staging := by
  fun_induction State.gatherRows s q f base w n <;> simp_all

@[simp] theorem State.gatherRows_bounded (s : State) (q : Issue) (f : Fields) (base w n : Nat)
    (hw : s.paths.bounded = true) : (State.gatherRows s q f base w n).paths.bounded = true := by
  fun_induction State.gatherRows s q f base w n <;> simp_all (maxDischargeDepth := 40)

@[simp] theorem State.callGather_stores (s : State) (q : Issue) (f : Fields) (r : Bytes) (w : Nat) :
    (State.callGather s q f r w).mem = s.mem ∧ (State.callGather s q f r w).staging = s.staging := by
  unfold State.callGather
  (repeat' split) <;> simp

@[simp] theorem State.callGather_bounded (s : State) (q : Issue) (f : Fields) (r : Bytes) (w : Nat)
    (hw : s.paths.bounded = true) : (State.callGather s q f r w).paths.bounded = true := by
  unfold State.callGather
  (repeat' split) <;> simp (maxDischargeDepth := 40) [*]

@[simp] theorem State.relayTiles_staging (s : State) (q : Issue) (f : Fields) (route g n : Nat) :
    (State.relayTiles s q f route g n).staging = s.staging := by
  fun_induction State.relayTiles s q f route g n <;> simp_all

@[simp] theorem State.relayTiles_wf (s : State) (q : Issue) (f : Fields) (route g n : Nat) (hw : s.mem.wf = true) :
    (State.relayTiles s q f route g n).mem.wf = true := by
  fun_induction State.relayTiles s q f route g n <;> simp_all (maxDischargeDepth := 40)

@[simp] theorem State.relayTiles_bounded (s : State) (q : Issue) (f : Fields) (route g n : Nat)
    (hw : s.paths.bounded = true) : (State.relayTiles s q f route g n).paths.bounded = true := by
  fun_induction State.relayTiles s q f route g n <;> simp_all (maxDischargeDepth := 40)

@[simp] theorem State.callSend_staging (s : State) (q : Issue) (f : Fields) (add : Bool) (r : Bytes) (w : Nat) :
    (s.callSend q f add r w).staging = s.staging := by
  unfold State.callSend
  exact State.popping_staging _ _ _ _ _ fun _ _ => by split <;> simp

@[simp] theorem State.callSend_wf (s : State) (q : Issue) (f : Fields) (add : Bool) (r : Bytes) (w : Nat)
    (hw : s.mem.wf = true) : (s.callSend q f add r w).mem.wf = true := by
  unfold State.callSend
  exact State.popping_wf _ _ _ _ _ (fun _ _ h => by split <;> simp [h]) hw

@[simp] theorem State.callSend_bounded (s : State) (q : Issue) (f : Fields) (add : Bool) (r : Bytes) (w : Nat)
    (hw : s.paths.bounded = true) : (s.callSend q f add r w).paths.bounded = true := by
  unfold State.callSend
  exact State.popping_bounded _ _ _ _ _ (fun _ _ h => by split <;> simp [h]) hw

@[simp] theorem State.callProbe_stores (s : State) (q : Issue) (f : Fields) :
    (State.callProbe s q f).mem = s.mem ∧ (State.callProbe s q f).staging = s.staging := by
  unfold State.callProbe
  simp

@[simp] theorem State.callProbe_bounded (s : State) (q : Issue) (f : Fields) (hw : s.paths.bounded = true) :
    (State.callProbe s q f).paths.bounded = true := by
  unfold State.callProbe
  simp (maxDischargeDepth := 40) [*]

@[simp] theorem State.wholeCall_stores (q : Issue) (cycles : Nat) (t : State) :
    (State.wholeCall q cycles t).mem = t.mem ∧ (State.wholeCall q cycles t).staging = t.staging := by
  unfold State.wholeCall
  simp

@[simp] theorem State.wholeCall_bounded (q : Issue) (cycles : Nat) (t : State) (hw : t.paths.bounded = true) :
    (State.wholeCall q cycles t).paths.bounded = true := by
  unfold State.wholeCall
  simp (maxDischargeDepth := 40) [*]

@[simp] theorem State.openFrame_stores (s : State) (q : Issue) (f : Fields) (n w : Nat) :
    (State.openFrame s q f n w).mem = s.mem ∧ (State.openFrame s q f n w).staging = s.staging := by
  unfold State.openFrame
  simp

@[simp] theorem State.openFrame_bounded (s : State) (q : Issue) (f : Fields) (n w : Nat)
    (hw : s.paths.bounded = true) : (State.openFrame s q f n w).paths.bounded = true := by
  unfold State.openFrame
  simp (maxDischargeDepth := 40) [*]

@[simp] theorem State.bookRoutine_staging (s : State) (q : Issue) (f : Fields) (n w c : Nat) :
    (State.bookRoutine s q f n w c).staging = s.staging := by
  unfold State.bookRoutine
  (repeat' split) <;> simp

@[simp] theorem State.bookRoutine_wf (s : State) (q : Issue) (f : Fields) (n w c : Nat) (hw : s.mem.wf = true) :
    (State.bookRoutine s q f n w c).mem.wf = true := by
  unfold State.bookRoutine
  (repeat' split) <;> simp (maxDischargeDepth := 40) [*]

@[simp] theorem State.bookRoutine_bounded (s : State) (q : Issue) (f : Fields) (n w c : Nat)
    (hw : s.paths.bounded = true) : (State.bookRoutine s q f n w c).paths.bounded = true := by
  unfold State.bookRoutine
  (repeat' split) <;> simp (maxDischargeDepth := 40) [*]

@[simp] theorem State.call_staging (s : State) (q : Issue) (f : Fields) : (State.call s q f).staging = s.staging := by
  unfold State.call
  simp

@[simp] theorem State.call_wf (s : State) (q : Issue) (f : Fields) (hw : s.mem.wf = true) :
    (State.call s q f).mem.wf = true := by
  unfold State.call
  dsimp only
  (repeat' split) <;> simp (maxDischargeDepth := 40) [*]

@[simp] theorem State.call_bounded (s : State) (q : Issue) (f : Fields) (hw : s.paths.bounded = true) :
    (State.call s q f).paths.bounded = true := by
  unfold State.call
  simp (maxDischargeDepth := 40) [*]

end Sys2Proof.Machine
end

