-- ==== Sys2Proof/Laws/Units.lean ====
section
/-! SUPPORT. What the operations of Machine/Units.lean leave alone and keep: the addressed memories that they do not
write are as they were, those that they write stay canonical, and the queues of notices stay within their bound. -/

namespace Sys2Proof.Machine

@[simp] theorem State.startSubstitution_stores (cluster position trigger : Nat) (s : State) :
    (State.startSubstitution cluster position trigger s).mem = s.mem ∧ (State.startSubstitution cluster position trigger s).staging = s.staging := by
  unfold State.startSubstitution
  simp

@[simp] theorem State.startSubstitution_bounded (cluster position trigger : Nat) (s : State)
    (hw : s.paths.bounded = true) : (State.startSubstitution cluster position trigger s).paths.bounded = true := by
  unfold State.startSubstitution
  simp (maxDischargeDepth := 40) [*]

@[simp] theorem State.noticeExhausted_stores (s : State) (cluster position : Nat) :
    (State.noticeExhausted s cluster position).mem = s.mem ∧ (State.noticeExhausted s cluster position).staging = s.staging := by
  unfold State.noticeExhausted
  simp

@[simp] theorem State.noticeExhausted_bounded (s : State) (cluster position : Nat) (hw : s.paths.bounded = true) :
    (State.noticeExhausted s cluster position).paths.bounded = true := by
  unfold State.noticeExhausted
  simp (maxDischargeDepth := 40) [*]

@[simp] theorem State.thresholdReached_stores (s : State) (cluster position : Nat) :
    (State.thresholdReached s cluster position).mem = s.mem ∧ (State.thresholdReached s cluster position).staging = s.staging := by
  unfold State.thresholdReached
  (repeat' split) <;> simp

@[simp] theorem State.thresholdReached_bounded (s : State) (cluster position : Nat) (hw : s.paths.bounded = true) :
    (State.thresholdReached s cluster position).paths.bounded = true := by
  unfold State.thresholdReached
  (repeat' split) <;> simp_all (maxDischargeDepth := 40)

@[simp] theorem State.retryThresholds_stores (s : State) :
    (State.retryThresholds s).mem = s.mem ∧ (State.retryThresholds s).staging = s.staging := by
  unfold State.retryThresholds
  simp

@[simp] theorem State.retryThresholds_bounded (s : State) (hw : s.paths.bounded = true) :
    (State.retryThresholds s).paths.bounded = true := by
  unfold State.retryThresholds
  refine foldlWf_paths _ (fun s a h => ?_) _ _ ?_ <;> (repeat' split) <;> simp (maxDischargeDepth := 40) [*]

@[simp] theorem State.copyPortion_stores (s : State) (cluster bytes : Nat) :
    (State.copyPortion s cluster bytes).mem = s.mem ∧ (State.copyPortion s cluster bytes).staging = s.staging := by
  unfold State.copyPortion
  (repeat' split) <;> simp

@[simp] theorem State.copyPortion_bounded (s : State) (cluster bytes : Nat) (hw : s.paths.bounded = true) :
    (State.copyPortion s cluster bytes).paths.bounded = true := by
  unfold State.copyPortion
  (repeat' split) <;> simp (maxDischargeDepth := 40) [*]

@[simp] theorem State.copyRegisters_stores (s : State) (cluster : Nat) (fits : Bool) :
    (State.copyRegisters s cluster fits).mem = s.mem ∧ (State.copyRegisters s cluster fits).staging = s.staging := by
  unfold State.copyRegisters
  (repeat' split) <;> simp

@[simp] theorem State.copyRegisters_bounded (s : State) (cluster : Nat) (fits : Bool)
    (hw : s.paths.bounded = true) : (State.copyRegisters s cluster fits).paths.bounded = true := by
  unfold State.copyRegisters
  (repeat' split) <;> simp (maxDischargeDepth := 40) [*]

@[simp] theorem State.spareTakes_stores (s : State) (cluster position : Nat) :
    (State.spareTakes s cluster position).mem = s.mem ∧ (State.spareTakes s cluster position).staging = s.staging := by
  unfold State.spareTakes
  simp

@[simp] theorem State.spareTakes_bounded (s : State) (cluster position : Nat) (hw : s.paths.bounded = true) :
    (State.spareTakes s cluster position).paths.bounded = true := by
  unfold State.spareTakes
  simp (maxDischargeDepth := 40) [*]

@[simp] theorem State.swapSpare_stores (s : State) (cluster : Nat) :
    (State.swapSpare s cluster).mem = s.mem ∧ (State.swapSpare s cluster).staging = s.staging := by
  unfold State.swapSpare
  (repeat' split) <;> simp

@[simp] theorem State.swapSpare_bounded (s : State) (cluster : Nat) (hw : s.paths.bounded = true) :
    (State.swapSpare s cluster).paths.bounded = true := by
  unfold State.swapSpare
  (repeat' split) <;> simp (maxDischargeDepth := 40) +contextual [*]

@[simp] theorem State.noticeWaitingCores_stores (s : State) (core : Nat) :
    (State.noticeWaitingCores s core).mem = s.mem ∧ (State.noticeWaitingCores s core).staging = s.staging := by
  unfold State.noticeWaitingCores
  simp

@[simp] theorem State.noticeWaitingCores_bounded (s : State) (core : Nat) (hw : s.paths.bounded = true) :
    (State.noticeWaitingCores s core).paths.bounded = true := by
  unfold State.noticeWaitingCores
  refine foldlWf_paths _ (fun s a h => ?_) _ _ ?_ <;> (repeat' split) <;> simp (maxDischargeDepth := 40) [*]

@[simp] theorem State.freshCore_staging (s : State) (core : Nat) : (State.freshCore s core).staging = s.staging := by
  unfold State.freshCore
  simp

@[simp] theorem State.freshCore_wf (s : State) (core : Nat) (hw : s.mem.wf = true) :
    (State.freshCore s core).mem.wf = true := by
  unfold State.freshCore
  simp (maxDischargeDepth := 40) [*]

@[simp] theorem State.freshCore_bounded (s : State) (core : Nat) (hw : s.paths.bounded = true) :
    (State.freshCore s core).paths.bounded = true := by
  unfold State.freshCore
  refine foldlWf_paths _ (fun s a h => ?_) _ _ ?_ <;> (repeat' split) <;> simp (maxDischargeDepth := 40) [*]

@[simp] theorem State.hardSwap_staging (s : State) (core : Nat) : (State.hardSwap s core).staging = s.staging := by
  unfold State.hardSwap
  simp

@[simp] theorem State.hardSwap_wf (s : State) (core : Nat) (hw : s.mem.wf = true) :
    (State.hardSwap s core).mem.wf = true := by
  unfold State.hardSwap
  simp (maxDischargeDepth := 40) [*]

@[simp] theorem State.hardSwap_bounded (s : State) (core : Nat) (hw : s.paths.bounded = true) :
    (State.hardSwap s core).paths.bounded = true := by
  unfold State.hardSwap
  simp (maxDischargeDepth := 40) [*]

@[simp] theorem State.doHardSwaps_staging (s : State) : (State.doHardSwaps s).staging = s.staging := by
  unfold State.doHardSwaps
  simp

@[simp] theorem State.doHardSwaps_wf (s : State) (hw : s.mem.wf = true) : (State.doHardSwaps s).mem.wf = true := by
  unfold State.doHardSwaps
  refine foldlWf_mem _ (fun s a h => ?_) _ _ ?_ <;> (repeat' split) <;> simp (maxDischargeDepth := 40) [*]

@[simp] theorem State.doHardSwaps_bounded (s : State) (hw : s.paths.bounded = true) :
    (State.doHardSwaps s).paths.bounded = true := by
  unfold State.doHardSwaps
  refine foldlWf_paths _ (fun s a h => ?_) _ _ ?_ <;> (repeat' split) <;> simp (maxDischargeDepth := 40) [*]

@[simp] theorem State.unpend_stores (s : State) (cluster : Nat) :
    (State.unpend s cluster).mem = s.mem ∧ (State.unpend s cluster).staging = s.staging := by
  unfold State.unpend
  simp

@[simp] theorem State.unpend_bounded (s : State) (cluster : Nat) (hw : s.paths.bounded = true) :
    (State.unpend s cluster).paths.bounded = true := by
  unfold State.unpend
  simp (maxDischargeDepth := 40) [*]

@[simp] theorem State.clearClusterFlags_stores (s : State) (cluster : Nat) :
    (State.clearClusterFlags s cluster).mem = s.mem ∧ (State.clearClusterFlags s cluster).staging = s.staging := by
  unfold State.clearClusterFlags
  simp

@[simp] theorem State.clearClusterFlags_bounded (s : State) (cluster : Nat) (hw : s.paths.bounded = true) :
    (State.clearClusterFlags s cluster).paths.bounded = true := by
  unfold State.clearClusterFlags
  simp (maxDischargeDepth := 40) +contextual [*]

@[simp] theorem State.retire_staging (s : State) (cluster : Nat) : (State.retire s cluster).staging = s.staging := by
  unfold State.retire
  simp

@[simp] theorem State.retire_wf (s : State) (cluster : Nat) (hw : s.mem.wf = true) :
    (State.retire s cluster).mem.wf = true := by
  unfold State.retire
  simp (maxDischargeDepth := 40) [*]

@[simp] theorem State.retire_bounded (s : State) (cluster : Nat) (hw : s.paths.bounded = true) :
    (State.retire s cluster).paths.bounded = true := by
  unfold State.retire
  simp (maxDischargeDepth := 40) [*]

@[simp] theorem State.changeUnitMap_staging (s : State) : (State.changeUnitMap s).staging = s.staging := by
  unfold State.changeUnitMap
  simp

@[simp] theorem State.changeUnitMap_wf (s : State) (hw : s.mem.wf = true) :
    (State.changeUnitMap s).mem.wf = true := by
  unfold State.changeUnitMap
  simp (maxDischargeDepth := 40) +contextual [*]

@[simp] theorem State.changeUnitMap_bounded (s : State) (hw : s.paths.bounded = true) :
    (State.changeUnitMap s).paths.bounded = true := by
  unfold State.changeUnitMap
  simp (maxDischargeDepth := 40) +contextual [*]

@[simp] theorem State.retireRequest_stores (s : State) (v : Nat) :
    (State.retireRequest s v).2.mem = s.mem ∧ (State.retireRequest s v).2.staging = s.staging := by
  unfold State.retireRequest
  simp

@[simp] theorem State.retireRequest_bounded (s : State) (v : Nat) (hw : s.paths.bounded = true) :
    (State.retireRequest s v).2.paths.bounded = true := by
  unfold State.retireRequest
  (repeat' split) <;> simp_all (maxDischargeDepth := 40)

end Sys2Proof.Machine
end

