-- ==== Sys2Proof/Laws/Plans.lean ====
section
/-! SUPPORT. What the operations of Machine/Plans.lean leave alone and keep: the addressed memories that they do not
write are as they were, those that they write stay canonical, and the queues of notices stay within their bound. -/

namespace Sys2Proof.Machine

@[simp] theorem State.stageBytes_mem (s : State) (offset : Nat) (data : Bytes) :
    (State.stageBytes s offset data).mem = s.mem := by
  unfold State.stageBytes
  simp

@[simp] theorem State.stageBytes_stagingWf (s : State) (offset : Nat) (data : Bytes) (hw : s.staging.wf = true) :
    (State.stageBytes s offset data).staging.wf = true := by
  unfold State.stageBytes
  simp (maxDischargeDepth := 40) [*]

@[simp] theorem State.stageBytes_bounded (s : State) (offset : Nat) (data : Bytes) (hw : s.paths.bounded = true) :
    (State.stageBytes s offset data).paths.bounded = true := by
  unfold State.stageBytes
  simp (maxDischargeDepth := 40) [*]

@[simp] theorem State.loadPlan_stores (s : State) (v : Nat) :
    (State.loadPlan s v).2.mem = s.mem ∧ (State.loadPlan s v).2.staging = s.staging := by
  unfold State.loadPlan
  simp

@[simp] theorem State.loadPlan_bounded (s : State) (v : Nat) (hw : s.paths.bounded = true) :
    (State.loadPlan s v).2.paths.bounded = true := by
  unfold State.loadPlan
  simp (maxDischargeDepth := 40) [*]

@[simp] theorem State.setBank_stores (s : State) (b : Nat) (m : Map (List Nat)) :
    (State.setBank s b m).mem = s.mem ∧ (State.setBank s b m).staging = s.staging := by
  unfold State.setBank
  simp

@[simp] theorem State.setBank_bounded (s : State) (b : Nat) (m : Map (List Nat)) (hw : s.paths.bounded = true) :
    (State.setBank s b m).paths.bounded = true := by
  unfold State.setBank
  simp (maxDischargeDepth := 40) [*]

@[simp] theorem State.refusePlan_stores (s : State) (e : Refusal3) (digest : Bytes) :
    (State.refusePlan s e digest).mem = s.mem ∧ (State.refusePlan s e digest).staging = s.staging := by
  unfold State.refusePlan
  simp

@[simp] theorem State.refusePlan_bounded (s : State) (e : Refusal3) (digest : Bytes) (hw : s.paths.bounded = true) :
    (State.refusePlan s e digest).paths.bounded = true := by
  unfold State.refusePlan
  simp (maxDischargeDepth := 40) [*]

@[simp] theorem State.installPlan_staging (s : State) (p : Plan) : (State.installPlan s p).staging = s.staging := by
  unfold State.installPlan
  simp

@[simp] theorem State.installPlan_wf (s : State) (p : Plan) (hw : s.mem.wf = true) :
    (State.installPlan s p).mem.wf = true := by
  unfold State.installPlan
  simp (maxDischargeDepth := 40) +contextual [*]

@[simp] theorem State.installPlan_bounded (s : State) (p : Plan) (hw : s.paths.bounded = true) :
    (State.installPlan s p).paths.bounded = true := by
  unfold State.installPlan
  simp (maxDischargeDepth := 40) +contextual [*]

@[simp] theorem State.loaderDone_staging (s : State) (x : Schedule) : (State.loaderDone s x).staging = s.staging := by
  unfold State.loaderDone
  dsimp only
  (repeat' split) <;> simp

@[simp] theorem State.loaderDone_wf (s : State) (x : Schedule) (hw : s.mem.wf = true) :
    (State.loaderDone s x).mem.wf = true := by
  unfold State.loaderDone
  dsimp only
  (repeat' split) <;> simp (maxDischargeDepth := 40) [*]

@[simp] theorem State.loaderDone_bounded (s : State) (x : Schedule) (hw : s.paths.bounded = true) :
    (State.loaderDone s x).paths.bounded = true := by
  unfold State.loaderDone
  dsimp only
  (repeat' split) <;> simp (maxDischargeDepth := 40) [*]

@[simp] theorem State.forgetLaunch_stores (s : State) :
    (State.forgetLaunch s).mem = s.mem ∧ (State.forgetLaunch s).staging = s.staging := by
  unfold State.forgetLaunch
  simp

@[simp] theorem State.forgetLaunch_bounded (s : State) (hw : s.paths.bounded = true) :
    (State.forgetLaunch s).paths.bounded = true := by
  unfold State.forgetLaunch
  simp (maxDischargeDepth := 40) [*]

@[simp] theorem State.emptyPlan_stores (s : State) :
    (State.emptyPlan s).mem = s.mem ∧ (State.emptyPlan s).staging = s.staging := by
  unfold State.emptyPlan
  simp

@[simp] theorem State.emptyPlan_bounded (s : State) (hw : s.paths.bounded = true) :
    (State.emptyPlan s).paths.bounded = true := by
  unfold State.emptyPlan
  simp (maxDischargeDepth := 40) [*]

@[simp] theorem State.discardPlan_stores (s : State) :
    (State.discardPlan s).2.mem = s.mem ∧ (State.discardPlan s).2.staging = s.staging := by
  unfold State.discardPlan
  simp

@[simp] theorem State.discardPlan_bounded (s : State) (hw : s.paths.bounded = true) :
    (State.discardPlan s).2.paths.bounded = true := by
  unfold State.discardPlan
  simp (maxDischargeDepth := 40) [*]

@[simp] theorem State.haltPlan_stores (s : State) (c : Nat) :
    (State.haltPlan s c).2.mem = s.mem ∧ (State.haltPlan s c).2.staging = s.staging := by
  unfold State.haltPlan
  (repeat' split) <;> simp

@[simp] theorem State.haltPlan_bounded (s : State) (c : Nat) (hw : s.paths.bounded = true) :
    (State.haltPlan s c).2.paths.bounded = true := by
  unfold State.haltPlan
  (repeat' split) <;> simp (maxDischargeDepth := 40) [*]

@[simp] theorem State.putLoadBank_stores (s : State) (v : Nat) :
    (State.putLoadBank s v).2.mem = s.mem ∧ (State.putLoadBank s v).2.staging = s.staging := by
  unfold State.putLoadBank
  simp

@[simp] theorem State.putLoadBank_bounded (s : State) (v : Nat) (hw : s.paths.bounded = true) :
    (State.putLoadBank s v).2.paths.bounded = true := by
  unfold State.putLoadBank
  simp (maxDischargeDepth := 40) [*]

@[simp] theorem State.putCap_stores (s : State) (burst : Bool) (v : Nat) :
    (State.putCap s burst v).2.mem = s.mem ∧ (State.putCap s burst v).2.staging = s.staging := by
  unfold State.putCap
  simp

@[simp] theorem State.putCap_bounded (s : State) (burst : Bool) (v : Nat) (hw : s.paths.bounded = true) :
    (State.putCap s burst v).2.paths.bounded = true := by
  unfold State.putCap
  simp (maxDischargeDepth := 40) [*]

@[simp] theorem State.unmapLoaded_stores (s : State) :
    (State.unmapLoaded s).mem = s.mem ∧ (State.unmapLoaded s).staging = s.staging := by
  unfold State.unmapLoaded
  (repeat' split) <;> simp

@[simp] theorem State.unmapLoaded_bounded (s : State) (hw : s.paths.bounded = true) :
    (State.unmapLoaded s).paths.bounded = true := by
  unfold State.unmapLoaded
  (repeat' split) <;> simp (maxDischargeDepth := 40) [*]

@[simp] theorem State.mapChange_staging (s : State) : (State.mapChange s).staging = s.staging := by
  unfold State.mapChange
  simp

@[simp] theorem State.mapChange_wf (s : State) (hw : s.mem.wf = true) : (State.mapChange s).mem.wf = true := by
  unfold State.mapChange
  simp (maxDischargeDepth := 40) [*]

@[simp] theorem State.mapChange_bounded (s : State) (hw : s.paths.bounded = true) :
    (State.mapChange s).paths.bounded = true := by
  unfold State.mapChange
  simp (maxDischargeDepth := 40) [*]

end Sys2Proof.Machine
end

