-- ==== Sys2Proof/Laws/Restart.lean ====
section
/-! SUPPORT. What the operations of Machine/Restart.lean leave alone and keep: the addressed memories that they do not
write are as they were, those that they write stay canonical, and the queues of notices stay within their bound. -/

namespace Sys2Proof.Machine

@[simp] theorem State.cold_wf (s : State) (island : Bool) (mode : PowerMode) : (s.cold island mode).mem.wf = true := by
  cases island <;> rfl

@[simp] theorem State.cold_stagingWf (s : State) (island : Bool) (mode : PowerMode) :
    (s.cold island mode).staging.wf = true := by
  cases island <;> rfl

@[simp] theorem State.cold_bounded (s : State) (island : Bool) (mode : PowerMode) :
    (s.cold island mode).paths.bounded = true := by
  cases island <;> rfl

@[simp] theorem State.wakeClock_stores (s : State) :
    (State.wakeClock s).mem = s.mem ∧ (State.wakeClock s).staging = s.staging := by
  unfold State.wakeClock
  simp

@[simp] theorem State.wakeClock_bounded (s : State) (hw : s.paths.bounded = true) :
    (State.wakeClock s).paths.bounded = true := by
  unfold State.wakeClock
  simp (maxDischargeDepth := 40) [*]

@[simp] theorem State.dropPoint_stores (s : State) :
    (State.dropPoint s).mem = s.mem ∧ (State.dropPoint s).staging = s.staging := by
  unfold State.dropPoint
  simp

@[simp] theorem State.dropPoint_bounded (s : State) (hw : s.paths.bounded = true) :
    (State.dropPoint s).paths.bounded = true := by
  unfold State.dropPoint
  simp (maxDischargeDepth := 40) [*]

@[simp] theorem State.dropSlots_stores (s : State) :
    (State.dropSlots s).mem = s.mem ∧ (State.dropSlots s).staging = s.staging := by
  unfold State.dropSlots
  simp

@[simp] theorem State.dropSlots_bounded (s : State) (hw : s.paths.bounded = true) :
    (State.dropSlots s).paths.bounded = true := by
  unfold State.dropSlots
  simp (maxDischargeDepth := 40) [*]

@[simp] theorem State.keepClearing_stores (s : State) :
    (State.keepClearing s).mem = s.mem ∧ (State.keepClearing s).staging = s.staging := by
  unfold State.keepClearing
  simp

@[simp] theorem State.keepClearing_bounded (s : State) (hw : s.paths.bounded = true) :
    (State.keepClearing s).paths.bounded = true := by
  unfold State.keepClearing
  simp (maxDischargeDepth := 40) [*]

@[simp] theorem State.noticePlanLost_stores (s : State) :
    (State.noticePlanLost s).mem = s.mem ∧ (State.noticePlanLost s).staging = s.staging := by
  unfold State.noticePlanLost
  simp

@[simp] theorem State.noticePlanLost_bounded (s : State) (hw : s.paths.bounded = true) :
    (State.noticePlanLost s).paths.bounded = true := by
  unfold State.noticePlanLost
  simp (maxDischargeDepth := 40) [*]

@[simp] theorem State.losePlan_stores (s : State) :
    (State.losePlan s).mem = s.mem ∧ (State.losePlan s).staging = s.staging := by
  unfold State.losePlan
  simp

@[simp] theorem State.losePlan_bounded (s : State) (hw : s.paths.bounded = true) :
    (State.losePlan s).paths.bounded = true := by
  unfold State.losePlan
  simp (maxDischargeDepth := 40) [*]

@[simp] theorem State.setDebugLevel_stores (s : State) (new path cause : Nat) :
    (State.setDebugLevel s new path cause).mem = s.mem ∧ (State.setDebugLevel s new path cause).staging = s.staging := by
  unfold State.setDebugLevel
  simp

@[simp] theorem State.setDebugLevel_bounded (s : State) (new path cause : Nat) (hw : s.paths.bounded = true) :
    (s.setDebugLevel new path cause).paths.bounded = true := by
  unfold State.setDebugLevel
  extract_lets old
  split
  · exact hw
  · exact State.notice_bounded _ _ _ _ hw

@[simp] theorem State.startLevel_stores (s : State) :
    (State.startLevel s).mem = s.mem ∧ (State.startLevel s).staging = s.staging := by
  unfold State.startLevel
  simp

@[simp] theorem State.startLevel_bounded (s : State) (hw : s.paths.bounded = true) :
    (State.startLevel s).paths.bounded = true := by
  unfold State.startLevel
  simp (maxDischargeDepth := 40) [*]

end Sys2Proof.Machine
end

