-- ==== Sys2Proof/Laws/Streams.lean ====
section
/-! SUPPORT. What the operations of Machine/Streams.lean leave alone and keep: the addressed memories that they do not
write are as they were, those that they write stay canonical, and the queues of notices stay within their bound. -/

namespace Sys2Proof.Machine

@[simp] theorem State.queueRecords_stores (s : State) (qp : Nat) (l : List Queued) :
    (State.queueRecords s qp l).mem = s.mem ∧ (State.queueRecords s qp l).staging = s.staging := by
  unfold State.queueRecords
  simp

@[simp] theorem State.queueRecords_bounded (s : State) (qp : Nat) (l : List Queued) (hw : s.paths.bounded = true) :
    (State.queueRecords s qp l).paths.bounded = true := by
  unfold State.queueRecords
  simp (maxDischargeDepth := 40) [*]

@[simp] theorem State.digestRecords_stores (s : State) (slot : Nat) (p : Nat) :
    (State.digestRecords s slot p).2.mem = s.mem ∧ (State.digestRecords s slot p).2.staging = s.staging := by
  unfold State.digestRecords
  simp

@[simp] theorem State.digestRecords_bounded (s : State) (slot : Nat) (p : Nat) (hw : s.paths.bounded = true) :
    (State.digestRecords s slot p).2.paths.bounded = true := by
  unfold State.digestRecords
  simp (maxDischargeDepth := 40) [*]

@[simp] theorem State.endStream_stores (s : State) (slot reason : Nat) :
    (State.endStream s slot reason).mem = s.mem ∧ (State.endStream s slot reason).staging = s.staging := by
  unfold State.endStream
  simp

@[simp] theorem State.endStream_bounded (s : State) (slot reason : Nat) (hw : s.paths.bounded = true) :
    (State.endStream s slot reason).paths.bounded = true := by
  unfold State.endStream
  simp (maxDischargeDepth := 40) [*]

@[simp] theorem State.countRound_stores (s : State) (k a : Nat) (paused : Bool) :
    (State.countRound s k a paused).mem = s.mem ∧ (State.countRound s k a paused).staging = s.staging := by
  unfold State.countRound
  simp

@[simp] theorem State.countRound_bounded (s : State) (k a : Nat) (paused : Bool) (hw : s.paths.bounded = true) :
    (State.countRound s k a paused).paths.bounded = true := by
  unfold State.countRound
  simp (maxDischargeDepth := 40) [*]

@[simp] theorem State.endRound_stores (s : State) (slot : Nat) :
    (State.endRound s slot).mem = s.mem ∧ (State.endRound s slot).staging = s.staging := by
  unfold State.endRound
  simp

@[simp] theorem State.endRound_bounded (s : State) (slot : Nat) (hw : s.paths.bounded = true) :
    (State.endRound s slot).paths.bounded = true := by
  unfold State.endRound
  simp (maxDischargeDepth := 40) [*]

@[simp] theorem State.keepHistory_stores (s : State) (slot : Nat) :
    (State.keepHistory s slot).mem = s.mem ∧ (State.keepHistory s slot).staging = s.staging := by
  unfold State.keepHistory
  simp

@[simp] theorem State.keepHistory_bounded (s : State) (slot : Nat) (hw : s.paths.bounded = true) :
    (State.keepHistory s slot).paths.bounded = true := by
  unfold State.keepHistory
  simp (maxDischargeDepth := 40) [*]

@[simp] theorem State.overrun_stores (s : State) (slot : Nat) :
    (State.overrun s slot).mem = s.mem ∧ (State.overrun s slot).staging = s.staging := by
  unfold State.overrun
  simp

@[simp] theorem State.overrun_bounded (s : State) (slot : Nat) (hw : s.paths.bounded = true) :
    (State.overrun s slot).paths.bounded = true := by
  unfold State.overrun
  simp (maxDischargeDepth := 40) [*]

@[simp] theorem State.passRecord_stores (s : State) (slot tok pos flags reason : Nat) :
    (State.passRecord s slot tok pos flags reason).mem = s.mem ∧ (State.passRecord s slot tok pos flags reason).staging = s.staging := by
  unfold State.passRecord
  simp

@[simp] theorem State.passRecord_bounded (s : State) (slot tok pos flags reason : Nat)
    (hw : s.paths.bounded = true) : (State.passRecord s slot tok pos flags reason).paths.bounded = true := by
  unfold State.passRecord
  simp (maxDischargeDepth := 40) [*]

@[simp] theorem State.takeRecord_stores (s : State) (r : Bytes) :
    (State.takeRecord s r).mem = s.mem ∧ (State.takeRecord s r).staging = s.staging := by
  unfold State.takeRecord
  simp

@[simp] theorem State.takeRecord_bounded (s : State) (r : Bytes) (hw : s.paths.bounded = true) :
    (State.takeRecord s r).paths.bounded = true := by
  unfold State.takeRecord
  simp (maxDischargeDepth := 40) [*]

@[simp] theorem State.sendRecords_stores (s : State) (n : Nat) :
    (State.sendRecords s n).mem = s.mem ∧ (State.sendRecords s n).staging = s.staging := by
  unfold State.sendRecords
  simp

@[simp] theorem State.sendRecords_bounded (s : State) (n : Nat) (hw : s.paths.bounded = true) :
    (State.sendRecords s n).paths.bounded = true := by
  unfold State.sendRecords
  simp (maxDischargeDepth := 40) [*]

end Sys2Proof.Machine
end

