-- ==== Sys2Proof/Laws/Admission.lean ====
section
/-! SUPPORT. What the operations of Machine/Admission.lean leave alone and keep: the addressed memories that they do not
write are as they were, those that they write stay canonical, and the queues of notices stay within their bound. -/

namespace Sys2Proof.Machine

@[simp] theorem State.countRefusal_stores (s : State) (rc off : Nat) :
    (State.countRefusal s rc off).mem = s.mem ∧ (State.countRefusal s rc off).staging = s.staging := by
  unfold State.countRefusal
  simp

@[simp] theorem State.countRefusal_bounded (s : State) (rc off : Nat) (hw : s.paths.bounded = true) :
    (State.countRefusal s rc off).paths.bounded = true := by
  unfold State.countRefusal
  simp (maxDischargeDepth := 40) [*]

@[simp] theorem State.reply_stores (s : State) (qp rc off : Nat) (d : Bytes) (tint slot gen : Nat) (x : Nat × Nat) :
    (State.reply s qp rc off d tint slot gen x).mem = s.mem ∧ (State.reply s qp rc off d tint slot gen x).staging = s.staging := by
  unfold State.reply
  simp

@[simp] theorem State.reply_bounded (s : State) (qp rc off : Nat) (d : Bytes) (tint slot gen : Nat) (x : Nat × Nat)
    (hw : s.paths.bounded = true) : (State.reply s qp rc off d tint slot gen x).paths.bounded = true := by
  unfold State.reply
  simp (maxDischargeDepth := 40) [*]

@[simp] theorem State.refuse_stores (s : State) (qp rc off : Nat) (d : Bytes) (x : Nat) :
    (State.refuse s qp rc off d x).mem = s.mem ∧ (State.refuse s qp rc off d x).staging = s.staging := by
  unfold State.refuse
  simp

@[simp] theorem State.refuse_bounded (s : State) (qp rc off : Nat) (d : Bytes) (x : Nat)
    (hw : s.paths.bounded = true) : (State.refuse s qp rc off d x).paths.bounded = true := by
  unfold State.refuse
  simp (maxDischargeDepth := 40) [*]

@[simp] theorem State.refuseNow_stores (s : State) (qp rc : Nat) (d : Bytes) :
    (State.refuseNow s qp rc d).mem = s.mem ∧ (State.refuseNow s qp rc d).staging = s.staging := by
  unfold State.refuseNow
  simp

@[simp] theorem State.refuseNow_bounded (s : State) (qp rc : Nat) (d : Bytes) (hw : s.paths.bounded = true) :
    (State.refuseNow s qp rc d).paths.bounded = true := by
  unfold State.refuseNow
  simp (maxDischargeDepth := 40) [*]

@[simp] theorem State.queueDescriptor_stores (s : State) (qp : Nat) (d : Bytes) :
    (State.queueDescriptor s qp d).mem = s.mem ∧ (State.queueDescriptor s qp d).staging = s.staging := by
  unfold State.queueDescriptor
  simp

@[simp] theorem State.queueDescriptor_bounded (s : State) (qp : Nat) (d : Bytes) (hw : s.paths.bounded = true) :
    (State.queueDescriptor s qp d).paths.bounded = true := by
  unfold State.queueDescriptor
  simp (maxDischargeDepth := 40) [*]

@[simp] theorem State.takeDescriptor_stores (s : State) (qp : Nat) (d : Bytes) :
    (State.takeDescriptor s qp d).mem = s.mem ∧ (State.takeDescriptor s qp d).staging = s.staging := by
  unfold State.takeDescriptor
  simp

@[simp] theorem State.takeDescriptor_bounded (s : State) (qp : Nat) (d : Bytes) (hw : s.paths.bounded = true) :
    (State.takeDescriptor s qp d).paths.bounded = true := by
  unfold State.takeDescriptor
  simp (maxDischargeDepth := 40) [*]

@[simp] theorem State.takeCancel_stores (s : State) (qp : Nat) (d : Bytes) (x : Nat) :
    (State.takeCancel s qp d x).1.mem = s.mem ∧ (State.takeCancel s qp d x).1.staging = s.staging := by
  unfold State.takeCancel
  (repeat' split) <;> simp

@[simp] theorem State.takeCancel_bounded (s : State) (qp : Nat) (d : Bytes) (x : Nat)
    (hw : s.paths.bounded = true) : (State.takeCancel s qp d x).1.paths.bounded = true := by
  unfold State.takeCancel
  (repeat' split) <;> simp (maxDischargeDepth := 40) [*]

@[simp] theorem State.admitTo_stores (s : State) (held : List Order) (qp : Nat) (d : Bytes) (x gen slot : Nat)
    (w : IngressWindow) :
    (State.admitTo s held qp d x gen slot w).1.mem = s.mem ∧ (State.admitTo s held qp d x gen slot w).1.staging = s.staging := by
  unfold State.admitTo
  simp

@[simp] theorem State.admitTo_bounded (s : State) (held : List Order) (qp : Nat) (d : Bytes) (x gen slot : Nat)
    (w : IngressWindow) (hw : s.paths.bounded = true) :
    (State.admitTo s held qp d x gen slot w).1.paths.bounded = true := by
  unfold State.admitTo
  simp (maxDischargeDepth := 40) [*]

@[simp] theorem State.takeAdmission_stores (s : State) (now : List Order) (qp : Nat) (d : Bytes) (x : Nat) :
    (State.takeAdmission s now qp d x).1.mem = s.mem ∧ (State.takeAdmission s now qp d x).1.staging = s.staging := by
  unfold State.takeAdmission
  dsimp only
  (repeat' split) <;> simp

@[simp] theorem State.takeAdmission_bounded (s : State) (now : List Order) (qp : Nat) (d : Bytes) (x : Nat)
    (hw : s.paths.bounded = true) : (State.takeAdmission s now qp d x).1.paths.bounded = true := by
  unfold State.takeAdmission
  dsimp only
  (repeat' split) <;> simp (maxDischargeDepth := 40) [*]

@[simp] theorem State.judgeDescriptor_stores (s : State) (now : List Order) (qp : Nat) (d : Bytes) (x : Nat) :
    (State.judgeDescriptor s now qp d x).1.mem = s.mem ∧ (State.judgeDescriptor s now qp d x).1.staging = s.staging := by
  unfold State.judgeDescriptor
  dsimp only
  (repeat' split) <;> simp

@[simp] theorem State.judgeDescriptor_bounded (s : State) (now : List Order) (qp : Nat) (d : Bytes) (x : Nat)
    (hw : s.paths.bounded = true) : (State.judgeDescriptor s now qp d x).1.paths.bounded = true := by
  unfold State.judgeDescriptor
  dsimp only
  (repeat' split) <;> simp (maxDischargeDepth := 40) [*]

@[simp] theorem State.orderRelease_stores (s : State) (slot : Nat) :
    (State.orderRelease s slot).1.mem = s.mem ∧ (State.orderRelease s slot).1.staging = s.staging := by
  unfold State.orderRelease
  simp

@[simp] theorem State.orderRelease_bounded (s : State) (slot : Nat) (hw : s.paths.bounded = true) :
    (State.orderRelease s slot).1.paths.bounded = true := by
  unfold State.orderRelease
  simp (maxDischargeDepth := 40) [*]

@[simp] theorem State.orderReleases_stores (slots : List Nat) (s : State) (orders : List Order) :
    (State.orderReleases slots s orders).1.mem = s.mem ∧ (State.orderReleases slots s orders).1.staging = s.staging := by
  induction slots generalizing s orders with
  | nil => exact ⟨rfl, rfl⟩
  | cons i l ih =>
    unfold State.orderReleases
    split
    · exact ⟨rfl, rfl⟩
    · exact ⟨(ih _ _).1.trans (State.orderRelease_stores s i).1, (ih _ _).2.trans (State.orderRelease_stores s i).2⟩

@[simp] theorem State.orderReleases_bounded (slots : List Nat) (s : State) (orders : List Order)
    (hw : s.paths.bounded = true) : (State.orderReleases slots s orders).1.paths.bounded = true := by
  induction slots generalizing s orders with
  | nil => exact hw
  | cons i l ih =>
    unfold State.orderReleases
    split
    · exact hw
    · simp [ih, hw]

@[simp] theorem State.orderVariant_stores (s : State) (x : Nat) (orders : List Order) :
    (State.orderVariant s x orders).1.mem = s.mem ∧ (State.orderVariant s x orders).1.staging = s.staging := by
  unfold State.orderVariant
  (repeat' split) <;> simp

@[simp] theorem State.orderVariant_bounded (s : State) (x : Nat) (orders : List Order)
    (hw : s.paths.bounded = true) : (State.orderVariant s x orders).1.paths.bounded = true := by
  unfold State.orderVariant
  (repeat' split) <;> simp (maxDischargeDepth := 40) [*]

@[simp] theorem State.orderTakeover_stores (s : State) (x : Nat) :
    (State.orderTakeover s x).1.mem = s.mem ∧ (State.orderTakeover s x).1.staging = s.staging := by
  unfold State.orderTakeover
  simp

@[simp] theorem State.orderTakeover_bounded (s : State) (x : Nat) (hw : s.paths.bounded = true) :
    (State.orderTakeover s x).1.paths.bounded = true := by
  unfold State.orderTakeover
  simp (maxDischargeDepth := 40) [*]

@[simp] theorem State.takeQueue_stores (fuel : Nat) (s : State) (x : Nat) (orders : List Order) :
    (State.takeQueue fuel s x orders).1.mem = s.mem ∧ (State.takeQueue fuel s x orders).1.staging = s.staging := by
  induction fuel generalizing s orders with
  | zero => exact ⟨rfl, rfl⟩
  | succ n ih =>
    unfold State.takeQueue
    split
    · split
      · exact ⟨rfl, rfl⟩
      · simp_all
    · exact ⟨rfl, rfl⟩

@[simp] theorem State.takeQueue_bounded (fuel : Nat) (s : State) (x : Nat) (orders : List Order)
    (hw : s.paths.bounded = true) : (State.takeQueue fuel s x orders).1.paths.bounded = true := by
  induction fuel generalizing s orders with
  | zero => exact hw
  | succ n ih =>
    unfold State.takeQueue
    split
    · split
      · exact hw
      · simp_all
    · exact hw

@[simp] theorem State.sendBatch_stores (s : State) (b : Batch) :
    (State.sendBatch s b).mem = s.mem ∧ (State.sendBatch s b).staging = s.staging := by
  unfold State.sendBatch
  simp

@[simp] theorem State.sendBatch_bounded (s : State) (b : Batch) (hw : s.paths.bounded = true) :
    (State.sendBatch s b).paths.bounded = true := by
  unfold State.sendBatch
  refine foldlWf_paths _ (fun s a h => ?_) _ _ ?_ <;> (repeat' split) <;> simp (maxDischargeDepth := 40) [*]

@[simp] theorem State.buildFor_stores (s : State) (x : Nat) :
    (s.buildFor x).mem = s.mem ∧ (s.buildFor x).staging = s.staging := by
  simp [State.buildFor]

@[simp] theorem State.buildFor_bounded (s : State) (x : Nat) (hw : s.paths.bounded = true) :
    (State.buildFor s x).paths.bounded = true := by
  unfold State.buildFor
  simp (maxDischargeDepth := 40) [*]

@[simp] theorem State.buildBatch_stores (s : State) :
    (State.buildBatch s).mem = s.mem ∧ (State.buildBatch s).staging = s.staging := by
  unfold State.buildBatch
  simp

@[simp] theorem State.buildBatch_bounded (s : State) (hw : s.paths.bounded = true) :
    (State.buildBatch s).paths.bounded = true := by
  unfold State.buildBatch
  simp (maxDischargeDepth := 40) [*]

end Sys2Proof.Machine
end

