-- ==== Sys2Proof/Laws/Orders.lean ====
section
/-! SUPPORT. What the operations of Machine/Orders.lean leave alone and keep: the addressed memories that they do not
write are as they were, those that they write stay canonical, and the queues of notices stay within their bound. -/

namespace Sys2Proof.Machine

@[simp] theorem State.judgeBatch_stores (s : State) (m : Bytes) :
    (State.judgeBatch s m).mem = s.mem ∧ (State.judgeBatch s m).staging = s.staging := by
  unfold State.judgeBatch
  simp

@[simp] theorem State.judgeBatch_bounded (s : State) (m : Bytes) (hw : s.paths.bounded = true) :
    (State.judgeBatch s m).paths.bounded = true := by
  unfold State.judgeBatch
  simp (maxDischargeDepth := 40) [*]

@[simp] theorem State.takeBatch_stores (s : State) (qp : Nat) (m : Bytes) :
    (State.takeBatch s qp m).mem = s.mem ∧ (State.takeBatch s qp m).staging = s.staging := by
  unfold State.takeBatch
  simp

@[simp] theorem State.takeBatch_bounded (s : State) (qp : Nat) (m : Bytes) (hw : s.paths.bounded = true) :
    (State.takeBatch s qp m).paths.bounded = true := by
  unfold State.takeBatch
  simp (maxDischargeDepth := 40) [*]

@[simp] theorem State.noticeNotReady_stores (s : State) (o : Order) :
    (State.noticeNotReady s o).mem = s.mem ∧ (State.noticeNotReady s o).staging = s.staging := by
  unfold State.noticeNotReady
  simp

@[simp] theorem State.noticeNotReady_bounded (s : State) (o : Order) (hw : s.paths.bounded = true) :
    (State.noticeNotReady s o).paths.bounded = true := by
  unfold State.noticeNotReady
  simp (maxDischargeDepth := 40) [*]

@[simp] theorem State.freeSlot_stores (s : State) (slot reason : Nat) :
    (State.freeSlot s slot reason).mem = s.mem ∧ (State.freeSlot s slot reason).staging = s.staging := by
  unfold State.freeSlot
  simp

@[simp] theorem State.freeSlot_bounded (s : State) (slot reason : Nat) (hw : s.paths.bounded = true) :
    (State.freeSlot s slot reason).paths.bounded = true := by
  unfold State.freeSlot
  simp (maxDischargeDepth := 40) [*]

@[simp] theorem State.applyRelease_stores (x : Nat) (s : State) (o : Order) :
    (State.applyRelease x s o).mem = s.mem ∧ (State.applyRelease x s o).staging = s.staging := by
  unfold State.applyRelease
  simp

@[simp] theorem State.applyRelease_bounded (x : Nat) (s : State) (o : Order) (hw : s.paths.bounded = true) :
    (State.applyRelease x s o).paths.bounded = true := by
  unfold State.applyRelease
  simp (maxDischargeDepth := 40) [*]

@[simp] theorem State.applyAdmit_stores (effect : Nat) (s : State) (o : Order) :
    (State.applyAdmit effect s o).mem = s.mem ∧ (State.applyAdmit effect s o).staging = s.staging := by
  unfold State.applyAdmit
  simp

@[simp] theorem State.applyAdmit_bounded (effect : Nat) (s : State) (o : Order) (hw : s.paths.bounded = true) :
    (State.applyAdmit effect s o).paths.bounded = true := by
  unfold State.applyAdmit
  simp (maxDischargeDepth := 40) [*]

@[simp] theorem State.applyOther_stores (s : State) (o : Order) :
    (State.applyOther s o).mem = s.mem ∧ (State.applyOther s o).staging = s.staging := by
  unfold State.applyOther
  simp

@[simp] theorem State.applyOther_bounded (s : State) (o : Order) (hw : s.paths.bounded = true) :
    (State.applyOther s o).paths.bounded = true := by
  unfold State.applyOther
  simp (maxDischargeDepth := 40) [*]

@[simp] theorem State.noticeLate_stores (s : State) (b : Batch) :
    (State.noticeLate s b).mem = s.mem ∧ (State.noticeLate s b).staging = s.staging := by
  unfold State.noticeLate
  simp

@[simp] theorem State.noticeLate_bounded (s : State) (b : Batch) (hw : s.paths.bounded = true) :
    (State.noticeLate s b).paths.bounded = true := by
  unfold State.noticeLate
  simp (maxDischargeDepth := 40) [*]

@[simp] theorem State.applyBatch_stores (s : State) (b : Batch) :
    (State.applyBatch s b).mem = s.mem ∧ (State.applyBatch s b).staging = s.staging := by
  unfold State.applyBatch
  simp

@[simp] theorem State.applyBatch_bounded (s : State) (b : Batch) (hw : s.paths.bounded = true) :
    (State.applyBatch s b).paths.bounded = true := by
  unfold State.applyBatch
  simp (maxDischargeDepth := 40) +contextual [*]

@[simp] theorem State.applyOrders_stores (s : State) :
    (State.applyOrders s).mem = s.mem ∧ (State.applyOrders s).staging = s.staging := by
  unfold State.applyOrders
  (repeat' split) <;> simp

@[simp] theorem State.applyOrders_bounded (s : State) (hw : s.paths.bounded = true) :
    (State.applyOrders s).paths.bounded = true := by
  unfold State.applyOrders
  (repeat' split) <;> simp (maxDischargeDepth := 40) [*]

@[simp] theorem State.takeAbortReport_stores (s : State) (qp : Nat) (m : Bytes) :
    (State.takeAbortReport s qp m).mem = s.mem ∧ (State.takeAbortReport s qp m).staging = s.staging := by
  unfold State.takeAbortReport
  simp

@[simp] theorem State.takeAbortReport_bounded (s : State) (qp : Nat) (m : Bytes) (hw : s.paths.bounded = true) :
    (State.takeAbortReport s qp m).paths.bounded = true := by
  unfold State.takeAbortReport
  simp (maxDischargeDepth := 40) [*]

@[simp] theorem State.wantTakeover_stores (s : State) :
    (State.wantTakeover s).mem = s.mem ∧ (State.wantTakeover s).staging = s.staging := by
  unfold State.wantTakeover
  simp

@[simp] theorem State.wantTakeover_bounded (s : State) (hw : s.paths.bounded = true) :
    (State.wantTakeover s).paths.bounded = true := by
  unfold State.wantTakeover
  simp (maxDischargeDepth := 40) [*]

@[simp] theorem State.takeBondReport_stores (s : State) (qp : Nat) (m : Bytes) :
    (State.takeBondReport s qp m).mem = s.mem ∧ (State.takeBondReport s qp m).staging = s.staging := by
  unfold State.takeBondReport
  simp

@[simp] theorem State.takeBondReport_bounded (s : State) (qp : Nat) (m : Bytes) (hw : s.paths.bounded = true) :
    (State.takeBondReport s qp m).paths.bounded = true := by
  unfold State.takeBondReport
  simp (maxDischargeDepth := 40) [*]

@[simp] theorem State.choose_stores (s : State) (v : Nat) (f : Nat × Nat) :
    (State.choose s v f).mem = s.mem ∧ (State.choose s v f).staging = s.staging := by
  unfold State.choose
  simp

@[simp] theorem State.choose_bounded (s : State) (v : Nat) (f : Nat × Nat) (hw : s.paths.bounded = true) :
    (State.choose s v f).paths.bounded = true := by
  unfold State.choose
  simp (maxDischargeDepth := 40) [*]

@[simp] theorem State.evaluate_stores (s : State) (unprocessed : Nat) :
    (State.evaluate s unprocessed).mem = s.mem ∧ (State.evaluate s unprocessed).staging = s.staging := by
  unfold State.evaluate
  (repeat' split) <;> simp

@[simp] theorem State.evaluate_bounded (s : State) (unprocessed : Nat) (hw : s.paths.bounded = true) :
    (State.evaluate s unprocessed).paths.bounded = true := by
  unfold State.evaluate
  (repeat' split) <;> simp (maxDischargeDepth := 40) [*]

@[simp] theorem State.haltSlot_stores (s : State) (slot : Nat) :
    (State.haltSlot s slot).mem = s.mem ∧ (State.haltSlot s slot).staging = s.staging := by
  unfold State.haltSlot
  simp

@[simp] theorem State.haltSlot_bounded (s : State) (slot : Nat) (hw : s.paths.bounded = true) :
    (State.haltSlot s slot).paths.bounded = true := by
  unfold State.haltSlot
  simp (maxDischargeDepth := 40) [*]

@[simp] theorem State.haltAndFree_stores (s : State) (slot : Nat) :
    (State.haltAndFree s slot).mem = s.mem ∧ (State.haltAndFree s slot).staging = s.staging := by
  unfold State.haltAndFree
  simp

@[simp] theorem State.haltAndFree_bounded (s : State) (slot : Nat) (hw : s.paths.bounded = true) :
    (State.haltAndFree s slot).paths.bounded = true := by
  unfold State.haltAndFree
  simp (maxDischargeDepth := 40) [*]

@[simp] theorem State.withdrawBatch_stores (s : State) (b : Batch) :
    (State.withdrawBatch s b).mem = s.mem ∧ (State.withdrawBatch s b).staging = s.staging := by
  unfold State.withdrawBatch
  simp

@[simp] theorem State.withdrawBatch_bounded (s : State) (b : Batch) (hw : s.paths.bounded = true) :
    (State.withdrawBatch s b).paths.bounded = true := by
  unfold State.withdrawBatch
  refine foldlWf_paths _ (fun s a h => ?_) _ _ ?_ <;> (repeat' split) <;> simp (maxDischargeDepth := 40) [*]

@[simp] theorem State.answerQueue_stores (s : State) :
    (State.answerQueue s).mem = s.mem ∧ (State.answerQueue s).staging = s.staging := by
  unfold State.answerQueue
  simp

@[simp] theorem State.answerQueue_bounded (s : State) (hw : s.paths.bounded = true) :
    (State.answerQueue s).paths.bounded = true := by
  unfold State.answerQueue
  refine foldlWf_paths _ (fun s a h => ?_) _ _ ?_ <;> (repeat' split) <;> simp (maxDischargeDepth := 40) [*]

@[simp] theorem State.haltNow_stores (s : State) :
    (State.haltNow s).mem = s.mem ∧ (State.haltNow s).staging = s.staging := by
  unfold State.haltNow
  simp

@[simp] theorem State.haltNow_bounded (s : State) (hw : s.paths.bounded = true) :
    (State.haltNow s).paths.bounded = true := by
  unfold State.haltNow
  simp (maxDischargeDepth := 40) +contextual [*]

end Sys2Proof.Machine
end

