-- ==== Sys2Proof/Laws/Power.lean ====
section
/-! SUPPORT. What the operations of Machine/Power.lean leave alone and keep: the addressed memories that they do not
write are as they were, those that they write stay canonical, and the queues of notices stay within their bound. -/

namespace Sys2Proof.Machine

@[simp] theorem State.driveAlert_stores (s : State) :
    (State.driveAlert s).mem = s.mem ∧ (State.driveAlert s).staging = s.staging := by
  unfold State.driveAlert
  simp

@[simp] theorem State.driveAlert_bounded (s : State) (hw : s.paths.bounded = true) :
    (State.driveAlert s).paths.bounded = true := by
  unfold State.driveAlert
  simp (maxDischargeDepth := 40) [*]

@[simp] theorem State.takeEnergy_stores (s : State) (nj : Nat) :
    (s.takeEnergy nj).mem = s.mem ∧ (s.takeEnergy nj).staging = s.staging := by
  unfold State.takeEnergy
  generalize keepFirst 4096 (nj :: s.power.energy) = w
  extract_lets
  split
  · exact ⟨(State.mapProg_stores _ _).1.trans (State.setReg_stores _ _ _).1,
      (State.mapProg_stores _ _).2.trans (State.setReg_stores _ _ _).2⟩
  · exact State.setReg_stores _ _ _

@[simp] theorem State.takeEnergy_bounded (s : State) (nj : Nat) (hw : s.paths.bounded = true) :
    (s.takeEnergy nj).paths.bounded = true := by
  unfold State.takeEnergy
  generalize keepFirst 4096 (nj :: s.power.energy) = w
  extract_lets
  split
  · exact State.mapProg_bounded _ _ (State.setReg_bounded _ _ _ hw)
  · exact State.setReg_bounded _ _ _ hw

@[simp] theorem State.forceTransition_stores (s : State) (target cause : Nat) :
    (State.forceTransition s target cause).mem = s.mem ∧ (State.forceTransition s target cause).staging = s.staging := by
  unfold State.forceTransition
  simp

@[simp] theorem State.forceTransition_bounded (s : State) (target cause : Nat) (hw : s.paths.bounded = true) :
    (State.forceTransition s target cause).paths.bounded = true := by
  unfold State.forceTransition
  simp (maxDischargeDepth := 40) [*]

@[simp] theorem State.trip_stores (s : State) (r : Sensors) :
    (State.trip s r).mem = s.mem ∧ (State.trip s r).staging = s.staging := by
  unfold State.trip
  simp

@[simp] theorem State.trip_bounded (s : State) (r : Sensors) (hw : s.paths.bounded = true) :
    (State.trip s r).paths.bounded = true := by
  unfold State.trip
  simp (maxDischargeDepth := 40) [*]

@[simp] theorem State.takeTemperature_stores (s : State) (r : Sensors) :
    (State.takeTemperature s r).mem = s.mem ∧ (State.takeTemperature s r).staging = s.staging := by
  unfold State.takeTemperature
  simp

@[simp] theorem State.takeTemperature_bounded (s : State) (r : Sensors) (hw : s.paths.bounded = true) :
    (State.takeTemperature s r).paths.bounded = true := by
  unfold State.takeTemperature
  simp (maxDischargeDepth := 40) [*]

@[simp] theorem State.thermalRests_stores (s : State) :
    (State.thermalRests s).mem = s.mem ∧ (State.thermalRests s).staging = s.staging := by
  unfold State.thermalRests
  simp

@[simp] theorem State.thermalRests_bounded (s : State) (hw : s.paths.bounded = true) :
    (State.thermalRests s).paths.bounded = true := by
  unfold State.thermalRests
  simp (maxDischargeDepth := 40) [*]

@[simp] theorem State.showSensors_stores (s : State) (r : Sensors) :
    (State.showSensors s r).mem = s.mem ∧ (State.showSensors s r).staging = s.staging := by
  unfold State.showSensors
  simp

@[simp] theorem State.showSensors_bounded (s : State) (r : Sensors) (hw : s.paths.bounded = true) :
    (State.showSensors s r).paths.bounded = true := by
  unfold State.showSensors
  simp (maxDischargeDepth := 40) [*]

@[simp] theorem State.noteFlow_stores (s : State) (low : Bool) :
    (State.noteFlow s low).mem = s.mem ∧ (State.noteFlow s low).staging = s.staging := by
  unfold State.noteFlow
  simp

@[simp] theorem State.noteFlow_bounded (s : State) (low : Bool) (hw : s.paths.bounded = true) :
    (State.noteFlow s low).paths.bounded = true := by
  unfold State.noteFlow
  simp (maxDischargeDepth := 40) [*]

@[simp] theorem State.sample_stores (s : State) (fits : Bool) (r : Sensors) :
    (State.sample s fits r).mem = s.mem ∧ (State.sample s fits r).staging = s.staging := by
  unfold State.sample
  simp

@[simp] theorem State.sample_bounded (s : State) (fits : Bool) (r : Sensors) (hw : s.paths.bounded = true) :
    (State.sample s fits r).paths.bounded = true := by
  unfold State.sample
  simp (maxDischargeDepth := 40) [*]

@[simp] theorem State.noticeFlow_stores (s : State) :
    (State.noticeFlow s).mem = s.mem ∧ (State.noticeFlow s).staging = s.staging := by
  unfold State.noticeFlow
  simp

@[simp] theorem State.noticeFlow_bounded (s : State) (hw : s.paths.bounded = true) :
    (State.noticeFlow s).paths.bounded = true := by
  unfold State.noticeFlow
  simp (maxDischargeDepth := 40) [*]

@[simp] theorem State.ingressDown_stores (s : State) :
    (State.ingressDown s).mem = s.mem ∧ (State.ingressDown s).staging = s.staging := by
  unfold State.ingressDown
  simp

@[simp] theorem State.ingressDown_bounded (s : State) (hw : s.paths.bounded = true) :
    (State.ingressDown s).paths.bounded = true := by
  unfold State.ingressDown
  simp (maxDischargeDepth := 40) [*]

@[simp] theorem State.dropRetries_stores (s : State) :
    (State.dropRetries s).mem = s.mem ∧ (State.dropRetries s).staging = s.staging := by
  unfold State.dropRetries
  simp

@[simp] theorem State.dropRetries_bounded (s : State) (hw : s.paths.bounded = true) :
    (State.dropRetries s).paths.bounded = true := by
  unfold State.dropRetries
  simp (maxDischargeDepth := 40) [*]

@[simp] theorem State.haltTrowels_stores (s : State) (run : Bool) :
    (State.haltTrowels s run).mem = s.mem ∧ (State.haltTrowels s run).staging = s.staging := by
  unfold State.haltTrowels
  simp

@[simp] theorem State.haltTrowels_bounded (s : State) (run : Bool) (hw : s.paths.bounded = true) :
    (State.haltTrowels s run).paths.bounded = true := by
  unfold State.haltTrowels
  refine foldlWf_paths _ (fun s a h => ?_) _ _ ?_ <;> (repeat' split) <;> simp (maxDischargeDepth := 40) [*]

@[simp] theorem State.enterDoze_stores (s : State) :
    (State.enterDoze s).mem = s.mem ∧ (State.enterDoze s).staging = s.staging := by
  unfold State.enterDoze
  simp

@[simp] theorem State.enterDoze_bounded (s : State) (hw : s.paths.bounded = true) : s.enterDoze.paths.bounded = true := by
  unfold State.enterDoze
  exact State.ingressDown_bounded _ (State.endSession_bounded _ (foldlWf_paths _ (fun s c h => State.abandon_bounded s c 1 0 h)
    _ _ (by simp (maxDischargeDepth := 40) [hw])))

@[simp] theorem State.noticePower_stores (s : State) (old new cause : Nat) :
    (State.noticePower s old new cause).mem = s.mem ∧ (State.noticePower s old new cause).staging = s.staging := by
  unfold State.noticePower
  simp

@[simp] theorem State.noticePower_bounded (s : State) (old new cause : Nat) (hw : s.paths.bounded = true) :
    (State.noticePower s old new cause).paths.bounded = true := by
  unfold State.noticePower
  simp (maxDischargeDepth := 40) [*]

@[simp] theorem State.enterAwake_stores (s : State) (m : PowerMode) (cause : Nat) :
    (State.enterAwake s m cause).mem = s.mem ∧ (State.enterAwake s m cause).staging = s.staging := by
  unfold State.enterAwake
  simp

@[simp] theorem State.enterAwake_bounded (s : State) (m : PowerMode) (cause : Nat) (hw : s.paths.bounded = true) :
    (State.enterAwake s m cause).paths.bounded = true := by
  unfold State.enterAwake
  simp (maxDischargeDepth := 40) [*]

@[simp] theorem State.enterSleep_wf (s : State) (cause : Nat) (hw : s.mem.wf = true) :
    (State.enterSleep s cause).mem.wf = true := by
  unfold State.enterSleep
  simp (maxDischargeDepth := 40) [*]

@[simp] theorem State.enterSleep_stagingWf (s : State) (cause : Nat) (hw : s.staging.wf = true) :
    (State.enterSleep s cause).staging.wf = true := by
  unfold State.enterSleep
  simp (maxDischargeDepth := 40) [*]

@[simp] theorem State.enterSleep_bounded (s : State) (cause : Nat) (hw : s.paths.bounded = true) :
    (State.enterSleep s cause).paths.bounded = true := by
  unfold State.enterSleep
  simp (maxDischargeDepth := 40) [*]

@[simp] theorem State.requestPower_stores (s : State) (v : Nat) :
    (State.requestPower s v).2.mem = s.mem ∧ (State.requestPower s v).2.staging = s.staging := by
  unfold State.requestPower
  simp

@[simp] theorem State.requestPower_bounded (s : State) (v : Nat) (hw : s.paths.bounded = true) :
    (State.requestPower s v).2.paths.bounded = true := by
  unfold State.requestPower
  simp (maxDischargeDepth := 40) [*]

@[simp] theorem State.announceSleep_stores (s : State) :
    (State.announceSleep s).mem = s.mem ∧ (State.announceSleep s).staging = s.staging := by
  unfold State.announceSleep
  simp

@[simp] theorem State.announceSleep_bounded (s : State) (hw : s.paths.bounded = true) :
    (State.announceSleep s).paths.bounded = true := by
  unfold State.announceSleep
  simp (maxDischargeDepth := 40) [*]

@[simp] theorem State.startTransition_stores (s : State) :
    (State.startTransition s).mem = s.mem ∧ (State.startTransition s).staging = s.staging := by
  unfold State.startTransition
  simp

@[simp] theorem State.startTransition_bounded (s : State) (hw : s.paths.bounded = true) :
    (State.startTransition s).paths.bounded = true := by
  unfold State.startTransition
  simp (maxDischargeDepth := 40) [*]

@[simp] theorem State.endTransition_stores (s : State) :
    (State.endTransition s).mem = s.mem ∧ (State.endTransition s).staging = s.staging := by
  unfold State.endTransition
  (repeat' split) <;> simp

@[simp] theorem State.endTransition_bounded (s : State) (hw : s.paths.bounded = true) :
    (State.endTransition s).paths.bounded = true := by
  unfold State.endTransition
  (repeat' split) <;> simp (maxDischargeDepth := 40) [*]

@[simp] theorem State.sleepNow_wf (s : State) (hw : s.mem.wf = true) : (State.sleepNow s).mem.wf = true := by
  unfold State.sleepNow
  simp (maxDischargeDepth := 40) [*]

@[simp] theorem State.sleepNow_stagingWf (s : State) (hw : s.staging.wf = true) :
    (State.sleepNow s).staging.wf = true := by
  unfold State.sleepNow
  simp (maxDischargeDepth := 40) [*]

@[simp] theorem State.sleepNow_bounded (s : State) (hw : s.paths.bounded = true) :
    (State.sleepNow s).paths.bounded = true := by
  unfold State.sleepNow
  simp (maxDischargeDepth := 40) [*]

@[simp] theorem State.forceSleep_wf (s : State) (cause : Nat) (hw : s.mem.wf = true) :
    (State.forceSleep s cause).mem.wf = true := by
  unfold State.forceSleep
  simp (maxDischargeDepth := 40) [*]

@[simp] theorem State.forceSleep_stagingWf (s : State) (cause : Nat) (hw : s.staging.wf = true) :
    (State.forceSleep s cause).staging.wf = true := by
  unfold State.forceSleep
  simp (maxDischargeDepth := 40) [*]

@[simp] theorem State.forceSleep_bounded (s : State) (cause : Nat) (hw : s.paths.bounded = true) :
    (State.forceSleep s cause).paths.bounded = true := by
  unfold State.forceSleep
  simp (maxDischargeDepth := 40) [*]

@[simp] theorem State.supplyLost_wf (s : State) (lowest : Nat) (hw : s.mem.wf = true) :
    (State.supplyLost s lowest).mem.wf = true := by
  unfold State.supplyLost
  (repeat' split) <;> simp (maxDischargeDepth := 40) [*]

@[simp] theorem State.supplyLost_stagingWf (s : State) (lowest : Nat) (hw : s.staging.wf = true) :
    (State.supplyLost s lowest).staging.wf = true := by
  unfold State.supplyLost
  (repeat' split) <;> simp (maxDischargeDepth := 40) [*]

@[simp] theorem State.supplyLost_bounded (s : State) (lowest : Nat) (hw : s.paths.bounded = true) :
    (State.supplyLost s lowest).paths.bounded = true := by
  unfold State.supplyLost
  (repeat' split) <;> simp (maxDischargeDepth := 40) [*]

@[simp] theorem State.startWake_stores (s : State) (src : Nat) :
    (State.startWake s src).mem = s.mem ∧ (State.startWake s src).staging = s.staging := by
  unfold State.startWake
  simp

@[simp] theorem State.startWake_bounded (s : State) (src : Nat) (hw : s.paths.bounded = true) :
    (State.startWake s src).paths.bounded = true := by
  unfold State.startWake
  simp (maxDischargeDepth := 40) [*]

@[simp] theorem State.wakeAtCourse_stores (s : State) :
    (State.wakeAtCourse s).mem = s.mem ∧ (State.wakeAtCourse s).staging = s.staging := by
  unfold State.wakeAtCourse
  simp

@[simp] theorem State.wakeAtCourse_bounded (s : State) (hw : s.paths.bounded = true) :
    (State.wakeAtCourse s).paths.bounded = true := by
  unfold State.wakeAtCourse
  simp (maxDischargeDepth := 40) [*]

@[simp] theorem State.wakeFrame_stores (s : State) (dest : Nat) (f : Bytes) :
    (State.wakeFrame s dest f).mem = s.mem ∧ (State.wakeFrame s dest f).staging = s.staging := by
  unfold State.wakeFrame
  simp

@[simp] theorem State.wakeFrame_bounded (s : State) (dest : Nat) (f : Bytes) (hw : s.paths.bounded = true) :
    (State.wakeFrame s dest f).paths.bounded = true := by
  unfold State.wakeFrame
  simp (maxDischargeDepth := 40) [*]

@[simp] theorem State.supplyReturns_stores (s : State) :
    (State.supplyReturns s).mem = s.mem ∧ (State.supplyReturns s).staging = s.staging := by
  unfold State.supplyReturns
  simp

@[simp] theorem State.supplyReturns_bounded (s : State) (hw : s.paths.bounded = true) :
    (State.supplyReturns s).paths.bounded = true := by
  unfold State.supplyReturns
  simp (maxDischargeDepth := 40) [*]

@[simp] theorem State.sleepTemp_stores (s : State) :
    (State.sleepTemp s).mem = s.mem ∧ (State.sleepTemp s).staging = s.staging := by
  unfold State.sleepTemp
  simp

@[simp] theorem State.sleepTemp_bounded (s : State) (hw : s.paths.bounded = true) :
    (State.sleepTemp s).paths.bounded = true := by
  unfold State.sleepTemp
  simp (maxDischargeDepth := 40) [*]

end Sys2Proof.Machine
end

