-- ==== Sys2Proof/Laws/Repair.lean ====
section
/-! SUPPORT. What the operations of Machine/Repair.lean leave alone and keep: the addressed memories that they do not
write are as they were, those that they write stay canonical, and the queues of notices stay within their bound. -/

namespace Sys2Proof.Machine

@[simp] theorem State.stopWaiting_stores (s : State) (w : TileWait) :
    (State.stopWaiting s w).mem = s.mem ∧ (State.stopWaiting s w).staging = s.staging := by
  unfold State.stopWaiting
  (repeat' split) <;> simp

@[simp] theorem State.stopWaiting_bounded (s : State) (w : TileWait) (hw : s.paths.bounded = true) :
    (State.stopWaiting s w).paths.bounded = true := by
  unfold State.stopWaiting
  (repeat' split) <;> simp (maxDischargeDepth := 40) [*]

@[simp] theorem State.failWaiting_stores (s : State) (w : TileWait) :
    (State.failWaiting s w).mem = s.mem ∧ (State.failWaiting s w).staging = s.staging := by
  unfold State.failWaiting
  (repeat' split) <;> simp

@[simp] theorem State.failWaiting_bounded (s : State) (w : TileWait) (hw : s.paths.bounded = true) :
    (State.failWaiting s w).paths.bounded = true := by
  unfold State.failWaiting
  (repeat' split) <;> simp (maxDischargeDepth := 40) [*]

@[simp] theorem State.replay_stores (s : State) (core eng : Nat) :
    (State.replay s core eng).mem = s.mem ∧ (State.replay s core eng).staging = s.staging := by
  unfold State.replay
  simp

@[simp] theorem State.replay_bounded (s : State) (core eng : Nat) (hw : s.paths.bounded = true) :
    (State.replay s core eng).paths.bounded = true := by
  unfold State.replay
  simp (maxDischargeDepth := 40) [*]

@[simp] theorem State.takeTile_staging (s : State) (w : TileWait) (t : Bytes) :
    (State.takeTile s w t).staging = s.staging := by
  unfold State.takeTile
  dsimp only
  (repeat' split) <;> simp

@[simp] theorem State.takeTile_wf (s : State) (w : TileWait) (t : Bytes) (hw : s.mem.wf = true) :
    (State.takeTile s w t).mem.wf = true := by
  unfold State.takeTile
  dsimp only
  (repeat' split) <;> simp (maxDischargeDepth := 40) [*]

@[simp] theorem State.takeTile_bounded (s : State) (w : TileWait) (t : Bytes) (hw : s.paths.bounded = true) :
    (State.takeTile s w t).paths.bounded = true := by
  unfold State.takeTile
  dsimp only
  (repeat' split) <;> simp (maxDischargeDepth := 40) [*]

@[simp] theorem State.fillBond_stores (s : State) (n : Nat) :
    (State.fillBond s n).mem = s.mem ∧ (State.fillBond s n).staging = s.staging := by
  unfold State.fillBond
  simp

@[simp] theorem State.fillBond_bounded (s : State) (n : Nat) (hw : s.paths.bounded = true) :
    (State.fillBond s n).paths.bounded = true := by
  unfold State.fillBond
  simp (maxDischargeDepth := 40) [*]

@[simp] theorem State.askNow_stores (s : State) (x : Repair) :
    (State.askNow s x).1.mem = s.mem ∧ (State.askNow s x).1.staging = s.staging := by
  unfold State.askNow
  (repeat' split) <;> simp

@[simp] theorem State.askNow_bounded (s : State) (x : Repair) (hw : s.paths.bounded = true) :
    (State.askNow s x).1.paths.bounded = true := by
  unfold State.askNow
  (repeat' split) <;> simp (maxDischargeDepth := 40) [*]

@[simp] theorem State.putRepair_stores (s : State) (x : Repair) :
    (State.putRepair s x).mem = s.mem ∧ (State.putRepair s x).staging = s.staging := by
  unfold State.putRepair
  simp

@[simp] theorem State.putRepair_bounded (s : State) (x : Repair) (hw : s.paths.bounded = true) :
    (State.putRepair s x).paths.bounded = true := by
  unfold State.putRepair
  simp (maxDischargeDepth := 40) [*]

@[simp] theorem State.ask_stores (s : State) (x : Repair) :
    (State.ask s x).mem = s.mem ∧ (State.ask s x).staging = s.staging := by
  unfold State.ask
  simp

@[simp] theorem State.ask_bounded (s : State) (x : Repair) (hw : s.paths.bounded = true) :
    (State.ask s x).paths.bounded = true := by
  unfold State.ask
  simp (maxDischargeDepth := 40) [*]

@[simp] theorem State.askWaiting_stores (s : State) :
    (State.askWaiting s).mem = s.mem ∧ (State.askWaiting s).staging = s.staging := by
  unfold State.askWaiting
  simp

@[simp] theorem State.askWaiting_bounded (s : State) (hw : s.paths.bounded = true) :
    (State.askWaiting s).paths.bounded = true := by
  unfold State.askWaiting
  refine foldlWf_paths _ (fun s a h => ?_) _ _ ?_ <;> (repeat' split) <;> simp (maxDischargeDepth := 40) [*]

@[simp] theorem State.failsTwice_stores (s : State) (w : TileWait) :
    (State.failsTwice s w).mem = s.mem ∧ (State.failsTwice s w).staging = s.staging := by
  unfold State.failsTwice
  simp

@[simp] theorem State.failsTwice_bounded (s : State) (w : TileWait) (hw : s.paths.bounded = true) :
    (State.failsTwice s w).paths.bounded = true := by
  unfold State.failsTwice
  simp (maxDischargeDepth := 40) [*]

@[simp] theorem State.reread_staging (s : State) (c : Consumer) (err : Errors) :
    (State.reread s c err).staging = s.staging := by
  unfold State.reread
  (repeat' split) <;> simp

@[simp] theorem State.reread_wf (s : State) (c : Consumer) (err : Errors) (hw : s.mem.wf = true) :
    (State.reread s c err).mem.wf = true := by
  unfold State.reread
  (repeat' split) <;> simp (maxDischargeDepth := 40) [*]

@[simp] theorem State.reread_bounded (s : State) (c : Consumer) (err : Errors) (hw : s.paths.bounded = true) :
    (State.reread s c err).paths.bounded = true := by
  unfold State.reread
  (repeat' split) <;> simp (maxDischargeDepth := 40) [*]

@[simp] theorem State.answerRepair_stores (s : State) (fabric : Bool) (port : Nat) (g : Bytes) (t : Option Bytes) :
    (State.answerRepair s fabric port g t).mem = s.mem ∧ (State.answerRepair s fabric port g t).staging = s.staging := by
  unfold State.answerRepair
  (repeat' split) <;> simp

@[simp] theorem State.answerRepair_bounded (s : State) (fabric : Bool) (port : Nat) (g : Bytes) (t : Option Bytes)
    (hw : s.paths.bounded = true) : (State.answerRepair s fabric port g t).paths.bounded = true := by
  unfold State.answerRepair
  (repeat' split) <;> simp (maxDischargeDepth := 40) [*]

@[simp] theorem State.serveRepair_stores (s : State) (port : Nat) (g : Bytes) :
    (State.serveRepair s port g).mem = s.mem ∧ (State.serveRepair s port g).staging = s.staging := by
  unfold State.serveRepair
  simp

@[simp] theorem State.serveRepair_bounded (s : State) (port : Nat) (g : Bytes) (hw : s.paths.bounded = true) :
    (State.serveRepair s port g).paths.bounded = true := by
  unfold State.serveRepair
  simp (maxDischargeDepth := 40) [*]

@[simp] theorem State.nextSource_stores (s : State) (x : Repair) :
    (State.nextSource s x).mem = s.mem ∧ (State.nextSource s x).staging = s.staging := by
  unfold State.nextSource
  simp

@[simp] theorem State.nextSource_bounded (s : State) (x : Repair) (hw : s.paths.bounded = true) :
    (State.nextSource s x).paths.bounded = true := by
  unfold State.nextSource
  simp (maxDischargeDepth := 40) [*]

@[simp] theorem State.dropRepair_stores (s : State) (x : Repair) :
    (State.dropRepair s x).mem = s.mem ∧ (State.dropRepair s x).staging = s.staging := by
  unfold State.dropRepair
  simp

@[simp] theorem State.dropRepair_bounded (s : State) (x : Repair) (hw : s.paths.bounded = true) :
    (State.dropRepair s x).paths.bounded = true := by
  unfold State.dropRepair
  simp (maxDischargeDepth := 40) [*]

@[simp] theorem State.deliverRepair_staging (s : State) (x : Repair) (t : Bytes) :
    (State.deliverRepair s x t).staging = s.staging := by
  unfold State.deliverRepair
  (repeat' split) <;> simp

@[simp] theorem State.deliverRepair_wf (s : State) (x : Repair) (t : Bytes) (hw : s.mem.wf = true) :
    (State.deliverRepair s x t).mem.wf = true := by
  unfold State.deliverRepair
  (repeat' split) <;> simp (maxDischargeDepth := 40) [*]

@[simp] theorem State.deliverRepair_bounded (s : State) (x : Repair) (t : Bytes) (hw : s.paths.bounded = true) :
    (State.deliverRepair s x t).paths.bounded = true := by
  unfold State.deliverRepair
  (repeat' split) <;> simp (maxDischargeDepth := 40) [*]

@[simp] theorem State.takeRepair_staging (s : State) (g tile : Bytes) :
    (State.takeRepair s g tile).staging = s.staging := by
  unfold State.takeRepair
  (repeat' split) <;> simp

@[simp] theorem State.takeRepair_wf (s : State) (g tile : Bytes) (hw : s.mem.wf = true) :
    (State.takeRepair s g tile).mem.wf = true := by
  unfold State.takeRepair
  (repeat' split) <;> simp (maxDischargeDepth := 40) [*]

@[simp] theorem State.takeRepair_bounded (s : State) (g tile : Bytes) (hw : s.paths.bounded = true) :
    (State.takeRepair s g tile).paths.bounded = true := by
  unfold State.takeRepair
  (repeat' split) <;> simp (maxDischargeDepth := 40) [*]

@[simp] theorem State.repairsLate_stores (s : State) :
    (State.repairsLate s).mem = s.mem ∧ (State.repairsLate s).staging = s.staging := by
  unfold State.repairsLate
  simp

@[simp] theorem State.repairsLate_bounded (s : State) (hw : s.paths.bounded = true) :
    (State.repairsLate s).paths.bounded = true := by
  unfold State.repairsLate
  refine foldlWf_paths _ (fun s a h => ?_) _ _ ?_ <;> (repeat' split) <;> simp (maxDischargeDepth := 40) [*]

@[simp] theorem State.abortForData_stores (s : State) (course : Nat) (slots : List Nat) :
    (State.abortForData s course slots).mem = s.mem ∧ (State.abortForData s course slots).staging = s.staging := by
  unfold State.abortForData
  simp

@[simp] theorem State.abortForData_bounded (s : State) (course : Nat) (slots : List Nat)
    (hw : s.paths.bounded = true) : (State.abortForData s course slots).paths.bounded = true := by
  unfold State.abortForData
  refine foldlWf_paths _ (fun s a h => ?_) _ _ ?_ <;> (repeat' split) <;> simp (maxDischargeDepth := 40) [*]

@[simp] theorem State.damageSide_stores (s : State) (side address : Nat) :
    (State.damageSide s side address).mem = s.mem ∧ (State.damageSide s side address).staging = s.staging := by
  unfold State.damageSide
  simp

@[simp] theorem State.damageSide_bounded (s : State) (side address : Nat) (hw : s.paths.bounded = true) :
    (State.damageSide s side address).paths.bounded = true := by
  unfold State.damageSide
  simp (maxDischargeDepth := 40) [*]

@[simp] theorem State.noData_stores (s : State) (w : TileWait) :
    (State.noData s w).mem = s.mem ∧ (State.noData s w).staging = s.staging := by
  unfold State.noData
  (repeat' split) <;> simp

@[simp] theorem State.noData_bounded (s : State) (w : TileWait) (hw : s.paths.bounded = true) :
    (State.noData s w).paths.bounded = true := by
  unfold State.noData
  (repeat' split) <;> simp (maxDischargeDepth := 40) [*]

@[simp] theorem State.giveUp_stores (s : State) (x : Repair) :
    (State.giveUp s x).mem = s.mem ∧ (State.giveUp s x).staging = s.staging := by
  unfold State.giveUp
  dsimp only
  (repeat' split) <;> simp

@[simp] theorem State.giveUp_bounded (s : State) (x : Repair) (hw : s.paths.bounded = true) :
    (State.giveUp s x).paths.bounded = true := by
  unfold State.giveUp
  dsimp only
  (repeat' split) <;> simp (maxDischargeDepth := 40) [*]

@[simp] theorem State.giveUpRepairs_stores (s : State) :
    (State.giveUpRepairs s).mem = s.mem ∧ (State.giveUpRepairs s).staging = s.staging := by
  unfold State.giveUpRepairs
  simp

@[simp] theorem State.giveUpRepairs_bounded (s : State) (hw : s.paths.bounded = true) :
    (State.giveUpRepairs s).paths.bounded = true := by
  unfold State.giveUpRepairs
  refine foldlWf_paths _ (fun s a h => ?_) _ _ ?_ <;> (repeat' split) <;> simp (maxDischargeDepth := 40) [*]

@[simp] theorem State.setWithheld_stores (s : State) (g : Nat) (on : Bool) :
    (State.setWithheld s g on).mem = s.mem ∧ (State.setWithheld s g on).staging = s.staging := by
  unfold State.setWithheld
  simp

@[simp] theorem State.setWithheld_bounded (s : State) (g : Nat) (on : Bool) (hw : s.paths.bounded = true) :
    (State.setWithheld s g on).paths.bounded = true := by
  unfold State.setWithheld
  simp (maxDischargeDepth := 40) [*]

@[simp] theorem State.takeDamageReport_stores (s : State) (qp : Nat) (m : Bytes) :
    (State.takeDamageReport s qp m).mem = s.mem ∧ (State.takeDamageReport s qp m).staging = s.staging := by
  unfold State.takeDamageReport
  simp

@[simp] theorem State.takeDamageReport_bounded (s : State) (qp : Nat) (m : Bytes) (hw : s.paths.bounded = true) :
    (State.takeDamageReport s qp m).paths.bounded = true := by
  unfold State.takeDamageReport
  simp (maxDischargeDepth := 40) [*]

@[simp] theorem State.zeroGranule_staging (s : State) (a : Nat) : (State.zeroGranule s a).staging = s.staging := by
  unfold State.zeroGranule
  simp

@[simp] theorem State.zeroGranule_wf (s : State) (a : Nat) (hw : s.mem.wf = true) :
    (State.zeroGranule s a).mem.wf = true := by
  unfold State.zeroGranule
  simp (maxDischargeDepth := 40) [*]

@[simp] theorem State.zeroGranule_bounded (s : State) (a : Nat) (hw : s.paths.bounded = true) :
    (State.zeroGranule s a).paths.bounded = true := by
  unfold State.zeroGranule
  simp (maxDischargeDepth := 40) [*]

@[simp] theorem State.stopHeadSlot_stores (course : Nat) (s : State) (slot : Nat) :
    (State.stopHeadSlot course s slot).mem = s.mem ∧ (State.stopHeadSlot course s slot).staging = s.staging := by
  unfold State.stopHeadSlot
  simp

@[simp] theorem State.stopHeadSlot_bounded (course : Nat) (s : State) (slot : Nat) (hw : s.paths.bounded = true) :
    (State.stopHeadSlot course s slot).paths.bounded = true := by
  unfold State.stopHeadSlot
  simp (maxDischargeDepth := 40) [*]

@[simp] theorem State.stopTints_stores (s : State) (course : Nat) (yields : Bool) :
    (State.stopTints s course yields).mem = s.mem ∧ (State.stopTints s course yields).staging = s.staging := by
  unfold State.stopTints
  simp

@[simp] theorem State.stopTints_bounded (s : State) (course : Nat) (yields : Bool) (hw : s.paths.bounded = true) :
    (State.stopTints s course yields).paths.bounded = true := by
  unfold State.stopTints
  simp (maxDischargeDepth := 40) +contextual [*]

@[simp] theorem State.stopPlan_staging (s : State) : (State.stopPlan s).staging = s.staging := by
  unfold State.stopPlan
  (repeat' split) <;> simp

@[simp] theorem State.stopPlan_wf (s : State) (hw : s.mem.wf = true) : (State.stopPlan s).mem.wf = true := by
  unfold State.stopPlan
  (repeat' split) <;> simp (maxDischargeDepth := 40) +contextual [*]

@[simp] theorem State.stopPlan_bounded (s : State) (hw : s.paths.bounded = true) :
    (State.stopPlan s).paths.bounded = true := by
  unfold State.stopPlan
  (repeat' split) <;> simp (maxDischargeDepth := 40) +contextual [*]

@[simp] theorem State.storeSticks_stores (s : State) (a : Nat) :
    (State.storeSticks s a).mem = s.mem ∧ (State.storeSticks s a).staging = s.staging := by
  unfold State.storeSticks
  simp

@[simp] theorem State.storeSticks_bounded (s : State) (a : Nat) (hw : s.paths.bounded = true) :
    (State.storeSticks s a).paths.bounded = true := by
  unfold State.storeSticks
  simp (maxDischargeDepth := 40) [*]

end Sys2Proof.Machine
end

