-- ==== Sys2Proof/Laws/Ingress.lean ====
section
/-! SUPPORT. What the operations of Machine/Ingress.lean leave alone and keep: the addressed memories that they do not
write are as they were, those that they write stay canonical, and the queues of notices stay within their bound. -/

namespace Sys2Proof.Machine

@[simp] theorem State.sendStatus_stores (s : State) (qp w : Nat) :
    (State.sendStatus s qp w).mem = s.mem ∧ (State.sendStatus s qp w).staging = s.staging := by
  unfold State.sendStatus
  dsimp only
  (repeat' split) <;> simp

@[simp] theorem State.sendStatus_bounded (s : State) (qp w : Nat) (hw : s.paths.bounded = true) :
    (State.sendStatus s qp w).paths.bounded = true := by
  unfold State.sendStatus
  dsimp only
  (repeat' split) <;> simp (maxDischargeDepth := 40) [*]

@[simp] theorem State.wantStatus_stores (s : State) (qp w reason discarded : Nat) :
    (State.wantStatus s qp w reason discarded).mem = s.mem ∧ (State.wantStatus s qp w reason discarded).staging = s.staging := by
  unfold State.wantStatus
  simp

@[simp] theorem State.wantStatus_bounded (s : State) (qp w reason discarded : Nat) (hw : s.paths.bounded = true) :
    (State.wantStatus s qp w reason discarded).paths.bounded = true := by
  unfold State.wantStatus
  simp (maxDischargeDepth := 40) [*]

@[simp] theorem State.creditRises_stores (s : State) (w : Nat) :
    (State.creditRises s w).mem = s.mem ∧ (State.creditRises s w).staging = s.staging := by
  unfold State.creditRises
  simp

@[simp] theorem State.creditRises_bounded (s : State) (w : Nat) (hw : s.paths.bounded = true) :
    (State.creditRises s w).paths.bounded = true := by
  unfold State.creditRises
  refine foldlWf_paths _ (fun s a h => ?_) _ _ ?_ <;> (repeat' split) <;> simp (maxDischargeDepth := 40) [*]

@[simp] theorem State.sendStatuses_stores (s : State) :
    (State.sendStatuses s).mem = s.mem ∧ (State.sendStatuses s).staging = s.staging := by
  unfold State.sendStatuses
  simp

@[simp] theorem State.sendStatuses_bounded (s : State) (hw : s.paths.bounded = true) :
    (State.sendStatuses s).paths.bounded = true := by
  unfold State.sendStatuses
  simp (maxDischargeDepth := 40) +contextual [*]

@[simp] theorem State.ingressSet_stores (s : State) (w : IngressWindow) (n : Nat) :
    (State.ingressSet s w n).mem = s.mem ∧ (State.ingressSet s w n).staging = s.staging := by
  unfold State.ingressSet
  (repeat' split) <;> simp

@[simp] theorem State.ingressSet_bounded (s : State) (w : IngressWindow) (n : Nat) (hw : s.paths.bounded = true) :
    (State.ingressSet s w n).paths.bounded = true := by
  unfold State.ingressSet
  (repeat' split) <;> simp (maxDischargeDepth := 40) [*]

@[simp] theorem State.windowGap_stores (s : State) (qp : Nat) (w : IngressWindow) (n : Nat) :
    (State.windowGap s qp w n).mem = s.mem ∧ (State.windowGap s qp w n).staging = s.staging := by
  unfold State.windowGap
  simp

@[simp] theorem State.windowGap_bounded (s : State) (qp : Nat) (w : IngressWindow) (n : Nat)
    (hw : s.paths.bounded = true) : (State.windowGap s qp w n).paths.bounded = true := by
  unfold State.windowGap
  simp (maxDischargeDepth := 40) [*]

@[simp] theorem State.judgeRecord_staging (s : State) (qp : Nat) (w : IngressWindow) (pos : Option Nat)
    (r : Bytes) : (State.judgeRecord s qp w pos r).staging = s.staging := by
  unfold State.judgeRecord
  simp

@[simp] theorem State.judgeRecord_wf (s : State) (qp : Nat) (w : IngressWindow) (pos : Option Nat) (r : Bytes)
    (hw : s.mem.wf = true) : (State.judgeRecord s qp w pos r).mem.wf = true := by
  unfold State.judgeRecord
  simp (maxDischargeDepth := 40) [*]

@[simp] theorem State.judgeRecord_bounded (s : State) (qp : Nat) (w : IngressWindow) (pos : Option Nat) (r : Bytes)
    (hw : s.paths.bounded = true) : (State.judgeRecord s qp w pos r).paths.bounded = true := by
  unfold State.judgeRecord
  simp (maxDischargeDepth := 40) [*]

@[simp] theorem State.takeIngress_staging (s : State) (qp w : Nat) (r : Bytes) :
    (State.takeIngress s qp w r).staging = s.staging := by
  unfold State.takeIngress
  (repeat' split) <;> simp

@[simp] theorem State.takeIngress_wf (s : State) (qp w : Nat) (r : Bytes) (hw : s.mem.wf = true) :
    (State.takeIngress s qp w r).mem.wf = true := by
  unfold State.takeIngress
  (repeat' split) <;> simp (maxDischargeDepth := 40) [*]

@[simp] theorem State.takeIngress_bounded (s : State) (qp w : Nat) (r : Bytes) (hw : s.paths.bounded = true) :
    (State.takeIngress s qp w r).paths.bounded = true := by
  unfold State.takeIngress
  (repeat' split) <;> simp (maxDischargeDepth := 40) [*]

@[simp] theorem State.qpFails_stores (s : State) (n cause : Nat) :
    (State.qpFails s n cause).mem = s.mem ∧ (State.qpFails s n cause).staging = s.staging := by
  unfold State.qpFails
  simp

@[simp] theorem State.qpFails_bounded (s : State) (n cause : Nat) (hw : s.paths.bounded = true) :
    (State.qpFails s n cause).paths.bounded = true := by
  unfold State.qpFails
  simp (maxDischargeDepth := 40) [*]

@[simp] theorem State.nakQp_stores (s : State) (n cause : Nat) :
    (State.nakQp s n cause).mem = s.mem ∧ (State.nakQp s n cause).staging = s.staging := by
  unfold State.nakQp
  simp

@[simp] theorem State.nakQp_bounded (s : State) (n cause : Nat) (hw : s.paths.bounded = true) :
    (State.nakQp s n cause).paths.bounded = true := by
  unfold State.nakQp
  simp (maxDischargeDepth := 40) [*]

@[simp] theorem State.readyQp_stores (s : State) (n : Nat) (r : Bytes) :
    (State.readyQp s n r).mem = s.mem ∧ (State.readyQp s n r).staging = s.staging := by
  unfold State.readyQp
  simp

@[simp] theorem State.readyQp_bounded (s : State) (n : Nat) (r : Bytes) (hw : s.paths.bounded = true) :
    (State.readyQp s n r).paths.bounded = true := by
  unfold State.readyQp
  simp (maxDischargeDepth := 40) [*]

@[simp] theorem State.configQp_stores (s : State) (r : Bytes) :
    (State.configQp s r).2.mem = s.mem ∧ (State.configQp s r).2.staging = s.staging := by
  unfold State.configQp
  simp

@[simp] theorem State.configQp_bounded (s : State) (r : Bytes) (hw : s.paths.bounded = true) :
    (State.configQp s r).2.paths.bounded = true := by
  unfold State.configQp
  simp (maxDischargeDepth := 40) [*]

@[simp] theorem State.resetQp_stores (s : State) (n : Nat) :
    (State.resetQp s n).mem = s.mem ∧ (State.resetQp s n).staging = s.staging := by
  unfold State.resetQp
  simp

@[simp] theorem State.resetQp_bounded (s : State) (n : Nat) (hw : s.paths.bounded = true) :
    (State.resetQp s n).paths.bounded = true := by
  unfold State.resetQp
  simp (maxDischargeDepth := 40) [*]

@[simp] theorem State.retryQp_stores (s : State) (n : Nat) :
    (State.retryQp s n).mem = s.mem ∧ (State.retryQp s n).staging = s.staging := by
  unfold State.retryQp
  dsimp only
  (repeat' split) <;> simp

@[simp] theorem State.retryQp_bounded (s : State) (n : Nat) (hw : s.paths.bounded = true) :
    (State.retryQp s n).paths.bounded = true := by
  unfold State.retryQp
  dsimp only
  (repeat' split) <;> simp (maxDischargeDepth := 40) [*]

@[simp] theorem State.releaseHeld_stores (s : State) (n fuel : Nat) :
    (State.releaseHeld s n fuel).mem = s.mem ∧ (State.releaseHeld s n fuel).staging = s.staging := by
  fun_induction State.releaseHeld s n fuel <;> simp_all

@[simp] theorem State.releaseHeld_bounded (s : State) (n fuel : Nat) (hw : s.paths.bounded = true) :
    (State.releaseHeld s n fuel).paths.bounded = true := by
  fun_induction State.releaseHeld s n fuel <;> simp_all (maxDischargeDepth := 40)

@[simp] theorem State.takeAck_stores (s : State) (n count : Nat) :
    (State.takeAck s n count).mem = s.mem ∧ (State.takeAck s n count).staging = s.staging := by
  unfold State.takeAck
  simp

@[simp] theorem State.takeAck_bounded (s : State) (n count : Nat) (hw : s.paths.bounded = true) :
    (State.takeAck s n count).paths.bounded = true := by
  unfold State.takeAck
  simp (maxDischargeDepth := 40) [*]

@[simp] theorem State.ringRecord_staging (s : State) (size positions off : Nat) (r : Bytes) :
    (State.ringRecord s size positions off r).staging = s.staging := by
  unfold State.ringRecord
  (repeat' split) <;> simp

@[simp] theorem State.ringRecord_wf (s : State) (size positions off : Nat) (r : Bytes) (hw : s.mem.wf = true) :
    (State.ringRecord s size positions off r).mem.wf = true := by
  unfold State.ringRecord
  (repeat' split) <;> simp (maxDischargeDepth := 40) [*]

@[simp] theorem State.ringRecord_bounded (s : State) (size positions off : Nat) (r : Bytes)
    (hw : s.paths.bounded = true) : (State.ringRecord s size positions off r).paths.bounded = true := by
  unfold State.ringRecord
  (repeat' split) <;> simp (maxDischargeDepth := 40) [*]

@[simp] theorem State.takeWrite_staging (s : State) (n address rkey : Nat) (r : Bytes) :
    (State.takeWrite s n address rkey r).staging = s.staging := by
  unfold State.takeWrite
  dsimp only
  (repeat' split) <;> simp

@[simp] theorem State.takeWrite_wf (s : State) (n address rkey : Nat) (r : Bytes) (hw : s.mem.wf = true) :
    (State.takeWrite s n address rkey r).mem.wf = true := by
  unfold State.takeWrite
  dsimp only
  (repeat' split) <;> simp (maxDischargeDepth := 40) [*]

@[simp] theorem State.takeWrite_bounded (s : State) (n address rkey : Nat) (r : Bytes)
    (hw : s.paths.bounded = true) : (State.takeWrite s n address rkey r).paths.bounded = true := by
  unfold State.takeWrite
  dsimp only
  (repeat' split) <;> simp (maxDischargeDepth := 40) [*]

@[simp] theorem State.takeOrderSend_stores (s : State) (n : Nat) (imm : Option Nat) (data : Bytes) :
    (State.takeOrderSend s n imm data).mem = s.mem ∧ (State.takeOrderSend s n imm data).staging = s.staging := by
  unfold State.takeOrderSend
  simp

@[simp] theorem State.takeOrderSend_bounded (s : State) (n : Nat) (imm : Option Nat) (data : Bytes)
    (hw : s.paths.bounded = true) : (State.takeOrderSend s n imm data).paths.bounded = true := by
  unfold State.takeOrderSend
  simp (maxDischargeDepth := 40) [*]

@[simp] theorem State.takeSend_stores (s : State) (n : Nat) (imm : Option Nat) (data : Bytes) :
    (State.takeSend s n imm data).mem = s.mem ∧ (State.takeSend s n imm data).staging = s.staging := by
  unfold State.takeSend
  simp

@[simp] theorem State.takeSend_bounded (s : State) (n : Nat) (imm : Option Nat) (data : Bytes)
    (hw : s.paths.bounded = true) : (State.takeSend s n imm data).paths.bounded = true := by
  unfold State.takeSend
  simp (maxDischargeDepth := 40) [*]

@[simp] theorem State.takeOp_staging (s : State) (n : Nat) (op : RoceOp) :
    (State.takeOp s n op).staging = s.staging := by
  unfold State.takeOp
  (repeat' split) <;> simp

@[simp] theorem State.takeOp_wf (s : State) (n : Nat) (op : RoceOp) (hw : s.mem.wf = true) :
    (State.takeOp s n op).mem.wf = true := by
  unfold State.takeOp
  (repeat' split) <;> simp (maxDischargeDepth := 40) [*]

@[simp] theorem State.takeOp_bounded (s : State) (n : Nat) (op : RoceOp) (hw : s.paths.bounded = true) :
    (State.takeOp s n op).paths.bounded = true := by
  unfold State.takeOp
  (repeat' split) <;> simp (maxDischargeDepth := 40) [*]

@[simp] theorem State.answerCe_stores (s : State) (n : Nat) :
    (State.answerCe s n).mem = s.mem ∧ (State.answerCe s n).staging = s.staging := by
  unfold State.answerCe
  simp

@[simp] theorem State.answerCe_bounded (s : State) (n : Nat) (hw : s.paths.bounded = true) :
    (State.answerCe s n).paths.bounded = true := by
  unfold State.answerCe
  simp (maxDischargeDepth := 40) [*]

@[simp] theorem State.takePacket_staging (s : State) (ingress qpn : Nat) (op : RoceOp) (icrcOk ce : Bool) :
    (State.takePacket s ingress qpn op icrcOk ce).staging = s.staging := by
  unfold State.takePacket
  simp

@[simp] theorem State.takePacket_wf (s : State) (ingress qpn : Nat) (op : RoceOp) (icrcOk ce : Bool)
    (hw : s.mem.wf = true) : (State.takePacket s ingress qpn op icrcOk ce).mem.wf = true := by
  unfold State.takePacket
  simp (maxDischargeDepth := 40) [*]

@[simp] theorem State.takePacket_bounded (s : State) (ingress qpn : Nat) (op : RoceOp) (icrcOk ce : Bool)
    (hw : s.paths.bounded = true) : (State.takePacket s ingress qpn op icrcOk ce).paths.bounded = true := by
  unfold State.takePacket
  simp (maxDischargeDepth := 40) [*]

@[simp] theorem State.pauseQps_stores (s : State) (ingress : Nat) (on : Bool) :
    (State.pauseQps s ingress on).mem = s.mem ∧ (State.pauseQps s ingress on).staging = s.staging := by
  unfold State.pauseQps
  simp

@[simp] theorem State.pauseQps_bounded (s : State) (ingress : Nat) (on : Bool) (hw : s.paths.bounded = true) :
    (State.pauseQps s ingress on).paths.bounded = true := by
  unfold State.pauseQps
  refine foldlWf_paths _ (fun s a h => ?_) _ _ ?_ <;> (repeat' split) <;> simp (maxDischargeDepth := 40) [*]

@[simp] theorem State.passFrame_stores (s : State) (n : Nat) (f : EthFrame) :
    (State.passFrame s n f).mem = s.mem ∧ (State.passFrame s n f).staging = s.staging := by
  unfold State.passFrame
  simp

@[simp] theorem State.passFrame_bounded (s : State) (n : Nat) (f : EthFrame) (hw : s.paths.bounded = true) :
    (State.passFrame s n f).paths.bounded = true := by
  unfold State.passFrame
  simp (maxDischargeDepth := 40) [*]

@[simp] theorem State.takeFrame_stores (s : State) (n : Nat) (f : EthFrame) :
    (State.takeFrame s n f).mem = s.mem ∧ (State.takeFrame s n f).staging = s.staging := by
  unfold State.takeFrame
  (repeat' split) <;> simp

@[simp] theorem State.takeFrame_bounded (s : State) (n : Nat) (f : EthFrame) (hw : s.paths.bounded = true) :
    (State.takeFrame s n f).paths.bounded = true := by
  unfold State.takeFrame
  (repeat' split) <;> simp (maxDischargeDepth := 40) [*]

@[simp] theorem State.putTxSak_stores (s : State) (n : Nat) (k : Bytes) :
    (State.putTxSak s n k).2.mem = s.mem ∧ (State.putTxSak s n k).2.staging = s.staging := by
  unfold State.putTxSak
  simp

@[simp] theorem State.putTxSak_bounded (s : State) (n : Nat) (k : Bytes) (hw : s.paths.bounded = true) :
    (State.putTxSak s n k).2.paths.bounded = true := by
  unfold State.putTxSak
  simp (maxDischargeDepth := 40) [*]

@[simp] theorem State.putRxSak_stores (s : State) (n : Nat) (k : Bytes) :
    (State.putRxSak s n k).2.mem = s.mem ∧ (State.putRxSak s n k).2.staging = s.staging := by
  unfold State.putRxSak
  simp

@[simp] theorem State.putRxSak_bounded (s : State) (n : Nat) (k : Bytes) (hw : s.paths.bounded = true) :
    (State.putRxSak s n k).2.paths.bounded = true := by
  unfold State.putRxSak
  simp (maxDischargeDepth := 40) [*]

@[simp] theorem State.ingressLink_stores (s : State) (n : Nat) (up : Bool) :
    (State.ingressLink s n up).mem = s.mem ∧ (State.ingressLink s n up).staging = s.staging := by
  unfold State.ingressLink
  simp

@[simp] theorem State.ingressLink_bounded (s : State) (n : Nat) (up : Bool) (hw : s.paths.bounded = true) :
    (State.ingressLink s n up).paths.bounded = true := by
  unfold State.ingressLink
  simp (maxDischargeDepth := 40) [*]

end Sys2Proof.Machine
end

