-- ==== Sys2Proof/Laws/Host.lean ====
section
/-! SUPPORT. What the operations of Machine/Host.lean leave alone and keep: the addressed memories that they do not
write are as they were, those that they write stay canonical, and the queues of notices stay within their bound. -/

namespace Sys2Proof.Machine

@[simp] theorem State.mapPaths_stores (s : State) (f : Paths → Paths) :
    (State.mapPaths s f).mem = s.mem ∧ (State.mapPaths s f).staging = s.staging := by
  unfold State.mapPaths
  simp

@[simp] theorem State.mapPaths_paths (s : State) (f : Paths → Paths) : (s.mapPaths f).paths = f s.paths := rfl

@[simp] theorem State.mapRing_stores (s : State) (f : Ring → Ring) :
    (State.mapRing s f).mem = s.mem ∧ (State.mapRing s f).staging = s.staging := by
  unfold State.mapRing
  simp

@[simp] theorem State.mapRing_bounded (s : State) (f : Ring → Ring) (hw : s.paths.bounded = true) :
    (s.mapRing f).paths.bounded = true := hw

@[simp] theorem State.resetFunction_stores (s : State) :
    (State.resetFunction s).mem = s.mem ∧ (State.resetFunction s).staging = s.staging := by
  unfold State.resetFunction
  simp

@[simp] theorem State.resetFunction_bounded (s : State) (hw : s.paths.bounded = true) :
    (State.resetFunction s).paths.bounded = true := by
  unfold State.resetFunction
  (repeat' split) <;> exact hw

@[simp] theorem State.linkTo_stores (s : State) (state rate width : Nat) :
    (State.linkTo s state rate width).mem = s.mem ∧ (State.linkTo s state rate width).staging = s.staging := by
  unfold State.linkTo
  simp

@[simp] theorem State.linkTo_bounded (s : State) (state rate width : Nat) (hw : s.paths.bounded = true) :
    (State.linkTo s state rate width).paths.bounded = true := by
  unfold State.linkTo
  simp (maxDischargeDepth := 40) [*]

@[simp] theorem State.claimed_stores (s : State) (node : Nat) (chainIn : Bool) :
    (State.claimed s node chainIn).mem = s.mem ∧ (State.claimed s node chainIn).staging = s.staging := by
  unfold State.claimed
  simp

@[simp] theorem State.claimed_bounded (s : State) (node : Nat) (chainIn : Bool) (hw : s.paths.bounded = true) :
    (State.claimed s node chainIn).paths.bounded = true := by
  unfold State.claimed
  (repeat' split) <;> exact hw

@[simp] theorem State.confirmed_stores (s : State) (node : Nat) (serial : Bytes) :
    (State.confirmed s node serial).mem = s.mem ∧ (State.confirmed s node serial).staging = s.staging := by
  unfold State.confirmed
  simp

@[simp] theorem State.confirmed_bounded (s : State) (node : Nat) (serial : Bytes) (hw : s.paths.bounded = true) :
    (s.confirmed node serial).paths.bounded = true := by
  unfold State.confirmed
  split
  · exact State.notice_bounded _ _ _ _ hw
  · exact hw

@[simp] theorem State.claimLapses_stores (s : State) :
    (State.claimLapses s).mem = s.mem ∧ (State.claimLapses s).staging = s.staging := by
  unfold State.claimLapses
  (repeat' split) <;> simp

@[simp] theorem State.claimLapses_bounded (s : State) (hw : s.paths.bounded = true) :
    (State.claimLapses s).paths.bounded = true := by
  unfold State.claimLapses
  (repeat' split) <;> exact hw

@[simp] theorem State.retrainIdentity_stores (s : State) (port : Nat) :
    (State.retrainIdentity s port).mem = s.mem ∧ (State.retrainIdentity s port).staging = s.staging := by
  unfold State.retrainIdentity
  simp

@[simp] theorem State.retrainIdentity_bounded (s : State) (port : Nat) (hw : s.paths.bounded = true) :
    (State.retrainIdentity s port).paths.bounded = true := by
  unfold State.retrainIdentity
  simp (maxDischargeDepth := 40) [*]

@[simp] theorem State.writeDeviceId_stores (s : State) (v : Nat) :
    (State.writeDeviceId s v).2.mem = s.mem ∧ (State.writeDeviceId s v).2.staging = s.staging := by
  unfold State.writeDeviceId
  simp

@[simp] theorem State.writeDeviceId_bounded (s : State) (v : Nat) (hw : s.paths.bounded = true) :
    (State.writeDeviceId s v).2.paths.bounded = true := by
  unfold State.writeDeviceId
  simp (maxDischargeDepth := 40) +contextual [*]

@[simp] theorem State.raiseNotice_stores (s : State) (code cls source : Nat) (payload : Bytes) :
    (State.raiseNotice s code cls source payload).mem = s.mem ∧ (State.raiseNotice s code cls source payload).staging = s.staging := by
  unfold State.raiseNotice
  simp

@[simp] theorem State.raiseNotice_bounded (s : State) (code cls source : Nat) (payload : Bytes)
    (hw : s.paths.bounded = true) : (State.raiseNotice s code cls source payload).paths.bounded = true := by
  unfold State.raiseNotice
  simp (maxDischargeDepth := 40) [*]

@[simp] theorem State.chainTurn_stores (s : State) :
    (State.chainTurn s).mem = s.mem ∧ (State.chainTurn s).staging = s.staging := by
  unfold State.chainTurn
  (repeat' split) <;> simp

@[simp] theorem State.chainTurn_bounded (s : State) (hw : s.paths.bounded = true) : s.chainTurn.paths.bounded = true := by
  have h := Paths.bounded_iff.mp hw
  unfold State.chainTurn
  repeat' split
  · exact hw
  · exact hw
  · exact hw
  · rename_i e _
    rw [e] at h
    exact Paths.bounded_iff.mpr ⟨Nat.le_of_succ_le h.1, h.2⟩
  · exact hw

@[simp] theorem State.ringFaults_stores (s : State) :
    (State.ringFaults s).mem = s.mem ∧ (State.ringFaults s).staging = s.staging := by
  unfold State.ringFaults
  simp

@[simp] theorem State.ringFaults_bounded (s : State) (hw : s.paths.bounded = true) :
    (State.ringFaults s).paths.bounded = true := by
  unfold State.ringFaults
  simp (maxDischargeDepth := 40) [*]

@[simp] theorem State.ringTurn_stores (s : State) (ok : Bool) :
    (State.ringTurn s ok).mem = s.mem ∧ (State.ringTurn s ok).staging = s.staging := by
  unfold State.ringTurn
  (repeat' split) <;> simp

@[simp] theorem State.ringTurn_bounded (s : State) (ok : Bool) (hw : s.paths.bounded = true) :
    (s.ringTurn ok).paths.bounded = true := by
  have h := Paths.bounded_iff.mp hw
  unfold State.ringTurn
  dsimp only
  repeat' split
  · exact hw
  · exact hw
  · exact State.ringFaults_bounded _ hw
  all_goals
    rename_i e _ _ _
    rw [e] at h
    exact Paths.bounded_iff.mpr ⟨h.1, Nat.le_of_succ_le h.2⟩

@[simp] theorem State.writeRingControl_stores (s : State) (value : Nat) :
    (State.writeRingControl s value).mem = s.mem ∧ (State.writeRingControl s value).staging = s.staging := by
  unfold State.writeRingControl
  simp

@[simp] theorem State.writeRingControl_bounded (s : State) (value : Nat) (hw : s.paths.bounded = true) :
    (State.writeRingControl s value).paths.bounded = true := by
  unfold State.writeRingControl
  simp (maxDischargeDepth := 40) [*]

end Sys2Proof.Machine
end

