-- ==== Sys2Proof/Laws/Start.lean ====
section
/-! SUPPORT. What the operations of Machine/Start.lean leave alone and keep: the addressed memories that they do not
write are as they were, those that they write stay canonical, and the queues of notices stay within their bound. -/

namespace Sys2Proof.Machine

@[simp] theorem State.recordStart_stores (s : State) (reason slot step detail : Nat) :
    (State.recordStart s reason slot step detail).mem = s.mem ∧ (State.recordStart s reason slot step detail).staging = s.staging := by
  unfold State.recordStart
  simp

@[simp] theorem State.recordStart_bounded (s : State) (reason slot step detail : Nat)
    (hw : s.paths.bounded = true) : (State.recordStart s reason slot step detail).paths.bounded = true := by
  unfold State.recordStart
  simp (maxDischargeDepth := 40) [*]

@[simp] theorem State.internalReset_wf (s : State) (hw : s.mem.wf = true) :
    (State.internalReset s).mem.wf = true := by
  unfold State.internalReset
  simp (maxDischargeDepth := 40) [*]

@[simp] theorem State.internalReset_stagingWf (s : State) (hw : s.staging.wf = true) :
    (State.internalReset s).staging.wf = true := by
  unfold State.internalReset
  simp (maxDischargeDepth := 40) [*]

@[simp] theorem State.internalReset_bounded (s : State) (hw : s.paths.bounded = true) :
    (State.internalReset s).paths.bounded = true := by
  unfold State.internalReset
  simp (maxDischargeDepth := 40) [*]

@[simp] theorem State.beginAttempt_stores (s : State) :
    (State.beginAttempt s).mem = s.mem ∧ (State.beginAttempt s).staging = s.staging := by
  unfold State.beginAttempt
  simp

@[simp] theorem State.beginAttempt_bounded (s : State) (hw : s.paths.bounded = true) :
    (State.beginAttempt s).paths.bounded = true := by
  unfold State.beginAttempt
  simp (maxDischargeDepth := 40) [*]

@[simp] theorem State.enterLimewash_stores (s : State) (reason : Nat) :
    (State.enterLimewash s reason).mem = s.mem ∧ (State.enterLimewash s reason).staging = s.staging := by
  unfold State.enterLimewash
  simp

@[simp] theorem State.enterLimewash_bounded (s : State) (reason : Nat) (hw : s.paths.bounded = true) :
    (State.enterLimewash s reason).paths.bounded = true := by
  unfold State.enterLimewash
  simp (maxDischargeDepth := 40) [*]

@[simp] theorem State.countAttempt_stores (s : State) :
    (State.countAttempt s).mem = s.mem ∧ (State.countAttempt s).staging = s.staging := by
  unfold State.countAttempt
  simp

@[simp] theorem State.countAttempt_bounded (s : State) (hw : s.paths.bounded = true) :
    (State.countAttempt s).paths.bounded = true := by
  unfold State.countAttempt
  simp (maxDischargeDepth := 40) [*]

@[simp] theorem State.failAttempt_wf (s : State) (reason slot step detail : Nat) (hw : s.mem.wf = true) :
    (State.failAttempt s reason slot step detail).mem.wf = true := by
  unfold State.failAttempt
  simp (maxDischargeDepth := 40) [*]

@[simp] theorem State.failAttempt_stagingWf (s : State) (reason slot step detail : Nat) (hw : s.staging.wf = true) :
    (State.failAttempt s reason slot step detail).staging.wf = true := by
  unfold State.failAttempt
  simp (maxDischargeDepth := 40) [*]

@[simp] theorem State.failAttempt_bounded (s : State) (reason slot step detail : Nat)
    (hw : s.paths.bounded = true) : (State.failAttempt s reason slot step detail).paths.bounded = true := by
  unfold State.failAttempt
  simp (maxDischargeDepth := 40) [*]

@[simp] theorem State.showSlot_stores (s : State) (slot st version : Nat) :
    (State.showSlot s slot st version).mem = s.mem ∧ (State.showSlot s slot st version).staging = s.staging := by
  unfold State.showSlot
  simp

@[simp] theorem State.showSlot_bounded (s : State) (slot st version : Nat) (hw : s.paths.bounded = true) :
    (State.showSlot s slot st version).paths.bounded = true := by
  unfold State.showSlot
  simp (maxDischargeDepth := 40) [*]

@[simp] theorem State.romRefuses_stores (s : State) (slot : Nat) :
    (State.romRefuses s slot).mem = s.mem ∧ (State.romRefuses s slot).staging = s.staging := by
  unfold State.romRefuses
  simp

@[simp] theorem State.romRefuses_bounded (s : State) (slot : Nat) (hw : s.paths.bounded = true) :
    (State.romRefuses s slot).paths.bounded = true := by
  unfold State.romRefuses
  simp (maxDischargeDepth := 40) [*]

@[simp] theorem State.trowelImages_stores (s : State) (header : Bytes) :
    (State.trowelImages s header).mem = s.mem ∧ (State.trowelImages s header).staging = s.staging := by
  unfold State.trowelImages
  simp

@[simp] theorem State.trowelImages_bounded (s : State) (header : Bytes) (hw : s.paths.bounded = true) :
    (State.trowelImages s header).paths.bounded = true := by
  unfold State.trowelImages
  refine foldlWf_paths _ (fun s a h => ?_) _ _ ?_ <;> (repeat' split) <;> simp (maxDischargeDepth := 40) [*]

@[simp] theorem State.takeFirmware_stores (s : State) (slot : Nat) :
    (State.takeFirmware s slot).mem = s.mem ∧ (State.takeFirmware s slot).staging = s.staging := by
  unfold State.takeFirmware
  simp

@[simp] theorem State.takeFirmware_bounded (s : State) (slot : Nat) (hw : s.paths.bounded = true) :
    (State.takeFirmware s slot).paths.bounded = true := by
  unfold State.takeFirmware
  simp (maxDischargeDepth := 40) [*]

@[simp] theorem State.revokeAnchors_stores (s : State) (i : Item) :
    (State.revokeAnchors s i).mem = s.mem ∧ (State.revokeAnchors s i).staging = s.staging := by
  unfold State.revokeAnchors
  simp

@[simp] theorem State.revokeAnchors_bounded (s : State) (i : Item) (hw : s.paths.bounded = true) :
    (State.revokeAnchors s i).paths.bounded = true := by
  unfold State.revokeAnchors
  simp (maxDischargeDepth := 40) [*]

@[simp] theorem State.chooseSlot_stores (s : State) :
    (State.chooseSlot s).2.mem = s.mem ∧ (State.chooseSlot s).2.staging = s.staging := by
  unfold State.chooseSlot
  simp

@[simp] theorem State.chooseSlot_bounded (s : State) (hw : s.paths.bounded = true) :
    (State.chooseSlot s).2.paths.bounded = true := by
  unfold State.chooseSlot
  simp (maxDischargeDepth := 40) [*]

@[simp] theorem State.selfTest_staging (s : State) (failing : List Nat) (c : Nat) :
    (State.selfTest s failing c).staging = s.staging := by
  unfold State.selfTest
  (repeat' split) <;> simp

@[simp] theorem State.selfTest_wf (s : State) (failing : List Nat) (c : Nat) (hw : s.mem.wf = true) :
    (State.selfTest s failing c).mem.wf = true := by
  unfold State.selfTest
  (repeat' split) <;> simp (maxDischargeDepth := 40) [*]

@[simp] theorem State.selfTest_bounded (s : State) (failing : List Nat) (c : Nat) (hw : s.paths.bounded = true) :
    (State.selfTest s failing c).paths.bounded = true := by
  unfold State.selfTest
  (repeat' split) <;> simp (maxDischargeDepth := 40) [*]

@[simp] theorem State.selfTests_staging (s : State) (failing : List Nat) :
    (State.selfTests s failing).staging = s.staging := by
  unfold State.selfTests
  simp

@[simp] theorem State.selfTests_wf (s : State) (failing : List Nat) (hw : s.mem.wf = true) :
    (State.selfTests s failing).mem.wf = true := by
  unfold State.selfTests
  simp (maxDischargeDepth := 40) +contextual [*]

@[simp] theorem State.selfTests_bounded (s : State) (failing : List Nat) (hw : s.paths.bounded = true) :
    (State.selfTests s failing).paths.bounded = true := by
  unfold State.selfTests
  simp (maxDischargeDepth := 40) +contextual [*]

@[simp] theorem State.startTrowels_stores (s : State) :
    (State.startTrowels s).mem = s.mem ∧ (State.startTrowels s).staging = s.staging := by
  unfold State.startTrowels
  simp

@[simp] theorem State.startTrowels_bounded (s : State) (hw : s.paths.bounded = true) :
    (State.startTrowels s).paths.bounded = true := by
  unfold State.startTrowels
  refine foldlWf_paths _ (fun s a h => ?_) _ _ ?_ <;> (repeat' split) <;> simp (maxDischargeDepth := 40) [*]

@[simp] theorem State.operational_staging (s : State) (longest : Nat) :
    (State.operational s longest).staging = s.staging := by
  unfold State.operational
  dsimp only
  (repeat' split) <;> simp

@[simp] theorem State.operational_wf (s : State) (longest : Nat) (hw : s.mem.wf = true) :
    (State.operational s longest).mem.wf = true := by
  unfold State.operational
  dsimp only
  (repeat' split) <;> simp (maxDischargeDepth := 40) [*]

@[simp] theorem State.operational_bounded (s : State) (longest : Nat) (hw : s.paths.bounded = true) :
    (State.operational s longest).paths.bounded = true := by
  unfold State.operational
  dsimp only
  (repeat' split) <;> simp (maxDischargeDepth := 40) [*]

theorem State.chooseSlot_wf' {s t : State} {o : Option Nat} (h : s.chooseSlot = (o, t)) (hw : s.mem.wf = true) :
    t.mem.wf = true := by
  have h' : s.chooseSlot.2.mem.wf = true := by simp [hw]
  rw [h] at h'
  exact h'

theorem State.beginAttempt_wf' (s : State) (hw : s.mem.wf = true) : s.beginAttempt.countAttempt.mem.wf = true := by
  simp (maxDischargeDepth := 40) [hw]

@[simp] theorem State.attempt_wf (s : State) (failing : Option (List Nat)) (hw : s.mem.wf = true) :
    (s.attempt failing).mem.wf = true := by
  unfold State.attempt
  extract_lets s1 awake
  split
  · simp (maxDischargeDepth := 40) [awake, s1, hw]
  · split
    · rename_i h
      have ht := State.chooseSlot_wf' h (State.beginAttempt_wf' s hw)
      simp (maxDischargeDepth := 40) [ht]
    · rename_i h
      have ht := State.chooseSlot_wf' h (State.beginAttempt_wf' s hw)
      split <;> simp (maxDischargeDepth := 40) [awake, ht]

theorem State.chooseSlot_stagingWf' {s t : State} {o : Option Nat} (h : s.chooseSlot = (o, t)) (hw : s.staging.wf = true) :
    t.staging.wf = true := by
  have h' : s.chooseSlot.2.staging.wf = true := by simp [hw]
  rw [h] at h'
  exact h'

theorem State.beginAttempt_stagingWf' (s : State) (hw : s.staging.wf = true) : s.beginAttempt.countAttempt.staging.wf = true := by
  simp (maxDischargeDepth := 40) [hw]

@[simp] theorem State.attempt_stagingWf (s : State) (failing : Option (List Nat)) (hw : s.staging.wf = true) :
    (s.attempt failing).staging.wf = true := by
  unfold State.attempt
  extract_lets s1 awake
  split
  · simp (maxDischargeDepth := 40) [awake, s1, hw]
  · split
    · rename_i h
      have ht := State.chooseSlot_stagingWf' h (State.beginAttempt_stagingWf' s hw)
      simp (maxDischargeDepth := 40) [ht]
    · rename_i h
      have ht := State.chooseSlot_stagingWf' h (State.beginAttempt_stagingWf' s hw)
      split <;> simp (maxDischargeDepth := 40) [awake, ht]

theorem State.chooseSlot_bounded' {s t : State} {o : Option Nat} (h : s.chooseSlot = (o, t)) (hw : s.paths.bounded = true) :
    t.paths.bounded = true := by
  have h' : s.chooseSlot.2.paths.bounded = true := by simp [hw]
  rw [h] at h'
  exact h'

theorem State.beginAttempt_bounded' (s : State) (hw : s.paths.bounded = true) : s.beginAttempt.countAttempt.paths.bounded = true := by
  simp (maxDischargeDepth := 40) [hw]

@[simp] theorem State.attempt_bounded (s : State) (failing : Option (List Nat)) (hw : s.paths.bounded = true) :
    (s.attempt failing).paths.bounded = true := by
  unfold State.attempt
  extract_lets s1 awake
  split
  · simp (maxDischargeDepth := 40) [awake, s1, hw]
  · split
    · rename_i h
      have ht := State.chooseSlot_bounded' h (State.beginAttempt_bounded' s hw)
      simp (maxDischargeDepth := 40) [ht]
    · rename_i h
      have ht := State.chooseSlot_bounded' h (State.beginAttempt_bounded' s hw)
      split <;> simp (maxDischargeDepth := 40) [awake, ht]

@[simp] theorem State.startUp_wf (s : State) (failing : List Nat) (hw : s.mem.wf = true) :
    (State.startUp s failing).mem.wf = true := by
  unfold State.startUp
  simp (maxDischargeDepth := 40) [*]

@[simp] theorem State.startUp_stagingWf (s : State) (failing : List Nat) (hw : s.staging.wf = true) :
    (State.startUp s failing).staging.wf = true := by
  unfold State.startUp
  simp (maxDischargeDepth := 40) [*]

@[simp] theorem State.startUp_bounded (s : State) (failing : List Nat) (hw : s.paths.bounded = true) :
    (State.startUp s failing).paths.bounded = true := by
  unfold State.startUp
  simp (maxDischargeDepth := 40) [*]

@[simp] theorem State.noticeSupply_stores (s : State) :
    (State.noticeSupply s).mem = s.mem ∧ (State.noticeSupply s).staging = s.staging := by
  unfold State.noticeSupply
  (repeat' split) <;> simp

@[simp] theorem State.noticeSupply_bounded (s : State) (hw : s.paths.bounded = true) :
    (State.noticeSupply s).paths.bounded = true := by
  unfold State.noticeSupply
  (repeat' split) <;> simp (maxDischargeDepth := 40) [*]

@[simp] theorem State.endWake_stores (s : State) (src : Nat) (source : Option Nat) :
    (State.endWake s src source).mem = s.mem ∧ (State.endWake s src source).staging = s.staging := by
  unfold State.endWake
  (repeat' split) <;> simp

@[simp] theorem State.endWake_bounded (s : State) (src : Nat) (source : Option Nat) (hw : s.paths.bounded = true) :
    (State.endWake s src source).paths.bounded = true := by
  unfold State.endWake
  (repeat' split) <;> simp (maxDischargeDepth := 40) [*]

@[simp] theorem State.wake_wf (s : State) (source : Option Nat) (hw : s.mem.wf = true) :
    (State.wake s source).mem.wf = true := by
  unfold State.wake
  (repeat' split) <;> simp (maxDischargeDepth := 40) [*]

@[simp] theorem State.wake_stagingWf (s : State) (source : Option Nat) (hw : s.staging.wf = true) :
    (State.wake s source).staging.wf = true := by
  unfold State.wake
  (repeat' split) <;> simp (maxDischargeDepth := 40) [*]

@[simp] theorem State.wake_bounded (s : State) (source : Option Nat) (hw : s.paths.bounded = true) :
    (State.wake s source).paths.bounded = true := by
  unfold State.wake
  (repeat' split) <;> simp (maxDischargeDepth := 40) [*]

@[simp] theorem State.resetPin_wf (s : State) (low : Nat) (hw : s.mem.wf = true) :
    (State.resetPin s low).mem.wf = true := by
  unfold State.resetPin
  (repeat' split) <;> simp (maxDischargeDepth := 40) [*]

@[simp] theorem State.resetPin_stagingWf (s : State) (low : Nat) (hw : s.staging.wf = true) :
    (State.resetPin s low).staging.wf = true := by
  unfold State.resetPin
  (repeat' split) <;> simp (maxDischargeDepth := 40) [*]

@[simp] theorem State.resetPin_bounded (s : State) (low : Nat) (hw : s.paths.bounded = true) :
    (State.resetPin s low).paths.bounded = true := by
  unfold State.resetPin
  (repeat' split) <;> simp (maxDischargeDepth := 40) [*]

@[simp] theorem State.confirmStart_stores (s : State) :
    (State.confirmStart s).mem = s.mem ∧ (State.confirmStart s).staging = s.staging := by
  unfold State.confirmStart
  simp

@[simp] theorem State.confirmStart_bounded (s : State) (hw : s.paths.bounded = true) :
    (State.confirmStart s).paths.bounded = true := by
  unfold State.confirmStart
  simp (maxDischargeDepth := 40) [*]

@[simp] theorem State.startFails_wf (s : State) (reason detail : Nat) (hw : s.mem.wf = true) :
    (State.startFails s reason detail).mem.wf = true := by
  unfold State.startFails
  dsimp only
  (repeat' split) <;> simp (maxDischargeDepth := 40) [*]

@[simp] theorem State.startFails_stagingWf (s : State) (reason detail : Nat) (hw : s.staging.wf = true) :
    (State.startFails s reason detail).staging.wf = true := by
  unfold State.startFails
  dsimp only
  (repeat' split) <;> simp (maxDischargeDepth := 40) [*]

@[simp] theorem State.startFails_bounded (s : State) (reason detail : Nat) (hw : s.paths.bounded = true) :
    (State.startFails s reason detail).paths.bounded = true := by
  unfold State.startFails
  dsimp only
  (repeat' split) <;> simp (maxDischargeDepth := 40) [*]

@[simp] theorem State.fatalFault_wf (s : State) (cause : Nat) (hw : s.mem.wf = true) :
    (State.fatalFault s cause).mem.wf = true := by
  unfold State.fatalFault
  simp (maxDischargeDepth := 40) [*]

@[simp] theorem State.fatalFault_stagingWf (s : State) (cause : Nat) (hw : s.staging.wf = true) :
    (State.fatalFault s cause).staging.wf = true := by
  unfold State.fatalFault
  simp (maxDischargeDepth := 40) [*]

@[simp] theorem State.fatalFault_bounded (s : State) (cause : Nat) (hw : s.paths.bounded = true) :
    (State.fatalFault s cause).paths.bounded = true := by
  unfold State.fatalFault
  simp (maxDischargeDepth := 40) [*]

@[simp] theorem State.retryStart_wf (s : State) (hw : s.mem.wf = true) : (State.retryStart s).2.mem.wf = true := by
  unfold State.retryStart
  simp (maxDischargeDepth := 40) [*]

@[simp] theorem State.retryStart_stagingWf (s : State) (hw : s.staging.wf = true) :
    (State.retryStart s).2.staging.wf = true := by
  unfold State.retryStart
  simp (maxDischargeDepth := 40) [*]

@[simp] theorem State.retryStart_bounded (s : State) (hw : s.paths.bounded = true) :
    (State.retryStart s).2.paths.bounded = true := by
  unfold State.retryStart
  simp (maxDischargeDepth := 40) [*]

@[simp] theorem State.selectSlot_stores (s : State) (v : Nat) :
    (State.selectSlot s v).2.mem = s.mem ∧ (State.selectSlot s v).2.staging = s.staging := by
  unfold State.selectSlot
  simp

@[simp] theorem State.selectSlot_bounded (s : State) (v : Nat) (hw : s.paths.bounded = true) :
    (State.selectSlot s v).2.paths.bounded = true := by
  unfold State.selectSlot
  simp (maxDischargeDepth := 40) [*]

@[simp] theorem State.writeSlot_stores (s : State) (path : Nat) (b : Bytes) :
    (State.writeSlot s path b).2.mem = s.mem ∧ (State.writeSlot s path b).2.staging = s.staging := by
  unfold State.writeSlot
  dsimp only
  (repeat' split) <;> simp

@[simp] theorem State.writeSlot_bounded (s : State) (path : Nat) (b : Bytes) (hw : s.paths.bounded = true) :
    (State.writeSlot s path b).2.paths.bounded = true := by
  unfold State.writeSlot
  dsimp only
  (repeat' split) <;> simp (maxDischargeDepth := 40) [*]

@[simp] theorem State.stageSlot_stores (s : State) (path n : Nat) :
    (State.stageSlot s path n).2.mem = s.mem ∧ (State.stageSlot s path n).2.staging = s.staging := by
  unfold State.stageSlot
  simp

@[simp] theorem State.stageSlot_bounded (s : State) (path n : Nat) (hw : s.paths.bounded = true) :
    (State.stageSlot s path n).2.paths.bounded = true := by
  unfold State.stageSlot
  simp (maxDischargeDepth := 40) [*]

@[simp] theorem State.diagnose_staging (s : State) (test : Nat) (failing : List Nat) :
    (State.diagnose s test failing).2.staging = s.staging := by
  unfold State.diagnose
  simp

@[simp] theorem State.diagnose_wf (s : State) (test : Nat) (failing : List Nat) (hw : s.mem.wf = true) :
    (State.diagnose s test failing).2.mem.wf = true := by
  unfold State.diagnose
  simp (maxDischargeDepth := 40) [*]

@[simp] theorem State.diagnose_bounded (s : State) (test : Nat) (failing : List Nat) (hw : s.paths.bounded = true) :
    (State.diagnose s test failing).2.paths.bounded = true := by
  unfold State.diagnose
  simp (maxDischargeDepth := 40) [*]

@[simp] theorem State.armFirmware_stores (c : Nat) (s : State) :
    (State.armFirmware c s).mem = s.mem ∧ (State.armFirmware c s).staging = s.staging := by
  unfold State.armFirmware
  simp

@[simp] theorem State.armFirmware_bounded (c : Nat) (s : State) (hw : s.paths.bounded = true) :
    (State.armFirmware c s).paths.bounded = true := by
  unfold State.armFirmware
  simp (maxDischargeDepth := 40) [*]

@[simp] theorem State.activateFirmware_stores (s : State) (path c : Nat) :
    (State.activateFirmware s path c).2.mem = s.mem ∧ (State.activateFirmware s path c).2.staging = s.staging := by
  unfold State.activateFirmware
  dsimp only
  (repeat' split) <;> simp

@[simp] theorem State.activateFirmware_bounded (s : State) (path c : Nat) (hw : s.paths.bounded = true) :
    (State.activateFirmware s path c).2.paths.bounded = true := by
  unfold State.activateFirmware
  dsimp only
  (repeat' split) <;> simp (maxDischargeDepth := 40) +contextual [*]

@[simp] theorem State.activate_stores (s : State) :
    (State.activate s).mem = s.mem ∧ (State.activate s).staging = s.staging := by
  unfold State.activate
  (repeat' split) <;> simp

@[simp] theorem State.activate_bounded (s : State) (hw : s.paths.bounded = true) :
    (State.activate s).paths.bounded = true := by
  unfold State.activate
  (repeat' split) <;> simp (maxDischargeDepth := 40) +contextual [*]

@[simp] theorem State.restartDone_stores (s : State) :
    (State.restartDone s).mem = s.mem ∧ (State.restartDone s).staging = s.staging := by
  unfold State.restartDone
  simp

@[simp] theorem State.restartDone_bounded (s : State) (hw : s.paths.bounded = true) :
    (State.restartDone s).paths.bounded = true := by
  unfold State.restartDone
  simp (maxDischargeDepth := 40) [*]

@[simp] theorem State.noticeActivated_stores (s : State) (course : Nat) :
    (State.noticeActivated s course).mem = s.mem ∧ (State.noticeActivated s course).staging = s.staging := by
  unfold State.noticeActivated
  simp

@[simp] theorem State.noticeActivated_bounded (s : State) (course : Nat) (hw : s.paths.bounded = true) :
    (State.noticeActivated s course).paths.bounded = true := by
  unfold State.noticeActivated
  simp (maxDischargeDepth := 40) [*]

@[simp] theorem State.loadPatch_stores (s : State) (path n : Nat) :
    (State.loadPatch s path n).2.mem = s.mem ∧ (State.loadPatch s path n).2.staging = s.staging := by
  unfold State.loadPatch
  dsimp only
  (repeat' split) <;> simp

@[simp] theorem State.loadPatch_bounded (s : State) (path n : Nat) (hw : s.paths.bounded = true) :
    (State.loadPatch s path n).2.paths.bounded = true := by
  unfold State.loadPatch
  dsimp only
  (repeat' split) <;> simp (maxDischargeDepth := 40) [*]

@[simp] theorem State.armPatch_stores (c : Nat) (s : State) :
    (State.armPatch c s).mem = s.mem ∧ (State.armPatch c s).staging = s.staging := by
  unfold State.armPatch
  simp

@[simp] theorem State.armPatch_bounded (c : Nat) (s : State) (hw : s.paths.bounded = true) :
    (State.armPatch c s).paths.bounded = true := by
  unfold State.armPatch
  simp (maxDischargeDepth := 40) [*]

@[simp] theorem State.swapPatch_stores (s : State) :
    (State.swapPatch s).mem = s.mem ∧ (State.swapPatch s).staging = s.staging := by
  unfold State.swapPatch
  (repeat' split) <;> simp

@[simp] theorem State.swapPatch_bounded (s : State) (hw : s.paths.bounded = true) :
    (State.swapPatch s).paths.bounded = true := by
  unfold State.swapPatch
  (repeat' split) <;> simp (maxDischargeDepth := 40) [*]

end Sys2Proof.Machine
end

