-- ==== Sys2Proof/Laws/Bond.lean ====
section
/-! SUPPORT. What the operations of Machine/Bond.lean leave alone and keep: the addressed memories that they do not
write are as they were, those that they write stay canonical, and the queues of notices stay within their bound. -/

namespace Sys2Proof.Machine

@[simp] theorem State.mapBond_stores (s : State) (f : Bond → Bond) :
    (State.mapBond s f).mem = s.mem ∧ (State.mapBond s f).staging = s.staging := by
  unfold State.mapBond
  simp

@[simp] theorem State.mapBond_bounded (s : State) (f : Bond → Bond) (hw : s.paths.bounded = true) :
    (State.mapBond s f).paths.bounded = true := by
  unfold State.mapBond
  simp (maxDischargeDepth := 40) [*]

@[simp] theorem State.sendSequence_stores (s : State) (slot : Nat) :
    (State.sendSequence s slot).mem = s.mem ∧ (State.sendSequence s slot).staging = s.staging := by
  unfold State.sendSequence
  simp

@[simp] theorem State.sendSequence_bounded (s : State) (slot : Nat) (hw : s.paths.bounded = true) :
    (State.sendSequence s slot).paths.bounded = true := by
  unfold State.sendSequence
  simp (maxDischargeDepth := 40) [*]

@[simp] theorem State.mirrorChanged_stores (s : State) (slot : Nat) :
    (State.mirrorChanged s slot).mem = s.mem ∧ (State.mirrorChanged s slot).staging = s.staging := by
  unfold State.mirrorChanged
  simp

@[simp] theorem State.mirrorChanged_bounded (s : State) (slot : Nat) (hw : s.paths.bounded = true) :
    (State.mirrorChanged s slot).paths.bounded = true := by
  unfold State.mirrorChanged
  simp (maxDischargeDepth := 40) [*]

@[simp] theorem State.endMirrorCourse_stores (s : State) (course : Nat) :
    (State.endMirrorCourse s course).mem = s.mem ∧ (State.endMirrorCourse s course).staging = s.staging := by
  unfold State.endMirrorCourse
  simp

@[simp] theorem State.endMirrorCourse_bounded (s : State) (course : Nat) (hw : s.paths.bounded = true) :
    (State.endMirrorCourse s course).paths.bounded = true := by
  unfold State.endMirrorCourse
  simp (maxDischargeDepth := 40) [*]

@[simp] theorem State.mirrorCourse_stores (s : State) :
    (State.mirrorCourse s).mem = s.mem ∧ (State.mirrorCourse s).staging = s.staging := by
  unfold State.mirrorCourse
  simp

@[simp] theorem State.mirrorCourse_bounded (s : State) (hw : s.paths.bounded = true) :
    (State.mirrorCourse s).paths.bounded = true := by
  unfold State.mirrorCourse
  simp (maxDischargeDepth := 40) +contextual [*]

@[simp] theorem State.pair_stores (v : Nat) (s : State) :
    (State.pair v s).mem = s.mem ∧ (State.pair v s).staging = s.staging := by
  unfold State.pair
  simp

@[simp] theorem State.pair_bounded (v : Nat) (s : State) (hw : s.paths.bounded = true) :
    (State.pair v s).paths.bounded = true := by
  unfold State.pair
  simp (maxDischargeDepth := 40) [*]

@[simp] theorem State.solo_stores (s : State) : (State.solo s).mem = s.mem ∧ (State.solo s).staging = s.staging := by
  unfold State.solo
  simp

@[simp] theorem State.solo_bounded (s : State) (hw : s.paths.bounded = true) :
    (State.solo s).paths.bounded = true := by
  unfold State.solo
  refine foldlWf_paths _ (fun s a h => ?_) _ _ ?_ <;> (repeat' split) <;> simp (maxDischargeDepth := 40) [*]

@[simp] theorem State.endPairing_stores (s : State) :
    (State.endPairing s).mem = s.mem ∧ (State.endPairing s).staging = s.staging := by
  unfold State.endPairing
  simp

@[simp] theorem State.endPairing_bounded (s : State) (hw : s.paths.bounded = true) :
    (State.endPairing s).paths.bounded = true := by
  unfold State.endPairing
  simp (maxDischargeDepth := 40) [*]

@[simp] theorem State.writeBondMode_stores (s : State) (v : Nat) :
    (State.writeBondMode s v).2.mem = s.mem ∧ (State.writeBondMode s v).2.staging = s.staging := by
  unfold State.writeBondMode
  simp

@[simp] theorem State.writeBondMode_bounded (s : State) (v : Nat) (hw : s.paths.bounded = true) :
    (State.writeBondMode s v).2.paths.bounded = true := by
  unfold State.writeBondMode
  (repeat' split) <;> simp_all (maxDischargeDepth := 40)

@[simp] theorem State.closeCopy_stores (s : State) (slot : Nat) :
    (State.closeCopy s slot).mem = s.mem ∧ (State.closeCopy s slot).staging = s.staging := by
  unfold State.closeCopy
  simp

@[simp] theorem State.closeCopy_bounded (s : State) (slot : Nat) (hw : s.paths.bounded = true) :
    (State.closeCopy s slot).paths.bounded = true := by
  unfold State.closeCopy
  simp (maxDischargeDepth := 40) [*]

@[simp] theorem State.copySlot_stores (s : State) (slot : Nat) :
    (State.copySlot s slot).mem = s.mem ∧ (State.copySlot s slot).staging = s.staging := by
  unfold State.copySlot
  simp

@[simp] theorem State.copySlot_bounded (s : State) (slot : Nat) (hw : s.paths.bounded = true) :
    (State.copySlot s slot).paths.bounded = true := by
  unfold State.copySlot
  simp (maxDischargeDepth := 40) [*]

@[simp] theorem State.mirrorTile_stores (s : State) (x : Nat × Nat × Nat × Nat) (rest : List
    (Nat × Nat × Nat × Nat)) :
    (State.mirrorTile s x rest).mem = s.mem ∧ (State.mirrorTile s x rest).staging = s.staging := by
  unfold State.mirrorTile
  simp

@[simp] theorem State.mirrorTile_bounded (s : State) (x : Nat × Nat × Nat × Nat) (rest : List
    (Nat × Nat × Nat × Nat)) (hw : s.paths.bounded = true) : (State.mirrorTile s x rest).paths.bounded = true := by
  unfold State.mirrorTile
  simp (maxDischargeDepth := 40) [*]

@[simp] theorem State.mirrorTiles_stores (s : State) (fuel flits : Nat) :
    (State.mirrorTiles s fuel flits).mem = s.mem ∧ (State.mirrorTiles s fuel flits).staging = s.staging := by
  fun_induction State.mirrorTiles s fuel flits <;> simp_all

@[simp] theorem State.mirrorTiles_bounded (s : State) (fuel flits : Nat) (hw : s.paths.bounded = true) :
    (State.mirrorTiles s fuel flits).paths.bounded = true := by
  fun_induction State.mirrorTiles s fuel flits <;> simp_all (maxDischargeDepth := 40)

@[simp] theorem State.resyncCourse_stores (s : State) :
    (State.resyncCourse s).mem = s.mem ∧ (State.resyncCourse s).staging = s.staging := by
  unfold State.resyncCourse
  simp

@[simp] theorem State.resyncCourse_bounded (s : State) (hw : s.paths.bounded = true) :
    (State.resyncCourse s).paths.bounded = true := by
  unfold State.resyncCourse
  simp (maxDischargeDepth := 40) [*]

@[simp] theorem State.startResync_stores (s : State) :
    (State.startResync s).mem = s.mem ∧ (State.startResync s).staging = s.staging := by
  unfold State.startResync
  simp

@[simp] theorem State.startResync_bounded (s : State) (hw : s.paths.bounded = true) :
    (State.startResync s).paths.bounded = true := by
  unfold State.startResync
  refine foldlWf_paths _ (fun s a h => ?_) _ _ ?_ <;> (repeat' split) <;> simp (maxDischargeDepth := 40) [*]

@[simp] theorem State.protect_stores (s : State) :
    (State.protect s).mem = s.mem ∧ (State.protect s).staging = s.staging := by
  unfold State.protect
  simp

@[simp] theorem State.protect_bounded (s : State) (hw : s.paths.bounded = true) :
    (State.protect s).paths.bounded = true := by
  unfold State.protect
  simp (maxDischargeDepth := 40) [*]

@[simp] theorem State.resyncEnds_stores (s : State) :
    (State.resyncEnds s).mem = s.mem ∧ (State.resyncEnds s).staging = s.staging := by
  unfold State.resyncEnds
  simp

@[simp] theorem State.resyncEnds_bounded (s : State) (hw : s.paths.bounded = true) :
    (State.resyncEnds s).paths.bounded = true := by
  unfold State.resyncEnds
  simp (maxDischargeDepth := 40) [*]

@[simp] theorem State.takeMarkOf_stores (s : State) (w : Nat) :
    (State.takeMarkOf s w).mem = s.mem ∧ (State.takeMarkOf s w).staging = s.staging := by
  unfold State.takeMarkOf
  simp

@[simp] theorem State.takeMarkOf_bounded (s : State) (w : Nat) (hw : s.paths.bounded = true) :
    (State.takeMarkOf s w).paths.bounded = true := by
  unfold State.takeMarkOf
  simp (maxDischargeDepth := 40) [*]

@[simp] theorem State.meetPartner_stores (s : State) (w : Nat) :
    (State.meetPartner s w).mem = s.mem ∧ (State.meetPartner s w).staging = s.staging := by
  unfold State.meetPartner
  simp

@[simp] theorem State.meetPartner_bounded (s : State) (w : Nat) (hw : s.paths.bounded = true) :
    (State.meetPartner s w).paths.bounded = true := by
  unfold State.meetPartner
  simp (maxDischargeDepth := 40) [*]

@[simp] theorem State.hear_stores (s : State) (w : Nat) :
    (State.hear s w).mem = s.mem ∧ (State.hear s w).staging = s.staging := by
  unfold State.hear
  simp

@[simp] theorem State.hear_bounded (s : State) (w : Nat) (hw : s.paths.bounded = true) :
    (State.hear s w).paths.bounded = true := by
  unfold State.hear
  simp (maxDischargeDepth := 40) [*]

@[simp] theorem State.heartbeatEnd_stores (s : State) :
    (State.heartbeatEnd s).mem = s.mem ∧ (State.heartbeatEnd s).staging = s.staging := by
  unfold State.heartbeatEnd
  simp

@[simp] theorem State.heartbeatEnd_bounded (s : State) (hw : s.paths.bounded = true) :
    (State.heartbeatEnd s).paths.bounded = true := by
  unfold State.heartbeatEnd
  simp (maxDischargeDepth := 40) [*]

@[simp] theorem State.degrade_stores (s : State) :
    (State.degrade s).mem = s.mem ∧ (State.degrade s).staging = s.staging := by
  unfold State.degrade
  simp

@[simp] theorem State.degrade_bounded (s : State) (hw : s.paths.bounded = true) :
    (State.degrade s).paths.bounded = true := by
  unfold State.degrade
  simp (maxDischargeDepth := 40) [*]

@[simp] theorem State.mirrorFull_stores (s : State) :
    (State.mirrorFull s).mem = s.mem ∧ (State.mirrorFull s).staging = s.staging := by
  unfold State.mirrorFull
  simp

@[simp] theorem State.mirrorFull_bounded (s : State) (hw : s.paths.bounded = true) :
    (State.mirrorFull s).paths.bounded = true := by
  unfold State.mirrorFull
  simp (maxDischargeDepth := 40) [*]

@[simp] theorem State.setShadow_stores (s : State) (slot : Nat) (v : Shadow) :
    (State.setShadow s slot v).mem = s.mem ∧ (State.setShadow s slot v).staging = s.staging := by
  unfold State.setShadow
  simp

@[simp] theorem State.setShadow_bounded (s : State) (slot : Nat) (v : Shadow) (hw : s.paths.bounded = true) :
    (State.setShadow s slot v).paths.bounded = true := by
  unfold State.setShadow
  simp (maxDischargeDepth := 40) [*]

@[simp] theorem State.mirrorAdmit_stores (s : State) (slot : Nat) (r : Bytes) :
    (State.mirrorAdmit s slot r).mem = s.mem ∧ (State.mirrorAdmit s slot r).staging = s.staging := by
  unfold State.mirrorAdmit
  simp

@[simp] theorem State.mirrorAdmit_bounded (s : State) (slot : Nat) (r : Bytes) (hw : s.paths.bounded = true) :
    (State.mirrorAdmit s slot r).paths.bounded = true := by
  unfold State.mirrorAdmit
  simp (maxDischargeDepth := 40) [*]

@[simp] theorem State.mirrorRelease_stores (s : State) (slot : Nat) (r : Bytes) :
    (State.mirrorRelease s slot r).mem = s.mem ∧ (State.mirrorRelease s slot r).staging = s.staging := by
  unfold State.mirrorRelease
  simp

@[simp] theorem State.mirrorRelease_bounded (s : State) (slot : Nat) (r : Bytes) (hw : s.paths.bounded = true) :
    (State.mirrorRelease s slot r).paths.bounded = true := by
  unfold State.mirrorRelease
  simp (maxDischargeDepth := 40) [*]

@[simp] theorem State.keepSequence_stores (s : State) (slot : Nat) (r : Bytes) :
    (State.keepSequence s slot r).mem = s.mem ∧ (State.keepSequence s slot r).staging = s.staging := by
  unfold State.keepSequence
  simp

@[simp] theorem State.keepSequence_bounded (s : State) (slot : Nat) (r : Bytes) (hw : s.paths.bounded = true) :
    (State.keepSequence s slot r).paths.bounded = true := by
  unfold State.keepSequence
  simp (maxDischargeDepth := 40) [*]

@[simp] theorem State.keepDigest_stores (s : State) (slot : Nat) (r : Bytes) :
    (State.keepDigest s slot r).mem = s.mem ∧ (State.keepDigest s slot r).staging = s.staging := by
  unfold State.keepDigest
  simp

@[simp] theorem State.keepDigest_bounded (s : State) (slot : Nat) (r : Bytes) (hw : s.paths.bounded = true) :
    (State.keepDigest s slot r).paths.bounded = true := by
  unfold State.keepDigest
  simp (maxDischargeDepth := 40) [*]

@[simp] theorem State.courseEnded_stores (s : State) (r : Bytes) :
    (State.courseEnded s r).mem = s.mem ∧ (State.courseEnded s r).staging = s.staging := by
  unfold State.courseEnded
  simp

@[simp] theorem State.courseEnded_bounded (s : State) (r : Bytes) (hw : s.paths.bounded = true) :
    (State.courseEnded s r).paths.bounded = true := by
  unfold State.courseEnded
  simp (maxDischargeDepth := 40) [*]

@[simp] theorem State.applyMirror_staging (s : State) (r : Bytes) : (State.applyMirror s r).staging = s.staging := by
  unfold State.applyMirror
  simp

@[simp] theorem State.applyMirror_wf (s : State) (r : Bytes) (hw : s.mem.wf = true) :
    (State.applyMirror s r).mem.wf = true := by
  unfold State.applyMirror
  simp (maxDischargeDepth := 40) [*]

@[simp] theorem State.applyMirror_bounded (s : State) (r : Bytes) (hw : s.paths.bounded = true) :
    (State.applyMirror s r).paths.bounded = true := by
  unfold State.applyMirror
  simp (maxDischargeDepth := 40) [*]

@[simp] theorem State.takeMirror_staging (s : State) (r : Bytes) : (State.takeMirror s r).staging = s.staging := by
  unfold State.takeMirror
  simp

@[simp] theorem State.takeMirror_wf (s : State) (r : Bytes) (hw : s.mem.wf = true) :
    (State.takeMirror s r).mem.wf = true := by
  unfold State.takeMirror
  simp (maxDischargeDepth := 40) [*]

@[simp] theorem State.takeMirror_bounded (s : State) (r : Bytes) (hw : s.paths.bounded = true) :
    (State.takeMirror s r).paths.bounded = true := by
  unfold State.takeMirror
  simp (maxDischargeDepth := 40) [*]

@[simp] theorem State.lossTakeover_stores (s : State) (cause : Nat) :
    (State.lossTakeover s cause).mem = s.mem ∧ (State.lossTakeover s cause).staging = s.staging := by
  unfold State.lossTakeover
  simp

@[simp] theorem State.lossTakeover_bounded (s : State) (cause : Nat) (hw : s.paths.bounded = true) :
    (State.lossTakeover s cause).paths.bounded = true := by
  unfold State.lossTakeover
  simp (maxDischargeDepth := 40) [*]

@[simp] theorem State.losePartner_stores (s : State) :
    (State.losePartner s).mem = s.mem ∧ (State.losePartner s).staging = s.staging := by
  unfold State.losePartner
  simp

@[simp] theorem State.losePartner_bounded (s : State) (hw : s.paths.bounded = true) :
    (State.losePartner s).paths.bounded = true := by
  unfold State.losePartner
  simp (maxDischargeDepth := 40) +contextual [*]

@[simp] theorem State.resumeSlot_stores (s : State) (t rm slot : Nat) :
    (State.resumeSlot s t rm slot).mem = s.mem ∧ (State.resumeSlot s t rm slot).staging = s.staging := by
  unfold State.resumeSlot
  simp

@[simp] theorem State.resumeSlot_bounded (s : State) (t rm slot : Nat) (hw : s.paths.bounded = true) :
    (State.resumeSlot s t rm slot).paths.bounded = true := by
  unfold State.resumeSlot
  simp (maxDischargeDepth := 40) [*]

@[simp] theorem State.abortTaken_stores (s : State) (rm slot reason : Nat) :
    (State.abortTaken s rm slot reason).mem = s.mem ∧ (State.abortTaken s rm slot reason).staging = s.staging := by
  unfold State.abortTaken
  simp

@[simp] theorem State.abortTaken_bounded (s : State) (rm slot reason : Nat) (hw : s.paths.bounded = true) :
    (State.abortTaken s rm slot reason).paths.bounded = true := by
  unfold State.abortTaken
  simp (maxDischargeDepth := 40) [*]

@[simp] theorem State.takeSlot_stores (t rm : Nat) (e : State × Nat × Nat) (slot : Nat) :
    (State.takeSlot t rm e slot).1.mem = e.1.mem ∧ (State.takeSlot t rm e slot).1.staging = e.1.staging := by
  unfold State.takeSlot
  split <;> simp

@[simp] theorem State.takeSlot_bounded (t rm : Nat) (e : State × Nat × Nat) (slot : Nat)
    (hw : e.1.paths.bounded = true) : (State.takeSlot t rm e slot).1.paths.bounded = true := by
  unfold State.takeSlot
  (repeat' split) <;> simp (maxDischargeDepth := 40) [*]

theorem foldl_takeSlot (t rm : Nat) (l : List Nat) (e : State × Nat × Nat) :
    (l.foldl (State.takeSlot t rm) e).1.mem = e.1.mem ∧ (l.foldl (State.takeSlot t rm) e).1.staging = e.1.staging := by
  induction l generalizing e with
  | nil => exact ⟨rfl, rfl⟩
  | cons i l ih => exact ⟨(ih _).1.trans (by simp), (ih _).2.trans (by simp)⟩

@[simp] theorem State.takeOver_stores (s : State) :
    (s.takeOver).mem = s.mem ∧ (s.takeOver).staging = s.staging := by
  unfold State.takeOver
  dsimp only
  (repeat' split) <;> simp [foldl_takeSlot]

theorem foldlWf_takeSlot (t rm : Nat) (l : List Nat) (e : State × Nat × Nat) (hw : e.1.paths.bounded = true) :
    (l.foldl (State.takeSlot t rm) e).1.paths.bounded = true := by
  induction l generalizing e with
  | nil => exact hw
  | cons i l ih => exact ih _ (State.takeSlot_bounded _ _ _ _ hw)

@[simp] theorem State.takeOver_bounded (s : State) (hw : s.paths.bounded = true) : s.takeOver.paths.bounded = true := by
  unfold State.takeOver
  dsimp only
  (repeat' split) <;> simp (maxDischargeDepth := 40) [hw, foldlWf_takeSlot]

@[simp] theorem State.takenOver_stores (s : State) :
    (State.takenOver s).mem = s.mem ∧ (State.takenOver s).staging = s.staging := by
  unfold State.takenOver
  simp

@[simp] theorem State.takenOver_bounded (s : State) (hw : s.paths.bounded = true) :
    (State.takenOver s).paths.bounded = true := by
  unfold State.takenOver
  simp (maxDischargeDepth := 40) [*]

@[simp] theorem State.retryHeld_stores (s : State) (h : Held) :
    (State.retryHeld s h).2.mem = s.mem ∧ (State.retryHeld s h).2.staging = s.staging := by
  unfold State.retryHeld
  simp

@[simp] theorem State.retryHeld_bounded (s : State) (h : Held) (hw : s.paths.bounded = true) :
    (State.retryHeld s h).2.paths.bounded = true := by
  unfold State.retryHeld
  simp (maxDischargeDepth := 40) [*]

@[simp] theorem State.releaseHeldRequest_stores (s : State) (h : Held) :
    (State.releaseHeldRequest s h).mem = s.mem ∧ (State.releaseHeldRequest s h).staging = s.staging := by
  unfold State.releaseHeldRequest
  simp

@[simp] theorem State.releaseHeldRequest_bounded (s : State) (h : Held) (hw : s.paths.bounded = true) :
    (State.releaseHeldRequest s h).paths.bounded = true := by
  unfold State.releaseHeldRequest
  simp (maxDischargeDepth := 40) [*]

@[simp] theorem State.releaseRequests_stores (s : State) :
    (State.releaseRequests s).mem = s.mem ∧ (State.releaseRequests s).staging = s.staging := by
  unfold State.releaseRequests
  simp

@[simp] theorem State.releaseRequests_bounded (s : State) (hw : s.paths.bounded = true) :
    (State.releaseRequests s).paths.bounded = true := by
  unfold State.releaseRequests
  simp (maxDischargeDepth := 40) +contextual [*]

end Sys2Proof.Machine
end

