-- ==== Sys2Proof/Laws/Security.lean ====
section
/-! SUPPORT. What the operations of Machine/Security.lean leave alone and keep: the addressed memories that they do not
write are as they were, those that they write stay canonical, and the queues of notices stay within their bound. -/

namespace Sys2Proof.Machine

@[simp] theorem State.beginReport_stores (s : State) (nonce : Bytes) :
    (State.beginReport s nonce).2.mem = s.mem ∧ (State.beginReport s nonce).2.staging = s.staging := by
  unfold State.beginReport
  simp

@[simp] theorem State.beginReport_bounded (s : State) (nonce : Bytes) (hw : s.paths.bounded = true) :
    (State.beginReport s nonce).2.paths.bounded = true := by
  unfold State.beginReport
  simp (maxDischargeDepth := 40) [*]

@[simp] theorem State.captureReport_stores (s : State) :
    (State.captureReport s).mem = s.mem ∧ (State.captureReport s).staging = s.staging := by
  unfold State.captureReport
  (repeat' split) <;> simp

@[simp] theorem State.captureReport_bounded (s : State) (hw : s.paths.bounded = true) :
    (State.captureReport s).paths.bounded = true := by
  unfold State.captureReport
  (repeat' split) <;> simp (maxDischargeDepth := 40) [*]

@[simp] theorem State.reportDone_stores (s : State) :
    (State.reportDone s).mem = s.mem ∧ (State.reportDone s).staging = s.staging := by
  unfold State.reportDone
  dsimp only
  (repeat' split) <;> simp

@[simp] theorem State.reportDone_bounded (s : State) (hw : s.paths.bounded = true) :
    (State.reportDone s).paths.bounded = true := by
  unfold State.reportDone
  dsimp only
  (repeat' split) <;> simp (maxDischargeDepth := 40) [*]

@[simp] theorem State.answerSpdm_stores (s : State) (r : SpdmRequest) :
    (State.answerSpdm s r).mem = s.mem ∧ (State.answerSpdm s r).staging = s.staging := by
  unfold State.answerSpdm
  (repeat' split) <;> simp

@[simp] theorem State.answerSpdm_bounded (s : State) (r : SpdmRequest) (hw : s.paths.bounded = true) :
    (State.answerSpdm s r).paths.bounded = true := by
  unfold State.answerSpdm
  (repeat' split) <;> simp (maxDischargeDepth := 40) [*]

@[simp] theorem State.setOwner_stores (s : State) (o : Option Bytes) (kind : Nat) :
    (State.setOwner s o kind).mem = s.mem ∧ (State.setOwner s o kind).staging = s.staging := by
  unfold State.setOwner
  simp

@[simp] theorem State.setOwner_bounded (s : State) (o : Option Bytes) (kind : Nat) (hw : s.paths.bounded = true) :
    (State.setOwner s o kind).paths.bounded = true := by
  unfold State.setOwner
  simp (maxDischargeDepth := 40) [*]

@[simp] theorem State.enroll_stores (s : State) (value : Bytes) :
    (State.enroll s value).2.mem = s.mem ∧ (State.enroll s value).2.staging = s.staging := by
  unfold State.enroll
  simp

@[simp] theorem State.enroll_bounded (s : State) (value : Bytes) (hw : s.paths.bounded = true) :
    (State.enroll s value).2.paths.bounded = true := by
  unfold State.enroll
  simp (maxDischargeDepth := 40) [*]

@[simp] theorem State.changeOwner_stores (s : State) (path : Nat) (value : Bytes) :
    (State.changeOwner s path value).2.mem = s.mem ∧ (State.changeOwner s path value).2.staging = s.staging := by
  unfold State.changeOwner
  simp

@[simp] theorem State.changeOwner_bounded (s : State) (path : Nat) (value : Bytes) (hw : s.paths.bounded = true) :
    (State.changeOwner s path value).2.paths.bounded = true := by
  unfold State.changeOwner
  (repeat' split) <;> simp_all (maxDischargeDepth := 40)

@[simp] theorem State.moveLifecycle_stores (s : State) (target : Nat) :
    (State.moveLifecycle s target).mem = s.mem ∧ (State.moveLifecycle s target).staging = s.staging := by
  unfold State.moveLifecycle
  simp

@[simp] theorem State.moveLifecycle_bounded (s : State) (target : Nat) (hw : s.paths.bounded = true) :
    (State.moveLifecycle s target).paths.bounded = true := by
  unfold State.moveLifecycle
  simp (maxDischargeDepth := 40) [*]

@[simp] theorem State.takeLifecycle_stores (s : State) (path : Nat) (value : Bytes) :
    (State.takeLifecycle s path value).2.mem = s.mem ∧ (State.takeLifecycle s path value).2.staging = s.staging := by
  unfold State.takeLifecycle
  simp

@[simp] theorem State.takeLifecycle_bounded (s : State) (path : Nat) (value : Bytes) (hw : s.paths.bounded = true) :
    (State.takeLifecycle s path value).2.paths.bounded = true := by
  unfold State.takeLifecycle
  (repeat' split) <;> simp_all (maxDischargeDepth := 40)

@[simp] theorem State.requestLevel_stores (s : State) (v : Via) (l : Nat) :
    (State.requestLevel s v l).2.mem = s.mem ∧ (State.requestLevel s v l).2.staging = s.staging := by
  unfold State.requestLevel
  simp

@[simp] theorem State.requestLevel_bounded (s : State) (v : Via) (l : Nat) (hw : s.paths.bounded = true) :
    (State.requestLevel s v l).2.paths.bounded = true := by
  unfold State.requestLevel
  simp (maxDischargeDepth := 40) [*]

@[simp] theorem State.takeToken_stores (s : State) (v : Via) (value : Bytes) :
    (State.takeToken s v value).2.mem = s.mem ∧ (State.takeToken s v value).2.staging = s.staging := by
  unfold State.takeToken
  simp

@[simp] theorem State.takeToken_bounded (s : State) (v : Via) (value : Bytes) (hw : s.paths.bounded = true) :
    (State.takeToken s v value).2.paths.bounded = true := by
  unfold State.takeToken
  (repeat' split) <;> simp_all (maxDischargeDepth := 40)

@[simp] theorem State.debugWrite_staging (s : State) (value : Bytes) :
    (State.debugWrite s value).2.staging = s.staging := by
  unfold State.debugWrite
  simp

@[simp] theorem State.debugWrite_wf (s : State) (value : Bytes) (hw : s.mem.wf = true) :
    (State.debugWrite s value).2.mem.wf = true := by
  unfold State.debugWrite
  simp (maxDischargeDepth := 40) [*]

@[simp] theorem State.debugWrite_bounded (s : State) (value : Bytes) (hw : s.paths.bounded = true) :
    (State.debugWrite s value).2.paths.bounded = true := by
  unfold State.debugWrite
  simp (maxDischargeDepth := 40) [*]

@[simp] theorem State.startTrace_stores (s : State) :
    (State.startTrace s).mem = s.mem ∧ (State.startTrace s).staging = s.staging := by
  unfold State.startTrace
  simp

@[simp] theorem State.startTrace_bounded (s : State) (hw : s.paths.bounded = true) :
    (State.startTrace s).paths.bounded = true := by
  unfold State.startTrace
  simp (maxDischargeDepth := 40) [*]

@[simp] theorem State.commitVersion_stores (s : State) :
    (State.commitVersion s).2.mem = s.mem ∧ (State.commitVersion s).2.staging = s.staging := by
  unfold State.commitVersion
  simp

@[simp] theorem State.commitVersion_bounded (s : State) (hw : s.paths.bounded = true) :
    (State.commitVersion s).2.paths.bounded = true := by
  unfold State.commitVersion
  simp (maxDischargeDepth := 40) [*]

@[simp] theorem State.judgeNotAfter_stores (s : State) :
    (State.judgeNotAfter s).mem = s.mem ∧ (State.judgeNotAfter s).staging = s.staging := by
  unfold State.judgeNotAfter
  simp

@[simp] theorem State.judgeNotAfter_bounded (s : State) (hw : s.paths.bounded = true) :
    (State.judgeNotAfter s).paths.bounded = true := by
  unfold State.judgeNotAfter
  simp (maxDischargeDepth := 40) [*]

end Sys2Proof.Machine
end

