-- ==== Sys2Proof/Laws/Due.lean ====
section
/-! SUPPORT. What the operations of Machine/Due.lean leave alone and keep: the addressed memories that they do not
write are as they were, those that they write stay canonical, and the queues of notices stay within their bound. -/

namespace Sys2Proof.Machine

@[simp] theorem State.noticeWaiting_stores (s : State) (x : Nat) :
    (State.noticeWaiting s x).mem = s.mem ∧ (State.noticeWaiting s x).staging = s.staging := by
  unfold State.noticeWaiting
  (repeat' split) <;> simp

@[simp] theorem State.noticeWaiting_bounded (s : State) (x : Nat) (hw : s.paths.bounded = true) :
    (State.noticeWaiting s x).paths.bounded = true := by
  unfold State.noticeWaiting
  (repeat' split) <;> simp (maxDischargeDepth := 40) +contextual [*]

@[simp] theorem State.slipNext_stores (s : State) (cause : Nat) (serving : Bool) :
    (State.slipNext s cause serving).mem = s.mem ∧ (State.slipNext s cause serving).staging = s.staging := by
  unfold State.slipNext
  simp

@[simp] theorem State.slipNext_bounded (s : State) (cause : Nat) (serving : Bool) (hw : s.paths.bounded = true) :
    (State.slipNext s cause serving).paths.bounded = true := by
  unfold State.slipNext
  simp (maxDischargeDepth := 40) [*]

@[simp] theorem State.consume_stores (s : State) (landed : Map Nat) (upto : Nat) :
    (State.consume s landed upto).mem = s.mem ∧ (State.consume s landed upto).staging = s.staging := by
  unfold State.consume
  refine ⟨(foldl_mem _ (fun s a => ?_) _ _).trans ?_, (foldl_staging _ (fun s a => ?_) _ _).trans ?_⟩ <;>
    (repeat' split) <;> simp

@[simp] theorem State.consume_bounded (s : State) (landed : Map Nat) (upto : Nat) (hw : s.paths.bounded = true) :
    (State.consume s landed upto).paths.bounded = true := by
  unfold State.consume
  refine foldlWf_paths _ (fun s a h => ?_) _ _ ?_ <;> (repeat' split) <;> simp (maxDischargeDepth := 40) [*]

@[simp] theorem State.decideGrout_stores (s : State) (x : Sweep) :
    (State.decideGrout s x).mem = s.mem ∧ (State.decideGrout s x).staging = s.staging := by
  unfold State.decideGrout
  dsimp only
  (repeat' split) <;> simp

@[simp] theorem State.decideGrout_bounded (s : State) (x : Sweep) (hw : s.paths.bounded = true) :
    (State.decideGrout s x).paths.bounded = true := by
  unfold State.decideGrout
  dsimp only
  (repeat' split) <;> simp (maxDischargeDepth := 40) [*]

@[simp] theorem State.settleNext_stores (s : State) :
    (State.settleNext s).mem = s.mem ∧ (State.settleNext s).staging = s.staging := by
  unfold State.settleNext
  dsimp only
  (repeat' split) <;> simp

@[simp] theorem State.settleNext_bounded (s : State) (hw : s.paths.bounded = true) :
    (State.settleNext s).paths.bounded = true := by
  unfold State.settleNext
  dsimp only
  (repeat' split) <;> simp (maxDischargeDepth := 40) [*]

@[simp] theorem State.dueCheck_stores (s : State) :
    (State.dueCheck s).mem = s.mem ∧ (State.dueCheck s).staging = s.staging := by
  unfold State.dueCheck
  simp

@[simp] theorem State.dueCheck_bounded (s : State) (hw : s.paths.bounded = true) :
    (State.dueCheck s).paths.bounded = true := by
  unfold State.dueCheck
  simp (maxDischargeDepth := 40) [*]

@[simp] theorem State.showProgress_stores (s : State) :
    (State.showProgress s).mem = s.mem ∧ (State.showProgress s).staging = s.staging := by
  unfold State.showProgress
  simp

@[simp] theorem State.showProgress_bounded (s : State) (hw : s.paths.bounded = true) :
    (State.showProgress s).paths.bounded = true := by
  unfold State.showProgress
  simp (maxDischargeDepth := 40) [*]

@[simp] theorem State.capture_stores (s : State) :
    (State.capture s).mem = s.mem ∧ (State.capture s).staging = s.staging := by
  unfold State.capture
  simp

@[simp] theorem State.capture_bounded (s : State) (hw : s.paths.bounded = true) :
    (State.capture s).paths.bounded = true := by
  unfold State.capture
  simp (maxDischargeDepth := 40) [*]

@[simp] theorem State.applyPoint_stores (s : State) :
    (State.applyPoint s).mem = s.mem ∧ (State.applyPoint s).staging = s.staging := by
  unfold State.applyPoint
  simp

@[simp] theorem State.applyPoint_bounded (s : State) (hw : s.paths.bounded = true) :
    (State.applyPoint s).paths.bounded = true := by
  unfold State.applyPoint
  simp (maxDischargeDepth := 40) +contextual [*]

@[simp] theorem State.sendMarks_stores (s : State) :
    (State.sendMarks s).mem = s.mem ∧ (State.sendMarks s).staging = s.staging := by
  unfold State.sendMarks
  simp

@[simp] theorem State.sendMarks_bounded (s : State) (hw : s.paths.bounded = true) :
    (State.sendMarks s).paths.bounded = true := by
  unfold State.sendMarks
  simp (maxDischargeDepth := 40) +contextual [*]

@[simp] theorem State.cycle543_stores (s : State) :
    (State.cycle543 s).mem = s.mem ∧ (State.cycle543 s).staging = s.staging := by
  unfold State.cycle543
  simp

@[simp] theorem State.cycle543_bounded (s : State) (hw : s.paths.bounded = true) :
    (State.cycle543 s).paths.bounded = true := by
  unfold State.cycle543
  simp (maxDischargeDepth := 40) [*]

@[simp] theorem State.planStalls_stores (s : State) :
    (State.planStalls s).mem = s.mem ∧ (State.planStalls s).staging = s.staging := by
  unfold State.planStalls
  simp

@[simp] theorem State.planStalls_bounded (s : State) (hw : s.paths.bounded = true) :
    (State.planStalls s).paths.bounded = true := by
  unfold State.planStalls
  simp (maxDischargeDepth := 40) [*]

end Sys2Proof.Machine
end

