-- ==== Sys2Proof/Laws/Timeline.lean ====
section
/-! SUPPORT. What the operations of Machine/Timeline.lean leave alone and keep: the addressed memories that they do not
write are as they were, those that they write stay canonical, and the queues of notices stay within their bound. -/

namespace Sys2Proof.Machine

@[simp] theorem State.takeCount_stores (s : State) (v : Nat) :
    (State.takeCount s v).mem = s.mem ∧ (State.takeCount s v).staging = s.staging := by
  unfold State.takeCount
  simp

@[simp] theorem State.takeCount_bounded (s : State) (v : Nat) (hw : s.paths.bounded = true) :
    (State.takeCount s v).paths.bounded = true := by
  unfold State.takeCount
  simp (maxDischargeDepth := 40) [*]

@[simp] theorem State.loadFreeRun_stores (s : State) :
    (State.loadFreeRun s).mem = s.mem ∧ (State.loadFreeRun s).staging = s.staging := by
  unfold State.loadFreeRun
  (repeat' split) <;> simp

@[simp] theorem State.loadFreeRun_bounded (s : State) (hw : s.paths.bounded = true) :
    (State.loadFreeRun s).paths.bounded = true := by
  unfold State.loadFreeRun
  (repeat' split) <;> simp (maxDischargeDepth := 40) [*]

@[simp] theorem State.islandCourse_stores (s : State) :
    (State.islandCourse s).mem = s.mem ∧ (State.islandCourse s).staging = s.staging := by
  unfold State.islandCourse
  simp

@[simp] theorem State.islandCourse_bounded (s : State) (hw : s.paths.bounded = true) :
    (State.islandCourse s).paths.bounded = true := by
  unfold State.islandCourse
  simp (maxDischargeDepth := 40) [*]

@[simp] theorem State.countSlip_stores (s : State) (cause : Nat) :
    (State.countSlip s cause).mem = s.mem ∧ (State.countSlip s cause).staging = s.staging := by
  unfold State.countSlip
  simp

@[simp] theorem State.countSlip_bounded (s : State) (cause : Nat) (hw : s.paths.bounded = true) :
    (State.countSlip s cause).paths.bounded = true := by
  unfold State.countSlip
  simp (maxDischargeDepth := 40) [*]

@[simp] theorem State.carry_stores (s : State) (k : CourseKind) :
    (State.carry s k).mem = s.mem ∧ (State.carry s k).staging = s.staging := by
  unfold State.carry
  simp

@[simp] theorem State.carry_bounded (s : State) (k : CourseKind) (hw : s.paths.bounded = true) :
    (State.carry s k).paths.bounded = true := by
  unfold State.carry
  simp (maxDischargeDepth := 40) [*]

@[simp] theorem State.execute_staging (s : State) (c : Nat) (k : CourseKind) :
    (State.execute s c k).staging = s.staging := by
  unfold State.execute
  simp

@[simp] theorem State.execute_wf (s : State) (c : Nat) (k : CourseKind) (hw : s.mem.wf = true) :
    (State.execute s c k).mem.wf = true := by
  unfold State.execute
  simp (maxDischargeDepth := 40) +contextual [*]

@[simp] theorem State.execute_bounded (s : State) (c : Nat) (k : CourseKind) (hw : s.paths.bounded = true) :
    (State.execute s c k).paths.bounded = true := by
  unfold State.execute
  simp (maxDischargeDepth := 40) +contextual [*]

@[simp] theorem State.runCourse_staging (s : State) (c : Nat) : (State.runCourse s c).staging = s.staging := by
  unfold State.runCourse
  simp

@[simp] theorem State.runCourse_wf (s : State) (c : Nat) (hw : s.mem.wf = true) :
    (State.runCourse s c).mem.wf = true := by
  unfold State.runCourse
  simp (maxDischargeDepth := 40) [*]

@[simp] theorem State.runCourse_bounded (s : State) (c : Nat) (hw : s.paths.bounded = true) :
    (State.runCourse s c).paths.bounded = true := by
  unfold State.runCourse
  simp (maxDischargeDepth := 40) [*]

@[simp] theorem State.follow_staging (s : State) (k : CourseKind) : (State.follow s k).staging = s.staging := by
  unfold State.follow
  (repeat' split) <;> simp

@[simp] theorem State.follow_wf (s : State) (k : CourseKind) (hw : s.mem.wf = true) :
    (State.follow s k).mem.wf = true := by
  unfold State.follow
  (repeat' split) <;> simp (maxDischargeDepth := 40) [*]

@[simp] theorem State.follow_bounded (s : State) (k : CourseKind) (hw : s.paths.bounded = true) :
    (State.follow s k).paths.bounded = true := by
  unfold State.follow
  (repeat' split) <;> simp (maxDischargeDepth := 40) [*]

@[simp] theorem State.planCourse_staging (s : State) : (State.planCourse s).staging = s.staging := by
  unfold State.planCourse
  dsimp only
  (repeat' split) <;> simp

@[simp] theorem State.planCourse_wf (s : State) (hw : s.mem.wf = true) : (State.planCourse s).mem.wf = true := by
  unfold State.planCourse
  dsimp only
  (repeat' split) <;> simp (maxDischargeDepth := 40) [*]

@[simp] theorem State.planCourse_bounded (s : State) (hw : s.paths.bounded = true) :
    (State.planCourse s).paths.bounded = true := by
  unfold State.planCourse
  dsimp only
  (repeat' split) <;> simp (maxDischargeDepth := 40) [*]

@[simp] theorem State.sendTraining_stores (s : State) (port : Nat) :
    (State.sendTraining s port).mem = s.mem ∧ (State.sendTraining s port).staging = s.staging := by
  unfold State.sendTraining
  simp

@[simp] theorem State.sendTraining_bounded (s : State) (port : Nat) (hw : s.paths.bounded = true) :
    (State.sendTraining s port).paths.bounded = true := by
  unfold State.sendTraining
  simp (maxDischargeDepth := 40) +contextual [*]

@[simp] theorem State.openPort_stores (s : State) (port : Nat) :
    (State.openPort s port).mem = s.mem ∧ (State.openPort s port).staging = s.staging := by
  unfold State.openPort
  simp

@[simp] theorem State.openPort_bounded (s : State) (port : Nat) (hw : s.paths.bounded = true) :
    (State.openPort s port).paths.bounded = true := by
  unfold State.openPort
  simp (maxDischargeDepth := 40) +contextual [*]

@[simp] theorem State.openBond_stores (s : State) :
    (State.openBond s).mem = s.mem ∧ (State.openBond s).staging = s.staging := by
  unfold State.openBond
  simp

@[simp] theorem State.openBond_bounded (s : State) (hw : s.paths.bounded = true) :
    (State.openBond s).paths.bounded = true := by
  unfold State.openBond
  simp (maxDischargeDepth := 40) [*]

@[simp] theorem State.openEngine_stores (s : State) :
    (State.openEngine s).mem = s.mem ∧ (State.openEngine s).staging = s.staging := by
  unfold State.openEngine
  (repeat' split) <;> simp

@[simp] theorem State.openEngine_bounded (s : State) (hw : s.paths.bounded = true) :
    (State.openEngine s).paths.bounded = true := by
  unfold State.openEngine
  (repeat' split) <;> simp (maxDischargeDepth := 40) [*]

@[simp] theorem State.sweepLocal_stores (s : State) :
    (State.sweepLocal s).mem = s.mem ∧ (State.sweepLocal s).staging = s.staging := by
  unfold State.sweepLocal
  simp

@[simp] theorem State.sweepLocal_bounded (s : State) (hw : s.paths.bounded = true) :
    (State.sweepLocal s).paths.bounded = true := by
  unfold State.sweepLocal
  simp (maxDischargeDepth := 40) [*]

@[simp] theorem State.openCourse_staging (s : State) : (State.openCourse s).staging = s.staging := by
  unfold State.openCourse
  simp

@[simp] theorem State.openCourse_wf (s : State) (hw : s.mem.wf = true) : (State.openCourse s).mem.wf = true := by
  unfold State.openCourse
  simp (maxDischargeDepth := 40) [*]

@[simp] theorem State.openCourse_bounded (s : State) (hw : s.paths.bounded = true) : s.openCourse.paths.bounded = true := by
  unfold State.openCourse
  dsimp only
  refine State.sweepLocal_bounded _ (State.sendStatuses_bounded _ (State.openEngine_bounded _ (State.openBond_bounded _
    (foldlWf_paths _ (fun s e h => State.openPort_bounded s _ h) _ _ ?_))))
  split <;> simp (maxDischargeDepth := 40) [hw]

@[simp] theorem State.startCourse_wf (s : State) (hw : s.mem.wf = true) : (State.startCourse s).mem.wf = true := by
  unfold State.startCourse
  (repeat' split) <;> simp (maxDischargeDepth := 40) [*]

@[simp] theorem State.startCourse_stagingWf (s : State) (hw : s.staging.wf = true) :
    (State.startCourse s).staging.wf = true := by
  unfold State.startCourse
  (repeat' split) <;> simp (maxDischargeDepth := 40) [*]

@[simp] theorem State.startCourse_bounded (s : State) (hw : s.paths.bounded = true) :
    (State.startCourse s).paths.bounded = true := by
  unfold State.startCourse
  (repeat' split) <;> simp (maxDischargeDepth := 40) [*]

@[simp] theorem State.rootEpoch_stores (s : State) :
    (State.rootEpoch s).mem = s.mem ∧ (State.rootEpoch s).staging = s.staging := by
  unfold State.rootEpoch
  (repeat' split) <;> simp

@[simp] theorem State.rootEpoch_bounded (s : State) (hw : s.paths.bounded = true) :
    (State.rootEpoch s).paths.bounded = true := by
  unfold State.rootEpoch
  (repeat' split) <;> simp (maxDischargeDepth := 40) [*]

@[simp] theorem State.countPulse_stores (s : State) (phase8 : Int) :
    (State.countPulse s phase8).mem = s.mem ∧ (State.countPulse s phase8).staging = s.staging := by
  unfold State.countPulse
  simp

@[simp] theorem State.countPulse_bounded (s : State) (phase8 : Int) (hw : s.paths.bounded = true) :
    (State.countPulse s phase8).paths.bounded = true := by
  unfold State.countPulse
  simp (maxDischargeDepth := 40) [*]

@[simp] theorem State.epochPort_stores (s : State) (port : Nat) :
    (State.epochPort s port).mem = s.mem ∧ (State.epochPort s port).staging = s.staging := by
  unfold State.epochPort
  simp

@[simp] theorem State.epochPort_bounded (s : State) (port : Nat) (hw : s.paths.bounded = true) :
    (State.epochPort s port).paths.bounded = true := by
  unfold State.epochPort
  simp (maxDischargeDepth := 40) [*]

@[simp] theorem State.epochUnits_stores (s : State) (ber : List (Nat × Nat)) :
    (State.epochUnits s ber).mem = s.mem ∧ (State.epochUnits s ber).staging = s.staging := by
  unfold State.epochUnits
  simp

@[simp] theorem State.epochUnits_bounded (s : State) (ber : List (Nat × Nat)) (hw : s.paths.bounded = true) :
    (State.epochUnits s ber).paths.bounded = true := by
  unfold State.epochUnits
  simp (maxDischargeDepth := 40) +contextual [*]

@[simp] theorem State.epochClock_stores (s : State) (phase8 offset : Int) :
    (State.epochClock s phase8 offset).mem = s.mem ∧ (State.epochClock s phase8 offset).staging = s.staging := by
  unfold State.epochClock
  simp

@[simp] theorem State.epochClock_bounded (s : State) (phase8 offset : Int) (hw : s.paths.bounded = true) :
    (State.epochClock s phase8 offset).paths.bounded = true := by
  unfold State.epochClock
  simp (maxDischargeDepth := 40) [*]

@[simp] theorem State.epochCourse_stores (s : State) (phase8 offset : Int) (ber : List (Nat × Nat)) :
    (State.epochCourse s phase8 offset ber).mem = s.mem ∧ (State.epochCourse s phase8 offset ber).staging = s.staging := by
  unfold State.epochCourse
  simp

@[simp] theorem State.epochCourse_bounded (s : State) (phase8 offset : Int) (ber : List (Nat × Nat))
    (hw : s.paths.bounded = true) : (State.epochCourse s phase8 offset ber).paths.bounded = true := by
  unfold State.epochCourse
  simp (maxDischargeDepth := 40) [*]

end Sys2Proof.Machine
end

