-- ==== Sys2Proof/Laws/Launch.lean ====
section
/-! SUPPORT. What the operations of Machine/Launch.lean leave alone and keep: the addressed memories that they do not
write are as they were, those that they write stay canonical, and the queues of notices stay within their bound. -/

namespace Sys2Proof.Machine

@[simp] theorem State.putLaunchCourse_stores (s : State) (v : Nat) :
    (State.putLaunchCourse s v).2.mem = s.mem ∧ (State.putLaunchCourse s v).2.staging = s.staging := by
  unfold State.putLaunchCourse
  simp

@[simp] theorem State.putLaunchCourse_bounded (s : State) (v : Nat) (hw : s.paths.bounded = true) :
    (State.putLaunchCourse s v).2.paths.bounded = true := by
  unfold State.putLaunchCourse
  simp (maxDischargeDepth := 40) [*]

@[simp] theorem State.clearRegs_stores (s : State) (l : List RegId) :
    (State.clearRegs s l).mem = s.mem ∧ (State.clearRegs s l).staging = s.staging := by
  unfold State.clearRegs
  simp

@[simp] theorem State.clearRegs_bounded (s : State) (l : List RegId) (hw : s.paths.bounded = true) :
    (State.clearRegs s l).paths.bounded = true := by
  unfold State.clearRegs
  refine foldlWf_paths _ (fun s a h => ?_) _ _ ?_ <;> (repeat' split) <;> simp (maxDischargeDepth := 40) [*]

@[simp] theorem State.launchWeights_stores (s : State) :
    (State.launchWeights s).mem = s.mem ∧ (State.launchWeights s).staging = s.staging := by
  unfold State.launchWeights
  (repeat' split) <;> simp

@[simp] theorem State.launchWeights_bounded (s : State) (hw : s.paths.bounded = true) :
    (State.launchWeights s).paths.bounded = true := by
  unfold State.launchWeights
  (repeat' split) <;> simp (maxDischargeDepth := 40) [*]

@[simp] theorem State.launchBanks_stores (s : State) :
    (State.launchBanks s).mem = s.mem ∧ (State.launchBanks s).staging = s.staging := by
  unfold State.launchBanks
  simp

@[simp] theorem State.launchBanks_bounded (s : State) (hw : s.paths.bounded = true) :
    (State.launchBanks s).paths.bounded = true := by
  unfold State.launchBanks
  simp (maxDischargeDepth := 40) [*]

@[simp] theorem State.startPlan_stores (s : State) (p : Plan) :
    (State.startPlan s p).mem = s.mem ∧ (State.startPlan s p).staging = s.staging := by
  unfold State.startPlan
  simp

@[simp] theorem State.startPlan_bounded (s : State) (p : Plan) (hw : s.paths.bounded = true) :
    (State.startPlan s p).paths.bounded = true := by
  unfold State.startPlan
  simp (maxDischargeDepth := 40) [*]

@[simp] theorem State.launchPlan_staging (s : State) : (State.launchPlan s).staging = s.staging := by
  unfold State.launchPlan
  (repeat' split) <;> simp

@[simp] theorem State.launchPlan_wf (s : State) (hw : s.mem.wf = true) : (State.launchPlan s).mem.wf = true := by
  unfold State.launchPlan
  (repeat' split) <;> simp (maxDischargeDepth := 40) [*]

@[simp] theorem State.launchPlan_bounded (s : State) (hw : s.paths.bounded = true) :
    (State.launchPlan s).paths.bounded = true := by
  unfold State.launchPlan
  (repeat' split) <;> simp (maxDischargeDepth := 40) [*]

end Sys2Proof.Machine
end

