-- ==== Sys2Proof/Laws/Writes.lean ====
section
/-! SUPPORT. What the operations of Machine/Writes.lean leave alone and keep: the addressed memories that they do not
write are as they were, those that they write stay canonical, and the queues of notices stay within their bound. -/

namespace Sys2Proof.Machine

@[simp] theorem State.afterWrite_stores (s : State) (index sub v : Nat) :
    (State.afterWrite s index sub v).mem = s.mem ∧ (State.afterWrite s index sub v).staging = s.staging := by
  unfold State.afterWrite
  simp

@[simp] theorem State.afterWrite_bounded (s : State) (index sub v : Nat) (hw : s.paths.bounded = true) :
    (State.afterWrite s index sub v).paths.bounded = true := by
  unfold State.afterWrite
  simp (maxDischargeDepth := 40) [*]

@[simp] theorem State.writePlain_stores (s : State) (e : Entry) (index sub v : Nat) :
    (State.writePlain s e index sub v).2.mem = s.mem ∧ (State.writePlain s e index sub v).2.staging = s.staging := by
  unfold State.writePlain
  simp

@[simp] theorem State.writePlain_bounded (s : State) (e : Entry) (index sub v : Nat) (hw : s.paths.bounded = true) :
    (State.writePlain s e index sub v).2.paths.bounded = true := by
  unfold State.writePlain
  simp (maxDischargeDepth := 40) [*]

@[simp] theorem State.writeBytes_stores (s : State) (index sub : Nat) (b : Bytes) :
    (State.writeBytes s index sub b).2.mem = s.mem ∧ (State.writeBytes s index sub b).2.staging = s.staging := by
  unfold State.writeBytes
  simp

@[simp] theorem State.writeBytes_bounded (s : State) (index sub : Nat) (b : Bytes) (hw : s.paths.bounded = true) :
    (State.writeBytes s index sub b).2.paths.bounded = true := by
  unfold State.writeBytes
  simp (maxDischargeDepth := 40) [*]

@[simp] theorem State.diagnoseFreely_staging (s : State) (test : Nat) :
    (State.diagnoseFreely s test).2.staging = s.staging := by
  unfold State.diagnoseFreely
  simp

@[simp] theorem State.diagnoseFreely_wf (s : State) (test : Nat) (hw : s.mem.wf = true) :
    (State.diagnoseFreely s test).2.mem.wf = true := by
  unfold State.diagnoseFreely
  simp (maxDischargeDepth := 40) [*]

@[simp] theorem State.diagnoseFreely_bounded (s : State) (test : Nat) (hw : s.paths.bounded = true) :
    (State.diagnoseFreely s test).2.paths.bounded = true := by
  unfold State.diagnoseFreely
  simp (maxDischargeDepth := 40) [*]

@[simp] theorem State.clearFlagByte_stores (s : State) (index sub v : Nat) :
    (State.clearFlagByte s index sub v).2.mem = s.mem ∧ (State.clearFlagByte s index sub v).2.staging = s.staging := by
  unfold State.clearFlagByte
  simp

@[simp] theorem State.clearFlagByte_bounded (s : State) (index sub v : Nat) (hw : s.paths.bounded = true) :
    (State.clearFlagByte s index sub v).2.paths.bounded = true := by
  unfold State.clearFlagByte
  simp (maxDischargeDepth := 40) [*]

theorem State.fixedAction_wfAll (s : State) (v : Via) (index sub value : Nat) (hw : s.mem.wf = true) :
    (s.fixedAction v index sub value).all (fun r => r.2.mem.wf) = true := by
  unfold State.fixedAction
  (repeat' apply all_of_ite) <;> simp (maxDischargeDepth := 40) +contextual [hw]

theorem State.fixedAction_wf {s : State} {v : Via} {index sub value : Nat} {r : Nat × State}
    (h : s.fixedAction v index sub value = some r) (hw : s.mem.wf = true) : r.2.mem.wf = true := by
  have := State.fixedAction_wfAll s v index sub value hw
  rw [h] at this
  exact this

theorem State.blobAction_wfAll (s : State) (v : Via) (index sub : Nat) (b : Bytes) (hw : s.mem.wf = true) :
    (s.blobAction v index sub b).all (fun r => r.2.mem.wf) = true := by
  unfold State.blobAction
  (repeat' apply all_of_ite) <;> simp only [Option.all_some, Option.all_none] <;> (repeat' split) <;>
    simp (maxDischargeDepth := 40) [hw]

theorem State.blobAction_wf {s : State} {v : Via} {index sub : Nat} {b : Bytes} {r : Nat × State}
    (h : s.blobAction v index sub b = some r) (hw : s.mem.wf = true) : r.2.mem.wf = true := by
  have := State.blobAction_wfAll s v index sub b hw
  rw [h] at this
  exact this

@[simp] theorem State.writeEntry_wf (s : State) (v : Via) (e : Entry) (index sub : Nat) (value : Bytes)
    (hw : s.mem.wf = true) : (s.writeEntry v e index sub value).2.mem.wf = true := by
  unfold State.writeEntry
  repeat' split
  · rename_i h
    exact State.blobAction_wf h hw
  · simp (maxDischargeDepth := 40) +contextual [hw]
  · rename_i h
    exact State.fixedAction_wf h hw
  · simp (maxDischargeDepth := 40) +contextual [hw]

theorem State.fixedAction_stagingWfAll (s : State) (v : Via) (index sub value : Nat) (hw : s.staging.wf = true) :
    (s.fixedAction v index sub value).all (fun r => r.2.staging.wf) = true := by
  unfold State.fixedAction
  (repeat' apply all_of_ite) <;> simp (maxDischargeDepth := 40) +contextual [hw]

theorem State.fixedAction_stagingWf {s : State} {v : Via} {index sub value : Nat} {r : Nat × State}
    (h : s.fixedAction v index sub value = some r) (hw : s.staging.wf = true) : r.2.staging.wf = true := by
  have := State.fixedAction_stagingWfAll s v index sub value hw
  rw [h] at this
  exact this

theorem State.blobAction_stagingWfAll (s : State) (v : Via) (index sub : Nat) (b : Bytes) (hw : s.staging.wf = true) :
    (s.blobAction v index sub b).all (fun r => r.2.staging.wf) = true := by
  unfold State.blobAction
  (repeat' apply all_of_ite) <;> simp only [Option.all_some, Option.all_none] <;> (repeat' split) <;>
    simp (maxDischargeDepth := 40) [hw]

theorem State.blobAction_stagingWf {s : State} {v : Via} {index sub : Nat} {b : Bytes} {r : Nat × State}
    (h : s.blobAction v index sub b = some r) (hw : s.staging.wf = true) : r.2.staging.wf = true := by
  have := State.blobAction_stagingWfAll s v index sub b hw
  rw [h] at this
  exact this

@[simp] theorem State.writeEntry_stagingWf (s : State) (v : Via) (e : Entry) (index sub : Nat) (value : Bytes)
    (hw : s.staging.wf = true) : (s.writeEntry v e index sub value).2.staging.wf = true := by
  unfold State.writeEntry
  repeat' split
  · rename_i h
    exact State.blobAction_stagingWf h hw
  · simp (maxDischargeDepth := 40) +contextual [hw]
  · rename_i h
    exact State.fixedAction_stagingWf h hw
  · simp (maxDischargeDepth := 40) +contextual [hw]

theorem State.fixedAction_boundedAll (s : State) (v : Via) (index sub value : Nat) (hw : s.paths.bounded = true) :
    (s.fixedAction v index sub value).all (fun r => r.2.paths.bounded) = true := by
  unfold State.fixedAction
  (repeat' apply all_of_ite) <;> simp (maxDischargeDepth := 40) +contextual [hw]

theorem State.fixedAction_bounded {s : State} {v : Via} {index sub value : Nat} {r : Nat × State}
    (h : s.fixedAction v index sub value = some r) (hw : s.paths.bounded = true) : r.2.paths.bounded = true := by
  have := State.fixedAction_boundedAll s v index sub value hw
  rw [h] at this
  exact this

theorem State.blobAction_boundedAll (s : State) (v : Via) (index sub : Nat) (b : Bytes) (hw : s.paths.bounded = true) :
    (s.blobAction v index sub b).all (fun r => r.2.paths.bounded) = true := by
  unfold State.blobAction
  (repeat' apply all_of_ite) <;> simp only [Option.all_some, Option.all_none] <;> (repeat' split) <;>
    simp (maxDischargeDepth := 40) [hw]

theorem State.blobAction_bounded {s : State} {v : Via} {index sub : Nat} {b : Bytes} {r : Nat × State}
    (h : s.blobAction v index sub b = some r) (hw : s.paths.bounded = true) : r.2.paths.bounded = true := by
  have := State.blobAction_boundedAll s v index sub b hw
  rw [h] at this
  exact this

@[simp] theorem State.writeEntry_bounded (s : State) (v : Via) (e : Entry) (index sub : Nat) (value : Bytes)
    (hw : s.paths.bounded = true) : (s.writeEntry v e index sub value).2.paths.bounded = true := by
  unfold State.writeEntry
  repeat' split
  · rename_i h
    exact State.blobAction_bounded h hw
  · simp (maxDischargeDepth := 40) +contextual [hw]
  · rename_i h
    exact State.fixedAction_bounded h hw
  · simp (maxDischargeDepth := 40) +contextual [hw]

end Sys2Proof.Machine
end

