-- ==== Sys2Proof/Laws/Access.lean ====
section
/-! SUPPORT. What the operations of Machine/Access.lean leave alone and keep: the addressed memories that they do not
write are as they were, those that they write stay canonical, and the queues of notices stay within their bound. -/

namespace Sys2Proof.Machine

@[simp] theorem State.latchValue_stores (s : State) (v : Via) (index sub : Nat) :
    (State.latchValue s v index sub).2.mem = s.mem ∧ (State.latchValue s v index sub).2.staging = s.staging := by
  unfold State.latchValue
  simp

@[simp] theorem State.latchValue_bounded (s : State) (v : Via) (index sub : Nat) (hw : s.paths.bounded = true) :
    (s.latchValue v index sub).2.paths.bounded = true := by
  unfold State.latchValue
  dsimp only
  split
  · exact hw
  · dsimp only
    split
    · exact State.bump_bounded _ _ hw
    · exact hw

@[simp] theorem State.readSegments_stores (s : State) (v : Via) (index sub offset : Nat) :
    (State.readSegments s v index sub offset).2.mem = s.mem ∧ (State.readSegments s v index sub offset).2.staging = s.staging := by
  unfold State.readSegments
  (repeat' split) <;> simp

@[simp] theorem State.readSegments_bounded (s : State) (v : Via) (index sub offset : Nat)
    (hw : s.paths.bounded = true) : (State.readSegments s v index sub offset).2.paths.bounded = true := by
  unfold State.readSegments
  (repeat' split) <;> simp (maxDischargeDepth := 40) [*]

@[simp] theorem State.readEntry_stores (s : State) (v : Via) (e : Entry) (index sub offset : Nat) :
    (State.readEntry s v e index sub offset).2.mem = s.mem ∧ (State.readEntry s v e index sub offset).2.staging = s.staging := by
  unfold State.readEntry
  simp

@[simp] theorem State.readEntry_bounded (s : State) (v : Via) (e : Entry) (index sub offset : Nat)
    (hw : s.paths.bounded = true) : (State.readEntry s v e index sub offset).2.paths.bounded = true := by
  unfold State.readEntry
  simp (maxDischargeDepth := 40) [*]

@[simp] theorem State.dropPartial_stores (s : State) (v : Via) (lost : Bool) :
    (State.dropPartial s v lost).mem = s.mem ∧ (State.dropPartial s v lost).staging = s.staging := by
  unfold State.dropPartial
  simp

@[simp] theorem State.dropPartial_bounded (s : State) (v : Via) (lost : Bool) (hw : s.paths.bounded = true) :
    (State.dropPartial s v lost).paths.bounded = true := by
  unfold State.dropPartial
  (repeat' split) <;> exact hw

@[simp] theorem State.keepPartial_stores (s : State) (v : Via) (key total : Nat) (value : Bytes) :
    (State.keepPartial s v key total value).mem = s.mem ∧ (State.keepPartial s v key total value).staging = s.staging := by
  unfold State.keepPartial
  simp

@[simp] theorem State.keepPartial_bounded (s : State) (v : Via) (key total : Nat) (value : Bytes)
    (hw : s.paths.bounded = true) : (State.keepPartial s v key total value).paths.bounded = true := by
  unfold State.keepPartial
  exact hw

@[simp] theorem State.writeSegment_wf (s : State) (v : Via) (e : Entry) (index sub offset total : Nat) (last : Bool)
    (value : Bytes) (hw : s.mem.wf = true) : (s.writeSegment v e index sub offset total last value).2.mem.wf = true := by
  unfold State.writeSegment
  dsimp only
  repeat' split
  all_goals first | exact hw | simp (maxDischargeDepth := 40) +contextual [hw]

@[simp] theorem State.writeSegment_stagingWf (s : State) (v : Via) (e : Entry) (index sub offset total : Nat) (last : Bool)
    (value : Bytes) (hw : s.staging.wf = true) : (s.writeSegment v e index sub offset total last value).2.staging.wf = true := by
  unfold State.writeSegment
  dsimp only
  repeat' split
  all_goals first | exact hw | simp (maxDischargeDepth := 40) +contextual [hw]

@[simp] theorem State.writeSegment_bounded (s : State) (v : Via) (e : Entry) (index sub offset total : Nat) (last : Bool)
    (value : Bytes) (hw : s.paths.bounded = true) : (s.writeSegment v e index sub offset total last value).2.paths.bounded = true := by
  unfold State.writeSegment
  dsimp only
  repeat' split
  all_goals first | exact hw | simp (maxDischargeDepth := 40) +contextual [hw]

@[simp] theorem State.writeValue_wf (s : State) (v : Via) (e : Entry) (index sub offset total : Nat) (last : Bool)
    (value : Bytes) (hw : s.mem.wf = true) : (s.writeValue v e index sub offset total last value).2.mem.wf = true := by
  unfold State.writeValue
  split
  all_goals first | exact hw | simp (maxDischargeDepth := 40) +contextual [hw]

@[simp] theorem State.writeValue_stagingWf (s : State) (v : Via) (e : Entry) (index sub offset total : Nat) (last : Bool)
    (value : Bytes) (hw : s.staging.wf = true) : (s.writeValue v e index sub offset total last value).2.staging.wf = true := by
  unfold State.writeValue
  split
  all_goals first | exact hw | simp (maxDischargeDepth := 40) +contextual [hw]

@[simp] theorem State.writeValue_bounded (s : State) (v : Via) (e : Entry) (index sub offset total : Nat) (last : Bool)
    (value : Bytes) (hw : s.paths.bounded = true) : (s.writeValue v e index sub offset total last value).2.paths.bounded = true := by
  unfold State.writeValue
  split
  all_goals first | exact hw | simp (maxDischargeDepth := 40) +contextual [hw]

@[simp] theorem State.serve_wf (s : State) (v : Via) (op index sub typ offset total : Nat) (last : Bool) (value : Bytes)
    (hw : s.mem.wf = true) : (s.serve v op index sub typ offset total last value).2.mem.wf = true := by
  unfold State.serve
  repeat' split
  all_goals simp (maxDischargeDepth := 40) +contextual [hw]

@[simp] theorem State.serve_stagingWf (s : State) (v : Via) (op index sub typ offset total : Nat) (last : Bool) (value : Bytes)
    (hw : s.staging.wf = true) : (s.serve v op index sub typ offset total last value).2.staging.wf = true := by
  unfold State.serve
  repeat' split
  all_goals simp (maxDischargeDepth := 40) +contextual [hw]

@[simp] theorem State.serve_bounded (s : State) (v : Via) (op index sub typ offset total : Nat) (last : Bool) (value : Bytes)
    (hw : s.paths.bounded = true) : (s.serve v op index sub typ offset total last value).2.paths.bounded = true := by
  unfold State.serve
  repeat' split
  all_goals simp (maxDischargeDepth := 40) +contextual [hw]

@[simp] theorem State.request_wf (s : State) (v : Via) (op index sub typ offset total : Nat) (last : Bool) (value : Bytes)
    (hw : s.mem.wf = true) : (s.request v op index sub typ offset total last value).2.mem.wf = true := by
  unfold State.request
  extract_lets s1 word r t
  have h1 : s1.mem.wf = true := by simp [s1, hw]
  have hr : r.2.mem.wf = true := by
    unfold r
    split
    · exact h1
    · exact State.serve_wf _ _ _ _ _ _ _ _ _ _ h1
  have ht : t.mem.wf = true := by
    unfold t
    split <;> simp [hr]
  simp [ht]

@[simp] theorem State.request_stagingWf (s : State) (v : Via) (op index sub typ offset total : Nat) (last : Bool) (value : Bytes)
    (hw : s.staging.wf = true) : (s.request v op index sub typ offset total last value).2.staging.wf = true := by
  unfold State.request
  extract_lets s1 word r t
  have h1 : s1.staging.wf = true := by simp [s1, hw]
  have hr : r.2.staging.wf = true := by
    unfold r
    split
    · exact h1
    · exact State.serve_stagingWf _ _ _ _ _ _ _ _ _ _ h1
  have ht : t.staging.wf = true := by
    unfold t
    split <;> simp [hr]
  simp [ht]

@[simp] theorem State.request_bounded (s : State) (v : Via) (op index sub typ offset total : Nat) (last : Bool) (value : Bytes)
    (hw : s.paths.bounded = true) : (s.request v op index sub typ offset total last value).2.paths.bounded = true := by
  unfold State.request
  extract_lets s1 word r t
  have h1 : s1.paths.bounded = true := by simp [s1, hw]
  have hr : r.2.paths.bounded = true := by
    unfold r
    split
    · exact h1
    · exact State.serve_bounded _ _ _ _ _ _ _ _ _ _ h1
  have ht : t.paths.bounded = true := by
    unfold t
    split <;> simp [hr]
  exact State.countResult_bounded _ _ ht

@[simp] theorem State.requestNow_wf (s : State) (v : Via) (op index sub typ offset total : Nat) (last : Bool)
    (value : Bytes) (hw : s.mem.wf = true) :
    (State.requestNow s v op index sub typ offset total last value).mem.wf = true := by
  unfold State.requestNow
  simp (maxDischargeDepth := 40) [*]

@[simp] theorem State.requestNow_stagingWf (s : State) (v : Via) (op index sub typ offset total : Nat) (last : Bool)
    (value : Bytes) (hw : s.staging.wf = true) :
    (State.requestNow s v op index sub typ offset total last value).staging.wf = true := by
  unfold State.requestNow
  simp (maxDischargeDepth := 40) [*]

@[simp] theorem State.requestNow_bounded (s : State) (v : Via) (op index sub typ offset total : Nat) (last : Bool)
    (value : Bytes) (hw : s.paths.bounded = true) :
    (State.requestNow s v op index sub typ offset total last value).paths.bounded = true := by
  unfold State.requestNow
  simp (maxDischargeDepth := 40) [*]

@[simp] theorem State.submit_wf (s : State) (v : Via) (op index sub typ offset total : Nat) (last : Bool)
    (value : Bytes) (hw : s.mem.wf = true) :
    (State.submit s v op index sub typ offset total last value).mem.wf = true := by
  unfold State.submit
  simp (maxDischargeDepth := 40) [*]

@[simp] theorem State.submit_stagingWf (s : State) (v : Via) (op index sub typ offset total : Nat) (last : Bool)
    (value : Bytes) (hw : s.staging.wf = true) :
    (State.submit s v op index sub typ offset total last value).staging.wf = true := by
  unfold State.submit
  simp (maxDischargeDepth := 40) [*]

@[simp] theorem State.submit_bounded (s : State) (v : Via) (op index sub typ offset total : Nat) (last : Bool)
    (value : Bytes) (hw : s.paths.bounded = true) :
    (State.submit s v op index sub typ offset total last value).paths.bounded = true := by
  unfold State.submit
  simp (maxDischargeDepth := 40) [*]

@[simp] theorem State.expirePartial_stores (s : State) (v : Via) :
    (State.expirePartial s v).mem = s.mem ∧ (State.expirePartial s v).staging = s.staging := by
  unfold State.expirePartial
  simp

@[simp] theorem State.expirePartial_bounded (s : State) (v : Via) (hw : s.paths.bounded = true) :
    (State.expirePartial s v).paths.bounded = true := by
  unfold State.expirePartial
  simp (maxDischargeDepth := 40) [*]

end Sys2Proof.Machine
end

