-- ==== Sys2Proof/Laws/Arms.lean ====
section
/-! SUPPORT. Each command's arm of `exec`: the meaning that it calls. -/

namespace Sys2Proof.Machine

theorem exec_courseStart (s : State) : exec .courseStart s = execCourseStart s := rfl

theorem exec_epochCourse (phase8 keeperOffset : Int) (ber : List (Nat × Nat)) (s : State) :
    exec (.epochCourse phase8 keeperOffset ber) s = execEpochCourse phase8 keeperOffset ber s := rfl

theorem exec_referenceInvalid (s : State) : exec .referenceInvalid s = execReferenceInvalid s := rfl

theorem exec_courseSourceWrite (v : Via) (value : Nat) (s : State) :
    exec (.courseSourceWrite v value) s = execCourseSourceWrite v value s := rfl

theorem exec_courseLoad (v : Via) (value : Nat) (s : State) :
    exec (.courseLoad v value) s = execCourseLoad v value s := rfl

theorem exec_courseMark (port mark : Nat) (phase8 : Int) (s : State) :
    exec (.courseMark port mark phase8) s = execCourseMark port mark phase8 s := rfl

theorem exec_parentReselect (s : State) : exec .parentReselect s = execParentReselect s := rfl

theorem exec_courseHoldover (s : State) : exec .courseHoldover s = execCourseHoldover s := rfl

theorem exec_courseLocked (s : State) : exec .courseLocked s = execCourseLocked s := rfl

theorem exec_sourceReturn (count : Nat) (phase8 : Int) (s : State) :
    exec (.sourceReturn count phase8) s = execSourceReturn count phase8 s := rfl

theorem exec_phaseStep (s : State) : exec .phaseStep s = execPhaseStep s := rfl

theorem exec_leadCourse (s : State) : exec .leadCourse s = execLeadCourse s := rfl

theorem exec_delayProbe (port roundTrip8 turnaround8 : Nat) (s : State) :
    exec (.delayProbe port roundTrip8 turnaround8) s = execDelayProbe port roundTrip8 turnaround8 s := rfl

theorem exec_dueCheck (s : State) : exec .dueCheck s = execDueCheck s := rfl

theorem exec_planStalled (s : State) : exec .planStalled s = execPlanStalled s := rfl

theorem exec_restCourse (s : State) : exec .restCourse s = execRestCourse s := rfl

theorem exec_linkRetry (port lane : Nat) (s : State) :
    exec (.linkRetry port lane) s = execLinkRetry port lane s := rfl

theorem exec_tileReread (consumer : Consumer) (err : Errors) (s : State) :
    exec (.tileReread consumer err) s = execTileReread consumer err s := rfl

theorem exec_scrubStep (unit : StoreUnit) (bank : Nat) (claimed : Bool) (ecc : Ecc) (s : State) :
    exec (.scrubStep unit bank claimed ecc) s = execScrubStep unit bank claimed ecc s := rfl

theorem exec_pointingHousekeeping (fits : Bool) (s : State) :
    exec (.pointingHousekeeping fits) s = execPointingHousekeeping fits s := rfl

theorem exec_sensorSample (fits : Bool) (reading : Sensors) (s : State) :
    exec (.sensorSample fits reading) s = execSensorSample fits reading s := rfl

theorem exec_maintenanceMicrostep (cluster bytes : Nat) (s : State) :
    exec (.maintenanceMicrostep cluster bytes) s = execMaintenanceMicrostep cluster bytes s := rfl

theorem exec_launchCourseWrite (v : Via) (value : Nat) (s : State) :
    exec (.launchCourseWrite v value) s = execLaunchCourseWrite v value s := rfl

theorem exec_launch (s : State) : exec .launch s = execLaunch s := rfl

theorem exec_launchRefused (s : State) : exec .launchRefused s = execLaunchRefused s := rfl

theorem exec_quoinCourse (s : State) : exec .quoinCourse s = execQuoinCourse s := rfl

theorem exec_correctedThreshold (cluster position : Nat) (s : State) :
    exec (.correctedThreshold cluster position) s = execCorrectedThreshold cluster position s := rfl

theorem exec_substituteCore (v : Via) (value : Nat) (s : State) :
    exec (.substituteCore v value) s = execSubstituteCore v value s := rfl

theorem exec_substitutionRegisterCopy (cluster : Nat) (fits : Bool) (s : State) :
    exec (.substitutionRegisterCopy cluster fits) s = execSubstitutionRegisterCopy cluster fits s := rfl

theorem exec_substitutionSwap (cluster : Nat) (s : State) :
    exec (.substitutionSwap cluster) s = execSubstitutionSwap cluster s := rfl

theorem exec_unitMapChange (s : State) : exec .unitMapChange s = execUnitMapChange s := rfl

theorem exec_engineFlagsClear (v : Via) (cluster position engine value raised : Nat) (s : State) :
    exec (.engineFlagsClear v cluster position engine value raised) s = execEngineFlagsClear v cluster position engine value raised s := rfl

theorem exec_clearAllFlags (v : Via) (value : Nat) (raised : List (Nat × Nat)) (s : State) :
    exec (.clearAllFlags v value raised) s = execClearAllFlags v value raised s := rfl

theorem exec_nop (q : Issue) (f : Fields) (s : State) : exec (.nop q f) s = execNop q f s := rfl

theorem exec_wait (q : Issue) (f : Fields) (s : State) : exec (.wait q f) s = execWait q f s := rfl

theorem exec_plumb (q : Issue) (f : Fields) (s : State) : exec (.plumb q f) s = execPlumb q f s := rfl

theorem exec_plumbRelease (core : Nat) (arrival : PlumbMark) (s : State) :
    exec (.plumbRelease core arrival) s = execPlumbRelease core arrival s := rfl

theorem exec_callRoutine (q : Issue) (f : Fields) (s : State) :
    exec (.callRoutine q f) s = execCallRoutine q f s := rfl

theorem exec_ret (q : Issue) (f : Fields) (s : State) : exec (.ret q f) s = execRet q f s := rfl

theorem exec_endBundle (q : Issue) (f : Fields) (s : State) :
    exec (.endBundle q f) s = execEndBundle q f s := rfl

theorem exec_fmode (q : Issue) (f : Fields) (s : State) : exec (.fmode q f) s = execFmode q f s := rfl

theorem exec_bundleStart (core queue : Nat) (s : State) :
    exec (.bundleStart core queue) s = execBundleStart core queue s := rfl

theorem exec_tset (q : Issue) (f : Fields) (s : State) : exec (.tset q f) s = execTset q f s := rfl

theorem exec_tfill (q : Issue) (f : Fields) (batch : Option Nat) (err : Errors) (s : State) :
    exec (.tfill q f batch err) s = execTfill q f batch err s := rfl

theorem exec_tileVerdict (core engine : Nat) (s : State) :
    exec (.tileVerdict core engine) s = execTileVerdict core engine s := rfl

theorem exec_suspensionEnd (s : State) : exec .suspensionEnd s = execSuspensionEnd s := rfl

theorem exec_mma (q : Issue) (f : Fields) (batch : Option Nat) (s : State) :
    exec (.mma q f batch) s = execMma q f batch s := rfl

theorem exec_vrd (q : Issue) (f : Fields) (s : State) : exec (.vrd q f) s = execVrd q f s := rfl

theorem exec_addLane (q : Issue) (f : Fields) (s : State) : exec (.addLane q f) s = execAddLane q f s := rfl

theorem exec_subLane (q : Issue) (f : Fields) (s : State) : exec (.subLane q f) s = execSubLane q f s := rfl

theorem exec_mulLane (q : Issue) (f : Fields) (s : State) : exec (.mulLane q f) s = execMulLane q f s := rfl

theorem exec_fma (q : Issue) (f : Fields) (s : State) : exec (.fma q f) s = execFma q f s := rfl

theorem exec_divLane (q : Issue) (f : Fields) (s : State) : exec (.divLane q f) s = execDivLane q f s := rfl

theorem exec_sqrt (q : Issue) (f : Fields) (s : State) : exec (.sqrt q f) s = execSqrt q f s := rfl

theorem exec_minLane (q : Issue) (f : Fields) (s : State) : exec (.minLane q f) s = execMinLane q f s := rfl

theorem exec_maxLane (q : Issue) (f : Fields) (s : State) : exec (.maxLane q f) s = execMaxLane q f s := rfl

theorem exec_fn (q : Issue) (f : Fields) (s : State) : exec (.fn q f) s = execFn q f s := rfl

theorem exec_tbl (q : Issue) (f : Fields) (s : State) : exec (.tbl q f) s = execTbl q f s := rfl

theorem exec_red (q : Issue) (f : Fields) (s : State) : exec (.red q f) s = execRed q f s := rfl

theorem exec_sqa (q : Issue) (f : Fields) (s : State) : exec (.sqa q f) s = execSqa q f s := rfl

theorem exec_rot (q : Issue) (f : Fields) (s : State) : exec (.rot q f) s = execRot q f s := rfl

theorem exec_amax (q : Issue) (f : Fields) (s : State) : exec (.amax q f) s = execAmax q f s := rfl

theorem exec_topk (q : Issue) (f : Fields) (s : State) : exec (.topk q f) s = execTopk q f s := rfl

theorem exec_rng (q : Issue) (f : Fields) (s : State) : exec (.rng q f) s = execRng q f s := rfl

theorem exec_cvt (q : Issue) (f : Fields) (s : State) : exec (.cvt q f) s = execCvt q f s := rfl

theorem exec_dup (q : Issue) (f : Fields) (s : State) : exec (.dup q f) s = execDup q f s := rfl

theorem exec_ld (q : Issue) (f : Fields) (ecc : Ecc) (s : State) :
    exec (.ld q f ecc) s = execLd q f ecc s := rfl

theorem exec_st (q : Issue) (f : Fields) (s : State) : exec (.st q f) s = execSt q f s := rfl

theorem exec_sta (q : Issue) (f : Fields) (s : State) : exec (.sta q f) s = execSta q f s := rfl

theorem exec_ldi (q : Issue) (f : Fields) (ecc : Ecc) (s : State) :
    exec (.ldi q f ecc) s = execLdi q f ecc s := rfl

theorem exec_sti (q : Issue) (f : Fields) (s : State) : exec (.sti q f) s = execSti q f s := rfl

theorem exec_wcol (q : Issue) (f : Fields) (s : State) : exec (.wcol q f) s = execWcol q f s := rfl

theorem exec_wrow (q : Issue) (f : Fields) (s : State) : exec (.wrow q f) s = execWrow q f s := rfl

theorem exec_fill (q : Issue) (f : Fields) (s : State) : exec (.fill q f) s = execFill q f s := rfl

theorem exec_copy (q : Issue) (f : Fields) (err : Errors) (s : State) :
    exec (.copy q f err) s = execCopy q f err s := rfl

theorem exec_snd (q : Issue) (f : Fields) (s : State) : exec (.snd q f) s = execSnd q f s := rfl

theorem exec_sndt (q : Issue) (f : Fields) (err : Errors) (s : State) :
    exec (.sndt q f err) s = execSndt q f err s := rfl

theorem exec_due (q : Issue) (f : Fields) (s : State) : exec (.due q f) s = execDue q f s := rfl

theorem exec_tsig (q : Issue) (f : Fields) (s : State) : exec (.tsig q f) s = execTsig q f s := rfl

theorem exec_lva (q : Issue) (f : Fields) (s : State) : exec (.lva q f) s = execLva q f s := rfl

theorem exec_rel (q : Issue) (f : Fields) (s : State) : exec (.rel q f) s = execRel q f s := rfl

theorem exec_lp (q : Issue) (f : Fields) (s : State) : exec (.lp q f) s = execLp q f s := rfl

theorem exec_setCount (q : Issue) (f : Fields) (s : State) : exec (.setCount q f) s = execSetCount q f s := rfl

theorem exec_addc (q : Issue) (f : Fields) (s : State) : exec (.addc q f) s = execAddc q f s := rfl

theorem exec_kset (q : Issue) (f : Fields) (s : State) : exec (.kset q f) s = execKset q f s := rfl

theorem exec_bk (q : Issue) (f : Fields) (s : State) : exec (.bk q f) s = execBk q f s := rfl

theorem exec_wcrs (q : Issue) (f : Fields) (s : State) : exec (.wcrs q f) s = execWcrs q f s := rfl

theorem exec_ao (q : Issue) (f : Fields) (s : State) : exec (.ao q f) s = execAo q f s := rfl

theorem exec_twait (q : Issue) (f : Fields) (s : State) : exec (.twait q f) s = execTwait q f s := rfl

theorem exec_lvw (q : Issue) (f : Fields) (s : State) : exec (.lvw q f) s = execLvw q f s := rfl

theorem exec_swapArm (v : Via) (value : Nat) (s : State) :
    exec (.swapArm v value) s = execSwapArm v value s := rfl

theorem exec_bankSwap (s : State) : exec .bankSwap s = execBankSwap s := rfl

theorem exec_handoffSwap (cluster : Nat) (s : State) :
    exec (.handoffSwap cluster) s = execHandoffSwap cluster s := rfl

theorem exec_trowelFault (cluster cause : Nat) (s : State) :
    exec (.trowelFault cluster cause) s = execTrowelFault cluster cause s := rfl

theorem exec_slotClearingDone (slot : Nat) (s : State) :
    exec (.slotClearingDone slot) s = execSlotClearingDone slot s := rfl

theorem exec_slotStampingDone (slot : Nat) (s : State) :
    exec (.slotStampingDone slot) s = execSlotStampingDone slot s := rfl

theorem exec_edgeBlockFailure (edge : Nat) (s : State) :
    exec (.edgeBlockFailure edge) s = execEdgeBlockFailure edge s := rfl

theorem exec_edgeRetrain (edge : Nat) (s : State) : exec (.edgeRetrain edge) s = execEdgeRetrain edge s := rfl

theorem exec_flitReceived (port lane slot : Nat) (flit : Bytes) (fecOk : Bool) (corrected : Nat)
    (s : State) :
    exec (.flitReceived port lane slot flit fecOk corrected) s = execFlitReceived port lane slot flit fecOk corrected s := rfl

theorem exec_lateFlitWrite (port : Nat) (s : State) :
    exec (.lateFlitWrite port) s = execLateFlitWrite port s := rfl

theorem exec_linkReport (port lane word : Nat) (s : State) :
    exec (.linkReport port lane word) s = execLinkReport port lane word s := rfl

theorem exec_reportTimeout (port lane course : Nat) (s : State) :
    exec (.reportTimeout port lane course) s = execReportTimeout port lane course s := rfl

theorem exec_relayForward (port route flitIndex egress lane slot : Nat) (s : State) :
    exec (.relayForward port route flitIndex egress lane slot) s = execRelayForward port route flitIndex egress lane slot s := rfl

theorem exec_laneDown (port lane cause : Nat) (s : State) :
    exec (.laneDown port lane cause) s = execLaneDown port lane cause s := rfl

theorem exec_laneRetrainDone (port lane : Nat) (full ok : Bool) (s : State) :
    exec (.laneRetrainDone port lane full ok) s = execLaneRetrainDone port lane full ok s := rfl

theorem exec_retrain (v : Via) (port value : Nat) (s : State) :
    exec (.retrain v port value) s = execRetrain v port value s := rfl

theorem exec_partnerChange (port deviceId partnerPort : Nat) (s : State) :
    exec (.partnerChange port deviceId partnerPort) s = execPartnerChange port deviceId partnerPort s := rfl

theorem exec_pointingMessage (port lane word : Nat) (s : State) :
    exec (.pointingMessage port lane word) s = execPointingMessage port lane word s := rfl

theorem exec_pointingResend (port : Nat) (s : State) :
    exec (.pointingResend port) s = execPointingResend port s := rfl

theorem exec_signalArrival (packet : Nat) (s : State) :
    exec (.signalArrival packet) s = execSignalArrival packet s := rfl

theorem exec_levelArrival (packet : Nat) (s : State) :
    exec (.levelArrival packet) s = execLevelArrival packet s := rfl

theorem exec_levelRelease (packet : Nat) (s : State) :
    exec (.levelRelease packet) s = execLevelRelease packet s := rfl

theorem exec_ingressRecord (qp window : Nat) (record : Bytes) (s : State) :
    exec (.ingressRecord qp window record) s = execIngressRecord qp window record s := rfl

theorem exec_bar2Write (offset : Nat) (data : Bytes) (s : State) :
    exec (.bar2Write offset data) s = execBar2Write offset data s := rfl

theorem exec_planLoad (v : Via) (value : Nat) (s : State) :
    exec (.planLoad v value) s = execPlanLoad v value s := rfl

theorem exec_planLoaderDone (schedule : Schedule) (s : State) :
    exec (.planLoaderDone schedule) s = execPlanLoaderDone schedule s := rfl

theorem exec_planDiscard (v : Via) (value : Nat) (s : State) :
    exec (.planDiscard v value) s = execPlanDiscard v value s := rfl

theorem exec_planHalt (v : Via) (value : Nat) (s : State) :
    exec (.planHalt v value) s = execPlanHalt v value s := rfl

theorem exec_planHalted (s : State) : exec .planHalted s = execPlanHalted s := rfl

theorem exec_descriptor (qp : Nat) (message : Bytes) (s : State) :
    exec (.descriptor qp message) s = execDescriptor qp message s := rfl

theorem exec_batchBuild (s : State) : exec .batchBuild s = execBatchBuild s := rfl

theorem exec_orderBatch (qp : Nat) (message : Bytes) (s : State) :
    exec (.orderBatch qp message) s = execOrderBatch qp message s := rfl

theorem exec_orderApply (s : State) : exec .orderApply s = execOrderApply s := rfl

theorem exec_abortReport (qp : Nat) (message : Bytes) (s : State) :
    exec (.abortReport qp message) s = execAbortReport qp message s := rfl

theorem exec_governorEvaluation (unprocessed : Nat) (s : State) :
    exec (.governorEvaluation unprocessed) s = execGovernorEvaluation unprocessed s := rfl

theorem exec_tokenRecord (record : Bytes) (s : State) :
    exec (.tokenRecord record) s = execTokenRecord record s := rfl

theorem exec_recordSend (qp : Nat) (s : State) : exec (.recordSend qp) s = execRecordSend qp s := rfl

theorem exec_loadGeneration (v : Via) (value : Nat) (s : State) :
    exec (.loadGeneration v value) s = execLoadGeneration v value s := rfl

theorem exec_loadAdapter (v : Via) (value : Nat) (s : State) :
    exec (.loadAdapter v value) s = execLoadAdapter v value s := rfl

theorem exec_loadAbort (v : Via) (value : Nat) (s : State) :
    exec (.loadAbort v value) s = execLoadAbort v value s := rfl

theorem exec_weightRecord (s : State) : exec .weightRecord s = execWeightRecord s := rfl

theorem exec_creditMessage (message : Bytes) (s : State) :
    exec (.creditMessage message) s = execCreditMessage message s := rfl

theorem exec_creditSend (s : State) : exec .creditSend s = execCreditSend s := rfl

theorem exec_switchCourse (v : Via) (value : Nat) (s : State) :
    exec (.switchCourse v value) s = execSwitchCourse v value s := rfl

theorem exec_generationSwitch (s : State) : exec .generationSwitch s = execGenerationSwitch s := rfl

theorem exec_generationDiscard (v : Via) (value : Nat) (s : State) :
    exec (.generationDiscard v value) s = execGenerationDiscard v value s := rfl

theorem exec_adapterUnload (v : Via) (value : Nat) (s : State) :
    exec (.adapterUnload v value) s = execAdapterUnload v value s := rfl

theorem exec_trainingPhase (port word : Nat) (s : State) :
    exec (.trainingPhase port word) s = execTrainingPhase port word s := rfl

theorem exec_trainingTimeout (port : Nat) (s : State) :
    exec (.trainingTimeout port) s = execTrainingTimeout port s := rfl

theorem exec_portRoleMismatch (port partnerRole partnerDevice : Nat) (s : State) :
    exec (.portRoleMismatch port partnerRole partnerDevice) s = execPortRoleMismatch port partnerRole partnerDevice s := rfl

theorem exec_ethFrame (ingress : Nat) (frame : EthFrame) (s : State) :
    exec (.ethFrame ingress frame) s = execEthFrame ingress frame s := rfl

theorem exec_txSak (v : Via) (ingress : Nat) (value : Bytes) (s : State) :
    exec (.txSak v ingress value) s = execTxSak v ingress value s := rfl

theorem exec_rxSak (v : Via) (ingress : Nat) (value : Bytes) (s : State) :
    exec (.rxSak v ingress value) s = execRxSak v ingress value s := rfl

theorem exec_rocePacket (ingress qpn : Nat) (op : RoceOp) (icrcOk ce : Bool) (s : State) :
    exec (.rocePacket ingress qpn op icrcOk ce) s = execRocePacket ingress qpn op icrcOk ce s := rfl

theorem exec_rdmaWrite (qp address rkey : Nat) (data : Bytes) (s : State) :
    exec (.rdmaWrite qp address rkey data) s = execRdmaWrite qp address rkey data s := rfl

theorem exec_qpConfig (v : Via) (value : Bytes) (s : State) :
    exec (.qpConfig v value) s = execQpConfig v value s := rfl

theorem exec_qpReset (v : Via) (value : Nat) (s : State) :
    exec (.qpReset v value) s = execQpReset v value s := rfl

theorem exec_qpRetryTimeout (qp : Nat) (s : State) :
    exec (.qpRetryTimeout qp) s = execQpRetryTimeout qp s := rfl

theorem exec_functionReset (kind : FunctionReset) (s : State) :
    exec (.functionReset kind) s = execFunctionReset kind s := rfl

theorem exec_claim (node : Nat) (chainIn : Bool) (s : State) :
    exec (.claim node chainIn) s = execClaim node chainIn s := rfl

theorem exec_confirm (node : Nat) (serial : Bytes) (s : State) :
    exec (.confirm node serial) s = execConfirm node serial s := rfl

theorem exec_claimTimeout (s : State) : exec .claimTimeout s = execClaimTimeout s := rfl

theorem exec_deviceIdWrite (v : Via) (value : Nat) (s : State) :
    exec (.deviceIdWrite v value) s = execDeviceIdWrite v value s := rfl

theorem exec_dictionaryFrame (mac : Nat) (frame : Bytes) (s : State) :
    exec (.dictionaryFrame mac frame) s = execDictionaryFrame mac frame s := rfl

theorem exec_gatewaySubmit (slot : Nat) (s : State) :
    exec (.gatewaySubmit slot) s = execGatewaySubmit slot s := rfl

theorem exec_readSegment (v : Via) (index sub typ offset : Nat) (s : State) :
    exec (.readSegment v index sub typ offset) s = execReadSegment v index sub typ offset s := rfl

theorem exec_registerWrite (v : Via) (index sub typ offset total : Nat) (last : Bool) (value : Bytes)
    (s : State) :
    exec (.registerWrite v index sub typ offset total last value) s = execRegisterWrite v index sub typ offset total last value s := rfl

theorem exec_writeSegmentTimeout (v : Via) (s : State) :
    exec (.writeSegmentTimeout v) s = execWriteSegmentTimeout v s := rfl

theorem exec_describe (v : Via) (index sub : Nat) (s : State) :
    exec (.describe v index sub) s = execDescribe v index sub s := rfl

theorem exec_nextEntry (v : Via) (index sub : Nat) (s : State) :
    exec (.nextEntry v index sub) s = execNextEntry v index sub s := rfl

theorem exec_noticeRaise (code cls source : Nat) (payload : Bytes) (s : State) :
    exec (.noticeRaise code cls source payload) s = execNoticeRaise code cls source payload s := rfl

theorem exec_noticeSendChain (s : State) : exec .noticeSendChain s = execNoticeSendChain s := rfl

theorem exec_noticeRingWrite (ok : Bool) (s : State) :
    exec (.noticeRingWrite ok) s = execNoticeRingWrite ok s := rfl

theorem exec_ringControl (value : Nat) (s : State) :
    exec (.ringControl value) s = execRingControl value s := rfl

theorem exec_powerRequest (v : Via) (value : Nat) (s : State) :
    exec (.powerRequest v value) s = execPowerRequest v value s := rfl

theorem exec_powerTransitionStart (s : State) :
    exec .powerTransitionStart s = execPowerTransitionStart s := rfl

theorem exec_powerTransitionDone (s : State) : exec .powerTransitionDone s = execPowerTransitionDone s := rfl

theorem exec_sleepEntry (s : State) : exec .sleepEntry s = execSleepEntry s := rfl

theorem exec_wakeAtCourse (s : State) : exec .wakeAtCourse s = execWakeAtCourse s := rfl

theorem exec_chainWakeFrame (dest : Nat) (frame : Bytes) (s : State) :
    exec (.chainWakeFrame dest frame) s = execChainWakeFrame dest frame s := rfl

theorem exec_wakeNLow (s : State) : exec .wakeNLow s = execWakeNLow s := rfl

theorem exec_supplyLow (lowest : Nat) (s : State) : exec (.supplyLow lowest) s = execSupplyLow lowest s := rfl

theorem exec_supplyReturn (s : State) : exec .supplyReturn s = execSupplyReturn s := rfl

theorem exec_overVoltage (s : State) : exec .overVoltage s = execOverVoltage s := rfl

theorem exec_sleepTempEvent (s : State) : exec .sleepTempEvent s = execSleepTempEvent s := rfl

theorem exec_woken (source : Option Nat) (s : State) : exec (.woken source) s = execWoken source s := rfl

theorem exec_thermalShutdown (s : State) : exec .thermalShutdown s = execThermalShutdown s := rfl

theorem exec_coolantFlowLow (s : State) : exec .coolantFlowLow s = execCoolantFlowLow s := rfl

theorem exec_attestNonce (v : Via) (value : Bytes) (s : State) :
    exec (.attestNonce v value) s = execAttestNonce v value s := rfl

theorem exec_attestComplete (s : State) : exec .attestComplete s = execAttestComplete s := rfl

theorem exec_spdmRequest (request : SpdmRequest) (s : State) :
    exec (.spdmRequest request) s = execSpdmRequest request s := rfl

theorem exec_ownerEnroll (v : Via) (value : Bytes) (s : State) :
    exec (.ownerEnroll v value) s = execOwnerEnroll v value s := rfl

theorem exec_ownerChange (v : Via) (value : Bytes) (s : State) :
    exec (.ownerChange v value) s = execOwnerChange v value s := rfl

theorem exec_lifecycleToken (v : Via) (value : Bytes) (s : State) :
    exec (.lifecycleToken v value) s = execLifecycleToken v value s := rfl

theorem exec_debugRequest (v : Via) (value : Nat) (s : State) :
    exec (.debugRequest v value) s = execDebugRequest v value s := rfl

theorem exec_debugToken (v : Via) (value : Bytes) (s : State) :
    exec (.debugToken v value) s = execDebugToken v value s := rfl

theorem exec_debugRead (v : Via) (s : State) : exec (.debugRead v) s = execDebugRead v s := rfl

theorem exec_debugWrite (v : Via) (value : Bytes) (s : State) :
    exec (.debugWrite v value) s = execDebugWrite v value s := rfl

theorem exec_traceStart (s : State) : exec .traceStart s = execTraceStart s := rfl

theorem exec_securityVersionCommit (v : Via) (value : Nat) (s : State) :
    exec (.securityVersionCommit v value) s = execSecurityVersionCommit v value s := rfl

theorem exec_notafterPassed (s : State) : exec .notafterPassed s = execNotafterPassed s := rfl

theorem exec_bondModeWrite (v : Via) (value : Nat) (s : State) :
    exec (.bondModeWrite v value) s = execBondModeWrite v value s := rfl

theorem exec_bondYield (v : Via) (value : Nat) (s : State) :
    exec (.bondYield v value) s = execBondYield v value s := rfl

theorem exec_heartbeat (bond lane word : Nat) (s : State) :
    exec (.heartbeat bond lane word) s = execHeartbeat bond lane word s := rfl

theorem exec_partnerLost (s : State) : exec .partnerLost s = execPartnerLost s := rfl

theorem exec_bondReport (qp : Nat) (message : Bytes) (s : State) :
    exec (.bondReport qp message) s = execBondReport qp message s := rfl

theorem exec_bondTakeover (s : State) : exec .bondTakeover s = execBondTakeover s := rfl

theorem exec_bondTakenOver (s : State) : exec .bondTakenOver s = execBondTakenOver s := rfl

theorem exec_mirrorRecord (record : Bytes) (s : State) :
    exec (.mirrorRecord record) s = execMirrorRecord record s := rfl

theorem exec_mirrorBufferFull (s : State) : exec .mirrorBufferFull s = execMirrorBufferFull s := rfl

theorem exec_bondDegraded (s : State) : exec .bondDegraded s = execBondDegraded s := rfl

theorem exec_resyncDone (s : State) : exec .resyncDone s = execResyncDone s := rfl

theorem exec_repairRequest (port : Nat) (granule : Bytes) (s : State) :
    exec (.repairRequest port granule) s = execRepairRequest port granule s := rfl

theorem exec_repairTile (granule tile : Bytes) (s : State) :
    exec (.repairTile granule tile) s = execRepairTile granule tile s := rfl

theorem exec_repairTimeout (s : State) : exec .repairTimeout s = execRepairTimeout s := rfl

theorem exec_noRepairSource (s : State) : exec .noRepairSource s = execNoRepairSource s := rfl

theorem exec_damageReport (qp : Nat) (message : Bytes) (s : State) :
    exec (.damageReport qp message) s = execDamageReport qp message s := rfl

theorem exec_firmwareActivate (v : Via) (value : Nat) (s : State) :
    exec (.firmwareActivate v value) s = execFirmwareActivate v value s := rfl

theorem exec_firmwareActivation (s : State) : exec .firmwareActivation s = execFirmwareActivation s := rfl

theorem exec_keystoneRestartDone (s : State) : exec .keystoneRestartDone s = execKeystoneRestartDone s := rfl

theorem exec_patchLoad (v : Via) (value : Nat) (s : State) :
    exec (.patchLoad v value) s = execPatchLoad v value s := rfl

theorem exec_patchActivate (v : Via) (value : Nat) (s : State) :
    exec (.patchActivate v value) s = execPatchActivate v value s := rfl

theorem exec_patchSwap (s : State) : exec .patchSwap s = execPatchSwap s := rfl

theorem exec_retireCluster (v : Via) (value : Nat) (s : State) :
    exec (.retireCluster v value) s = execRetireCluster v value s := rfl

theorem exec_maintenanceRelease (s : State) : exec .maintenanceRelease s = execMaintenanceRelease s := rfl

theorem exec_attemptStart (failing : List Nat) (s : State) :
    exec (.attemptStart failing) s = execAttemptStart failing s := rfl

theorem exec_resetN (low : Nat) (s : State) : exec (.resetN low) s = execResetN low s := rfl

theorem exec_pwrGoodDeassert (s : State) : exec .pwrGoodDeassert s = execPwrGoodDeassert s := rfl

theorem exec_powerLoss (s : State) : exec .powerLoss s = execPowerLoss s := rfl

theorem exec_startConfirmed (s : State) : exec .startConfirmed s = execStartConfirmed s := rfl

theorem exec_startFailed (reason detail : Nat) (s : State) :
    exec (.startFailed reason detail) s = execStartFailed reason detail s := rfl

theorem exec_startRetry (v : Via) (value : Nat) (s : State) :
    exec (.startRetry v value) s = execStartRetry v value s := rfl

theorem exec_slotSelect (v : Via) (value : Nat) (s : State) :
    exec (.slotSelect v value) s = execSlotSelect v value s := rfl

theorem exec_slotImage (v : Via) (value : Bytes) (s : State) :
    exec (.slotImage v value) s = execSlotImage v value s := rfl

theorem exec_slotStage (v : Via) (value : Nat) (s : State) :
    exec (.slotStage v value) s = execSlotStage v value s := rfl

theorem exec_diagnosticRun (v : Via) (value : Nat) (failing : List Nat) (s : State) :
    exec (.diagnosticRun v value failing) s = execDiagnosticRun v value failing s := rfl

theorem exec_clearWithheld (v : Via) (value : Nat) (s : State) :
    exec (.clearWithheld v value) s = execClearWithheld v value s := rfl

theorem exec_hardFault (kind unit : Nat) (s : State) :
    exec (.hardFault kind unit) s = execHardFault kind unit s := rfl

theorem exec_planStop (s : State) : exec .planStop s = execPlanStop s := rfl

theorem exec_storeStuck (address : Nat) (s : State) :
    exec (.storeStuck address) s = execStoreStuck address s := rfl

theorem exec_fatalFault (cause : Nat) (s : State) : exec (.fatalFault cause) s = execFatalFault cause s := rfl

theorem exec_bar0Write (offset length value : Nat) (s : State) :
    exec (.bar0Write offset length value) s = execBar0Write offset length value s := rfl

theorem exec_ingressLinkChange (ingress : Nat) (up : Bool) (s : State) :
    exec (.ingressLinkChange ingress up) s = execIngressLinkChange ingress up s := rfl

theorem exec_pcieLinkChange (state rate width : Nat) (s : State) :
    exec (.pcieLinkChange state rate width) s = execPcieLinkChange state rate width s := rfl

theorem exec_ideKmExchange (active : Bool) (s : State) :
    exec (.ideKmExchange active) s = execIdeKmExchange active s := rfl

theorem exec_edgeLossOfLock (edge : Nat) (s : State) :
    exec (.edgeLossOfLock edge) s = execEdgeLossOfLock edge s := rfl

theorem exec_edgeRetrainDone (edge : Nat) (s : State) :
    exec (.edgeRetrainDone edge) s = execEdgeRetrainDone edge s := rfl

theorem exec_spareFault (cluster : Nat) (s : State) :
    exec (.spareFault cluster) s = execSpareFault cluster s := rfl

theorem exec_trowelRestartDone (cluster : Nat) (s : State) :
    exec (.trowelRestartDone cluster) s = execTrowelRestartDone cluster s := rfl

end Sys2Proof.Machine
end

