-- ==== Sys2Proof/Laws/Gateway.lean ====
section
/-! SUPPORT. What the operations of Machine/Gateway.lean leave alone and keep: the addressed memories that they do not
write are as they were, those that they write stay canonical, and the queues of notices stay within their bound. -/

namespace Sys2Proof.Machine

@[simp] theorem State.headed_wf (s : State) (v : Via) (h value : Bytes) (ok : Bool) (hw : s.mem.wf = true) :
    (s.headed v h value ok).2.mem.wf = true := by
  unfold State.headed
  (repeat' split) <;> simp (maxDischargeDepth := 40) +contextual [hw]

@[simp] theorem State.headed_stagingWf (s : State) (v : Via) (h value : Bytes) (ok : Bool) (hw : s.staging.wf = true) :
    (s.headed v h value ok).2.staging.wf = true := by
  unfold State.headed
  (repeat' split) <;> simp (maxDischargeDepth := 40) +contextual [hw]

@[simp] theorem State.headed_bounded (s : State) (v : Via) (h value : Bytes) (ok : Bool) (hw : s.paths.bounded = true) :
    (s.headed v h value ok).2.paths.bounded = true := by
  unfold State.headed
  (repeat' split) <;> simp (maxDischargeDepth := 40) +contextual [hw]

@[simp] theorem State.storeReply_stores (s : State) (mac seq : Nat) (f : Bytes) :
    (State.storeReply s mac seq f).mem = s.mem ∧ (State.storeReply s mac seq f).staging = s.staging := by
  unfold State.storeReply
  simp

@[simp] theorem State.storeReply_bounded (s : State) (mac seq : Nat) (f : Bytes) (hw : s.paths.bounded = true) :
    (State.storeReply s mac seq f).paths.bounded = true := by
  unfold State.storeReply
  exact hw

@[simp] theorem State.answerFrame_wf (s : State) (mac : Nat) (f : Bytes) (hw : s.mem.wf = true) :
    (State.answerFrame s mac f).mem.wf = true := by
  unfold State.answerFrame
  (repeat' split) <;> simp (maxDischargeDepth := 40) [*]

@[simp] theorem State.answerFrame_stagingWf (s : State) (mac : Nat) (f : Bytes) (hw : s.staging.wf = true) :
    (State.answerFrame s mac f).staging.wf = true := by
  unfold State.answerFrame
  (repeat' split) <;> simp (maxDischargeDepth := 40) [*]

@[simp] theorem State.answerFrame_bounded (s : State) (mac : Nat) (f : Bytes) (hw : s.paths.bounded = true) :
    (s.answerFrame mac f).paths.bounded = true := by
  unfold State.answerFrame
  split
  · exact State.bump_bounded _ _ hw
  · exact State.storeReply_bounded _ _ _ _ (State.headed_bounded _ _ _ _ _ hw)

@[simp] theorem State.frameArrives_wf (s : State) (mac : Nat) (f : Bytes) (hw : s.mem.wf = true) :
    (State.frameArrives s mac f).mem.wf = true := by
  unfold State.frameArrives
  simp (maxDischargeDepth := 40) [*]

@[simp] theorem State.frameArrives_stagingWf (s : State) (mac : Nat) (f : Bytes) (hw : s.staging.wf = true) :
    (State.frameArrives s mac f).staging.wf = true := by
  unfold State.frameArrives
  simp (maxDischargeDepth := 40) [*]

@[simp] theorem State.frameArrives_bounded (s : State) (mac : Nat) (f : Bytes) (hw : s.paths.bounded = true) :
    (State.frameArrives s mac f).paths.bounded = true := by
  unfold State.frameArrives
  simp (maxDischargeDepth := 40) [*]

@[simp] theorem State.setGateway_stores (s : State) (i : Nat) (g : GatewaySlot) :
    (State.setGateway s i g).mem = s.mem ∧ (State.setGateway s i g).staging = s.staging := by
  unfold State.setGateway
  simp

@[simp] theorem State.setGateway_bounded (s : State) (i : Nat) (g : GatewaySlot) (hw : s.paths.bounded = true) :
    (State.setGateway s i g).paths.bounded = true := by
  unfold State.setGateway
  exact hw

@[simp] theorem State.runSlot_wf (s : State) (i : Nat) (hw : s.mem.wf = true) :
    (State.runSlot s i).mem.wf = true := by
  unfold State.runSlot
  simp (maxDischargeDepth := 40) [*]

@[simp] theorem State.runSlot_stagingWf (s : State) (i : Nat) (hw : s.staging.wf = true) :
    (State.runSlot s i).staging.wf = true := by
  unfold State.runSlot
  simp (maxDischargeDepth := 40) [*]

@[simp] theorem State.runSlot_bounded (s : State) (i : Nat) (hw : s.paths.bounded = true) :
    (State.runSlot s i).paths.bounded = true := by
  unfold State.runSlot
  simp (maxDischargeDepth := 40) [*]

@[simp] theorem State.submitSlot_wf (s : State) (i : Nat) (hw : s.mem.wf = true) :
    (State.submitSlot s i).mem.wf = true := by
  unfold State.submitSlot
  simp (maxDischargeDepth := 40) [*]

@[simp] theorem State.submitSlot_stagingWf (s : State) (i : Nat) (hw : s.staging.wf = true) :
    (State.submitSlot s i).staging.wf = true := by
  unfold State.submitSlot
  simp (maxDischargeDepth := 40) [*]

@[simp] theorem State.submitSlot_bounded (s : State) (i : Nat) (hw : s.paths.bounded = true) :
    (State.submitSlot s i).paths.bounded = true := by
  unfold State.submitSlot
  simp (maxDischargeDepth := 40) [*]

@[simp] theorem State.discardBar0_stores (s : State) :
    (State.discardBar0 s).mem = s.mem ∧ (State.discardBar0 s).staging = s.staging := by
  unfold State.discardBar0
  simp

@[simp] theorem State.discardBar0_bounded (s : State) (hw : s.paths.bounded = true) :
    (State.discardBar0 s).paths.bounded = true := by
  unfold State.discardBar0
  simp (maxDischargeDepth := 40) [*]

@[simp] theorem State.writeSlotBytes_wf (s : State) (i at_ : Nat) (b : Bytes) (hw : s.mem.wf = true) :
    (State.writeSlotBytes s i at_ b).mem.wf = true := by
  unfold State.writeSlotBytes
  simp (maxDischargeDepth := 40) [*]

@[simp] theorem State.writeSlotBytes_stagingWf (s : State) (i at_ : Nat) (b : Bytes) (hw : s.staging.wf = true) :
    (State.writeSlotBytes s i at_ b).staging.wf = true := by
  unfold State.writeSlotBytes
  simp (maxDischargeDepth := 40) [*]

@[simp] theorem State.writeSlotBytes_bounded (s : State) (i at_ : Nat) (b : Bytes) (hw : s.paths.bounded = true) :
    (State.writeSlotBytes s i at_ b).paths.bounded = true := by
  unfold State.writeSlotBytes
  simp (maxDischargeDepth := 40) [*]

@[simp] theorem State.writeRing_stores (s : State) (at_ : Nat) (b : Bytes) :
    (State.writeRing s at_ b).mem = s.mem ∧ (State.writeRing s at_ b).staging = s.staging := by
  unfold State.writeRing
  simp

@[simp] theorem State.writeRing_bounded (s : State) (at_ : Nat) (b : Bytes) (hw : s.paths.bounded = true) :
    (State.writeRing s at_ b).paths.bounded = true := by
  unfold State.writeRing
  simp (maxDischargeDepth := 40) [*]

@[simp] theorem State.writeMsix_stores (s : State) (at_ : Nat) (b : Bytes) :
    (State.writeMsix s at_ b).mem = s.mem ∧ (State.writeMsix s at_ b).staging = s.staging := by
  unfold State.writeMsix
  simp

@[simp] theorem State.writeMsix_bounded (s : State) (at_ : Nat) (b : Bytes) (hw : s.paths.bounded = true) :
    (State.writeMsix s at_ b).paths.bounded = true := by
  unfold State.writeMsix
  exact hw

@[simp] theorem State.writeBar0_wf (s : State) (offset : Nat) (b : Bytes) (hw : s.mem.wf = true) :
    (State.writeBar0 s offset b).mem.wf = true := by
  unfold State.writeBar0
  simp (maxDischargeDepth := 40) [*]

@[simp] theorem State.writeBar0_stagingWf (s : State) (offset : Nat) (b : Bytes) (hw : s.staging.wf = true) :
    (State.writeBar0 s offset b).staging.wf = true := by
  unfold State.writeBar0
  simp (maxDischargeDepth := 40) [*]

@[simp] theorem State.writeBar0_bounded (s : State) (offset : Nat) (b : Bytes) (hw : s.paths.bounded = true) :
    (State.writeBar0 s offset b).paths.bounded = true := by
  unfold State.writeBar0
  simp (maxDischargeDepth := 40) [*]

@[simp] theorem State.runWaiting_wf (s : State) (w : Waiting) (hw : s.mem.wf = true) : (s.runWaiting w).mem.wf = true := by
  unfold State.runWaiting
  (repeat' split) <;> simp (maxDischargeDepth := 40) +contextual [hw]

@[simp] theorem State.runWaiting_stagingWf (s : State) (w : Waiting) (hw : s.staging.wf = true) : (s.runWaiting w).staging.wf = true := by
  unfold State.runWaiting
  (repeat' split) <;> simp (maxDischargeDepth := 40) +contextual [hw]

@[simp] theorem State.runWaiting_bounded (s : State) (w : Waiting) (hw : s.paths.bounded = true) : (s.runWaiting w).paths.bounded = true := by
  unfold State.runWaiting
  (repeat' split) <;> simp (maxDischargeDepth := 40) +contextual [hw]

@[simp] theorem State.endRestart_wf (s : State) (hw : s.mem.wf = true) : s.endRestart.mem.wf = true := by
  unfold State.endRestart
  extract_lets course waiting s1
  split
  · have h := foldlWf_mem State.runWaiting (fun s w h => State.runWaiting_wf s w h) s.paths.waiting s1 (by simp [s1, hw])
    simp [waiting, h]
  · exact hw

@[simp] theorem State.endRestart_stagingWf (s : State) (hw : s.staging.wf = true) : s.endRestart.staging.wf = true := by
  unfold State.endRestart
  extract_lets course waiting s1
  split
  · have h := foldlWf_staging State.runWaiting (fun s w h => State.runWaiting_stagingWf s w h) s.paths.waiting s1 (by simp [s1, hw])
    simp [waiting, h]
  · exact hw

@[simp] theorem State.endRestart_bounded (s : State) (hw : s.paths.bounded = true) : s.endRestart.paths.bounded = true := by
  unfold State.endRestart
  extract_lets course waiting s1
  split
  · refine State.noticeActivated_bounded _ _ (foldlWf_paths _ (fun s w h => State.runWaiting_bounded s w h) _ _ ?_)
    exact State.restartDone_bounded _ hw
  · exact hw

end Sys2Proof.Machine
end

