-- ==== Sys2Proof/Laws/Outcome.lean ====
section
/-! SUPPORT. The three forms of a command's outcome, `done`, `onUnit` and `instr`: what each keeps of the queue, of the
addressed memories and of soundness. -/

namespace Sys2Proof.Machine

/-! ### Taking effect -/

/-- The next state of a command that takes effect: the effect, with the queue as it was. -/
theorem done_next {s t u : State} (h : s.done t = .next u) : u = { t with pending := s.pending } := by
  cases h
  rfl

/-- An effect that leaves the queue alone is the next state itself. -/
theorem done_eq {s t : State} (h : t.pending = s.pending) : s.done t = .next t := by
  unfold State.done
  rw [← h]

theorem onUnit_true {s t : State} {m : String} : s.onUnit m true t = s.done t := rfl

/-- A command on a unit that exists takes effect. -/
theorem onUnit_runs {s t : State} {m : String} {ok : Bool} (h : ok = true) (ht : t.pending = s.pending) :
    s.onUnit m ok t = .next t := by
  rw [h]
  exact done_eq ht

theorem done_pending {s t u : State} (h : s.done t = .next u) : u.pending = s.pending := by
  cases h
  rfl

theorem onUnit_pending {s t u : State} {m : String} {ok : Bool} (h : s.onUnit m ok t = .next u) :
    u.pending = s.pending := by
  unfold State.onUnit at h
  split at h
  · exact done_pending h
  · cases h

theorem instr_pending {s u : State} {m : String} {op : Nat} {q : Issue} {f : Fields} {sh : Shape} {ok : Fields → Bool}
    {eff : Fields → State → State} (h : s.instr m op q f sh ok eff = .next u) : u.pending = s.pending := by
  unfold State.instr at h
  extract_lets c g at h
  split at h
  · exact done_pending h
  · cases h

@[simp] theorem State.trace_pending (s : State) (q : Issue) (op : Nat) : (s.trace q op).pending = s.pending := by
  unfold State.trace
  split
  · dsimp only
    split <;> rfl
  · rfl

@[simp] theorem State.issue_pending (s : State) (q : Issue) (op : Nat) : (s.issue q op).pending = s.pending :=
  State.trace_pending s q op

@[simp] theorem State.advance_pending (s : State) (q : Issue) : (s.advance q).pending = s.pending := by
  unfold State.advance
  dsimp only
  (repeat' split) <;> rfl

/-- An instruction that its queue runs issues, has its effect and advances the queue. -/
theorem instr_runs {s : State} {m : String} {op : Nat} {q : Issue} {f : Fields} {sh : Shape} {ok : Fields → Bool}
    {eff : Fields → State → State} (h : s.runs q f sh ok = true)
    (he : (eff (s.fieldsOf q f sh) (s.issue q op)).pending = s.pending) :
    s.instr m op q f sh ok eff = .next ((eff (s.fieldsOf q f sh) (s.issue q op)).advance q) := by
  unfold State.runs at h
  simp only [Bool.and_eq_true, Bool.not_eq_true'] at h
  obtain ⟨h1, h2⟩ := h
  unfold State.instr
  dsimp only
  rw [if_pos (by simp only [Bool.and_eq_true]; exact h1), if_neg (by simp [h2])]
  exact done_eq (by rw [State.advance_pending]; exact he)

/-! ### The addressed memories -/

theorem done_stores {s t u : State} (h : s.done t = .next u) (ht : t.mem = s.mem ∧ t.staging = s.staging) :
    u.mem = s.mem ∧ u.staging = s.staging := by
  cases h
  exact ht

theorem onUnit_stores {s t u : State} {m : String} {ok : Bool} (h : s.onUnit m ok t = .next u)
    (ht : t.mem = s.mem ∧ t.staging = s.staging) : u.mem = s.mem ∧ u.staging = s.staging := by
  unfold State.onUnit at h
  split at h
  · exact done_stores h ht
  · cases h

theorem instr_stores {s u : State} {m : String} {op : Nat} {q : Issue} {f : Fields} {sh : Shape} {ok : Fields → Bool}
    {eff : Fields → State → State} (h : s.instr m op q f sh ok eff = .next u)
    (he : ∀ g t, (eff g t).mem = t.mem ∧ (eff g t).staging = t.staging) : u.mem = s.mem ∧ u.staging = s.staging := by
  unfold State.instr at h
  extract_lets c g at h
  split at h
  · refine done_stores h ?_
    split
    · exact ⟨rfl, rfl⟩
    · simp [he]
  · cases h

/-! ### Soundness -/

theorem State.sound_iff {s : State} :
    s.sound = true ↔ s.mem.wf = true ∧ s.staging.wf = true ∧ s.paths.bounded = true := by
  simp [State.sound, and_assoc]

theorem done_sound {s t u : State} (h : s.done t = .next u) (ht : t.sound = true) : u.sound = true := by
  cases h
  exact ht

theorem onUnit_sound {s t u : State} {m : String} {ok : Bool} (h : s.onUnit m ok t = .next u) (ht : t.sound = true) :
    u.sound = true := by
  unfold State.onUnit at h
  split at h
  · exact done_sound h ht
  · cases h

theorem instr_sound {s u : State} {m : String} {op : Nat} {q : Issue} {f : Fields} {sh : Shape} {ok : Fields → Bool}
    {eff : Fields → State → State} (h : s.instr m op q f sh ok eff = .next u) (hs : s.sound = true)
    (he : ∀ g t, t.mem.wf = true → t.staging.wf = true → t.paths.bounded = true →
      (eff g t).mem.wf = true ∧ (eff g t).staging.wf = true ∧ (eff g t).paths.bounded = true) : u.sound = true := by
  unfold State.instr at h
  extract_lets c g at h
  split at h
  · refine done_sound h ?_
    split
    · exact hs
    · obtain ⟨h1, h2, h3⟩ := State.sound_iff.mp hs
      have := he g (s.issue q op) (by simp [h1]) (by simp [h2]) (by simp [h3])
      rw [State.sound_iff]
      simp [this]
  · cases h

end Sys2Proof.Machine
end

