-- ==== Sys2Proof/Laws/State.lean ====
section
/-! SUPPORT. What each named update of the state leaves as it was, field by field and read by read; what a write of a
register or an entry reads back; and all that raising a notice changes. -/

namespace Sys2Proof.Machine

@[simp] theorem State.setReg_fields (s : State) (r : RegId) (v : Nat) :
    (s.setReg r v).pending = s.pending ∧ (s.setReg r v).blobs = s.blobs ∧ (s.setReg r v).time = s.time ∧
    (s.setReg r v).prog = s.prog ∧ (s.setReg r v).plan = s.plan ∧ (s.setReg r v).cores = s.cores ∧
    (s.setReg r v).point = s.point ∧ (s.setReg r v).ports = s.ports ∧ (s.setReg r v).nodes = s.nodes ∧
    (s.setReg r v).qps = s.qps ∧ (s.setReg r v).serving = s.serving ∧ (s.setReg r v).weights = s.weights ∧
    (s.setReg r v).paths = s.paths ∧ (s.setReg r v).macsec = s.macsec ∧ (s.setReg r v).power = s.power ∧
    (s.setReg r v).security = s.security ∧ (s.setReg r v).bond = s.bond ∧ (s.setReg r v).repairs = s.repairs ∧
    (s.setReg r v).held = s.held ∧ (s.setReg r v).units = s.units ∧ (s.setReg r v).start = s.start ∧
    (s.setReg r v).snap = s.snap ∧ (s.setReg r v).out = s.out ∧ (s.setReg r v).drawn = s.drawn := by
  repeat' constructor

@[simp] theorem State.setReg_blob (s : State) (r : RegId) (v : Nat) (x : Nat) : (s.setReg r v).blob x = s.blob x := rfl
@[simp] theorem State.setReg_port (s : State) (r : RegId) (v : Nat) (x : Nat) : (s.setReg r v).port x = s.port x := rfl
@[simp] theorem State.setReg_core (s : State) (r : RegId) (v : Nat) (x : Nat) : (s.setReg r v).core x = s.core x := rfl
@[simp] theorem State.setReg_slot (s : State) (r : RegId) (v : Nat) (x : Nat) : (s.setReg r v).slot x = s.slot x := rfl
@[simp] theorem State.setReg_qp (s : State) (r : RegId) (v : Nat) (x : Nat) : (s.setReg r v).qp x = s.qp x := rfl

@[simp] theorem State.setBlob_fields (s : State) (k : Nat) (v : Bytes) :
    (s.setBlob k v).pending = s.pending ∧ (s.setBlob k v).regs = s.regs ∧ (s.setBlob k v).time = s.time ∧
    (s.setBlob k v).prog = s.prog ∧ (s.setBlob k v).plan = s.plan ∧ (s.setBlob k v).cores = s.cores ∧
    (s.setBlob k v).point = s.point ∧ (s.setBlob k v).ports = s.ports ∧ (s.setBlob k v).nodes = s.nodes ∧
    (s.setBlob k v).qps = s.qps ∧ (s.setBlob k v).serving = s.serving ∧ (s.setBlob k v).weights = s.weights ∧
    (s.setBlob k v).paths = s.paths ∧ (s.setBlob k v).macsec = s.macsec ∧ (s.setBlob k v).power = s.power ∧
    (s.setBlob k v).security = s.security ∧ (s.setBlob k v).bond = s.bond ∧ (s.setBlob k v).repairs = s.repairs ∧
    (s.setBlob k v).held = s.held ∧ (s.setBlob k v).units = s.units ∧ (s.setBlob k v).start = s.start ∧
    (s.setBlob k v).snap = s.snap ∧ (s.setBlob k v).out = s.out ∧ (s.setBlob k v).drawn = s.drawn := by
  repeat' constructor

@[simp] theorem State.setBlob_reg (s : State) (k : Nat) (v : Bytes) (x : RegId) : (s.setBlob k v).reg x = s.reg x := rfl
@[simp] theorem State.setBlob_port (s : State) (k : Nat) (v : Bytes) (x : Nat) : (s.setBlob k v).port x = s.port x := rfl
@[simp] theorem State.setBlob_core (s : State) (k : Nat) (v : Bytes) (x : Nat) : (s.setBlob k v).core x = s.core x := rfl
@[simp] theorem State.setBlob_slot (s : State) (k : Nat) (v : Bytes) (x : Nat) : (s.setBlob k v).slot x = s.slot x := rfl
@[simp] theorem State.setBlob_qp (s : State) (k : Nat) (v : Bytes) (x : Nat) : (s.setBlob k v).qp x = s.qp x := rfl

@[simp] theorem State.emit_fields (s : State) (o : Out) :
    (s.emit o).pending = s.pending ∧ (s.emit o).regs = s.regs ∧ (s.emit o).blobs = s.blobs ∧
    (s.emit o).time = s.time ∧ (s.emit o).prog = s.prog ∧ (s.emit o).plan = s.plan ∧ (s.emit o).cores = s.cores ∧
    (s.emit o).point = s.point ∧ (s.emit o).ports = s.ports ∧ (s.emit o).nodes = s.nodes ∧ (s.emit o).qps = s.qps ∧
    (s.emit o).serving = s.serving ∧ (s.emit o).weights = s.weights ∧ (s.emit o).paths = s.paths ∧
    (s.emit o).macsec = s.macsec ∧ (s.emit o).power = s.power ∧ (s.emit o).security = s.security ∧
    (s.emit o).bond = s.bond ∧ (s.emit o).repairs = s.repairs ∧ (s.emit o).held = s.held ∧
    (s.emit o).units = s.units ∧ (s.emit o).start = s.start ∧ (s.emit o).snap = s.snap ∧ (s.emit o).drawn = s.drawn := by
  repeat' constructor

@[simp] theorem State.emit_reg (s : State) (o : Out) (x : RegId) : (s.emit o).reg x = s.reg x := rfl
@[simp] theorem State.emit_blob (s : State) (o : Out) (x : Nat) : (s.emit o).blob x = s.blob x := rfl
@[simp] theorem State.emit_port (s : State) (o : Out) (x : Nat) : (s.emit o).port x = s.port x := rfl
@[simp] theorem State.emit_core (s : State) (o : Out) (x : Nat) : (s.emit o).core x = s.core x := rfl
@[simp] theorem State.emit_slot (s : State) (o : Out) (x : Nat) : (s.emit o).slot x = s.slot x := rfl
@[simp] theorem State.emit_qp (s : State) (o : Out) (x : Nat) : (s.emit o).qp x = s.qp x := rfl

@[simp] theorem State.drew_fields (s : State) (n : Nat) :
    (s.drew n).pending = s.pending ∧ (s.drew n).regs = s.regs ∧ (s.drew n).blobs = s.blobs ∧
    (s.drew n).time = s.time ∧ (s.drew n).prog = s.prog ∧ (s.drew n).plan = s.plan ∧ (s.drew n).cores = s.cores ∧
    (s.drew n).point = s.point ∧ (s.drew n).ports = s.ports ∧ (s.drew n).nodes = s.nodes ∧ (s.drew n).qps = s.qps ∧
    (s.drew n).serving = s.serving ∧ (s.drew n).weights = s.weights ∧ (s.drew n).paths = s.paths ∧
    (s.drew n).macsec = s.macsec ∧ (s.drew n).power = s.power ∧ (s.drew n).security = s.security ∧
    (s.drew n).bond = s.bond ∧ (s.drew n).repairs = s.repairs ∧ (s.drew n).held = s.held ∧
    (s.drew n).units = s.units ∧ (s.drew n).start = s.start ∧ (s.drew n).snap = s.snap ∧ (s.drew n).out = s.out := by
  repeat' constructor

@[simp] theorem State.drew_reg (s : State) (n : Nat) (x : RegId) : (s.drew n).reg x = s.reg x := rfl
@[simp] theorem State.drew_blob (s : State) (n : Nat) (x : Nat) : (s.drew n).blob x = s.blob x := rfl
@[simp] theorem State.drew_port (s : State) (n : Nat) (x : Nat) : (s.drew n).port x = s.port x := rfl
@[simp] theorem State.drew_core (s : State) (n : Nat) (x : Nat) : (s.drew n).core x = s.core x := rfl
@[simp] theorem State.drew_slot (s : State) (n : Nat) (x : Nat) : (s.drew n).slot x = s.slot x := rfl
@[simp] theorem State.drew_qp (s : State) (n : Nat) (x : Nat) : (s.drew n).qp x = s.qp x := rfl

@[simp] theorem State.mapTime_fields (s : State) (f : Time → Time) :
    (s.mapTime f).pending = s.pending ∧ (s.mapTime f).regs = s.regs ∧ (s.mapTime f).blobs = s.blobs ∧
    (s.mapTime f).prog = s.prog ∧ (s.mapTime f).plan = s.plan ∧ (s.mapTime f).cores = s.cores ∧
    (s.mapTime f).point = s.point ∧ (s.mapTime f).ports = s.ports ∧ (s.mapTime f).nodes = s.nodes ∧
    (s.mapTime f).qps = s.qps ∧ (s.mapTime f).serving = s.serving ∧ (s.mapTime f).weights = s.weights ∧
    (s.mapTime f).paths = s.paths ∧ (s.mapTime f).macsec = s.macsec ∧ (s.mapTime f).power = s.power ∧
    (s.mapTime f).security = s.security ∧ (s.mapTime f).bond = s.bond ∧ (s.mapTime f).repairs = s.repairs ∧
    (s.mapTime f).held = s.held ∧ (s.mapTime f).units = s.units ∧ (s.mapTime f).start = s.start ∧
    (s.mapTime f).snap = s.snap ∧ (s.mapTime f).out = s.out ∧ (s.mapTime f).drawn = s.drawn := by
  repeat' constructor

@[simp] theorem State.mapTime_reg (s : State) (f : Time → Time) (x : RegId) : (s.mapTime f).reg x = s.reg x := rfl
@[simp] theorem State.mapTime_blob (s : State) (f : Time → Time) (x : Nat) : (s.mapTime f).blob x = s.blob x := rfl
@[simp] theorem State.mapTime_port (s : State) (f : Time → Time) (x : Nat) : (s.mapTime f).port x = s.port x := rfl
@[simp] theorem State.mapTime_core (s : State) (f : Time → Time) (x : Nat) : (s.mapTime f).core x = s.core x := rfl
@[simp] theorem State.mapTime_slot (s : State) (f : Time → Time) (x : Nat) : (s.mapTime f).slot x = s.slot x := rfl
@[simp] theorem State.mapTime_qp (s : State) (f : Time → Time) (x : Nat) : (s.mapTime f).qp x = s.qp x := rfl

@[simp] theorem State.mapProg_fields (s : State) (f : Progress → Progress) :
    (s.mapProg f).pending = s.pending ∧ (s.mapProg f).regs = s.regs ∧ (s.mapProg f).blobs = s.blobs ∧
    (s.mapProg f).time = s.time ∧ (s.mapProg f).plan = s.plan ∧ (s.mapProg f).cores = s.cores ∧
    (s.mapProg f).point = s.point ∧ (s.mapProg f).ports = s.ports ∧ (s.mapProg f).nodes = s.nodes ∧
    (s.mapProg f).qps = s.qps ∧ (s.mapProg f).serving = s.serving ∧ (s.mapProg f).weights = s.weights ∧
    (s.mapProg f).paths = s.paths ∧ (s.mapProg f).macsec = s.macsec ∧ (s.mapProg f).power = s.power ∧
    (s.mapProg f).security = s.security ∧ (s.mapProg f).bond = s.bond ∧ (s.mapProg f).repairs = s.repairs ∧
    (s.mapProg f).held = s.held ∧ (s.mapProg f).units = s.units ∧ (s.mapProg f).start = s.start ∧
    (s.mapProg f).snap = s.snap ∧ (s.mapProg f).out = s.out ∧ (s.mapProg f).drawn = s.drawn := by
  repeat' constructor

@[simp] theorem State.mapProg_reg (s : State) (f : Progress → Progress) (x : RegId) : (s.mapProg f).reg x = s.reg x := rfl
@[simp] theorem State.mapProg_blob (s : State) (f : Progress → Progress) (x : Nat) : (s.mapProg f).blob x = s.blob x := rfl
@[simp] theorem State.mapProg_port (s : State) (f : Progress → Progress) (x : Nat) : (s.mapProg f).port x = s.port x := rfl
@[simp] theorem State.mapProg_core (s : State) (f : Progress → Progress) (x : Nat) : (s.mapProg f).core x = s.core x := rfl
@[simp] theorem State.mapProg_slot (s : State) (f : Progress → Progress) (x : Nat) : (s.mapProg f).slot x = s.slot x := rfl
@[simp] theorem State.mapProg_qp (s : State) (f : Progress → Progress) (x : Nat) : (s.mapProg f).qp x = s.qp x := rfl

@[simp] theorem State.setPort_fields (s : State) (p : Nat) (v : Port) :
    (s.setPort p v).pending = s.pending ∧ (s.setPort p v).regs = s.regs ∧ (s.setPort p v).blobs = s.blobs ∧
    (s.setPort p v).time = s.time ∧ (s.setPort p v).prog = s.prog ∧ (s.setPort p v).plan = s.plan ∧
    (s.setPort p v).cores = s.cores ∧ (s.setPort p v).point = s.point ∧ (s.setPort p v).nodes = s.nodes ∧
    (s.setPort p v).qps = s.qps ∧ (s.setPort p v).serving = s.serving ∧ (s.setPort p v).weights = s.weights ∧
    (s.setPort p v).paths = s.paths ∧ (s.setPort p v).macsec = s.macsec ∧ (s.setPort p v).power = s.power ∧
    (s.setPort p v).security = s.security ∧ (s.setPort p v).bond = s.bond ∧ (s.setPort p v).repairs = s.repairs ∧
    (s.setPort p v).held = s.held ∧ (s.setPort p v).units = s.units ∧ (s.setPort p v).start = s.start ∧
    (s.setPort p v).snap = s.snap ∧ (s.setPort p v).out = s.out ∧ (s.setPort p v).drawn = s.drawn := by
  repeat' constructor

@[simp] theorem State.setPort_reg (s : State) (p : Nat) (v : Port) (x : RegId) : (s.setPort p v).reg x = s.reg x := rfl
@[simp] theorem State.setPort_blob (s : State) (p : Nat) (v : Port) (x : Nat) : (s.setPort p v).blob x = s.blob x := rfl
@[simp] theorem State.setPort_core (s : State) (p : Nat) (v : Port) (x : Nat) : (s.setPort p v).core x = s.core x := rfl
@[simp] theorem State.setPort_slot (s : State) (p : Nat) (v : Port) (x : Nat) : (s.setPort p v).slot x = s.slot x := rfl
@[simp] theorem State.setPort_qp (s : State) (p : Nat) (v : Port) (x : Nat) : (s.setPort p v).qp x = s.qp x := rfl

@[simp] theorem State.setCore_fields (s : State) (c : Nat) (v : Core) :
    (s.setCore c v).pending = s.pending ∧ (s.setCore c v).regs = s.regs ∧ (s.setCore c v).blobs = s.blobs ∧
    (s.setCore c v).time = s.time ∧ (s.setCore c v).prog = s.prog ∧ (s.setCore c v).plan = s.plan ∧
    (s.setCore c v).point = s.point ∧ (s.setCore c v).ports = s.ports ∧ (s.setCore c v).nodes = s.nodes ∧
    (s.setCore c v).qps = s.qps ∧ (s.setCore c v).serving = s.serving ∧ (s.setCore c v).weights = s.weights ∧
    (s.setCore c v).paths = s.paths ∧ (s.setCore c v).macsec = s.macsec ∧ (s.setCore c v).power = s.power ∧
    (s.setCore c v).security = s.security ∧ (s.setCore c v).bond = s.bond ∧ (s.setCore c v).repairs = s.repairs ∧
    (s.setCore c v).held = s.held ∧ (s.setCore c v).units = s.units ∧ (s.setCore c v).start = s.start ∧
    (s.setCore c v).snap = s.snap ∧ (s.setCore c v).out = s.out ∧ (s.setCore c v).drawn = s.drawn := by
  repeat' constructor

@[simp] theorem State.setCore_reg (s : State) (c : Nat) (v : Core) (x : RegId) : (s.setCore c v).reg x = s.reg x := rfl
@[simp] theorem State.setCore_blob (s : State) (c : Nat) (v : Core) (x : Nat) : (s.setCore c v).blob x = s.blob x := rfl
@[simp] theorem State.setCore_port (s : State) (c : Nat) (v : Core) (x : Nat) : (s.setCore c v).port x = s.port x := rfl
@[simp] theorem State.setCore_slot (s : State) (c : Nat) (v : Core) (x : Nat) : (s.setCore c v).slot x = s.slot x := rfl
@[simp] theorem State.setCore_qp (s : State) (c : Nat) (v : Core) (x : Nat) : (s.setCore c v).qp x = s.qp x := rfl

@[simp] theorem State.setSlot_fields (s : State) (n : Nat) (v : Slot) :
    (s.setSlot n v).pending = s.pending ∧ (s.setSlot n v).regs = s.regs ∧ (s.setSlot n v).blobs = s.blobs ∧
    (s.setSlot n v).time = s.time ∧ (s.setSlot n v).prog = s.prog ∧ (s.setSlot n v).plan = s.plan ∧
    (s.setSlot n v).cores = s.cores ∧ (s.setSlot n v).point = s.point ∧ (s.setSlot n v).ports = s.ports ∧
    (s.setSlot n v).nodes = s.nodes ∧ (s.setSlot n v).qps = s.qps ∧ (s.setSlot n v).weights = s.weights ∧
    (s.setSlot n v).paths = s.paths ∧ (s.setSlot n v).macsec = s.macsec ∧ (s.setSlot n v).power = s.power ∧
    (s.setSlot n v).security = s.security ∧ (s.setSlot n v).bond = s.bond ∧ (s.setSlot n v).repairs = s.repairs ∧
    (s.setSlot n v).held = s.held ∧ (s.setSlot n v).units = s.units ∧ (s.setSlot n v).start = s.start ∧
    (s.setSlot n v).snap = s.snap ∧ (s.setSlot n v).out = s.out ∧ (s.setSlot n v).drawn = s.drawn := by
  repeat' constructor

@[simp] theorem State.setSlot_reg (s : State) (n : Nat) (v : Slot) (x : RegId) : (s.setSlot n v).reg x = s.reg x := rfl
@[simp] theorem State.setSlot_blob (s : State) (n : Nat) (v : Slot) (x : Nat) : (s.setSlot n v).blob x = s.blob x := rfl
@[simp] theorem State.setSlot_port (s : State) (n : Nat) (v : Slot) (x : Nat) : (s.setSlot n v).port x = s.port x := rfl
@[simp] theorem State.setSlot_core (s : State) (n : Nat) (v : Slot) (x : Nat) : (s.setSlot n v).core x = s.core x := rfl
@[simp] theorem State.setSlot_qp (s : State) (n : Nat) (v : Slot) (x : Nat) : (s.setSlot n v).qp x = s.qp x := rfl

@[simp] theorem State.setQp_fields (s : State) (n : Nat) (v : Qp) :
    (s.setQp n v).pending = s.pending ∧ (s.setQp n v).regs = s.regs ∧ (s.setQp n v).blobs = s.blobs ∧
    (s.setQp n v).time = s.time ∧ (s.setQp n v).prog = s.prog ∧ (s.setQp n v).plan = s.plan ∧
    (s.setQp n v).cores = s.cores ∧ (s.setQp n v).point = s.point ∧ (s.setQp n v).ports = s.ports ∧
    (s.setQp n v).nodes = s.nodes ∧ (s.setQp n v).serving = s.serving ∧ (s.setQp n v).weights = s.weights ∧
    (s.setQp n v).paths = s.paths ∧ (s.setQp n v).macsec = s.macsec ∧ (s.setQp n v).power = s.power ∧
    (s.setQp n v).security = s.security ∧ (s.setQp n v).bond = s.bond ∧ (s.setQp n v).repairs = s.repairs ∧
    (s.setQp n v).held = s.held ∧ (s.setQp n v).units = s.units ∧ (s.setQp n v).start = s.start ∧
    (s.setQp n v).snap = s.snap ∧ (s.setQp n v).out = s.out ∧ (s.setQp n v).drawn = s.drawn := by
  repeat' constructor

@[simp] theorem State.setQp_reg (s : State) (n : Nat) (v : Qp) (x : RegId) : (s.setQp n v).reg x = s.reg x := rfl
@[simp] theorem State.setQp_blob (s : State) (n : Nat) (v : Qp) (x : Nat) : (s.setQp n v).blob x = s.blob x := rfl
@[simp] theorem State.setQp_port (s : State) (n : Nat) (v : Qp) (x : Nat) : (s.setQp n v).port x = s.port x := rfl
@[simp] theorem State.setQp_core (s : State) (n : Nat) (v : Qp) (x : Nat) : (s.setQp n v).core x = s.core x := rfl
@[simp] theorem State.setQp_slot (s : State) (n : Nat) (v : Qp) (x : Nat) : (s.setQp n v).slot x = s.slot x := rfl

@[simp] theorem State.setTie_fields (s : State) (core n : Nat) (v : Tie) :
    (s.setTie core n v).pending = s.pending ∧ (s.setTie core n v).regs = s.regs ∧
    (s.setTie core n v).blobs = s.blobs ∧ (s.setTie core n v).time = s.time ∧ (s.setTie core n v).prog = s.prog ∧
    (s.setTie core n v).plan = s.plan ∧ (s.setTie core n v).cores = s.cores ∧ (s.setTie core n v).ports = s.ports ∧
    (s.setTie core n v).nodes = s.nodes ∧ (s.setTie core n v).qps = s.qps ∧
    (s.setTie core n v).serving = s.serving ∧ (s.setTie core n v).weights = s.weights ∧
    (s.setTie core n v).paths = s.paths ∧ (s.setTie core n v).macsec = s.macsec ∧
    (s.setTie core n v).power = s.power ∧ (s.setTie core n v).security = s.security ∧
    (s.setTie core n v).bond = s.bond ∧ (s.setTie core n v).repairs = s.repairs ∧
    (s.setTie core n v).held = s.held ∧ (s.setTie core n v).units = s.units ∧ (s.setTie core n v).start = s.start ∧
    (s.setTie core n v).snap = s.snap ∧ (s.setTie core n v).out = s.out ∧ (s.setTie core n v).drawn = s.drawn := by
  repeat' constructor

@[simp] theorem State.setTie_reg (s : State) (core n : Nat) (v : Tie) (x : RegId) : (s.setTie core n v).reg x = s.reg x := rfl
@[simp] theorem State.setTie_blob (s : State) (core n : Nat) (v : Tie) (x : Nat) : (s.setTie core n v).blob x = s.blob x := rfl
@[simp] theorem State.setTie_port (s : State) (core n : Nat) (v : Tie) (x : Nat) : (s.setTie core n v).port x = s.port x := rfl
@[simp] theorem State.setTie_core (s : State) (core n : Nat) (v : Tie) (x : Nat) : (s.setTie core n v).core x = s.core x := rfl
@[simp] theorem State.setTie_slot (s : State) (core n : Nat) (v : Tie) (x : Nat) : (s.setTie core n v).slot x = s.slot x := rfl
@[simp] theorem State.setTie_qp (s : State) (core n : Nat) (v : Tie) (x : Nat) : (s.setTie core n v).qp x = s.qp x := rfl

@[simp] theorem State.store_fields (s : State) (a : Nat) (bs : Bytes) :
    (s.store a bs).pending = s.pending ∧ (s.store a bs).regs = s.regs ∧ (s.store a bs).blobs = s.blobs ∧
    (s.store a bs).time = s.time ∧ (s.store a bs).prog = s.prog ∧ (s.store a bs).plan = s.plan ∧
    (s.store a bs).cores = s.cores ∧ (s.store a bs).point = s.point ∧ (s.store a bs).ports = s.ports ∧
    (s.store a bs).nodes = s.nodes ∧ (s.store a bs).qps = s.qps ∧ (s.store a bs).serving = s.serving ∧
    (s.store a bs).weights = s.weights ∧ (s.store a bs).paths = s.paths ∧ (s.store a bs).macsec = s.macsec ∧
    (s.store a bs).power = s.power ∧ (s.store a bs).security = s.security ∧ (s.store a bs).bond = s.bond ∧
    (s.store a bs).repairs = s.repairs ∧ (s.store a bs).held = s.held ∧ (s.store a bs).units = s.units ∧
    (s.store a bs).start = s.start ∧ (s.store a bs).snap = s.snap ∧ (s.store a bs).out = s.out ∧
    (s.store a bs).drawn = s.drawn ∧ (s.store a bs).staging = s.staging := by
  repeat' constructor

@[simp] theorem State.store_reg (s : State) (a : Nat) (bs : Bytes) (x : RegId) : (s.store a bs).reg x = s.reg x := rfl
@[simp] theorem State.store_blob (s : State) (a : Nat) (bs : Bytes) (x : Nat) : (s.store a bs).blob x = s.blob x := rfl
@[simp] theorem State.store_port (s : State) (a : Nat) (bs : Bytes) (x : Nat) : (s.store a bs).port x = s.port x := rfl
@[simp] theorem State.store_core (s : State) (a : Nat) (bs : Bytes) (x : Nat) : (s.store a bs).core x = s.core x := rfl
@[simp] theorem State.store_slot (s : State) (a : Nat) (bs : Bytes) (x : Nat) : (s.store a bs).slot x = s.slot x := rfl
@[simp] theorem State.store_qp (s : State) (a : Nat) (bs : Bytes) (x : Nat) : (s.store a bs).qp x = s.qp x := rfl

@[simp] theorem State.mapPaths_fields (s : State) (f : Paths → Paths) :
    (s.mapPaths f).pending = s.pending ∧ (s.mapPaths f).regs = s.regs ∧ (s.mapPaths f).blobs = s.blobs ∧
    (s.mapPaths f).time = s.time ∧ (s.mapPaths f).prog = s.prog ∧ (s.mapPaths f).plan = s.plan ∧
    (s.mapPaths f).cores = s.cores ∧ (s.mapPaths f).point = s.point ∧ (s.mapPaths f).ports = s.ports ∧
    (s.mapPaths f).nodes = s.nodes ∧ (s.mapPaths f).qps = s.qps ∧ (s.mapPaths f).serving = s.serving ∧
    (s.mapPaths f).weights = s.weights ∧ (s.mapPaths f).macsec = s.macsec ∧ (s.mapPaths f).power = s.power ∧
    (s.mapPaths f).security = s.security ∧ (s.mapPaths f).bond = s.bond ∧ (s.mapPaths f).repairs = s.repairs ∧
    (s.mapPaths f).held = s.held ∧ (s.mapPaths f).units = s.units ∧ (s.mapPaths f).start = s.start ∧
    (s.mapPaths f).snap = s.snap ∧ (s.mapPaths f).out = s.out ∧ (s.mapPaths f).drawn = s.drawn := by
  repeat' constructor

@[simp] theorem State.mapPaths_reg (s : State) (f : Paths → Paths) (x : RegId) : (s.mapPaths f).reg x = s.reg x := rfl
@[simp] theorem State.mapPaths_blob (s : State) (f : Paths → Paths) (x : Nat) : (s.mapPaths f).blob x = s.blob x := rfl
@[simp] theorem State.mapPaths_port (s : State) (f : Paths → Paths) (x : Nat) : (s.mapPaths f).port x = s.port x := rfl
@[simp] theorem State.mapPaths_core (s : State) (f : Paths → Paths) (x : Nat) : (s.mapPaths f).core x = s.core x := rfl
@[simp] theorem State.mapPaths_slot (s : State) (f : Paths → Paths) (x : Nat) : (s.mapPaths f).slot x = s.slot x := rfl
@[simp] theorem State.mapPaths_qp (s : State) (f : Paths → Paths) (x : Nat) : (s.mapPaths f).qp x = s.qp x := rfl

@[simp] theorem State.mapBond_fields (s : State) (f : Bond → Bond) :
    (s.mapBond f).pending = s.pending ∧ (s.mapBond f).regs = s.regs ∧ (s.mapBond f).blobs = s.blobs ∧
    (s.mapBond f).time = s.time ∧ (s.mapBond f).prog = s.prog ∧ (s.mapBond f).plan = s.plan ∧
    (s.mapBond f).cores = s.cores ∧ (s.mapBond f).point = s.point ∧ (s.mapBond f).ports = s.ports ∧
    (s.mapBond f).nodes = s.nodes ∧ (s.mapBond f).qps = s.qps ∧ (s.mapBond f).serving = s.serving ∧
    (s.mapBond f).weights = s.weights ∧ (s.mapBond f).paths = s.paths ∧ (s.mapBond f).macsec = s.macsec ∧
    (s.mapBond f).power = s.power ∧ (s.mapBond f).security = s.security ∧ (s.mapBond f).repairs = s.repairs ∧
    (s.mapBond f).held = s.held ∧ (s.mapBond f).units = s.units ∧ (s.mapBond f).start = s.start ∧
    (s.mapBond f).snap = s.snap ∧ (s.mapBond f).out = s.out ∧ (s.mapBond f).drawn = s.drawn := by
  repeat' constructor

@[simp] theorem State.mapBond_reg (s : State) (f : Bond → Bond) (x : RegId) : (s.mapBond f).reg x = s.reg x := rfl
@[simp] theorem State.mapBond_blob (s : State) (f : Bond → Bond) (x : Nat) : (s.mapBond f).blob x = s.blob x := rfl
@[simp] theorem State.mapBond_port (s : State) (f : Bond → Bond) (x : Nat) : (s.mapBond f).port x = s.port x := rfl
@[simp] theorem State.mapBond_core (s : State) (f : Bond → Bond) (x : Nat) : (s.mapBond f).core x = s.core x := rfl
@[simp] theorem State.mapBond_slot (s : State) (f : Bond → Bond) (x : Nat) : (s.mapBond f).slot x = s.slot x := rfl
@[simp] theorem State.mapBond_qp (s : State) (f : Bond → Bond) (x : Nat) : (s.mapBond f).qp x = s.qp x := rfl

/-! ### Reading back -/

/-- Another register is as it was. -/
theorem State.setReg_reg_other (s : State) (r x : RegId) (v : Nat) (h : x.key ≠ r.key) : (s.setReg r v).reg x = s.reg x :=
  Map.get_set_other h

/-- The register reads what was written, modulo its width. -/
theorem State.setReg_reg (s : State) (r : RegId) (v : Nat) (h : Map.rising s.regs = true) :
    (s.setReg r v).reg r = v % 2 ^ r.width :=
  Map.get_set_same h

/-- Another entry is as it was. -/
theorem State.setBlob_blob_other (s : State) (k x : Nat) (v : Bytes) (h : x ≠ k) : (s.setBlob k v).blob x = s.blob x := by
  unfold State.setBlob State.blob
  generalize blobDefault k = d
  exact Map.get_set_other h

@[simp] theorem State.bumpBy_fields (s : State) (r : RegId) (n : Nat) :
    (s.bumpBy r n).pending = s.pending ∧ (s.bumpBy r n).blobs = s.blobs ∧ (s.bumpBy r n).time = s.time ∧
    (s.bumpBy r n).prog = s.prog ∧ (s.bumpBy r n).plan = s.plan ∧ (s.bumpBy r n).cores = s.cores ∧
    (s.bumpBy r n).point = s.point ∧ (s.bumpBy r n).ports = s.ports ∧ (s.bumpBy r n).nodes = s.nodes ∧
    (s.bumpBy r n).qps = s.qps ∧ (s.bumpBy r n).serving = s.serving ∧ (s.bumpBy r n).weights = s.weights ∧
    (s.bumpBy r n).paths = s.paths ∧ (s.bumpBy r n).macsec = s.macsec ∧ (s.bumpBy r n).power = s.power ∧
    (s.bumpBy r n).security = s.security ∧ (s.bumpBy r n).bond = s.bond ∧ (s.bumpBy r n).repairs = s.repairs ∧
    (s.bumpBy r n).held = s.held ∧ (s.bumpBy r n).units = s.units ∧ (s.bumpBy r n).start = s.start ∧
    (s.bumpBy r n).snap = s.snap ∧ (s.bumpBy r n).out = s.out ∧ (s.bumpBy r n).drawn = s.drawn :=
  State.setReg_fields s r _

@[simp] theorem State.bump_fields (s : State) (r : RegId) :
    (s.bump r).pending = s.pending ∧ (s.bump r).blobs = s.blobs ∧ (s.bump r).time = s.time ∧
    (s.bump r).prog = s.prog ∧ (s.bump r).plan = s.plan ∧ (s.bump r).cores = s.cores ∧ (s.bump r).point = s.point ∧
    (s.bump r).ports = s.ports ∧ (s.bump r).nodes = s.nodes ∧ (s.bump r).qps = s.qps ∧
    (s.bump r).serving = s.serving ∧ (s.bump r).weights = s.weights ∧ (s.bump r).paths = s.paths ∧
    (s.bump r).macsec = s.macsec ∧ (s.bump r).power = s.power ∧ (s.bump r).security = s.security ∧
    (s.bump r).bond = s.bond ∧ (s.bump r).repairs = s.repairs ∧ (s.bump r).held = s.held ∧
    (s.bump r).units = s.units ∧ (s.bump r).start = s.start ∧ (s.bump r).snap = s.snap ∧ (s.bump r).out = s.out ∧
    (s.bump r).drawn = s.drawn :=
  State.setReg_fields s r _

/-! ### Issue and advance -/

/-- Issuing an instruction changes registers, the issue trace and the count of corrected words, and nothing else. -/
@[simp] theorem State.issue_fields (s : State) (q : Issue) (op : Nat) :
    (s.issue q op).blobs = s.blobs ∧ (s.issue q op).time = s.time ∧ (s.issue q op).prog = s.prog ∧
    (s.issue q op).plan = s.plan ∧ (s.issue q op).cores = s.cores ∧ (s.issue q op).point = s.point ∧
    (s.issue q op).ports = s.ports ∧ (s.issue q op).nodes = s.nodes ∧ (s.issue q op).qps = s.qps ∧
    (s.issue q op).serving = s.serving ∧ (s.issue q op).weights = s.weights ∧ (s.issue q op).paths = s.paths ∧
    (s.issue q op).macsec = s.macsec ∧ (s.issue q op).power = s.power ∧ (s.issue q op).bond = s.bond ∧
    (s.issue q op).repairs = s.repairs ∧ (s.issue q op).held = s.held ∧ (s.issue q op).start = s.start ∧
    (s.issue q op).snap = s.snap ∧ (s.issue q op).out = s.out := by
  unfold State.issue State.countCorrected State.trace
  simp only [State.bump_fields]
  split
  · dsimp only
    split <;> repeat' constructor
  · repeat' constructor

/-- Advancing a queue changes its core and nothing else. -/
@[simp] theorem State.advance_fields (s : State) (q : Issue) :
    (s.advance q).regs = s.regs ∧ (s.advance q).blobs = s.blobs ∧ (s.advance q).time = s.time ∧
    (s.advance q).prog = s.prog ∧ (s.advance q).plan = s.plan ∧ (s.advance q).point = s.point ∧
    (s.advance q).ports = s.ports ∧ (s.advance q).nodes = s.nodes ∧ (s.advance q).qps = s.qps ∧
    (s.advance q).serving = s.serving ∧ (s.advance q).weights = s.weights ∧ (s.advance q).paths = s.paths ∧
    (s.advance q).macsec = s.macsec ∧ (s.advance q).power = s.power ∧ (s.advance q).security = s.security ∧
    (s.advance q).bond = s.bond ∧ (s.advance q).repairs = s.repairs ∧ (s.advance q).held = s.held ∧
    (s.advance q).units = s.units ∧ (s.advance q).start = s.start ∧ (s.advance q).snap = s.snap ∧
    (s.advance q).out = s.out ∧ (s.advance q).drawn = s.drawn := by
  unfold State.advance
  dsimp only
  (repeat' split) <;> repeat' constructor

/-! ### Notices -/

/-- Forming a notice changes registers and the paths, and nothing else. -/
@[simp] theorem State.deliver_fields (s : State) (k : NoticeKind) (source suppressed : Nat) (payload : Bytes) :
    (s.deliver k source suppressed payload).pending = s.pending ∧
    (s.deliver k source suppressed payload).blobs = s.blobs ∧
    (s.deliver k source suppressed payload).time = s.time ∧ (s.deliver k source suppressed payload).prog = s.prog ∧
    (s.deliver k source suppressed payload).plan = s.plan ∧
    (s.deliver k source suppressed payload).cores = s.cores ∧
    (s.deliver k source suppressed payload).point = s.point ∧
    (s.deliver k source suppressed payload).ports = s.ports ∧
    (s.deliver k source suppressed payload).nodes = s.nodes ∧ (s.deliver k source suppressed payload).qps = s.qps ∧
    (s.deliver k source suppressed payload).serving = s.serving ∧
    (s.deliver k source suppressed payload).weights = s.weights ∧
    (s.deliver k source suppressed payload).macsec = s.macsec ∧
    (s.deliver k source suppressed payload).power = s.power ∧
    (s.deliver k source suppressed payload).security = s.security ∧
    (s.deliver k source suppressed payload).bond = s.bond ∧
    (s.deliver k source suppressed payload).repairs = s.repairs ∧
    (s.deliver k source suppressed payload).held = s.held ∧
    (s.deliver k source suppressed payload).units = s.units ∧
    (s.deliver k source suppressed payload).start = s.start ∧
    (s.deliver k source suppressed payload).snap = s.snap ∧ (s.deliver k source suppressed payload).out = s.out ∧
    (s.deliver k source suppressed payload).drawn = s.drawn := by
  repeat' constructor

/-- Raising a notice changes registers and the paths, and nothing else. -/
@[simp] theorem State.notice_fields (s : State) (k : NoticeKind) (source : Nat) (payload : Bytes) :
    (s.notice k source payload).pending = s.pending ∧ (s.notice k source payload).blobs = s.blobs ∧
    (s.notice k source payload).time = s.time ∧ (s.notice k source payload).prog = s.prog ∧
    (s.notice k source payload).plan = s.plan ∧ (s.notice k source payload).cores = s.cores ∧
    (s.notice k source payload).point = s.point ∧ (s.notice k source payload).ports = s.ports ∧
    (s.notice k source payload).nodes = s.nodes ∧ (s.notice k source payload).qps = s.qps ∧
    (s.notice k source payload).serving = s.serving ∧ (s.notice k source payload).weights = s.weights ∧
    (s.notice k source payload).macsec = s.macsec ∧ (s.notice k source payload).power = s.power ∧
    (s.notice k source payload).security = s.security ∧ (s.notice k source payload).bond = s.bond ∧
    (s.notice k source payload).repairs = s.repairs ∧ (s.notice k source payload).held = s.held ∧
    (s.notice k source payload).units = s.units ∧ (s.notice k source payload).start = s.start ∧
    (s.notice k source payload).snap = s.snap ∧ (s.notice k source payload).out = s.out ∧
    (s.notice k source payload).drawn = s.drawn := by
  unfold State.notice
  split
  · exact State.deliver_fields _ _ _ _ _
  · split
    · repeat' constructor
    · extract_lets b
      split
      · exact State.deliver_fields _ _ _ _ _
      · repeat' constructor

/-- The registers that raising a notice can change: the next Sequence and the counters of R437 to R439. -/
def noticeRegs : List Nat :=
  [Reg.nextNoticeSequence.key, Reg.chainNoticesLost.key, Reg.ringNoticesLost.key, Reg.noticesMasked.key,
    Reg.noticesSuppressed.key]

/-- Any other register is as it was. -/
theorem State.notice_reg (s : State) (k : NoticeKind) (source : Nat) (payload : Bytes) (x : RegId)
    (h : x.key ∉ noticeRegs) : (s.notice k source payload).reg x = s.reg x := by
  simp only [noticeRegs, List.mem_cons, List.not_mem_nil, or_false, not_or] at h
  obtain ⟨h1, h2, h3, h4, h5⟩ := h
  have hd (s : State) (suppressed : Nat) : (s.deliver k source suppressed payload).reg x = s.reg x := by
    refine (State.setReg_reg_other _ _ _ _ h3).trans ?_
    refine (State.setReg_reg_other _ _ _ _ h2).trans ?_
    exact State.setReg_reg_other _ _ _ _ h1
  unfold State.notice
  split
  · exact hd _ _
  · split
    · exact State.setReg_reg_other _ _ _ _ h4
    · extract_lets b
      split
      · exact hd _ _
      · exact State.setReg_reg_other _ _ _ _ h5

end Sys2Proof.Machine
end

