-- ==== Sys2Proof/Laws/Pending.lean ====
section
/-! SUPPORT. Every operation leaves the queue of waiting commands alone: commands wait until a step takes them. -/

namespace Sys2Proof.Machine

@[simp] theorem foldl_pending {α : Type} (g : State → α → State) (h : ∀ s a, (g s a).pending = s.pending) (l : List α)
    (s : State) : (l.foldl g s).pending = s.pending := by
  induction l generalizing s with
  | nil => rfl
  | cons a l ih => rw [List.foldl_cons, ih, h]

@[simp] theorem State.setReg_pending (s : State) (r : RegId) (v : Nat) :
    (State.setReg s r v).pending = s.pending := by
  unfold State.setReg
  simp

@[simp] theorem State.bumpBy_pending (s : State) (r : RegId) (n : Nat) :
    (State.bumpBy s r n).pending = s.pending := by
  unfold State.bumpBy
  simp

@[simp] theorem State.bump_pending (s : State) (r : RegId) : (State.bump s r).pending = s.pending := by
  unfold State.bump
  simp

@[simp] theorem State.lower_pending (s : State) (r : RegId) (n : Nat) : (State.lower s r n).pending = s.pending := by
  unfold State.lower
  simp

@[simp] theorem State.setBlob_pending (s : State) (k : Nat) (v : Bytes) :
    (State.setBlob s k v).pending = s.pending := by
  unfold State.setBlob
  simp

@[simp] theorem State.setBlobByte_pending (s : State) (k i v : Nat) :
    (State.setBlobByte s k i v).pending = s.pending := by
  unfold State.setBlobByte
  simp

@[simp] theorem State.emit_pending (s : State) (o : Out) : (State.emit s o).pending = s.pending := by
  unfold State.emit
  simp

@[simp] theorem State.drew_pending (s : State) (n : Nat) : (State.drew s n).pending = s.pending := by
  unfold State.drew
  simp

@[simp] theorem State.mapTime_pending (s : State) (f : Time → Time) : (State.mapTime s f).pending = s.pending := by
  unfold State.mapTime
  simp

@[simp] theorem State.mapProg_pending (s : State) (f : Progress → Progress) :
    (State.mapProg s f).pending = s.pending := by
  unfold State.mapProg
  simp

@[simp] theorem State.crossEdges_pending (s : State) (a b granules : Nat) :
    (State.crossEdges s a b granules).pending = s.pending := by
  unfold State.crossEdges
  refine (foldl_pending _ (fun s a => ?_) _ _).trans ?_ <;> (repeat' split) <;> simp

@[simp] theorem State.crossAccess_pending (s : State) (core a n : Nat) :
    (State.crossAccess s core a n).pending = s.pending := by
  unfold State.crossAccess
  simp

@[simp] theorem State.deliver_pending (s : State) (k : NoticeKind) (source suppressed : Nat) (payload : Bytes) :
    (State.deliver s k source suppressed payload).pending = s.pending := by
  unfold State.deliver
  simp

@[simp] theorem State.notice_pending (s : State) (k : NoticeKind) (source : Nat) (payload : Bytes) :
    (State.notice s k source payload).pending = s.pending := by
  unfold State.notice
  simp

@[simp] theorem sweepBuckets_pending (l : Map Bucket) (s : State) :
    (sweepBuckets l s).pending = s.pending := by
  induction l generalizing s with
  | nil => rfl
  | cons e l ih =>
    unfold sweepBuckets
    split
    · exact ih s
    · simp [ih]

@[simp] theorem State.sweep_pending (s : State) : (State.sweep s).pending = s.pending := by
  unfold State.sweep
  simp

@[simp] theorem State.refillBuckets_pending (s : State) : (State.refillBuckets s).pending = s.pending := by
  unfold State.refillBuckets
  simp

@[simp] theorem State.setPort_pending (s : State) (p : Nat) (v : Port) :
    (State.setPort s p v).pending = s.pending := by
  unfold State.setPort
  simp

@[simp] theorem State.setCore_pending (s : State) (c : Nat) (v : Core) :
    (State.setCore s c v).pending = s.pending := by
  unfold State.setCore
  simp

@[simp] theorem State.setSlot_pending (s : State) (n : Nat) (v : Slot) :
    (State.setSlot s n v).pending = s.pending := by
  unfold State.setSlot
  simp

@[simp] theorem State.setQp_pending (s : State) (n : Nat) (v : Qp) : (State.setQp s n v).pending = s.pending := by
  unfold State.setQp
  simp

@[simp] theorem State.recordAbsent_pending (s : State) (v : Via) (index sub op : Nat) :
    (State.recordAbsent s v index sub op).pending = s.pending := by
  unfold State.recordAbsent
  simp

@[simp] theorem State.countResult_pending (s : State) (rc : Nat) : (State.countResult s rc).pending = s.pending := by
  unfold State.countResult
  simp

@[simp] theorem State.countRequest_pending (s : State) (v : Via) : (State.countRequest s v).pending = s.pending := by
  unfold State.countRequest
  simp

@[simp] theorem State.applyWhole_pending (s : State) (e : Entry) (index sub : Nat) (value : Bytes)
    (act : State → Nat × State) (hact : ∀ x0, (act x0).2.pending = x0.pending) :
    (State.applyWhole s e index sub value act).2.pending = s.pending := by
  unfold State.applyWhole
  (repeat' split) <;> simp_all

@[simp] theorem State.respond_pending (s : State) (v : Via) (index sub op rc : Nat) (value : Bytes) :
    (State.respond s v index sub op rc value).pending = s.pending := by
  unfold State.respond
  simp

@[simp] theorem State.holdBack_pending (s : State) (w : Waiting) : (State.holdBack s w).pending = s.pending := by
  unfold State.holdBack
  simp

@[simp] theorem State.writeNow_pending (s : State) (v : Via) (index sub typ : Nat) (value : Bytes)
    (act : State → Nat × State) (hact : ∀ x0, (act x0).2.pending = x0.pending) :
    (State.writeNow s v index sub typ value act).pending = s.pending := by
  unfold State.writeNow
  dsimp only
  (repeat' split) <;> simp [hact]

@[simp] theorem State.writeRequest_pending (s : State) (v : Via) (index sub typ : Nat) (value : Bytes)
    (act : State → Nat × State) (hact : ∀ x0, (act x0).2.pending = x0.pending) :
    (State.writeRequest s v index sub typ value act).pending = s.pending := by
  unfold State.writeRequest
  (repeat' split) <;> simp_all

@[simp] theorem State.writeNumber_pending (s : State) (v : Via) (index sub typ value : Nat)
    (act : State → Nat × State) (hact : ∀ x0, (act x0).2.pending = x0.pending) :
    (State.writeNumber s v index sub typ value act).pending = s.pending := by
  unfold State.writeNumber
  (repeat' split) <;> simp_all

@[simp] theorem State.putReg_pending (s : State) (r : RegId) (v : Nat) :
    (State.putReg s r v).2.pending = s.pending := by
  unfold State.putReg
  simp

@[simp] theorem State.setMacsec_pending (s : State) (n : Nat) (v : Macsec) :
    (State.setMacsec s n v).pending = s.pending := by
  unfold State.setMacsec
  simp

@[simp] theorem State.transmit_pending (s : State) (n : Nat) (o : Out) :
    (State.transmit s n o).pending = s.pending := by
  unfold State.transmit
  (repeat' split) <;> simp

@[simp] theorem State.sendQp_pending (s : State) (n imm : Nat) (data : Bytes) :
    (State.sendQp s n imm data).pending = s.pending := by
  unfold State.sendQp
  simp

@[simp] theorem State.sendHead_pending (s : State) (imm : Nat) (body : Bytes) :
    (State.sendHead s imm body).pending = s.pending := by
  unfold State.sendHead
  (repeat' split) <;> simp

@[simp] theorem State.noticeAborted_pending (s : State) (slot reason course reporter : Nat) :
    (State.noticeAborted s slot reason course reporter).pending = s.pending := by
  unfold State.noticeAborted
  simp

@[simp] theorem State.withdrawFinal_pending (s : State) (slot : Nat) :
    (State.withdrawFinal s slot).pending = s.pending := by
  unfold State.withdrawFinal
  simp

@[simp] theorem State.markAborted_pending (s : State) (slot reason course reporter : Nat) :
    (State.markAborted s slot reason course reporter).pending = s.pending := by
  unfold State.markAborted
  dsimp only
  (repeat' split) <;> simp

@[simp] theorem State.reportAbort_pending (s : State) (slot reason course : Nat) :
    (State.reportAbort s slot reason course).pending = s.pending := by
  unfold State.reportAbort
  simp

@[simp] theorem State.abortSlot_pending (s : State) (reason course slot : Nat) :
    (State.abortSlot s reason course slot).pending = s.pending := by
  unfold State.abortSlot
  simp

@[simp] theorem State.abortSlots_pending (s : State) (reason : Nat) (slots : List Nat) :
    (State.abortSlots s reason slots).pending = s.pending := by
  unfold State.abortSlots
  simp

@[simp] theorem State.arrayFault_pending (s : State) (code core engine : Nat) :
    (State.arrayFault s code core engine).pending = s.pending := by
  unfold State.arrayFault
  simp

@[simp] theorem State.formatFault_pending (s : State) (core engine cause : Nat) (slots : List Nat) :
    (State.formatFault s core engine cause slots).pending = s.pending := by
  unfold State.formatFault
  simp

@[simp] theorem State.abandon_pending (s : State) (cluster reason next : Nat) :
    (State.abandon s cluster reason next).pending = s.pending := by
  unfold State.abandon
  (repeat' split) <;> simp

@[simp] theorem State.pendRetirement_pending (s : State) (cluster : Nat) :
    (State.pendRetirement s cluster).pending = s.pending := by
  unfold State.pendRetirement
  simp

@[simp] theorem State.coreFault_pending (s : State) (core : Nat) : (State.coreFault s core).pending = s.pending := by
  unfold State.coreFault
  simp

@[simp] theorem State.noticeHard_pending (s : State) (kind unit course : Nat) :
    (State.noticeHard s kind unit course).pending = s.pending := by
  unfold State.noticeHard
  simp

@[simp] theorem State.hardFault_pending (s : State) (kind unit : Nat) :
    (State.hardFault s kind unit).pending = s.pending := by
  unfold State.hardFault
  simp

@[simp] theorem State.hodFault_pending (s : State) (core hod kind : Nat) :
    (State.hodFault s core hod kind).pending = s.pending := by
  unfold State.hodFault
  simp

@[simp] theorem State.setQueueOf_pending (s : State) (q : Issue) (v : QueueState) :
    (State.setQueueOf s q v).pending = s.pending := by
  unfold State.setQueueOf
  simp

@[simp] theorem State.occupy_pending (s : State) (q : Issue) (n : Nat) :
    (State.occupy s q n).pending = s.pending := by
  unfold State.occupy
  simp

@[simp] theorem State.countCorrected_pending (s : State) (core n : Nat) :
    (State.countCorrected s core n).pending = s.pending := by
  unfold State.countCorrected
  simp

@[simp] theorem State.pop_pending (s : State) (core h n : Nat) : (State.pop s core h n).2.pending = s.pending := by
  unfold State.pop
  simp

@[simp] theorem State.push_pending (s : State) (core h : Nat) (es : List Bytes) :
    (State.push s core h es).pending = s.pending := by
  unfold State.push
  simp

@[simp] theorem State.popping_pending (s : State) (core h n : Nat) (k : List Bytes → State → State) (hk : ∀ x0 x1,
    (k x0 x1).pending = x1.pending) : (State.popping s core h n k).pending = s.pending := by
  unfold State.popping
  (repeat' split) <;> (try simp only [Prod.ext_iff] at *) <;> (try casesm* _ ∧ _) <;> (try subst_vars) <;>
    simp [hk]

@[simp] theorem State.store_pending (s : State) (a : Nat) (bs : Bytes) :
    (State.store s a bs).pending = s.pending := by
  unfold State.store
  simp

@[simp] theorem State.releasePlumb_pending (s : State) (core mark cycle : Nat) :
    (State.releasePlumb s core mark cycle).pending = s.pending := by
  unfold State.releasePlumb
  dsimp only
  (repeat' split) <;> simp

@[simp] theorem State.startBundle_pending (s : State) (q : Issue) : (State.startBundle s q).pending = s.pending := by
  unfold State.startBundle
  dsimp only
  (repeat' split) <;> simp

@[simp] theorem State.mapSeq_pending (s : State) (core : Nat) (g : Sequencer → Sequencer) :
    (State.mapSeq s core g).pending = s.pending := by
  unfold State.mapSeq
  simp

@[simp] theorem State.waitFor_pending (s : State) (core : Nat) (w : WaitSlot) (n : Need) :
    (State.waitFor s core w n).pending = s.pending := by
  unfold State.waitFor
  (repeat' split) <;> simp

@[simp] theorem State.setTie_pending (s : State) (core n : Nat) (v : Tie) :
    (State.setTie s core n v).pending = s.pending := by
  unfold State.setTie
  simp

@[simp] theorem State.correctedAt_pending (s : State) (a n : Nat) :
    (State.correctedAt s a n).pending = s.pending := by
  unfold State.correctedAt
  simp

@[simp] theorem State.countUncorrectable_pending (s : State) (a : Nat) :
    (State.countUncorrectable s a).pending = s.pending := by
  unfold State.countUncorrectable
  simp

@[simp] theorem State.uncorrectableAt_pending (s : State) (a foundBy : Nat) :
    (State.uncorrectableAt s a foundBy).pending = s.pending := by
  unfold State.uncorrectableAt
  simp

@[simp] theorem State.eccFound_pending (s : State) (a n : Nat) (e : Ecc) (foundBy : Nat) :
    (State.eccFound s a n e foundBy).pending = s.pending := by
  unfold State.eccFound
  (repeat' split) <;> simp

@[simp] theorem State.countEvents_pending (s : State) (cluster mask : Nat) :
    (State.countEvents s cluster mask).pending = s.pending := by
  unfold State.countEvents
  simp

@[simp] theorem State.raise_pending (s : State) (core engine mask : Nat) :
    (State.raise s core engine mask).pending = s.pending := by
  unfold State.raise
  simp

@[simp] theorem State.clearEvents_pending (s : State) (cluster value : Nat) :
    (State.clearEvents s cluster value).pending = s.pending := by
  unfold State.clearEvents
  simp

@[simp] theorem State.clearFlags_pending (s : State) (core engine value raised : Nat) :
    (State.clearFlags s core engine value raised).pending = s.pending := by
  unfold State.clearFlags
  simp

@[simp] theorem State.clearEveryFlag_pending (s : State) (value : Nat) :
    (State.clearEveryFlag s value).pending = s.pending := by
  unfold State.clearEveryFlag
  simp

@[simp] theorem State.lanesOut_pending (s : State) (core hod flags : Nat) (l : List Flagged) :
    (State.lanesOut s core hod flags l).pending = s.pending := by
  unfold State.lanesOut
  simp

@[simp] theorem State.lanesIn_pending (s : State) (q : Issue) (hod fmt : Nat) (k : List Nat → Nat → State → State)
    (hk : ∀ x0 x1 x2, (k x0 x1 x2).pending = x2.pending) : (State.lanesIn s q hod fmt k).pending = s.pending := by
  unfold State.lanesIn
  (repeat' split) <;> simp_all

@[simp] theorem State.lanesB_pending (s : State) (q : Issue) (f : Fields) (k : List Nat → Nat → State → State)
    (hk : ∀ x0 x1 x2, (k x0 x1 x2).pending = x2.pending) : (State.lanesB s q f k).pending = s.pending := by
  unfold State.lanesB
  (repeat' split) <;> simp_all

@[simp] theorem State.unary_pending (s : State) (q : Issue) (f : Fields) (op : Bool → Nat → Flagged) :
    (State.unary s q f op).pending = s.pending := by
  unfold State.unary
  simp

@[simp] theorem State.binary_pending (s : State) (q : Issue) (f : Fields) (op : Bool → Nat → Nat → Flagged) :
    (State.binary s q f op).pending = s.pending := by
  unfold State.binary
  simp

@[simp] theorem State.chunksIn_pending (s : State) (q : Issue) (hod fmt c : Nat) (k : List
    (List Nat) → Nat → State → State) (hk : ∀ x0 x1 x2, (k x0 x1 x2).pending = x2.pending) :
    (State.chunksIn s q hod fmt c k).pending = s.pending := by
  unfold State.chunksIn
  (repeat' split) <;> simp_all

@[simp] theorem State.overChunks_pending (s : State) (q : Issue) (g : Fields) (k : List
    (List Nat) → Nat → State → State) (hk : ∀ x0 x1 x2, (k x0 x1 x2).pending = x2.pending) :
    (State.overChunks s q g k).pending = s.pending := by
  unfold State.overChunks
  (repeat' split) <;> simp_all

@[simp] theorem State.scalarOut_pending (s : State) (core hod flags : Nat) (r : Flagged) :
    (State.scalarOut s core hod flags r).pending = s.pending := by
  unfold State.scalarOut
  simp

@[simp] theorem State.rotateOut_pending (s : State) (core hod flags : Nat) (x0 x1 c sn : List Nat) :
    (State.rotateOut s core hod flags x0 x1 c sn).pending = s.pending := by
  unfold State.rotateOut
  simp

@[simp] theorem State.setArrayOf_pending (s : State) (core eng : Nat) (v : ArrayState) :
    (State.setArrayOf s core eng v).pending = s.pending := by
  unfold State.setArrayOf
  simp

@[simp] theorem State.runOn_pending (s : State) (core eng : Nat) (x : Recent) :
    (State.runOn s core eng x).pending = s.pending := by
  unfold State.runOn
  simp

@[simp] theorem State.runFirst_pending (s : State) (core eng : Nat) (p : Pass) (flush : Bool) (vs : List
    (Nat × List Nat)) (g : Fill) : (State.runFirst s core eng p flush vs g).pending = s.pending := by
  unfold State.runFirst
  simp

@[simp] theorem State.settle_pending (s : State) (core eng n : Nat) :
    (s.settle core eng n).pending = s.pending := by
  induction n generalizing s with
  | zero => rfl
  | succ n ih =>
    unfold State.settle
    dsimp only
    (repeat' split) <;> simp [ih]

@[simp] theorem State.capturePasses_pending (s : State) (core eng now : Nat) :
    (State.capturePasses s core eng now).pending = s.pending := by
  unfold State.capturePasses
  simp

@[simp] theorem State.runTo_pending (s : State) (core eng now : Nat) :
    (State.runTo s core eng now).pending = s.pending := by
  unfold State.runTo
  simp

@[simp] theorem State.runCore_pending (s : State) (core now : Nat) :
    (State.runCore s core now).pending = s.pending := by
  unfold State.runCore
  dsimp only
  (repeat' split) <;> simp

@[simp] theorem State.runArrays_pending (s : State) : (State.runArrays s).pending = s.pending := by
  unfold State.runArrays
  simp

@[simp] theorem State.suspendFor_pending (s : State) (w : TileWait) : (State.suspendFor s w).pending = s.pending := by
  unfold State.suspendFor
  (repeat' split) <;> simp

@[simp] theorem State.endSuspension_pending (s : State) : (State.endSuspension s).pending = s.pending := by
  unfold State.endSuspension
  (repeat' split) <;> simp

@[simp] theorem State.countIdle_pending (s : State) (slot : Nat) : (State.countIdle s slot).pending = s.pending := by
  unfold State.countIdle
  simp

@[simp] theorem State.tintMismatch_pending (s : State) (core eng : Nat) (g : Fill) (x : Front) :
    (State.tintMismatch s core eng g x).pending = s.pending := by
  unfold State.tintMismatch
  simp

@[simp] theorem State.generationMismatch_pending (s : State) (core eng : Nat) (g : Fill) (x : Front) :
    (State.generationMismatch s core eng g x).pending = s.pending := by
  unfold State.generationMismatch
  simp

@[simp] theorem State.judgeRest_pending (s : State) (core eng : Nat) (g : Fill) (x : Front) :
    (State.judgeRest s core eng g x).2.pending = s.pending := by
  unfold State.judgeRest
  simp

@[simp] theorem State.countUnchecked_pending (s : State) (x : Front) :
    (State.countUnchecked s x).pending = s.pending := by
  unfold State.countUnchecked
  (repeat' split) <;> simp

@[simp] theorem State.judged_pending (s : State) (core eng : Nat) (v : Bool) :
    (State.judged s core eng v).pending = s.pending := by
  unfold State.judged
  simp

@[simp] theorem State.checkFailed_pending (s : State) (core eng : Nat) (g : Fill) :
    (State.checkFailed s core eng g).pending = s.pending := by
  unfold State.checkFailed
  simp

@[simp] theorem State.judgeFill_pending (s : State) (core eng : Nat) :
    (State.judgeFill s core eng).pending = s.pending := by
  unfold State.judgeFill
  (repeat' split) <;> simp

@[simp] theorem State.tileVerdict_pending (s : State) (core eng : Nat) :
    (State.tileVerdict s core eng).pending = s.pending := by
  unfold State.tileVerdict
  simp

@[simp] theorem State.runToNow_pending (s : State) (q : Issue) : (State.runToNow s q).pending = s.pending := by
  unfold State.runToNow
  simp

@[simp] theorem State.startFill_pending (s : State) (q : Issue) (f : Fields) (a : Nat) (batch : Option Nat)
    (err : Errors) : (State.startFill s q f a batch err).pending = s.pending := by
  unfold State.startFill
  simp

@[simp] theorem State.openPass_pending (s : State) (q : Issue) (f : Fields) (batch : Option Nat) :
    (State.openPass s q f batch).pending = s.pending := by
  unfold State.openPass
  simp

@[simp] theorem State.sendMirrorAt_pending (s : State) (course kind slot tint : Nat) (payload : Bytes) :
    (State.sendMirrorAt s course kind slot tint payload).pending = s.pending := by
  unfold State.sendMirrorAt
  simp

@[simp] theorem State.sendMirror_pending (s : State) (kind slot tint : Nat) (payload : Bytes) :
    (State.sendMirror s kind slot tint payload).pending = s.pending := by
  unfold State.sendMirror
  simp

@[simp] theorem State.mirrorSlot_pending (s : State) (kind slot : Nat) (payload : Bytes) :
    (State.mirrorSlot s kind slot payload).pending = s.pending := by
  unfold State.mirrorSlot
  simp

@[simp] theorem State.accumulate_pending (s : State) (fmt a : Nat) (bs : Bytes) :
    (State.accumulate s fmt a bs).pending = s.pending := by
  unfold State.accumulate
  simp

@[simp] theorem State.kvWrite_pending (s : State) (row : Bool) (fmt index a : Nat) (data : Bytes) :
    (State.kvWrite s row fmt index a data).pending = s.pending := by
  unfold State.kvWrite
  simp

@[simp] theorem State.tileWrite_pending (s : State) (q : Issue) (row : Bool) (fmt slot : Nat) (ecc : Ecc)
    (data entry : Bytes) : (State.tileWrite s q row fmt slot ecc data entry).pending = s.pending := by
  unfold State.tileWrite
  dsimp only
  (repeat' split) <;> simp

@[simp] theorem State.clearTiles_pending (s : State) (fmt tint a n : Nat) :
    (State.clearTiles s fmt tint a n).pending = s.pending := by
  fun_induction State.clearTiles s fmt tint a n <;> simp_all

@[simp] theorem State.clearSlot_pending (s : State) (slot : Nat) : (State.clearSlot s slot).pending = s.pending := by
  unfold State.clearSlot
  simp

@[simp] theorem State.stampTiles_pending (s : State) (fmt tint a n : Nat) :
    (State.stampTiles s fmt tint a n).pending = s.pending := by
  fun_induction State.stampTiles s fmt tint a n <;> simp_all

@[simp] theorem State.stampSlot_pending (s : State) (slot : Nat) : (State.stampSlot s slot).pending = s.pending := by
  unfold State.stampSlot
  simp

@[simp] theorem State.refuseRead_pending (s : State) (slot : Nat) :
    (State.refuseRead s slot).pending = s.pending := by
  unfold State.refuseRead
  simp

@[simp] theorem State.landCopy_pending (s : State) (fmt dest : Nat) (t : Bytes) :
    (State.landCopy s fmt dest t).pending = s.pending := by
  unfold State.landCopy
  (repeat' split) <;> simp

@[simp] theorem State.copyTile_pending (s : State) (core fmt src dest : Nat) (err : Errors) :
    (State.copyTile s core fmt src dest err).pending = s.pending := by
  unfold State.copyTile
  simp

@[simp] theorem State.copyTiles_pending (s : State) (core fmt src dest i n : Nat) (err : Errors) :
    (State.copyTiles s core fmt src dest i n err).pending = s.pending := by
  fun_induction State.copyTiles s core fmt src dest i n err <;> simp_all

@[simp] theorem State.copyRange_pending (s : State) (core src dest granules : Nat) (err : Errors) :
    (State.copyRange s core src dest granules err).pending = s.pending := by
  unfold State.copyRange
  (repeat' split) <;> simp

@[simp] theorem State.scrubPassDone_pending (s : State) (u : StoreUnit) (courses : Nat) :
    (State.scrubPassDone s u courses).pending = s.pending := by
  unfold State.scrubPassDone
  (repeat' split) <;> simp

@[simp] theorem State.scrubOne_pending (s : State) (u : StoreUnit) (bank : Nat) (claimed : Bool) (ecc : Ecc) :
    (State.scrubOne s u bank claimed ecc).pending = s.pending := by
  unfold State.scrubOne
  simp

@[simp] theorem State.landGranules_pending (s : State) (r : Route) (add : Bool) (g : Nat) (gs : List Bytes) :
    (State.landGranules s r add g gs).pending = s.pending := by
  unfold State.landGranules
  dsimp only
  (repeat' split) <;> simp

@[simp] theorem State.queueRetry_pending (s : State) (port lane : Nat) (fs : List Flit) :
    (State.queueRetry s port lane fs).pending = s.pending := by
  unfold State.queueRetry
  simp

@[simp] theorem State.sendFlit_pending (s : State) (port lane offset : Nat) (f : Flit) :
    (State.sendFlit s port lane offset f).pending = s.pending := by
  unfold State.sendFlit
  simp

@[simp] theorem State.sendFabric_pending (s : State) (n : Nat) (r : Route) (first : Nat) (gs : List Bytes) :
    (State.sendFabric s n r first gs).pending = s.pending := by
  unfold State.sendFabric
  refine (foldl_pending _ (fun s a => ?_) _ _).trans ?_ <;> (repeat' split) <;> simp

@[simp] theorem State.deliverRoute_pending (s : State) (n : Nat) (r : Route) (add : Bool) (g first fromBrick : Nat)
    (gs : List Bytes) : (State.deliverRoute s n r add g first fromBrick gs).pending = s.pending := by
  unfold State.deliverRoute
  simp

@[simp] theorem State.enterNode_pending (s : State) (fuel n : Nat) (r : Route) (add : Bool) (g first node fromBrick port : Nat)
    (gs : List Bytes) : (s.enterNode fuel n r add g first node fromBrick port gs).pending = s.pending := by
  induction fuel generalizing s node fromBrick port gs with
  | zero => rfl
  | succ n ih =>
    unfold State.enterNode
    dsimp only
    (repeat' split) <;> simp [ih]

@[simp] theorem State.sendRoute_pending (s : State) (core n : Nat) (r : Route) (add : Bool) (g : Nat)
    (gs : List Bytes) : (State.sendRoute s core n r add g gs).pending = s.pending := by
  unfold State.sendRoute
  simp

@[simp] theorem State.sendTile_pending (s : State) (core n g fmt : Nat) (t : Bytes) (slots : List Nat) :
    (State.sendTile s core n g fmt t slots).pending = s.pending := by
  unfold State.sendTile
  (repeat' split) <;> simp

@[simp] theorem State.sndt_pending (s : State) (core n g fmt a : Nat) (err : Errors) :
    (State.sndt s core n g fmt a err).pending = s.pending := by
  unfold State.sndt
  (repeat' split) <;> simp

@[simp] theorem State.sndtEntry_pending (s : State) (q : Issue) (n g fmt : Nat) (err : Errors) (ecc : Ecc)
    (e : Bytes) : (State.sndtEntry s q n g fmt err ecc e).pending = s.pending := by
  unfold State.sndtEntry
  (repeat' split) <;> simp

@[simp] theorem State.holdRequest_pending (s : State) (a port value b : Nat) :
    (State.holdRequest s a port value b).2.pending = s.pending := by
  unfold State.holdRequest
  simp

@[simp] theorem State.govern_pending (s : State) (a port value : Nat) (start : State → State) (hstart : ∀ x0,
    (start x0).pending = x0.pending) : (State.govern s a port value start).2.pending = s.pending := by
  unfold State.govern
  (repeat' split) <;> simp_all

@[simp] theorem State.governed_pending (s : State) (own : State → Nat) (a port value : Nat) (start : State → State)
    (hstart : ∀ x0, (start x0).pending = x0.pending) :
    (State.governed s own a port value start).2.pending = s.pending := by
  unfold State.governed
  (repeat' split) <;> simp_all

@[simp] theorem State.setSupplier_pending (s : State) (side device port : Nat) :
    (State.setSupplier s side device port).pending = s.pending := by
  unfold State.setSupplier
  simp

@[simp] theorem State.emptyASide_pending (s : State) (i : Nat) : (State.emptyASide s i).pending = s.pending := by
  unfold State.emptyASide
  simp

@[simp] theorem State.setAdapter_pending (s : State) (a st base : Nat) :
    (State.setAdapter s a st base).pending = s.pending := by
  unfold State.setAdapter
  simp

@[simp] theorem State.beginSession_pending (s : State) (p : Plan) (generation : Bool) (id side base : Nat)
    (keep : List Keep) : (State.beginSession s p generation id side base keep).pending = s.pending := by
  unfold State.beginSession
  simp

@[simp] theorem State.startGeneration_pending (gen : Nat) (s : State) :
    (State.startGeneration gen s).pending = s.pending := by
  unfold State.startGeneration
  (repeat' split) <;> simp

@[simp] theorem State.startAdapter_pending (v : Nat) (s : State) : (State.startAdapter v s).pending = s.pending := by
  unfold State.startAdapter
  (repeat' split) <;> simp

@[simp] theorem State.sendCredit_pending (s : State) (x : Session) : (State.sendCredit s x).pending = s.pending := by
  unfold State.sendCredit
  simp

@[simp] theorem State.creditTick_pending (s : State) : (State.creditTick s).pending = s.pending := by
  unfold State.creditTick
  (repeat' split) <;> simp

@[simp] theorem State.closeSession_pending (s : State) (x : Session) (result state : Nat) :
    (State.closeSession s x result state).pending = s.pending := by
  unfold State.closeSession
  simp

@[simp] theorem State.endSession_pending (s : State) : (State.endSession s).pending = s.pending := by
  unfold State.endSession
  (repeat' split) <;> simp

@[simp] theorem State.acceptRecord_pending (s : State) (fabric : Bool) (r : Bytes) :
    (State.acceptRecord s fabric r).pending = s.pending := by
  unfold State.acceptRecord
  (repeat' split) <;> simp

@[simp] theorem State.keepRecord_pending (s : State) (x : Session) (r : Bytes) (check : Nat) :
    (State.keepRecord s x r check).pending = s.pending := by
  unfold State.keepRecord
  dsimp only
  (repeat' split) <;> simp

@[simp] theorem State.queueForward_pending (s : State) (n : Nat) (r : Bytes) :
    (State.queueForward s n r).pending = s.pending := by
  unfold State.queueForward
  simp

@[simp] theorem State.completeSession_pending (s : State) (x : Session) :
    (State.completeSession s x).pending = s.pending := by
  unfold State.completeSession
  simp

@[simp] theorem State.processRecord_pending (s : State) : (State.processRecord s).pending = s.pending := by
  unfold State.processRecord
  (repeat' split) <;> simp

@[simp] theorem State.takeCredit_pending (s : State) (m : Bytes) : (State.takeCredit s m).pending = s.pending := by
  unfold State.takeCredit
  simp

@[simp] theorem State.sendReserved_pending (s : State) (n : Nat) (x : RouteSlot) (gs : List Bytes) :
    (State.sendReserved s n x gs).pending = s.pending := by
  unfold State.sendReserved
  simp

@[simp] theorem State.forwardFlit_pending (n : Nat) (s : State) (x : RouteSlot) :
    (State.forwardFlit n s x).pending = s.pending := by
  unfold State.forwardFlit
  (repeat' split) <;> simp

@[simp] theorem State.engineSends_pending (s : State) : (State.engineSends s).pending = s.pending := by
  unfold State.engineSends
  dsimp only
  (repeat' split) <;> simp

@[simp] theorem State.cutRecords_pending (s : State) (fuel : Nat) : (s.cutRecords fuel).pending = s.pending := by
  induction fuel generalizing s with
  | zero => rfl
  | succ n ih =>
    unfold State.cutRecords
    dsimp only
    (repeat' split) <;> simp_all

@[simp] theorem State.drainFlits_pending (s : State) : (State.drainFlits s).pending = s.pending := by
  unfold State.drainFlits
  simp

@[simp] theorem State.takeDistribution_pending (s : State) (port course lane slot : Nat) (gs : List Bytes) :
    (State.takeDistribution s port course lane slot gs).pending = s.pending := by
  unfold State.takeDistribution
  simp

@[simp] theorem State.missDistribution_pending (s : State) (port course lane slot : Nat) :
    (State.missDistribution s port course lane slot).pending = s.pending := by
  unfold State.missDistribution
  simp

@[simp] theorem State.putInForce_pending (s : State) (side : Nat) :
    (State.putInForce s side).pending = s.pending := by
  unfold State.putInForce
  dsimp only
  (repeat' split) <;> simp

@[simp] theorem State.switchGeneration_pending (s : State) : (State.switchGeneration s).pending = s.pending := by
  unfold State.switchGeneration
  dsimp only
  (repeat' split) <;> simp

@[simp] theorem State.discardGeneration_pending (s : State) (gen : Nat) :
    (State.discardGeneration s gen).2.pending = s.pending := by
  unfold State.discardGeneration
  (repeat' split) <;> simp

@[simp] theorem State.clearPlaces_pending (s : State) (a : Nat) : (State.clearPlaces s a).pending = s.pending := by
  unfold State.clearPlaces
  (repeat' split) <;> simp

@[simp] theorem State.unloadAdapter_pending (s : State) (a : Nat) :
    (State.unloadAdapter s a).2.pending = s.pending := by
  unfold State.unloadAdapter
  simp

@[simp] theorem State.settleWeights_pending (s : State) : (State.settleWeights s).pending = s.pending := by
  unfold State.settleWeights
  dsimp only
  (repeat' split) <;> simp

@[simp] theorem State.unlock_pending (s : State) : (State.unlock s).pending = s.pending := by
  unfold State.unlock
  simp

@[simp] theorem State.showRoot_pending (s : State) : (State.showRoot s).pending = s.pending := by
  unfold State.showRoot
  simp

@[simp] theorem State.showSource_pending (s : State) : (State.showSource s).pending = s.pending := by
  unfold State.showSource
  simp

@[simp] theorem State.loseReference_pending (s : State) : (State.loseReference s).pending = s.pending := by
  unfold State.loseReference
  simp

@[simp] theorem State.setCourseSource_pending (s : State) (v : Nat) :
    (State.setCourseSource s v).2.pending = s.pending := by
  unfold State.setCourseSource
  simp

@[simp] theorem State.loadCourse_pending (s : State) (v : Nat) : (State.loadCourse s v).2.pending = s.pending := by
  unfold State.loadCourse
  simp

@[simp] theorem State.confirmCount_pending (s : State) (count : Nat) :
    (State.confirmCount s count).pending = s.pending := by
  unfold State.confirmCount
  simp

@[simp] theorem State.compareSource_pending (s : State) (count : Nat) (phase8 : Int) :
    (State.compareSource s count phase8).pending = s.pending := by
  unfold State.compareSource
  dsimp only
  (repeat' split) <;> simp

@[simp] theorem State.acceptParent_pending (s : State) (port : Nat) (m : Mark) :
    (State.acceptParent s port m).pending = s.pending := by
  unfold State.acceptParent
  dsimp only
  (repeat' split) <;> simp

@[simp] theorem State.countConflicts_pending (s : State) : (State.countConflicts s).pending = s.pending := by
  unfold State.countConflicts
  simp

@[simp] theorem State.hearParent_pending (s : State) (m : Mark) : (State.hearParent s m).pending = s.pending := by
  unfold State.hearParent
  simp

@[simp] theorem State.takeMark_pending (s : State) (port w : Nat) (phase8 : Int) :
    (State.takeMark s port w phase8).pending = s.pending := by
  unfold State.takeMark
  dsimp only
  (repeat' split) <;> simp

@[simp] theorem State.reselect_pending (s : State) : (State.reselect s).pending = s.pending := by
  unfold State.reselect
  (repeat' split) <;> simp

@[simp] theorem State.holdover_pending (s : State) : (State.holdover s).pending = s.pending := by
  unfold State.holdover
  simp

@[simp] theorem State.lock_pending (s : State) : (State.lock s).pending = s.pending := by
  unfold State.lock
  simp

@[simp] theorem State.referenceReturns_pending (s : State) (count : Nat) (phase8 : Int) :
    (State.referenceReturns s count phase8).pending = s.pending := by
  unfold State.referenceReturns
  simp

@[simp] theorem State.sourceReturns_pending (s : State) (count : Nat) (phase8 : Int) :
    (State.sourceReturns s count phase8).pending = s.pending := by
  unfold State.sourceReturns
  (repeat' split) <;> simp

@[simp] theorem State.phaseStep_pending (s : State) : (State.phaseStep s).pending = s.pending := by
  unfold State.phaseStep
  (repeat' split) <;> simp

@[simp] theorem State.lead_pending (s : State) : (State.lead s).pending = s.pending := by
  unfold State.lead
  simp

@[simp] theorem State.forceRest_pending (s : State) (power thermal : Bool) :
    (State.forceRest s power thermal).pending = s.pending := by
  unfold State.forceRest
  simp

@[simp] theorem State.serveRest_pending (s : State) (thermal : Bool) (g : Nat) :
    (State.serveRest s thermal g).pending = s.pending := by
  unfold State.serveRest
  simp

@[simp] theorem State.rest_pending (s : State) : (State.rest s).pending = s.pending := by
  unfold State.rest
  dsimp only
  (repeat' split) <;> simp

@[simp] theorem State.refuseLaunch_pending (s : State) : (State.refuseLaunch s).pending = s.pending := by
  unfold State.refuseLaunch
  simp

@[simp] theorem State.queueMessage_pending (s : State) (port word : Nat) :
    (State.queueMessage s port word).pending = s.pending := by
  unfold State.queueMessage
  simp

@[simp] theorem State.sendSlots_pending (s : State) (port : Nat) : (State.sendSlots s port).pending = s.pending := by
  unfold State.sendSlots
  simp

@[simp] theorem State.resendMessages_pending (s : State) (port : Nat) :
    (State.resendMessages s port).pending = s.pending := by
  unfold State.resendMessages
  simp

@[simp] theorem State.stray_pending (s : State) (w : Nat) : (State.stray s w).pending = s.pending := by
  unfold State.stray
  simp

@[simp] theorem State.holdSignal_pending (s : State) (w : Nat) : (State.holdSignal s w).pending = s.pending := by
  unfold State.holdSignal
  simp

@[simp] theorem State.outbound_pending (s : State) (w : Nat) : (State.outbound s w).pending = s.pending := by
  unfold State.outbound
  simp

@[simp] theorem State.signalArrives_pending (s : State) (w : Nat) :
    (State.signalArrives s w).pending = s.pending := by
  unfold State.signalArrives
  simp

@[simp] theorem State.setLevel_pending (s : State) (k : Nat) (v : LevelNode) :
    (State.setLevel s k v).pending = s.pending := by
  unfold State.setLevel
  simp

@[simp] theorem State.applySignal_pending (s : State) (x : Signal) : (State.applySignal s x).pending = s.pending := by
  unfold State.applySignal
  simp

@[simp] theorem State.applyLanded_pending (s : State) : (State.applyLanded s).pending = s.pending := by
  unfold State.applyLanded
  simp

@[simp] theorem State.signalTo_pending (s : State) (t : TieTarget) (x : PointSource) (op operand : Nat) :
    (State.signalTo s t x op operand).pending = s.pending := by
  unfold State.signalTo
  dsimp only
  (repeat' split) <;> simp

@[simp] theorem State.release_pending (s : State) (d : LevelDecl) (landing : Nat) (x : PointSource) :
    (State.release s d landing x).pending = s.pending := by
  unfold State.release
  simp

@[simp] theorem State.completeRound_pending (s : State) (d : LevelDecl) (k course : Nat) :
    (State.completeRound s d k course).pending = s.pending := by
  unfold State.completeRound
  (repeat' split) <;> simp

@[simp] theorem State.countArrival_pending (s : State) (d : LevelDecl) (k course : Nat) :
    (State.countArrival s d k course).pending = s.pending := by
  unfold State.countArrival
  simp

@[simp] theorem State.levelArrives_pending (s : State) (w : Nat) : (State.levelArrives s w).pending = s.pending := by
  unfold State.levelArrives
  (repeat' split) <;> simp

@[simp] theorem State.levelReleased_pending (s : State) (w : Nat) :
    (State.levelReleased s w).pending = s.pending := by
  unfold State.levelReleased
  (repeat' split) <;> simp

@[simp] theorem State.deliverMessage_pending (s : State) (w : Nat) :
    (State.deliverMessage s w).pending = s.pending := by
  unfold State.deliverMessage
  (repeat' split) <;> simp

@[simp] theorem State.takeMessage_pending (s : State) (port w : Nat) :
    (State.takeMessage s port w).pending = s.pending := by
  unfold State.takeMessage
  simp

@[simp] theorem State.writeFlit_pending (s : State) (port : Nat) (f : Flit) :
    (State.writeFlit s port f).pending = s.pending := by
  unfold State.writeFlit
  dsimp only
  (repeat' split) <;> simp

@[simp] theorem State.fileFlit_pending (s : State) (port arrival : Nat) (f : Flit) (l : Landing) :
    (State.fileFlit s port arrival f l).pending = s.pending := by
  unfold State.fileFlit
  simp

@[simp] theorem State.failFlit_pending (s : State) (port lane arrival slot course : Nat) (f : Option Flit) :
    (State.failFlit s port lane arrival slot course f).pending = s.pending := by
  unfold State.failFlit
  dsimp only
  (repeat' split) <;> simp

@[simp] theorem State.takeFlit_pending (s : State) (port lane slot : Nat) (b : Bytes) (fecOk : Bool)
    (corrected : Nat) : (State.takeFlit s port lane slot b fecOk corrected).pending = s.pending := by
  unfold State.takeFlit
  dsimp only
  (repeat' split) <;> simp

@[simp] theorem State.writeLate_pending (s : State) (port : Nat) : (State.writeLate s port).pending = s.pending := by
  unfold State.writeLate
  dsimp only
  (repeat' split) <;> simp

@[simp] theorem State.landDue_pending (s : State) (port : Nat) : (State.landDue s port).pending = s.pending := by
  unfold State.landDue
  simp

@[simp] theorem State.applyReport_pending (s : State) (port lane tag map : Nat) :
    (State.applyReport s port lane tag map).pending = s.pending := by
  unfold State.applyReport
  simp

@[simp] theorem State.takeReport_pending (s : State) (port lane w : Nat) :
    (State.takeReport s port lane w).pending = s.pending := by
  unfold State.takeReport
  simp

@[simp] theorem State.reportLate_pending (s : State) (port lane course : Nat) :
    (State.reportLate s port lane course).pending = s.pending := by
  unfold State.reportLate
  simp

@[simp] theorem State.retryFlit_pending (s : State) (port lane : Nat) :
    (State.retryFlit s port lane).pending = s.pending := by
  unfold State.retryFlit
  dsimp only
  (repeat' split) <;> simp

@[simp] theorem State.relayInputs_pending (s : State) : (State.relayInputs s).pending = s.pending := by
  unfold State.relayInputs
  simp

@[simp] theorem State.relayFlit_pending (s : State) (port route index egress lane slot : Nat) :
    (State.relayFlit s port route index egress lane slot).pending = s.pending := by
  unfold State.relayFlit
  dsimp only
  (repeat' split) <;> simp

@[simp] theorem State.sourceDown_pending (s : State) (port : Nat) :
    (State.sourceDown s port).pending = s.pending := by
  unfold State.sourceDown
  simp

@[simp] theorem State.refreshLink_pending (s : State) (port : Nat) :
    (State.refreshLink s port).pending = s.pending := by
  unfold State.refreshLink
  simp

@[simp] theorem State.noticeLinkDown_pending (s : State) (port cause : Nat) :
    (State.noticeLinkDown s port cause).pending = s.pending := by
  unfold State.noticeLinkDown
  simp

@[simp] theorem State.laneFails_pending (s : State) (port lane cause : Nat) :
    (State.laneFails s port lane cause).pending = s.pending := by
  unfold State.laneFails
  simp

@[simp] theorem State.laneTrained_pending (s : State) (port lane : Nat) (full ok : Bool) :
    (State.laneTrained s port lane full ok).pending = s.pending := by
  unfold State.laneTrained
  simp

@[simp] theorem State.startRetrain_pending (port : Nat) (s : State) :
    (State.startRetrain port s).pending = s.pending := by
  unfold State.startRetrain
  simp

@[simp] theorem State.partnerChanges_pending (s : State) (port device partnerPort : Nat) :
    (State.partnerChanges s port device partnerPort).pending = s.pending := by
  unfold State.partnerChanges
  dsimp only
  (repeat' split) <;> simp

@[simp] theorem State.portUp_pending (s : State) (port : Nat) : (State.portUp s port).pending = s.pending := by
  unfold State.portUp
  dsimp only
  (repeat' split) <;> simp

@[simp] theorem State.toPhase_pending (s : State) (port phase : Nat) :
    (State.toPhase s port phase).pending = s.pending := by
  unfold State.toPhase
  simp

@[simp] theorem State.trainPhase_pending (s : State) (port w : Nat) :
    (State.trainPhase s port w).pending = s.pending := by
  unfold State.trainPhase
  simp

@[simp] theorem State.trainTimeout_pending (s : State) (port : Nat) :
    (State.trainTimeout s port).pending = s.pending := by
  unfold State.trainTimeout
  simp

@[simp] theorem State.roleMismatch_pending (s : State) (port role device : Nat) :
    (State.roleMismatch s port role device).pending = s.pending := by
  unfold State.roleMismatch
  simp

@[simp] theorem State.probeDelay_pending (s : State) (port roundTrip turnaround : Nat) :
    (State.probeDelay s port roundTrip turnaround).pending = s.pending := by
  unfold State.probeDelay
  dsimp only
  (repeat' split) <;> simp

@[simp] theorem State.suspendEdge_pending (s : State) : (State.suspendEdge s).pending = s.pending := by
  unfold State.suspendEdge
  simp

@[simp] theorem State.retrainEdge_pending (s : State) (edge cause : Nat) :
    (State.retrainEdge s edge cause).pending = s.pending := by
  unfold State.retrainEdge
  simp

@[simp] theorem State.edgeFailsAgain_pending (s : State) (edge : Nat) :
    (State.edgeFailsAgain s edge).pending = s.pending := by
  unfold State.edgeFailsAgain
  simp

@[simp] theorem State.edgeUp_pending (s : State) (edge : Nat) : (State.edgeUp s edge).pending = s.pending := by
  unfold State.edgeUp
  simp

@[simp] theorem State.unbind_pending (s : State) : (State.unbind s).pending = s.pending := by
  unfold State.unbind
  simp

@[simp] theorem State.bind_pending (s : State) (slot gen : Nat) : (State.bind s slot gen).pending = s.pending := by
  unfold State.bind
  simp

@[simp] theorem State.releaseSlot_pending (s : State) (slot : Nat) :
    (State.releaseSlot s slot).pending = s.pending := by
  unfold State.releaseSlot
  simp

@[simp] theorem State.clearLeft_pending (s : State) (slot : Nat) : (State.clearLeft s slot).pending = s.pending := by
  unfold State.clearLeft
  (repeat' split) <;> simp

@[simp] theorem State.slotCleared_pending (s : State) (slot : Nat) :
    (State.slotCleared s slot).pending = s.pending := by
  unfold State.slotCleared
  simp

@[simp] theorem State.applyKv_pending (s : State) (r : Bytes) : (State.applyKv s r).pending = s.pending := by
  unfold State.applyKv
  simp

@[simp] theorem State.advanceMark_pending (s : State) : (State.advanceMark s).pending = s.pending := by
  unfold State.advanceMark
  (repeat' split) <;> simp

@[simp] theorem State.applyWaiting_pending (s : State) (slot : Nat) :
    (State.applyWaiting s slot).pending = s.pending := by
  unfold State.applyWaiting
  simp

@[simp] theorem State.slotStamped_pending (s : State) (slot : Nat) :
    (State.slotStamped s slot).pending = s.pending := by
  unfold State.slotStamped
  simp

@[simp] theorem State.swapHandoff_pending (s : State) (cluster : Nat) :
    (State.swapHandoff s cluster).pending = s.pending := by
  unfold State.swapHandoff
  dsimp only
  (repeat' split) <;> simp

@[simp] theorem State.trowelFaults_pending (s : State) (cluster cause : Nat) :
    (State.trowelFaults s cluster cause).pending = s.pending := by
  unfold State.trowelFaults
  simp

@[simp] theorem State.trowelRestarts_pending (s : State) (cluster : Nat) :
    (State.trowelRestarts s cluster).pending = s.pending := by
  unfold State.trowelRestarts
  simp

@[simp] theorem State.showPlan_pending (s : State) : (State.showPlan s).pending = s.pending := by
  unfold State.showPlan
  dsimp only
  (repeat' split) <;> simp

@[simp] theorem State.restartQueues_pending (s : State) : (State.restartQueues s).pending = s.pending := by
  unfold State.restartQueues
  (repeat' split) <;> simp

@[simp] theorem State.openLevel_pending (s : State) (p : Plan) (d : LevelDecl) :
    (State.openLevel s p d).pending = s.pending := by
  unfold State.openLevel
  simp

@[simp] theorem State.openLevels_pending (s : State) (p : Plan) : (State.openLevels s p).pending = s.pending := by
  unfold State.openLevels
  simp

@[simp] theorem State.flipBanks_pending (s : State) : (State.flipBanks s).pending = s.pending := by
  unfold State.flipBanks
  simp

@[simp] theorem State.takeOverPlan_pending (s : State) (p : Plan) : (State.takeOverPlan s p).pending = s.pending := by
  unfold State.takeOverPlan
  simp

@[simp] theorem State.swapBanks_pending (s : State) : (State.swapBanks s).pending = s.pending := by
  unfold State.swapBanks
  dsimp only
  (repeat' split) <;> simp

@[simp] theorem State.armSwap_pending (s : State) : (State.armSwap s).2.pending = s.pending := by
  unfold State.armSwap
  simp

@[simp] theorem State.switchVariant_pending (s : State) : (State.switchVariant s).pending = s.pending := by
  unfold State.switchVariant
  (repeat' split) <;> simp

@[simp] theorem State.quoin_pending (s : State) : (State.quoin s).pending = s.pending := by
  unfold State.quoin
  simp

@[simp] theorem State.endPlan_pending (s : State) : (State.endPlan s).pending = s.pending := by
  unfold State.endPlan
  simp

@[simp] theorem State.refuseItem_pending (s : State) (i : Item) (cause path : Nat) :
    (State.refuseItem s i cause path).pending = s.pending := by
  unfold State.refuseItem
  simp

@[simp] theorem State.accept_pending (s : State) (i : Item) (kinds : List Nat) (path : Nat)
    (act : State → Nat × State) (hact : ∀ x0, (act x0).2.pending = x0.pending) :
    (State.accept s i kinds path act).2.pending = s.pending := by
  unfold State.accept
  (repeat' split) <;> simp_all

@[simp] theorem State.freshNonce_pending (s : State) : (State.freshNonce s).pending = s.pending := by
  unfold State.freshNonce
  simp

@[simp] theorem State.startSubstitution_pending (cluster position trigger : Nat) (s : State) :
    (State.startSubstitution cluster position trigger s).pending = s.pending := by
  unfold State.startSubstitution
  simp

@[simp] theorem State.noticeExhausted_pending (s : State) (cluster position : Nat) :
    (State.noticeExhausted s cluster position).pending = s.pending := by
  unfold State.noticeExhausted
  simp

@[simp] theorem State.thresholdReached_pending (s : State) (cluster position : Nat) :
    (State.thresholdReached s cluster position).pending = s.pending := by
  unfold State.thresholdReached
  (repeat' split) <;> simp

@[simp] theorem State.retryThresholds_pending (s : State) : (State.retryThresholds s).pending = s.pending := by
  unfold State.retryThresholds
  simp

@[simp] theorem State.copyPortion_pending (s : State) (cluster bytes : Nat) :
    (State.copyPortion s cluster bytes).pending = s.pending := by
  unfold State.copyPortion
  (repeat' split) <;> simp

@[simp] theorem State.copyRegisters_pending (s : State) (cluster : Nat) (fits : Bool) :
    (State.copyRegisters s cluster fits).pending = s.pending := by
  unfold State.copyRegisters
  (repeat' split) <;> simp

@[simp] theorem State.spareTakes_pending (s : State) (cluster position : Nat) :
    (State.spareTakes s cluster position).pending = s.pending := by
  unfold State.spareTakes
  simp

@[simp] theorem State.swapSpare_pending (s : State) (cluster : Nat) :
    (State.swapSpare s cluster).pending = s.pending := by
  unfold State.swapSpare
  (repeat' split) <;> simp

@[simp] theorem State.noticeWaitingCores_pending (s : State) (core : Nat) :
    (State.noticeWaitingCores s core).pending = s.pending := by
  unfold State.noticeWaitingCores
  simp

@[simp] theorem State.freshCore_pending (s : State) (core : Nat) : (State.freshCore s core).pending = s.pending := by
  unfold State.freshCore
  simp

@[simp] theorem State.hardSwap_pending (s : State) (core : Nat) : (State.hardSwap s core).pending = s.pending := by
  unfold State.hardSwap
  simp

@[simp] theorem State.doHardSwaps_pending (s : State) : (State.doHardSwaps s).pending = s.pending := by
  unfold State.doHardSwaps
  simp

@[simp] theorem State.unpend_pending (s : State) (cluster : Nat) : (State.unpend s cluster).pending = s.pending := by
  unfold State.unpend
  simp

@[simp] theorem State.clearClusterFlags_pending (s : State) (cluster : Nat) :
    (State.clearClusterFlags s cluster).pending = s.pending := by
  unfold State.clearClusterFlags
  simp

@[simp] theorem State.retire_pending (s : State) (cluster : Nat) : (State.retire s cluster).pending = s.pending := by
  unfold State.retire
  simp

@[simp] theorem State.changeUnitMap_pending (s : State) : (State.changeUnitMap s).pending = s.pending := by
  unfold State.changeUnitMap
  simp

@[simp] theorem State.retireRequest_pending (s : State) (v : Nat) :
    (State.retireRequest s v).2.pending = s.pending := by
  unfold State.retireRequest
  simp

@[simp] theorem State.elementsOut_pending (s : State) (core hod flags n : Nat) (l : List Nat) :
    (State.elementsOut s core hod flags n l).pending = s.pending := by
  unfold State.elementsOut
  simp

@[simp] theorem State.scalarIn_pending (s : State) (q : Issue) (hod : Nat) (k : Nat → Nat → State → State)
    (hk : ∀ x0 x1 x2, (k x0 x1 x2).pending = x2.pending) : (State.scalarIn s q hod k).pending = s.pending := by
  unfold State.scalarIn
  (repeat' split) <;> simp_all

@[simp] theorem State.callRms_pending (s : State) (q : Issue) (f : Fields) (n : Nat) :
    (s.callRms q f n).pending = s.pending := by
  unfold State.callRms
  exact State.chunksIn_pending _ _ _ _ _ _ fun _ _ _ => State.scalarIn_pending _ _ _ _ fun _ _ _ =>
      State.chunksIn_pending _ _ _ _ _ _ fun _ _ _ => by split <;> simp

@[simp] theorem State.callLayer_pending (s : State) (q : Issue) (f : Fields) (n : Nat) :
    (s.callLayer q f n).pending = s.pending := by
  unfold State.callLayer
  exact State.chunksIn_pending _ _ _ _ _ _ fun _ _ _ => State.scalarIn_pending _ _ _ _ fun _ _ _ =>
      State.chunksIn_pending _ _ _ _ _ _ fun _ _ _ => State.chunksIn_pending _ _ _ _ _ _ fun _ _ _ => by split <;> simp

@[simp] theorem State.callSoftmax_pending (s : State) (q : Issue) (f : Fields) (n : Nat) :
    (State.callSoftmax s q f n).pending = s.pending := by
  unfold State.callSoftmax
  simp

@[simp] theorem State.callRope_pending (s : State) (q : Issue) (f : Fields) (n : Nat) :
    (s.callRope q f n).pending = s.pending := by
  induction n generalizing s with
  | zero => rfl
  | succ n ih =>
    unfold State.callRope
    exact State.lanesIn_pending _ _ _ _ _ fun _ _ _ => State.lanesIn_pending _ _ _ _ _ fun _ _ _ =>
        State.lanesIn_pending _ _ _ _ _ fun _ _ _ => State.lanesIn_pending _ _ _ _ _ fun _ _ _ => by simp [ih]

@[simp] theorem State.callSample_pending (s : State) (q : Issue) (f : Fields) :
    (State.callSample s q f).pending = s.pending := by
  unfold State.callSample
  simp

@[simp] theorem State.draftsIn_pending (s : State) (q : Issue) (f : Fields) (v n : Nat) (l : List (Nat × List Nat × List Nat)) (fl : Nat)
    (k : List (Nat × List Nat × List Nat) → Nat → State → State)
    (hk : ∀ x0 x1 x2, (k x0 x1 x2).pending = x2.pending) : (s.draftsIn q f v n l fl k).pending = s.pending := by
  induction n generalizing s l fl with
  | zero => exact hk _ _ _
  | succ n ih =>
    unfold State.draftsIn
    exact State.popping_pending _ _ _ _ _ fun _ _ => State.chunksIn_pending _ _ _ _ _ _ fun _ _ _ =>
      State.chunksIn_pending _ _ _ _ _ _ fun _ _ _ => ih _ _ _

@[simp] theorem State.callAccept_pending (s : State) (q : Issue) (f : Fields) : (s.callAccept q f).pending = s.pending := by
  unfold State.callAccept
  exact State.popping_pending _ _ _ _ _ fun _ _ => State.draftsIn_pending _ _ _ _ _ _ _ _ fun _ _ _ =>
    State.chunksIn_pending _ _ _ _ _ _ fun _ _ _ => by simp

@[simp] theorem State.appendTiles_pending (s : State) (q : Issue) (f : Fields) (row : Bool) (slot n : Nat) :
    (State.appendTiles s q f row slot n).pending = s.pending := by
  fun_induction State.appendTiles s q f row slot n <;> simp_all

@[simp] theorem State.callAppend_pending (s : State) (q : Issue) (f : Fields) (r : Bytes) (w : Nat) :
    (State.callAppend s q f r w).pending = s.pending := by
  unfold State.callAppend
  simp

@[simp] theorem State.gatherRows_pending (s : State) (q : Issue) (f : Fields) (base w n : Nat) :
    (State.gatherRows s q f base w n).pending = s.pending := by
  fun_induction State.gatherRows s q f base w n <;> simp_all

@[simp] theorem State.callGather_pending (s : State) (q : Issue) (f : Fields) (r : Bytes) (w : Nat) :
    (State.callGather s q f r w).pending = s.pending := by
  unfold State.callGather
  (repeat' split) <;> simp

@[simp] theorem State.relayTiles_pending (s : State) (q : Issue) (f : Fields) (route g n : Nat) :
    (State.relayTiles s q f route g n).pending = s.pending := by
  fun_induction State.relayTiles s q f route g n <;> simp_all

@[simp] theorem State.callSend_pending (s : State) (q : Issue) (f : Fields) (add : Bool) (r : Bytes) (w : Nat) :
    (s.callSend q f add r w).pending = s.pending := by
  unfold State.callSend
  exact State.popping_pending _ _ _ _ _ fun _ _ => by split <;> simp

@[simp] theorem State.callProbe_pending (s : State) (q : Issue) (f : Fields) :
    (State.callProbe s q f).pending = s.pending := by
  unfold State.callProbe
  simp

@[simp] theorem State.wholeCall_pending (q : Issue) (cycles : Nat) (t : State) :
    (State.wholeCall q cycles t).pending = t.pending := by
  unfold State.wholeCall
  simp

@[simp] theorem State.openFrame_pending (s : State) (q : Issue) (f : Fields) (n w : Nat) :
    (State.openFrame s q f n w).pending = s.pending := by
  unfold State.openFrame
  simp

@[simp] theorem State.bookRoutine_pending (s : State) (q : Issue) (f : Fields) (n w c : Nat) :
    (State.bookRoutine s q f n w c).pending = s.pending := by
  unfold State.bookRoutine
  (repeat' split) <;> simp

@[simp] theorem State.call_pending (s : State) (q : Issue) (f : Fields) : (State.call s q f).pending = s.pending := by
  unfold State.call
  simp

@[simp] theorem State.stageBytes_pending (s : State) (offset : Nat) (data : Bytes) :
    (State.stageBytes s offset data).pending = s.pending := by
  unfold State.stageBytes
  simp

@[simp] theorem State.loadPlan_pending (s : State) (v : Nat) : (State.loadPlan s v).2.pending = s.pending := by
  unfold State.loadPlan
  simp

@[simp] theorem State.setBank_pending (s : State) (b : Nat) (m : Map (List Nat)) :
    (State.setBank s b m).pending = s.pending := by
  unfold State.setBank
  simp

@[simp] theorem State.refusePlan_pending (s : State) (e : Refusal3) (digest : Bytes) :
    (State.refusePlan s e digest).pending = s.pending := by
  unfold State.refusePlan
  simp

@[simp] theorem State.installPlan_pending (s : State) (p : Plan) : (State.installPlan s p).pending = s.pending := by
  unfold State.installPlan
  simp

@[simp] theorem State.loaderDone_pending (s : State) (x : Schedule) : (State.loaderDone s x).pending = s.pending := by
  unfold State.loaderDone
  dsimp only
  (repeat' split) <;> simp

@[simp] theorem State.forgetLaunch_pending (s : State) : (State.forgetLaunch s).pending = s.pending := by
  unfold State.forgetLaunch
  simp

@[simp] theorem State.emptyPlan_pending (s : State) : (State.emptyPlan s).pending = s.pending := by
  unfold State.emptyPlan
  simp

@[simp] theorem State.discardPlan_pending (s : State) : (State.discardPlan s).2.pending = s.pending := by
  unfold State.discardPlan
  simp

@[simp] theorem State.haltPlan_pending (s : State) (c : Nat) : (State.haltPlan s c).2.pending = s.pending := by
  unfold State.haltPlan
  (repeat' split) <;> simp

@[simp] theorem State.putLoadBank_pending (s : State) (v : Nat) : (State.putLoadBank s v).2.pending = s.pending := by
  unfold State.putLoadBank
  simp

@[simp] theorem State.putCap_pending (s : State) (burst : Bool) (v : Nat) :
    (State.putCap s burst v).2.pending = s.pending := by
  unfold State.putCap
  simp

@[simp] theorem State.unmapLoaded_pending (s : State) : (State.unmapLoaded s).pending = s.pending := by
  unfold State.unmapLoaded
  (repeat' split) <;> simp

@[simp] theorem State.mapChange_pending (s : State) : (State.mapChange s).pending = s.pending := by
  unfold State.mapChange
  simp

@[simp] theorem State.cold_pending (s : State) (island : Bool) (mode : PowerMode) :
    (State.cold s island mode).pending = s.pending := by
  unfold State.cold
  simp

@[simp] theorem State.wakeClock_pending (s : State) : (State.wakeClock s).pending = s.pending := by
  unfold State.wakeClock
  simp

@[simp] theorem State.dropPoint_pending (s : State) : (State.dropPoint s).pending = s.pending := by
  unfold State.dropPoint
  simp

@[simp] theorem State.dropSlots_pending (s : State) : (State.dropSlots s).pending = s.pending := by
  unfold State.dropSlots
  simp

@[simp] theorem State.keepClearing_pending (s : State) : (State.keepClearing s).pending = s.pending := by
  unfold State.keepClearing
  simp

@[simp] theorem State.noticePlanLost_pending (s : State) : (State.noticePlanLost s).pending = s.pending := by
  unfold State.noticePlanLost
  simp

@[simp] theorem State.losePlan_pending (s : State) : (State.losePlan s).pending = s.pending := by
  unfold State.losePlan
  simp

@[simp] theorem State.setDebugLevel_pending (s : State) (new path cause : Nat) :
    (State.setDebugLevel s new path cause).pending = s.pending := by
  unfold State.setDebugLevel
  simp

@[simp] theorem State.startLevel_pending (s : State) : (State.startLevel s).pending = s.pending := by
  unfold State.startLevel
  simp

@[simp] theorem State.queueRecords_pending (s : State) (qp : Nat) (l : List Queued) :
    (State.queueRecords s qp l).pending = s.pending := by
  unfold State.queueRecords
  simp

@[simp] theorem State.digestRecords_pending (s : State) (slot : Nat) (p : Nat) :
    (State.digestRecords s slot p).2.pending = s.pending := by
  unfold State.digestRecords
  simp

@[simp] theorem State.endStream_pending (s : State) (slot reason : Nat) :
    (State.endStream s slot reason).pending = s.pending := by
  unfold State.endStream
  simp

@[simp] theorem State.countRound_pending (s : State) (k a : Nat) (paused : Bool) :
    (State.countRound s k a paused).pending = s.pending := by
  unfold State.countRound
  simp

@[simp] theorem State.endRound_pending (s : State) (slot : Nat) : (State.endRound s slot).pending = s.pending := by
  unfold State.endRound
  simp

@[simp] theorem State.keepHistory_pending (s : State) (slot : Nat) :
    (State.keepHistory s slot).pending = s.pending := by
  unfold State.keepHistory
  simp

@[simp] theorem State.overrun_pending (s : State) (slot : Nat) : (State.overrun s slot).pending = s.pending := by
  unfold State.overrun
  simp

@[simp] theorem State.passRecord_pending (s : State) (slot tok pos flags reason : Nat) :
    (State.passRecord s slot tok pos flags reason).pending = s.pending := by
  unfold State.passRecord
  simp

@[simp] theorem State.takeRecord_pending (s : State) (r : Bytes) : (State.takeRecord s r).pending = s.pending := by
  unfold State.takeRecord
  simp

@[simp] theorem State.sendRecords_pending (s : State) (n : Nat) : (State.sendRecords s n).pending = s.pending := by
  unfold State.sendRecords
  simp

@[simp] theorem State.countRefusal_pending (s : State) (rc off : Nat) :
    (State.countRefusal s rc off).pending = s.pending := by
  unfold State.countRefusal
  simp

@[simp] theorem State.reply_pending (s : State) (qp rc off : Nat) (d : Bytes) (tint slot gen : Nat)
    (x : Nat × Nat) : (State.reply s qp rc off d tint slot gen x).pending = s.pending := by
  unfold State.reply
  simp

@[simp] theorem State.refuse_pending (s : State) (qp rc off : Nat) (d : Bytes) (x : Nat) :
    (State.refuse s qp rc off d x).pending = s.pending := by
  unfold State.refuse
  simp

@[simp] theorem State.refuseNow_pending (s : State) (qp rc : Nat) (d : Bytes) :
    (State.refuseNow s qp rc d).pending = s.pending := by
  unfold State.refuseNow
  simp

@[simp] theorem State.queueDescriptor_pending (s : State) (qp : Nat) (d : Bytes) :
    (State.queueDescriptor s qp d).pending = s.pending := by
  unfold State.queueDescriptor
  simp

@[simp] theorem State.takeDescriptor_pending (s : State) (qp : Nat) (d : Bytes) :
    (State.takeDescriptor s qp d).pending = s.pending := by
  unfold State.takeDescriptor
  simp

@[simp] theorem State.takeCancel_pending (s : State) (qp : Nat) (d : Bytes) (x : Nat) :
    (State.takeCancel s qp d x).1.pending = s.pending := by
  unfold State.takeCancel
  (repeat' split) <;> simp

@[simp] theorem State.admitTo_pending (s : State) (held : List Order) (qp : Nat) (d : Bytes) (x gen slot : Nat)
    (w : IngressWindow) : (State.admitTo s held qp d x gen slot w).1.pending = s.pending := by
  unfold State.admitTo
  simp

@[simp] theorem State.takeAdmission_pending (s : State) (now : List Order) (qp : Nat) (d : Bytes) (x : Nat) :
    (State.takeAdmission s now qp d x).1.pending = s.pending := by
  unfold State.takeAdmission
  dsimp only
  (repeat' split) <;> simp

@[simp] theorem State.judgeDescriptor_pending (s : State) (now : List Order) (qp : Nat) (d : Bytes) (x : Nat) :
    (State.judgeDescriptor s now qp d x).1.pending = s.pending := by
  unfold State.judgeDescriptor
  dsimp only
  (repeat' split) <;> simp

@[simp] theorem State.orderRelease_pending (s : State) (slot : Nat) :
    (State.orderRelease s slot).1.pending = s.pending := by
  unfold State.orderRelease
  simp

@[simp] theorem State.orderReleases_pending (slots : List Nat) (s : State) (orders : List Order) :
    (State.orderReleases slots s orders).1.pending = s.pending := by
  induction slots generalizing s orders with
  | nil => rfl
  | cons i l ih =>
    unfold State.orderReleases
    split
    · rfl
    · exact (ih _ _).trans (State.orderRelease_pending s i)

@[simp] theorem State.orderVariant_pending (s : State) (x : Nat) (orders : List Order) :
    (State.orderVariant s x orders).1.pending = s.pending := by
  unfold State.orderVariant
  (repeat' split) <;> simp

@[simp] theorem State.orderTakeover_pending (s : State) (x : Nat) :
    (State.orderTakeover s x).1.pending = s.pending := by
  unfold State.orderTakeover
  simp

@[simp] theorem State.takeQueue_pending (fuel : Nat) (s : State) (x : Nat) (orders : List Order) :
    (State.takeQueue fuel s x orders).1.pending = s.pending := by
  induction fuel generalizing s orders with
  | zero => rfl
  | succ n ih =>
    unfold State.takeQueue
    split
    · split
      · rfl
      · simp_all
    · rfl

@[simp] theorem State.sendBatch_pending (s : State) (b : Batch) : (State.sendBatch s b).pending = s.pending := by
  unfold State.sendBatch
  simp

@[simp] theorem State.buildFor_pending (s : State) (x : Nat) :
    (s.buildFor x).pending = s.pending := by
  simp [State.buildFor]

@[simp] theorem State.buildBatch_pending (s : State) : (State.buildBatch s).pending = s.pending := by
  unfold State.buildBatch
  simp

@[simp] theorem State.judgeBatch_pending (s : State) (m : Bytes) : (State.judgeBatch s m).pending = s.pending := by
  unfold State.judgeBatch
  simp

@[simp] theorem State.takeBatch_pending (s : State) (qp : Nat) (m : Bytes) :
    (State.takeBatch s qp m).pending = s.pending := by
  unfold State.takeBatch
  simp

@[simp] theorem State.noticeNotReady_pending (s : State) (o : Order) :
    (State.noticeNotReady s o).pending = s.pending := by
  unfold State.noticeNotReady
  simp

@[simp] theorem State.freeSlot_pending (s : State) (slot reason : Nat) :
    (State.freeSlot s slot reason).pending = s.pending := by
  unfold State.freeSlot
  simp

@[simp] theorem State.applyRelease_pending (x : Nat) (s : State) (o : Order) :
    (State.applyRelease x s o).pending = s.pending := by
  unfold State.applyRelease
  simp

@[simp] theorem State.applyAdmit_pending (effect : Nat) (s : State) (o : Order) :
    (State.applyAdmit effect s o).pending = s.pending := by
  unfold State.applyAdmit
  simp

@[simp] theorem State.applyOther_pending (s : State) (o : Order) : (State.applyOther s o).pending = s.pending := by
  unfold State.applyOther
  simp

@[simp] theorem State.noticeLate_pending (s : State) (b : Batch) : (State.noticeLate s b).pending = s.pending := by
  unfold State.noticeLate
  simp

@[simp] theorem State.applyBatch_pending (s : State) (b : Batch) : (State.applyBatch s b).pending = s.pending := by
  unfold State.applyBatch
  simp

@[simp] theorem State.applyOrders_pending (s : State) : (State.applyOrders s).pending = s.pending := by
  unfold State.applyOrders
  (repeat' split) <;> simp

@[simp] theorem State.takeAbortReport_pending (s : State) (qp : Nat) (m : Bytes) :
    (State.takeAbortReport s qp m).pending = s.pending := by
  unfold State.takeAbortReport
  simp

@[simp] theorem State.wantTakeover_pending (s : State) : (State.wantTakeover s).pending = s.pending := by
  unfold State.wantTakeover
  simp

@[simp] theorem State.takeBondReport_pending (s : State) (qp : Nat) (m : Bytes) :
    (State.takeBondReport s qp m).pending = s.pending := by
  unfold State.takeBondReport
  simp

@[simp] theorem State.choose_pending (s : State) (v : Nat) (f : Nat × Nat) :
    (State.choose s v f).pending = s.pending := by
  unfold State.choose
  simp

@[simp] theorem State.evaluate_pending (s : State) (unprocessed : Nat) :
    (State.evaluate s unprocessed).pending = s.pending := by
  unfold State.evaluate
  (repeat' split) <;> simp

@[simp] theorem State.haltSlot_pending (s : State) (slot : Nat) : (State.haltSlot s slot).pending = s.pending := by
  unfold State.haltSlot
  simp

@[simp] theorem State.haltAndFree_pending (s : State) (slot : Nat) :
    (State.haltAndFree s slot).pending = s.pending := by
  unfold State.haltAndFree
  simp

@[simp] theorem State.withdrawBatch_pending (s : State) (b : Batch) :
    (State.withdrawBatch s b).pending = s.pending := by
  unfold State.withdrawBatch
  simp

@[simp] theorem State.answerQueue_pending (s : State) : (State.answerQueue s).pending = s.pending := by
  unfold State.answerQueue
  simp

@[simp] theorem State.haltNow_pending (s : State) : (State.haltNow s).pending = s.pending := by
  unfold State.haltNow
  simp

@[simp] theorem State.driveAlert_pending (s : State) : (State.driveAlert s).pending = s.pending := by
  unfold State.driveAlert
  simp

@[simp] theorem State.takeEnergy_pending (s : State) (nj : Nat) :
    (s.takeEnergy nj).pending = s.pending := by
  unfold State.takeEnergy
  generalize keepFirst 4096 (nj :: s.power.energy) = w
  extract_lets
  split
  · exact (State.mapProg_pending _ _).trans (State.setReg_pending _ _ _)
  · exact State.setReg_pending _ _ _

@[simp] theorem State.forceTransition_pending (s : State) (target cause : Nat) :
    (State.forceTransition s target cause).pending = s.pending := by
  unfold State.forceTransition
  simp

@[simp] theorem State.trip_pending (s : State) (r : Sensors) : (State.trip s r).pending = s.pending := by
  unfold State.trip
  simp

@[simp] theorem State.takeTemperature_pending (s : State) (r : Sensors) :
    (State.takeTemperature s r).pending = s.pending := by
  unfold State.takeTemperature
  simp

@[simp] theorem State.thermalRests_pending (s : State) : (State.thermalRests s).pending = s.pending := by
  unfold State.thermalRests
  simp

@[simp] theorem State.showSensors_pending (s : State) (r : Sensors) :
    (State.showSensors s r).pending = s.pending := by
  unfold State.showSensors
  simp

@[simp] theorem State.noteFlow_pending (s : State) (low : Bool) : (State.noteFlow s low).pending = s.pending := by
  unfold State.noteFlow
  simp

@[simp] theorem State.sample_pending (s : State) (fits : Bool) (r : Sensors) :
    (State.sample s fits r).pending = s.pending := by
  unfold State.sample
  simp

@[simp] theorem State.noticeFlow_pending (s : State) : (State.noticeFlow s).pending = s.pending := by
  unfold State.noticeFlow
  simp

@[simp] theorem State.ingressDown_pending (s : State) : (State.ingressDown s).pending = s.pending := by
  unfold State.ingressDown
  simp

@[simp] theorem State.dropRetries_pending (s : State) : (State.dropRetries s).pending = s.pending := by
  unfold State.dropRetries
  simp

@[simp] theorem State.haltTrowels_pending (s : State) (run : Bool) :
    (State.haltTrowels s run).pending = s.pending := by
  unfold State.haltTrowels
  simp

@[simp] theorem State.enterDoze_pending (s : State) : (State.enterDoze s).pending = s.pending := by
  unfold State.enterDoze
  simp

@[simp] theorem State.noticePower_pending (s : State) (old new cause : Nat) :
    (State.noticePower s old new cause).pending = s.pending := by
  unfold State.noticePower
  simp

@[simp] theorem State.enterAwake_pending (s : State) (m : PowerMode) (cause : Nat) :
    (State.enterAwake s m cause).pending = s.pending := by
  unfold State.enterAwake
  simp

@[simp] theorem State.enterSleep_pending (s : State) (cause : Nat) :
    (State.enterSleep s cause).pending = s.pending := by
  unfold State.enterSleep
  simp

@[simp] theorem State.requestPower_pending (s : State) (v : Nat) :
    (State.requestPower s v).2.pending = s.pending := by
  unfold State.requestPower
  simp

@[simp] theorem State.announceSleep_pending (s : State) : (State.announceSleep s).pending = s.pending := by
  unfold State.announceSleep
  simp

@[simp] theorem State.startTransition_pending (s : State) : (State.startTransition s).pending = s.pending := by
  unfold State.startTransition
  simp

@[simp] theorem State.endTransition_pending (s : State) : (State.endTransition s).pending = s.pending := by
  unfold State.endTransition
  (repeat' split) <;> simp

@[simp] theorem State.sleepNow_pending (s : State) : (State.sleepNow s).pending = s.pending := by
  unfold State.sleepNow
  simp

@[simp] theorem State.forceSleep_pending (s : State) (cause : Nat) :
    (State.forceSleep s cause).pending = s.pending := by
  unfold State.forceSleep
  simp

@[simp] theorem State.supplyLost_pending (s : State) (lowest : Nat) :
    (State.supplyLost s lowest).pending = s.pending := by
  unfold State.supplyLost
  (repeat' split) <;> simp

@[simp] theorem State.startWake_pending (s : State) (src : Nat) : (State.startWake s src).pending = s.pending := by
  unfold State.startWake
  simp

@[simp] theorem State.wakeAtCourse_pending (s : State) : (State.wakeAtCourse s).pending = s.pending := by
  unfold State.wakeAtCourse
  simp

@[simp] theorem State.wakeFrame_pending (s : State) (dest : Nat) (f : Bytes) :
    (State.wakeFrame s dest f).pending = s.pending := by
  unfold State.wakeFrame
  simp

@[simp] theorem State.supplyReturns_pending (s : State) : (State.supplyReturns s).pending = s.pending := by
  unfold State.supplyReturns
  simp

@[simp] theorem State.sleepTemp_pending (s : State) : (State.sleepTemp s).pending = s.pending := by
  unfold State.sleepTemp
  simp

@[simp] theorem State.stopWaiting_pending (s : State) (w : TileWait) :
    (State.stopWaiting s w).pending = s.pending := by
  unfold State.stopWaiting
  (repeat' split) <;> simp

@[simp] theorem State.failWaiting_pending (s : State) (w : TileWait) :
    (State.failWaiting s w).pending = s.pending := by
  unfold State.failWaiting
  (repeat' split) <;> simp

@[simp] theorem State.replay_pending (s : State) (core eng : Nat) :
    (State.replay s core eng).pending = s.pending := by
  unfold State.replay
  simp

@[simp] theorem State.takeTile_pending (s : State) (w : TileWait) (t : Bytes) :
    (State.takeTile s w t).pending = s.pending := by
  unfold State.takeTile
  dsimp only
  (repeat' split) <;> simp

@[simp] theorem State.fillBond_pending (s : State) (n : Nat) : (State.fillBond s n).pending = s.pending := by
  unfold State.fillBond
  simp

@[simp] theorem State.askNow_pending (s : State) (x : Repair) : (State.askNow s x).1.pending = s.pending := by
  unfold State.askNow
  (repeat' split) <;> simp

@[simp] theorem State.putRepair_pending (s : State) (x : Repair) : (State.putRepair s x).pending = s.pending := by
  unfold State.putRepair
  simp

@[simp] theorem State.ask_pending (s : State) (x : Repair) : (State.ask s x).pending = s.pending := by
  unfold State.ask
  simp

@[simp] theorem State.askWaiting_pending (s : State) : (State.askWaiting s).pending = s.pending := by
  unfold State.askWaiting
  simp

@[simp] theorem State.failsTwice_pending (s : State) (w : TileWait) : (State.failsTwice s w).pending = s.pending := by
  unfold State.failsTwice
  simp

@[simp] theorem State.reread_pending (s : State) (c : Consumer) (err : Errors) :
    (State.reread s c err).pending = s.pending := by
  unfold State.reread
  (repeat' split) <;> simp

@[simp] theorem State.answerRepair_pending (s : State) (fabric : Bool) (port : Nat) (g : Bytes) (t : Option Bytes) :
    (State.answerRepair s fabric port g t).pending = s.pending := by
  unfold State.answerRepair
  (repeat' split) <;> simp

@[simp] theorem State.serveRepair_pending (s : State) (port : Nat) (g : Bytes) :
    (State.serveRepair s port g).pending = s.pending := by
  unfold State.serveRepair
  simp

@[simp] theorem State.nextSource_pending (s : State) (x : Repair) : (State.nextSource s x).pending = s.pending := by
  unfold State.nextSource
  simp

@[simp] theorem State.dropRepair_pending (s : State) (x : Repair) : (State.dropRepair s x).pending = s.pending := by
  unfold State.dropRepair
  simp

@[simp] theorem State.deliverRepair_pending (s : State) (x : Repair) (t : Bytes) :
    (State.deliverRepair s x t).pending = s.pending := by
  unfold State.deliverRepair
  (repeat' split) <;> simp

@[simp] theorem State.takeRepair_pending (s : State) (g tile : Bytes) :
    (State.takeRepair s g tile).pending = s.pending := by
  unfold State.takeRepair
  (repeat' split) <;> simp

@[simp] theorem State.repairsLate_pending (s : State) : (State.repairsLate s).pending = s.pending := by
  unfold State.repairsLate
  simp

@[simp] theorem State.abortForData_pending (s : State) (course : Nat) (slots : List Nat) :
    (State.abortForData s course slots).pending = s.pending := by
  unfold State.abortForData
  simp

@[simp] theorem State.damageSide_pending (s : State) (side address : Nat) :
    (State.damageSide s side address).pending = s.pending := by
  unfold State.damageSide
  simp

@[simp] theorem State.noData_pending (s : State) (w : TileWait) : (State.noData s w).pending = s.pending := by
  unfold State.noData
  (repeat' split) <;> simp

@[simp] theorem State.giveUp_pending (s : State) (x : Repair) : (State.giveUp s x).pending = s.pending := by
  unfold State.giveUp
  dsimp only
  (repeat' split) <;> simp

@[simp] theorem State.giveUpRepairs_pending (s : State) : (State.giveUpRepairs s).pending = s.pending := by
  unfold State.giveUpRepairs
  simp

@[simp] theorem State.setWithheld_pending (s : State) (g : Nat) (on : Bool) :
    (State.setWithheld s g on).pending = s.pending := by
  unfold State.setWithheld
  simp

@[simp] theorem State.takeDamageReport_pending (s : State) (qp : Nat) (m : Bytes) :
    (State.takeDamageReport s qp m).pending = s.pending := by
  unfold State.takeDamageReport
  simp

@[simp] theorem State.zeroGranule_pending (s : State) (a : Nat) : (State.zeroGranule s a).pending = s.pending := by
  unfold State.zeroGranule
  simp

@[simp] theorem State.stopHeadSlot_pending (course : Nat) (s : State) (slot : Nat) :
    (State.stopHeadSlot course s slot).pending = s.pending := by
  unfold State.stopHeadSlot
  simp

@[simp] theorem State.stopTints_pending (s : State) (course : Nat) (yields : Bool) :
    (State.stopTints s course yields).pending = s.pending := by
  unfold State.stopTints
  simp

@[simp] theorem State.stopPlan_pending (s : State) : (State.stopPlan s).pending = s.pending := by
  unfold State.stopPlan
  (repeat' split) <;> simp

@[simp] theorem State.storeSticks_pending (s : State) (a : Nat) : (State.storeSticks s a).pending = s.pending := by
  unfold State.storeSticks
  simp

@[simp] theorem State.sendStatus_pending (s : State) (qp w : Nat) :
    (State.sendStatus s qp w).pending = s.pending := by
  unfold State.sendStatus
  dsimp only
  (repeat' split) <;> simp

@[simp] theorem State.wantStatus_pending (s : State) (qp w reason discarded : Nat) :
    (State.wantStatus s qp w reason discarded).pending = s.pending := by
  unfold State.wantStatus
  simp

@[simp] theorem State.creditRises_pending (s : State) (w : Nat) : (State.creditRises s w).pending = s.pending := by
  unfold State.creditRises
  simp

@[simp] theorem State.sendStatuses_pending (s : State) : (State.sendStatuses s).pending = s.pending := by
  unfold State.sendStatuses
  simp

@[simp] theorem State.ingressSet_pending (s : State) (w : IngressWindow) (n : Nat) :
    (State.ingressSet s w n).pending = s.pending := by
  unfold State.ingressSet
  (repeat' split) <;> simp

@[simp] theorem State.windowGap_pending (s : State) (qp : Nat) (w : IngressWindow) (n : Nat) :
    (State.windowGap s qp w n).pending = s.pending := by
  unfold State.windowGap
  simp

@[simp] theorem State.judgeRecord_pending (s : State) (qp : Nat) (w : IngressWindow) (pos : Option Nat)
    (r : Bytes) : (State.judgeRecord s qp w pos r).pending = s.pending := by
  unfold State.judgeRecord
  simp

@[simp] theorem State.takeIngress_pending (s : State) (qp w : Nat) (r : Bytes) :
    (State.takeIngress s qp w r).pending = s.pending := by
  unfold State.takeIngress
  (repeat' split) <;> simp

@[simp] theorem State.qpFails_pending (s : State) (n cause : Nat) :
    (State.qpFails s n cause).pending = s.pending := by
  unfold State.qpFails
  simp

@[simp] theorem State.nakQp_pending (s : State) (n cause : Nat) : (State.nakQp s n cause).pending = s.pending := by
  unfold State.nakQp
  simp

@[simp] theorem State.readyQp_pending (s : State) (n : Nat) (r : Bytes) :
    (State.readyQp s n r).pending = s.pending := by
  unfold State.readyQp
  simp

@[simp] theorem State.configQp_pending (s : State) (r : Bytes) : (State.configQp s r).2.pending = s.pending := by
  unfold State.configQp
  simp

@[simp] theorem State.resetQp_pending (s : State) (n : Nat) : (State.resetQp s n).pending = s.pending := by
  unfold State.resetQp
  simp

@[simp] theorem State.retryQp_pending (s : State) (n : Nat) : (State.retryQp s n).pending = s.pending := by
  unfold State.retryQp
  dsimp only
  (repeat' split) <;> simp

@[simp] theorem State.releaseHeld_pending (s : State) (n fuel : Nat) :
    (State.releaseHeld s n fuel).pending = s.pending := by
  fun_induction State.releaseHeld s n fuel <;> simp_all

@[simp] theorem State.takeAck_pending (s : State) (n count : Nat) :
    (State.takeAck s n count).pending = s.pending := by
  unfold State.takeAck
  simp

@[simp] theorem State.ringRecord_pending (s : State) (size positions off : Nat) (r : Bytes) :
    (State.ringRecord s size positions off r).pending = s.pending := by
  unfold State.ringRecord
  (repeat' split) <;> simp

@[simp] theorem State.takeWrite_pending (s : State) (n address rkey : Nat) (r : Bytes) :
    (State.takeWrite s n address rkey r).pending = s.pending := by
  unfold State.takeWrite
  dsimp only
  (repeat' split) <;> simp

@[simp] theorem State.takeOrderSend_pending (s : State) (n : Nat) (imm : Option Nat) (data : Bytes) :
    (State.takeOrderSend s n imm data).pending = s.pending := by
  unfold State.takeOrderSend
  simp

@[simp] theorem State.takeSend_pending (s : State) (n : Nat) (imm : Option Nat) (data : Bytes) :
    (State.takeSend s n imm data).pending = s.pending := by
  unfold State.takeSend
  simp

@[simp] theorem State.takeOp_pending (s : State) (n : Nat) (op : RoceOp) :
    (State.takeOp s n op).pending = s.pending := by
  unfold State.takeOp
  (repeat' split) <;> simp

@[simp] theorem State.answerCe_pending (s : State) (n : Nat) : (State.answerCe s n).pending = s.pending := by
  unfold State.answerCe
  simp

@[simp] theorem State.takePacket_pending (s : State) (ingress qpn : Nat) (op : RoceOp) (icrcOk ce : Bool) :
    (State.takePacket s ingress qpn op icrcOk ce).pending = s.pending := by
  unfold State.takePacket
  simp

@[simp] theorem State.pauseQps_pending (s : State) (ingress : Nat) (on : Bool) :
    (State.pauseQps s ingress on).pending = s.pending := by
  unfold State.pauseQps
  simp

@[simp] theorem State.passFrame_pending (s : State) (n : Nat) (f : EthFrame) :
    (State.passFrame s n f).pending = s.pending := by
  unfold State.passFrame
  simp

@[simp] theorem State.takeFrame_pending (s : State) (n : Nat) (f : EthFrame) :
    (State.takeFrame s n f).pending = s.pending := by
  unfold State.takeFrame
  (repeat' split) <;> simp

@[simp] theorem State.putTxSak_pending (s : State) (n : Nat) (k : Bytes) :
    (State.putTxSak s n k).2.pending = s.pending := by
  unfold State.putTxSak
  simp

@[simp] theorem State.putRxSak_pending (s : State) (n : Nat) (k : Bytes) :
    (State.putRxSak s n k).2.pending = s.pending := by
  unfold State.putRxSak
  simp

@[simp] theorem State.ingressLink_pending (s : State) (n : Nat) (up : Bool) :
    (State.ingressLink s n up).pending = s.pending := by
  unfold State.ingressLink
  simp

@[simp] theorem State.mapPaths_pending (s : State) (f : Paths → Paths) :
    (State.mapPaths s f).pending = s.pending := by
  unfold State.mapPaths
  simp

@[simp] theorem State.mapRing_pending (s : State) (f : Ring → Ring) : (State.mapRing s f).pending = s.pending := by
  unfold State.mapRing
  simp

@[simp] theorem State.resetFunction_pending (s : State) : (State.resetFunction s).pending = s.pending := by
  unfold State.resetFunction
  simp

@[simp] theorem State.linkTo_pending (s : State) (state rate width : Nat) :
    (State.linkTo s state rate width).pending = s.pending := by
  unfold State.linkTo
  simp

@[simp] theorem State.claimed_pending (s : State) (node : Nat) (chainIn : Bool) :
    (State.claimed s node chainIn).pending = s.pending := by
  unfold State.claimed
  simp

@[simp] theorem State.confirmed_pending (s : State) (node : Nat) (serial : Bytes) :
    (State.confirmed s node serial).pending = s.pending := by
  unfold State.confirmed
  simp

@[simp] theorem State.claimLapses_pending (s : State) : (State.claimLapses s).pending = s.pending := by
  unfold State.claimLapses
  (repeat' split) <;> simp

@[simp] theorem State.retrainIdentity_pending (s : State) (port : Nat) :
    (State.retrainIdentity s port).pending = s.pending := by
  unfold State.retrainIdentity
  simp

@[simp] theorem State.writeDeviceId_pending (s : State) (v : Nat) :
    (State.writeDeviceId s v).2.pending = s.pending := by
  unfold State.writeDeviceId
  simp

@[simp] theorem State.raiseNotice_pending (s : State) (code cls source : Nat) (payload : Bytes) :
    (State.raiseNotice s code cls source payload).pending = s.pending := by
  unfold State.raiseNotice
  simp

@[simp] theorem State.chainTurn_pending (s : State) : (State.chainTurn s).pending = s.pending := by
  unfold State.chainTurn
  (repeat' split) <;> simp

@[simp] theorem State.ringFaults_pending (s : State) : (State.ringFaults s).pending = s.pending := by
  unfold State.ringFaults
  simp

@[simp] theorem State.ringTurn_pending (s : State) (ok : Bool) : (State.ringTurn s ok).pending = s.pending := by
  unfold State.ringTurn
  (repeat' split) <;> simp

@[simp] theorem State.writeRingControl_pending (s : State) (value : Nat) :
    (State.writeRingControl s value).pending = s.pending := by
  unfold State.writeRingControl
  simp

@[simp] theorem State.recordStart_pending (s : State) (reason slot step detail : Nat) :
    (State.recordStart s reason slot step detail).pending = s.pending := by
  unfold State.recordStart
  simp

@[simp] theorem State.internalReset_pending (s : State) : (State.internalReset s).pending = s.pending := by
  unfold State.internalReset
  simp

@[simp] theorem State.beginAttempt_pending (s : State) : (State.beginAttempt s).pending = s.pending := by
  unfold State.beginAttempt
  simp

@[simp] theorem State.enterLimewash_pending (s : State) (reason : Nat) :
    (State.enterLimewash s reason).pending = s.pending := by
  unfold State.enterLimewash
  simp

@[simp] theorem State.countAttempt_pending (s : State) : (State.countAttempt s).pending = s.pending := by
  unfold State.countAttempt
  simp

@[simp] theorem State.failAttempt_pending (s : State) (reason slot step detail : Nat) :
    (State.failAttempt s reason slot step detail).pending = s.pending := by
  unfold State.failAttempt
  simp

@[simp] theorem State.showSlot_pending (s : State) (slot st version : Nat) :
    (State.showSlot s slot st version).pending = s.pending := by
  unfold State.showSlot
  simp

@[simp] theorem State.romRefuses_pending (s : State) (slot : Nat) :
    (State.romRefuses s slot).pending = s.pending := by
  unfold State.romRefuses
  simp

@[simp] theorem State.trowelImages_pending (s : State) (header : Bytes) :
    (State.trowelImages s header).pending = s.pending := by
  unfold State.trowelImages
  simp

@[simp] theorem State.takeFirmware_pending (s : State) (slot : Nat) :
    (State.takeFirmware s slot).pending = s.pending := by
  unfold State.takeFirmware
  simp

@[simp] theorem State.revokeAnchors_pending (s : State) (i : Item) :
    (State.revokeAnchors s i).pending = s.pending := by
  unfold State.revokeAnchors
  simp

@[simp] theorem State.chooseSlot_pending (s : State) : (State.chooseSlot s).2.pending = s.pending := by
  unfold State.chooseSlot
  simp

@[simp] theorem State.selfTest_pending (s : State) (failing : List Nat) (c : Nat) :
    (State.selfTest s failing c).pending = s.pending := by
  unfold State.selfTest
  (repeat' split) <;> simp

@[simp] theorem State.selfTests_pending (s : State) (failing : List Nat) :
    (State.selfTests s failing).pending = s.pending := by
  unfold State.selfTests
  simp

@[simp] theorem State.startTrowels_pending (s : State) : (State.startTrowels s).pending = s.pending := by
  unfold State.startTrowels
  simp

@[simp] theorem State.operational_pending (s : State) (longest : Nat) :
    (State.operational s longest).pending = s.pending := by
  unfold State.operational
  dsimp only
  (repeat' split) <;> simp

theorem State.chooseSlot_pending' {s t : State} {o : Option Nat} (h : s.chooseSlot = (o, t)) : t.pending = s.pending := by
  have h' : s.chooseSlot.2.pending = s.pending := State.chooseSlot_pending s
  rw [h] at h'
  exact h'

@[simp] theorem State.attempt_pending (s : State) (failing : Option (List Nat)) :
    (s.attempt failing).pending = s.pending := by
  unfold State.attempt
  extract_lets s1 awake
  have h1 : s1.countAttempt.pending = s.pending := by simp [s1]
  split
  · simp [awake, s1]
  · split
    · rename_i h
      have ht := (State.chooseSlot_pending' h).trans h1
      simp [ht]
    · rename_i h
      have ht := (State.chooseSlot_pending' h).trans h1
      split <;> simp [awake, ht]

@[simp] theorem State.startUp_pending (s : State) (failing : List Nat) :
    (State.startUp s failing).pending = s.pending := by
  unfold State.startUp
  simp

@[simp] theorem State.noticeSupply_pending (s : State) : (State.noticeSupply s).pending = s.pending := by
  unfold State.noticeSupply
  (repeat' split) <;> simp

@[simp] theorem State.endWake_pending (s : State) (src : Nat) (source : Option Nat) :
    (State.endWake s src source).pending = s.pending := by
  unfold State.endWake
  (repeat' split) <;> simp

@[simp] theorem State.wake_pending (s : State) (source : Option Nat) : (State.wake s source).pending = s.pending := by
  unfold State.wake
  (repeat' split) <;> simp

@[simp] theorem State.resetPin_pending (s : State) (low : Nat) : (State.resetPin s low).pending = s.pending := by
  unfold State.resetPin
  (repeat' split) <;> simp

@[simp] theorem State.confirmStart_pending (s : State) : (State.confirmStart s).pending = s.pending := by
  unfold State.confirmStart
  simp

@[simp] theorem State.startFails_pending (s : State) (reason detail : Nat) :
    (State.startFails s reason detail).pending = s.pending := by
  unfold State.startFails
  dsimp only
  (repeat' split) <;> simp

@[simp] theorem State.fatalFault_pending (s : State) (cause : Nat) :
    (State.fatalFault s cause).pending = s.pending := by
  unfold State.fatalFault
  simp

@[simp] theorem State.retryStart_pending (s : State) : (State.retryStart s).2.pending = s.pending := by
  unfold State.retryStart
  simp

@[simp] theorem State.selectSlot_pending (s : State) (v : Nat) : (State.selectSlot s v).2.pending = s.pending := by
  unfold State.selectSlot
  simp

@[simp] theorem State.writeSlot_pending (s : State) (path : Nat) (b : Bytes) :
    (State.writeSlot s path b).2.pending = s.pending := by
  unfold State.writeSlot
  dsimp only
  (repeat' split) <;> simp

@[simp] theorem State.stageSlot_pending (s : State) (path n : Nat) :
    (State.stageSlot s path n).2.pending = s.pending := by
  unfold State.stageSlot
  simp

@[simp] theorem State.diagnose_pending (s : State) (test : Nat) (failing : List Nat) :
    (State.diagnose s test failing).2.pending = s.pending := by
  unfold State.diagnose
  simp

@[simp] theorem State.armFirmware_pending (c : Nat) (s : State) : (State.armFirmware c s).pending = s.pending := by
  unfold State.armFirmware
  simp

@[simp] theorem State.activateFirmware_pending (s : State) (path c : Nat) :
    (State.activateFirmware s path c).2.pending = s.pending := by
  unfold State.activateFirmware
  dsimp only
  (repeat' split) <;> simp

@[simp] theorem State.activate_pending (s : State) : (State.activate s).pending = s.pending := by
  unfold State.activate
  (repeat' split) <;> simp

@[simp] theorem State.restartDone_pending (s : State) : (State.restartDone s).pending = s.pending := by
  unfold State.restartDone
  simp

@[simp] theorem State.noticeActivated_pending (s : State) (course : Nat) :
    (State.noticeActivated s course).pending = s.pending := by
  unfold State.noticeActivated
  simp

@[simp] theorem State.loadPatch_pending (s : State) (path n : Nat) :
    (State.loadPatch s path n).2.pending = s.pending := by
  unfold State.loadPatch
  dsimp only
  (repeat' split) <;> simp

@[simp] theorem State.armPatch_pending (c : Nat) (s : State) : (State.armPatch c s).pending = s.pending := by
  unfold State.armPatch
  simp

@[simp] theorem State.swapPatch_pending (s : State) : (State.swapPatch s).pending = s.pending := by
  unfold State.swapPatch
  (repeat' split) <;> simp

@[simp] theorem State.mapBond_pending (s : State) (f : Bond → Bond) : (State.mapBond s f).pending = s.pending := by
  unfold State.mapBond
  simp

@[simp] theorem State.sendSequence_pending (s : State) (slot : Nat) :
    (State.sendSequence s slot).pending = s.pending := by
  unfold State.sendSequence
  simp

@[simp] theorem State.mirrorChanged_pending (s : State) (slot : Nat) :
    (State.mirrorChanged s slot).pending = s.pending := by
  unfold State.mirrorChanged
  simp

@[simp] theorem State.endMirrorCourse_pending (s : State) (course : Nat) :
    (State.endMirrorCourse s course).pending = s.pending := by
  unfold State.endMirrorCourse
  simp

@[simp] theorem State.mirrorCourse_pending (s : State) : (State.mirrorCourse s).pending = s.pending := by
  unfold State.mirrorCourse
  simp

@[simp] theorem State.pair_pending (v : Nat) (s : State) : (State.pair v s).pending = s.pending := by
  unfold State.pair
  simp

@[simp] theorem State.solo_pending (s : State) : (State.solo s).pending = s.pending := by
  unfold State.solo
  simp

@[simp] theorem State.endPairing_pending (s : State) : (State.endPairing s).pending = s.pending := by
  unfold State.endPairing
  simp

@[simp] theorem State.writeBondMode_pending (s : State) (v : Nat) :
    (State.writeBondMode s v).2.pending = s.pending := by
  unfold State.writeBondMode
  simp

@[simp] theorem State.closeCopy_pending (s : State) (slot : Nat) : (State.closeCopy s slot).pending = s.pending := by
  unfold State.closeCopy
  simp

@[simp] theorem State.copySlot_pending (s : State) (slot : Nat) : (State.copySlot s slot).pending = s.pending := by
  unfold State.copySlot
  simp

@[simp] theorem State.mirrorTile_pending (s : State) (x : Nat × Nat × Nat × Nat) (rest : List
    (Nat × Nat × Nat × Nat)) : (State.mirrorTile s x rest).pending = s.pending := by
  unfold State.mirrorTile
  simp

@[simp] theorem State.mirrorTiles_pending (s : State) (fuel flits : Nat) :
    (State.mirrorTiles s fuel flits).pending = s.pending := by
  fun_induction State.mirrorTiles s fuel flits <;> simp_all

@[simp] theorem State.resyncCourse_pending (s : State) : (State.resyncCourse s).pending = s.pending := by
  unfold State.resyncCourse
  simp

@[simp] theorem State.startResync_pending (s : State) : (State.startResync s).pending = s.pending := by
  unfold State.startResync
  simp

@[simp] theorem State.protect_pending (s : State) : (State.protect s).pending = s.pending := by
  unfold State.protect
  simp

@[simp] theorem State.resyncEnds_pending (s : State) : (State.resyncEnds s).pending = s.pending := by
  unfold State.resyncEnds
  simp

@[simp] theorem State.takeMarkOf_pending (s : State) (w : Nat) : (State.takeMarkOf s w).pending = s.pending := by
  unfold State.takeMarkOf
  simp

@[simp] theorem State.meetPartner_pending (s : State) (w : Nat) : (State.meetPartner s w).pending = s.pending := by
  unfold State.meetPartner
  simp

@[simp] theorem State.hear_pending (s : State) (w : Nat) : (State.hear s w).pending = s.pending := by
  unfold State.hear
  dsimp only
  (repeat' split) <;> simp

@[simp] theorem State.heartbeatEnd_pending (s : State) : (State.heartbeatEnd s).pending = s.pending := by
  unfold State.heartbeatEnd
  simp

@[simp] theorem State.degrade_pending (s : State) : (State.degrade s).pending = s.pending := by
  unfold State.degrade
  simp

@[simp] theorem State.mirrorFull_pending (s : State) : (State.mirrorFull s).pending = s.pending := by
  unfold State.mirrorFull
  simp

@[simp] theorem State.setShadow_pending (s : State) (slot : Nat) (v : Shadow) :
    (State.setShadow s slot v).pending = s.pending := by
  unfold State.setShadow
  simp

@[simp] theorem State.mirrorAdmit_pending (s : State) (slot : Nat) (r : Bytes) :
    (State.mirrorAdmit s slot r).pending = s.pending := by
  unfold State.mirrorAdmit
  simp

@[simp] theorem State.mirrorRelease_pending (s : State) (slot : Nat) (r : Bytes) :
    (State.mirrorRelease s slot r).pending = s.pending := by
  unfold State.mirrorRelease
  simp

@[simp] theorem State.keepSequence_pending (s : State) (slot : Nat) (r : Bytes) :
    (State.keepSequence s slot r).pending = s.pending := by
  unfold State.keepSequence
  simp

@[simp] theorem State.keepDigest_pending (s : State) (slot : Nat) (r : Bytes) :
    (State.keepDigest s slot r).pending = s.pending := by
  unfold State.keepDigest
  simp

@[simp] theorem State.courseEnded_pending (s : State) (r : Bytes) : (State.courseEnded s r).pending = s.pending := by
  unfold State.courseEnded
  simp

@[simp] theorem State.applyMirror_pending (s : State) (r : Bytes) : (State.applyMirror s r).pending = s.pending := by
  unfold State.applyMirror
  dsimp only
  (repeat' split) <;> simp

@[simp] theorem State.takeMirror_pending (s : State) (r : Bytes) : (State.takeMirror s r).pending = s.pending := by
  unfold State.takeMirror
  simp

@[simp] theorem State.lossTakeover_pending (s : State) (cause : Nat) :
    (State.lossTakeover s cause).pending = s.pending := by
  unfold State.lossTakeover
  simp

@[simp] theorem State.losePartner_pending (s : State) : (State.losePartner s).pending = s.pending := by
  unfold State.losePartner
  simp

@[simp] theorem State.resumeSlot_pending (s : State) (t rm slot : Nat) :
    (State.resumeSlot s t rm slot).pending = s.pending := by
  unfold State.resumeSlot
  simp

@[simp] theorem State.abortTaken_pending (s : State) (rm slot reason : Nat) :
    (State.abortTaken s rm slot reason).pending = s.pending := by
  unfold State.abortTaken
  simp

@[simp] theorem State.takeSlot_pending (t rm : Nat) (e : State × Nat × Nat) (slot : Nat) :
    (State.takeSlot t rm e slot).1.pending = e.1.pending := by
  unfold State.takeSlot
  split <;> simp

theorem foldl_takeSlot_pending (t rm : Nat) (l : List Nat) (e : State × Nat × Nat) :
    (l.foldl (State.takeSlot t rm) e).1.pending = e.1.pending := by
  induction l generalizing e with
  | nil => rfl
  | cons i l ih => exact (ih _).trans (by simp)

@[simp] theorem State.takeOver_pending (s : State) :
    (s.takeOver).pending = s.pending := by
  unfold State.takeOver
  dsimp only
  (repeat' split) <;> simp [foldl_takeSlot_pending]

@[simp] theorem State.takenOver_pending (s : State) : (State.takenOver s).pending = s.pending := by
  unfold State.takenOver
  simp

@[simp] theorem State.retryHeld_pending (s : State) (h : Held) : (State.retryHeld s h).2.pending = s.pending := by
  unfold State.retryHeld
  simp

@[simp] theorem State.releaseHeldRequest_pending (s : State) (h : Held) :
    (State.releaseHeldRequest s h).pending = s.pending := by
  unfold State.releaseHeldRequest
  simp

@[simp] theorem State.releaseRequests_pending (s : State) : (State.releaseRequests s).pending = s.pending := by
  unfold State.releaseRequests
  simp

@[simp] theorem State.beginReport_pending (s : State) (nonce : Bytes) :
    (State.beginReport s nonce).2.pending = s.pending := by
  unfold State.beginReport
  simp

@[simp] theorem State.captureReport_pending (s : State) : (State.captureReport s).pending = s.pending := by
  unfold State.captureReport
  (repeat' split) <;> simp

@[simp] theorem State.reportDone_pending (s : State) : (State.reportDone s).pending = s.pending := by
  unfold State.reportDone
  dsimp only
  (repeat' split) <;> simp

@[simp] theorem State.answerSpdm_pending (s : State) (r : SpdmRequest) :
    (State.answerSpdm s r).pending = s.pending := by
  unfold State.answerSpdm
  (repeat' split) <;> simp

@[simp] theorem State.setOwner_pending (s : State) (o : Option Bytes) (kind : Nat) :
    (State.setOwner s o kind).pending = s.pending := by
  unfold State.setOwner
  simp

@[simp] theorem State.enroll_pending (s : State) (value : Bytes) : (State.enroll s value).2.pending = s.pending := by
  unfold State.enroll
  simp

@[simp] theorem State.changeOwner_pending (s : State) (path : Nat) (value : Bytes) :
    (State.changeOwner s path value).2.pending = s.pending := by
  unfold State.changeOwner
  simp

@[simp] theorem State.moveLifecycle_pending (s : State) (target : Nat) :
    (State.moveLifecycle s target).pending = s.pending := by
  unfold State.moveLifecycle
  simp

@[simp] theorem State.takeLifecycle_pending (s : State) (path : Nat) (value : Bytes) :
    (State.takeLifecycle s path value).2.pending = s.pending := by
  unfold State.takeLifecycle
  simp

@[simp] theorem State.requestLevel_pending (s : State) (v : Via) (l : Nat) :
    (State.requestLevel s v l).2.pending = s.pending := by
  unfold State.requestLevel
  simp

@[simp] theorem State.takeToken_pending (s : State) (v : Via) (value : Bytes) :
    (State.takeToken s v value).2.pending = s.pending := by
  unfold State.takeToken
  simp

@[simp] theorem State.debugWrite_pending (s : State) (value : Bytes) :
    (State.debugWrite s value).2.pending = s.pending := by
  unfold State.debugWrite
  simp

@[simp] theorem State.startTrace_pending (s : State) : (State.startTrace s).pending = s.pending := by
  unfold State.startTrace
  simp

@[simp] theorem State.commitVersion_pending (s : State) : (State.commitVersion s).2.pending = s.pending := by
  unfold State.commitVersion
  simp

@[simp] theorem State.judgeNotAfter_pending (s : State) : (State.judgeNotAfter s).pending = s.pending := by
  unfold State.judgeNotAfter
  simp

@[simp] theorem State.noticeWaiting_pending (s : State) (x : Nat) :
    (State.noticeWaiting s x).pending = s.pending := by
  unfold State.noticeWaiting
  (repeat' split) <;> simp

@[simp] theorem State.slipNext_pending (s : State) (cause : Nat) (serving : Bool) :
    (State.slipNext s cause serving).pending = s.pending := by
  unfold State.slipNext
  simp

@[simp] theorem State.consume_pending (s : State) (landed : Map Nat) (upto : Nat) :
    (State.consume s landed upto).pending = s.pending := by
  unfold State.consume
  refine (foldl_pending _ (fun s a => ?_) _ _).trans ?_ <;> (repeat' split) <;> simp

@[simp] theorem State.decideGrout_pending (s : State) (x : Sweep) : (State.decideGrout s x).pending = s.pending := by
  unfold State.decideGrout
  dsimp only
  (repeat' split) <;> simp

@[simp] theorem State.settleNext_pending (s : State) : (State.settleNext s).pending = s.pending := by
  unfold State.settleNext
  dsimp only
  (repeat' split) <;> simp

@[simp] theorem State.dueCheck_pending (s : State) : (State.dueCheck s).pending = s.pending := by
  unfold State.dueCheck
  simp

@[simp] theorem State.showProgress_pending (s : State) : (State.showProgress s).pending = s.pending := by
  unfold State.showProgress
  simp

@[simp] theorem State.capture_pending (s : State) : (State.capture s).pending = s.pending := by
  unfold State.capture
  simp

@[simp] theorem State.applyPoint_pending (s : State) : (State.applyPoint s).pending = s.pending := by
  unfold State.applyPoint
  simp

@[simp] theorem State.sendMarks_pending (s : State) : (State.sendMarks s).pending = s.pending := by
  unfold State.sendMarks
  simp

@[simp] theorem State.cycle543_pending (s : State) : (State.cycle543 s).pending = s.pending := by
  unfold State.cycle543
  simp

@[simp] theorem State.planStalls_pending (s : State) : (State.planStalls s).pending = s.pending := by
  unfold State.planStalls
  simp

@[simp] theorem State.takeCount_pending (s : State) (v : Nat) : (State.takeCount s v).pending = s.pending := by
  unfold State.takeCount
  simp

@[simp] theorem State.loadFreeRun_pending (s : State) : (State.loadFreeRun s).pending = s.pending := by
  unfold State.loadFreeRun
  (repeat' split) <;> simp

@[simp] theorem State.islandCourse_pending (s : State) : (State.islandCourse s).pending = s.pending := by
  unfold State.islandCourse
  simp

@[simp] theorem State.countSlip_pending (s : State) (cause : Nat) :
    (State.countSlip s cause).pending = s.pending := by
  unfold State.countSlip
  simp

@[simp] theorem State.carry_pending (s : State) (k : CourseKind) : (State.carry s k).pending = s.pending := by
  unfold State.carry
  simp

@[simp] theorem State.execute_pending (s : State) (c : Nat) (k : CourseKind) :
    (State.execute s c k).pending = s.pending := by
  unfold State.execute
  simp

@[simp] theorem State.runCourse_pending (s : State) (c : Nat) : (State.runCourse s c).pending = s.pending := by
  unfold State.runCourse
  simp

@[simp] theorem State.follow_pending (s : State) (k : CourseKind) : (State.follow s k).pending = s.pending := by
  unfold State.follow
  (repeat' split) <;> simp

@[simp] theorem State.planCourse_pending (s : State) : (State.planCourse s).pending = s.pending := by
  unfold State.planCourse
  dsimp only
  (repeat' split) <;> simp

@[simp] theorem State.sendTraining_pending (s : State) (port : Nat) :
    (State.sendTraining s port).pending = s.pending := by
  unfold State.sendTraining
  simp

@[simp] theorem State.openPort_pending (s : State) (port : Nat) : (State.openPort s port).pending = s.pending := by
  unfold State.openPort
  simp

@[simp] theorem State.openBond_pending (s : State) : (State.openBond s).pending = s.pending := by
  unfold State.openBond
  simp

@[simp] theorem State.openEngine_pending (s : State) : (State.openEngine s).pending = s.pending := by
  unfold State.openEngine
  (repeat' split) <;> simp

@[simp] theorem State.sweepLocal_pending (s : State) : (State.sweepLocal s).pending = s.pending := by
  unfold State.sweepLocal
  simp

@[simp] theorem State.openCourse_pending (s : State) : (State.openCourse s).pending = s.pending := by
  unfold State.openCourse
  simp

@[simp] theorem State.startCourse_pending (s : State) : (State.startCourse s).pending = s.pending := by
  unfold State.startCourse
  (repeat' split) <;> simp

@[simp] theorem State.rootEpoch_pending (s : State) : (State.rootEpoch s).pending = s.pending := by
  unfold State.rootEpoch
  (repeat' split) <;> simp

@[simp] theorem State.countPulse_pending (s : State) (phase8 : Int) :
    (State.countPulse s phase8).pending = s.pending := by
  unfold State.countPulse
  simp

@[simp] theorem State.epochPort_pending (s : State) (port : Nat) : (State.epochPort s port).pending = s.pending := by
  unfold State.epochPort
  simp

@[simp] theorem State.epochUnits_pending (s : State) (ber : List (Nat × Nat)) :
    (State.epochUnits s ber).pending = s.pending := by
  unfold State.epochUnits
  simp

@[simp] theorem State.epochClock_pending (s : State) (phase8 offset : Int) :
    (State.epochClock s phase8 offset).pending = s.pending := by
  unfold State.epochClock
  simp

@[simp] theorem State.epochCourse_pending (s : State) (phase8 offset : Int) (ber : List (Nat × Nat)) :
    (State.epochCourse s phase8 offset ber).pending = s.pending := by
  unfold State.epochCourse
  simp

@[simp] theorem State.putLaunchCourse_pending (s : State) (v : Nat) :
    (State.putLaunchCourse s v).2.pending = s.pending := by
  unfold State.putLaunchCourse
  simp

@[simp] theorem State.clearRegs_pending (s : State) (l : List RegId) : (State.clearRegs s l).pending = s.pending := by
  unfold State.clearRegs
  simp

@[simp] theorem State.launchWeights_pending (s : State) : (State.launchWeights s).pending = s.pending := by
  unfold State.launchWeights
  (repeat' split) <;> simp

@[simp] theorem State.launchBanks_pending (s : State) : (State.launchBanks s).pending = s.pending := by
  unfold State.launchBanks
  simp

@[simp] theorem State.startPlan_pending (s : State) (p : Plan) : (State.startPlan s p).pending = s.pending := by
  unfold State.startPlan
  simp

@[simp] theorem State.launchPlan_pending (s : State) : (State.launchPlan s).pending = s.pending := by
  unfold State.launchPlan
  (repeat' split) <;> simp

@[simp] theorem State.afterWrite_pending (s : State) (index sub v : Nat) :
    (State.afterWrite s index sub v).pending = s.pending := by
  unfold State.afterWrite
  simp

@[simp] theorem State.writePlain_pending (s : State) (e : Entry) (index sub v : Nat) :
    (State.writePlain s e index sub v).2.pending = s.pending := by
  unfold State.writePlain
  simp

@[simp] theorem State.writeBytes_pending (s : State) (index sub : Nat) (b : Bytes) :
    (State.writeBytes s index sub b).2.pending = s.pending := by
  unfold State.writeBytes
  simp

@[simp] theorem State.diagnoseFreely_pending (s : State) (test : Nat) :
    (State.diagnoseFreely s test).2.pending = s.pending := by
  unfold State.diagnoseFreely
  simp

@[simp] theorem State.clearFlagByte_pending (s : State) (index sub v : Nat) :
    (State.clearFlagByte s index sub v).2.pending = s.pending := by
  unfold State.clearFlagByte
  simp

theorem State.fixedAction_pendingAll (s : State) (v : Via) (index sub value : Nat) :
    (s.fixedAction v index sub value).all (fun r => r.2.pending == s.pending) = true := by
  unfold State.fixedAction
  (repeat' apply all_of_ite) <;> simp

theorem State.fixedAction_pending {s : State} {v : Via} {index sub value : Nat} {r : Nat × State}
    (h : s.fixedAction v index sub value = some r) : r.2.pending = s.pending := by
  have := State.fixedAction_pendingAll s v index sub value
  rw [h] at this
  simpa using this

theorem State.blobAction_pendingAll (s : State) (v : Via) (index sub : Nat) (b : Bytes) :
    (s.blobAction v index sub b).all (fun r => r.2.pending == s.pending) = true := by
  unfold State.blobAction
  (repeat' apply all_of_ite) <;> simp only [Option.all_some, Option.all_none] <;> (repeat' split) <;> simp

theorem State.blobAction_pending {s : State} {v : Via} {index sub : Nat} {b : Bytes} {r : Nat × State}
    (h : s.blobAction v index sub b = some r) : r.2.pending = s.pending := by
  have := State.blobAction_pendingAll s v index sub b
  rw [h] at this
  simpa using this

@[simp] theorem State.writeEntry_pending (s : State) (v : Via) (e : Entry) (index sub : Nat) (value : Bytes) :
    (s.writeEntry v e index sub value).2.pending = s.pending := by
  unfold State.writeEntry
  repeat' split
  · rename_i h
    exact State.blobAction_pending h
  · simp
  · rename_i h
    exact State.fixedAction_pending h
  · simp

@[simp] theorem State.latchValue_pending (s : State) (v : Via) (index sub : Nat) :
    (State.latchValue s v index sub).2.pending = s.pending := by
  unfold State.latchValue
  simp

@[simp] theorem State.readSegments_pending (s : State) (v : Via) (index sub offset : Nat) :
    (State.readSegments s v index sub offset).2.pending = s.pending := by
  unfold State.readSegments
  (repeat' split) <;> simp

@[simp] theorem State.readEntry_pending (s : State) (v : Via) (e : Entry) (index sub offset : Nat) :
    (State.readEntry s v e index sub offset).2.pending = s.pending := by
  unfold State.readEntry
  simp

@[simp] theorem State.dropPartial_pending (s : State) (v : Via) (lost : Bool) :
    (State.dropPartial s v lost).pending = s.pending := by
  unfold State.dropPartial
  simp

@[simp] theorem State.keepPartial_pending (s : State) (v : Via) (key total : Nat) (value : Bytes) :
    (State.keepPartial s v key total value).pending = s.pending := by
  unfold State.keepPartial
  simp

@[simp] theorem State.writeSegment_pending (s : State) (v : Via) (e : Entry) (index sub offset total : Nat)
    (last : Bool) (value : Bytes) :
    (State.writeSegment s v e index sub offset total last value).2.pending = s.pending := by
  unfold State.writeSegment
  (repeat' split) <;> simp

@[simp] theorem State.writeValue_pending (s : State) (v : Via) (e : Entry) (index sub offset total : Nat)
    (last : Bool) (value : Bytes) :
    (State.writeValue s v e index sub offset total last value).2.pending = s.pending := by
  unfold State.writeValue
  simp

@[simp] theorem State.serve_pending (s : State) (v : Via) (op index sub typ offset total : Nat) (last : Bool)
    (value : Bytes) : (State.serve s v op index sub typ offset total last value).2.pending = s.pending := by
  unfold State.serve
  (repeat' split) <;> simp

@[simp] theorem State.request_pending (s : State) (v : Via) (op index sub typ offset total : Nat) (last : Bool)
    (value : Bytes) : (State.request s v op index sub typ offset total last value).2.pending = s.pending := by
  unfold State.request
  simp

@[simp] theorem State.requestNow_pending (s : State) (v : Via) (op index sub typ offset total : Nat) (last : Bool)
    (value : Bytes) : (State.requestNow s v op index sub typ offset total last value).pending = s.pending := by
  unfold State.requestNow
  simp

@[simp] theorem State.submit_pending (s : State) (v : Via) (op index sub typ offset total : Nat) (last : Bool)
    (value : Bytes) : (State.submit s v op index sub typ offset total last value).pending = s.pending := by
  unfold State.submit
  simp

@[simp] theorem State.expirePartial_pending (s : State) (v : Via) :
    (State.expirePartial s v).pending = s.pending := by
  unfold State.expirePartial
  simp

@[simp] theorem State.headed_pending (s : State) (v : Via) (h value : Bytes) (ok : Bool) :
    (State.headed s v h value ok).2.pending = s.pending := by
  unfold State.headed
  simp

@[simp] theorem State.storeReply_pending (s : State) (mac seq : Nat) (f : Bytes) :
    (State.storeReply s mac seq f).pending = s.pending := by
  unfold State.storeReply
  simp

@[simp] theorem State.answerFrame_pending (s : State) (mac : Nat) (f : Bytes) :
    (State.answerFrame s mac f).pending = s.pending := by
  unfold State.answerFrame
  (repeat' split) <;> simp

@[simp] theorem State.frameArrives_pending (s : State) (mac : Nat) (f : Bytes) :
    (State.frameArrives s mac f).pending = s.pending := by
  unfold State.frameArrives
  simp

@[simp] theorem State.setGateway_pending (s : State) (i : Nat) (g : GatewaySlot) :
    (State.setGateway s i g).pending = s.pending := by
  unfold State.setGateway
  simp

@[simp] theorem State.runSlot_pending (s : State) (i : Nat) : (State.runSlot s i).pending = s.pending := by
  unfold State.runSlot
  simp

@[simp] theorem State.submitSlot_pending (s : State) (i : Nat) : (State.submitSlot s i).pending = s.pending := by
  unfold State.submitSlot
  simp

@[simp] theorem State.discardBar0_pending (s : State) : (State.discardBar0 s).pending = s.pending := by
  unfold State.discardBar0
  simp

@[simp] theorem State.writeSlotBytes_pending (s : State) (i at_ : Nat) (b : Bytes) :
    (State.writeSlotBytes s i at_ b).pending = s.pending := by
  unfold State.writeSlotBytes
  simp

@[simp] theorem State.writeRing_pending (s : State) (at_ : Nat) (b : Bytes) :
    (State.writeRing s at_ b).pending = s.pending := by
  unfold State.writeRing
  simp

@[simp] theorem State.writeMsix_pending (s : State) (at_ : Nat) (b : Bytes) :
    (State.writeMsix s at_ b).pending = s.pending := by
  unfold State.writeMsix
  simp

@[simp] theorem State.writeBar0_pending (s : State) (offset : Nat) (b : Bytes) :
    (State.writeBar0 s offset b).pending = s.pending := by
  unfold State.writeBar0
  simp

@[simp] theorem State.runWaiting_pending (s : State) (w : Waiting) : (State.runWaiting s w).pending = s.pending := by
  unfold State.runWaiting
  (repeat' split) <;> simp

@[simp] theorem State.endRestart_pending (s : State) : (State.endRestart s).pending = s.pending := by
  unfold State.endRestart
  simp

end Sys2Proof.Machine
end

