-- ==== Sys2Proof/Laws/Grants.lean ====
section
/-! SUPPORT. Requests that no check refuses: what a write that reaches its entry leaves. -/

namespace Sys2Proof.Machine

@[simp] theorem State.answerOk_pending (s : State) (v : Via) : (s.answerOk v).pending = s.pending := rfl

theorem respond_ok (s : State) (v : Via) (index sub op : Nat) : s.respond v index sub op rcOk [] = s.answerOk v := rfl

/-- A write that no check refuses is carried out and answered. -/
theorem writeRequest_grants {s : State} {v : Via} {index sub typ : Nat} {value : Bytes} {act : State → Nat × State}
    (h : s.grants v index sub typ value = true) :
    s.writeRequest v index sub typ value act =
      (act (s.countRequest v)).2.respond v index sub 2 (act (s.countRequest v)).1 [] := by
  unfold State.grants at h
  simp only [Bool.and_eq_true, Bool.not_eq_true'] at h
  obtain ⟨⟨hk, hs⟩, he⟩ := h
  unfold State.writeRequest State.writeNow
  rw [if_neg (by simp [hk]), if_pos hs]
  dsimp only
  split at he
  · cases he
  · rename_i rc e heq
    try rw [heq]
    simp only [Bool.and_eq_true, Bool.not_eq_true'] at he
    obtain ⟨hv, hz⟩ := he
    have ha : (s.countRequest v).applyWhole e index sub value act = act (s.countRequest v) := by
      unfold State.applyWhole
      rw [if_neg (by simp [hv])]
      split
      · rename_i hx
        have hy : (e.typ == 7 && e.access == 2 && leVal value == 0) = true := by
          simpa [Bool.and_eq_true] using hx
        rw [hy] at hz
        cases hz
      · rfl
    try dsimp only
    rw [ha]

theorem writeNumber_grants {s : State} {v : Via} {index sub typ value : Nat} {act : State → Nat × State}
    (h : s.grantsNumber v index sub typ value = true) :
    s.writeNumber v index sub typ value act =
      (act (s.countRequest v)).2.respond v index sub 2 (act (s.countRequest v)).1 [] := by
  unfold State.grantsNumber at h
  simp only [Bool.and_eq_true, decide_eq_true_eq] at h
  unfold State.writeNumber
  rw [if_pos h.1]
  exact writeRequest_grants h.2

/-- A write that no check refuses and that its entry takes: the answer is Ok. -/
theorem writeNumber_ok {s t : State} {v : Via} {index sub typ value : Nat} {act : State → Nat × State}
    (h : s.grantsNumber v index sub typ value = true) (ha : act (s.countRequest v) = (rcOk, t)) :
    s.writeNumber v index sub typ value act = t.answerOk v := by
  rw [writeNumber_grants h, ha]
  rfl

theorem writeRequest_ok {s t : State} {v : Via} {index sub typ : Nat} {value : Bytes} {act : State → Nat × State}
    (h : s.grants v index sub typ value = true) (ha : act (s.countRequest v) = (rcOk, t)) :
    s.writeRequest v index sub typ value act = t.answerOk v := by
  rw [writeRequest_grants h, ha]
  rfl

/-- A request that its own conditions and the governor let begin. -/
theorem governed_starts {s : State} {own : State → Nat} {a port value : Nat} {start : State → State}
    (ho : own s = rcOk) (hb : s.blocker a port = none) : s.governed own a port value start = (rcOk, start s) := by
  unfold State.governed State.govern
  dsimp only
  rw [if_neg (by simp [ho]), hb]

end Sys2Proof.Machine
end

