-- ==== Sys2Proof/Laws/LeavesInstructions.lean ====
section
/-! SUPPORT. The commands that leave both addressed memories as they were: the instruction rows. -/

namespace Sys2Proof.Machine

theorem execNop_stores (q : Issue) (f : Fields) (s t : State) (h : execNop q f s = .next t) :
    t.mem = s.mem ∧ t.staging = s.staging := by
  refine instr_stores h fun g t => ?_
  simp

theorem execWait_stores (q : Issue) (f : Fields) (s t : State) (h : execWait q f s = .next t) :
    t.mem = s.mem ∧ t.staging = s.staging := by
  refine instr_stores h fun g t => ?_
  simp

theorem execPlumb_stores (q : Issue) (f : Fields) (s t : State) (h : execPlumb q f s = .next t) :
    t.mem = s.mem ∧ t.staging = s.staging := by
  refine instr_stores h fun g t => ?_
  simp

theorem execPlumbRelease_stores (core : Nat) (arrival : PlumbMark) (s t : State)
    (h : execPlumbRelease core arrival s = .next t) : t.mem = s.mem ∧ t.staging = s.staging := by
  refine onUnit_stores h ?_
  simp

theorem execRet_stores (q : Issue) (f : Fields) (s t : State) (h : execRet q f s = .next t) :
    t.mem = s.mem ∧ t.staging = s.staging := by
  refine instr_stores h fun g t => ?_
  simp

theorem execEndBundle_stores (q : Issue) (f : Fields) (s t : State) (h : execEndBundle q f s = .next t) :
    t.mem = s.mem ∧ t.staging = s.staging := by
  refine instr_stores h fun g t => ?_
  simp

theorem execBundleStart_stores (core queue : Nat) (s t : State)
    (h : execBundleStart core queue s = .next t) : t.mem = s.mem ∧ t.staging = s.staging := by
  refine onUnit_stores h ?_
  simp

theorem execRel_stores (q : Issue) (f : Fields) (s t : State) (h : execRel q f s = .next t) :
    t.mem = s.mem ∧ t.staging = s.staging := by
  refine instr_stores h fun g t => ?_
  simp

theorem execLp_stores (q : Issue) (f : Fields) (s t : State) (h : execLp q f s = .next t) :
    t.mem = s.mem ∧ t.staging = s.staging := by
  refine instr_stores h fun g t => ?_
  simp

theorem execSetCount_stores (q : Issue) (f : Fields) (s t : State) (h : execSetCount q f s = .next t) :
    t.mem = s.mem ∧ t.staging = s.staging := by
  refine instr_stores h fun g t => ?_
  simp

theorem execAddc_stores (q : Issue) (f : Fields) (s t : State) (h : execAddc q f s = .next t) :
    t.mem = s.mem ∧ t.staging = s.staging := by
  refine instr_stores h fun g t => ?_
  simp

theorem execKset_stores (q : Issue) (f : Fields) (s t : State) (h : execKset q f s = .next t) :
    t.mem = s.mem ∧ t.staging = s.staging := by
  refine instr_stores h fun g t => ?_
  simp

theorem execBk_stores (q : Issue) (f : Fields) (s t : State) (h : execBk q f s = .next t) :
    t.mem = s.mem ∧ t.staging = s.staging := by
  refine instr_stores h fun g t => ?_
  simp

theorem execWcrs_stores (q : Issue) (f : Fields) (s t : State) (h : execWcrs q f s = .next t) :
    t.mem = s.mem ∧ t.staging = s.staging := by
  refine instr_stores h fun g t => ?_
  simp

theorem execAo_stores (q : Issue) (f : Fields) (s t : State) (h : execAo q f s = .next t) :
    t.mem = s.mem ∧ t.staging = s.staging := by
  refine instr_stores h fun g t => ?_
  simp

theorem execTwait_stores (q : Issue) (f : Fields) (s t : State) (h : execTwait q f s = .next t) :
    t.mem = s.mem ∧ t.staging = s.staging := by
  refine instr_stores h fun g t => ?_
  simp

theorem execLvw_stores (q : Issue) (f : Fields) (s t : State) (h : execLvw q f s = .next t) :
    t.mem = s.mem ∧ t.staging = s.staging := by
  refine instr_stores h fun g t => ?_
  simp

theorem execAddLane_stores (q : Issue) (f : Fields) (s t : State) (h : execAddLane q f s = .next t) :
    t.mem = s.mem ∧ t.staging = s.staging := by
  refine instr_stores h fun g t => ?_
  simp

theorem execSubLane_stores (q : Issue) (f : Fields) (s t : State) (h : execSubLane q f s = .next t) :
    t.mem = s.mem ∧ t.staging = s.staging := by
  refine instr_stores h fun g t => ?_
  simp

theorem execMulLane_stores (q : Issue) (f : Fields) (s t : State) (h : execMulLane q f s = .next t) :
    t.mem = s.mem ∧ t.staging = s.staging := by
  refine instr_stores h fun g t => ?_
  simp

theorem execFma_stores (q : Issue) (f : Fields) (s t : State) (h : execFma q f s = .next t) :
    t.mem = s.mem ∧ t.staging = s.staging := by
  refine instr_stores h fun g t => ?_
  simp (maxDischargeDepth := 40)

theorem execDivLane_stores (q : Issue) (f : Fields) (s t : State) (h : execDivLane q f s = .next t) :
    t.mem = s.mem ∧ t.staging = s.staging := by
  refine instr_stores h fun g t => ?_
  simp

theorem execSqrt_stores (q : Issue) (f : Fields) (s t : State) (h : execSqrt q f s = .next t) :
    t.mem = s.mem ∧ t.staging = s.staging := by
  refine instr_stores h fun g t => ?_
  simp

theorem execMinLane_stores (q : Issue) (f : Fields) (s t : State) (h : execMinLane q f s = .next t) :
    t.mem = s.mem ∧ t.staging = s.staging := by
  refine instr_stores h fun g t => ?_
  simp

theorem execMaxLane_stores (q : Issue) (f : Fields) (s t : State) (h : execMaxLane q f s = .next t) :
    t.mem = s.mem ∧ t.staging = s.staging := by
  refine instr_stores h fun g t => ?_
  simp

theorem execFn_stores (q : Issue) (f : Fields) (s t : State) (h : execFn q f s = .next t) :
    t.mem = s.mem ∧ t.staging = s.staging := by
  refine instr_stores h fun g t => ?_
  (repeat' split) <;> simp

theorem execRed_stores (q : Issue) (f : Fields) (s t : State) (h : execRed q f s = .next t) :
    t.mem = s.mem ∧ t.staging = s.staging := by
  refine instr_stores h fun g t => ?_
  simp

theorem execSqa_stores (q : Issue) (f : Fields) (s t : State) (h : execSqa q f s = .next t) :
    t.mem = s.mem ∧ t.staging = s.staging := by
  refine instr_stores h fun g t => ?_
  simp

theorem execRot_stores (q : Issue) (f : Fields) (s t : State) (h : execRot q f s = .next t) :
    t.mem = s.mem ∧ t.staging = s.staging := by
  refine instr_stores h fun g t => ?_
  simp (maxDischargeDepth := 40)

theorem execAmax_stores (q : Issue) (f : Fields) (s t : State) (h : execAmax q f s = .next t) :
    t.mem = s.mem ∧ t.staging = s.staging := by
  refine instr_stores h fun g t => ?_
  simp

theorem execTopk_stores (q : Issue) (f : Fields) (s t : State) (h : execTopk q f s = .next t) :
    t.mem = s.mem ∧ t.staging = s.staging := by
  refine instr_stores h fun g t => ?_
  simp

theorem execRng_stores (q : Issue) (f : Fields) (s t : State) (h : execRng q f s = .next t) :
    t.mem = s.mem ∧ t.staging = s.staging := by
  refine instr_stores h fun g t => ?_
  simp

theorem execCvt_stores (q : Issue) (f : Fields) (s t : State) (h : execCvt q f s = .next t) :
    t.mem = s.mem ∧ t.staging = s.staging := by
  refine instr_stores h fun g t => ?_
  simp

theorem execDup_stores (q : Issue) (f : Fields) (s t : State) (h : execDup q f s = .next t) :
    t.mem = s.mem ∧ t.staging = s.staging := by
  refine instr_stores h fun g t => ?_
  simp

theorem execSuspensionEnd_stores (s t : State) (h : execSuspensionEnd s = .next t) :
    t.mem = s.mem ∧ t.staging = s.staging := by
  refine done_stores h ?_
  simp

theorem execTileVerdict_stores (core engine : Nat) (s t : State)
    (h : execTileVerdict core engine s = .next t) : t.mem = s.mem ∧ t.staging = s.staging := by
  refine onUnit_stores h ?_
  simp

theorem execFmode_stores (q : Issue) (f : Fields) (s t : State) (h : execFmode q f s = .next t) :
    t.mem = s.mem ∧ t.staging = s.staging := by
  refine instr_stores h fun g t => ?_
  simp

theorem execTset_stores (q : Issue) (f : Fields) (s t : State) (h : execTset q f s = .next t) :
    t.mem = s.mem ∧ t.staging = s.staging := by
  refine instr_stores h fun g t => ?_
  simp

theorem execMma_stores (q : Issue) (f : Fields) (batch : Option Nat) (s t : State)
    (h : execMma q f batch s = .next t) : t.mem = s.mem ∧ t.staging = s.staging := by
  refine instr_stores h fun g t => ?_
  simp

theorem execVrd_stores (q : Issue) (f : Fields) (s t : State) (h : execVrd q f s = .next t) :
    t.mem = s.mem ∧ t.staging = s.staging := by
  refine instr_stores h fun g t => ?_
  simp

theorem execDue_stores (q : Issue) (f : Fields) (s t : State) (h : execDue q f s = .next t) :
    t.mem = s.mem ∧ t.staging = s.staging := by
  refine instr_stores h fun g t => ?_
  simp

end Sys2Proof.Machine
end

