-- ==== Sys2Proof/Laws/LeavesModule.lean ====
section
/-! SUPPORT. The commands that leave both addressed memories as they were: power, start-up, security, the bond and repair. -/

namespace Sys2Proof.Machine

theorem execSensorSample_stores (fits : Bool) (reading : Sensors) (s t : State)
    (h : execSensorSample fits reading s = .next t) : t.mem = s.mem ∧ t.staging = s.staging := by
  refine done_stores h ?_
  simp

theorem execCoolantFlowLow_stores (s t : State) (h : execCoolantFlowLow s = .next t) :
    t.mem = s.mem ∧ t.staging = s.staging := by
  refine done_stores h ?_
  simp

theorem execPowerRequest_stores (v : Via) (value : Nat) (s t : State)
    (h : execPowerRequest v value s = .next t) : t.mem = s.mem ∧ t.staging = s.staging := by
  refine done_stores h ?_
  simp

theorem execPowerTransitionStart_stores (s t : State) (h : execPowerTransitionStart s = .next t) :
    t.mem = s.mem ∧ t.staging = s.staging := by
  refine done_stores h ?_
  simp

theorem execPowerTransitionDone_stores (s t : State) (h : execPowerTransitionDone s = .next t) :
    t.mem = s.mem ∧ t.staging = s.staging := by
  refine done_stores h ?_
  simp

theorem execWakeAtCourse_stores (s t : State) (h : execWakeAtCourse s = .next t) :
    t.mem = s.mem ∧ t.staging = s.staging := by
  refine done_stores h ?_
  simp

theorem execChainWakeFrame_stores (dest : Nat) (frame : Bytes) (s t : State)
    (h : execChainWakeFrame dest frame s = .next t) : t.mem = s.mem ∧ t.staging = s.staging := by
  refine done_stores h ?_
  simp

theorem execWakeNLow_stores (s t : State) (h : execWakeNLow s = .next t) :
    t.mem = s.mem ∧ t.staging = s.staging := by
  refine done_stores h ?_
  simp

theorem execSupplyReturn_stores (s t : State) (h : execSupplyReturn s = .next t) :
    t.mem = s.mem ∧ t.staging = s.staging := by
  refine done_stores h ?_
  simp

theorem execSleepTempEvent_stores (s t : State) (h : execSleepTempEvent s = .next t) :
    t.mem = s.mem ∧ t.staging = s.staging := by
  refine done_stores h ?_
  simp

theorem execRepairRequest_stores (port : Nat) (granule : Bytes) (s t : State)
    (h : execRepairRequest port granule s = .next t) : t.mem = s.mem ∧ t.staging = s.staging := by
  refine onUnit_stores h ?_
  simp

theorem execRepairTimeout_stores (s t : State) (h : execRepairTimeout s = .next t) :
    t.mem = s.mem ∧ t.staging = s.staging := by
  refine done_stores h ?_
  simp

theorem execNoRepairSource_stores (s t : State) (h : execNoRepairSource s = .next t) :
    t.mem = s.mem ∧ t.staging = s.staging := by
  refine done_stores h ?_
  simp

theorem execDamageReport_stores (qp : Nat) (message : Bytes) (s t : State)
    (h : execDamageReport qp message s = .next t) : t.mem = s.mem ∧ t.staging = s.staging := by
  refine onUnit_stores h ?_
  simp

theorem execClearWithheld_stores (v : Via) (value : Nat) (s t : State)
    (h : execClearWithheld v value s = .next t) : t.mem = s.mem ∧ t.staging = s.staging := by
  refine done_stores h ?_
  simp

theorem execHardFault_stores (kind unit : Nat) (s t : State) (h : execHardFault kind unit s = .next t) :
    t.mem = s.mem ∧ t.staging = s.staging := by
  refine onUnit_stores h ?_
  simp

theorem execStoreStuck_stores (address : Nat) (s t : State) (h : execStoreStuck address s = .next t) :
    t.mem = s.mem ∧ t.staging = s.staging := by
  refine onUnit_stores h ?_
  simp

theorem execStartConfirmed_stores (s t : State) (h : execStartConfirmed s = .next t) :
    t.mem = s.mem ∧ t.staging = s.staging := by
  refine done_stores h ?_
  simp

theorem execSlotSelect_stores (v : Via) (value : Nat) (s t : State)
    (h : execSlotSelect v value s = .next t) : t.mem = s.mem ∧ t.staging = s.staging := by
  refine done_stores h ?_
  simp

theorem execSlotImage_stores (v : Via) (value : Bytes) (s t : State)
    (h : execSlotImage v value s = .next t) : t.mem = s.mem ∧ t.staging = s.staging := by
  refine done_stores h ?_
  simp

theorem execSlotStage_stores (v : Via) (value : Nat) (s t : State) (h : execSlotStage v value s = .next t) :
    t.mem = s.mem ∧ t.staging = s.staging := by
  refine done_stores h ?_
  simp

theorem execFirmwareActivate_stores (v : Via) (value : Nat) (s t : State)
    (h : execFirmwareActivate v value s = .next t) : t.mem = s.mem ∧ t.staging = s.staging := by
  refine done_stores h ?_
  simp

theorem execFirmwareActivation_stores (s t : State) (h : execFirmwareActivation s = .next t) :
    t.mem = s.mem ∧ t.staging = s.staging := by
  refine done_stores h ?_
  simp

theorem execPatchLoad_stores (v : Via) (value : Nat) (s t : State) (h : execPatchLoad v value s = .next t) :
    t.mem = s.mem ∧ t.staging = s.staging := by
  refine done_stores h ?_
  simp

theorem execPatchActivate_stores (v : Via) (value : Nat) (s t : State)
    (h : execPatchActivate v value s = .next t) : t.mem = s.mem ∧ t.staging = s.staging := by
  refine done_stores h ?_
  simp

theorem execPatchSwap_stores (s t : State) (h : execPatchSwap s = .next t) :
    t.mem = s.mem ∧ t.staging = s.staging := by
  refine done_stores h ?_
  simp

theorem execBondModeWrite_stores (v : Via) (value : Nat) (s t : State)
    (h : execBondModeWrite v value s = .next t) : t.mem = s.mem ∧ t.staging = s.staging := by
  refine done_stores h ?_
  simp

theorem execBondYield_stores (v : Via) (value : Nat) (s t : State) (h : execBondYield v value s = .next t) :
    t.mem = s.mem ∧ t.staging = s.staging := by
  refine done_stores h ?_
  simp

theorem execResyncDone_stores (s t : State) (h : execResyncDone s = .next t) :
    t.mem = s.mem ∧ t.staging = s.staging := by
  refine done_stores h ?_
  simp

theorem execHeartbeat_stores (bond lane word : Nat) (s t : State)
    (h : execHeartbeat bond lane word s = .next t) : t.mem = s.mem ∧ t.staging = s.staging := by
  refine onUnit_stores h ?_
  simp

theorem execBondDegraded_stores (s t : State) (h : execBondDegraded s = .next t) :
    t.mem = s.mem ∧ t.staging = s.staging := by
  refine done_stores h ?_
  simp

theorem execMirrorBufferFull_stores (s t : State) (h : execMirrorBufferFull s = .next t) :
    t.mem = s.mem ∧ t.staging = s.staging := by
  refine done_stores h ?_
  simp

theorem execPartnerLost_stores (s t : State) (h : execPartnerLost s = .next t) :
    t.mem = s.mem ∧ t.staging = s.staging := by
  refine done_stores h ?_
  simp

theorem execBondTakeover_stores (s t : State) (h : execBondTakeover s = .next t) :
    t.mem = s.mem ∧ t.staging = s.staging := by
  refine done_stores h ?_
  simp

theorem execBondTakenOver_stores (s t : State) (h : execBondTakenOver s = .next t) :
    t.mem = s.mem ∧ t.staging = s.staging := by
  refine done_stores h ?_
  simp

theorem execMaintenanceRelease_stores (s t : State) (h : execMaintenanceRelease s = .next t) :
    t.mem = s.mem ∧ t.staging = s.staging := by
  refine done_stores h ?_
  simp

theorem execAttestNonce_stores (v : Via) (value : Bytes) (s t : State)
    (h : execAttestNonce v value s = .next t) : t.mem = s.mem ∧ t.staging = s.staging := by
  refine done_stores h ?_
  simp

theorem execAttestComplete_stores (s t : State) (h : execAttestComplete s = .next t) :
    t.mem = s.mem ∧ t.staging = s.staging := by
  refine done_stores h ?_
  simp

theorem execSpdmRequest_stores (request : SpdmRequest) (s t : State)
    (h : execSpdmRequest request s = .next t) : t.mem = s.mem ∧ t.staging = s.staging := by
  refine done_stores h ?_
  simp

theorem execOwnerEnroll_stores (v : Via) (value : Bytes) (s t : State)
    (h : execOwnerEnroll v value s = .next t) : t.mem = s.mem ∧ t.staging = s.staging := by
  refine done_stores h ?_
  simp

theorem execOwnerChange_stores (v : Via) (value : Bytes) (s t : State)
    (h : execOwnerChange v value s = .next t) : t.mem = s.mem ∧ t.staging = s.staging := by
  refine done_stores h ?_
  simp

theorem execLifecycleToken_stores (v : Via) (value : Bytes) (s t : State)
    (h : execLifecycleToken v value s = .next t) : t.mem = s.mem ∧ t.staging = s.staging := by
  refine done_stores h ?_
  simp

theorem execDebugRequest_stores (v : Via) (value : Nat) (s t : State)
    (h : execDebugRequest v value s = .next t) : t.mem = s.mem ∧ t.staging = s.staging := by
  refine done_stores h ?_
  simp

theorem execDebugToken_stores (v : Via) (value : Bytes) (s t : State)
    (h : execDebugToken v value s = .next t) : t.mem = s.mem ∧ t.staging = s.staging := by
  refine done_stores h ?_
  simp

theorem execTraceStart_stores (s t : State) (h : execTraceStart s = .next t) :
    t.mem = s.mem ∧ t.staging = s.staging := by
  refine done_stores h ?_
  simp

theorem execSecurityVersionCommit_stores (v : Via) (value : Nat) (s t : State)
    (h : execSecurityVersionCommit v value s = .next t) : t.mem = s.mem ∧ t.staging = s.staging := by
  refine done_stores h ?_
  simp

theorem execNotafterPassed_stores (s t : State) (h : execNotafterPassed s = .next t) :
    t.mem = s.mem ∧ t.staging = s.staging := by
  refine done_stores h ?_
  simp

end Sys2Proof.Machine
end

