-- ==== Sys2Proof/Laws/LeavesPlan.lean ====
section
/-! SUPPORT. The commands that leave both addressed memories as they were: the courses, the plan, the units and the links. -/

namespace Sys2Proof.Machine

theorem execEngineFlagsClear_stores (v : Via) (cluster position engine value raised : Nat) (s t : State)
    (h : execEngineFlagsClear v cluster position engine value raised s = .next t) :
    t.mem = s.mem ∧ t.staging = s.staging := by
  refine onUnit_stores h ?_
  simp

theorem execClearAllFlags_stores (v : Via) (value : Nat) (raised : List (Nat × Nat)) (s t : State)
    (h : execClearAllFlags v value raised s = .next t) : t.mem = s.mem ∧ t.staging = s.staging := by
  refine onUnit_stores h ?_
  simp

theorem execReferenceInvalid_stores (s t : State) (h : execReferenceInvalid s = .next t) :
    t.mem = s.mem ∧ t.staging = s.staging := by
  refine done_stores h ?_
  simp

theorem execCourseSourceWrite_stores (v : Via) (value : Nat) (s t : State)
    (h : execCourseSourceWrite v value s = .next t) : t.mem = s.mem ∧ t.staging = s.staging := by
  refine done_stores h ?_
  simp

theorem execCourseLoad_stores (v : Via) (value : Nat) (s t : State)
    (h : execCourseLoad v value s = .next t) : t.mem = s.mem ∧ t.staging = s.staging := by
  refine done_stores h ?_
  simp

theorem execCourseMark_stores (port mark : Nat) (phase8 : Int) (s t : State)
    (h : execCourseMark port mark phase8 s = .next t) : t.mem = s.mem ∧ t.staging = s.staging := by
  refine onUnit_stores h ?_
  simp

theorem execParentReselect_stores (s t : State) (h : execParentReselect s = .next t) :
    t.mem = s.mem ∧ t.staging = s.staging := by
  refine done_stores h ?_
  simp

theorem execCourseHoldover_stores (s t : State) (h : execCourseHoldover s = .next t) :
    t.mem = s.mem ∧ t.staging = s.staging := by
  refine done_stores h ?_
  simp

theorem execCourseLocked_stores (s t : State) (h : execCourseLocked s = .next t) :
    t.mem = s.mem ∧ t.staging = s.staging := by
  refine done_stores h ?_
  simp

theorem execSourceReturn_stores (count : Nat) (phase8 : Int) (s t : State)
    (h : execSourceReturn count phase8 s = .next t) : t.mem = s.mem ∧ t.staging = s.staging := by
  refine done_stores h ?_
  simp

theorem execPhaseStep_stores (s t : State) (h : execPhaseStep s = .next t) :
    t.mem = s.mem ∧ t.staging = s.staging := by
  refine done_stores h ?_
  simp

theorem execLeadCourse_stores (s t : State) (h : execLeadCourse s = .next t) :
    t.mem = s.mem ∧ t.staging = s.staging := by
  refine done_stores h ?_
  simp

theorem execRestCourse_stores (s t : State) (h : execRestCourse s = .next t) :
    t.mem = s.mem ∧ t.staging = s.staging := by
  refine done_stores h ?_
  simp

theorem execLaunchRefused_stores (s t : State) (h : execLaunchRefused s = .next t) :
    t.mem = s.mem ∧ t.staging = s.staging := by
  refine done_stores h ?_
  simp

theorem execPointingResend_stores (port : Nat) (s t : State) (h : execPointingResend port s = .next t) :
    t.mem = s.mem ∧ t.staging = s.staging := by
  refine onUnit_stores h ?_
  simp

theorem execSignalArrival_stores (packet : Nat) (s t : State) (h : execSignalArrival packet s = .next t) :
    t.mem = s.mem ∧ t.staging = s.staging := by
  refine onUnit_stores h ?_
  simp

theorem execTsig_stores (q : Issue) (f : Fields) (s t : State) (h : execTsig q f s = .next t) :
    t.mem = s.mem ∧ t.staging = s.staging := by
  refine instr_stores h fun g t => ?_
  (repeat' split) <;> simp

theorem execLevelArrival_stores (packet : Nat) (s t : State) (h : execLevelArrival packet s = .next t) :
    t.mem = s.mem ∧ t.staging = s.staging := by
  refine onUnit_stores h ?_
  simp

theorem execLevelRelease_stores (packet : Nat) (s t : State) (h : execLevelRelease packet s = .next t) :
    t.mem = s.mem ∧ t.staging = s.staging := by
  refine onUnit_stores h ?_
  simp

theorem execLva_stores (q : Issue) (f : Fields) (s t : State) (h : execLva q f s = .next t) :
    t.mem = s.mem ∧ t.staging = s.staging := by
  refine instr_stores h fun g t => ?_
  simp

theorem execPointingMessage_stores (port lane word : Nat) (s t : State)
    (h : execPointingMessage port lane word s = .next t) : t.mem = s.mem ∧ t.staging = s.staging := by
  refine onUnit_stores h ?_
  simp

theorem execPointingHousekeeping_stores (fits : Bool) (s t : State)
    (h : execPointingHousekeeping fits s = .next t) : t.mem = s.mem ∧ t.staging = s.staging := by
  refine done_stores h ?_
  simp

theorem execLinkReport_stores (port lane word : Nat) (s t : State)
    (h : execLinkReport port lane word s = .next t) : t.mem = s.mem ∧ t.staging = s.staging := by
  refine onUnit_stores h ?_
  simp

theorem execReportTimeout_stores (port lane course : Nat) (s t : State)
    (h : execReportTimeout port lane course s = .next t) : t.mem = s.mem ∧ t.staging = s.staging := by
  refine onUnit_stores h ?_
  simp

theorem execLinkRetry_stores (port lane : Nat) (s t : State) (h : execLinkRetry port lane s = .next t) :
    t.mem = s.mem ∧ t.staging = s.staging := by
  refine onUnit_stores h ?_
  simp

theorem execLaneDown_stores (port lane cause : Nat) (s t : State)
    (h : execLaneDown port lane cause s = .next t) : t.mem = s.mem ∧ t.staging = s.staging := by
  refine onUnit_stores h ?_
  simp

theorem execLaneRetrainDone_stores (port lane : Nat) (full ok : Bool) (s t : State)
    (h : execLaneRetrainDone port lane full ok s = .next t) : t.mem = s.mem ∧ t.staging = s.staging := by
  refine onUnit_stores h ?_
  simp

theorem execRetrain_stores (v : Via) (port value : Nat) (s t : State)
    (h : execRetrain v port value s = .next t) : t.mem = s.mem ∧ t.staging = s.staging := by
  refine onUnit_stores h ?_
  simp

theorem execPartnerChange_stores (port deviceId partnerPort : Nat) (s t : State)
    (h : execPartnerChange port deviceId partnerPort s = .next t) : t.mem = s.mem ∧ t.staging = s.staging := by
  refine onUnit_stores h ?_
  simp

theorem execTrainingPhase_stores (port word : Nat) (s t : State)
    (h : execTrainingPhase port word s = .next t) : t.mem = s.mem ∧ t.staging = s.staging := by
  refine onUnit_stores h ?_
  simp

theorem execTrainingTimeout_stores (port : Nat) (s t : State) (h : execTrainingTimeout port s = .next t) :
    t.mem = s.mem ∧ t.staging = s.staging := by
  refine onUnit_stores h ?_
  simp

theorem execPortRoleMismatch_stores (port partnerRole partnerDevice : Nat) (s t : State)
    (h : execPortRoleMismatch port partnerRole partnerDevice s = .next t) :
    t.mem = s.mem ∧ t.staging = s.staging := by
  refine onUnit_stores h ?_
  simp

theorem execDelayProbe_stores (port roundTrip8 turnaround8 : Nat) (s t : State)
    (h : execDelayProbe port roundTrip8 turnaround8 s = .next t) : t.mem = s.mem ∧ t.staging = s.staging := by
  refine onUnit_stores h ?_
  simp

theorem execEdgeBlockFailure_stores (edge : Nat) (s t : State) (h : execEdgeBlockFailure edge s = .next t) :
    t.mem = s.mem ∧ t.staging = s.staging := by
  refine onUnit_stores h ?_
  simp

theorem execEdgeRetrain_stores (edge : Nat) (s t : State) (h : execEdgeRetrain edge s = .next t) :
    t.mem = s.mem ∧ t.staging = s.staging := by
  refine onUnit_stores h ?_
  simp

theorem execEdgeLossOfLock_stores (edge : Nat) (s t : State) (h : execEdgeLossOfLock edge s = .next t) :
    t.mem = s.mem ∧ t.staging = s.staging := by
  refine onUnit_stores h ?_
  simp

theorem execEdgeRetrainDone_stores (edge : Nat) (s t : State) (h : execEdgeRetrainDone edge s = .next t) :
    t.mem = s.mem ∧ t.staging = s.staging := by
  refine onUnit_stores h ?_
  simp

theorem execTrowelFault_stores (cluster cause : Nat) (s t : State)
    (h : execTrowelFault cluster cause s = .next t) : t.mem = s.mem ∧ t.staging = s.staging := by
  refine onUnit_stores h ?_
  simp

theorem execTrowelRestartDone_stores (cluster : Nat) (s t : State)
    (h : execTrowelRestartDone cluster s = .next t) : t.mem = s.mem ∧ t.staging = s.staging := by
  refine onUnit_stores h ?_
  simp

theorem execBankSwap_stores (s t : State) (h : execBankSwap s = .next t) :
    t.mem = s.mem ∧ t.staging = s.staging := by
  refine done_stores h ?_
  simp

theorem execSwapArm_stores (v : Via) (value : Nat) (s t : State) (h : execSwapArm v value s = .next t) :
    t.mem = s.mem ∧ t.staging = s.staging := by
  refine done_stores h ?_
  simp

theorem execQuoinCourse_stores (s t : State) (h : execQuoinCourse s = .next t) :
    t.mem = s.mem ∧ t.staging = s.staging := by
  refine done_stores h ?_
  simp

theorem execCorrectedThreshold_stores (cluster position : Nat) (s t : State)
    (h : execCorrectedThreshold cluster position s = .next t) : t.mem = s.mem ∧ t.staging = s.staging := by
  refine onUnit_stores h ?_
  simp

theorem execSubstituteCore_stores (v : Via) (value : Nat) (s t : State)
    (h : execSubstituteCore v value s = .next t) : t.mem = s.mem ∧ t.staging = s.staging := by
  refine done_stores h ?_
  simp

theorem execMaintenanceMicrostep_stores (cluster bytes : Nat) (s t : State)
    (h : execMaintenanceMicrostep cluster bytes s = .next t) : t.mem = s.mem ∧ t.staging = s.staging := by
  refine onUnit_stores h ?_
  simp

theorem execSubstitutionRegisterCopy_stores (cluster : Nat) (fits : Bool) (s t : State)
    (h : execSubstitutionRegisterCopy cluster fits s = .next t) : t.mem = s.mem ∧ t.staging = s.staging := by
  refine onUnit_stores h ?_
  simp

theorem execSubstitutionSwap_stores (cluster : Nat) (s t : State)
    (h : execSubstitutionSwap cluster s = .next t) : t.mem = s.mem ∧ t.staging = s.staging := by
  refine onUnit_stores h ?_
  simp

theorem execSpareFault_stores (cluster : Nat) (s t : State) (h : execSpareFault cluster s = .next t) :
    t.mem = s.mem ∧ t.staging = s.staging := by
  refine onUnit_stores h ?_
  simp

theorem execRetireCluster_stores (v : Via) (value : Nat) (s t : State)
    (h : execRetireCluster v value s = .next t) : t.mem = s.mem ∧ t.staging = s.staging := by
  refine done_stores h ?_
  simp

theorem execDueCheck_stores (s t : State) (h : execDueCheck s = .next t) :
    t.mem = s.mem ∧ t.staging = s.staging := by
  refine done_stores h ?_
  simp

theorem execPlanStalled_stores (s t : State) (h : execPlanStalled s = .next t) :
    t.mem = s.mem ∧ t.staging = s.staging := by
  refine done_stores h ?_
  simp

theorem execEpochCourse_stores (phase8 keeperOffset : Int) (ber : List (Nat × Nat)) (s t : State)
    (h : execEpochCourse phase8 keeperOffset ber s = .next t) : t.mem = s.mem ∧ t.staging = s.staging := by
  refine done_stores h ?_
  simp

theorem execLaunchCourseWrite_stores (v : Via) (value : Nat) (s t : State)
    (h : execLaunchCourseWrite v value s = .next t) : t.mem = s.mem ∧ t.staging = s.staging := by
  refine done_stores h ?_
  simp

end Sys2Proof.Machine
end

