-- ==== Sys2Proof/Laws/LeavesService.lean ====
section
/-! SUPPORT. The commands that leave both addressed memories as they were: loading, serving, ingress and host access. -/

namespace Sys2Proof.Machine

theorem execLoadGeneration_stores (v : Via) (value : Nat) (s t : State)
    (h : execLoadGeneration v value s = .next t) : t.mem = s.mem ∧ t.staging = s.staging := by
  refine done_stores h ?_
  simp

theorem execLoadAdapter_stores (v : Via) (value : Nat) (s t : State)
    (h : execLoadAdapter v value s = .next t) : t.mem = s.mem ∧ t.staging = s.staging := by
  refine done_stores h ?_
  simp

theorem execCreditSend_stores (s t : State) (h : execCreditSend s = .next t) :
    t.mem = s.mem ∧ t.staging = s.staging := by
  refine done_stores h ?_
  simp

theorem execLoadAbort_stores (v : Via) (value : Nat) (s t : State) (h : execLoadAbort v value s = .next t) :
    t.mem = s.mem ∧ t.staging = s.staging := by
  refine done_stores h ?_
  simp

theorem execCreditMessage_stores (message : Bytes) (s t : State)
    (h : execCreditMessage message s = .next t) : t.mem = s.mem ∧ t.staging = s.staging := by
  refine done_stores h ?_
  simp

theorem execSwitchCourse_stores (v : Via) (value : Nat) (s t : State)
    (h : execSwitchCourse v value s = .next t) : t.mem = s.mem ∧ t.staging = s.staging := by
  refine done_stores h ?_
  simp

theorem execGenerationSwitch_stores (s t : State) (h : execGenerationSwitch s = .next t) :
    t.mem = s.mem ∧ t.staging = s.staging := by
  refine done_stores h ?_
  simp

theorem execGenerationDiscard_stores (v : Via) (value : Nat) (s t : State)
    (h : execGenerationDiscard v value s = .next t) : t.mem = s.mem ∧ t.staging = s.staging := by
  refine done_stores h ?_
  simp

theorem execPlanLoad_stores (v : Via) (value : Nat) (s t : State) (h : execPlanLoad v value s = .next t) :
    t.mem = s.mem ∧ t.staging = s.staging := by
  refine done_stores h ?_
  simp

theorem execPlanDiscard_stores (v : Via) (value : Nat) (s t : State)
    (h : execPlanDiscard v value s = .next t) : t.mem = s.mem ∧ t.staging = s.staging := by
  refine done_stores h ?_
  simp

theorem execPlanHalt_stores (v : Via) (value : Nat) (s t : State) (h : execPlanHalt v value s = .next t) :
    t.mem = s.mem ∧ t.staging = s.staging := by
  refine done_stores h ?_
  simp

theorem execTokenRecord_stores (record : Bytes) (s t : State) (h : execTokenRecord record s = .next t) :
    t.mem = s.mem ∧ t.staging = s.staging := by
  refine done_stores h ?_
  simp

theorem execRecordSend_stores (qp : Nat) (s t : State) (h : execRecordSend qp s = .next t) :
    t.mem = s.mem ∧ t.staging = s.staging := by
  refine onUnit_stores h ?_
  simp

theorem execDescriptor_stores (qp : Nat) (message : Bytes) (s t : State)
    (h : execDescriptor qp message s = .next t) : t.mem = s.mem ∧ t.staging = s.staging := by
  refine onUnit_stores h ?_
  simp

theorem execBatchBuild_stores (s t : State) (h : execBatchBuild s = .next t) :
    t.mem = s.mem ∧ t.staging = s.staging := by
  refine done_stores h ?_
  simp

theorem execOrderBatch_stores (qp : Nat) (message : Bytes) (s t : State)
    (h : execOrderBatch qp message s = .next t) : t.mem = s.mem ∧ t.staging = s.staging := by
  refine onUnit_stores h ?_
  simp

theorem execOrderApply_stores (s t : State) (h : execOrderApply s = .next t) :
    t.mem = s.mem ∧ t.staging = s.staging := by
  refine done_stores h ?_
  simp

theorem execAbortReport_stores (qp : Nat) (message : Bytes) (s t : State)
    (h : execAbortReport qp message s = .next t) : t.mem = s.mem ∧ t.staging = s.staging := by
  refine onUnit_stores h ?_
  simp

theorem execBondReport_stores (qp : Nat) (message : Bytes) (s t : State)
    (h : execBondReport qp message s = .next t) : t.mem = s.mem ∧ t.staging = s.staging := by
  refine onUnit_stores h ?_
  simp

theorem execGovernorEvaluation_stores (unprocessed : Nat) (s t : State)
    (h : execGovernorEvaluation unprocessed s = .next t) : t.mem = s.mem ∧ t.staging = s.staging := by
  refine done_stores h ?_
  simp

theorem execPlanHalted_stores (s t : State) (h : execPlanHalted s = .next t) :
    t.mem = s.mem ∧ t.staging = s.staging := by
  refine done_stores h ?_
  simp

theorem execQpConfig_stores (v : Via) (value : Bytes) (s t : State) (h : execQpConfig v value s = .next t) :
    t.mem = s.mem ∧ t.staging = s.staging := by
  refine done_stores h ?_
  simp

theorem execQpReset_stores (v : Via) (value : Nat) (s t : State) (h : execQpReset v value s = .next t) :
    t.mem = s.mem ∧ t.staging = s.staging := by
  refine done_stores h ?_
  simp

theorem execQpRetryTimeout_stores (qp : Nat) (s t : State) (h : execQpRetryTimeout qp s = .next t) :
    t.mem = s.mem ∧ t.staging = s.staging := by
  refine onUnit_stores h ?_
  simp

theorem execEthFrame_stores (ingress : Nat) (frame : EthFrame) (s t : State)
    (h : execEthFrame ingress frame s = .next t) : t.mem = s.mem ∧ t.staging = s.staging := by
  refine onUnit_stores h ?_
  simp

theorem execTxSak_stores (v : Via) (ingress : Nat) (value : Bytes) (s t : State)
    (h : execTxSak v ingress value s = .next t) : t.mem = s.mem ∧ t.staging = s.staging := by
  refine onUnit_stores h ?_
  simp

theorem execRxSak_stores (v : Via) (ingress : Nat) (value : Bytes) (s t : State)
    (h : execRxSak v ingress value s = .next t) : t.mem = s.mem ∧ t.staging = s.staging := by
  refine onUnit_stores h ?_
  simp

theorem execIngressLinkChange_stores (ingress : Nat) (up : Bool) (s t : State)
    (h : execIngressLinkChange ingress up s = .next t) : t.mem = s.mem ∧ t.staging = s.staging := by
  refine onUnit_stores h ?_
  simp

theorem execFunctionReset_stores (kind : FunctionReset) (s t : State)
    (h : execFunctionReset kind s = .next t) : t.mem = s.mem ∧ t.staging = s.staging := by
  cases kind <;> exact done_stores h (by simp)

theorem execPcieLinkChange_stores (state rate width : Nat) (s t : State)
    (h : execPcieLinkChange state rate width s = .next t) : t.mem = s.mem ∧ t.staging = s.staging := by
  refine onUnit_stores h ?_
  simp

theorem execIdeKmExchange_stores (active : Bool) (s t : State) (h : execIdeKmExchange active s = .next t) :
    t.mem = s.mem ∧ t.staging = s.staging := by
  refine done_stores h ?_
  simp

theorem execClaim_stores (node : Nat) (chainIn : Bool) (s t : State)
    (h : execClaim node chainIn s = .next t) : t.mem = s.mem ∧ t.staging = s.staging := by
  refine done_stores h ?_
  simp

theorem execConfirm_stores (node : Nat) (serial : Bytes) (s t : State)
    (h : execConfirm node serial s = .next t) : t.mem = s.mem ∧ t.staging = s.staging := by
  refine done_stores h ?_
  simp

theorem execClaimTimeout_stores (s t : State) (h : execClaimTimeout s = .next t) :
    t.mem = s.mem ∧ t.staging = s.staging := by
  refine done_stores h ?_
  simp

theorem execDeviceIdWrite_stores (v : Via) (value : Nat) (s t : State)
    (h : execDeviceIdWrite v value s = .next t) : t.mem = s.mem ∧ t.staging = s.staging := by
  refine done_stores h ?_
  simp

theorem execNoticeRaise_stores (code cls source : Nat) (payload : Bytes) (s t : State)
    (h : execNoticeRaise code cls source payload s = .next t) : t.mem = s.mem ∧ t.staging = s.staging := by
  refine onUnit_stores h ?_
  simp

theorem execNoticeSendChain_stores (s t : State) (h : execNoticeSendChain s = .next t) :
    t.mem = s.mem ∧ t.staging = s.staging := by
  refine done_stores h ?_
  simp

theorem execNoticeRingWrite_stores (ok : Bool) (s t : State) (h : execNoticeRingWrite ok s = .next t) :
    t.mem = s.mem ∧ t.staging = s.staging := by
  refine done_stores h ?_
  simp

theorem execRingControl_stores (value : Nat) (s t : State) (h : execRingControl value s = .next t) :
    t.mem = s.mem ∧ t.staging = s.staging := by
  refine done_stores h ?_
  simp

theorem execWriteSegmentTimeout_stores (v : Via) (s t : State) (h : execWriteSegmentTimeout v s = .next t) :
    t.mem = s.mem ∧ t.staging = s.staging := by
  refine done_stores h ?_
  simp

end Sys2Proof.Machine
end

