-- ==== Sys2Proof/Laws/Loader.lean ====
section
/-! SUPPORT. What the loader's verdict says of a plan that passes (R141, R187, R275, R288, R293). -/

namespace Sys2Proof.Machine

theorem firstOf_eq_none {l : List Refusal3} {n : Nat} : firstOf l n = none ↔ ∀ e ∈ l, e.1 ≠ n := by
  simp [firstOf, List.find?_eq_none]

/-- A list of checks with no refusal names none. -/
theorem none_of_findSome {l : List (Option Refusal3)} (h : l.findSome? id = none) (x : Option Refusal3) (hx : x ∈ l) :
    x = none := by
  simpa using List.findSome?_eq_none_iff.mp h x hx

theorem need_eq_none {ok : Bool} {cause site : Nat} : need ok cause site = none ↔ ok = true := by
  unfold need unless_
  split <;> simp_all

/-- The simulation's refusals stand among the loader's checks. -/
theorem planFaults_passes {s : State} {i : Image} {q : Placed} {regions : List Region} {x : Schedule}
    (h : (s.planFaults i q regions x).findSome? id = none) (n : Nat) (hn : n ∈ [2, 8, 9, 10, 11, 12, 13]) :
    ∀ e ∈ (s.loadOf i q regions x).scheduleFaults, e.1 ≠ n := by
  rw [← firstOf_eq_none]
  refine none_of_findSome h _ ?_
  unfold State.planFaults
  simp only [List.mem_cons, List.not_mem_nil, or_false] at hn
  rcases hn with rfl | rfl | rfl | rfl | rfl | rfl | rfl <;> simp

/-- A plan that passes is placed, and its segments meet no refusal of the simulation. -/
theorem judgeImage_passes {s : State} {i : Image} {x : Schedule} {p : Plan} (h : s.judgeImage i x = .inr p) :
    ∃ q regions, s.place i = some q ∧ i.placeRegions q i.placeOrder [] = .inr regions ∧
      ∀ n, n ∈ [2, 8, 9, 10, 11, 12, 13] → ∀ e ∈ (s.loadOf i q regions x).scheduleFaults, e.1 ≠ n := by
  unfold State.judgeImage at h
  split at h
  · cases h
  · split at h
    · cases h
    · next q hq =>
      split at h
      · cases h
      · next regions hr =>
        split at h
        · cases h
        · next hf => exact ⟨q, regions, hq, hr, planFaults_passes hf⟩

variable {y : Load} {r : Pace}

/-- A check of a core that fails is a refusal of the simulation. -/
theorem coreFault_reported (hr : r ∈ y.paces) {c : Nat × Sim} (hc : c ∈ r.sims) {e : Refusal3}
    (he : some e ∈ y.coreFaults false r c) : e ∈ y.scheduleFaults := by
  unfold Load.scheduleFaults
  refine List.mem_append_left _ (List.mem_append_left _ (List.mem_append_right _ ?_))
  refine List.mem_flatMap.mpr ⟨r, hr, List.mem_filterMap.mpr ⟨some e, List.mem_append_left _ ?_, rfl⟩⟩
  exact List.mem_flatMap.mpr ⟨c, hc, he⟩

theorem sharedFault_reported (hr : r ∈ y.paces) {e : Refusal3} (he : some e ∈ y.sharedFaults false r) :
    e ∈ y.scheduleFaults := by
  unfold Load.scheduleFaults
  refine List.mem_append_left _ (List.mem_append_left _ (List.mem_append_right _ ?_))
  exact List.mem_flatMap.mpr ⟨r, hr, List.mem_filterMap.mpr ⟨some e, List.mem_append_right _ he, rfl⟩⟩

/-- A named check of a core holds where the simulation refuses nothing with its cause. -/
theorem need_holds (hr : r ∈ y.paces) {c : Nat × Sim} (hc : c ∈ r.sims) {ok : Bool} {cause site : Nat}
    (hn : ∀ e ∈ y.scheduleFaults, e.1 ≠ cause) (hx : need ok cause site ∈ y.coreFaults false r c) : ok = true := by
  by_contra hk
  have : need ok cause site = some (cause, rcRangeError, site) := by simp [need, unless_, hk]
  exact hn _ (coreFault_reported hr hc (this ▸ hx)) rfl

/-- No hod of a core is popped empty or pushed full, and all end empty (R141, R142). -/
theorem hods_kept (h : ∀ n, n ∈ [2, 8, 9, 10, 11, 12, 13] → ∀ e ∈ y.scheduleFaults, e.1 ≠ n) (hr : r ∈ y.paces)
    {c : Nat × Sim} (hc : c ∈ r.sims) :
    ∃ left, hodsRun (y.coreUses false (r.events.filter fun e => e.core == c.1)) = some left ∧
      left.all (·.isEmpty) = true := by
  have h9 := need_holds (ok := hodAlone (y.coreUses false (r.events.filter fun e => e.core == c.1)) &&
      (hodsRun (y.coreUses false (r.events.filter fun e => e.core == c.1))).isSome &&
      (r.events.filter fun e => e.core == c.1).all
        (scratchKept (y.coreUses false (r.events.filter fun e => e.core == c.1))))
    hr hc (h 9 (by simp)) (site := y.coreSite c.1) (by simp [Load.coreFaults])
  have h11 := need_holds (ok := ((hodsRun (y.coreUses false (r.events.filter fun e => e.core == c.1))).getD []).all
        (·.isEmpty) &&
      (y.coreUses false (r.events.filter fun e => e.core == c.1)).all fun u => decide (u.cycle < r.horizon))
    hr hc (h 11 (by simp)) (site := y.coreSite c.1) (by simp [Load.coreFaults])
  simp only [Bool.and_eq_true] at h9 h11
  obtain ⟨left, hl⟩ := Option.isSome_iff_exists.mp h9.1.2
  exact ⟨left, hl, by simpa [hl] using h11.1⟩

/-- No bank gives more granules in a cycle than its width (R187). -/
theorem banks_kept (h : ∀ n, n ∈ [2, 8, 9, 10, 11, 12, 13] → ∀ e ∈ y.scheduleFaults, e.1 ≠ n) (hr : r ∈ y.paces) :
    overloaded y.site.regions (y.traffic false r).demands = none := by
  by_contra hk
  obtain ⟨d, hd⟩ := Option.ne_none_iff_exists'.mp hk
  exact h 10 (by simp) _ (sharedFault_reported hr (e := (10, rcRangeError, d.site))
    (by simp [Load.sharedFaults, hd])) rfl

/-- No access takes longer than its assumed latency and its slack (R287, R288). -/
theorem latencies_kept (h : ∀ n, n ∈ [2, 8, 9, 10, 11, 12, 13] → ∀ e ∈ y.scheduleFaults, e.1 ≠ n) (hr : r ∈ y.paces)
    (e : Event × Lat) (he : e ∈ y.latencies r) : e.2.exceeds = false := by
  by_contra hk
  have hs : (y.beyondSlack r).isSome = true := by
    unfold Load.beyondSlack
    rw [Option.isSome_map, List.find?_isSome]
    exact ⟨e, he, by simpa using hk⟩
  have hx : (y.paces.findSome? y.beyondSlack).isSome = true := List.findSome?_isSome_iff.mpr ⟨r, hr, hs⟩
  obtain ⟨f, hf⟩ := Option.isSome_iff_exists.mp hx
  refine h 12 (by simp) f ?_ ?_
  · unfold Load.scheduleFaults
    exact List.mem_append_left _ (List.mem_append_right _ (by simp [hf]))
  · obtain ⟨t, -, ht⟩ := List.exists_of_findSome?_eq_some hf
    unfold Load.beyondSlack at ht
    obtain ⟨a, -, rfl⟩ := Option.map_eq_some_iff.mp ht
    rfl

end Sys2Proof.Machine
end

