-- ==== Sys2Proof/Laws/Pops.lean ====
section
/-! SUPPORT. Pops that find enough entries: what an instruction goes on with, and that pops and pushes leave the queue of
waiting commands alone. -/

namespace Sys2Proof.Machine

@[simp] theorem State.popped_pending (s : State) (core h n : Nat) : (s.popped core h n).pending = s.pending := rfl

/-- A pop that finds enough entries goes on with the oldest. -/
theorem popping_holds {s : State} {core h n : Nat} {k : List Bytes → State → State} (hn : s.holds core h n = true) :
    s.popping core h n k = k (s.front core h n) (s.popped core h n) := by
  simp only [State.holds, decide_eq_true_eq] at hn
  unfold State.popping State.pop
  dsimp only
  rw [if_neg (by omega)]
  rfl

/-- A lane vector's codes and flags. -/
theorem lanesIn_holds {s : State} {q : Issue} {h fmt : Nat} {k : List Nat → Nat → State → State}
    (hn : s.holds q.core h (laneEntries fmt) = true) :
    s.lanesIn q h fmt k =
      let u := s.popped q.core h (laneEntries fmt)
      let x := widenAll (u.vFlush q.core) fmt (s.front q.core h (laneEntries fmt))
      k x.1 x.2 u := by
  unfold State.lanesIn
  rw [popping_holds hn]

/-- Operand B of a V instruction. -/
theorem lanesB_takes {s v : State} {q : Issue} {g : Fields} {b : List Nat} {fl : Nat}
    {k : List Nat → Nat → State → State} (h : s.takesB q g v b fl) : s.lanesB q g k = k b fl v := by
  obtain ⟨⟨h0, hB, rfl, rfl, rfl⟩ | ⟨h0, hB, rfl, rfl, rfl⟩⟩ := h
  · unfold State.lanesB
    rw [if_neg (by simp [h0]), lanesIn_holds hB]
  · unfold State.lanesB
    rw [if_pos h0, popping_holds hB]

theorem leBytes_length (n v : Nat) : (leBytes n v).length = n := by
  induction n generalizing v with
  | zero => rfl
  | succ n ih => simp [leBytes, ih]

/-- A sum has no more bytes than what is added. -/
theorem accBytes_length (fmt : Nat) (old new : Bytes) : (accBytes fmt old new).length ≤ new.length := by
  have h : ∀ w : Nat, ∀ g : Nat → Nat, (((List.range (new.length / w)).map fun i => leBytes w (g i)).flatMap id).length ≤
      new.length := by
    intro w g
    simp only [List.flatMap_id, List.length_flatten, List.map_map]
    rw [show List.length ∘ (fun i => leBytes w (g i)) = fun _ => w from funext fun i => leBytes_length w _]
    simp only [List.map_const', List.length_range, List.sum_replicate, smul_eq_mul]
    exact Nat.div_mul_le_self _ _
  exact h _ _

/-- Chunks of lanes. -/
theorem chunksIn_holds {s : State} {q : Issue} {h fmt c : Nat} {k : List (List Nat) → Nat → State → State}
    (hn : s.holds q.core h (c * laneEntries fmt) = true) :
    s.chunksIn q h fmt c k =
      let u := s.popped q.core h (c * laneEntries fmt)
      let x := chunksOf (u.vFlush q.core) fmt c (s.front q.core h (c * laneEntries fmt))
      k x.1 x.2 u := by
  unfold State.chunksIn
  rw [popping_holds hn]
  rfl

/-- An instruction that its queue runs issues in plan work. -/
theorem State.issues_of_runs {s : State} {q : Issue} (h : s.queueHeld q = false) : s.issues = true := by
  unfold State.queueHeld at h
  simp only [Bool.or_eq_false_iff, Bool.not_eq_false'] at h
  exact h.1.1.1

/-- Plan work is in a plan that runs. -/
theorem State.running_of_issues {s : State} (h : s.issues = true) : s.prog.running = true := by
  unfold State.issues Progress.works at h
  simp only [Bool.and_eq_true] at h
  exact h.1.1

/-- An abandoned substitution leaves the plan's progress as it is. -/
@[simp] theorem State.abandon_prog (s : State) (c r n : Nat) : (s.abandon c r n).prog = s.prog := by
  unfold State.abandon
  dsimp only
  split <;> simp

/-- A retirement that becomes pending leaves the plan's progress as it is. -/
@[simp] theorem State.pendRetirement_prog (s : State) (c : Nat) : (s.pendRetirement c).prog = s.prog := by
  unfold State.pendRetirement
  dsimp only
  (repeat' split) <;> simp

/-- A core's hard fault leaves the plan's progress as it is. -/
@[simp] theorem State.coreFault_prog (s : State) (c : Nat) : (s.coreFault c).prog = s.prog := by
  unfold State.coreFault
  dsimp only
  (repeat' split) <;> simp

/-- A hard fault leaves the plan's progress as it is: the plan stops at the next boundary. -/
@[simp] theorem State.hardFault_prog (s : State) (kind unit : Nat) : (s.hardFault kind unit).prog = s.prog := by
  have h : ∀ u : State, (if kind = 1 then u.coreFault unit else if kind = 2 then u.pendRetirement unit else u).prog =
      u.prog := fun u => by split <;> [simp; (split <;> simp)]
  have k : ∀ (u : State) (x : Nat × Nat × Nat) (a : NoticeKind) (b : Nat) (c : Bytes), (if u.prog.running then
      { u with start := { u.start with hard := u.start.hard ++ [x] } } else u.notice a b c).prog = u.prog :=
    fun u x a b c => by split <;> simp
  unfold State.hardFault State.noticeHard
  exact (k _ _ _ _ _).trans ((h _).trans (by simp))

/-- With a plan running, an error that a memory code finds changes no stored byte before the plan stops. -/
theorem State.eccFound_mem_running (s : State) (a n : Nat) (e : Ecc) (k : Nat) (h : s.prog.running = true) :
    (s.eccFound a n e k).mem = s.mem := by
  unfold State.eccFound
  split
  · rfl
  · simp
  · split
    · unfold State.uncorrectableAt State.countUncorrectable
      dsimp only
      (repeat' split) <;> simp_all
    · rfl

end Sys2Proof.Machine
end

