-- ==== Sys2Proof/Laws/Queue.lean ====
section
/-! SUPPORT. For every command: the queue of waiting commands is as it was, and how the command can end. -/

namespace Sys2Proof.Machine

/-- A command ends in a next state or in one of two refusals. -/
def Ends (o : Host.Outcome State Fault Refusal) : Prop :=
  (∃ t, o = .next t) ∨ (∃ m, o = .refused (.invalidInstruction m)) ∨ (∃ m, o = .refused (.noSuchUnit m))

theorem done_ends (s t : State) : Ends (s.done t) := .inl ⟨_, rfl⟩

theorem onUnit_ends (s : State) (m : String) (ok : Bool) (t : State) : Ends (s.onUnit m ok t) := by
  unfold State.onUnit
  split
  · exact done_ends _ _
  · exact .inr (.inr ⟨_, rfl⟩)

theorem instr_ends (s : State) (m : String) (op : Nat) (q : Issue) (f : Fields) (sh : Shape) (ok : Fields → Bool)
    (eff : Fields → State → State) : Ends (s.instr m op q f sh ok eff) := by
  unfold State.instr
  extract_lets g
  split
  · exact done_ends _ _
  · exact .inr (.inl ⟨_, rfl⟩)

theorem execNop_pending (q : Issue) (f : Fields) (s t : State) (h : execNop q f s = .next t) :
    t.pending = s.pending :=
  instr_pending h

theorem execNop_ends (q : Issue) (f : Fields) (s : State) : Ends (execNop q f s) :=
  instr_ends _ _ _ _ _ _ _ _

theorem execWait_pending (q : Issue) (f : Fields) (s t : State) (h : execWait q f s = .next t) :
    t.pending = s.pending :=
  instr_pending h

theorem execWait_ends (q : Issue) (f : Fields) (s : State) : Ends (execWait q f s) :=
  instr_ends _ _ _ _ _ _ _ _

theorem execPlumb_pending (q : Issue) (f : Fields) (s t : State) (h : execPlumb q f s = .next t) :
    t.pending = s.pending :=
  instr_pending h

theorem execPlumb_ends (q : Issue) (f : Fields) (s : State) : Ends (execPlumb q f s) :=
  instr_ends _ _ _ _ _ _ _ _

theorem execPlumbRelease_pending (core : Nat) (arrival : PlumbMark) (s t : State)
    (h : execPlumbRelease core arrival s = .next t) : t.pending = s.pending :=
  onUnit_pending h

theorem execPlumbRelease_ends (core : Nat) (arrival : PlumbMark) (s : State) :
    Ends (execPlumbRelease core arrival s) :=
  onUnit_ends _ _ _ _

theorem execRet_pending (q : Issue) (f : Fields) (s t : State) (h : execRet q f s = .next t) :
    t.pending = s.pending :=
  instr_pending h

theorem execRet_ends (q : Issue) (f : Fields) (s : State) : Ends (execRet q f s) :=
  instr_ends _ _ _ _ _ _ _ _

theorem execEndBundle_pending (q : Issue) (f : Fields) (s t : State) (h : execEndBundle q f s = .next t) :
    t.pending = s.pending :=
  instr_pending h

theorem execEndBundle_ends (q : Issue) (f : Fields) (s : State) : Ends (execEndBundle q f s) :=
  instr_ends _ _ _ _ _ _ _ _

theorem execBundleStart_pending (core queue : Nat) (s t : State)
    (h : execBundleStart core queue s = .next t) : t.pending = s.pending :=
  onUnit_pending h

theorem execBundleStart_ends (core queue : Nat) (s : State) : Ends (execBundleStart core queue s) :=
  onUnit_ends _ _ _ _

theorem execRel_pending (q : Issue) (f : Fields) (s t : State) (h : execRel q f s = .next t) :
    t.pending = s.pending :=
  instr_pending h

theorem execRel_ends (q : Issue) (f : Fields) (s : State) : Ends (execRel q f s) :=
  instr_ends _ _ _ _ _ _ _ _

theorem execLp_pending (q : Issue) (f : Fields) (s t : State) (h : execLp q f s = .next t) :
    t.pending = s.pending :=
  instr_pending h

theorem execLp_ends (q : Issue) (f : Fields) (s : State) : Ends (execLp q f s) :=
  instr_ends _ _ _ _ _ _ _ _

theorem execSetCount_pending (q : Issue) (f : Fields) (s t : State) (h : execSetCount q f s = .next t) :
    t.pending = s.pending :=
  instr_pending h

theorem execSetCount_ends (q : Issue) (f : Fields) (s : State) : Ends (execSetCount q f s) :=
  instr_ends _ _ _ _ _ _ _ _

theorem execAddc_pending (q : Issue) (f : Fields) (s t : State) (h : execAddc q f s = .next t) :
    t.pending = s.pending :=
  instr_pending h

theorem execAddc_ends (q : Issue) (f : Fields) (s : State) : Ends (execAddc q f s) :=
  instr_ends _ _ _ _ _ _ _ _

theorem execKset_pending (q : Issue) (f : Fields) (s t : State) (h : execKset q f s = .next t) :
    t.pending = s.pending :=
  instr_pending h

theorem execKset_ends (q : Issue) (f : Fields) (s : State) : Ends (execKset q f s) :=
  instr_ends _ _ _ _ _ _ _ _

theorem execBk_pending (q : Issue) (f : Fields) (s t : State) (h : execBk q f s = .next t) :
    t.pending = s.pending :=
  instr_pending h

theorem execBk_ends (q : Issue) (f : Fields) (s : State) : Ends (execBk q f s) :=
  instr_ends _ _ _ _ _ _ _ _

theorem execWcrs_pending (q : Issue) (f : Fields) (s t : State) (h : execWcrs q f s = .next t) :
    t.pending = s.pending :=
  instr_pending h

theorem execWcrs_ends (q : Issue) (f : Fields) (s : State) : Ends (execWcrs q f s) :=
  instr_ends _ _ _ _ _ _ _ _

theorem execAo_pending (q : Issue) (f : Fields) (s t : State) (h : execAo q f s = .next t) :
    t.pending = s.pending :=
  instr_pending h

theorem execAo_ends (q : Issue) (f : Fields) (s : State) : Ends (execAo q f s) :=
  instr_ends _ _ _ _ _ _ _ _

theorem execTwait_pending (q : Issue) (f : Fields) (s t : State) (h : execTwait q f s = .next t) :
    t.pending = s.pending :=
  instr_pending h

theorem execTwait_ends (q : Issue) (f : Fields) (s : State) : Ends (execTwait q f s) :=
  instr_ends _ _ _ _ _ _ _ _

theorem execLvw_pending (q : Issue) (f : Fields) (s t : State) (h : execLvw q f s = .next t) :
    t.pending = s.pending :=
  instr_pending h

theorem execLvw_ends (q : Issue) (f : Fields) (s : State) : Ends (execLvw q f s) :=
  instr_ends _ _ _ _ _ _ _ _

theorem execEngineFlagsClear_pending (v : Via) (cluster position engine value raised : Nat) (s t : State)
    (h : execEngineFlagsClear v cluster position engine value raised s = .next t) : t.pending = s.pending :=
  onUnit_pending h

theorem execEngineFlagsClear_ends (v : Via) (cluster position engine value raised : Nat) (s : State) :
    Ends (execEngineFlagsClear v cluster position engine value raised s) :=
  onUnit_ends _ _ _ _

theorem execClearAllFlags_pending (v : Via) (value : Nat) (raised : List (Nat × Nat)) (s t : State)
    (h : execClearAllFlags v value raised s = .next t) : t.pending = s.pending :=
  onUnit_pending h

theorem execClearAllFlags_ends (v : Via) (value : Nat) (raised : List (Nat × Nat)) (s : State) :
    Ends (execClearAllFlags v value raised s) :=
  onUnit_ends _ _ _ _

theorem execAddLane_pending (q : Issue) (f : Fields) (s t : State) (h : execAddLane q f s = .next t) :
    t.pending = s.pending :=
  instr_pending h

theorem execAddLane_ends (q : Issue) (f : Fields) (s : State) : Ends (execAddLane q f s) :=
  instr_ends _ _ _ _ _ _ _ _

theorem execSubLane_pending (q : Issue) (f : Fields) (s t : State) (h : execSubLane q f s = .next t) :
    t.pending = s.pending :=
  instr_pending h

theorem execSubLane_ends (q : Issue) (f : Fields) (s : State) : Ends (execSubLane q f s) :=
  instr_ends _ _ _ _ _ _ _ _

theorem execMulLane_pending (q : Issue) (f : Fields) (s t : State) (h : execMulLane q f s = .next t) :
    t.pending = s.pending :=
  instr_pending h

theorem execMulLane_ends (q : Issue) (f : Fields) (s : State) : Ends (execMulLane q f s) :=
  instr_ends _ _ _ _ _ _ _ _

theorem execFma_pending (q : Issue) (f : Fields) (s t : State) (h : execFma q f s = .next t) :
    t.pending = s.pending :=
  instr_pending h

theorem execFma_ends (q : Issue) (f : Fields) (s : State) : Ends (execFma q f s) :=
  instr_ends _ _ _ _ _ _ _ _

theorem execDivLane_pending (q : Issue) (f : Fields) (s t : State) (h : execDivLane q f s = .next t) :
    t.pending = s.pending :=
  instr_pending h

theorem execDivLane_ends (q : Issue) (f : Fields) (s : State) : Ends (execDivLane q f s) :=
  instr_ends _ _ _ _ _ _ _ _

theorem execSqrt_pending (q : Issue) (f : Fields) (s t : State) (h : execSqrt q f s = .next t) :
    t.pending = s.pending :=
  instr_pending h

theorem execSqrt_ends (q : Issue) (f : Fields) (s : State) : Ends (execSqrt q f s) :=
  instr_ends _ _ _ _ _ _ _ _

theorem execMinLane_pending (q : Issue) (f : Fields) (s t : State) (h : execMinLane q f s = .next t) :
    t.pending = s.pending :=
  instr_pending h

theorem execMinLane_ends (q : Issue) (f : Fields) (s : State) : Ends (execMinLane q f s) :=
  instr_ends _ _ _ _ _ _ _ _

theorem execMaxLane_pending (q : Issue) (f : Fields) (s t : State) (h : execMaxLane q f s = .next t) :
    t.pending = s.pending :=
  instr_pending h

theorem execMaxLane_ends (q : Issue) (f : Fields) (s : State) : Ends (execMaxLane q f s) :=
  instr_ends _ _ _ _ _ _ _ _

theorem execFn_pending (q : Issue) (f : Fields) (s t : State) (h : execFn q f s = .next t) :
    t.pending = s.pending :=
  instr_pending h

theorem execFn_ends (q : Issue) (f : Fields) (s : State) : Ends (execFn q f s) :=
  instr_ends _ _ _ _ _ _ _ _

theorem execTbl_pending (q : Issue) (f : Fields) (s t : State) (h : execTbl q f s = .next t) :
    t.pending = s.pending :=
  instr_pending h

theorem execTbl_ends (q : Issue) (f : Fields) (s : State) : Ends (execTbl q f s) :=
  instr_ends _ _ _ _ _ _ _ _

theorem execRed_pending (q : Issue) (f : Fields) (s t : State) (h : execRed q f s = .next t) :
    t.pending = s.pending :=
  instr_pending h

theorem execRed_ends (q : Issue) (f : Fields) (s : State) : Ends (execRed q f s) :=
  instr_ends _ _ _ _ _ _ _ _

theorem execSqa_pending (q : Issue) (f : Fields) (s t : State) (h : execSqa q f s = .next t) :
    t.pending = s.pending :=
  instr_pending h

theorem execSqa_ends (q : Issue) (f : Fields) (s : State) : Ends (execSqa q f s) :=
  instr_ends _ _ _ _ _ _ _ _

theorem execRot_pending (q : Issue) (f : Fields) (s t : State) (h : execRot q f s = .next t) :
    t.pending = s.pending :=
  instr_pending h

theorem execRot_ends (q : Issue) (f : Fields) (s : State) : Ends (execRot q f s) :=
  instr_ends _ _ _ _ _ _ _ _

theorem execAmax_pending (q : Issue) (f : Fields) (s t : State) (h : execAmax q f s = .next t) :
    t.pending = s.pending :=
  instr_pending h

theorem execAmax_ends (q : Issue) (f : Fields) (s : State) : Ends (execAmax q f s) :=
  instr_ends _ _ _ _ _ _ _ _

theorem execTopk_pending (q : Issue) (f : Fields) (s t : State) (h : execTopk q f s = .next t) :
    t.pending = s.pending :=
  instr_pending h

theorem execTopk_ends (q : Issue) (f : Fields) (s : State) : Ends (execTopk q f s) :=
  instr_ends _ _ _ _ _ _ _ _

theorem execRng_pending (q : Issue) (f : Fields) (s t : State) (h : execRng q f s = .next t) :
    t.pending = s.pending :=
  instr_pending h

theorem execRng_ends (q : Issue) (f : Fields) (s : State) : Ends (execRng q f s) :=
  instr_ends _ _ _ _ _ _ _ _

theorem execCvt_pending (q : Issue) (f : Fields) (s t : State) (h : execCvt q f s = .next t) :
    t.pending = s.pending :=
  instr_pending h

theorem execCvt_ends (q : Issue) (f : Fields) (s : State) : Ends (execCvt q f s) :=
  instr_ends _ _ _ _ _ _ _ _

theorem execDup_pending (q : Issue) (f : Fields) (s t : State) (h : execDup q f s = .next t) :
    t.pending = s.pending :=
  instr_pending h

theorem execDup_ends (q : Issue) (f : Fields) (s : State) : Ends (execDup q f s) :=
  instr_ends _ _ _ _ _ _ _ _

theorem execSuspensionEnd_pending (s t : State) (h : execSuspensionEnd s = .next t) :
    t.pending = s.pending :=
  done_pending h

theorem execSuspensionEnd_ends (s : State) : Ends (execSuspensionEnd s) :=
  done_ends _ _

theorem execTileVerdict_pending (core engine : Nat) (s t : State)
    (h : execTileVerdict core engine s = .next t) : t.pending = s.pending :=
  onUnit_pending h

theorem execTileVerdict_ends (core engine : Nat) (s : State) : Ends (execTileVerdict core engine s) :=
  onUnit_ends _ _ _ _

theorem execFmode_pending (q : Issue) (f : Fields) (s t : State) (h : execFmode q f s = .next t) :
    t.pending = s.pending :=
  instr_pending h

theorem execFmode_ends (q : Issue) (f : Fields) (s : State) : Ends (execFmode q f s) :=
  instr_ends _ _ _ _ _ _ _ _

theorem execTset_pending (q : Issue) (f : Fields) (s t : State) (h : execTset q f s = .next t) :
    t.pending = s.pending :=
  instr_pending h

theorem execTset_ends (q : Issue) (f : Fields) (s : State) : Ends (execTset q f s) :=
  instr_ends _ _ _ _ _ _ _ _

theorem execTfill_pending (q : Issue) (f : Fields) (batch : Option Nat) (err : Errors) (s t : State)
    (h : execTfill q f batch err s = .next t) : t.pending = s.pending :=
  instr_pending h

theorem execTfill_ends (q : Issue) (f : Fields) (batch : Option Nat) (err : Errors) (s : State) :
    Ends (execTfill q f batch err s) :=
  instr_ends _ _ _ _ _ _ _ _

theorem execMma_pending (q : Issue) (f : Fields) (batch : Option Nat) (s t : State)
    (h : execMma q f batch s = .next t) : t.pending = s.pending :=
  instr_pending h

theorem execMma_ends (q : Issue) (f : Fields) (batch : Option Nat) (s : State) :
    Ends (execMma q f batch s) :=
  instr_ends _ _ _ _ _ _ _ _

theorem execVrd_pending (q : Issue) (f : Fields) (s t : State) (h : execVrd q f s = .next t) :
    t.pending = s.pending :=
  instr_pending h

theorem execVrd_ends (q : Issue) (f : Fields) (s : State) : Ends (execVrd q f s) :=
  instr_ends _ _ _ _ _ _ _ _

theorem execLd_pending (q : Issue) (f : Fields) (ecc : Ecc) (s t : State) (h : execLd q f ecc s = .next t) :
    t.pending = s.pending :=
  instr_pending h

theorem execLd_ends (q : Issue) (f : Fields) (ecc : Ecc) (s : State) : Ends (execLd q f ecc s) :=
  instr_ends _ _ _ _ _ _ _ _

theorem execSt_pending (q : Issue) (f : Fields) (s t : State) (h : execSt q f s = .next t) :
    t.pending = s.pending :=
  instr_pending h

theorem execSt_ends (q : Issue) (f : Fields) (s : State) : Ends (execSt q f s) :=
  instr_ends _ _ _ _ _ _ _ _

theorem execSta_pending (q : Issue) (f : Fields) (s t : State) (h : execSta q f s = .next t) :
    t.pending = s.pending :=
  instr_pending h

theorem execSta_ends (q : Issue) (f : Fields) (s : State) : Ends (execSta q f s) :=
  instr_ends _ _ _ _ _ _ _ _

theorem execLdi_pending (q : Issue) (f : Fields) (ecc : Ecc) (s t : State)
    (h : execLdi q f ecc s = .next t) : t.pending = s.pending :=
  instr_pending h

theorem execLdi_ends (q : Issue) (f : Fields) (ecc : Ecc) (s : State) : Ends (execLdi q f ecc s) :=
  instr_ends _ _ _ _ _ _ _ _

theorem execSti_pending (q : Issue) (f : Fields) (s t : State) (h : execSti q f s = .next t) :
    t.pending = s.pending :=
  instr_pending h

theorem execSti_ends (q : Issue) (f : Fields) (s : State) : Ends (execSti q f s) :=
  instr_ends _ _ _ _ _ _ _ _

theorem execWcol_pending (q : Issue) (f : Fields) (s t : State) (h : execWcol q f s = .next t) :
    t.pending = s.pending :=
  instr_pending h

theorem execWcol_ends (q : Issue) (f : Fields) (s : State) : Ends (execWcol q f s) :=
  instr_ends _ _ _ _ _ _ _ _

theorem execWrow_pending (q : Issue) (f : Fields) (s t : State) (h : execWrow q f s = .next t) :
    t.pending = s.pending :=
  instr_pending h

theorem execWrow_ends (q : Issue) (f : Fields) (s : State) : Ends (execWrow q f s) :=
  instr_ends _ _ _ _ _ _ _ _

theorem execFill_pending (q : Issue) (f : Fields) (s t : State) (h : execFill q f s = .next t) :
    t.pending = s.pending :=
  instr_pending h

theorem execFill_ends (q : Issue) (f : Fields) (s : State) : Ends (execFill q f s) :=
  instr_ends _ _ _ _ _ _ _ _

theorem execCopy_pending (q : Issue) (f : Fields) (err : Errors) (s t : State)
    (h : execCopy q f err s = .next t) : t.pending = s.pending :=
  instr_pending h

theorem execCopy_ends (q : Issue) (f : Fields) (err : Errors) (s : State) : Ends (execCopy q f err s) :=
  instr_ends _ _ _ _ _ _ _ _

theorem execScrubStep_pending (unit : StoreUnit) (bank : Nat) (claimed : Bool) (ecc : Ecc) (s t : State)
    (h : execScrubStep unit bank claimed ecc s = .next t) : t.pending = s.pending :=
  onUnit_pending h

theorem execScrubStep_ends (unit : StoreUnit) (bank : Nat) (claimed : Bool) (ecc : Ecc) (s : State) :
    Ends (execScrubStep unit bank claimed ecc s) :=
  onUnit_ends _ _ _ _

theorem execSnd_pending (q : Issue) (f : Fields) (s t : State) (h : execSnd q f s = .next t) :
    t.pending = s.pending :=
  instr_pending h

theorem execSnd_ends (q : Issue) (f : Fields) (s : State) : Ends (execSnd q f s) :=
  instr_ends _ _ _ _ _ _ _ _

theorem execSndt_pending (q : Issue) (f : Fields) (err : Errors) (s t : State)
    (h : execSndt q f err s = .next t) : t.pending = s.pending :=
  instr_pending h

theorem execSndt_ends (q : Issue) (f : Fields) (err : Errors) (s : State) : Ends (execSndt q f err s) :=
  instr_ends _ _ _ _ _ _ _ _

theorem execDue_pending (q : Issue) (f : Fields) (s t : State) (h : execDue q f s = .next t) :
    t.pending = s.pending :=
  instr_pending h

theorem execDue_ends (q : Issue) (f : Fields) (s : State) : Ends (execDue q f s) :=
  instr_ends _ _ _ _ _ _ _ _

theorem execLoadGeneration_pending (v : Via) (value : Nat) (s t : State)
    (h : execLoadGeneration v value s = .next t) : t.pending = s.pending :=
  done_pending h

theorem execLoadGeneration_ends (v : Via) (value : Nat) (s : State) :
    Ends (execLoadGeneration v value s) :=
  done_ends _ _

theorem execLoadAdapter_pending (v : Via) (value : Nat) (s t : State)
    (h : execLoadAdapter v value s = .next t) : t.pending = s.pending :=
  done_pending h

theorem execLoadAdapter_ends (v : Via) (value : Nat) (s : State) : Ends (execLoadAdapter v value s) :=
  done_ends _ _

theorem execCreditSend_pending (s t : State) (h : execCreditSend s = .next t) : t.pending = s.pending :=
  done_pending h

theorem execCreditSend_ends (s : State) : Ends (execCreditSend s) :=
  done_ends _ _

theorem execLoadAbort_pending (v : Via) (value : Nat) (s t : State)
    (h : execLoadAbort v value s = .next t) : t.pending = s.pending :=
  done_pending h

theorem execLoadAbort_ends (v : Via) (value : Nat) (s : State) : Ends (execLoadAbort v value s) :=
  done_ends _ _

theorem execWeightRecord_pending (s t : State) (h : execWeightRecord s = .next t) :
    t.pending = s.pending :=
  done_pending h

theorem execWeightRecord_ends (s : State) : Ends (execWeightRecord s) :=
  done_ends _ _

theorem execCreditMessage_pending (message : Bytes) (s t : State)
    (h : execCreditMessage message s = .next t) : t.pending = s.pending :=
  done_pending h

theorem execCreditMessage_ends (message : Bytes) (s : State) : Ends (execCreditMessage message s) :=
  done_ends _ _

theorem execSwitchCourse_pending (v : Via) (value : Nat) (s t : State)
    (h : execSwitchCourse v value s = .next t) : t.pending = s.pending :=
  done_pending h

theorem execSwitchCourse_ends (v : Via) (value : Nat) (s : State) : Ends (execSwitchCourse v value s) :=
  done_ends _ _

theorem execGenerationSwitch_pending (s t : State) (h : execGenerationSwitch s = .next t) :
    t.pending = s.pending :=
  done_pending h

theorem execGenerationSwitch_ends (s : State) : Ends (execGenerationSwitch s) :=
  done_ends _ _

theorem execGenerationDiscard_pending (v : Via) (value : Nat) (s t : State)
    (h : execGenerationDiscard v value s = .next t) : t.pending = s.pending :=
  done_pending h

theorem execGenerationDiscard_ends (v : Via) (value : Nat) (s : State) :
    Ends (execGenerationDiscard v value s) :=
  done_ends _ _

theorem execAdapterUnload_pending (v : Via) (value : Nat) (s t : State)
    (h : execAdapterUnload v value s = .next t) : t.pending = s.pending :=
  done_pending h

theorem execAdapterUnload_ends (v : Via) (value : Nat) (s : State) : Ends (execAdapterUnload v value s) :=
  done_ends _ _

theorem execReferenceInvalid_pending (s t : State) (h : execReferenceInvalid s = .next t) :
    t.pending = s.pending :=
  done_pending h

theorem execReferenceInvalid_ends (s : State) : Ends (execReferenceInvalid s) :=
  done_ends _ _

theorem execCourseSourceWrite_pending (v : Via) (value : Nat) (s t : State)
    (h : execCourseSourceWrite v value s = .next t) : t.pending = s.pending :=
  done_pending h

theorem execCourseSourceWrite_ends (v : Via) (value : Nat) (s : State) :
    Ends (execCourseSourceWrite v value s) :=
  done_ends _ _

theorem execCourseLoad_pending (v : Via) (value : Nat) (s t : State)
    (h : execCourseLoad v value s = .next t) : t.pending = s.pending :=
  done_pending h

theorem execCourseLoad_ends (v : Via) (value : Nat) (s : State) : Ends (execCourseLoad v value s) :=
  done_ends _ _

theorem execCourseMark_pending (port mark : Nat) (phase8 : Int) (s t : State)
    (h : execCourseMark port mark phase8 s = .next t) : t.pending = s.pending :=
  onUnit_pending h

theorem execCourseMark_ends (port mark : Nat) (phase8 : Int) (s : State) :
    Ends (execCourseMark port mark phase8 s) :=
  onUnit_ends _ _ _ _

theorem execParentReselect_pending (s t : State) (h : execParentReselect s = .next t) :
    t.pending = s.pending :=
  done_pending h

theorem execParentReselect_ends (s : State) : Ends (execParentReselect s) :=
  done_ends _ _

theorem execCourseHoldover_pending (s t : State) (h : execCourseHoldover s = .next t) :
    t.pending = s.pending :=
  done_pending h

theorem execCourseHoldover_ends (s : State) : Ends (execCourseHoldover s) :=
  done_ends _ _

theorem execCourseLocked_pending (s t : State) (h : execCourseLocked s = .next t) :
    t.pending = s.pending :=
  done_pending h

theorem execCourseLocked_ends (s : State) : Ends (execCourseLocked s) :=
  done_ends _ _

theorem execSourceReturn_pending (count : Nat) (phase8 : Int) (s t : State)
    (h : execSourceReturn count phase8 s = .next t) : t.pending = s.pending :=
  done_pending h

theorem execSourceReturn_ends (count : Nat) (phase8 : Int) (s : State) :
    Ends (execSourceReturn count phase8 s) :=
  done_ends _ _

theorem execPhaseStep_pending (s t : State) (h : execPhaseStep s = .next t) : t.pending = s.pending :=
  done_pending h

theorem execPhaseStep_ends (s : State) : Ends (execPhaseStep s) :=
  done_ends _ _

theorem execLeadCourse_pending (s t : State) (h : execLeadCourse s = .next t) : t.pending = s.pending :=
  done_pending h

theorem execLeadCourse_ends (s : State) : Ends (execLeadCourse s) :=
  done_ends _ _

theorem execRestCourse_pending (s t : State) (h : execRestCourse s = .next t) : t.pending = s.pending :=
  done_pending h

theorem execRestCourse_ends (s : State) : Ends (execRestCourse s) :=
  done_ends _ _

theorem execLaunchRefused_pending (s t : State) (h : execLaunchRefused s = .next t) :
    t.pending = s.pending :=
  done_pending h

theorem execLaunchRefused_ends (s : State) : Ends (execLaunchRefused s) :=
  done_ends _ _

theorem execPointingResend_pending (port : Nat) (s t : State) (h : execPointingResend port s = .next t) :
    t.pending = s.pending :=
  onUnit_pending h

theorem execPointingResend_ends (port : Nat) (s : State) : Ends (execPointingResend port s) :=
  onUnit_ends _ _ _ _

theorem execSignalArrival_pending (packet : Nat) (s t : State) (h : execSignalArrival packet s = .next t) :
    t.pending = s.pending :=
  onUnit_pending h

theorem execSignalArrival_ends (packet : Nat) (s : State) : Ends (execSignalArrival packet s) :=
  onUnit_ends _ _ _ _

theorem execTsig_pending (q : Issue) (f : Fields) (s t : State) (h : execTsig q f s = .next t) :
    t.pending = s.pending :=
  instr_pending h

theorem execTsig_ends (q : Issue) (f : Fields) (s : State) : Ends (execTsig q f s) :=
  instr_ends _ _ _ _ _ _ _ _

theorem execLevelArrival_pending (packet : Nat) (s t : State) (h : execLevelArrival packet s = .next t) :
    t.pending = s.pending :=
  onUnit_pending h

theorem execLevelArrival_ends (packet : Nat) (s : State) : Ends (execLevelArrival packet s) :=
  onUnit_ends _ _ _ _

theorem execLevelRelease_pending (packet : Nat) (s t : State) (h : execLevelRelease packet s = .next t) :
    t.pending = s.pending :=
  onUnit_pending h

theorem execLevelRelease_ends (packet : Nat) (s : State) : Ends (execLevelRelease packet s) :=
  onUnit_ends _ _ _ _

theorem execLva_pending (q : Issue) (f : Fields) (s t : State) (h : execLva q f s = .next t) :
    t.pending = s.pending :=
  instr_pending h

theorem execLva_ends (q : Issue) (f : Fields) (s : State) : Ends (execLva q f s) :=
  instr_ends _ _ _ _ _ _ _ _

theorem execPointingMessage_pending (port lane word : Nat) (s t : State)
    (h : execPointingMessage port lane word s = .next t) : t.pending = s.pending :=
  onUnit_pending h

theorem execPointingMessage_ends (port lane word : Nat) (s : State) :
    Ends (execPointingMessage port lane word s) :=
  onUnit_ends _ _ _ _

theorem execPointingHousekeeping_pending (fits : Bool) (s t : State)
    (h : execPointingHousekeeping fits s = .next t) : t.pending = s.pending :=
  done_pending h

theorem execPointingHousekeeping_ends (fits : Bool) (s : State) : Ends (execPointingHousekeeping fits s) :=
  done_ends _ _

theorem execFlitReceived_pending (port lane slot : Nat) (flit : Bytes) (fecOk : Bool) (corrected : Nat)
    (s t : State) (h : execFlitReceived port lane slot flit fecOk corrected s = .next t) : t.pending = s.pending :=
  onUnit_pending h

theorem execFlitReceived_ends (port lane slot : Nat) (flit : Bytes) (fecOk : Bool) (corrected : Nat)
    (s : State) : Ends (execFlitReceived port lane slot flit fecOk corrected s) :=
  onUnit_ends _ _ _ _

theorem execLateFlitWrite_pending (port : Nat) (s t : State) (h : execLateFlitWrite port s = .next t) :
    t.pending = s.pending :=
  onUnit_pending h

theorem execLateFlitWrite_ends (port : Nat) (s : State) : Ends (execLateFlitWrite port s) :=
  onUnit_ends _ _ _ _

theorem execLinkReport_pending (port lane word : Nat) (s t : State)
    (h : execLinkReport port lane word s = .next t) : t.pending = s.pending :=
  onUnit_pending h

theorem execLinkReport_ends (port lane word : Nat) (s : State) : Ends (execLinkReport port lane word s) :=
  onUnit_ends _ _ _ _

theorem execReportTimeout_pending (port lane course : Nat) (s t : State)
    (h : execReportTimeout port lane course s = .next t) : t.pending = s.pending :=
  onUnit_pending h

theorem execReportTimeout_ends (port lane course : Nat) (s : State) :
    Ends (execReportTimeout port lane course s) :=
  onUnit_ends _ _ _ _

theorem execLinkRetry_pending (port lane : Nat) (s t : State) (h : execLinkRetry port lane s = .next t) :
    t.pending = s.pending :=
  onUnit_pending h

theorem execLinkRetry_ends (port lane : Nat) (s : State) : Ends (execLinkRetry port lane s) :=
  onUnit_ends _ _ _ _

theorem execRelayForward_pending (port route flitIndex egress lane slot : Nat) (s t : State)
    (h : execRelayForward port route flitIndex egress lane slot s = .next t) : t.pending = s.pending :=
  onUnit_pending h

theorem execRelayForward_ends (port route flitIndex egress lane slot : Nat) (s : State) :
    Ends (execRelayForward port route flitIndex egress lane slot s) :=
  onUnit_ends _ _ _ _

theorem execLaneDown_pending (port lane cause : Nat) (s t : State)
    (h : execLaneDown port lane cause s = .next t) : t.pending = s.pending :=
  onUnit_pending h

theorem execLaneDown_ends (port lane cause : Nat) (s : State) : Ends (execLaneDown port lane cause s) :=
  onUnit_ends _ _ _ _

theorem execLaneRetrainDone_pending (port lane : Nat) (full ok : Bool) (s t : State)
    (h : execLaneRetrainDone port lane full ok s = .next t) : t.pending = s.pending :=
  onUnit_pending h

theorem execLaneRetrainDone_ends (port lane : Nat) (full ok : Bool) (s : State) :
    Ends (execLaneRetrainDone port lane full ok s) :=
  onUnit_ends _ _ _ _

theorem execRetrain_pending (v : Via) (port value : Nat) (s t : State)
    (h : execRetrain v port value s = .next t) : t.pending = s.pending :=
  onUnit_pending h

theorem execRetrain_ends (v : Via) (port value : Nat) (s : State) : Ends (execRetrain v port value s) :=
  onUnit_ends _ _ _ _

theorem execPartnerChange_pending (port deviceId partnerPort : Nat) (s t : State)
    (h : execPartnerChange port deviceId partnerPort s = .next t) : t.pending = s.pending :=
  onUnit_pending h

theorem execPartnerChange_ends (port deviceId partnerPort : Nat) (s : State) :
    Ends (execPartnerChange port deviceId partnerPort s) :=
  onUnit_ends _ _ _ _

theorem execTrainingPhase_pending (port word : Nat) (s t : State)
    (h : execTrainingPhase port word s = .next t) : t.pending = s.pending :=
  onUnit_pending h

theorem execTrainingPhase_ends (port word : Nat) (s : State) : Ends (execTrainingPhase port word s) :=
  onUnit_ends _ _ _ _

theorem execTrainingTimeout_pending (port : Nat) (s t : State) (h : execTrainingTimeout port s = .next t) :
    t.pending = s.pending :=
  onUnit_pending h

theorem execTrainingTimeout_ends (port : Nat) (s : State) : Ends (execTrainingTimeout port s) :=
  onUnit_ends _ _ _ _

theorem execPortRoleMismatch_pending (port partnerRole partnerDevice : Nat) (s t : State)
    (h : execPortRoleMismatch port partnerRole partnerDevice s = .next t) : t.pending = s.pending :=
  onUnit_pending h

theorem execPortRoleMismatch_ends (port partnerRole partnerDevice : Nat) (s : State) :
    Ends (execPortRoleMismatch port partnerRole partnerDevice s) :=
  onUnit_ends _ _ _ _

theorem execDelayProbe_pending (port roundTrip8 turnaround8 : Nat) (s t : State)
    (h : execDelayProbe port roundTrip8 turnaround8 s = .next t) : t.pending = s.pending :=
  onUnit_pending h

theorem execDelayProbe_ends (port roundTrip8 turnaround8 : Nat) (s : State) :
    Ends (execDelayProbe port roundTrip8 turnaround8 s) :=
  onUnit_ends _ _ _ _

theorem execEdgeBlockFailure_pending (edge : Nat) (s t : State)
    (h : execEdgeBlockFailure edge s = .next t) : t.pending = s.pending :=
  onUnit_pending h

theorem execEdgeBlockFailure_ends (edge : Nat) (s : State) : Ends (execEdgeBlockFailure edge s) :=
  onUnit_ends _ _ _ _

theorem execEdgeRetrain_pending (edge : Nat) (s t : State) (h : execEdgeRetrain edge s = .next t) :
    t.pending = s.pending :=
  onUnit_pending h

theorem execEdgeRetrain_ends (edge : Nat) (s : State) : Ends (execEdgeRetrain edge s) :=
  onUnit_ends _ _ _ _

theorem execEdgeLossOfLock_pending (edge : Nat) (s t : State) (h : execEdgeLossOfLock edge s = .next t) :
    t.pending = s.pending :=
  onUnit_pending h

theorem execEdgeLossOfLock_ends (edge : Nat) (s : State) : Ends (execEdgeLossOfLock edge s) :=
  onUnit_ends _ _ _ _

theorem execEdgeRetrainDone_pending (edge : Nat) (s t : State) (h : execEdgeRetrainDone edge s = .next t) :
    t.pending = s.pending :=
  onUnit_pending h

theorem execEdgeRetrainDone_ends (edge : Nat) (s : State) : Ends (execEdgeRetrainDone edge s) :=
  onUnit_ends _ _ _ _

theorem execSlotClearingDone_pending (slot : Nat) (s t : State)
    (h : execSlotClearingDone slot s = .next t) : t.pending = s.pending :=
  onUnit_pending h

theorem execSlotClearingDone_ends (slot : Nat) (s : State) : Ends (execSlotClearingDone slot s) :=
  onUnit_ends _ _ _ _

theorem execSlotStampingDone_pending (slot : Nat) (s t : State)
    (h : execSlotStampingDone slot s = .next t) : t.pending = s.pending :=
  onUnit_pending h

theorem execSlotStampingDone_ends (slot : Nat) (s : State) : Ends (execSlotStampingDone slot s) :=
  onUnit_ends _ _ _ _

theorem execHandoffSwap_pending (cluster : Nat) (s t : State) (h : execHandoffSwap cluster s = .next t) :
    t.pending = s.pending :=
  onUnit_pending h

theorem execHandoffSwap_ends (cluster : Nat) (s : State) : Ends (execHandoffSwap cluster s) :=
  onUnit_ends _ _ _ _

theorem execTrowelFault_pending (cluster cause : Nat) (s t : State)
    (h : execTrowelFault cluster cause s = .next t) : t.pending = s.pending :=
  onUnit_pending h

theorem execTrowelFault_ends (cluster cause : Nat) (s : State) : Ends (execTrowelFault cluster cause s) :=
  onUnit_ends _ _ _ _

theorem execTrowelRestartDone_pending (cluster : Nat) (s t : State)
    (h : execTrowelRestartDone cluster s = .next t) : t.pending = s.pending :=
  onUnit_pending h

theorem execTrowelRestartDone_ends (cluster : Nat) (s : State) : Ends (execTrowelRestartDone cluster s) :=
  onUnit_ends _ _ _ _

theorem execBankSwap_pending (s t : State) (h : execBankSwap s = .next t) : t.pending = s.pending :=
  done_pending h

theorem execBankSwap_ends (s : State) : Ends (execBankSwap s) :=
  done_ends _ _

theorem execSwapArm_pending (v : Via) (value : Nat) (s t : State) (h : execSwapArm v value s = .next t) :
    t.pending = s.pending :=
  done_pending h

theorem execSwapArm_ends (v : Via) (value : Nat) (s : State) : Ends (execSwapArm v value s) :=
  done_ends _ _

theorem execQuoinCourse_pending (s t : State) (h : execQuoinCourse s = .next t) : t.pending = s.pending :=
  done_pending h

theorem execQuoinCourse_ends (s : State) : Ends (execQuoinCourse s) :=
  done_ends _ _

theorem execCorrectedThreshold_pending (cluster position : Nat) (s t : State)
    (h : execCorrectedThreshold cluster position s = .next t) : t.pending = s.pending :=
  onUnit_pending h

theorem execCorrectedThreshold_ends (cluster position : Nat) (s : State) :
    Ends (execCorrectedThreshold cluster position s) :=
  onUnit_ends _ _ _ _

theorem execSubstituteCore_pending (v : Via) (value : Nat) (s t : State)
    (h : execSubstituteCore v value s = .next t) : t.pending = s.pending :=
  done_pending h

theorem execSubstituteCore_ends (v : Via) (value : Nat) (s : State) :
    Ends (execSubstituteCore v value s) :=
  done_ends _ _

theorem execMaintenanceMicrostep_pending (cluster bytes : Nat) (s t : State)
    (h : execMaintenanceMicrostep cluster bytes s = .next t) : t.pending = s.pending :=
  onUnit_pending h

theorem execMaintenanceMicrostep_ends (cluster bytes : Nat) (s : State) :
    Ends (execMaintenanceMicrostep cluster bytes s) :=
  onUnit_ends _ _ _ _

theorem execSubstitutionRegisterCopy_pending (cluster : Nat) (fits : Bool) (s t : State)
    (h : execSubstitutionRegisterCopy cluster fits s = .next t) : t.pending = s.pending :=
  onUnit_pending h

theorem execSubstitutionRegisterCopy_ends (cluster : Nat) (fits : Bool) (s : State) :
    Ends (execSubstitutionRegisterCopy cluster fits s) :=
  onUnit_ends _ _ _ _

theorem execSubstitutionSwap_pending (cluster : Nat) (s t : State)
    (h : execSubstitutionSwap cluster s = .next t) : t.pending = s.pending :=
  onUnit_pending h

theorem execSubstitutionSwap_ends (cluster : Nat) (s : State) : Ends (execSubstitutionSwap cluster s) :=
  onUnit_ends _ _ _ _

theorem execSpareFault_pending (cluster : Nat) (s t : State) (h : execSpareFault cluster s = .next t) :
    t.pending = s.pending :=
  onUnit_pending h

theorem execSpareFault_ends (cluster : Nat) (s : State) : Ends (execSpareFault cluster s) :=
  onUnit_ends _ _ _ _

theorem execRetireCluster_pending (v : Via) (value : Nat) (s t : State)
    (h : execRetireCluster v value s = .next t) : t.pending = s.pending :=
  done_pending h

theorem execRetireCluster_ends (v : Via) (value : Nat) (s : State) : Ends (execRetireCluster v value s) :=
  done_ends _ _

theorem execCallRoutine_pending (q : Issue) (f : Fields) (s t : State)
    (h : execCallRoutine q f s = .next t) : t.pending = s.pending :=
  instr_pending h

theorem execCallRoutine_ends (q : Issue) (f : Fields) (s : State) : Ends (execCallRoutine q f s) :=
  instr_ends _ _ _ _ _ _ _ _

theorem execBar2Write_pending (offset : Nat) (data : Bytes) (s t : State)
    (h : execBar2Write offset data s = .next t) : t.pending = s.pending :=
  done_pending h

theorem execBar2Write_ends (offset : Nat) (data : Bytes) (s : State) :
    Ends (execBar2Write offset data s) :=
  done_ends _ _

theorem execPlanLoad_pending (v : Via) (value : Nat) (s t : State) (h : execPlanLoad v value s = .next t) :
    t.pending = s.pending :=
  done_pending h

theorem execPlanLoad_ends (v : Via) (value : Nat) (s : State) : Ends (execPlanLoad v value s) :=
  done_ends _ _

theorem execPlanLoaderDone_pending (schedule : Schedule) (s t : State)
    (h : execPlanLoaderDone schedule s = .next t) : t.pending = s.pending :=
  done_pending h

theorem execPlanLoaderDone_ends (schedule : Schedule) (s : State) : Ends (execPlanLoaderDone schedule s) :=
  done_ends _ _

theorem execPlanDiscard_pending (v : Via) (value : Nat) (s t : State)
    (h : execPlanDiscard v value s = .next t) : t.pending = s.pending :=
  done_pending h

theorem execPlanDiscard_ends (v : Via) (value : Nat) (s : State) : Ends (execPlanDiscard v value s) :=
  done_ends _ _

theorem execPlanHalt_pending (v : Via) (value : Nat) (s t : State) (h : execPlanHalt v value s = .next t) :
    t.pending = s.pending :=
  done_pending h

theorem execPlanHalt_ends (v : Via) (value : Nat) (s : State) : Ends (execPlanHalt v value s) :=
  done_ends _ _

theorem execUnitMapChange_pending (s t : State) (h : execUnitMapChange s = .next t) :
    t.pending = s.pending :=
  done_pending h

theorem execUnitMapChange_ends (s : State) : Ends (execUnitMapChange s) :=
  done_ends _ _

theorem execTokenRecord_pending (record : Bytes) (s t : State) (h : execTokenRecord record s = .next t) :
    t.pending = s.pending :=
  done_pending h

theorem execTokenRecord_ends (record : Bytes) (s : State) : Ends (execTokenRecord record s) :=
  done_ends _ _

theorem execRecordSend_pending (qp : Nat) (s t : State) (h : execRecordSend qp s = .next t) :
    t.pending = s.pending :=
  onUnit_pending h

theorem execRecordSend_ends (qp : Nat) (s : State) : Ends (execRecordSend qp s) :=
  onUnit_ends _ _ _ _

theorem execDescriptor_pending (qp : Nat) (message : Bytes) (s t : State)
    (h : execDescriptor qp message s = .next t) : t.pending = s.pending :=
  onUnit_pending h

theorem execDescriptor_ends (qp : Nat) (message : Bytes) (s : State) :
    Ends (execDescriptor qp message s) :=
  onUnit_ends _ _ _ _

theorem execBatchBuild_pending (s t : State) (h : execBatchBuild s = .next t) : t.pending = s.pending :=
  done_pending h

theorem execBatchBuild_ends (s : State) : Ends (execBatchBuild s) :=
  done_ends _ _

theorem execOrderBatch_pending (qp : Nat) (message : Bytes) (s t : State)
    (h : execOrderBatch qp message s = .next t) : t.pending = s.pending :=
  onUnit_pending h

theorem execOrderBatch_ends (qp : Nat) (message : Bytes) (s : State) :
    Ends (execOrderBatch qp message s) :=
  onUnit_ends _ _ _ _

theorem execOrderApply_pending (s t : State) (h : execOrderApply s = .next t) : t.pending = s.pending :=
  done_pending h

theorem execOrderApply_ends (s : State) : Ends (execOrderApply s) :=
  done_ends _ _

theorem execAbortReport_pending (qp : Nat) (message : Bytes) (s t : State)
    (h : execAbortReport qp message s = .next t) : t.pending = s.pending :=
  onUnit_pending h

theorem execAbortReport_ends (qp : Nat) (message : Bytes) (s : State) :
    Ends (execAbortReport qp message s) :=
  onUnit_ends _ _ _ _

theorem execBondReport_pending (qp : Nat) (message : Bytes) (s t : State)
    (h : execBondReport qp message s = .next t) : t.pending = s.pending :=
  onUnit_pending h

theorem execBondReport_ends (qp : Nat) (message : Bytes) (s : State) :
    Ends (execBondReport qp message s) :=
  onUnit_ends _ _ _ _

theorem execGovernorEvaluation_pending (unprocessed : Nat) (s t : State)
    (h : execGovernorEvaluation unprocessed s = .next t) : t.pending = s.pending :=
  done_pending h

theorem execGovernorEvaluation_ends (unprocessed : Nat) (s : State) :
    Ends (execGovernorEvaluation unprocessed s) :=
  done_ends _ _

theorem execPlanHalted_pending (s t : State) (h : execPlanHalted s = .next t) : t.pending = s.pending :=
  done_pending h

theorem execPlanHalted_ends (s : State) : Ends (execPlanHalted s) :=
  done_ends _ _

theorem execSensorSample_pending (fits : Bool) (reading : Sensors) (s t : State)
    (h : execSensorSample fits reading s = .next t) : t.pending = s.pending :=
  done_pending h

theorem execSensorSample_ends (fits : Bool) (reading : Sensors) (s : State) :
    Ends (execSensorSample fits reading s) :=
  done_ends _ _

theorem execCoolantFlowLow_pending (s t : State) (h : execCoolantFlowLow s = .next t) :
    t.pending = s.pending :=
  done_pending h

theorem execCoolantFlowLow_ends (s : State) : Ends (execCoolantFlowLow s) :=
  done_ends _ _

theorem execPowerRequest_pending (v : Via) (value : Nat) (s t : State)
    (h : execPowerRequest v value s = .next t) : t.pending = s.pending :=
  done_pending h

theorem execPowerRequest_ends (v : Via) (value : Nat) (s : State) : Ends (execPowerRequest v value s) :=
  done_ends _ _

theorem execPowerTransitionStart_pending (s t : State) (h : execPowerTransitionStart s = .next t) :
    t.pending = s.pending :=
  done_pending h

theorem execPowerTransitionStart_ends (s : State) : Ends (execPowerTransitionStart s) :=
  done_ends _ _

theorem execPowerTransitionDone_pending (s t : State) (h : execPowerTransitionDone s = .next t) :
    t.pending = s.pending :=
  done_pending h

theorem execPowerTransitionDone_ends (s : State) : Ends (execPowerTransitionDone s) :=
  done_ends _ _

theorem execSleepEntry_pending (s t : State) (h : execSleepEntry s = .next t) : t.pending = s.pending :=
  done_pending h

theorem execSleepEntry_ends (s : State) : Ends (execSleepEntry s) :=
  done_ends _ _

theorem execThermalShutdown_pending (s t : State) (h : execThermalShutdown s = .next t) :
    t.pending = s.pending :=
  done_pending h

theorem execThermalShutdown_ends (s : State) : Ends (execThermalShutdown s) :=
  done_ends _ _

theorem execOverVoltage_pending (s t : State) (h : execOverVoltage s = .next t) : t.pending = s.pending :=
  done_pending h

theorem execOverVoltage_ends (s : State) : Ends (execOverVoltage s) :=
  done_ends _ _

theorem execPwrGoodDeassert_pending (s t : State) (h : execPwrGoodDeassert s = .next t) :
    t.pending = s.pending :=
  done_pending h

theorem execPwrGoodDeassert_ends (s : State) : Ends (execPwrGoodDeassert s) :=
  done_ends _ _

theorem execSupplyLow_pending (lowest : Nat) (s t : State) (h : execSupplyLow lowest s = .next t) :
    t.pending = s.pending :=
  done_pending h

theorem execSupplyLow_ends (lowest : Nat) (s : State) : Ends (execSupplyLow lowest s) :=
  done_ends _ _

theorem execPowerLoss_pending (s t : State) (h : execPowerLoss s = .next t) : t.pending = s.pending :=
  done_pending h

theorem execPowerLoss_ends (s : State) : Ends (execPowerLoss s) :=
  done_ends _ _

theorem execWakeAtCourse_pending (s t : State) (h : execWakeAtCourse s = .next t) :
    t.pending = s.pending :=
  done_pending h

theorem execWakeAtCourse_ends (s : State) : Ends (execWakeAtCourse s) :=
  done_ends _ _

theorem execChainWakeFrame_pending (dest : Nat) (frame : Bytes) (s t : State)
    (h : execChainWakeFrame dest frame s = .next t) : t.pending = s.pending :=
  done_pending h

theorem execChainWakeFrame_ends (dest : Nat) (frame : Bytes) (s : State) :
    Ends (execChainWakeFrame dest frame s) :=
  done_ends _ _

theorem execWakeNLow_pending (s t : State) (h : execWakeNLow s = .next t) : t.pending = s.pending :=
  done_pending h

theorem execWakeNLow_ends (s : State) : Ends (execWakeNLow s) :=
  done_ends _ _

theorem execSupplyReturn_pending (s t : State) (h : execSupplyReturn s = .next t) :
    t.pending = s.pending :=
  done_pending h

theorem execSupplyReturn_ends (s : State) : Ends (execSupplyReturn s) :=
  done_ends _ _

theorem execSleepTempEvent_pending (s t : State) (h : execSleepTempEvent s = .next t) :
    t.pending = s.pending :=
  done_pending h

theorem execSleepTempEvent_ends (s : State) : Ends (execSleepTempEvent s) :=
  done_ends _ _

theorem execTileReread_pending (consumer : Consumer) (err : Errors) (s t : State)
    (h : execTileReread consumer err s = .next t) : t.pending = s.pending :=
  done_pending h

theorem execTileReread_ends (consumer : Consumer) (err : Errors) (s : State) :
    Ends (execTileReread consumer err s) :=
  done_ends _ _

theorem execRepairRequest_pending (port : Nat) (granule : Bytes) (s t : State)
    (h : execRepairRequest port granule s = .next t) : t.pending = s.pending :=
  onUnit_pending h

theorem execRepairRequest_ends (port : Nat) (granule : Bytes) (s : State) :
    Ends (execRepairRequest port granule s) :=
  onUnit_ends _ _ _ _

theorem execRepairTile_pending (granule tile : Bytes) (s t : State)
    (h : execRepairTile granule tile s = .next t) : t.pending = s.pending :=
  done_pending h

theorem execRepairTile_ends (granule tile : Bytes) (s : State) : Ends (execRepairTile granule tile s) :=
  done_ends _ _

theorem execRepairTimeout_pending (s t : State) (h : execRepairTimeout s = .next t) :
    t.pending = s.pending :=
  done_pending h

theorem execRepairTimeout_ends (s : State) : Ends (execRepairTimeout s) :=
  done_ends _ _

theorem execNoRepairSource_pending (s t : State) (h : execNoRepairSource s = .next t) :
    t.pending = s.pending :=
  done_pending h

theorem execNoRepairSource_ends (s : State) : Ends (execNoRepairSource s) :=
  done_ends _ _

theorem execDamageReport_pending (qp : Nat) (message : Bytes) (s t : State)
    (h : execDamageReport qp message s = .next t) : t.pending = s.pending :=
  onUnit_pending h

theorem execDamageReport_ends (qp : Nat) (message : Bytes) (s : State) :
    Ends (execDamageReport qp message s) :=
  onUnit_ends _ _ _ _

theorem execClearWithheld_pending (v : Via) (value : Nat) (s t : State)
    (h : execClearWithheld v value s = .next t) : t.pending = s.pending :=
  done_pending h

theorem execClearWithheld_ends (v : Via) (value : Nat) (s : State) : Ends (execClearWithheld v value s) :=
  done_ends _ _

theorem execHardFault_pending (kind unit : Nat) (s t : State) (h : execHardFault kind unit s = .next t) :
    t.pending = s.pending :=
  onUnit_pending h

theorem execHardFault_ends (kind unit : Nat) (s : State) : Ends (execHardFault kind unit s) :=
  onUnit_ends _ _ _ _

theorem execPlanStop_pending (s t : State) (h : execPlanStop s = .next t) : t.pending = s.pending :=
  done_pending h

theorem execPlanStop_ends (s : State) : Ends (execPlanStop s) :=
  done_ends _ _

theorem execStoreStuck_pending (address : Nat) (s t : State) (h : execStoreStuck address s = .next t) :
    t.pending = s.pending :=
  onUnit_pending h

theorem execStoreStuck_ends (address : Nat) (s : State) : Ends (execStoreStuck address s) :=
  onUnit_ends _ _ _ _

theorem execIngressRecord_pending (qp window : Nat) (record : Bytes) (s t : State)
    (h : execIngressRecord qp window record s = .next t) : t.pending = s.pending :=
  onUnit_pending h

theorem execIngressRecord_ends (qp window : Nat) (record : Bytes) (s : State) :
    Ends (execIngressRecord qp window record s) :=
  onUnit_ends _ _ _ _

theorem execQpConfig_pending (v : Via) (value : Bytes) (s t : State)
    (h : execQpConfig v value s = .next t) : t.pending = s.pending :=
  done_pending h

theorem execQpConfig_ends (v : Via) (value : Bytes) (s : State) : Ends (execQpConfig v value s) :=
  done_ends _ _

theorem execQpReset_pending (v : Via) (value : Nat) (s t : State) (h : execQpReset v value s = .next t) :
    t.pending = s.pending :=
  done_pending h

theorem execQpReset_ends (v : Via) (value : Nat) (s : State) : Ends (execQpReset v value s) :=
  done_ends _ _

theorem execQpRetryTimeout_pending (qp : Nat) (s t : State) (h : execQpRetryTimeout qp s = .next t) :
    t.pending = s.pending :=
  onUnit_pending h

theorem execQpRetryTimeout_ends (qp : Nat) (s : State) : Ends (execQpRetryTimeout qp s) :=
  onUnit_ends _ _ _ _

theorem execRdmaWrite_pending (qp address rkey : Nat) (data : Bytes) (s t : State)
    (h : execRdmaWrite qp address rkey data s = .next t) : t.pending = s.pending :=
  onUnit_pending h

theorem execRdmaWrite_ends (qp address rkey : Nat) (data : Bytes) (s : State) :
    Ends (execRdmaWrite qp address rkey data s) :=
  onUnit_ends _ _ _ _

theorem execRocePacket_pending (ingress qpn : Nat) (op : RoceOp) (icrcOk ce : Bool) (s t : State)
    (h : execRocePacket ingress qpn op icrcOk ce s = .next t) : t.pending = s.pending :=
  onUnit_pending h

theorem execRocePacket_ends (ingress qpn : Nat) (op : RoceOp) (icrcOk ce : Bool) (s : State) :
    Ends (execRocePacket ingress qpn op icrcOk ce s) :=
  onUnit_ends _ _ _ _

theorem execEthFrame_pending (ingress : Nat) (frame : EthFrame) (s t : State)
    (h : execEthFrame ingress frame s = .next t) : t.pending = s.pending :=
  onUnit_pending h

theorem execEthFrame_ends (ingress : Nat) (frame : EthFrame) (s : State) :
    Ends (execEthFrame ingress frame s) :=
  onUnit_ends _ _ _ _

theorem execTxSak_pending (v : Via) (ingress : Nat) (value : Bytes) (s t : State)
    (h : execTxSak v ingress value s = .next t) : t.pending = s.pending :=
  onUnit_pending h

theorem execTxSak_ends (v : Via) (ingress : Nat) (value : Bytes) (s : State) :
    Ends (execTxSak v ingress value s) :=
  onUnit_ends _ _ _ _

theorem execRxSak_pending (v : Via) (ingress : Nat) (value : Bytes) (s t : State)
    (h : execRxSak v ingress value s = .next t) : t.pending = s.pending :=
  onUnit_pending h

theorem execRxSak_ends (v : Via) (ingress : Nat) (value : Bytes) (s : State) :
    Ends (execRxSak v ingress value s) :=
  onUnit_ends _ _ _ _

theorem execIngressLinkChange_pending (ingress : Nat) (up : Bool) (s t : State)
    (h : execIngressLinkChange ingress up s = .next t) : t.pending = s.pending :=
  onUnit_pending h

theorem execIngressLinkChange_ends (ingress : Nat) (up : Bool) (s : State) :
    Ends (execIngressLinkChange ingress up s) :=
  onUnit_ends _ _ _ _

theorem execFunctionReset_pending (kind : FunctionReset) (s t : State)
    (h : execFunctionReset kind s = .next t) : t.pending = s.pending := by
  cases kind <;> exact done_pending h

theorem execFunctionReset_ends (kind : FunctionReset) (s : State) : Ends (execFunctionReset kind s) := by
  cases kind <;> exact done_ends _ _

theorem execPcieLinkChange_pending (state rate width : Nat) (s t : State)
    (h : execPcieLinkChange state rate width s = .next t) : t.pending = s.pending :=
  onUnit_pending h

theorem execPcieLinkChange_ends (state rate width : Nat) (s : State) :
    Ends (execPcieLinkChange state rate width s) :=
  onUnit_ends _ _ _ _

theorem execIdeKmExchange_pending (active : Bool) (s t : State) (h : execIdeKmExchange active s = .next t) :
    t.pending = s.pending :=
  done_pending h

theorem execIdeKmExchange_ends (active : Bool) (s : State) : Ends (execIdeKmExchange active s) :=
  done_ends _ _

theorem execClaim_pending (node : Nat) (chainIn : Bool) (s t : State)
    (h : execClaim node chainIn s = .next t) : t.pending = s.pending :=
  done_pending h

theorem execClaim_ends (node : Nat) (chainIn : Bool) (s : State) : Ends (execClaim node chainIn s) :=
  done_ends _ _

theorem execConfirm_pending (node : Nat) (serial : Bytes) (s t : State)
    (h : execConfirm node serial s = .next t) : t.pending = s.pending :=
  done_pending h

theorem execConfirm_ends (node : Nat) (serial : Bytes) (s : State) : Ends (execConfirm node serial s) :=
  done_ends _ _

theorem execClaimTimeout_pending (s t : State) (h : execClaimTimeout s = .next t) :
    t.pending = s.pending :=
  done_pending h

theorem execClaimTimeout_ends (s : State) : Ends (execClaimTimeout s) :=
  done_ends _ _

theorem execDeviceIdWrite_pending (v : Via) (value : Nat) (s t : State)
    (h : execDeviceIdWrite v value s = .next t) : t.pending = s.pending :=
  done_pending h

theorem execDeviceIdWrite_ends (v : Via) (value : Nat) (s : State) : Ends (execDeviceIdWrite v value s) :=
  done_ends _ _

theorem execNoticeRaise_pending (code cls source : Nat) (payload : Bytes) (s t : State)
    (h : execNoticeRaise code cls source payload s = .next t) : t.pending = s.pending :=
  onUnit_pending h

theorem execNoticeRaise_ends (code cls source : Nat) (payload : Bytes) (s : State) :
    Ends (execNoticeRaise code cls source payload s) :=
  onUnit_ends _ _ _ _

theorem execNoticeSendChain_pending (s t : State) (h : execNoticeSendChain s = .next t) :
    t.pending = s.pending :=
  done_pending h

theorem execNoticeSendChain_ends (s : State) : Ends (execNoticeSendChain s) :=
  done_ends _ _

theorem execNoticeRingWrite_pending (ok : Bool) (s t : State) (h : execNoticeRingWrite ok s = .next t) :
    t.pending = s.pending :=
  done_pending h

theorem execNoticeRingWrite_ends (ok : Bool) (s : State) : Ends (execNoticeRingWrite ok s) :=
  done_ends _ _

theorem execRingControl_pending (value : Nat) (s t : State) (h : execRingControl value s = .next t) :
    t.pending = s.pending :=
  done_pending h

theorem execRingControl_ends (value : Nat) (s : State) : Ends (execRingControl value s) :=
  done_ends _ _

theorem execAttemptStart_pending (failing : List Nat) (s t : State)
    (h : execAttemptStart failing s = .next t) : t.pending = s.pending :=
  done_pending h

theorem execAttemptStart_ends (failing : List Nat) (s : State) : Ends (execAttemptStart failing s) :=
  done_ends _ _

theorem execWoken_pending (source : Option Nat) (s t : State) (h : execWoken source s = .next t) :
    t.pending = s.pending :=
  done_pending h

theorem execWoken_ends (source : Option Nat) (s : State) : Ends (execWoken source s) :=
  done_ends _ _

theorem execResetN_pending (low : Nat) (s t : State) (h : execResetN low s = .next t) :
    t.pending = s.pending :=
  done_pending h

theorem execResetN_ends (low : Nat) (s : State) : Ends (execResetN low s) :=
  done_ends _ _

theorem execStartConfirmed_pending (s t : State) (h : execStartConfirmed s = .next t) :
    t.pending = s.pending :=
  done_pending h

theorem execStartConfirmed_ends (s : State) : Ends (execStartConfirmed s) :=
  done_ends _ _

theorem execStartFailed_pending (reason detail : Nat) (s t : State)
    (h : execStartFailed reason detail s = .next t) : t.pending = s.pending :=
  done_pending h

theorem execStartFailed_ends (reason detail : Nat) (s : State) : Ends (execStartFailed reason detail s) :=
  done_ends _ _

theorem execFatalFault_pending (cause : Nat) (s t : State) (h : execFatalFault cause s = .next t) :
    t.pending = s.pending :=
  done_pending h

theorem execFatalFault_ends (cause : Nat) (s : State) : Ends (execFatalFault cause s) :=
  done_ends _ _

theorem execStartRetry_pending (v : Via) (value : Nat) (s t : State)
    (h : execStartRetry v value s = .next t) : t.pending = s.pending :=
  done_pending h

theorem execStartRetry_ends (v : Via) (value : Nat) (s : State) : Ends (execStartRetry v value s) :=
  done_ends _ _

theorem execSlotSelect_pending (v : Via) (value : Nat) (s t : State)
    (h : execSlotSelect v value s = .next t) : t.pending = s.pending :=
  done_pending h

theorem execSlotSelect_ends (v : Via) (value : Nat) (s : State) : Ends (execSlotSelect v value s) :=
  done_ends _ _

theorem execSlotImage_pending (v : Via) (value : Bytes) (s t : State)
    (h : execSlotImage v value s = .next t) : t.pending = s.pending :=
  done_pending h

theorem execSlotImage_ends (v : Via) (value : Bytes) (s : State) : Ends (execSlotImage v value s) :=
  done_ends _ _

theorem execSlotStage_pending (v : Via) (value : Nat) (s t : State)
    (h : execSlotStage v value s = .next t) : t.pending = s.pending :=
  done_pending h

theorem execSlotStage_ends (v : Via) (value : Nat) (s : State) : Ends (execSlotStage v value s) :=
  done_ends _ _

theorem execDiagnosticRun_pending (v : Via) (value : Nat) (failing : List Nat) (s t : State)
    (h : execDiagnosticRun v value failing s = .next t) : t.pending = s.pending :=
  done_pending h

theorem execDiagnosticRun_ends (v : Via) (value : Nat) (failing : List Nat) (s : State) :
    Ends (execDiagnosticRun v value failing s) :=
  done_ends _ _

theorem execFirmwareActivate_pending (v : Via) (value : Nat) (s t : State)
    (h : execFirmwareActivate v value s = .next t) : t.pending = s.pending :=
  done_pending h

theorem execFirmwareActivate_ends (v : Via) (value : Nat) (s : State) :
    Ends (execFirmwareActivate v value s) :=
  done_ends _ _

theorem execFirmwareActivation_pending (s t : State) (h : execFirmwareActivation s = .next t) :
    t.pending = s.pending :=
  done_pending h

theorem execFirmwareActivation_ends (s : State) : Ends (execFirmwareActivation s) :=
  done_ends _ _

theorem execPatchLoad_pending (v : Via) (value : Nat) (s t : State)
    (h : execPatchLoad v value s = .next t) : t.pending = s.pending :=
  done_pending h

theorem execPatchLoad_ends (v : Via) (value : Nat) (s : State) : Ends (execPatchLoad v value s) :=
  done_ends _ _

theorem execPatchActivate_pending (v : Via) (value : Nat) (s t : State)
    (h : execPatchActivate v value s = .next t) : t.pending = s.pending :=
  done_pending h

theorem execPatchActivate_ends (v : Via) (value : Nat) (s : State) : Ends (execPatchActivate v value s) :=
  done_ends _ _

theorem execPatchSwap_pending (s t : State) (h : execPatchSwap s = .next t) : t.pending = s.pending :=
  done_pending h

theorem execPatchSwap_ends (s : State) : Ends (execPatchSwap s) :=
  done_ends _ _

theorem execBondModeWrite_pending (v : Via) (value : Nat) (s t : State)
    (h : execBondModeWrite v value s = .next t) : t.pending = s.pending :=
  done_pending h

theorem execBondModeWrite_ends (v : Via) (value : Nat) (s : State) : Ends (execBondModeWrite v value s) :=
  done_ends _ _

theorem execBondYield_pending (v : Via) (value : Nat) (s t : State)
    (h : execBondYield v value s = .next t) : t.pending = s.pending :=
  done_pending h

theorem execBondYield_ends (v : Via) (value : Nat) (s : State) : Ends (execBondYield v value s) :=
  done_ends _ _

theorem execResyncDone_pending (s t : State) (h : execResyncDone s = .next t) : t.pending = s.pending :=
  done_pending h

theorem execResyncDone_ends (s : State) : Ends (execResyncDone s) :=
  done_ends _ _

theorem execHeartbeat_pending (bond lane word : Nat) (s t : State)
    (h : execHeartbeat bond lane word s = .next t) : t.pending = s.pending :=
  onUnit_pending h

theorem execHeartbeat_ends (bond lane word : Nat) (s : State) : Ends (execHeartbeat bond lane word s) :=
  onUnit_ends _ _ _ _

theorem execBondDegraded_pending (s t : State) (h : execBondDegraded s = .next t) :
    t.pending = s.pending :=
  done_pending h

theorem execBondDegraded_ends (s : State) : Ends (execBondDegraded s) :=
  done_ends _ _

theorem execMirrorBufferFull_pending (s t : State) (h : execMirrorBufferFull s = .next t) :
    t.pending = s.pending :=
  done_pending h

theorem execMirrorBufferFull_ends (s : State) : Ends (execMirrorBufferFull s) :=
  done_ends _ _

theorem execMirrorRecord_pending (record : Bytes) (s t : State) (h : execMirrorRecord record s = .next t) :
    t.pending = s.pending :=
  done_pending h

theorem execMirrorRecord_ends (record : Bytes) (s : State) : Ends (execMirrorRecord record s) :=
  done_ends _ _

theorem execPartnerLost_pending (s t : State) (h : execPartnerLost s = .next t) : t.pending = s.pending :=
  done_pending h

theorem execPartnerLost_ends (s : State) : Ends (execPartnerLost s) :=
  done_ends _ _

theorem execBondTakeover_pending (s t : State) (h : execBondTakeover s = .next t) :
    t.pending = s.pending :=
  done_pending h

theorem execBondTakeover_ends (s : State) : Ends (execBondTakeover s) :=
  done_ends _ _

theorem execBondTakenOver_pending (s t : State) (h : execBondTakenOver s = .next t) :
    t.pending = s.pending :=
  done_pending h

theorem execBondTakenOver_ends (s : State) : Ends (execBondTakenOver s) :=
  done_ends _ _

theorem execMaintenanceRelease_pending (s t : State) (h : execMaintenanceRelease s = .next t) :
    t.pending = s.pending :=
  done_pending h

theorem execMaintenanceRelease_ends (s : State) : Ends (execMaintenanceRelease s) :=
  done_ends _ _

theorem execAttestNonce_pending (v : Via) (value : Bytes) (s t : State)
    (h : execAttestNonce v value s = .next t) : t.pending = s.pending :=
  done_pending h

theorem execAttestNonce_ends (v : Via) (value : Bytes) (s : State) : Ends (execAttestNonce v value s) :=
  done_ends _ _

theorem execAttestComplete_pending (s t : State) (h : execAttestComplete s = .next t) :
    t.pending = s.pending :=
  done_pending h

theorem execAttestComplete_ends (s : State) : Ends (execAttestComplete s) :=
  done_ends _ _

theorem execSpdmRequest_pending (request : SpdmRequest) (s t : State)
    (h : execSpdmRequest request s = .next t) : t.pending = s.pending :=
  done_pending h

theorem execSpdmRequest_ends (request : SpdmRequest) (s : State) : Ends (execSpdmRequest request s) :=
  done_ends _ _

theorem execOwnerEnroll_pending (v : Via) (value : Bytes) (s t : State)
    (h : execOwnerEnroll v value s = .next t) : t.pending = s.pending :=
  done_pending h

theorem execOwnerEnroll_ends (v : Via) (value : Bytes) (s : State) : Ends (execOwnerEnroll v value s) :=
  done_ends _ _

theorem execOwnerChange_pending (v : Via) (value : Bytes) (s t : State)
    (h : execOwnerChange v value s = .next t) : t.pending = s.pending :=
  done_pending h

theorem execOwnerChange_ends (v : Via) (value : Bytes) (s : State) : Ends (execOwnerChange v value s) :=
  done_ends _ _

theorem execLifecycleToken_pending (v : Via) (value : Bytes) (s t : State)
    (h : execLifecycleToken v value s = .next t) : t.pending = s.pending :=
  done_pending h

theorem execLifecycleToken_ends (v : Via) (value : Bytes) (s : State) :
    Ends (execLifecycleToken v value s) :=
  done_ends _ _

theorem execDebugRequest_pending (v : Via) (value : Nat) (s t : State)
    (h : execDebugRequest v value s = .next t) : t.pending = s.pending :=
  done_pending h

theorem execDebugRequest_ends (v : Via) (value : Nat) (s : State) : Ends (execDebugRequest v value s) :=
  done_ends _ _

theorem execDebugToken_pending (v : Via) (value : Bytes) (s t : State)
    (h : execDebugToken v value s = .next t) : t.pending = s.pending :=
  done_pending h

theorem execDebugToken_ends (v : Via) (value : Bytes) (s : State) : Ends (execDebugToken v value s) :=
  done_ends _ _

theorem execDebugWrite_pending (v : Via) (value : Bytes) (s t : State)
    (h : execDebugWrite v value s = .next t) : t.pending = s.pending :=
  done_pending h

theorem execDebugWrite_ends (v : Via) (value : Bytes) (s : State) : Ends (execDebugWrite v value s) :=
  done_ends _ _

theorem execTraceStart_pending (s t : State) (h : execTraceStart s = .next t) : t.pending = s.pending :=
  done_pending h

theorem execTraceStart_ends (s : State) : Ends (execTraceStart s) :=
  done_ends _ _

theorem execSecurityVersionCommit_pending (v : Via) (value : Nat) (s t : State)
    (h : execSecurityVersionCommit v value s = .next t) : t.pending = s.pending :=
  done_pending h

theorem execSecurityVersionCommit_ends (v : Via) (value : Nat) (s : State) :
    Ends (execSecurityVersionCommit v value s) :=
  done_ends _ _

theorem execNotafterPassed_pending (s t : State) (h : execNotafterPassed s = .next t) :
    t.pending = s.pending :=
  done_pending h

theorem execNotafterPassed_ends (s : State) : Ends (execNotafterPassed s) :=
  done_ends _ _

theorem execDueCheck_pending (s t : State) (h : execDueCheck s = .next t) : t.pending = s.pending :=
  done_pending h

theorem execDueCheck_ends (s : State) : Ends (execDueCheck s) :=
  done_ends _ _

theorem execPlanStalled_pending (s t : State) (h : execPlanStalled s = .next t) : t.pending = s.pending :=
  done_pending h

theorem execPlanStalled_ends (s : State) : Ends (execPlanStalled s) :=
  done_ends _ _

theorem execCourseStart_pending (s t : State) (h : execCourseStart s = .next t) : t.pending = s.pending :=
  done_pending h

theorem execCourseStart_ends (s : State) : Ends (execCourseStart s) :=
  done_ends _ _

theorem execEpochCourse_pending (phase8 keeperOffset : Int) (ber : List (Nat × Nat)) (s t : State)
    (h : execEpochCourse phase8 keeperOffset ber s = .next t) : t.pending = s.pending :=
  done_pending h

theorem execEpochCourse_ends (phase8 keeperOffset : Int) (ber : List (Nat × Nat)) (s : State) :
    Ends (execEpochCourse phase8 keeperOffset ber s) :=
  done_ends _ _

theorem execLaunchCourseWrite_pending (v : Via) (value : Nat) (s t : State)
    (h : execLaunchCourseWrite v value s = .next t) : t.pending = s.pending :=
  done_pending h

theorem execLaunchCourseWrite_ends (v : Via) (value : Nat) (s : State) :
    Ends (execLaunchCourseWrite v value s) :=
  done_ends _ _

theorem execLaunch_pending (s t : State) (h : execLaunch s = .next t) : t.pending = s.pending :=
  done_pending h

theorem execLaunch_ends (s : State) : Ends (execLaunch s) :=
  done_ends _ _

theorem execReadSegment_pending (v : Via) (index sub typ offset : Nat) (s t : State)
    (h : execReadSegment v index sub typ offset s = .next t) : t.pending = s.pending :=
  done_pending h

theorem execReadSegment_ends (v : Via) (index sub typ offset : Nat) (s : State) :
    Ends (execReadSegment v index sub typ offset s) :=
  done_ends _ _

theorem execRegisterWrite_pending (v : Via) (index sub typ offset total : Nat) (last : Bool) (value : Bytes)
    (s t : State) (h : execRegisterWrite v index sub typ offset total last value s = .next t) :
    t.pending = s.pending :=
  done_pending h

theorem execRegisterWrite_ends (v : Via) (index sub typ offset total : Nat) (last : Bool) (value : Bytes)
    (s : State) : Ends (execRegisterWrite v index sub typ offset total last value s) :=
  done_ends _ _

theorem execDescribe_pending (v : Via) (index sub : Nat) (s t : State)
    (h : execDescribe v index sub s = .next t) : t.pending = s.pending :=
  done_pending h

theorem execDescribe_ends (v : Via) (index sub : Nat) (s : State) : Ends (execDescribe v index sub s) :=
  done_ends _ _

theorem execNextEntry_pending (v : Via) (index sub : Nat) (s t : State)
    (h : execNextEntry v index sub s = .next t) : t.pending = s.pending :=
  done_pending h

theorem execNextEntry_ends (v : Via) (index sub : Nat) (s : State) : Ends (execNextEntry v index sub s) :=
  done_ends _ _

theorem execDebugRead_pending (v : Via) (s t : State) (h : execDebugRead v s = .next t) :
    t.pending = s.pending :=
  done_pending h

theorem execDebugRead_ends (v : Via) (s : State) : Ends (execDebugRead v s) :=
  done_ends _ _

theorem execWriteSegmentTimeout_pending (v : Via) (s t : State)
    (h : execWriteSegmentTimeout v s = .next t) : t.pending = s.pending :=
  done_pending h

theorem execWriteSegmentTimeout_ends (v : Via) (s : State) : Ends (execWriteSegmentTimeout v s) :=
  done_ends _ _

theorem execDictionaryFrame_pending (mac : Nat) (frame : Bytes) (s t : State)
    (h : execDictionaryFrame mac frame s = .next t) : t.pending = s.pending :=
  done_pending h

theorem execDictionaryFrame_ends (mac : Nat) (frame : Bytes) (s : State) :
    Ends (execDictionaryFrame mac frame s) :=
  done_ends _ _

theorem execGatewaySubmit_pending (slot : Nat) (s t : State) (h : execGatewaySubmit slot s = .next t) :
    t.pending = s.pending :=
  onUnit_pending h

theorem execGatewaySubmit_ends (slot : Nat) (s : State) : Ends (execGatewaySubmit slot s) :=
  onUnit_ends _ _ _ _

theorem execBar0Write_pending (offset length value : Nat) (s t : State)
    (h : execBar0Write offset length value s = .next t) : t.pending = s.pending :=
  onUnit_pending h

theorem execBar0Write_ends (offset length value : Nat) (s : State) :
    Ends (execBar0Write offset length value s) :=
  onUnit_ends _ _ _ _

theorem execKeystoneRestartDone_pending (s t : State) (h : execKeystoneRestartDone s = .next t) :
    t.pending = s.pending :=
  done_pending h

theorem execKeystoneRestartDone_ends (s : State) : Ends (execKeystoneRestartDone s) :=
  done_ends _ _

end Sys2Proof.Machine
end

