-- ==== Sys2Proof/Laws/SoundInstructions.lean ====
section
/-! SUPPORT. Every command keeps a sound state sound: the instruction rows. -/

namespace Sys2Proof.Machine

theorem execNop_sound (q : Issue) (f : Fields) (s t : State) (h : execNop q f s = .next t)
    (hs : s.sound = true) : t.sound = true := by
  refine instr_sound h hs fun g t h1 h2 h3 => ?_
  simp (maxDischargeDepth := 40) [*]

theorem execWait_sound (q : Issue) (f : Fields) (s t : State) (h : execWait q f s = .next t)
    (hs : s.sound = true) : t.sound = true := by
  refine instr_sound h hs fun g t h1 h2 h3 => ?_
  simp (maxDischargeDepth := 40) [*]

theorem execPlumb_sound (q : Issue) (f : Fields) (s t : State) (h : execPlumb q f s = .next t)
    (hs : s.sound = true) : t.sound = true := by
  refine instr_sound h hs fun g t h1 h2 h3 => ?_
  simp (maxDischargeDepth := 40) [*]

theorem execPlumbRelease_sound (core : Nat) (arrival : PlumbMark) (s t : State)
    (h : execPlumbRelease core arrival s = .next t) (hs : s.sound = true) : t.sound = true := by
  obtain ⟨h1, h2, h3⟩ := State.sound_iff.mp hs
  refine onUnit_sound h (State.sound_iff.mpr ?_)
  simp (maxDischargeDepth := 40) [*]

theorem execRet_sound (q : Issue) (f : Fields) (s t : State) (h : execRet q f s = .next t)
    (hs : s.sound = true) : t.sound = true := by
  refine instr_sound h hs fun g t h1 h2 h3 => ?_
  simp (maxDischargeDepth := 40) [*]

theorem execEndBundle_sound (q : Issue) (f : Fields) (s t : State) (h : execEndBundle q f s = .next t)
    (hs : s.sound = true) : t.sound = true := by
  refine instr_sound h hs fun g t h1 h2 h3 => ?_
  simp (maxDischargeDepth := 40) [*]

theorem execBundleStart_sound (core queue : Nat) (s t : State) (h : execBundleStart core queue s = .next t)
    (hs : s.sound = true) : t.sound = true := by
  obtain ⟨h1, h2, h3⟩ := State.sound_iff.mp hs
  refine onUnit_sound h (State.sound_iff.mpr ?_)
  simp (maxDischargeDepth := 40) [*]

theorem execRel_sound (q : Issue) (f : Fields) (s t : State) (h : execRel q f s = .next t)
    (hs : s.sound = true) : t.sound = true := by
  refine instr_sound h hs fun g t h1 h2 h3 => ?_
  simp (maxDischargeDepth := 40) [*]

theorem execLp_sound (q : Issue) (f : Fields) (s t : State) (h : execLp q f s = .next t)
    (hs : s.sound = true) : t.sound = true := by
  refine instr_sound h hs fun g t h1 h2 h3 => ?_
  simp (maxDischargeDepth := 40) [*]

theorem execSetCount_sound (q : Issue) (f : Fields) (s t : State) (h : execSetCount q f s = .next t)
    (hs : s.sound = true) : t.sound = true := by
  refine instr_sound h hs fun g t h1 h2 h3 => ?_
  simp (maxDischargeDepth := 40) [*]

theorem execAddc_sound (q : Issue) (f : Fields) (s t : State) (h : execAddc q f s = .next t)
    (hs : s.sound = true) : t.sound = true := by
  refine instr_sound h hs fun g t h1 h2 h3 => ?_
  simp (maxDischargeDepth := 40) [*]

theorem execKset_sound (q : Issue) (f : Fields) (s t : State) (h : execKset q f s = .next t)
    (hs : s.sound = true) : t.sound = true := by
  refine instr_sound h hs fun g t h1 h2 h3 => ?_
  simp (maxDischargeDepth := 40) [*]

theorem execBk_sound (q : Issue) (f : Fields) (s t : State) (h : execBk q f s = .next t)
    (hs : s.sound = true) : t.sound = true := by
  refine instr_sound h hs fun g t h1 h2 h3 => ?_
  simp (maxDischargeDepth := 40) [*]

theorem execWcrs_sound (q : Issue) (f : Fields) (s t : State) (h : execWcrs q f s = .next t)
    (hs : s.sound = true) : t.sound = true := by
  refine instr_sound h hs fun g t h1 h2 h3 => ?_
  simp (maxDischargeDepth := 40) [*]

theorem execAo_sound (q : Issue) (f : Fields) (s t : State) (h : execAo q f s = .next t)
    (hs : s.sound = true) : t.sound = true := by
  refine instr_sound h hs fun g t h1 h2 h3 => ?_
  simp (maxDischargeDepth := 40) [*]

theorem execTwait_sound (q : Issue) (f : Fields) (s t : State) (h : execTwait q f s = .next t)
    (hs : s.sound = true) : t.sound = true := by
  refine instr_sound h hs fun g t h1 h2 h3 => ?_
  simp (maxDischargeDepth := 40) [*]

theorem execLvw_sound (q : Issue) (f : Fields) (s t : State) (h : execLvw q f s = .next t)
    (hs : s.sound = true) : t.sound = true := by
  refine instr_sound h hs fun g t h1 h2 h3 => ?_
  simp (maxDischargeDepth := 40) [*]

theorem execAddLane_sound (q : Issue) (f : Fields) (s t : State) (h : execAddLane q f s = .next t)
    (hs : s.sound = true) : t.sound = true := by
  refine instr_sound h hs fun g t h1 h2 h3 => ?_
  simp (maxDischargeDepth := 40) [*]

theorem execSubLane_sound (q : Issue) (f : Fields) (s t : State) (h : execSubLane q f s = .next t)
    (hs : s.sound = true) : t.sound = true := by
  refine instr_sound h hs fun g t h1 h2 h3 => ?_
  simp (maxDischargeDepth := 40) [*]

theorem execMulLane_sound (q : Issue) (f : Fields) (s t : State) (h : execMulLane q f s = .next t)
    (hs : s.sound = true) : t.sound = true := by
  refine instr_sound h hs fun g t h1 h2 h3 => ?_
  simp (maxDischargeDepth := 40) [*]

theorem execFma_sound (q : Issue) (f : Fields) (s t : State) (h : execFma q f s = .next t)
    (hs : s.sound = true) : t.sound = true := by
  refine instr_sound h hs fun g t h1 h2 h3 => ?_
  simp (maxDischargeDepth := 40) +contextual [*]

theorem execDivLane_sound (q : Issue) (f : Fields) (s t : State) (h : execDivLane q f s = .next t)
    (hs : s.sound = true) : t.sound = true := by
  refine instr_sound h hs fun g t h1 h2 h3 => ?_
  simp (maxDischargeDepth := 40) [*]

theorem execSqrt_sound (q : Issue) (f : Fields) (s t : State) (h : execSqrt q f s = .next t)
    (hs : s.sound = true) : t.sound = true := by
  refine instr_sound h hs fun g t h1 h2 h3 => ?_
  simp (maxDischargeDepth := 40) [*]

theorem execMinLane_sound (q : Issue) (f : Fields) (s t : State) (h : execMinLane q f s = .next t)
    (hs : s.sound = true) : t.sound = true := by
  refine instr_sound h hs fun g t h1 h2 h3 => ?_
  simp (maxDischargeDepth := 40) [*]

theorem execMaxLane_sound (q : Issue) (f : Fields) (s t : State) (h : execMaxLane q f s = .next t)
    (hs : s.sound = true) : t.sound = true := by
  refine instr_sound h hs fun g t h1 h2 h3 => ?_
  simp (maxDischargeDepth := 40) [*]

theorem execFn_sound (q : Issue) (f : Fields) (s t : State) (h : execFn q f s = .next t)
    (hs : s.sound = true) : t.sound = true := by
  refine instr_sound h hs fun g t h1 h2 h3 => ?_
  (repeat' split) <;> simp (maxDischargeDepth := 40) [*]

theorem execTbl_sound (q : Issue) (f : Fields) (s t : State) (h : execTbl q f s = .next t)
    (hs : s.sound = true) : t.sound = true := by
  refine instr_sound h hs fun g t h1 h2 h3 => ?_
  simp (maxDischargeDepth := 40) [*]

theorem execRed_sound (q : Issue) (f : Fields) (s t : State) (h : execRed q f s = .next t)
    (hs : s.sound = true) : t.sound = true := by
  refine instr_sound h hs fun g t h1 h2 h3 => ?_
  simp (maxDischargeDepth := 40) +contextual [*]

theorem execSqa_sound (q : Issue) (f : Fields) (s t : State) (h : execSqa q f s = .next t)
    (hs : s.sound = true) : t.sound = true := by
  refine instr_sound h hs fun g t h1 h2 h3 => ?_
  simp (maxDischargeDepth := 40) +contextual [*]

theorem execRot_sound (q : Issue) (f : Fields) (s t : State) (h : execRot q f s = .next t)
    (hs : s.sound = true) : t.sound = true := by
  refine instr_sound h hs fun g t h1 h2 h3 => ?_
  simp (maxDischargeDepth := 40) +contextual [*]

theorem execAmax_sound (q : Issue) (f : Fields) (s t : State) (h : execAmax q f s = .next t)
    (hs : s.sound = true) : t.sound = true := by
  refine instr_sound h hs fun g t h1 h2 h3 => ?_
  simp (maxDischargeDepth := 40) +contextual [*]

theorem execTopk_sound (q : Issue) (f : Fields) (s t : State) (h : execTopk q f s = .next t)
    (hs : s.sound = true) : t.sound = true := by
  refine instr_sound h hs fun g t h1 h2 h3 => ?_
  simp (maxDischargeDepth := 40) +contextual [*]

theorem execRng_sound (q : Issue) (f : Fields) (s t : State) (h : execRng q f s = .next t)
    (hs : s.sound = true) : t.sound = true := by
  refine instr_sound h hs fun g t h1 h2 h3 => ?_
  simp (maxDischargeDepth := 40) +contextual [*]

theorem execCvt_sound (q : Issue) (f : Fields) (s t : State) (h : execCvt q f s = .next t)
    (hs : s.sound = true) : t.sound = true := by
  refine instr_sound h hs fun g t h1 h2 h3 => ?_
  simp (maxDischargeDepth := 40) +contextual [*]

theorem execDup_sound (q : Issue) (f : Fields) (s t : State) (h : execDup q f s = .next t)
    (hs : s.sound = true) : t.sound = true := by
  refine instr_sound h hs fun g t h1 h2 h3 => ?_
  simp (maxDischargeDepth := 40) +contextual [*]

theorem execSuspensionEnd_sound (s t : State) (h : execSuspensionEnd s = .next t) (hs : s.sound = true) :
    t.sound = true := by
  obtain ⟨h1, h2, h3⟩ := State.sound_iff.mp hs
  refine done_sound h (State.sound_iff.mpr ?_)
  simp (maxDischargeDepth := 40) [*]

theorem execTileVerdict_sound (core engine : Nat) (s t : State)
    (h : execTileVerdict core engine s = .next t) (hs : s.sound = true) : t.sound = true := by
  obtain ⟨h1, h2, h3⟩ := State.sound_iff.mp hs
  refine onUnit_sound h (State.sound_iff.mpr ?_)
  simp (maxDischargeDepth := 40) [*]

theorem execFmode_sound (q : Issue) (f : Fields) (s t : State) (h : execFmode q f s = .next t)
    (hs : s.sound = true) : t.sound = true := by
  refine instr_sound h hs fun g t h1 h2 h3 => ?_
  simp (maxDischargeDepth := 40) [*]

theorem execTset_sound (q : Issue) (f : Fields) (s t : State) (h : execTset q f s = .next t)
    (hs : s.sound = true) : t.sound = true := by
  refine instr_sound h hs fun g t h1 h2 h3 => ?_
  simp (maxDischargeDepth := 40) [*]

theorem execTfill_sound (q : Issue) (f : Fields) (batch : Option Nat) (err : Errors) (s t : State)
    (h : execTfill q f batch err s = .next t) (hs : s.sound = true) : t.sound = true := by
  refine instr_sound h hs fun g t h1 h2 h3 => ?_
  simp (maxDischargeDepth := 40) [*]

theorem execMma_sound (q : Issue) (f : Fields) (batch : Option Nat) (s t : State)
    (h : execMma q f batch s = .next t) (hs : s.sound = true) : t.sound = true := by
  refine instr_sound h hs fun g t h1 h2 h3 => ?_
  simp (maxDischargeDepth := 40) +contextual [*]

theorem execVrd_sound (q : Issue) (f : Fields) (s t : State) (h : execVrd q f s = .next t)
    (hs : s.sound = true) : t.sound = true := by
  refine instr_sound h hs fun g t h1 h2 h3 => ?_
  simp (maxDischargeDepth := 40) [*]

theorem execLd_sound (q : Issue) (f : Fields) (ecc : Ecc) (s t : State) (h : execLd q f ecc s = .next t)
    (hs : s.sound = true) : t.sound = true := by
  refine instr_sound h hs fun g t h1 h2 h3 => ?_
  simp (maxDischargeDepth := 40) [*]

theorem execSt_sound (q : Issue) (f : Fields) (s t : State) (h : execSt q f s = .next t)
    (hs : s.sound = true) : t.sound = true := by
  refine instr_sound h hs fun g t h1 h2 h3 => ?_
  simp (maxDischargeDepth := 40) +contextual [*]

theorem execSta_sound (q : Issue) (f : Fields) (s t : State) (h : execSta q f s = .next t)
    (hs : s.sound = true) : t.sound = true := by
  refine instr_sound h hs fun g t h1 h2 h3 => ?_
  simp (maxDischargeDepth := 40) +contextual [*]

theorem execLdi_sound (q : Issue) (f : Fields) (ecc : Ecc) (s t : State) (h : execLdi q f ecc s = .next t)
    (hs : s.sound = true) : t.sound = true := by
  refine instr_sound h hs fun g t h1 h2 h3 => ?_
  simp (maxDischargeDepth := 40) +contextual [*]

theorem execSti_sound (q : Issue) (f : Fields) (s t : State) (h : execSti q f s = .next t)
    (hs : s.sound = true) : t.sound = true := by
  refine instr_sound h hs fun g t h1 h2 h3 => ?_
  simp (maxDischargeDepth := 40) +contextual [*]

theorem execWcol_sound (q : Issue) (f : Fields) (s t : State) (h : execWcol q f s = .next t)
    (hs : s.sound = true) : t.sound = true := by
  refine instr_sound h hs fun g t h1 h2 h3 => ?_
  simp (maxDischargeDepth := 40) +contextual [*]

theorem execWrow_sound (q : Issue) (f : Fields) (s t : State) (h : execWrow q f s = .next t)
    (hs : s.sound = true) : t.sound = true := by
  refine instr_sound h hs fun g t h1 h2 h3 => ?_
  simp (maxDischargeDepth := 40) +contextual [*]

theorem execFill_sound (q : Issue) (f : Fields) (s t : State) (h : execFill q f s = .next t)
    (hs : s.sound = true) : t.sound = true := by
  refine instr_sound h hs fun g t h1 h2 h3 => ?_
  refine ⟨State.popping_wf _ _ _ _ _ (fun es s h => ?_) h1, State.popping_stagingWf _ _ _ _ _ (fun es s h => ?_) h2,
    State.popping_bounded _ _ _ _ _ (fun es s h => ?_) h3⟩
  all_goals
    split <;> simp [h]

theorem execCopy_sound (q : Issue) (f : Fields) (err : Errors) (s t : State)
    (h : execCopy q f err s = .next t) (hs : s.sound = true) : t.sound = true := by
  refine instr_sound h hs fun g t h1 h2 h3 => ?_
  refine ⟨State.popping_wf _ _ _ _ _ (fun es s h => ?_) h1, State.popping_stagingWf _ _ _ _ _ (fun es s h => ?_) h2,
    State.popping_bounded _ _ _ _ _ (fun es s h => ?_) h3⟩
  all_goals
    dsimp only
    split <;> simp [h]

theorem execScrubStep_sound (unit : StoreUnit) (bank : Nat) (claimed : Bool) (ecc : Ecc) (s t : State)
    (h : execScrubStep unit bank claimed ecc s = .next t) (hs : s.sound = true) : t.sound = true := by
  obtain ⟨h1, h2, h3⟩ := State.sound_iff.mp hs
  refine onUnit_sound h (State.sound_iff.mpr ?_)
  simp (maxDischargeDepth := 40) [*]

theorem execSnd_sound (q : Issue) (f : Fields) (s t : State) (h : execSnd q f s = .next t)
    (hs : s.sound = true) : t.sound = true := by
  refine instr_sound h hs fun g t h1 h2 h3 => ?_
  refine ⟨State.popping_wf _ _ _ _ _ (fun es s h => ?_) h1, State.popping_stagingWf _ _ _ _ _ (fun es s h => ?_) h2,
    State.popping_bounded _ _ _ _ _ (fun es s h => ?_) h3⟩
  all_goals
    split <;> simp [h]

theorem execSndt_sound (q : Issue) (f : Fields) (err : Errors) (s t : State)
    (h : execSndt q f err s = .next t) (hs : s.sound = true) : t.sound = true := by
  refine instr_sound h hs fun g t h1 h2 h3 => ?_
  refine ⟨State.popping_wf _ _ _ _ _ (fun es s h => ?_) h1, State.popping_stagingWf _ _ _ _ _ (fun es s h => ?_) h2,
    State.popping_bounded _ _ _ _ _ (fun es s h => ?_) h3⟩
  all_goals
    simp [h]

theorem execDue_sound (q : Issue) (f : Fields) (s t : State) (h : execDue q f s = .next t)
    (hs : s.sound = true) : t.sound = true := by
  refine instr_sound h hs fun g t h1 h2 h3 => ?_
  simp (maxDischargeDepth := 40) [*]

theorem execCallRoutine_sound (q : Issue) (f : Fields) (s t : State) (h : execCallRoutine q f s = .next t)
    (hs : s.sound = true) : t.sound = true := by
  refine instr_sound h hs fun g t h1 h2 h3 => ?_
  simp (maxDischargeDepth := 40) [*]

end Sys2Proof.Machine
end

