-- ==== Sys2Proof/Laws/SoundModule.lean ====
section
/-! SUPPORT. Every command keeps a sound state sound: power, start-up, security, the bond and repair. -/

namespace Sys2Proof.Machine

theorem execSensorSample_sound (fits : Bool) (reading : Sensors) (s t : State)
    (h : execSensorSample fits reading s = .next t) (hs : s.sound = true) : t.sound = true := by
  obtain ⟨h1, h2, h3⟩ := State.sound_iff.mp hs
  refine done_sound h (State.sound_iff.mpr ?_)
  simp (maxDischargeDepth := 40) [*]

theorem execCoolantFlowLow_sound (s t : State) (h : execCoolantFlowLow s = .next t) (hs : s.sound = true) :
    t.sound = true := by
  obtain ⟨h1, h2, h3⟩ := State.sound_iff.mp hs
  refine done_sound h (State.sound_iff.mpr ?_)
  simp (maxDischargeDepth := 40) [*]

theorem execPowerRequest_sound (v : Via) (value : Nat) (s t : State)
    (h : execPowerRequest v value s = .next t) (hs : s.sound = true) : t.sound = true := by
  obtain ⟨h1, h2, h3⟩ := State.sound_iff.mp hs
  refine done_sound h (State.sound_iff.mpr ?_)
  simp (maxDischargeDepth := 40) +contextual [*]

theorem execPowerTransitionStart_sound (s t : State) (h : execPowerTransitionStart s = .next t)
    (hs : s.sound = true) : t.sound = true := by
  obtain ⟨h1, h2, h3⟩ := State.sound_iff.mp hs
  refine done_sound h (State.sound_iff.mpr ?_)
  simp (maxDischargeDepth := 40) [*]

theorem execPowerTransitionDone_sound (s t : State) (h : execPowerTransitionDone s = .next t)
    (hs : s.sound = true) : t.sound = true := by
  obtain ⟨h1, h2, h3⟩ := State.sound_iff.mp hs
  refine done_sound h (State.sound_iff.mpr ?_)
  simp (maxDischargeDepth := 40) [*]

theorem execSleepEntry_sound (s t : State) (h : execSleepEntry s = .next t) (hs : s.sound = true) :
    t.sound = true := by
  obtain ⟨h1, h2, h3⟩ := State.sound_iff.mp hs
  refine done_sound h (State.sound_iff.mpr ?_)
  simp (maxDischargeDepth := 40) [*]

theorem execThermalShutdown_sound (s t : State) (h : execThermalShutdown s = .next t)
    (hs : s.sound = true) : t.sound = true := by
  obtain ⟨h1, h2, h3⟩ := State.sound_iff.mp hs
  refine done_sound h (State.sound_iff.mpr ?_)
  simp (maxDischargeDepth := 40) [*]

theorem execOverVoltage_sound (s t : State) (h : execOverVoltage s = .next t) (hs : s.sound = true) :
    t.sound = true := by
  obtain ⟨h1, h2, h3⟩ := State.sound_iff.mp hs
  refine done_sound h (State.sound_iff.mpr ?_)
  simp (maxDischargeDepth := 40) [*]

theorem execPwrGoodDeassert_sound (s t : State) (h : execPwrGoodDeassert s = .next t)
    (hs : s.sound = true) : t.sound = true := by
  obtain ⟨h1, h2, h3⟩ := State.sound_iff.mp hs
  refine done_sound h (State.sound_iff.mpr ?_)
  simp (maxDischargeDepth := 40) [*]

theorem execSupplyLow_sound (lowest : Nat) (s t : State) (h : execSupplyLow lowest s = .next t)
    (hs : s.sound = true) : t.sound = true := by
  obtain ⟨h1, h2, h3⟩ := State.sound_iff.mp hs
  refine done_sound h (State.sound_iff.mpr ?_)
  simp (maxDischargeDepth := 40) [*]

theorem execPowerLoss_sound (s t : State) (h : execPowerLoss s = .next t) (hs : s.sound = true) :
    t.sound = true := by
  obtain ⟨h1, h2, h3⟩ := State.sound_iff.mp hs
  refine done_sound h (State.sound_iff.mpr ?_)
  simp (maxDischargeDepth := 40) [*]

theorem execWakeAtCourse_sound (s t : State) (h : execWakeAtCourse s = .next t) (hs : s.sound = true) :
    t.sound = true := by
  obtain ⟨h1, h2, h3⟩ := State.sound_iff.mp hs
  refine done_sound h (State.sound_iff.mpr ?_)
  simp (maxDischargeDepth := 40) [*]

theorem execChainWakeFrame_sound (dest : Nat) (frame : Bytes) (s t : State)
    (h : execChainWakeFrame dest frame s = .next t) (hs : s.sound = true) : t.sound = true := by
  obtain ⟨h1, h2, h3⟩ := State.sound_iff.mp hs
  refine done_sound h (State.sound_iff.mpr ?_)
  simp (maxDischargeDepth := 40) [*]

theorem execWakeNLow_sound (s t : State) (h : execWakeNLow s = .next t) (hs : s.sound = true) :
    t.sound = true := by
  obtain ⟨h1, h2, h3⟩ := State.sound_iff.mp hs
  refine done_sound h (State.sound_iff.mpr ?_)
  simp (maxDischargeDepth := 40) [*]

theorem execSupplyReturn_sound (s t : State) (h : execSupplyReturn s = .next t) (hs : s.sound = true) :
    t.sound = true := by
  obtain ⟨h1, h2, h3⟩ := State.sound_iff.mp hs
  refine done_sound h (State.sound_iff.mpr ?_)
  simp (maxDischargeDepth := 40) [*]

theorem execSleepTempEvent_sound (s t : State) (h : execSleepTempEvent s = .next t) (hs : s.sound = true) :
    t.sound = true := by
  obtain ⟨h1, h2, h3⟩ := State.sound_iff.mp hs
  refine done_sound h (State.sound_iff.mpr ?_)
  simp (maxDischargeDepth := 40) [*]

theorem execTileReread_sound (consumer : Consumer) (err : Errors) (s t : State)
    (h : execTileReread consumer err s = .next t) (hs : s.sound = true) : t.sound = true := by
  obtain ⟨h1, h2, h3⟩ := State.sound_iff.mp hs
  refine done_sound h (State.sound_iff.mpr ?_)
  simp (maxDischargeDepth := 40) [*]

theorem execRepairRequest_sound (port : Nat) (granule : Bytes) (s t : State)
    (h : execRepairRequest port granule s = .next t) (hs : s.sound = true) : t.sound = true := by
  obtain ⟨h1, h2, h3⟩ := State.sound_iff.mp hs
  refine onUnit_sound h (State.sound_iff.mpr ?_)
  simp (maxDischargeDepth := 40) [*]

theorem execRepairTile_sound (granule tile : Bytes) (s t : State)
    (h : execRepairTile granule tile s = .next t) (hs : s.sound = true) : t.sound = true := by
  obtain ⟨h1, h2, h3⟩ := State.sound_iff.mp hs
  refine done_sound h (State.sound_iff.mpr ?_)
  simp (maxDischargeDepth := 40) [*]

theorem execRepairTimeout_sound (s t : State) (h : execRepairTimeout s = .next t) (hs : s.sound = true) :
    t.sound = true := by
  obtain ⟨h1, h2, h3⟩ := State.sound_iff.mp hs
  refine done_sound h (State.sound_iff.mpr ?_)
  simp (maxDischargeDepth := 40) [*]

theorem execNoRepairSource_sound (s t : State) (h : execNoRepairSource s = .next t) (hs : s.sound = true) :
    t.sound = true := by
  obtain ⟨h1, h2, h3⟩ := State.sound_iff.mp hs
  refine done_sound h (State.sound_iff.mpr ?_)
  simp (maxDischargeDepth := 40) [*]

theorem execDamageReport_sound (qp : Nat) (message : Bytes) (s t : State)
    (h : execDamageReport qp message s = .next t) (hs : s.sound = true) : t.sound = true := by
  obtain ⟨h1, h2, h3⟩ := State.sound_iff.mp hs
  refine onUnit_sound h (State.sound_iff.mpr ?_)
  simp (maxDischargeDepth := 40) [*]

theorem execClearWithheld_sound (v : Via) (value : Nat) (s t : State)
    (h : execClearWithheld v value s = .next t) (hs : s.sound = true) : t.sound = true := by
  obtain ⟨h1, h2, h3⟩ := State.sound_iff.mp hs
  refine done_sound h (State.sound_iff.mpr ?_)
  simp (maxDischargeDepth := 40) +contextual [*]

theorem execHardFault_sound (kind unit : Nat) (s t : State) (h : execHardFault kind unit s = .next t)
    (hs : s.sound = true) : t.sound = true := by
  obtain ⟨h1, h2, h3⟩ := State.sound_iff.mp hs
  refine onUnit_sound h (State.sound_iff.mpr ?_)
  simp (maxDischargeDepth := 40) [*]

theorem execPlanStop_sound (s t : State) (h : execPlanStop s = .next t) (hs : s.sound = true) :
    t.sound = true := by
  obtain ⟨h1, h2, h3⟩ := State.sound_iff.mp hs
  refine done_sound h (State.sound_iff.mpr ?_)
  simp (maxDischargeDepth := 40) [*]

theorem execStoreStuck_sound (address : Nat) (s t : State) (h : execStoreStuck address s = .next t)
    (hs : s.sound = true) : t.sound = true := by
  obtain ⟨h1, h2, h3⟩ := State.sound_iff.mp hs
  refine onUnit_sound h (State.sound_iff.mpr ?_)
  simp (maxDischargeDepth := 40) [*]

theorem execAttemptStart_sound (failing : List Nat) (s t : State) (h : execAttemptStart failing s = .next t)
    (hs : s.sound = true) : t.sound = true := by
  obtain ⟨h1, h2, h3⟩ := State.sound_iff.mp hs
  refine done_sound h (State.sound_iff.mpr ?_)
  simp (maxDischargeDepth := 40) [*]

theorem execWoken_sound (source : Option Nat) (s t : State) (h : execWoken source s = .next t)
    (hs : s.sound = true) : t.sound = true := by
  obtain ⟨h1, h2, h3⟩ := State.sound_iff.mp hs
  refine done_sound h (State.sound_iff.mpr ?_)
  simp (maxDischargeDepth := 40) [*]

theorem execResetN_sound (low : Nat) (s t : State) (h : execResetN low s = .next t) (hs : s.sound = true) :
    t.sound = true := by
  obtain ⟨h1, h2, h3⟩ := State.sound_iff.mp hs
  refine done_sound h (State.sound_iff.mpr ?_)
  simp (maxDischargeDepth := 40) [*]

theorem execStartConfirmed_sound (s t : State) (h : execStartConfirmed s = .next t) (hs : s.sound = true) :
    t.sound = true := by
  obtain ⟨h1, h2, h3⟩ := State.sound_iff.mp hs
  refine done_sound h (State.sound_iff.mpr ?_)
  simp (maxDischargeDepth := 40) [*]

theorem execStartFailed_sound (reason detail : Nat) (s t : State)
    (h : execStartFailed reason detail s = .next t) (hs : s.sound = true) : t.sound = true := by
  obtain ⟨h1, h2, h3⟩ := State.sound_iff.mp hs
  refine done_sound h (State.sound_iff.mpr ?_)
  simp (maxDischargeDepth := 40) [*]

theorem execFatalFault_sound (cause : Nat) (s t : State) (h : execFatalFault cause s = .next t)
    (hs : s.sound = true) : t.sound = true := by
  obtain ⟨h1, h2, h3⟩ := State.sound_iff.mp hs
  refine done_sound h (State.sound_iff.mpr ?_)
  simp (maxDischargeDepth := 40) [*]

theorem execStartRetry_sound (v : Via) (value : Nat) (s t : State) (h : execStartRetry v value s = .next t)
    (hs : s.sound = true) : t.sound = true := by
  obtain ⟨h1, h2, h3⟩ := State.sound_iff.mp hs
  refine done_sound h (State.sound_iff.mpr ?_)
  simp (maxDischargeDepth := 40) +contextual [*]

theorem execSlotSelect_sound (v : Via) (value : Nat) (s t : State) (h : execSlotSelect v value s = .next t)
    (hs : s.sound = true) : t.sound = true := by
  obtain ⟨h1, h2, h3⟩ := State.sound_iff.mp hs
  refine done_sound h (State.sound_iff.mpr ?_)
  simp (maxDischargeDepth := 40) +contextual [*]

theorem execSlotImage_sound (v : Via) (value : Bytes) (s t : State) (h : execSlotImage v value s = .next t)
    (hs : s.sound = true) : t.sound = true := by
  obtain ⟨h1, h2, h3⟩ := State.sound_iff.mp hs
  refine done_sound h (State.sound_iff.mpr ?_)
  simp (maxDischargeDepth := 40) +contextual [*]

theorem execSlotStage_sound (v : Via) (value : Nat) (s t : State) (h : execSlotStage v value s = .next t)
    (hs : s.sound = true) : t.sound = true := by
  obtain ⟨h1, h2, h3⟩ := State.sound_iff.mp hs
  refine done_sound h (State.sound_iff.mpr ?_)
  simp (maxDischargeDepth := 40) +contextual [*]

theorem execDiagnosticRun_sound (v : Via) (value : Nat) (failing : List Nat) (s t : State)
    (h : execDiagnosticRun v value failing s = .next t) (hs : s.sound = true) : t.sound = true := by
  obtain ⟨h1, h2, h3⟩ := State.sound_iff.mp hs
  refine done_sound h (State.sound_iff.mpr ?_)
  simp (maxDischargeDepth := 40) +contextual [*]

theorem execFirmwareActivate_sound (v : Via) (value : Nat) (s t : State)
    (h : execFirmwareActivate v value s = .next t) (hs : s.sound = true) : t.sound = true := by
  obtain ⟨h1, h2, h3⟩ := State.sound_iff.mp hs
  refine done_sound h (State.sound_iff.mpr ?_)
  simp (maxDischargeDepth := 40) +contextual [*]

theorem execFirmwareActivation_sound (s t : State) (h : execFirmwareActivation s = .next t)
    (hs : s.sound = true) : t.sound = true := by
  obtain ⟨h1, h2, h3⟩ := State.sound_iff.mp hs
  refine done_sound h (State.sound_iff.mpr ?_)
  simp (maxDischargeDepth := 40) [*]

theorem execPatchLoad_sound (v : Via) (value : Nat) (s t : State) (h : execPatchLoad v value s = .next t)
    (hs : s.sound = true) : t.sound = true := by
  obtain ⟨h1, h2, h3⟩ := State.sound_iff.mp hs
  refine done_sound h (State.sound_iff.mpr ?_)
  simp (maxDischargeDepth := 40) +contextual [*]

theorem execPatchActivate_sound (v : Via) (value : Nat) (s t : State)
    (h : execPatchActivate v value s = .next t) (hs : s.sound = true) : t.sound = true := by
  obtain ⟨h1, h2, h3⟩ := State.sound_iff.mp hs
  refine done_sound h (State.sound_iff.mpr ?_)
  simp (maxDischargeDepth := 40) +contextual [*]

theorem execPatchSwap_sound (s t : State) (h : execPatchSwap s = .next t) (hs : s.sound = true) :
    t.sound = true := by
  obtain ⟨h1, h2, h3⟩ := State.sound_iff.mp hs
  refine done_sound h (State.sound_iff.mpr ?_)
  simp (maxDischargeDepth := 40) [*]

theorem execBondModeWrite_sound (v : Via) (value : Nat) (s t : State)
    (h : execBondModeWrite v value s = .next t) (hs : s.sound = true) : t.sound = true := by
  obtain ⟨h1, h2, h3⟩ := State.sound_iff.mp hs
  refine done_sound h (State.sound_iff.mpr ?_)
  simp (maxDischargeDepth := 40) +contextual [*]

theorem execBondYield_sound (v : Via) (value : Nat) (s t : State) (h : execBondYield v value s = .next t)
    (hs : s.sound = true) : t.sound = true := by
  obtain ⟨h1, h2, h3⟩ := State.sound_iff.mp hs
  refine done_sound h (State.sound_iff.mpr ?_)
  simp (maxDischargeDepth := 40) +contextual [*]

theorem execResyncDone_sound (s t : State) (h : execResyncDone s = .next t) (hs : s.sound = true) :
    t.sound = true := by
  obtain ⟨h1, h2, h3⟩ := State.sound_iff.mp hs
  refine done_sound h (State.sound_iff.mpr ?_)
  simp (maxDischargeDepth := 40) [*]

theorem execHeartbeat_sound (bond lane word : Nat) (s t : State)
    (h : execHeartbeat bond lane word s = .next t) (hs : s.sound = true) : t.sound = true := by
  obtain ⟨h1, h2, h3⟩ := State.sound_iff.mp hs
  refine onUnit_sound h (State.sound_iff.mpr ?_)
  simp (maxDischargeDepth := 40) [*]

theorem execBondDegraded_sound (s t : State) (h : execBondDegraded s = .next t) (hs : s.sound = true) :
    t.sound = true := by
  obtain ⟨h1, h2, h3⟩ := State.sound_iff.mp hs
  refine done_sound h (State.sound_iff.mpr ?_)
  simp (maxDischargeDepth := 40) [*]

theorem execMirrorBufferFull_sound (s t : State) (h : execMirrorBufferFull s = .next t)
    (hs : s.sound = true) : t.sound = true := by
  obtain ⟨h1, h2, h3⟩ := State.sound_iff.mp hs
  refine done_sound h (State.sound_iff.mpr ?_)
  simp (maxDischargeDepth := 40) [*]

theorem execMirrorRecord_sound (record : Bytes) (s t : State) (h : execMirrorRecord record s = .next t)
    (hs : s.sound = true) : t.sound = true := by
  obtain ⟨h1, h2, h3⟩ := State.sound_iff.mp hs
  refine done_sound h (State.sound_iff.mpr ?_)
  simp (maxDischargeDepth := 40) [*]

theorem execPartnerLost_sound (s t : State) (h : execPartnerLost s = .next t) (hs : s.sound = true) :
    t.sound = true := by
  obtain ⟨h1, h2, h3⟩ := State.sound_iff.mp hs
  refine done_sound h (State.sound_iff.mpr ?_)
  simp (maxDischargeDepth := 40) [*]

theorem execBondTakeover_sound (s t : State) (h : execBondTakeover s = .next t) (hs : s.sound = true) :
    t.sound = true := by
  obtain ⟨h1, h2, h3⟩ := State.sound_iff.mp hs
  refine done_sound h (State.sound_iff.mpr ?_)
  simp (maxDischargeDepth := 40) [*]

theorem execBondTakenOver_sound (s t : State) (h : execBondTakenOver s = .next t) (hs : s.sound = true) :
    t.sound = true := by
  obtain ⟨h1, h2, h3⟩ := State.sound_iff.mp hs
  refine done_sound h (State.sound_iff.mpr ?_)
  simp (maxDischargeDepth := 40) [*]

theorem execMaintenanceRelease_sound (s t : State) (h : execMaintenanceRelease s = .next t)
    (hs : s.sound = true) : t.sound = true := by
  obtain ⟨h1, h2, h3⟩ := State.sound_iff.mp hs
  refine done_sound h (State.sound_iff.mpr ?_)
  simp (maxDischargeDepth := 40) [*]

theorem execAttestNonce_sound (v : Via) (value : Bytes) (s t : State)
    (h : execAttestNonce v value s = .next t) (hs : s.sound = true) : t.sound = true := by
  obtain ⟨h1, h2, h3⟩ := State.sound_iff.mp hs
  refine done_sound h (State.sound_iff.mpr ?_)
  simp (maxDischargeDepth := 40) +contextual [*]

theorem execAttestComplete_sound (s t : State) (h : execAttestComplete s = .next t) (hs : s.sound = true) :
    t.sound = true := by
  obtain ⟨h1, h2, h3⟩ := State.sound_iff.mp hs
  refine done_sound h (State.sound_iff.mpr ?_)
  simp (maxDischargeDepth := 40) [*]

theorem execSpdmRequest_sound (request : SpdmRequest) (s t : State)
    (h : execSpdmRequest request s = .next t) (hs : s.sound = true) : t.sound = true := by
  obtain ⟨h1, h2, h3⟩ := State.sound_iff.mp hs
  refine done_sound h (State.sound_iff.mpr ?_)
  simp (maxDischargeDepth := 40) [*]

theorem execOwnerEnroll_sound (v : Via) (value : Bytes) (s t : State)
    (h : execOwnerEnroll v value s = .next t) (hs : s.sound = true) : t.sound = true := by
  obtain ⟨h1, h2, h3⟩ := State.sound_iff.mp hs
  refine done_sound h (State.sound_iff.mpr ?_)
  simp (maxDischargeDepth := 40) +contextual [*]

theorem execOwnerChange_sound (v : Via) (value : Bytes) (s t : State)
    (h : execOwnerChange v value s = .next t) (hs : s.sound = true) : t.sound = true := by
  obtain ⟨h1, h2, h3⟩ := State.sound_iff.mp hs
  refine done_sound h (State.sound_iff.mpr ?_)
  simp (maxDischargeDepth := 40) +contextual [*]

theorem execLifecycleToken_sound (v : Via) (value : Bytes) (s t : State)
    (h : execLifecycleToken v value s = .next t) (hs : s.sound = true) : t.sound = true := by
  obtain ⟨h1, h2, h3⟩ := State.sound_iff.mp hs
  refine done_sound h (State.sound_iff.mpr ?_)
  simp (maxDischargeDepth := 40) +contextual [*]

theorem execDebugRequest_sound (v : Via) (value : Nat) (s t : State)
    (h : execDebugRequest v value s = .next t) (hs : s.sound = true) : t.sound = true := by
  obtain ⟨h1, h2, h3⟩ := State.sound_iff.mp hs
  refine done_sound h (State.sound_iff.mpr ?_)
  simp (maxDischargeDepth := 40) +contextual [*]

theorem execDebugToken_sound (v : Via) (value : Bytes) (s t : State)
    (h : execDebugToken v value s = .next t) (hs : s.sound = true) : t.sound = true := by
  obtain ⟨h1, h2, h3⟩ := State.sound_iff.mp hs
  refine done_sound h (State.sound_iff.mpr ?_)
  simp (maxDischargeDepth := 40) +contextual [*]

theorem execDebugWrite_sound (v : Via) (value : Bytes) (s t : State)
    (h : execDebugWrite v value s = .next t) (hs : s.sound = true) : t.sound = true := by
  obtain ⟨h1, h2, h3⟩ := State.sound_iff.mp hs
  refine done_sound h (State.sound_iff.mpr ?_)
  simp (maxDischargeDepth := 40) +contextual [*]

theorem execTraceStart_sound (s t : State) (h : execTraceStart s = .next t) (hs : s.sound = true) :
    t.sound = true := by
  obtain ⟨h1, h2, h3⟩ := State.sound_iff.mp hs
  refine done_sound h (State.sound_iff.mpr ?_)
  simp (maxDischargeDepth := 40) [*]

theorem execSecurityVersionCommit_sound (v : Via) (value : Nat) (s t : State)
    (h : execSecurityVersionCommit v value s = .next t) (hs : s.sound = true) : t.sound = true := by
  obtain ⟨h1, h2, h3⟩ := State.sound_iff.mp hs
  refine done_sound h (State.sound_iff.mpr ?_)
  simp (maxDischargeDepth := 40) +contextual [*]

theorem execNotafterPassed_sound (s t : State) (h : execNotafterPassed s = .next t) (hs : s.sound = true) :
    t.sound = true := by
  obtain ⟨h1, h2, h3⟩ := State.sound_iff.mp hs
  refine done_sound h (State.sound_iff.mpr ?_)
  simp (maxDischargeDepth := 40) [*]

end Sys2Proof.Machine
end

