-- ==== Sys2Proof/Laws/SoundPlan.lean ====
section
/-! SUPPORT. Every command keeps a sound state sound: the courses, the plan, the units and the links. -/

namespace Sys2Proof.Machine

theorem execEngineFlagsClear_sound (v : Via) (cluster position engine value raised : Nat) (s t : State)
    (h : execEngineFlagsClear v cluster position engine value raised s = .next t) (hs : s.sound = true) :
    t.sound = true := by
  obtain ⟨h1, h2, h3⟩ := State.sound_iff.mp hs
  refine onUnit_sound h (State.sound_iff.mpr ?_)
  simp (maxDischargeDepth := 40) +contextual [*]

theorem execClearAllFlags_sound (v : Via) (value : Nat) (raised : List (Nat × Nat)) (s t : State)
    (h : execClearAllFlags v value raised s = .next t) (hs : s.sound = true) : t.sound = true := by
  obtain ⟨h1, h2, h3⟩ := State.sound_iff.mp hs
  refine onUnit_sound h (State.sound_iff.mpr ?_)
  simp (maxDischargeDepth := 40) +contextual [*]

theorem execReferenceInvalid_sound (s t : State) (h : execReferenceInvalid s = .next t)
    (hs : s.sound = true) : t.sound = true := by
  obtain ⟨h1, h2, h3⟩ := State.sound_iff.mp hs
  refine done_sound h (State.sound_iff.mpr ?_)
  simp (maxDischargeDepth := 40) [*]

theorem execCourseSourceWrite_sound (v : Via) (value : Nat) (s t : State)
    (h : execCourseSourceWrite v value s = .next t) (hs : s.sound = true) : t.sound = true := by
  obtain ⟨h1, h2, h3⟩ := State.sound_iff.mp hs
  refine done_sound h (State.sound_iff.mpr ?_)
  simp (maxDischargeDepth := 40) +contextual [*]

theorem execCourseLoad_sound (v : Via) (value : Nat) (s t : State) (h : execCourseLoad v value s = .next t)
    (hs : s.sound = true) : t.sound = true := by
  obtain ⟨h1, h2, h3⟩ := State.sound_iff.mp hs
  refine done_sound h (State.sound_iff.mpr ?_)
  simp (maxDischargeDepth := 40) +contextual [*]

theorem execCourseMark_sound (port mark : Nat) (phase8 : Int) (s t : State)
    (h : execCourseMark port mark phase8 s = .next t) (hs : s.sound = true) : t.sound = true := by
  obtain ⟨h1, h2, h3⟩ := State.sound_iff.mp hs
  refine onUnit_sound h (State.sound_iff.mpr ?_)
  simp (maxDischargeDepth := 40) [*]

theorem execParentReselect_sound (s t : State) (h : execParentReselect s = .next t) (hs : s.sound = true) :
    t.sound = true := by
  obtain ⟨h1, h2, h3⟩ := State.sound_iff.mp hs
  refine done_sound h (State.sound_iff.mpr ?_)
  simp (maxDischargeDepth := 40) [*]

theorem execCourseHoldover_sound (s t : State) (h : execCourseHoldover s = .next t) (hs : s.sound = true) :
    t.sound = true := by
  obtain ⟨h1, h2, h3⟩ := State.sound_iff.mp hs
  refine done_sound h (State.sound_iff.mpr ?_)
  simp (maxDischargeDepth := 40) [*]

theorem execCourseLocked_sound (s t : State) (h : execCourseLocked s = .next t) (hs : s.sound = true) :
    t.sound = true := by
  obtain ⟨h1, h2, h3⟩ := State.sound_iff.mp hs
  refine done_sound h (State.sound_iff.mpr ?_)
  simp (maxDischargeDepth := 40) [*]

theorem execSourceReturn_sound (count : Nat) (phase8 : Int) (s t : State)
    (h : execSourceReturn count phase8 s = .next t) (hs : s.sound = true) : t.sound = true := by
  obtain ⟨h1, h2, h3⟩ := State.sound_iff.mp hs
  refine done_sound h (State.sound_iff.mpr ?_)
  simp (maxDischargeDepth := 40) [*]

theorem execPhaseStep_sound (s t : State) (h : execPhaseStep s = .next t) (hs : s.sound = true) :
    t.sound = true := by
  obtain ⟨h1, h2, h3⟩ := State.sound_iff.mp hs
  refine done_sound h (State.sound_iff.mpr ?_)
  simp (maxDischargeDepth := 40) [*]

theorem execLeadCourse_sound (s t : State) (h : execLeadCourse s = .next t) (hs : s.sound = true) :
    t.sound = true := by
  obtain ⟨h1, h2, h3⟩ := State.sound_iff.mp hs
  refine done_sound h (State.sound_iff.mpr ?_)
  simp (maxDischargeDepth := 40) [*]

theorem execRestCourse_sound (s t : State) (h : execRestCourse s = .next t) (hs : s.sound = true) :
    t.sound = true := by
  obtain ⟨h1, h2, h3⟩ := State.sound_iff.mp hs
  refine done_sound h (State.sound_iff.mpr ?_)
  simp (maxDischargeDepth := 40) [*]

theorem execLaunchRefused_sound (s t : State) (h : execLaunchRefused s = .next t) (hs : s.sound = true) :
    t.sound = true := by
  obtain ⟨h1, h2, h3⟩ := State.sound_iff.mp hs
  refine done_sound h (State.sound_iff.mpr ?_)
  simp (maxDischargeDepth := 40) [*]

theorem execPointingResend_sound (port : Nat) (s t : State) (h : execPointingResend port s = .next t)
    (hs : s.sound = true) : t.sound = true := by
  obtain ⟨h1, h2, h3⟩ := State.sound_iff.mp hs
  refine onUnit_sound h (State.sound_iff.mpr ?_)
  simp (maxDischargeDepth := 40) [*]

theorem execSignalArrival_sound (packet : Nat) (s t : State) (h : execSignalArrival packet s = .next t)
    (hs : s.sound = true) : t.sound = true := by
  obtain ⟨h1, h2, h3⟩ := State.sound_iff.mp hs
  refine onUnit_sound h (State.sound_iff.mpr ?_)
  simp (maxDischargeDepth := 40) [*]

theorem execTsig_sound (q : Issue) (f : Fields) (s t : State) (h : execTsig q f s = .next t)
    (hs : s.sound = true) : t.sound = true := by
  refine instr_sound h hs fun g t h1 h2 h3 => ?_
  (repeat' split) <;> simp (maxDischargeDepth := 40) [*]

theorem execLevelArrival_sound (packet : Nat) (s t : State) (h : execLevelArrival packet s = .next t)
    (hs : s.sound = true) : t.sound = true := by
  obtain ⟨h1, h2, h3⟩ := State.sound_iff.mp hs
  refine onUnit_sound h (State.sound_iff.mpr ?_)
  simp (maxDischargeDepth := 40) [*]

theorem execLevelRelease_sound (packet : Nat) (s t : State) (h : execLevelRelease packet s = .next t)
    (hs : s.sound = true) : t.sound = true := by
  obtain ⟨h1, h2, h3⟩ := State.sound_iff.mp hs
  refine onUnit_sound h (State.sound_iff.mpr ?_)
  simp (maxDischargeDepth := 40) [*]

theorem execLva_sound (q : Issue) (f : Fields) (s t : State) (h : execLva q f s = .next t)
    (hs : s.sound = true) : t.sound = true := by
  refine instr_sound h hs fun g t h1 h2 h3 => ?_
  simp (maxDischargeDepth := 40) [*]

theorem execPointingMessage_sound (port lane word : Nat) (s t : State)
    (h : execPointingMessage port lane word s = .next t) (hs : s.sound = true) : t.sound = true := by
  obtain ⟨h1, h2, h3⟩ := State.sound_iff.mp hs
  refine onUnit_sound h (State.sound_iff.mpr ?_)
  simp (maxDischargeDepth := 40) [*]

theorem execPointingHousekeeping_sound (fits : Bool) (s t : State)
    (h : execPointingHousekeeping fits s = .next t) (hs : s.sound = true) : t.sound = true := by
  obtain ⟨h1, h2, h3⟩ := State.sound_iff.mp hs
  refine done_sound h (State.sound_iff.mpr ?_)
  simp (maxDischargeDepth := 40) [*]

theorem execFlitReceived_sound (port lane slot : Nat) (flit : Bytes) (fecOk : Bool) (corrected : Nat)
    (s t : State) (h : execFlitReceived port lane slot flit fecOk corrected s = .next t) (hs : s.sound = true) :
    t.sound = true := by
  obtain ⟨h1, h2, h3⟩ := State.sound_iff.mp hs
  refine onUnit_sound h (State.sound_iff.mpr ?_)
  simp (maxDischargeDepth := 40) [*]

theorem execLateFlitWrite_sound (port : Nat) (s t : State) (h : execLateFlitWrite port s = .next t)
    (hs : s.sound = true) : t.sound = true := by
  obtain ⟨h1, h2, h3⟩ := State.sound_iff.mp hs
  refine onUnit_sound h (State.sound_iff.mpr ?_)
  simp (maxDischargeDepth := 40) [*]

theorem execLinkReport_sound (port lane word : Nat) (s t : State)
    (h : execLinkReport port lane word s = .next t) (hs : s.sound = true) : t.sound = true := by
  obtain ⟨h1, h2, h3⟩ := State.sound_iff.mp hs
  refine onUnit_sound h (State.sound_iff.mpr ?_)
  simp (maxDischargeDepth := 40) [*]

theorem execReportTimeout_sound (port lane course : Nat) (s t : State)
    (h : execReportTimeout port lane course s = .next t) (hs : s.sound = true) : t.sound = true := by
  obtain ⟨h1, h2, h3⟩ := State.sound_iff.mp hs
  refine onUnit_sound h (State.sound_iff.mpr ?_)
  simp (maxDischargeDepth := 40) [*]

theorem execLinkRetry_sound (port lane : Nat) (s t : State) (h : execLinkRetry port lane s = .next t)
    (hs : s.sound = true) : t.sound = true := by
  obtain ⟨h1, h2, h3⟩ := State.sound_iff.mp hs
  refine onUnit_sound h (State.sound_iff.mpr ?_)
  simp (maxDischargeDepth := 40) [*]

theorem execRelayForward_sound (port route flitIndex egress lane slot : Nat) (s t : State)
    (h : execRelayForward port route flitIndex egress lane slot s = .next t) (hs : s.sound = true) :
    t.sound = true := by
  obtain ⟨h1, h2, h3⟩ := State.sound_iff.mp hs
  refine onUnit_sound h (State.sound_iff.mpr ?_)
  simp (maxDischargeDepth := 40) [*]

theorem execLaneDown_sound (port lane cause : Nat) (s t : State)
    (h : execLaneDown port lane cause s = .next t) (hs : s.sound = true) : t.sound = true := by
  obtain ⟨h1, h2, h3⟩ := State.sound_iff.mp hs
  refine onUnit_sound h (State.sound_iff.mpr ?_)
  simp (maxDischargeDepth := 40) [*]

theorem execLaneRetrainDone_sound (port lane : Nat) (full ok : Bool) (s t : State)
    (h : execLaneRetrainDone port lane full ok s = .next t) (hs : s.sound = true) : t.sound = true := by
  obtain ⟨h1, h2, h3⟩ := State.sound_iff.mp hs
  refine onUnit_sound h (State.sound_iff.mpr ?_)
  simp (maxDischargeDepth := 40) [*]

theorem execRetrain_sound (v : Via) (port value : Nat) (s t : State)
    (h : execRetrain v port value s = .next t) (hs : s.sound = true) : t.sound = true := by
  obtain ⟨h1, h2, h3⟩ := State.sound_iff.mp hs
  refine onUnit_sound h (State.sound_iff.mpr ?_)
  simp (maxDischargeDepth := 40) +contextual [*]

theorem execPartnerChange_sound (port deviceId partnerPort : Nat) (s t : State)
    (h : execPartnerChange port deviceId partnerPort s = .next t) (hs : s.sound = true) : t.sound = true := by
  obtain ⟨h1, h2, h3⟩ := State.sound_iff.mp hs
  refine onUnit_sound h (State.sound_iff.mpr ?_)
  simp (maxDischargeDepth := 40) [*]

theorem execTrainingPhase_sound (port word : Nat) (s t : State)
    (h : execTrainingPhase port word s = .next t) (hs : s.sound = true) : t.sound = true := by
  obtain ⟨h1, h2, h3⟩ := State.sound_iff.mp hs
  refine onUnit_sound h (State.sound_iff.mpr ?_)
  simp (maxDischargeDepth := 40) [*]

theorem execTrainingTimeout_sound (port : Nat) (s t : State) (h : execTrainingTimeout port s = .next t)
    (hs : s.sound = true) : t.sound = true := by
  obtain ⟨h1, h2, h3⟩ := State.sound_iff.mp hs
  refine onUnit_sound h (State.sound_iff.mpr ?_)
  simp (maxDischargeDepth := 40) [*]

theorem execPortRoleMismatch_sound (port partnerRole partnerDevice : Nat) (s t : State)
    (h : execPortRoleMismatch port partnerRole partnerDevice s = .next t) (hs : s.sound = true) : t.sound = true := by
  obtain ⟨h1, h2, h3⟩ := State.sound_iff.mp hs
  refine onUnit_sound h (State.sound_iff.mpr ?_)
  simp (maxDischargeDepth := 40) [*]

theorem execDelayProbe_sound (port roundTrip8 turnaround8 : Nat) (s t : State)
    (h : execDelayProbe port roundTrip8 turnaround8 s = .next t) (hs : s.sound = true) : t.sound = true := by
  obtain ⟨h1, h2, h3⟩ := State.sound_iff.mp hs
  refine onUnit_sound h (State.sound_iff.mpr ?_)
  simp (maxDischargeDepth := 40) [*]

theorem execEdgeBlockFailure_sound (edge : Nat) (s t : State) (h : execEdgeBlockFailure edge s = .next t)
    (hs : s.sound = true) : t.sound = true := by
  obtain ⟨h1, h2, h3⟩ := State.sound_iff.mp hs
  refine onUnit_sound h (State.sound_iff.mpr ?_)
  simp (maxDischargeDepth := 40) [*]

theorem execEdgeRetrain_sound (edge : Nat) (s t : State) (h : execEdgeRetrain edge s = .next t)
    (hs : s.sound = true) : t.sound = true := by
  obtain ⟨h1, h2, h3⟩ := State.sound_iff.mp hs
  refine onUnit_sound h (State.sound_iff.mpr ?_)
  simp (maxDischargeDepth := 40) [*]

theorem execEdgeLossOfLock_sound (edge : Nat) (s t : State) (h : execEdgeLossOfLock edge s = .next t)
    (hs : s.sound = true) : t.sound = true := by
  obtain ⟨h1, h2, h3⟩ := State.sound_iff.mp hs
  refine onUnit_sound h (State.sound_iff.mpr ?_)
  simp (maxDischargeDepth := 40) [*]

theorem execEdgeRetrainDone_sound (edge : Nat) (s t : State) (h : execEdgeRetrainDone edge s = .next t)
    (hs : s.sound = true) : t.sound = true := by
  obtain ⟨h1, h2, h3⟩ := State.sound_iff.mp hs
  refine onUnit_sound h (State.sound_iff.mpr ?_)
  simp (maxDischargeDepth := 40) [*]

theorem execSlotClearingDone_sound (slot : Nat) (s t : State) (h : execSlotClearingDone slot s = .next t)
    (hs : s.sound = true) : t.sound = true := by
  obtain ⟨h1, h2, h3⟩ := State.sound_iff.mp hs
  refine onUnit_sound h (State.sound_iff.mpr ?_)
  simp (maxDischargeDepth := 40) [*]

theorem execSlotStampingDone_sound (slot : Nat) (s t : State) (h : execSlotStampingDone slot s = .next t)
    (hs : s.sound = true) : t.sound = true := by
  obtain ⟨h1, h2, h3⟩ := State.sound_iff.mp hs
  refine onUnit_sound h (State.sound_iff.mpr ?_)
  simp (maxDischargeDepth := 40) [*]

theorem execHandoffSwap_sound (cluster : Nat) (s t : State) (h : execHandoffSwap cluster s = .next t)
    (hs : s.sound = true) : t.sound = true := by
  obtain ⟨h1, h2, h3⟩ := State.sound_iff.mp hs
  refine onUnit_sound h (State.sound_iff.mpr ?_)
  simp (maxDischargeDepth := 40) [*]

theorem execTrowelFault_sound (cluster cause : Nat) (s t : State)
    (h : execTrowelFault cluster cause s = .next t) (hs : s.sound = true) : t.sound = true := by
  obtain ⟨h1, h2, h3⟩ := State.sound_iff.mp hs
  refine onUnit_sound h (State.sound_iff.mpr ?_)
  simp (maxDischargeDepth := 40) [*]

theorem execTrowelRestartDone_sound (cluster : Nat) (s t : State)
    (h : execTrowelRestartDone cluster s = .next t) (hs : s.sound = true) : t.sound = true := by
  obtain ⟨h1, h2, h3⟩ := State.sound_iff.mp hs
  refine onUnit_sound h (State.sound_iff.mpr ?_)
  simp (maxDischargeDepth := 40) [*]

theorem execBankSwap_sound (s t : State) (h : execBankSwap s = .next t) (hs : s.sound = true) :
    t.sound = true := by
  obtain ⟨h1, h2, h3⟩ := State.sound_iff.mp hs
  refine done_sound h (State.sound_iff.mpr ?_)
  simp (maxDischargeDepth := 40) [*]

theorem execSwapArm_sound (v : Via) (value : Nat) (s t : State) (h : execSwapArm v value s = .next t)
    (hs : s.sound = true) : t.sound = true := by
  obtain ⟨h1, h2, h3⟩ := State.sound_iff.mp hs
  refine done_sound h (State.sound_iff.mpr ?_)
  simp (maxDischargeDepth := 40) +contextual [*]

theorem execQuoinCourse_sound (s t : State) (h : execQuoinCourse s = .next t) (hs : s.sound = true) :
    t.sound = true := by
  obtain ⟨h1, h2, h3⟩ := State.sound_iff.mp hs
  refine done_sound h (State.sound_iff.mpr ?_)
  simp (maxDischargeDepth := 40) [*]

theorem execCorrectedThreshold_sound (cluster position : Nat) (s t : State)
    (h : execCorrectedThreshold cluster position s = .next t) (hs : s.sound = true) : t.sound = true := by
  obtain ⟨h1, h2, h3⟩ := State.sound_iff.mp hs
  refine onUnit_sound h (State.sound_iff.mpr ?_)
  simp (maxDischargeDepth := 40) [*]

theorem execSubstituteCore_sound (v : Via) (value : Nat) (s t : State)
    (h : execSubstituteCore v value s = .next t) (hs : s.sound = true) : t.sound = true := by
  obtain ⟨h1, h2, h3⟩ := State.sound_iff.mp hs
  refine done_sound h (State.sound_iff.mpr ?_)
  simp (maxDischargeDepth := 40) +contextual [*]

theorem execMaintenanceMicrostep_sound (cluster bytes : Nat) (s t : State)
    (h : execMaintenanceMicrostep cluster bytes s = .next t) (hs : s.sound = true) : t.sound = true := by
  obtain ⟨h1, h2, h3⟩ := State.sound_iff.mp hs
  refine onUnit_sound h (State.sound_iff.mpr ?_)
  simp (maxDischargeDepth := 40) [*]

theorem execSubstitutionRegisterCopy_sound (cluster : Nat) (fits : Bool) (s t : State)
    (h : execSubstitutionRegisterCopy cluster fits s = .next t) (hs : s.sound = true) : t.sound = true := by
  obtain ⟨h1, h2, h3⟩ := State.sound_iff.mp hs
  refine onUnit_sound h (State.sound_iff.mpr ?_)
  simp (maxDischargeDepth := 40) [*]

theorem execSubstitutionSwap_sound (cluster : Nat) (s t : State)
    (h : execSubstitutionSwap cluster s = .next t) (hs : s.sound = true) : t.sound = true := by
  obtain ⟨h1, h2, h3⟩ := State.sound_iff.mp hs
  refine onUnit_sound h (State.sound_iff.mpr ?_)
  simp (maxDischargeDepth := 40) [*]

theorem execSpareFault_sound (cluster : Nat) (s t : State) (h : execSpareFault cluster s = .next t)
    (hs : s.sound = true) : t.sound = true := by
  obtain ⟨h1, h2, h3⟩ := State.sound_iff.mp hs
  refine onUnit_sound h (State.sound_iff.mpr ?_)
  simp (maxDischargeDepth := 40) [*]

theorem execRetireCluster_sound (v : Via) (value : Nat) (s t : State)
    (h : execRetireCluster v value s = .next t) (hs : s.sound = true) : t.sound = true := by
  obtain ⟨h1, h2, h3⟩ := State.sound_iff.mp hs
  refine done_sound h (State.sound_iff.mpr ?_)
  simp (maxDischargeDepth := 40) +contextual [*]

theorem execDueCheck_sound (s t : State) (h : execDueCheck s = .next t) (hs : s.sound = true) :
    t.sound = true := by
  obtain ⟨h1, h2, h3⟩ := State.sound_iff.mp hs
  refine done_sound h (State.sound_iff.mpr ?_)
  simp (maxDischargeDepth := 40) [*]

theorem execPlanStalled_sound (s t : State) (h : execPlanStalled s = .next t) (hs : s.sound = true) :
    t.sound = true := by
  obtain ⟨h1, h2, h3⟩ := State.sound_iff.mp hs
  refine done_sound h (State.sound_iff.mpr ?_)
  simp (maxDischargeDepth := 40) [*]

theorem execCourseStart_sound (s t : State) (h : execCourseStart s = .next t) (hs : s.sound = true) :
    t.sound = true := by
  obtain ⟨h1, h2, h3⟩ := State.sound_iff.mp hs
  refine done_sound h (State.sound_iff.mpr ?_)
  simp (maxDischargeDepth := 40) [*]

theorem execEpochCourse_sound (phase8 keeperOffset : Int) (ber : List (Nat × Nat)) (s t : State)
    (h : execEpochCourse phase8 keeperOffset ber s = .next t) (hs : s.sound = true) : t.sound = true := by
  obtain ⟨h1, h2, h3⟩ := State.sound_iff.mp hs
  refine done_sound h (State.sound_iff.mpr ?_)
  simp (maxDischargeDepth := 40) [*]

theorem execLaunchCourseWrite_sound (v : Via) (value : Nat) (s t : State)
    (h : execLaunchCourseWrite v value s = .next t) (hs : s.sound = true) : t.sound = true := by
  obtain ⟨h1, h2, h3⟩ := State.sound_iff.mp hs
  refine done_sound h (State.sound_iff.mpr ?_)
  simp (maxDischargeDepth := 40) +contextual [*]

theorem execLaunch_sound (s t : State) (h : execLaunch s = .next t) (hs : s.sound = true) :
    t.sound = true := by
  obtain ⟨h1, h2, h3⟩ := State.sound_iff.mp hs
  refine done_sound h (State.sound_iff.mpr ?_)
  simp (maxDischargeDepth := 40) [*]

end Sys2Proof.Machine
end

