-- ==== Sys2Proof/Laws/SoundService.lean ====
section
/-! SUPPORT. Every command keeps a sound state sound: loading, serving, ingress and host access. -/

namespace Sys2Proof.Machine

theorem execLoadGeneration_sound (v : Via) (value : Nat) (s t : State)
    (h : execLoadGeneration v value s = .next t) (hs : s.sound = true) : t.sound = true := by
  obtain ⟨h1, h2, h3⟩ := State.sound_iff.mp hs
  refine done_sound h (State.sound_iff.mpr ?_)
  simp (maxDischargeDepth := 40) +contextual [*]

theorem execLoadAdapter_sound (v : Via) (value : Nat) (s t : State)
    (h : execLoadAdapter v value s = .next t) (hs : s.sound = true) : t.sound = true := by
  obtain ⟨h1, h2, h3⟩ := State.sound_iff.mp hs
  refine done_sound h (State.sound_iff.mpr ?_)
  simp (maxDischargeDepth := 40) +contextual [*]

theorem execCreditSend_sound (s t : State) (h : execCreditSend s = .next t) (hs : s.sound = true) :
    t.sound = true := by
  obtain ⟨h1, h2, h3⟩ := State.sound_iff.mp hs
  refine done_sound h (State.sound_iff.mpr ?_)
  simp (maxDischargeDepth := 40) [*]

theorem execLoadAbort_sound (v : Via) (value : Nat) (s t : State) (h : execLoadAbort v value s = .next t)
    (hs : s.sound = true) : t.sound = true := by
  obtain ⟨h1, h2, h3⟩ := State.sound_iff.mp hs
  refine done_sound h (State.sound_iff.mpr ?_)
  simp (maxDischargeDepth := 40) +contextual [*]

theorem execWeightRecord_sound (s t : State) (h : execWeightRecord s = .next t) (hs : s.sound = true) :
    t.sound = true := by
  obtain ⟨h1, h2, h3⟩ := State.sound_iff.mp hs
  refine done_sound h (State.sound_iff.mpr ?_)
  simp (maxDischargeDepth := 40) [*]

theorem execCreditMessage_sound (message : Bytes) (s t : State) (h : execCreditMessage message s = .next t)
    (hs : s.sound = true) : t.sound = true := by
  obtain ⟨h1, h2, h3⟩ := State.sound_iff.mp hs
  refine done_sound h (State.sound_iff.mpr ?_)
  simp (maxDischargeDepth := 40) [*]

theorem execSwitchCourse_sound (v : Via) (value : Nat) (s t : State)
    (h : execSwitchCourse v value s = .next t) (hs : s.sound = true) : t.sound = true := by
  obtain ⟨h1, h2, h3⟩ := State.sound_iff.mp hs
  refine done_sound h (State.sound_iff.mpr ?_)
  simp (maxDischargeDepth := 40) +contextual [*]

theorem execGenerationSwitch_sound (s t : State) (h : execGenerationSwitch s = .next t)
    (hs : s.sound = true) : t.sound = true := by
  obtain ⟨h1, h2, h3⟩ := State.sound_iff.mp hs
  refine done_sound h (State.sound_iff.mpr ?_)
  simp (maxDischargeDepth := 40) [*]

theorem execGenerationDiscard_sound (v : Via) (value : Nat) (s t : State)
    (h : execGenerationDiscard v value s = .next t) (hs : s.sound = true) : t.sound = true := by
  obtain ⟨h1, h2, h3⟩ := State.sound_iff.mp hs
  refine done_sound h (State.sound_iff.mpr ?_)
  simp (maxDischargeDepth := 40) +contextual [*]

theorem execAdapterUnload_sound (v : Via) (value : Nat) (s t : State)
    (h : execAdapterUnload v value s = .next t) (hs : s.sound = true) : t.sound = true := by
  obtain ⟨h1, h2, h3⟩ := State.sound_iff.mp hs
  refine done_sound h (State.sound_iff.mpr ?_)
  simp (maxDischargeDepth := 40) +contextual [*]

theorem execBar2Write_sound (offset : Nat) (data : Bytes) (s t : State)
    (h : execBar2Write offset data s = .next t) (hs : s.sound = true) : t.sound = true := by
  obtain ⟨h1, h2, h3⟩ := State.sound_iff.mp hs
  refine done_sound h (State.sound_iff.mpr ?_)
  simp (maxDischargeDepth := 40) [*]

theorem execPlanLoad_sound (v : Via) (value : Nat) (s t : State) (h : execPlanLoad v value s = .next t)
    (hs : s.sound = true) : t.sound = true := by
  obtain ⟨h1, h2, h3⟩ := State.sound_iff.mp hs
  refine done_sound h (State.sound_iff.mpr ?_)
  simp (maxDischargeDepth := 40) +contextual [*]

theorem execPlanLoaderDone_sound (schedule : Schedule) (s t : State)
    (h : execPlanLoaderDone schedule s = .next t) (hs : s.sound = true) : t.sound = true := by
  obtain ⟨h1, h2, h3⟩ := State.sound_iff.mp hs
  refine done_sound h (State.sound_iff.mpr ?_)
  simp (maxDischargeDepth := 40) [*]

theorem execPlanDiscard_sound (v : Via) (value : Nat) (s t : State)
    (h : execPlanDiscard v value s = .next t) (hs : s.sound = true) : t.sound = true := by
  obtain ⟨h1, h2, h3⟩ := State.sound_iff.mp hs
  refine done_sound h (State.sound_iff.mpr ?_)
  simp (maxDischargeDepth := 40) +contextual [*]

theorem execPlanHalt_sound (v : Via) (value : Nat) (s t : State) (h : execPlanHalt v value s = .next t)
    (hs : s.sound = true) : t.sound = true := by
  obtain ⟨h1, h2, h3⟩ := State.sound_iff.mp hs
  refine done_sound h (State.sound_iff.mpr ?_)
  simp (maxDischargeDepth := 40) +contextual [*]

theorem execUnitMapChange_sound (s t : State) (h : execUnitMapChange s = .next t) (hs : s.sound = true) :
    t.sound = true := by
  obtain ⟨h1, h2, h3⟩ := State.sound_iff.mp hs
  refine done_sound h (State.sound_iff.mpr ?_)
  simp (maxDischargeDepth := 40) [*]

theorem execTokenRecord_sound (record : Bytes) (s t : State) (h : execTokenRecord record s = .next t)
    (hs : s.sound = true) : t.sound = true := by
  obtain ⟨h1, h2, h3⟩ := State.sound_iff.mp hs
  refine done_sound h (State.sound_iff.mpr ?_)
  simp (maxDischargeDepth := 40) [*]

theorem execRecordSend_sound (qp : Nat) (s t : State) (h : execRecordSend qp s = .next t)
    (hs : s.sound = true) : t.sound = true := by
  obtain ⟨h1, h2, h3⟩ := State.sound_iff.mp hs
  refine onUnit_sound h (State.sound_iff.mpr ?_)
  simp (maxDischargeDepth := 40) [*]

theorem execDescriptor_sound (qp : Nat) (message : Bytes) (s t : State)
    (h : execDescriptor qp message s = .next t) (hs : s.sound = true) : t.sound = true := by
  obtain ⟨h1, h2, h3⟩ := State.sound_iff.mp hs
  refine onUnit_sound h (State.sound_iff.mpr ?_)
  simp (maxDischargeDepth := 40) [*]

theorem execBatchBuild_sound (s t : State) (h : execBatchBuild s = .next t) (hs : s.sound = true) :
    t.sound = true := by
  obtain ⟨h1, h2, h3⟩ := State.sound_iff.mp hs
  refine done_sound h (State.sound_iff.mpr ?_)
  simp (maxDischargeDepth := 40) [*]

theorem execOrderBatch_sound (qp : Nat) (message : Bytes) (s t : State)
    (h : execOrderBatch qp message s = .next t) (hs : s.sound = true) : t.sound = true := by
  obtain ⟨h1, h2, h3⟩ := State.sound_iff.mp hs
  refine onUnit_sound h (State.sound_iff.mpr ?_)
  simp (maxDischargeDepth := 40) [*]

theorem execOrderApply_sound (s t : State) (h : execOrderApply s = .next t) (hs : s.sound = true) :
    t.sound = true := by
  obtain ⟨h1, h2, h3⟩ := State.sound_iff.mp hs
  refine done_sound h (State.sound_iff.mpr ?_)
  simp (maxDischargeDepth := 40) [*]

theorem execAbortReport_sound (qp : Nat) (message : Bytes) (s t : State)
    (h : execAbortReport qp message s = .next t) (hs : s.sound = true) : t.sound = true := by
  obtain ⟨h1, h2, h3⟩ := State.sound_iff.mp hs
  refine onUnit_sound h (State.sound_iff.mpr ?_)
  simp (maxDischargeDepth := 40) [*]

theorem execBondReport_sound (qp : Nat) (message : Bytes) (s t : State)
    (h : execBondReport qp message s = .next t) (hs : s.sound = true) : t.sound = true := by
  obtain ⟨h1, h2, h3⟩ := State.sound_iff.mp hs
  refine onUnit_sound h (State.sound_iff.mpr ?_)
  simp (maxDischargeDepth := 40) [*]

theorem execGovernorEvaluation_sound (unprocessed : Nat) (s t : State)
    (h : execGovernorEvaluation unprocessed s = .next t) (hs : s.sound = true) : t.sound = true := by
  obtain ⟨h1, h2, h3⟩ := State.sound_iff.mp hs
  refine done_sound h (State.sound_iff.mpr ?_)
  simp (maxDischargeDepth := 40) [*]

theorem execPlanHalted_sound (s t : State) (h : execPlanHalted s = .next t) (hs : s.sound = true) :
    t.sound = true := by
  obtain ⟨h1, h2, h3⟩ := State.sound_iff.mp hs
  refine done_sound h (State.sound_iff.mpr ?_)
  simp (maxDischargeDepth := 40) [*]

theorem execIngressRecord_sound (qp window : Nat) (record : Bytes) (s t : State)
    (h : execIngressRecord qp window record s = .next t) (hs : s.sound = true) : t.sound = true := by
  obtain ⟨h1, h2, h3⟩ := State.sound_iff.mp hs
  refine onUnit_sound h (State.sound_iff.mpr ?_)
  simp (maxDischargeDepth := 40) [*]

theorem execQpConfig_sound (v : Via) (value : Bytes) (s t : State) (h : execQpConfig v value s = .next t)
    (hs : s.sound = true) : t.sound = true := by
  obtain ⟨h1, h2, h3⟩ := State.sound_iff.mp hs
  refine done_sound h (State.sound_iff.mpr ?_)
  simp (maxDischargeDepth := 40) +contextual [*]

theorem execQpReset_sound (v : Via) (value : Nat) (s t : State) (h : execQpReset v value s = .next t)
    (hs : s.sound = true) : t.sound = true := by
  obtain ⟨h1, h2, h3⟩ := State.sound_iff.mp hs
  refine done_sound h (State.sound_iff.mpr ?_)
  simp (maxDischargeDepth := 40) +contextual [*]

theorem execQpRetryTimeout_sound (qp : Nat) (s t : State) (h : execQpRetryTimeout qp s = .next t)
    (hs : s.sound = true) : t.sound = true := by
  obtain ⟨h1, h2, h3⟩ := State.sound_iff.mp hs
  refine onUnit_sound h (State.sound_iff.mpr ?_)
  simp (maxDischargeDepth := 40) [*]

theorem execRdmaWrite_sound (qp address rkey : Nat) (data : Bytes) (s t : State)
    (h : execRdmaWrite qp address rkey data s = .next t) (hs : s.sound = true) : t.sound = true := by
  obtain ⟨h1, h2, h3⟩ := State.sound_iff.mp hs
  refine onUnit_sound h (State.sound_iff.mpr ?_)
  simp (maxDischargeDepth := 40) [*]

theorem execRocePacket_sound (ingress qpn : Nat) (op : RoceOp) (icrcOk ce : Bool) (s t : State)
    (h : execRocePacket ingress qpn op icrcOk ce s = .next t) (hs : s.sound = true) : t.sound = true := by
  obtain ⟨h1, h2, h3⟩ := State.sound_iff.mp hs
  refine onUnit_sound h (State.sound_iff.mpr ?_)
  simp (maxDischargeDepth := 40) [*]

theorem execEthFrame_sound (ingress : Nat) (frame : EthFrame) (s t : State)
    (h : execEthFrame ingress frame s = .next t) (hs : s.sound = true) : t.sound = true := by
  obtain ⟨h1, h2, h3⟩ := State.sound_iff.mp hs
  refine onUnit_sound h (State.sound_iff.mpr ?_)
  simp (maxDischargeDepth := 40) [*]

theorem execTxSak_sound (v : Via) (ingress : Nat) (value : Bytes) (s t : State)
    (h : execTxSak v ingress value s = .next t) (hs : s.sound = true) : t.sound = true := by
  obtain ⟨h1, h2, h3⟩ := State.sound_iff.mp hs
  refine onUnit_sound h (State.sound_iff.mpr ?_)
  simp (maxDischargeDepth := 40) +contextual [*]

theorem execRxSak_sound (v : Via) (ingress : Nat) (value : Bytes) (s t : State)
    (h : execRxSak v ingress value s = .next t) (hs : s.sound = true) : t.sound = true := by
  obtain ⟨h1, h2, h3⟩ := State.sound_iff.mp hs
  refine onUnit_sound h (State.sound_iff.mpr ?_)
  simp (maxDischargeDepth := 40) +contextual [*]

theorem execIngressLinkChange_sound (ingress : Nat) (up : Bool) (s t : State)
    (h : execIngressLinkChange ingress up s = .next t) (hs : s.sound = true) : t.sound = true := by
  obtain ⟨h1, h2, h3⟩ := State.sound_iff.mp hs
  refine onUnit_sound h (State.sound_iff.mpr ?_)
  simp (maxDischargeDepth := 40) [*]

theorem execFunctionReset_sound (kind : FunctionReset) (s t : State)
    (h : execFunctionReset kind s = .next t) (hs : s.sound = true) : t.sound = true := by
  cases kind <;> exact done_sound h (by
    obtain ⟨h1, h2, h3⟩ := State.sound_iff.mp hs
    exact State.sound_iff.mpr (by simp [*]))

theorem execPcieLinkChange_sound (state rate width : Nat) (s t : State)
    (h : execPcieLinkChange state rate width s = .next t) (hs : s.sound = true) : t.sound = true := by
  obtain ⟨h1, h2, h3⟩ := State.sound_iff.mp hs
  refine onUnit_sound h (State.sound_iff.mpr ?_)
  simp (maxDischargeDepth := 40) [*]

theorem execIdeKmExchange_sound (active : Bool) (s t : State) (h : execIdeKmExchange active s = .next t)
    (hs : s.sound = true) : t.sound = true := by
  obtain ⟨h1, h2, h3⟩ := State.sound_iff.mp hs
  refine done_sound h (State.sound_iff.mpr ?_)
  simp (maxDischargeDepth := 40) [*]

theorem execClaim_sound (node : Nat) (chainIn : Bool) (s t : State) (h : execClaim node chainIn s = .next t)
    (hs : s.sound = true) : t.sound = true := by
  obtain ⟨h1, h2, h3⟩ := State.sound_iff.mp hs
  refine done_sound h (State.sound_iff.mpr ?_)
  simp (maxDischargeDepth := 40) [*]

theorem execConfirm_sound (node : Nat) (serial : Bytes) (s t : State)
    (h : execConfirm node serial s = .next t) (hs : s.sound = true) : t.sound = true := by
  obtain ⟨h1, h2, h3⟩ := State.sound_iff.mp hs
  refine done_sound h (State.sound_iff.mpr ?_)
  simp (maxDischargeDepth := 40) [*]

theorem execClaimTimeout_sound (s t : State) (h : execClaimTimeout s = .next t) (hs : s.sound = true) :
    t.sound = true := by
  obtain ⟨h1, h2, h3⟩ := State.sound_iff.mp hs
  refine done_sound h (State.sound_iff.mpr ?_)
  simp (maxDischargeDepth := 40) [*]

theorem execDeviceIdWrite_sound (v : Via) (value : Nat) (s t : State)
    (h : execDeviceIdWrite v value s = .next t) (hs : s.sound = true) : t.sound = true := by
  obtain ⟨h1, h2, h3⟩ := State.sound_iff.mp hs
  refine done_sound h (State.sound_iff.mpr ?_)
  simp (maxDischargeDepth := 40) +contextual [*]

theorem execNoticeRaise_sound (code cls source : Nat) (payload : Bytes) (s t : State)
    (h : execNoticeRaise code cls source payload s = .next t) (hs : s.sound = true) : t.sound = true := by
  obtain ⟨h1, h2, h3⟩ := State.sound_iff.mp hs
  refine onUnit_sound h (State.sound_iff.mpr ?_)
  simp (maxDischargeDepth := 40) [*]

theorem execNoticeSendChain_sound (s t : State) (h : execNoticeSendChain s = .next t)
    (hs : s.sound = true) : t.sound = true := by
  obtain ⟨h1, h2, h3⟩ := State.sound_iff.mp hs
  refine done_sound h (State.sound_iff.mpr ?_)
  simp (maxDischargeDepth := 40) [*]

theorem execNoticeRingWrite_sound (ok : Bool) (s t : State) (h : execNoticeRingWrite ok s = .next t)
    (hs : s.sound = true) : t.sound = true := by
  obtain ⟨h1, h2, h3⟩ := State.sound_iff.mp hs
  refine done_sound h (State.sound_iff.mpr ?_)
  simp (maxDischargeDepth := 40) [*]

theorem execRingControl_sound (value : Nat) (s t : State) (h : execRingControl value s = .next t)
    (hs : s.sound = true) : t.sound = true := by
  obtain ⟨h1, h2, h3⟩ := State.sound_iff.mp hs
  refine done_sound h (State.sound_iff.mpr ?_)
  simp (maxDischargeDepth := 40) [*]

theorem execReadSegment_sound (v : Via) (index sub typ offset : Nat) (s t : State)
    (h : execReadSegment v index sub typ offset s = .next t) (hs : s.sound = true) : t.sound = true := by
  obtain ⟨h1, h2, h3⟩ := State.sound_iff.mp hs
  refine done_sound h (State.sound_iff.mpr ?_)
  simp (maxDischargeDepth := 40) [*]

theorem execRegisterWrite_sound (v : Via) (index sub typ offset total : Nat) (last : Bool) (value : Bytes)
    (s t : State) (h : execRegisterWrite v index sub typ offset total last value s = .next t)
    (hs : s.sound = true) : t.sound = true := by
  obtain ⟨h1, h2, h3⟩ := State.sound_iff.mp hs
  refine done_sound h (State.sound_iff.mpr ?_)
  simp (maxDischargeDepth := 40) [*]

theorem execDescribe_sound (v : Via) (index sub : Nat) (s t : State)
    (h : execDescribe v index sub s = .next t) (hs : s.sound = true) : t.sound = true := by
  obtain ⟨h1, h2, h3⟩ := State.sound_iff.mp hs
  refine done_sound h (State.sound_iff.mpr ?_)
  simp (maxDischargeDepth := 40) [*]

theorem execNextEntry_sound (v : Via) (index sub : Nat) (s t : State)
    (h : execNextEntry v index sub s = .next t) (hs : s.sound = true) : t.sound = true := by
  obtain ⟨h1, h2, h3⟩ := State.sound_iff.mp hs
  refine done_sound h (State.sound_iff.mpr ?_)
  simp (maxDischargeDepth := 40) [*]

theorem execDebugRead_sound (v : Via) (s t : State) (h : execDebugRead v s = .next t)
    (hs : s.sound = true) : t.sound = true := by
  obtain ⟨h1, h2, h3⟩ := State.sound_iff.mp hs
  refine done_sound h (State.sound_iff.mpr ?_)
  simp (maxDischargeDepth := 40) [*]

theorem execWriteSegmentTimeout_sound (v : Via) (s t : State) (h : execWriteSegmentTimeout v s = .next t)
    (hs : s.sound = true) : t.sound = true := by
  obtain ⟨h1, h2, h3⟩ := State.sound_iff.mp hs
  refine done_sound h (State.sound_iff.mpr ?_)
  simp (maxDischargeDepth := 40) [*]

theorem execDictionaryFrame_sound (mac : Nat) (frame : Bytes) (s t : State)
    (h : execDictionaryFrame mac frame s = .next t) (hs : s.sound = true) : t.sound = true := by
  obtain ⟨h1, h2, h3⟩ := State.sound_iff.mp hs
  refine done_sound h (State.sound_iff.mpr ?_)
  simp (maxDischargeDepth := 40) [*]

theorem execGatewaySubmit_sound (slot : Nat) (s t : State) (h : execGatewaySubmit slot s = .next t)
    (hs : s.sound = true) : t.sound = true := by
  obtain ⟨h1, h2, h3⟩ := State.sound_iff.mp hs
  refine onUnit_sound h (State.sound_iff.mpr ?_)
  simp (maxDischargeDepth := 40) [*]

theorem execBar0Write_sound (offset length value : Nat) (s t : State)
    (h : execBar0Write offset length value s = .next t) (hs : s.sound = true) : t.sound = true := by
  obtain ⟨h1, h2, h3⟩ := State.sound_iff.mp hs
  refine onUnit_sound h (State.sound_iff.mpr ?_)
  simp (maxDischargeDepth := 40) [*]

theorem execKeystoneRestartDone_sound (s t : State) (h : execKeystoneRestartDone s = .next t)
    (hs : s.sound = true) : t.sound = true := by
  obtain ⟨h1, h2, h3⟩ := State.sound_iff.mp hs
  refine done_sound h (State.sound_iff.mpr ?_)
  simp (maxDischargeDepth := 40) [*]

end Sys2Proof.Machine
end

