-- ==== Sys2Proof/Tests/Slice0.lean ====
section
/-! SUPPORT. Tests of the model, and for each statement with hypotheses a witness that meets them. -/

namespace Sys2Proof.Tests

open Sys2Proof.Machine

-- The kernel evaluates these one after another.
set_option Elab.async false

/-! ### Small states -/

/-- The state after reset. -/
def tState : State := State.reset

/-- A work course of a plan is in progress. -/
def tWork : State := { tState with prog := { tState.prog with running := true, kind := .work 0 } }

/-- A queue of core 0, at cycle 0. -/
def tIssue (queue : Nat) : Issue := queueAt 0 queue

/-- Fields of zeros. -/
def tFields : Fields := { dst := 0, srcA := 0, srcB := 0, fmt := 0, flags := 0, imm := 0 }

/-- Core 0 with one queue as given. -/
def tQueue (queue : Nat) (v : QueueState) : State := tWork.setCore 0 (Core.empty.setQueue queue v)

/-- Core 0 inside a routine. -/
def tCalling (queue : Nat) : State := tQueue queue { QueueState.idle with calls := [⟨16, 1, 2, 3, 1, 7⟩] }

/-- A core whose hods hold as many entries of zeros as given. -/
def tHods (core : Nat) (l : List (Nat × Nat)) : State :=
  tWork.setCore core (l.foldl (fun c e => c.setHod e.1 (List.replicate e.2 (zeros 64))) Core.empty)

/-- A tile of E4M3 elements, cut short, with a valid sideband. -/
def tTile : Fill :=
  { address := 0, fmt := 3, shared := true, expected := some 1, batch := none, bytes := sideband false 3 1 0 (crc32c []),
    front := none, arrived := false, verdict := none, flush := false }

/-- Array 0 of core 0 with one fill. -/
def tFill (g : Fill) : State := tWork.setArrayOf 0 0 { ArrayState.empty with fills := [g] }

/-- A plan of nothing. -/
def tPlan : Plan :=
  { digest := [], name := [], segment := 512, defaultVariant := 0, tintSlots := 16, placement := List.range 128,
    canonical := true, bricks := List.range 16, code := [], regions := [], routes := [], trees := [], ties := [],
    levels := [], neighbours := [], landings := [], remotes := [], windows := [], variants := [], shares := [],
    initial := [], batches := [], padded := 0, pinned := 0, worstOverrun := 0, treeNodes := 0, assumed := [], peakEnergy := 0,
    meanEnergy := 0, pendingRetire := none }

/-- A plan runs, in its first course. -/
def tRunning (p : Plan) : State :=
  { tState with
    plan := { tState.plan with running := some p }
    prog := { tState.prog with running := true, kind := .work 0 } }

/-- A slot that holds a Stamped tint. -/
def tSlot : Slot := { Slot.clear with state := 3, tint := 9 }

/-- A plan with an Owned window of slot 5, one tile of it stored under the slot's tint. -/
def tOwned : State :=
  let r : Region :=
    { id := 1, space := 2, kind := 3, brick := 0, cluster := 0, position := 0, group := 0, granule := 16, size := 130,
      fmt := 3, slot := 5, base := moduleAddress 2 0 0 0 1024 }
  (({ tRunning { tPlan with regions := [r] } with
      mem := Memory.write [] (moduleAddress 2 0 0 0 1024) (sideband true 3 0 9 5) } : State)).setSlot 5 tSlot

/-- The shape of MMA. -/
def tMma : Shape :=
  { queues := aQueues, fmts := [0, 1, 2, 3, 4, 5, 6, 9, 10, 11, 12], dst := .unused, srcA := .hod, srcB := .num,
    flags := 15, imm := 0xFFFFFF00 }

/-- The image of a plan of one cluster, whose one core runs a `nop`. -/
def tImage : Bytes :=
  [76, 84, 80, 76, 1, 0, 0, 1, 128, 5] ++ zeros 38 ++ [255, 255, 7, 2, 1, 0, 0, 0, 1, 0, 1, 0, 0, 0, 16, 0, 1, 0,
  16, 0, 0, 0, 8] ++ zeros 185 ++ [1, 0, 1, 0, 1, 0, 0, 0, 128, 1, 0, 0, 4, 0, 0, 0, 2, 0, 1, 0, 8, 0, 0, 0, 192,
  1, 0, 0, 32, 0, 0, 0, 3, 0, 1, 0, 1, 0, 0, 0, 0, 2, 0, 0, 72, 0, 0, 0, 4, 0, 1, 0, 0, 0, 0, 0, 128, 2, 0, 0, 0,
  0, 0, 0, 7, 0, 1, 0, 0, 0, 0, 0, 128, 2, 0, 0, 0, 0, 0, 0, 16, 0, 1, 0, 1, 0, 0, 0, 128, 2, 0, 0, 80, 2, 0, 0,
  17, 0, 1, 0, 16, 0, 0, 0, 0, 5, 0, 0, 64, 0, 0, 0, 18, 0, 1, 0, 1, 0, 0, 0, 64, 5, 0, 0, 2] ++ zeros 131 ++ [1]
  ++ zeros 831 ++ [8] ++ zeros 63

/-- A route to a store of brick 0, and one over the fabric by port 2. -/
def tRoute : Route :=
  { kind := 0, fmt := 0, add := false, source := 0, destDevice := 0, destBrick := 0, destSpace := 0, destCore := 1,
    destGranule := 0, tree := 0xFFFF, node := 0, relays := [], slots := [] }
def tFabric : Route := { tRoute with kind := 2, slots := [{ ordinal := 0, flit := 0, port := 2, lane := 0, slot := 4, offset := 2 }] }

/-- A plan with two routes, two ties and a level. -/
def tRouted : State :=
  let s := tRunning { tPlan with
    code := [(0, [])]
    routes := [tRoute, tFabric]
    ties := [{ device := 0, brick := 0, core := 1, tie := 2, offset := 1, path := 0xFFFF, announced := 0 },
      { device := 5, brick := 0, core := 1, tie := 2, offset := 1, path := 1, announced := 0 }]
    levels := [{ level := 4, rho := 2, rootBrick := 0, rootDevice := 0, parent := none, children := [] }] }
  s.setCore 0 (Core.empty.setHod 1 [zeros 64])

/-- A plan whose landing map expects flit 0 of route 0 in slot 4 of lane 0 of port 2, from course 0. -/
def tLanding : State :=
  tRunning { tPlan with
    routes := [tRoute, { tRoute with destDevice := 9, relays := [0x7FFF, 0] }]
    landings := [{ variant := 0, port := 2, lane := 0, position := 0, slot := 4, route := 0, flit := 0, delta := 2, write := 2 }]
    neighbours := [{ port := 2, partnerDevice := 7, partnerPort := 2, dmax := 10, allowance := 0 }] }

/-- A flit of that slot, one granule of zeros. -/
def tFlit : Bytes :=
  let b := leBytes 4 (4 * 2 ^ 7) ++ zeros 256
  b ++ leBytes 4 (crc32 b)

/-! ### Well-formedness: an ill-formed term for each check -/

theorem test_wf_port : Instr.wellFormed (.delayProbe 64 0 0) = false ∧ Instr.wellFormed (.delayProbe 63 0 0) = true := by decide
theorem test_wf_lane : Instr.wellFormed (.linkRetry 0 8) = false ∧ Instr.wellFormed (.linkRetry 0 7) = true := by decide
theorem test_wf_cluster : Instr.wellFormed (.spareFault 128) = false ∧ Instr.wellFormed (.spareFault 127) = true := by decide
theorem test_wf_position :
    Instr.wellFormed (.correctedThreshold 0 8) = false ∧ Instr.wellFormed (.correctedThreshold 0 7) = true := by decide
theorem test_wf_engine :
    Instr.wellFormed (.tileVerdict 0 5) = false ∧ Instr.wellFormed (.tileVerdict 1023 4) = true := by decide
theorem test_wf_core : Instr.wellFormed (.bundleStart 1024 0) = false ∧ Instr.wellFormed (.bundleStart 1023 0) = true := by
  decide
theorem test_wf_queue : Instr.wellFormed (.bundleStart 0 8) = false ∧ Instr.wellFormed (.bundleStart 0 7) = true := by decide
theorem test_wf_edge : Instr.wellFormed (.edgeRetrain 24) = false ∧ Instr.wellFormed (.edgeRetrain 23) = true := by decide
theorem test_wf_qp : Instr.wellFormed (.recordSend 4096) = false ∧ Instr.wellFormed (.recordSend 4095) = true := by decide
theorem test_wf_role : Instr.wellFormed (.ingressLinkChange 4 true) = false ∧ Instr.wellFormed (.ingressLinkChange 3 true) = true := by decide
theorem test_wf_window : Instr.wellFormed (.ingressRecord 0 16 []) = false ∧ Instr.wellFormed (.ingressRecord 0 15 []) = true := by
  decide
theorem test_wf_slot :
    Instr.wellFormed (.slotClearingDone 4096) = false ∧ Instr.wellFormed (.slotClearingDone 4095) = true := by decide
theorem test_wf_flitSlot : Instr.wellFormed (.flitReceived 0 0 29 [] true 0) = false ∧
    Instr.wellFormed (.flitReceived 0 0 28 [] true 0) = true := by decide
theorem test_wf_gateway : Instr.wellFormed (.gatewaySubmit 16) = false ∧ Instr.wellFormed (.gatewaySubmit 15) = true := by
  decide
theorem test_wf_u8 : Instr.wellFormed (.describe (.pcie 0) 0 256) = false ∧ Instr.wellFormed (.describe (.pcie 0) 0 255) = true := by
  decide
theorem test_wf_u12 : Instr.wellFormed (.relayForward 0 4096 0 0 0 0) = false ∧
    Instr.wellFormed (.relayForward 0 4095 0 0 0 0) = true := by decide
theorem test_wf_u16 :
    Instr.wellFormed (.describe (.pcie 0) 65536 0) = false ∧ Instr.wellFormed (.describe (.pcie 0) 65535 0) = true := by decide
theorem test_wf_u64 :
    Instr.wellFormed (.ringControl (2 ^ 64)) = false ∧ Instr.wellFormed (.ringControl (2 ^ 64 - 1)) = true := by decide
theorem test_wf_word128 :
    Instr.wellFormed (.signalArrival (2 ^ 128)) = false ∧ Instr.wellFormed (.signalArrival (2 ^ 128 - 1)) = true := by decide
theorem test_wf_fields :
    Instr.wellFormed (.nop (tIssue 0) { tFields with dst := 32 }) = false ∧
    Instr.wellFormed (.nop (tIssue 0) { tFields with fmt := 32 }) = false ∧
    Instr.wellFormed (.nop (tIssue 0) { tFields with flags := 16 }) = false ∧
    Instr.wellFormed (.nop (tIssue 0) { tFields with imm := 2 ^ 32 }) = false ∧
    Instr.wellFormed (.nop (tIssue 8) tFields) = false ∧ Instr.wellFormed (.nop (tIssue 7) tFields) = true := by decide

/-! ### Decoding -/

theorem test_decode : decodeTableWord 64 0x20 = none ∧ (State.reset.withFetchWord 64 0x20) = State.reset := ⟨rfl, rfl⟩


/-! ### Witnesses of the statements -/

/-! StepRunsFront -/

theorem test_StepRunsFront_idle : State.reset.pending = [] := rfl

/-! CommandsKeepQueue -/

theorem test_CommandsKeepQueue : exec .powerLoss State.reset = .next (State.reset.cold false .off) := rfl

/-! SoundKept -/

theorem test_SoundKept : State.reset.sound = true ∧ step State.reset = .next State.reset := ⟨rfl, rfl⟩

/-! StoresLeftAlone -/

theorem test_StoresLeftAlone : Instr.storing .courseLocked = false ∧ exec .courseLocked State.reset = .next State.reset :=
  ⟨rfl, rfl⟩

/-! QueueInstructionsRun -/

theorem test_QueueInstructionsRun_nop : (tWork.runs (tIssue 4) tFields (bare allQueues) anyFields) = true := by decide
theorem test_QueueInstructionsRun_wait : (tWork.runs (tIssue 0) { tFields with imm := 2 ^ 20 } (immOnly allQueues 0x1FFFFF)
    (fun g => decide (1 ≤ g.imm ∧ g.imm ≤ 2 ^ 20))) = true := by decide
theorem test_QueueInstructionsRun_plumb : (tWork.runs (tIssue 7) { tFields with imm := 0x00050080 } (immOnly allQueues 0xFFFF00FF)
    (fun g => bit g.imm 7 && (bitList 8 g.imm).all (hasQueue 0) && (tState.queueOf (tIssue 7)).calls.isEmpty)) = true := by decide
theorem test_QueueInstructionsRun_fmode :
    (tWork.runs (tIssue 5) { tFields with flags := 1 } { bare allQueues with flags := 1 } anyFields) = true := by decide
theorem test_QueueInstructionsRun_ret : ((tCalling 4).runs (tIssue 4) tFields (bare engineQueues)
    (fun _ => !((tCalling 4).queueOf (tIssue 4)).calls.isEmpty && (tCalling 4).scratchEmpty (tIssue 4))) = true := by decide
theorem test_QueueInstructionsRun_end : (tWork.runs (tIssue 6) tFields (bare engineQueues)
    (fun _ => (tState.queueOf (tIssue 6)).calls.isEmpty)) = true := by decide

/-! RoutineCalls -/

/-- A Pattern Book whose manifest has routine 0x100, of queue M. -/
def tBook : State := tWork.setBlob Blob.patternBookManifest (u16 0x100 ++ u8 5 ++ zeros 45)

theorem test_RoutineCalls_nop : (tWork.runs (tIssue 4) tFields
    { queues := engineQueues, fmts := List.range 16, dst := .hod, srcA := .hod, srcB := .hod, flags := 0,
      imm := 0xFFFFFFFF } (tState.callOk (tIssue 4))) = true ∧ callNumber tFields = 0 := by decide
theorem test_RoutineCalls_other : (tBook.runs (tIssue 5) { tFields with imm := 0x500 }
    { queues := engineQueues, fmts := List.range 16, dst := .hod, srcA := .hod, srcB := .hod, flags := 0,
      imm := 0xFFFFFFFF } (tBook.callOk (tIssue 5))) = true ∧ 0x100 ≤ callNumber { tFields with imm := 0x500 } := by decide

/-! BundlesAndPlumbs -/

theorem test_BundlesAndPlumbs_rel : (tWork.runs (tIssue 7) { tFields with dst := 6, imm := 9 }
    (qShape .num .unused .unused 0 0xFFF) (fun g => below g.dst 7 && hasQueue 0 g.dst &&
      below (tState.queueOf (queueAt 0 g.dst)).released.length 4)) = true := by decide
theorem test_BundlesAndPlumbs_start : ((tQueue 4 { QueueState.idle with released := [9, 3] }).queueOf (queueAt 0 4)).bundle = none ∧
    ((tQueue 4 { QueueState.idle with released := [9, 3] }).queueOf (queueAt 0 4)).released = [9, 3] := by decide
theorem test_BundlesAndPlumbs_release :
    let s := tQueue 4 { QueueState.idle with plumb := some (5, 16) }
    allQueues.find? (fun j => ((s.core 0).queue j).plumb.any fun p => p.1 == 5 && (s.core 0).arrived 5 p.2) = some 4 ∧
      ((s.core 0).queue 4).plumb = some (5, 16) := by decide

/-! SequencerCounts -/

theorem test_SequencerCounts_set : (tWork.runs (tIssue 7) { tFields with dst := 15, imm := 2 ^ 32 - 1 }
    (qShape .num .unused .unused 0 0xFFFFFFFF) (fun g => below g.dst 16)) = true := by decide
theorem test_SequencerCounts_addc : (tWork.runs (tIssue 7) { tFields with dst := 3, srcA := 15, imm := 2 ^ 32 - 1 }
    (qShape .num .num .unused 0 0xFFFFFFFF) (fun g => below g.dst 16 && below g.srcA 16)) = true := by decide
theorem test_SequencerCounts_kset : (tWork.runs (tIssue 7) { tFields with dst := 7, srcA := 15, flags := 7, imm := 0xFFFF }
    (qShape .num .num .num 7 0xFFFF) (fun g => below g.dst 8 && below g.srcA 16 && below g.srcB 16 &&
      (flagOf g 2 || g.imm == 0) && (!flagOf g 2 || g.srcB == 0))) = true := by decide
theorem test_SequencerCounts_lp : (tWork.runs (tIssue 7) { tFields with srcA := 1, imm := 4 }
    (qShape .num .num .unused 8 0xFFF) (fun g => below g.dst 8 && below g.srcA 16 && (flagOf g 3 || g.dst == 0) &&
      below (tState.core 0).seq.loops.length 4 &&
      (tState.core 0).seq.inBody ((tState.queueOf (tIssue 7)).index + 1 + g.imm))) = true := by decide
theorem test_SequencerCounts_bk : (tWork.runs (tIssue 7) { tFields with imm := 4 } (qShape .num .unused .unused 1 0xFFF)
    (fun g => below g.dst 8 && below (tState.queueOf (tIssue 7)).index g.imm && (tState.core 0).seq.inBody g.imm)) = true := by decide
theorem test_SequencerCounts_wcrs : (tWork.runs (tIssue 7) { tFields with imm := 0x000301FF }
    (qShape .unused .unused .unused 0 0xFFFF01FF)
    (fun g => decide (0 < g.imm / 2 ^ 16 * 512 + g.imm % 512))) = true := by decide
theorem test_SequencerCounts_ao : (tWork.runs (tIssue 7) { tFields with dst := 6, imm := 0x1FFFFFF }
    (qShape .num .num .unused 0 0x1FFFFFF)
    (fun g => (below g.dst 4 || g.dst == 5 || g.dst == 6) && hasQueue 0 g.dst && below g.srcA 16)) = true := by decide

/-! SequencerWaits -/

theorem test_SequencerWaits_twait : (tState.core 0).seq.freeWait = some 0 ∧
    (tWork.runs (tIssue 7) { tFields with srcA := 15, flags := 1, imm := 63 } (qShape .unused .num .unused 1 0x3F)
      (fun g => below g.srcA 16 && (tState.core 0).seq.freeWait.isSome)) = true := by decide
theorem test_SequencerWaits_lvw : (tWork.runs (tIssue 7) { tFields with imm := 255 } (qShape .unused .unused .unused 0 0xFF)
    (fun _ => (tState.core 0).seq.freeWait.isSome)) = true := by decide

/-! LaneArithmetic -/

theorem test_LaneArithmetic_vectors :
    let s := tHods 0 [(1, 4), (2, 4)]
    let f := { tFields with dst := 3, srcA := 1, srcB := 2, fmt := 1 }
    s.runs (tIssue 4) f (vShape .hod 1 0) anyFields = true ∧ flagOf f 0 = false ∧
      (s.issue (tIssue 4) 0x20).holds 0 1 (laneEntries 1) = true ∧
      ((s.issue (tIssue 4) 0x20).popped 0 1 (laneEntries 1)).holds 0 2 (laneEntries 1) = true := by decide
theorem test_LaneArithmetic_scalar :
    let s := tHods 0 [(1, 8), (2, 1)]
    let f := { tFields with dst := 3, srcA := 1, srcB := 2, flags := 1 }
    s.runs (tIssue 4) f (vShape .hod 1 0) anyFields = true ∧ flagOf f 0 = true ∧
      (s.issue (tIssue 4) 0x20).holds 0 1 (laneEntries 0) = true ∧
      ((s.issue (tIssue 4) 0x20).popped 0 1 (laneEntries 0)).holds 0 2 1 = true := by decide

/-! LaneFunctions -/

theorem test_LaneFunctions_sqrt :
    let s := tHods 0 [(1, 8)]
    let f := { tFields with dst := 1, srcA := 1 }
    s.runs (tIssue 4) f (vShape .unused 0 0) anyFields = true ∧ (s.issue (tIssue 4) 0x25).holds 0 1 (laneEntries 0) = true := by
  decide
theorem test_LaneFunctions_fn :
    let s := tHods 0 [(1, 4)]
    let f := { tFields with dst := 1, srcA := 1, fmt := 2, imm := 10 }
    s.runs (tIssue 4) f (vShape .unused 0 0xF) (fun g => (fnOf g.imm).isSome) = true ∧ fnOf f.imm = some .erf ∧
      (s.issue (tIssue 4) 0x28).holds 0 1 (laneEntries 2) = true := by decide
theorem test_LaneFunctions_tbl :
    let s := tHods 0 [(1, 8)]
    let f := { tFields with dst := 1, srcA := 1, imm := 0x1FE0 }
    s.runs (tIssue 4) f (vShape .unused 0 0xFFFFFFFF)
        (fun g => bits g.imm 29 3 == 0 && (s.shortAddress 0 g.imm 1044).any fun a => s.raw a 1044) = true ∧
      (s.issue (tIssue 4) 0x29).holds 0 1 (laneEntries 0) = true := by decide

/-! LaneCombinations -/

theorem test_LaneCombinations_fma :
    let s := tHods 0 [(1, 4), (2, 4), (3, 4)]
    let q := tIssue 4
    let f := { tFields with dst := 5, srcA := 1, srcB := 2, fmt := 1, imm := 3 }
    let t := (s.issue q 0x23).popped 0 1 4
    let v := t.popped 0 2 4
    let x := widenAll (v.vFlush 0) 1 (t.front 0 2 4)
    s.runs q f (vShape .hod 1 0x1F) (fun g => s.immAllowed q g.imm) = true ∧ (s.issue q 0x23).holds 0 1 (laneEntries 1) = true ∧
      t.takesB q f v x.1 x.2 ∧ v.holds 0 (v.immHod q 3) (laneEntries 1) = true :=
  ⟨by decide, by decide, ⟨.inl ⟨by decide, by decide, rfl, rfl, rfl⟩⟩, by decide⟩
theorem test_LaneCombinations_rot :
    let s := tHods 0 [(1, 4), (2, 1), (3, 4), (4, 4)]
    let q := tIssue 4
    let f := { tFields with dst := 5, srcA := 1, srcB := 2, fmt := 1, flags := 1, imm := 0x83 }
    let t := (s.issue q 0x2C).popped 0 1 4
    let v := t.popped 0 2 1
    let x := widen (v.vFlush 0) 0 (field ((t.front 0 2 1).headD []) 0 4)
    s.runs q f (vShape .hod 1 0x3FF) (fun g => s.immAllowed q g.imm && s.immAllowed q (g.imm / 32)) = true ∧ (s.issue q 0x2C).holds 0 1 (laneEntries 1) = true ∧
      t.takesB q f v (List.replicate 128 x.1) x.2 ∧ v.holds 0 (v.immHod q 0x83) (laneEntries 1) = true ∧
      (v.popped 0 3 4).holds 0 (v.immHod q 4) (laneEntries 1) = true :=
  ⟨by decide, by decide, ⟨.inr ⟨by decide, by decide, rfl, rfl, rfl⟩⟩, by decide, by decide⟩

/-! LaneReductions -/

theorem test_LaneReductions_red :
    let s := tHods 0 [(1, 8)]
    let f := { tFields with dst := 2, srcA := 1, fmt := 1, flags := 1, imm := 0x20000 }
    s.runs (tIssue 4) f (vShape .unused 1 0xFFFF0000) chunksOk = true ∧
      (s.issue (tIssue 4) 0x2A).holds 0 1 (chunkCount f * laneEntries 1) = true := by decide
theorem test_LaneReductions_sqa :
    let s := tHods 0 [(1, 8)]
    let f := { tFields with dst := 2, srcA := 1, imm := 0x10000 }
    s.runs (tIssue 4) f (vShape .unused 0 0xFFFF0000) chunksOk = true ∧
      (s.issue (tIssue 4) 0x2B).holds 0 1 (chunkCount f * laneEntries 0) = true ∧
      (s.issue (tIssue 4) 0x2D).holds 0 1 (chunkCount f * laneEntries 0) = true := by decide
theorem test_LaneReductions_topk :
    let s := tHods 0 [(1, 8)]
    let f := { tFields with dst := 2, srcA := 1, imm := 0x10040 }
    s.runs (tIssue 4) f (vShape .unused 0 0xFFFF007F)
        (fun g => chunksOk g && decide (1 ≤ g.imm % 128 ∧ g.imm % 128 ≤ 64)) = true ∧
      (s.issue (tIssue 4) 0x2E).holds 0 1 (chunkCount f * laneEntries 0) = true := by decide

/-! LaneSources -/

theorem test_LaneSources_rng :
    let s := tHods 0 [(1, 1)]
    let f := { tFields with dst := 2, srcA := 1 }
    s.runs (tIssue 4) f { vShape .unused 0 0 with fmts := [] } anyFields = true ∧
      (s.issue (tIssue 4) 0x2F).holds 0 1 1 = true := by decide
theorem test_LaneSources_cvt :
    let s := tHods 0 [(1, 8)]
    let f := { tFields with dst := 28, srcA := 1, flags := 2, imm := 9 }
    s.runs (tIssue 4) f (vShape .unused 3 0x1F) (fun g => cvtTarget g.imm && (!flagOf g 1 || decide (g.dst ≤ 28))) = true ∧
      (s.issue (tIssue 4) 0x30).holds 0 1 (laneEntries 0) = true := by decide
theorem test_LaneSources_dup :
    let s := tHods 0 [(1, 4)]
    let f := { tFields with dst := 28, srcA := 1, fmt := 2, imm := 31 }
    s.runs (tIssue 4) f (vShape .unused 0 0x1F) (fun g => s.immAllowed (tIssue 4) g.imm) = true ∧
      (s.issue (tIssue 4) 0x31).holds 0 1 (laneEntries 2) = true := by decide

/-! TilesEnterArrays -/

/-- A plan with a Shared window of E4M3 tiles in brick 0's stack, which fills of a stretcher core of that brick read. -/
def tShared : State :=
  tRunning { tPlan with regions :=
    [{ id := 1, space := 2, kind := 1, brick := 0, cluster := 0, position := 0, group := 0, granule := 16, size := 130,
       fmt := 3, slot := 0, base := moduleAddress 2 0 0 0 1024 }] }

theorem test_TilesEnterArrays_tset :
    tWork.runs (tIssue 3) { tFields with dst := 7, imm := 0x80010000 }
      { queues := aQueues, fmts := [], dst := .num, srcA := .unused, srcB := .unused, flags := 0, imm := 0x8FFFFF00 }
      (fun g => below g.dst 8 && (if bit g.imm 31 then bits g.imm 8 8 == 0 else bits g.imm 16 12 == 0)) = true := by decide
theorem test_TilesEnterArrays_tfill :
    let s := tShared
    s.runs (tIssue 0) { tFields with dst := 1, fmt := 3, flags := 3, imm := 2 * 2 ^ 29 + 16 }
      { queues := aQueues, fmts := List.range 15, dst := .num, srcA := .unused, srcB := .unused, flags := 15,
        imm := 0xFFFFFFFF }
      (fun g => below g.dst 8 && rateOk 0 (g.flags % 8) &&
        (s.instrAddress (tIssue 0) g (tileBytes g.fmt)).any (s.tileAt g.fmt) &&
        decide ((s.arrayOf 0 0).fills.countP (fun x => !x.arrived) < 8)) = true ∧
    ((((s.issue (tIssue 0) 0x11).runToNow (tIssue 0)).arrayOf 0 0).desc 1).slotKind = false := by decide
theorem test_TilesEnterArrays_slot :
    let s := tShared.setArrayOf 0 0 { ArrayState.empty with descs := [(1, { slotKind := true, slot := 9, generation := 0 })] }
    ((((s.issue (tIssue 0) 0x11).runToNow (tIssue 0)).arrayOf 0 0).desc 1).slotKind = true := by decide

/-! PassesOpen -/

theorem test_PassesOpen_alone :
    let s := tHods 0 [(1, 1)]
    let f := { tFields with srcA := 1, fmt := 3, flags := 4, imm := 0x3000 }
    s.runs (tIssue 0) f tMma (fun g => mmaOk (tIssue 0) g && s.tagsMatch (tIssue 0) g && s.mayTake (tIssue 0) g) = true ∧
      (((s.issue (tIssue 0) 0x12).runToNow (tIssue 0)).core 0).takeOf
        (((s.issue (tIssue 0) 0x12).runToNow (tIssue 0)).newPass (tIssue 0) f none) = none := by decide
theorem test_PassesOpen_joined :
    let t : Take := { hod := 1, start := 2, mask := 3, fmt := 3, transposed := false, count := 1, need := 1, entries := [],
                      joined := [1], left := [0, 1] }
    let s := tWork.setCore 0 { Core.empty with takes := [t] }
    let f := { tFields with srcA := 1, fmt := 3, flags := 4, imm := 0x3300 }
    s.runs (tIssue 0) f tMma (fun g => mmaOk (tIssue 0) g && s.tagsMatch (tIssue 0) g && s.mayTake (tIssue 0) g) = true ∧
      (((s.issue (tIssue 0) 0x12).runToNow (tIssue 0)).core 0).takeOf
        (((s.issue (tIssue 0) 0x12).runToNow (tIssue 0)).newPass (tIssue 0) f none) = some t := by decide

/-! VatRowsRead -/

theorem test_VatRowsRead :
    let sh : Shape := { queues := aQueues, fmts := [0, 2, 15], dst := .hod, srcA := .unused, srcB := .unused, flags := 8,
                        imm := 0x3F }
    let ok (g : Fields) : Bool :=
      let a := (tWork.runToNow (tIssue 2)).arrayOf 0 2
      let r := a.rowSeen 1 g.imm
      (!r.opened || r.int == (g.fmt == 15)) && (!flagOf g 3 || !a.pendingAdd g.imm 1)
    tWork.runs (tIssue 2) { tFields with dst := 31, fmt := 15, imm := 63 } sh ok = true ∧
      tWork.runs (tIssue 2) { tFields with dst := 31, fmt := 2, imm := 63, flags := 8 } sh ok = true := by decide

/-! TileVerdicts -/

/-- A front that takes a shared tile of E4M3 weights of generation 1. -/
def tFront : Front := { wt := 3, slot := none, expected := some 1 }

theorem test_TileVerdicts_failed :
    let s := tFill { tTile with bytes := [1], front := some tFront }
    let u := s.setArrayOf 0 0 { s.arrayOf 0 0 with fills := markArrived (s.arrayOf 0 0).fills }
    s.prog.works = true ∧ u.awaits (.feeder 0 0) = false ∧
      ((u.arrayOf 0 0).fills.find? fun g => g.verdict.isNone) =
        some { tTile with bytes := [1], front := some tFront, arrived := true } ∧
      u.unchecked tFront = false ∧ crc32c (([1] : Bytes).drop 8) ≠ tileCheck [1] := by decide
theorem test_TileVerdicts_passes :
    crc32c (tTile.bytes.drop 8) = tileCheck tTile.bytes ∧ tileFormat tTile.bytes = tFront.wt ∧
      tileReserved tTile.bytes = 0 ∧ tFront.wt ≠ 13 ∧ tState.tintOk tFront tTile.bytes = true ∧
      generationOk tFront tTile.bytes = true := by decide
theorem test_TileVerdicts_unchecked : tState.unchecked { tFront with slot := some 3 } = true ∧
    tState.unchecked { tFront with expected := none } = true := by decide
theorem test_TileVerdicts_format : tileFormat tTile.bytes ≠ 4 := by decide
theorem test_TileVerdicts_codebook :
    let b := sideband false 13 1 0 (crc32c [])
    crc32c (b.drop 8) = tileCheck b ∧ tileFormat b = 13 ∧ tileReserved b = 0 ∧ codebookOk (tileStrip 13 b) = true ∧
      codebookOk (List.replicate 16 255) = false := by decide
theorem test_TileVerdicts_tint :
    let b := sideband true 3 1 5 (crc32c [])
    crc32c (b.drop 8) = tileCheck b ∧ tState.tintOk tFront b = false := by decide
theorem test_TileVerdicts_generation : tState.tintOk { tFront with expected := some 9 } tTile.bytes = true ∧
    generationOk { tFront with expected := some 9 } tTile.bytes = false := by decide

/-! SuspensionsEnd -/

theorem test_SuspensionsEnd :
    ((tState.mapProg fun p => { p with suspension := some { waiting := [], edges := [], courses := 1, cause := 3 } }).prog.suspension =
      some { waiting := [], edges := [], courses := 1, cause := 3 }) ∧ ¬(([4] : List Nat) = [] ∧ ([] : List Nat) = []) := by
  decide

/-! LoadsAndStores -/

theorem test_LoadsAndStores_ld :
    tWork.runs (tIssue 5) { tFields with dst := 1, srcB := 2, fmt := 1, imm := 0x10 } (mShape moveFmts .hod .unused .num 15 allImm)
      (fun g => tWork.moveOk (tIssue 5) g (moveBytes g)) = true := by decide
theorem test_LoadsAndStores_st :
    let s := tHods 0 [(1, 2)]
    let f := { tFields with srcA := 1, srcB := 0, imm := 0x3FFE }
    s.runs (tIssue 5) f (mShape moveFmts .unused .hod .num 15 allImm) (fun g => s.moveOk (tIssue 5) g (moveBytes g)) = true ∧
      s.runs (tIssue 5) f (mShape accFmts .unused .hod .num 15 allImm) (fun g => s.moveOk (tIssue 5) g (moveBytes g)) = true ∧
      (s.issue (tIssue 5) 0x41).holds 0 1 (entriesOf 0 1) = true ∧ (s.issue (tIssue 5) 0x42).holds 0 1 (entriesOf 0 1) = true := by
  decide
theorem test_LoadsAndStores_indexed :
    let s := tHods 0 [(1, 1), (2, 1)]
    let f := { tFields with dst := 4, srcA := 1, srcB := 2, fmt := 3, imm := 0x10 }
    s.runs (tIssue 5) f (mShape moveFmts .hod .num .hod 0 allImm) (fun g => s.indexedOk (tIssue 5) g g.srcA) = true ∧
      (s.issue (tIssue 5) 0x43).holds 0 2 1 = true ∧
      s.runs (tIssue 5) f (mShape moveFmts .num .hod .hod 0 allImm) (fun g => s.indexedOk (tIssue 5) g g.dst) = true ∧
      (s.issue (tIssue 5) 0x44).holds 0 1 (entriesOf 3 1) = true ∧
      ((s.issue (tIssue 5) 0x44).popped 0 1 (entriesOf 3 1)).holds 0 2 1 = true := by decide

/-! StoresReachTheirBytesOnly -/

theorem test_StoresReachTheirBytesOnly :
    tWork.queueHeld (tIssue 5) = false ∧ tWork.mem.wf = true ∧
      (∃ t, exec (.st (tIssue 5) { tFields with srcA := 1, imm := 0x3FFE }) (tHods 0 [(1, 2)]) = .next t) ∧
      (∃ t, exec (.sta (tIssue 5) { tFields with srcA := 1, imm := 0x3FFE }) (tHods 0 [(1, 2)]) = .next t) ∧
      ∃ t, exec (.sti (tIssue 5) { tFields with srcA := 1, srcB := 2, fmt := 3 }) (tHods 0 [(1, 1), (2, 1)]) = .next t :=
  ⟨by decide, by decide, ⟨_, rfl⟩, ⟨_, rfl⟩, ⟨_, rfl⟩⟩

/-! WritesIntoTiles -/

theorem test_WritesIntoTiles_runs :
    let s := tHods 0 [(1, 4), (2, 1)]
    let f := { tFields with srcA := 1, srcB := 2, fmt := 3, imm := 5 }
    s.runs (tIssue 5) f (mShape rowFmts .unused .hod .hod 0 0xFFF) anyFields = true ∧
      s.runs (tIssue 5) f (mShape colFmts .unused .hod .hod 0 0xFFF) anyFields = true ∧
      (s.issue (tIssue 5) 0x46).holds 0 1 (entriesOf 3 4) = true ∧ (s.issue (tIssue 5) 0x45).holds 0 1 (entriesOf 3 1) = true ∧
      ((s.issue (tIssue 5) 0x46).popped 0 1 (entriesOf 3 4)).holds 0 2 1 = true ∧ s.stamped 5 = false := by decide
theorem test_WritesIntoTiles_checked :
    let s := tOwned
    s.stamped 5 = true ∧ s.shortAddress 0 0x40000010 (tileBytes 3) = some (moduleAddress 2 0 0 0 1024) ∧
      s.kvChecks 5 (s.slot 5).tint 3 (moduleAddress 2 0 0 0 1024) = true ∧
      s.shortAddress 0 0x40000020 (tileBytes 3) = some (moduleAddress 2 0 0 0 2048) ∧
      s.kvChecks 5 (s.slot 5).tint 3 (moduleAddress 2 0 0 0 2048) = false := by decide

/-! FillsAndCopies -/

theorem test_FillsAndCopies_fill :
    let s := tHods 0 [(1, 1)]
    let f := { tFields with srcA := 1, srcB := 1, imm := 0x10 }
    s.runs (tIssue 5) f (mShape [] .unused .hod .num 0 allImm)
        (fun g => (s.fillAt (tIssue 5) g).any fun a => s.fillOk a (fillGranules g * 64)) = true ∧
      (s.issue (tIssue 5) 0x47).holds 0 1 1 = true ∧ s.windowAt 1024 = none := by decide
theorem test_FillsAndCopies_windows :
    (tOwned.windowAt (moduleAddress 2 0 0 0 1024)).isSome = true ∧
      (tOwned.windowAt (moduleAddress 2 0 0 0 1024)).bind tOwned.unstampedSlot = none ∧
      ((tOwned.setSlot 5 Slot.clear).windowAt (moduleAddress 2 0 0 0 1024)).bind (tOwned.setSlot 5 Slot.clear).unstampedSlot =
        some 5 := by decide
theorem test_FillsAndCopies_copy :
    let s := tHods 0 [(1, 1)]
    let f := { tFields with srcA := 1 }
    s.runs (tIssue 5) f (mShape [] .unused .hod .num 0 0) anyFields = true ∧ (s.issue (tIssue 5) 0x48).holds 0 1 1 = true ∧
      s.shortAddress 0 0x100 (64 * 64) = some 0x4000 ∧ s.raw 0x4000 (64 * 64) = true ∧ s.windowAt 0x4000 = none := by decide

/-! ScrubSteps -/

theorem test_ScrubSteps : State.reset.storeOn (.localStore 1023) = true ∧ 15 < (scrubGeometry (.localStore 1023)).1 ∧
    tState.lowPriorities = true ∧
    (tState.mapProg fun p => { p with kind := .held }).lowPriorities = false := by decide

/-! SendsTakeTheirRoutes -/

theorem test_SendsTakeTheirRoutes :
    let s := tRouted
    let f := { tFields with srcA := 1, imm := 0x100 }
    s.runs (tIssue 6) f (nShape (List.range 16) .hod .num 9 allImm)
        (fun g => (s.route (sendRouteNo g)).isSome && (!flagOf g 0 || accFmts.contains g.fmt)) = true ∧
      (s.issue (tIssue 6) 0x50).holds 0 1 1 = true ∧ (s.route 0).isSome = true ∧ tRoute.kind ≠ 3 ∧ tRoute.kind ≠ 2 ∧
      tRoute.tree = 0xFFFF := by decide
theorem test_SendsTakeTheirRoutes_adds :
    let s := tRouted
    let f := { tFields with srcA := 1, flags := 1, imm := 0x100 }
    s.runs (tIssue 6) f (nShape (List.range 16) .hod .num 9 allImm)
        (fun g => (s.route (sendRouteNo g)).isSome && (!flagOf g 0 || accFmts.contains g.fmt)) = true ∧ flagOf f 0 = true := by
  decide

/-! TilesAreSentWhole -/

theorem test_TilesAreSentWhole :
    let s := tRouted
    let f := { tFields with srcB := 1, fmt := 3, imm := 0x100 }
    s.runs (tIssue 6) f (nShape (List.range 15) .unused .hod 8 allImm) (fun g => (s.route (sendRouteNo g)).isSome) = true ∧
      (s.issue (tIssue 6) 0x51).holds 0 1 1 = true ∧ s.shortAddress 0 0 (tileBytes 3) = some 0 ∧ (s.route 0).isSome = true ∧
      (s.slotAt 0).find? (fun i => !s.stamped i) = none := by decide
theorem test_TilesAreSentWhole_slot :
    ((tOwned.setSlot 5 Slot.clear).slotAt (moduleAddress 2 0 0 0 1024)).find?
      (fun i => !(tOwned.setSlot 5 Slot.clear).stamped i) = some 5 := by decide
theorem test_TilesAreSentWhole_checks : tileChecks tTile.bytes = true ∧ tileFormat tTile.bytes = 3 ∧
    tileReserved tTile.bytes = 0 ∧ tileFormat tTile.bytes ≠ 4 ∧ tileChecks [1] = false := by decide

/-! SignalsAndInputsLeave -/

theorem test_SignalsAndInputsLeave :
    let s := tRouted
    s.runs (tIssue 6) { tFields with imm := 0x23 } (nShape [] .unused .unused 0 allImm) (fun g => bits g.imm 0 4 != 0) = true ∧
    s.runs (tIssue 7) { tFields with flags := 2, imm := 0x50000 } { bare [6, 7] with flags := 3, imm := allImm }
      (fun g => (s.tieTarget (bits g.imm 0 16)).isSome) = true ∧
    s.runs (tIssue 6) { tFields with imm := 7 } { bare [6] with imm := 0xFF } anyFields = true := by decide
theorem test_SignalsAndInputsLeave_paths :
    ((tRouted.issue (tIssue 7) 0x53).tieTarget 0).map (·.path) = some 0xFFFF ∧
    ((tRouted.issue (tIssue 7) 0x53).tieTarget 1).map (·.path) = some 1 ∧
    ((tRouted.issue (tIssue 7) 0x53).bump Reg.signalsSent).routePort 1 = some 2 := by decide

/-! SignalsReachTheirRouters -/

theorem test_SignalsReachTheirRouters :
    tRouted.pointingOpen = true ∧ tRouted.declared (packetWord 0 0 0 0 0 ⟨0, 0, 0, 0, 0⟩) = true ∧
      bits (packetWord 0 0 0 0 0 ⟨0, 0, 0, 0, 0⟩) 83 3 ≠ 2 ∧
      tRouted.declared (packetWord 0 2 0 0 (levelMessage 4) ⟨0, 0, 0, 0, 0⟩) = true ∧
      (tRouted.levelDecl 4).isSome = true ∧ bits (packetWord 0 2 0 0 (levelMessage 4) ⟨0, 0, 0, 0, 0⟩) 83 3 = 2 ∧
      tRouted.declared (packetWord 0 3 0 0 (levelMessage 4) ⟨0, 0, 0, 0, 0⟩) = true ∧
      bits (packetWord 0 3 0 0 (levelMessage 4) ⟨0, 0, 0, 0, 0⟩) 83 3 = 3 ∧ tState.pointingOpen = false := by decide

/-! SlotMessagesTakenInOrder -/

theorem test_SlotMessagesTakenInOrder :
    tState.awake = true ∧ tState.portRole 0 = 0 ∧
      (let w := crc16 (leBytes 14 (2 ^ 111)) * 2 ^ 112 + 2 ^ 111
       w < 2 ^ 128 ∧ wordChecks w = true ∧ bit w 111 = true ∧ bits w 104 7 = 0 ∧ wordChecks (w + 1) = false) := by decide +kernel
theorem test_SlotMessagesTakenInOrder_late :
    let w := crc16 (leBytes 14 (2 ^ 111 + 2 ^ 104)) * 2 ^ 112 + (2 ^ 111 + 2 ^ 104)
    wordChecks w = true ∧ bit w 111 = true ∧ bits w 104 7 ≠ 0 ∧ bit (crc16 (leBytes 14 0) * 2 ^ 112) 111 = false ∧
      wordChecks (crc16 (leBytes 14 0) * 2 ^ 112) = true := by decide +kernel

/-! EngineFlagsCleared -/

theorem test_EngineFlagsCleared : tState.grantsNumber (.pcie 0) 0xA100 5 1 0x1F = true ∧
    tState.grantsNumber (.pcie 0) 0xA181 2 1 0x1F = true := by decide +kernel

/-! SubstitutionsBegin -/

theorem test_SubstitutionsBegin_request :
    tState.clusterOn 3 = true ∧ tState.grantsNumber (.pcie 0) 0x9041 1 2 (8 * 3 + 5) = true ∧
      (tState.countRequest (.pcie 0)).clusterOn 3 = true ∧ (tState.countRequest (.pcie 0)).reg (spareReg 3) = 0 ∧
      (tState.countRequest (.pcie 0)).spareTaken 3 = false ∧ (tState.countRequest (.pcie 0)).limewash = false ∧
      (tState.countRequest (.pcie 0)).blocker 3 2 = none := by
  decide +kernel
theorem test_SubstitutionsBegin_threshold :
    let s := tState.setReg Reg.correctedThreshold 4
    let t := { s with units := { s.units with corrected := [(29, 4)] } }
    let u := State.startSubstitution 3 5 1 t
    t.atThreshold 29 = true ∧ t.power.mode = .run ∧ t.clusterOn 3 = true ∧ t.spareTaken 3 = false ∧
      t.thresholdHeld 29 = false ∧ t.reg (spareReg 3) = 0 ∧ t.blocker 3 1 = none ∧ u.reg (spareReg 3) = 1 ∧
      (Map.find u.units.substitutions 3).isSome = true ∧ 1 < (t.setReg (spareReg 3) 2).reg (spareReg 3) := by decide +kernel

/-! SubstitutionsRun -/

theorem test_SubstitutionsRun :
    let x : Subst :=
      { position := 5, trigger := 1, since := 0, copied := 0, portionAt := 0, portion := 0, registers := none,
        deferred := none, others := [] }
    let s := { tState with
      time := { tState.time with localCount := 3 }, units := { tState.units with substitutions := [(3, x)] } }
    Map.find s.units.substitutions 3 = some x ∧ x.since < s.time.localCount ∧ x.complete 3 = false ∧
      s.lowPriorities = true ∧ s.prog.running = false := by decide +kernel
theorem test_SubstitutionsRun_rest : ({ tState with prog := { tState.prog with kind := .held } } : State).lowPriorities = false := by
  decide
theorem test_SubstitutionsRun_ready :
    let x : Subst :=
      { position := 5, trigger := 1, since := 0, copied := substBytes 3, portionAt := 1, portion := 0,
        registers := some 2, deferred := none, others := [2] }
    let s := { tState with
      time := { tState.time with localCount := 3 }, units := { tState.units with substitutions := [(3, x)] } }
    Map.find s.units.substitutions 3 = some x ∧ x.complete 3 = true ∧ s.registersDue x = true ∧ x.registers = some 2 ∧
      2 < s.time.localCount ∧ s.prog.running = false := by decide +kernel

/-! ClustersRetire -/

theorem test_ClustersRetire : tState.grantsNumber (.pcie 0) 0x9020 6 2 7 = true ∧
    (tState.countRequest (.pcie 0)).clusterOn 7 = true ∧ (tState.countRequest (.pcie 0)).reg Reg.retirePending = 0xFFFF ∧
    (tState.countRequest (.pcie 0)).blocker 4 0 = none ∧ tState.dueRetirements = [] := by decide +kernel
theorem test_ClustersRetire_pending :
    let s := tState.pendRetirement 7
    s.grantsNumber (.pcie 0) 0x9020 6 2 0xFFFF = true ∧ (s.countRequest (.pcie 0)).reg Reg.retirePending = 7 ∧
      (s.countRequest (.pcie 0)).loadedAgainst 7 = false ∧ s.dueRetirements ≠ [] := by decide +kernel

/-! CourseSourceRequests -/

theorem test_CourseSourceRequests :
    let u := tState.countRequest (.pcie 0)
    tState.grantsNumber (.pcie 0) 0x2000 1 1 3 = true ∧ tState.grantsNumber (.pcie 0) 0x2000 1 1 1 = true ∧
      tState.grantsNumber (.pcie 0) 0x2000 1 1 0 = true ∧ u.planActive = false ∧ u.reg Reg.courseSource = 0 ∧
      tState.grantsNumber (.pcie 0) 0x2000 3 4 (2 ^ 20) = true ∧ tState.grantsNumber (.pcie 0) 0x2000 3 4 1 = true ∧
      u.isRoot = false := by decide +kernel
theorem test_CourseSourceRequests_root :
    let s := tState.setReg Reg.courseSource 1
    let u := s.countRequest (.pcie 0)
    s.grantsNumber (.pcie 0) 0x2000 3 4 (2 ^ 20) = true ∧ u.isRoot = true ∧ u.planActive = false := by decide +kernel

/-! LockAndHoldover -/

theorem test_LockAndHoldover :
    let s := (tState.mapTime fun t => { t with known := true, markless := 4, acquiring := some 0, step := some (9, 3) }).setReg
      Reg.lockState 1
    s.awake = true ∧ s.holdoverDue = true ∧ tState.holdoverDue = false ∧ s.time.known = true ∧
      s.time.acquiring.isSome = true ∧ s.time.step = some (9, 3) ∧ tState.time.step = none := by decide +kernel
theorem test_LockAndHoldover_root :
    let s := tState.setReg Reg.courseSource 1
    let t := (s.mapTime fun t => { t with known := true })
    s.awake = true ∧ s.isFed = false ∧ s.reg Reg.courseSource < 2 ∧ s.time.known = false ∧ t.time.known = true ∧
      t.reg Reg.lockState ≠ 2 ∧ (t.setReg Reg.lockState 2).reg Reg.lockState = 2 ∧ t.isFed = false := by decide +kernel

/-! MarksAndParents -/

theorem test_MarksAndParents :
    let w := crc16 (leBytes 14 7) * 2 ^ 112 + 7
    let t := { tState with time := { tState.time with marks := Map.put tState.time.marks 3 (markOf w 0 0) } }
    w < 2 ^ 128 ∧ tState.awake = true ∧ tState.portRole 4 = 0 ∧ wordChecks w = true ∧ t.isRoot = false ∧
      t.isFed = true ∧ t.reg Reg.parentPort = 0xFF ∧ t.reg Reg.lockState ≠ 2 ∧
      (firstParent t.accepted).isSome = true ∧ t.isAccepted 3 = true ∧ t.isAccepted 4 = false ∧
      firstParent tState.accepted = none := by decide +kernel

/-! CoursesBegin -/

theorem test_CoursesBegin : tState.awake = true ∧ tState.start.lifecycleRestart = false ∧
    ({ tState with power := { tState.power with mode := .sleep } } : State).awake = false := by decide

/-! PlanCoursesDecided -/

theorem test_PlanCoursesDecided :
    let s := (tRunning tPlan).mapProg fun p => { p with course := 9, restThermal := true, next := .work 10, stall := 64 }
    s.prog.running = true ∧ s.time.count < s.prog.course ∧ s.prog.next ≠ .phase ∧ s.prog.restThermal = true ∧
      s.prog.next = .work 10 ∧ 10 ≠ s.prog.course + 2 ∧ s.awake = true ∧ s.prog.stalled = false ∧
      s.reg Reg.stallLimit ≤ s.prog.stall := by decide +kernel

/-! PlansLaunch -/

theorem test_PlansLaunch : tState.grantsNumber (.pcie 0) 0x2020 1 4 5 = true ∧
    ((tState.countRequest (.pcie 0)).judgeLaunch 5).1 ≠ 0 ∧ tState.launchReady tPlan = false := by decide +kernel
theorem test_PlansLaunch_accepted :
    let s := (((tState.setReg Reg.planState 2).mapTime fun t => { t with known := true }).setBlob Blob.slotContexts (zeros 64))
    let s := { s with plan := { s.plan with loaded := some tPlan } }
    s.grantsNumber (.pcie 0) 0x2020 1 4 16 = true ∧ ((s.countRequest (.pcie 0)).judgeLaunch 16).1 = 0 := by decide +kernel
theorem test_PlansLaunch_ready :
    let s := (((tState.setReg Reg.launchState 1).setReg Reg.launchCourse 16).setReg Reg.lockState 2).mapTime fun t =>
      { t with known := true, count := 20 }
    let s := tPlan.headers.foldl (fun s c => s.setReg (Reg.trowelState c) 1) s
    s.launchReady tPlan = true ∧ ¬(s.reg Reg.launchCourse + s.reg Reg.launchLateLimit ≤ s.time.count) ∧
      (let t := s.mapTime fun t => { t with count := 10 ^ 6 }
       t.reg Reg.launchState = 1 ∧ t.time.known = true ∧ t.reg Reg.launchCourse + t.reg Reg.launchLateLimit ≤ t.time.count) := by
  decide +kernel

/-! FlitsLandAndGoAgain -/

theorem test_FlitsLandAndGoAgain :
    tLanding.portRole 2 = 0 ∧ tLanding.awake = true ∧ tLanding.power.mode = .run ∧ tLanding.limewash = false ∧ (flitOf tFlit).slot = 4 ∧ (flitOf tFlit).route = 0 ∧ (flitOf tFlit).index = 0 ∧
      (tLanding.landingAt 2 0 4 (tLanding.flitCourse (flitOf tFlit))).map (·.route) = some 0 ∧
      (tLanding.landingAt 2 0 4 (tLanding.flitCourse (flitOf tFlit))).map (·.flit) = some 0 ∧
      (tLanding.route 0).any tLanding.distribution = false ∧
      tState.landingAt 2 0 4 0 = none := by decide +kernel
set_option maxRecDepth 4000 in
theorem test_FlitsLandAndGoAgain_check : tFlit.length = 264 ∧ flitChecks tFlit = true ∧ flitChecks (zeros 264) = false := by
  decide +kernel
theorem test_FlitsLandAndGoAgain_retry :
    let f := flitOf tFlit
    let l : Lane := { Lane.down with status := 2, retries := [f], sent := [(0, f)] }
    let s := (tLanding.setPort 2 ((Port.down.setLane 0 l))).mapTime fun t => { t with localCount := 7 }
    ((s.port 2).lane 0).retries = [f] ∧ ((s.port 2).lane 0).status = 2 ∧
      s.limewash = false ∧ s.resentNow ((s.port 2).lane 0) < (if s.working then 1 else 30) ∧
      (((s.port 2).lane 0).sent.any fun e => e.2.tag == 32 % 32 && decide (e.1 + 4 ≤ s.time.localCount)) = true := by
  decide +kernel
theorem test_FlitsLandAndGoAgain_late :
    let f := flitOf tFlit
    let s := tLanding.setPort 2 { Port.down with late := [f], landing := [f] }
    (s.port 2).late = [f] ∧ s.relays 1 = true ∧ s.issues = true ∧
      ((s.route 1).filter fun r => r.tree != 0xFFFF && r.add) = none ∧
      (s.port 2).landing.find? (fun x => x.route == 0 && x.index == 0) = some f := by decide +kernel

/-! PortsTrain -/

theorem test_PortsTrain :
    let l : Lane := { Lane.down with status := 2, errors := 10 ^ 6 }
    let s := (tLanding.setPort 2 ((Port.down.setLane 0 l).setLane 1 { l with status := 3 })).setReg (Reg.linkState 2) 2
    s.portRole 2 = 0 ∧ ((s.port 2).lane 0).status = 2 ∧ s.reg Reg.laneErrorLimit ≤ ((s.port 2).lane 0).errors ∧
      ((s.port 2).lane 1).status = 3 ∧ ((s.port 2).lane 2).status = 0 ∧
      s.grantsNumber (.pcie 0) (0x7100 + 2) 0x10 7 1 = true ∧ 1 < (s.countRequest (.pcie 0)).reg (Reg.linkState 2) ∧
      (s.countRequest (.pcie 0)).blocker 7 2 = none ∧
      ¬(9 = s.reg (Reg.partnerDeviceId 2) ∧ 2 = s.reg (Reg.partnerPort 2)) := by decide +kernel
theorem test_PortsTrain_words :
    let w (phase : Nat) := let x := 2 ^ 84 + phase * 2 ^ 108 + 9 * 2 ^ 91
                           crc16 (leBytes 14 x) * 2 ^ 112 + x
    w 6 < 2 ^ 128 ∧ wordReady (w 3) 3 = true ∧ wordReady (w 5) 5 = true ∧ wordReady (w 6) 6 = true ∧
      wordIdentity (w 5) = (0, 9, 0) ∧ (tState.setReg Reg.deviceId 3).reg Reg.deviceId ≠ 0x7FFF := by decide +kernel
theorem test_PortsTrain_neighbour :
    (tLanding.neighbour 2).map (·.partnerDevice) = some 7 ∧ (tLanding.neighbour 2).map (·.partnerPort) = some 2 ∧
      (tLanding.neighbour 2).map (·.dmax) = some 10 ∧ tLanding.neighbour 4 = none ∧ 10 < ceilDiv ((1000 - 0) / 2) 8 := by
  decide +kernel

/-! EdgesFailAndRetrain -/

theorem test_EdgesFailAndRetrain :
    let s := tRunning tPlan
    s.edgeOn 23 = true ∧ (s.bump (Reg.blockFailures 23)).prog.running = true ∧
      (s.bump (Reg.blockFailures 23)).prog.suspension = none ∧ s.reg (Reg.edgeState 23) ≠ 2 ∧
      (s.setReg (Reg.edgeState 23) 2).reg (Reg.edgeState 23) = 2 := by decide +kernel

/-! BanksAndQuoinsTurn -/

theorem test_BanksAndQuoinsTurn :
    let s := tState.setReg Reg.shadowState 2
    let u := s.countRequest (.pcie 0)
    s.grantsNumber (.pcie 0) 0x4101 3 7 1 = true ∧ u.reg Reg.shadowState = 2 ∧ u.limewash = false ∧
      tState.grantsNumber (.pcie 0) 0x4101 3 7 1 = true ∧ (tState.countRequest (.pcie 0)).reg Reg.shadowState ≠ 2 := by
  decide +kernel
theorem test_BanksAndQuoinsTurn_quoin :
    let s := (tRunning tPlan).setReg Reg.shadowState 3
    let t : State := { s with plan := { s.plan with loaded := some tPlan } }
    (tState.setReg Reg.shadowState 3).prog.running = false ∧ t.prog.running = true ∧ t.atQuoinCourse = true ∧
      t.reg Reg.shadowState = 3 ∧ t.plan.loaded = some tPlan ∧
      ({ s with prog := { s.prog with course := 5, kind := .work 5 } } : State).atQuoinCourse = false := by decide +kernel
theorem test_BanksAndQuoinsTurn_variant :
    let x : Variant := { number := 1, skeleton := [], roles := [], entries := [], energy := [], grout := [] }
    let s := tRunning { tPlan with variants := [x] }
    let t : State := { s with prog := { s.prog with variant := some (1, 0) } }
    t.atQuoinCourse = true ∧ t.prog.variant = some (1, 0) ∧ 0 ≤ t.prog.course ∧ 1 ≠ t.reg Reg.activeVariant ∧
      (t.nextPlan.bind fun p => p.variant 1).isSome = true := by decide +kernel

/-! SlotsAndTrowelsTurn -/

theorem test_SlotsAndTrowelsTurn :
    let s := (tRunning tPlan).setReg (Reg.trowelState 4) 1
    s.clusterOn 4 = true ∧ tState.reachedAdmission = none ∧ s.reachedAdmission.isSome = true ∧ s.reg (Reg.trowelState 4) = 1 ∧
      (tState.setReg (Reg.trowelState 4) 3).reg (Reg.trowelState 4) = 3 := by decide +kernel
theorem test_SlotsAndTrowelsTurn_slot :
    let s := (tRunning tPlan).setSlot 5 { Slot.clear with state := 1 }
    let t := (tRunning tPlan).setSlot 5 { Slot.clear with state := 2 }
    s.power.mode = .run ∧ t.power.mode = .run ∧ s.prog.running = true ∧ (s.slot 5).state = 1 ∧ (t.slot 5).state = 2 ∧ t.prog.running = true ∧
      ((t.stampSlot 5).bump Reg.stampsDone).owns 5 = true := by decide +kernel
theorem test_SlotsAndTrowelsTurn_left :
    let s : State := { tState with serving := { tState.serving with clearing := [(5, 9, [])] } }
    s.power.mode = .run ∧ s.prog.running = false ∧ (s.serving.clearing.find? fun e => e.1 == 5) = some (5, 9, []) ∧
      ({ tState with power := { tState.power with mode := .hold } } : State).power.mode ≠ .run := by decide

/-! PlansAreLoaded -/

theorem test_PlansAreLoaded :
    let u := tState.countRequest (.pcie 0)
    tState.grantsNumber (.pcie 0) 0x4000 1 3 64 = true ∧ tState.grantsNumber (.pcie 0) 0x4000 1 3 65 = true ∧
      u.reg Reg.planState = 0 ∧ u.limewash = false ∧ tState.awake = true ∧
      (tState.setReg Reg.planState 1).grantsNumber (.pcie 0) 0x4000 1 3 64 = true ∧
      tState.plan.checking = none ∧ tState.grantsNumber (.pcie 0) 0x4000 7 7 1 = true ∧
      tState.grantsNumber (.pcie 0) 0x4000 0xD 4 512 = true ∧ u.thePlan = none := by decide +kernel
theorem test_PlansAreLoaded_states :
    let s := tState.setReg Reg.planState 2
    let t := tState.setReg Reg.planState 1
    s.grantsNumber (.pcie 0) 0x4000 7 7 1 = true ∧ (s.countRequest (.pcie 0)).reg Reg.planState = 2 ∧
      t.grantsNumber (.pcie 0) 0x4000 7 7 1 = true ∧ (t.countRequest (.pcie 0)).reg Reg.planState = 1 := by
  decide +kernel
theorem test_PlansAreLoaded_running :
    let s := tRunning tPlan
    let u := s.countRequest (.pcie 0)
    let t : State := { s with prog := { s.prog with halt := some 0 } }
    s.grantsNumber (.pcie 0) 0x4000 0xD 4 5 = true ∧ u.thePlan = some tPlan ∧ u.isQuoin 5 = false ∧
      s.grantsNumber (.pcie 0) 0x4000 0xD 4 (512 * 512) = true ∧ u.isQuoin (512 * 512) = true ∧
      u.prog.course + tPlan.period ≤ 512 * 512 ∧
      t.prog.running = true ∧ t.prog.kind = .work t.prog.course ∧ t.haltDue = true ∧ s.haltDue = false := by
  decide +kernel
theorem test_PlansAreLoaded_accepted :
    let s := ((((tState.setReg Reg.grade 1).setReg Reg.stepping 0xA1).setReg Reg.sustainedCap 4800).setReg Reg.burstCap 5400)
    let t : State := { s with staging := [], plan := { s.plan with checking := some tImage.length } }
    let u : State := { t with staging := t.staging.write 0 tImage }
    let i : Image := ⟨u.staging.read 0 tImage.length⟩
    u.plan.checking = some tImage.length ∧ i.bytes = tImage ∧
      ((u.setBlob Blob.stagedDigest (sha3 i.bytes)).judgeImage i { batches := [], levels := [] }).isRight = true := by
  decide +kernel
theorem test_PlansAreLoaded_refusal :
    let s : State := { tState with plan := { tState.plan with checking := some 0 } }
    s.plan.checking = some 0 ∧ (⟨s.staging.read 0 0⟩ : Image).wellFormed.isSome = true := by decide +kernel

/-! RequestsAreServed -/

theorem test_RequestsAreServed :
    let s := (tState.setReg Reg.domainRole 1).setQp 3 { Qp.fresh with state := 1, record := u8 1 ++ zeros 63 }
    let q := s.qp 3
    q.state = 1 ∧ q.purpose = 1 ∧ s.awake = true ∧ s.onAir = true ∧ s.limewash = false ∧ s.reg Reg.domainRole = 1 ∧
      s.serving.queue.length < 256 ∧ (u32 1 ++ zeros 252).length = 256 ∧
      field (u32 1 ++ zeros 252) 0 4 = (q.received + 1) % 2 ^ 32 ∧ (zeros 256).length = 256 ∧
      field (zeros 256) 0 4 ≠ (q.received + 1) % 2 ^ 32 ∧ field (zeros 256) 0 4 ≤ q.received ∧
      field (u32 7 ++ zeros 252) 0 4 ≠ (q.received + 1) % 2 ^ 32 ∧ q.received < field (u32 7 ++ zeros 252) 0 4 := by
  decide +kernel
theorem test_RequestsAreServed_batches :
    let r := tRunning tPlan
    let s := (r.setReg Reg.domainRole 2).setQp 3 { Qp.fresh with state := 1, record := u8 3 ++ zeros 63 }
    let m (n : Nat) : Bytes := u32 n ++ u16 0 ++ u16 (s.reg Reg.headDeviceId) ++ zeros 56
    let h := s.setReg Reg.domainRole 1
    (r.setReg Reg.domainRole 1).prog.running = true ∧ (r.setReg Reg.domainRole 1).power.mode = .run ∧
      h.nextBatch ≤ h.prog.course + h.reg Reg.orderLead ∧ s.onAir = true ∧ s.planActive = true ∧
      (s.qp 3).state = 1 ∧ (s.qp 3).purpose = 3 ∧ (m 1).length = 64 + 64 * field (m 1) 4 2 ∧ field (m 1) 4 2 ≤ 63 ∧
      field (m 1) 6 2 = s.reg Reg.headDeviceId ∧ field (m 1) 0 4 = (s.serving.batchIn + 1) % 2 ^ 32 ∧
      (m 0).length = 64 + 64 * field (m 0) 4 2 ∧ field (m 0) 6 2 = s.reg Reg.headDeviceId ∧
      field (m 0) 0 4 ≠ (s.serving.batchIn + 1) % 2 ^ 32 ∧ field (m 0) 0 4 ≤ s.serving.batchIn ∧
      s.serving.batchIn < field (m 9) 0 4 ∧ field (m 9) 0 4 ≠ (s.serving.batchIn + 1) % 2 ^ 32 := by decide +kernel
theorem test_RequestsAreServed_orders :
    let s := tRunning tPlan
    let b : Batch := { seq := 1, effect := (s.reachedAdmission.getD 0), orders := [] }
    let c : Batch := { b with orders := [{ Order.blank with kind := 1, slot := 5 }] }
    let t : State := { s with serving := { s.serving with batches := [b] } }
    let u : State := { s with serving := { s.serving with batches := [c] } }
    tState.reachedAdmission = none ∧ s.reachedAdmission = some b.effect ∧ s.haltDue = false ∧
      s.batchFor b.effect = none ∧ t.reachedAdmission = some b.effect ∧ t.batchFor b.effect = some b ∧
      t.haltDue = false ∧ b.admits.all t.admitReady = true ∧ u.reachedAdmission = some b.effect ∧
      u.batchFor b.effect = some c ∧ u.haltDue = false ∧ c.admits.all u.admitReady = false := by decide +kernel
theorem test_RequestsAreServed_report :
    let s := ((tRunning tPlan).setReg Reg.domainRole 1).setQp 3 { Qp.fresh with state := 1, record := u8 3 ++ zeros 63 }
    let m (slot : Nat) : Bytes := zeros 4 ++ u16 slot ++ zeros 58
    let t := s.bump Reg.abortReportsReceived
    s.headHears 3 (m 2) = true ∧ field (m 2) 4 2 < t.tintSlots ∧ (t.slot (field (m 2) 4 2)).tint = field (m 2) 6 2 ∧
      s.headHears 3 (m 2000) = true ∧ t.tintSlots ≤ field (m 2000) 4 2 := by decide +kernel
theorem test_RequestsAreServed_governor :
    let x (n role : Nat) : Variant :=
      { number := n, skeleton := [], roles := [role], entries := [], energy := [], grout := [] }
    let p : Plan := { tPlan with variants := [x 0 0, x 1 1], segment := 1 }
    let s := ((tRunning p).setReg Reg.domainRole 1)
    let f := s.setReg Reg.governorMode 1
    let g := f.setReg Reg.forcedVariant 1
    let h : State := { s with serving := { s.serving with lastChoice := some 1 } }
    let w (s : State) : State := (s.setReg Reg.prefillTokensPending 9).setReg Reg.decodeStreams 0
    tState.thePlan = none ∧ s.thePlan = some p ∧ s.reg Reg.domainRole = 1 ∧
      s.reachedCourses.any (fun c => s.position p c == p.period / 2) = true ∧
      g.reg Reg.governorMode = 1 ∧ g.reg Reg.forcedVariant ≠ g.reg Reg.activeVariant ∧
      f.reg Reg.forcedVariant = f.reg Reg.activeVariant ∧ s.reg Reg.governorMode ≠ 1 ∧
      p.nearest ((w h).prefillShare 9) = some 1 ∧ h.serving.lastChoice = some 1 ∧ 1 ≠ h.reg Reg.activeVariant ∧
      p.nearest ((w s).prefillShare 9) ≠ s.serving.lastChoice := by decide +kernel
theorem test_RequestsAreServed_records :
    let s := (((tRunning tPlan).setReg Reg.domainRole 1).setSlot 5 tSlot)
    let r : Bytes := u32 7 ++ u32 1 ++ zeros 4 ++ u16 5 ++ zeros 2
    let q : Qp := { Qp.fresh with state := 1, record := zeros 26 ++ u32 320 ++ zeros 34, buffer := [⟨0, 5, zeros 16⟩] }
    let t := s.setQp 0 q
    r.length = 16 ∧ bit (byteAt r 14) 2 = false ∧ field r 12 2 = 5 ∧ s.liveSlot 5 = true ∧ tState.liveSlot 5 = false ∧
      t.liveSlot 5 = true ∧ (t.slot 5).stopReason 7 = 0 ∧ (t.qp (t.slot 5).qp).tokenFits = true ∧
      (s.qp (s.slot 5).qp).tokenFits = false ∧ q.isHeld = false ∧ q.placed.take q.sendRecords ≠ [] := by decide +kernel

/-! WeightsLoadAndSwitch -/

theorem test_WeightsLoadAndSwitch :
    let ring : Region :=
      { id := 1, space := 2, kind := 2, brick := 0, cluster := 0, position := 0, group := 0, granule := 16, size := 64,
        fmt := 0, slot := 0, base := moduleAddress 2 0 0 0 1024 }
    let place : Region := { ring with id := 2, kind := 6, size := 2048, base := moduleAddress 2 0 0 0 65536 }
    let p : Plan := { tPlan with regions := [ring, place] }
    let s := (tRunning p).setReg Reg.loadPort 2
    let u := s.countRequest (.pcie 0)
    let b := s.setReg Reg.pendingSwitch 64
    let h := s.setReg Reg.activationState 1
    s.grantsNumber (.pcie 0) 0x6000 1 1 7 = true ∧ u.sideOf 7 = none ∧ u.sessionBarred = false ∧ u.prog.running = true ∧
      u.anyPlan = some p ∧ u.keepFor p true = some [] ∧ u.emptySide = some 0 ∧ u.blocker 5 0 = none ∧
      h.grantsNumber (.pcie 0) 0x6000 1 1 7 = true ∧ (h.countRequest (.pcie 0)).sessionBarred = false ∧
      (h.countRequest (.pcie 0)).blocker 5 0 = some 1 ∧ (h.countRequest (.pcie 0)).held.length < 8 ∧
      s.grantsNumber (.pcie 0) 0x6000 2 3 (3 + 7 * 2 ^ 16) = true ∧ adapterId (3 + 7 * 2 ^ 16) = 3 ∧
      adapterBase (3 + 7 * 2 ^ 16) = 7 ∧ u.adapterState 3 = 0 ∧ u.keepFor p false = some [] ∧ u.blocker 5 1 = none ∧
      p.regions.any (fun r => r.kind == 6) = true ∧ s.grantsNumber (.pcie 0) 0x6000 8 7 1 = true ∧
      b.reg Reg.pendingSwitch = 64 ∧ b.prog.course < 64 ∧ s.reg Reg.pendingSwitch = allOnes64 := by decide +kernel
theorem test_WeightsLoadAndSwitch_switch :
    let s := ((tRunning tPlan).setReg (Reg.sideState 0) 2).setReg (Reg.sideGeneration 0) 7
    let u := s.countRequest (.pcie 0)
    let t := s.setReg Reg.pendingSwitch 0
    s.grantsNumber (.pcie 0) 0x6020 1 4 8192 = true ∧ u.thePlan.isSome = true ∧ u.isAdmission 8192 = true ∧
      u.prog.course + u.reg Reg.orderLead + 16 ≤ 8192 ∧ (u.sideIn 2).isSome = true ∧
      u.reg Reg.pendingSwitch = allOnes64 ∧ u.blocker 6 0 = none ∧ s.grantsNumber (.pcie 0) 0x6020 1 4 8193 = true ∧
      u.isAdmission 8193 = false ∧ t.reg Reg.pendingSwitch ≠ allOnes64 ∧ t.reg Reg.pendingSwitch ≤ t.prog.course ∧
      (t.setReg Reg.pendingSwitch allOnes64).sideIn 2 = some 0 ∧ s.grantsNumber (.pcie 0) 0x6020 5 1 7 = true ∧
      s.grantsNumber (.pcie 0) 0x6020 5 1 8 = true ∧ u.sideOf 7 = some 0 ∧ u.reg (Reg.sideState 0) = 2 ∧
      u.boundCount 7 = 0 ∧ u.sideOf 8 = none := by decide +kernel
theorem test_WeightsLoadAndSwitch_records :
    let x : Session :=
      { generation := false, id := 7, side := 0, base := 0, keep := [], fabric := true, port := 2, upstream := 5,
        granules := 2, positions := 4, ring := moduleAddress 2 0 0 0 1024, accepted := 1, processed := 0, total := 1,
        digest := Sponge.empty, resend := 0, started := 0 }
    let s (x : Session) : State := { tState with weights := { tState.weights with session := some x } }
    let y := { x with fabric := false }
    (s x).power.mode = .run ∧ x.processed + 1 ≤ x.accepted ∧ x.fabric = true ∧ y.fabric = false ∧
      field ((s x).load (x.ring + 128) 128) 16 4 ≠ crc32c (coveredBytes x ((s x).load (x.ring + 128) 128)) ∧
      (zeros 64).length = 64 ∧ tState.awake = true := by decide +kernel
theorem test_WeightsLoadAndSwitch_unload :
    let s := tState.setBlobByte Blob.adapterStates 3 2
    let u := s.countRequest (.pcie 0)
    s.grantsNumber (.pcie 0) 0x6030 5 2 3 = true ∧ s.grantsNumber (.pcie 0) 0x6030 5 2 4 = true ∧ u.adapterState 4 ≠ 2 ∧
      u.adapterState 3 = 2 ∧ u.adapterBound 3 = false ∧ u.reg Reg.domainRole ≠ 1 := by decide +kernel

/-! IngressServes -/

theorem test_IngressServes :
    let x : IngressWindow := { window := 2, region := 1, granules := 1, positions := 4, counter := 0, credit := 0 }
    let q : Qp := { Qp.fresh with state := 1, record := u8 1 ++ zeros 3 ++ u16 4 ++ zeros 58, rkey := 77 }
    let s := (tRunning { tPlan with windows := [x] }).setQp 3 q
    let t := s.setReg (Reg.landingCounter 2) 4
    let r (n : Nat) : Bytes := u32 n ++ zeros 60
    let a := 2 * 2 ^ 56
    s.window 2 = some x ∧ s.mayWrite 3 2 = true ∧ (r 1).length = x.granules * 64 ∧ field (r 1) 0 4 = 1 ∧
      1 ≤ s.creditOf x + x.positions ∧ s.reg (Reg.landingCounter 2) = 0 ∧ t.window 2 = some x ∧ t.mayWrite 3 2 = true ∧
      t.creditOf x + x.positions < 5 ∧ t.reg (Reg.landingCounter 2) = 4 ∧ s.onAir = true ∧ (s.qp 3).rkey = 77 ∧
      (s.qp 3).purpose = 1 ∧ a / 2 ^ 56 % 256 = 2 ∧ bit (field (s.qp 3).record 4 2) 2 = true ∧
      inTarget (x.granules * 64) x.positions (a % 2 ^ 56) 64 = true ∧
      inTarget (x.granules * 64) x.positions (a % 2 ^ 56) 63 = false ∧
      (s.setQp 3 { q with record := u8 3 ++ zeros 63 }).qp 3 = { q with record := u8 3 ++ zeros 63 } := by decide +kernel
theorem test_IngressServes_frames :
    let s := tState.setReg (Reg.ethLinkState 1) 1
    let t := (s.setReg (Reg.macsecRequired 1) 1).setMacsec 1 { (s.macsecOf 1) with rx := some (zeros 64) }
    let q : Qp := { Qp.fresh with state := 1, record := u8 1 ++ u8 1 ++ zeros 62, outstanding := [(1, [])] }
    let u := s.setQp 3 q
    s.reg (Reg.ethLinkState 1) ≠ 0 ∧ s.onAir = true ∧ s.reg (Reg.macsecRequired 1) ≠ 1 ∧ t.reg (Reg.macsecRequired 1) = 1 ∧
      ((t.macsecOf 1).accept 0).isSome = true ∧ (t.macsecOf 1).accept 1 = none ∧ (u.qp 3).state = 1 ∧
      (u.qp 3).ingress = 1 ∧ (u.qp 3).outstanding = [(1, [])] ∧ (u.qp 3).paused = false ∧ (u.qp 3).retries < 7 ∧
      ({ q with retries := 7 } : Qp).retries = 7 ∧ (s.qp 3).state ≠ 1 ∧ (s.qp 3).outstanding = [] := by decide +kernel
theorem test_IngressServes_requests :
    let s := tState.setReg Reg.ideActive 1
    let k : Bytes := zeros 64
    let bad : Bytes := zeros 63 ++ u8 1
    let r (p : Nat) : Bytes := u8 p ++ u8 1 ++ u8 5 ++ zeros 61
    let t := s.setBlob (Blob.ipAddress 1) (u8 1)
    let u := t.countRequest (.pcie 0)
    s.grants (.pcie 0) (0x7420 + 1) 2 9 k = true ∧ keyRecordOk k = true ∧ s.grants (.pcie 0) (0x7420 + 1) 3 9 k = true ∧
      s.grants (.pcie 0) (0x7420 + 1) 2 9 bad = true ∧ s.grants (.pcie 0) (0x7420 + 1) 3 9 bad = true ∧
      keyRecordOk bad = false ∧ t.grants (.pcie 0) 0x7400 2 9 (r 3) = true ∧ qpRecordOk (r 3) = true ∧ (r 3).length = 64 ∧
      t.grants (.pcie 0) 0x7400 2 9 k = true ∧ qpRecordOk k = false ∧
      (u.qp (u.reg Reg.qpSelect)).state ≠ 1 ∧ allZero (u.blob (Blob.ipAddress (byteAt (r 3) 1))) = false ∧
      (u.qp (u.reg Reg.qpSelect)).record ≠ r 3 ∧ byteAt (r 3) 0 ≠ 1 ∧ s.grantsNumber (.pcie 0) 0x7400 4 7 1 = true := by
  decide +kernel
theorem test_IngressServes_room :
    let r : Bytes := u8 1 ++ u8 1 ++ u8 5 ++ zeros 23 ++ u32 65536 ++ zeros 34
    let s := tState.setBlob (Blob.ipAddress 1) (u8 1)
    let t := s.setQp 5 { Qp.fresh with state := 1, record := r }
    let u := t.countRequest (.pcie 0)
    t.grants (.pcie 0) 0x7400 2 9 r = true ∧ qpRecordOk r = true ∧ byteAt r 0 = 1 ∧ r.length = 64 ∧
      65536 < u.quotaOf (byteAt r 1) + field r 26 4 ∧ (u.qp (u.reg Reg.qpSelect)).record ≠ r ∧
      allZero (u.blob (Blob.ipAddress (byteAt r 1))) = false := by
  decide +kernel
theorem test_IngressServes_links :
    tState.reg (Reg.ethLinkState 1) = 0 ∧ flagNat true = 1 ∧ flagNat false = 0 ∧ tState.onAir = true ∧
      tState.limewash = false := by decide +kernel

/-! HostAndChainServe -/

theorem test_HostAndChainServe :
    let s := tState.setReg Reg.chainState 1
    let t : State := { s with paths := { s.paths with answered := some 0 }, time := { s.time with localCount := 65536 } }
    let u := tState.countRequest (.pcie 0)
    tState.awake = true ∧ tState.reg Reg.chainState ≠ 2 ∧ pcieOk 2 5 4 = true ∧ pcieOk 0 0 0 = true ∧
      (tState.reg Reg.pcieLinkState, tState.reg Reg.pcieRate, tState.reg Reg.pcieWidth) = (0, 0, 0) ∧
      t.paths.answered = some 0 ∧ t.reg Reg.chainState = 1 ∧ 0 + 65536 ≤ t.time.localCount ∧ tState.paths.answered = none ∧
      tState.grantsNumber (.pcie 0) 0x1100 5 2 9 = true ∧ u.planActive = false ∧ 9 ≠ u.reg Reg.deviceId ∧
      tState.grantsNumber (.pcie 0) 0x1100 5 2 (u.reg Reg.deviceId) = true := by decide +kernel
theorem test_HostAndChainServe_running :
    let s := tRunning tPlan
    s.grantsNumber (.pcie 0) 0x1100 5 2 9 = true ∧ (s.countRequest (.pcie 0)).planActive = true := by decide +kernel
theorem test_HostAndChainServe_notices :
    let x : Notice := { code := 1, cls := 0, seq := 1, stamp := 0, source := 0, suppressed := 0, payload := [] }
    let r : Ring := { Ring.clear with base := 4096, entries := 64, control := 1, state := 1 }
    let s := tState.setReg Reg.chainState 2
    let t : State := { s with paths := { s.paths with chainQueue := [x], ringQueue := [x], ring := r } }
    let u : State := { s with paths := { s.paths with responses := [(1, [])] } }
    s.keystoneDown = false ∧ s.reg Reg.chainState = 2 ∧ s.awake = true ∧ t.paths.chainQueue = [x] ∧
      t.paths.responses = [] ∧ t.reg Reg.chainNotices = 1 ∧ u.paths.responses = [(1, [])] ∧ t.paths.ringQueue = [x] ∧
      t.paths.ring.state = 1 ∧ r.room = true ∧ ({ r with producer := 64 } : Ring).room = false ∧ bit 1 0 = true ∧
      r.control = 1 ∧ Ring.clear.control ≠ 1 ∧ ({ r with control := 1 } : Ring).valid = true ∧
      ({ Ring.clear with control := 1 } : Ring).valid = false ∧
      (t.setReg Reg.chainNotices 0).reg Reg.chainNotices ≠ 1 := by decide +kernel

/-! RequestsAreAnswered -/

theorem test_RequestsAreAnswered :
    let s := tState.setReg Reg.chainState 2
    let f : Bytes := u8 1 ++ u8 1 ++ u16 7 ++ u16 0x1000 ++ u8 1 ++ u8 3 ++ zeros 38
    let t : State := { s with paths := { s.paths with replies := [(5, 7, [])] } }
    s.awake = true ∧ s.keystoneDown = false ∧ s.reg Reg.chainState = 2 ∧ 24 ≤ f.length ∧ hdOp f < 0x20 ∧
      t.storedReply 5 (hdSeq f) = some [] ∧ s.storedReply 5 (hdSeq f) = none ∧ (zeros 4).length < 24 ∧
      (s.gatewaySlot 3).owner = false ∧
      ((s.setGateway 3 { GatewaySlot.clear with owner := true }).gatewaySlot 3).owner = true ∧
      s.serves (.pcie 0) = true := by decide +kernel
theorem test_RequestsAreAnswered_entries :
    let u := tState.countRequest (.pcie 0)
    let read (i j t : Nat) : Nat × Option Nat :=
      ((u.judgeAccess (.pcie 0) i j t false none).1, (u.judgeAccess (.pcie 0) i j t false none).2.map fun e => typeLength e.typ)
    read 0x2000 1 1 = (rcOk, some 1) ∧ read 0x4000 6 9 = (rcOk, some 0) ∧ read 0x8100 3 9 = (rcAccessDenied, none) ∧
      (u.judgeAccess (.pcie 0) 0x2000 1 1 true (some 1)).2 = findEntry 0x2000 1 ∧ (findEntry 0x2000 1).isSome = true ∧
      (findEntry 0x2000 1).any (fun e => valueOk e 0x2000 1 (u8 3) && e.typ != 7 && typeLength e.typ != 0 &&
        (u.writeEntry (.pcie 0) e 0x2000 1 (u8 3)).1 == rcOk) = true ∧
      findEntry 0 0 = none ∧ nextKey (entryKey 0xFFFF 0xFF) = none ∧
      (nextKey (entryKey 0 0)).any (fun k => (findEntry (k / 256) (k % 256)).isSome) = true := by decide +kernel
theorem test_RequestsAreAnswered_segments :
    let x : Partial := { via := .pcie 0, key := 1, total := 9, value := [], at_ := 0 }
    let s : State := { tState with paths := { tState.paths with partials := [x] } }
    let t : State := { s with time := { s.time with localCount := 65536 } }
    s.partialOf (.pcie 0) = some x ∧ s.stale x = false ∧ t.partialOf (.pcie 0) = some x ∧ t.stale x = true ∧
      bar0Ok 3 1 0x80 = true ∧ bar0Ok 0x10000 4 0 = true ∧ bar0Ok 0x20000 4 0 = true ∧ bar0Ok 0x21000 8 0 = true ∧
      bar0Ok 0x21008 4 0 = true := by decide +kernel
theorem test_RequestsAreAnswered_debug :
    let s := ((tState.setReg Reg.debugLevel 3).setReg Reg.ideActive 1)
    let u := s.countRequest (.pcie 0)
    s.serves (.pcie 0) = true ∧ (u.judgeAccess (.pcie 0) 0x8100 3 9 false none).1 = rcOk ∧
      (u.judgeAccess (.pcie 0) 0x8100 3 9 false none).2.any (fun e => typeLength e.typ == 0) = true ∧
      u.debugValue.1 = rcOk := by decide +kernel
theorem test_RequestsAreAnswered_retired :
    let u := (tState.setReg Reg.lifecycle 3).countRequest (.pcie 0)
    (tState.setReg Reg.lifecycle 3).serves (.pcie 0) = true ∧ u.reg Reg.lifecycle = 3 ∧
      (u.judgeAccess (.pcie 0) 0x8010 2 9 false none).1 = rcOk ∧
      (u.judgeAccess (.pcie 0) 0x8010 2 9 false none).2.any (fun e => typeLength e.typ == 0) = true := by decide +kernel

/-! PowerStatesChange -/

theorem test_PowerStatesChange :
    let u := tState.countRequest (.pcie 0)
    let t : State := { tState with power := { tState.power with target := some 2, startsAt := 0 } }
    let d : State := { tState with power := { tState.power with target := some 3, started := true, mode := .doze } }
    tState.grantsNumber (.pcie 0) 0x3000 2 1 0 = true ∧ tState.grantsNumber (.pcie 0) 0x3000 2 1 1 = true ∧
      tState.grantsNumber (.pcie 0) 0x3000 2 1 3 = true ∧ u.power.target = none ∧
      u.power.mode = .run ∧ (tState.setReg Reg.wakeSources 0).reg Reg.wakeSources = 0 ∧
      (tState.setReg Reg.wakeSources 0).grantsNumber (.pcie 0) 0x3000 2 1 3 = true ∧ t.grantsNumber (.pcie 0) 0x3000 2 1 1 = true ∧
      (t.countRequest (.pcie 0)).power.target.isSome = true ∧ t.awake = true ∧ t.power.started = false ∧
      t.power.startsAt ≤ t.time.localCount ∧ nextMode .run 2 ≠ .run ∧ powerCode (nextMode .run 2) ≠ 2 ∧
      powerCode (nextMode .run 1) = 1 ∧ d.awake = true ∧ d.power.mode = .doze ∧ d.power.target = some 3 ∧
      d.paths.chainQueue = [] ∧ d.paths.ringQueue = [] ∧ tState.awake = true ∧ tState.power.flowLow < 3125 := by
  decide +kernel
theorem test_PowerStatesChange_sleep :
    let s := ({ tState with power := { tState.power with mode := .sleep } }).setReg Reg.wakeSources 15
    let t := s.setReg Reg.wakeCourse 0
    let f : Bytes := u8 1 ++ u8 2 ++ zeros 2 ++ u16 0x3000 ++ u8 6 ++ u8 7 ++ zeros 8 ++ u16 1 ++ zeros 6 ++ u8 1
    let l : State := { s with power := { s.power with supplyLow := true } }
    let w : State := { s with power := { s.power with waking := some 3 } }
    s.power.mode = .sleep ∧ s.power.waking = none ∧ [0, 1, 2].all (fun i => bit (s.reg Reg.wakeSources) i) = true ∧
      s.power.pwrGood = true ∧ s.power.supplyLow = false ∧ t.reg Reg.wakeCourse ≠ allOnes64 ∧
      t.reg Reg.wakeCourse ≤ t.time.keeper + t.reg Reg.wakeLead + t.keeperBound ∧ s.reg Reg.wakeCourse = allOnes64 ∧
      isWakeFrame f = true ∧ isWakeFrame (zeros 25) = false ∧ l.power.supplyLow = true ∧ l.power.mode = .sleep ∧
      w.power.waking = some 3 ∧ tState.power.mode ≠ .sleep := by decide +kernel

/-! ReportsAndTraces -/

theorem test_ReportsAndTraces :
    let u := tState.countRequest (.pcie 0)
    let w := tState.setReg Reg.attestState 1
    let r := tState.setReg Reg.lifecycle 3
    let a : State := { tState with security := { tState.security with attest := some ⟨zeros 32, []⟩ } }
    tState.grants (.pcie 0) 0x8010 1 9 (zeros 32) = true ∧ u.reg Reg.attestState ≠ 1 ∧ u.reg Reg.lifecycle ≠ 3 ∧
      w.grants (.pcie 0) 0x8010 1 9 (zeros 32) = true ∧ (w.countRequest (.pcie 0)).reg Reg.attestState = 1 ∧
      tState.security.attest = none ∧ a.security.attest = some ⟨zeros 32, []⟩ ∧
      tState.awake = true ∧ tState.reg Reg.lifecycle ≠ 3 ∧ r.awake = true ∧ r.reg Reg.lifecycle = 3 := by decide +kernel
theorem test_ReportsAndTraces_time :
    let s := ((tRunning tPlan).setReg Reg.traceState 1).setReg Reg.traceStart 0
    let t := s.setReg Reg.traceStart 5
    let k : State := { tState with time := { tState.time with known := true, count := 2 } }
    let dated : State := { k with security := { k.security with image := zeros 72 ++ [1] ++ zeros 183 } }
    s.reg Reg.traceState = 1 ∧ s.prog.running = true ∧ s.reg Reg.traceStart ≤ s.prog.course ∧
      t.prog.course < t.reg Reg.traceStart ∧ k.time.known = true ∧ k.security.notAfterSeen = false ∧ k.limewash = false ∧
      k.awake = true ∧ (⟨k.security.image⟩ : Item).notAfter = 0 ∧ dated.security.notAfterSeen = false ∧
      dated.limewash = false ∧ dated.awake = true ∧
      (⟨dated.security.image⟩ : Item).notAfter ≠ 0 ∧ (⟨dated.security.image⟩ : Item).notAfter < dated.time.count := by
  decide +kernel

/-! SecurityCommandsAct -/

theorem test_SecurityCommandsAct_enrol :
    let o := (tState.setReg Reg.lifecycle 1).setReg Reg.ideActive 1
    let r := o.setReg Reg.lifecycle 3
    let p := o.countRequest (.pcie 0)
    o.grants (.pcie 0) 0x8010 7 9 (zeros 64) = true ∧ p.reg Reg.lifecycle = 1 ∧ p.owned = false ∧
      (r.countRequest (.pcie 0)).reg Reg.lifecycle ≠ 1 ∧ r.grants (.pcie 0) 0x8010 7 9 (zeros 64) = true := by decide +kernel
theorem test_SecurityCommandsAct_levels :
    let u := tState.countRequest (.pcie 0)
    let e := tState.setReg Reg.ideActive 1
    tState.grantsNumber (.pcie 0) 0x8020 5 1 0 = true ∧ tState.grantsNumber (.pcie 0) 0x8020 5 1 1 = true ∧
      tState.grantsNumber (.pcie 0) 0x8020 5 1 3 = true ∧ u.reg Reg.debugLevel = 0 ∧ u.levelAllowed 1 = true ∧
      e.grantsNumber (.pcie 0) 0x8020 5 1 2 = true ∧ (e.countRequest (.pcie 0)).reg Reg.debugLevel < 2 ∧
      (e.countRequest (.pcie 0)).secure (.pcie 0) = true ∧ (e.countRequest (.pcie 0)).owned = false ∧
      (e.countRequest (.pcie 0)).levelAllowed 2 = true := by decide +kernel
theorem test_SecurityCommandsAct_commit :
    let s := tState.setReg Reg.securityVersionRunning 1
    let u := s.countRequest (.pcie 0)
    s.grantsNumber (.pcie 0) 0x8000 3 7 1 = true ∧ u.limewash = false ∧
      u.reg Reg.securityVersionFused < u.reg Reg.securityVersionRunning ∧ u.olderImage = false ∧
      tState.grantsNumber (.pcie 0) 0x8000 3 7 1 = true ∧
      (tState.countRequest (.pcie 0)).reg Reg.securityVersionRunning ≤
        (tState.countRequest (.pcie 0)).reg Reg.securityVersionFused := by decide +kernel
theorem test_SecurityCommandsAct_debug :
    let d := ((({ tState with power := { tState.power with mode := .hold } } : State).setReg Reg.debugLevel 3).setReg
      Reg.ideActive 1)
    let u := d.countRequest (.pcie 0)
    let r : State := { d with prog := (tRunning tPlan).prog }
    d.grants (.pcie 0) 0x8100 4 9 (zeros 4) = true ∧ u.power.mode = .hold ∧ u.planActive = false ∧
      (u.debugRange (u.reg Reg.debugAddress) 4).1 = rcOk ∧
      r.grants (.pcie 0) 0x8100 4 9 (zeros 4) = true ∧ (r.countRequest (.pcie 0)).planActive = true := by decide +kernel
/-- An item of a kind with a request byte and the rest of its body, its nonce zero and all keys zeros. -/
def tItem (kind request : Nat) (rest : Bytes) : Item :=
  let body := u8 request ++ rest
  ⟨[0x4C, 0x54, 0x49, 0x4D] ++ u16 1 ++ u8 kind ++ u8 0 ++ u64 0 ++ u64 body.length ++ sha3 body ++ [0xFF, 0xFF, 1] ++
    zeros 197 ++ padTo (ceilDiv (256 + body.length) 64 * 64 - 256) body ++ zeros 10720⟩
/-- A lifecycle state and a debug level over PCI Express with IDE, the owner of the zero keys enrolled. -/
def tSigned (lifecycle level : Nat) : State :=
  let s := ((tState.setReg Reg.ideActive 1).setReg Reg.lifecycle lifecycle).setReg Reg.debugLevel level
  { s with security := { s.security with owner := some (sha3 (zeros 32) ++ sha3 (zeros 1952)) } }
/-- The checks of R472 but for the signatures: those are Config's, which have no value, and stay hypotheses below. -/
def tPlain (s : State) (i : Item) : Bool :=
  i.layoutOk && decide (sha3 i.body = slice i.bytes 24 32) && i.ownerFlag && i.ownerE.1 == zeros 32 &&
    i.ownerM.1 == zeros 1952 && !decide (i.securityVersion < s.reg Reg.securityVersionFused ∨ 64 < i.securityVersion) &&
    s.partOk i && !decide ((3 ≤ i.kind ∧ i.nonce ≠ s.blob Blob.debugNonce) ∨ s.inTime i false = false)
theorem test_items_owner (l d : Nat) (i : Item) (hp : tPlain ((tSigned l d).countRequest (.pcie 0)) i = true)
    (h : i.pairOk i.ownerE i.ownerM = true) : ((tSigned l d).countRequest (.pcie 0)).ownerSigned i = true := by
  simp only [tPlain, Bool.and_eq_true, beq_iff_eq] at hp
  obtain ⟨⟨⟨⟨⟨⟨⟨h1, h2⟩, h4⟩, h5⟩, h6⟩, h7⟩, h8⟩, h9⟩ := hp
  unfold State.ownerSigned
  rw [show ((tSigned l d).countRequest (.pcie 0)).security.owner = some (sha3 (zeros 32) ++ sha3 (zeros 1952)) from rfl, h5,
    h6, h4, h]
  simp
theorem test_items_verify (s : State) (i : Item) (hp : tPlain s i = true)
    (hv : (s.vendorUnused i || (s.anchorsOk i && i.pairOk i.vendorE i.vendorM)) = true)
    (ho : (!s.ownerNeeded i || s.ownerSigned i) = true) : s.verify i [i.kind] false = none := by
  simp only [tPlain, Bool.and_eq_true, Bool.not_eq_true', decide_eq_false_iff_not, decide_eq_true_eq, beq_iff_eq] at hp
  obtain ⟨⟨⟨⟨⟨⟨⟨h1, h2⟩, h4⟩, h5⟩, h6⟩, h7⟩, h8⟩, h9⟩ := hp
  simp only [Bool.or_eq_true, Bool.and_eq_true] at hv
  unfold State.verify
  rw [if_neg (by simp [h1]), if_neg (by simp [h2]), if_neg (by rcases hv with h | h <;> simp [h]),
    if_neg (by rcases hv with h | h <;> simp [h]), if_neg (by simp [ho]), if_neg h7, if_neg (by simp [h8]),
    if_neg (by simp), if_neg h9]
theorem test_SecurityCommandsAct_change :
    let s := tSigned 1 0
    let u := s.countRequest (.pcie 0)
    let i := tItem 4 0 (zeros 63 ++ [1] ++ zeros 63)
    let r := tItem 4 0 (zeros 127)
    s.grants (.pcie 0) 0x8010 8 9 i.bytes = true ∧ s.grants (.pcie 0) 0x8010 8 9 r.bytes = true ∧
      allZero (slice i.body 64 64) = false ∧ allZero (slice r.body 64 64) = true ∧
      (i.pairOk i.ownerE i.ownerM = true → u.verify i [4] false = none) ∧
      (r.pairOk r.ownerE r.ownerM = true → u.verify r [4] false = none) := by
  intro s u i r
  have hi : tPlain u i = true := by decide +kernel
  have hr : tPlain u r = true := by decide +kernel
  exact ⟨by decide +kernel, by decide +kernel, by decide +kernel, by decide +kernel,
    fun h => test_items_verify u i hi (by rfl) (by rw [test_items_owner 1 0 i hi h, Bool.or_true]),
    fun h => test_items_verify u r hr (by rfl) (by rw [test_items_owner 1 0 r hr h, Bool.or_true])⟩
theorem test_SecurityCommandsAct_lifecycle :
    let s := tSigned 1 0
    let u := s.countRequest (.pcie 0)
    let i := tItem 5 3 (zeros 63)
    let r := tItem 5 1 (zeros 63)
    s.grants (.pcie 0) 0x8020 2 9 i.bytes = true ∧ s.grants (.pcie 0) 0x8020 2 9 r.bytes = true ∧
      u.moveAllowed i.request = true ∧ u.moveAllowed r.request = false ∧
      (i.pairOk i.ownerE i.ownerM = true → u.verify i [5] false = none) ∧
      ((u.anchorsOk r && r.pairOk r.vendorE r.vendorM) = true → u.verify r [5] false = none) := by
  intro s u i r
  have hi : tPlain u i = true := by decide +kernel
  have hr : tPlain u r = true := by decide +kernel
  refine ⟨by decide +kernel, by decide +kernel, by decide +kernel, by decide +kernel,
    fun h => test_items_verify u i hi ?_ (by decide +kernel),
    fun h => test_items_verify u r hr (by rw [h, Bool.or_true]) (by decide +kernel)⟩
  unfold State.vendorUnused
  rw [test_items_owner 1 0 i hi h]
  decide +kernel
theorem test_SecurityCommandsAct_token :
    let s := tSigned 1 0
    let t := tSigned 1 1
    let u := s.countRequest (.pcie 0)
    let w := t.countRequest (.pcie 0)
    let i := tItem 3 1 (zeros 63)
    let r := tItem 3 4 (zeros 63)
    s.grants (.pcie 0) 0x8020 6 9 i.bytes = true ∧ t.grants (.pcie 0) 0x8020 6 9 i.bytes = true ∧
      s.grants (.pcie 0) 0x8020 6 9 r.bytes = true ∧ i.request = 1 ∧ r.request = 4 ∧ u.reg Reg.debugLevel < 1 ∧
      1 ≤ w.reg Reg.debugLevel ∧ u.levelAllowed i.request = true ∧
      (i.pairOk i.ownerE i.ownerM = true → u.verify i [3] false = none ∧ w.verify i [3] false = none) ∧
      ((u.anchorsOk r && r.pairOk r.vendorE r.vendorM) = true → u.verify r [3] false = none) := by
  intro s t u w i r
  have hi : tPlain u i = true := by decide +kernel
  have hw : tPlain w i = true := by decide +kernel
  have hr : tPlain u r = true := by decide +kernel
  exact ⟨by decide +kernel, by decide +kernel, by decide +kernel, by decide +kernel, by decide +kernel, by decide +kernel,
    by decide +kernel, by decide +kernel,
    fun h => ⟨test_items_verify u i hi (by decide +kernel) (by rw [test_items_owner 1 0 i hi h, Bool.or_true]),
      test_items_verify w i hw (by decide +kernel) (by rw [test_items_owner 1 1 i hw h, Bool.or_true])⟩,
    fun h => test_items_verify u r hr (by rw [h, Bool.or_true]) (by decide +kernel)⟩
theorem test_SecurityCommandsAct_refused :
    let s := tState.setReg Reg.ideActive 1
    let u := s.countRequest (.pcie 0)
    s.grants (.pcie 0) 0x8010 8 9 (zeros 400) = true ∧ s.grants (.pcie 0) 0x8020 2 9 (zeros 400) = true ∧
      s.grants (.pcie 0) 0x8020 6 9 (zeros 400) = true ∧ u.verify ⟨zeros 400⟩ [4] false = some (1, rcRangeError) ∧
      u.verify ⟨zeros 400⟩ [5] false = some (1, rcRangeError) ∧
      u.verify ⟨zeros 400⟩ [3] false = some (1, rcRangeError) := by decide +kernel

/-! BondsActTogether -/

theorem test_BondsActTogether :
    let m (k : Nat) : State := tState.setReg Reg.bondMode k
    let t : State := { m 1 with bond := { (m 1).bond with takeover := some (64, 0) } }
    let u (s : State) : State := s.countRequest (.pcie 0)
    tState.grantsNumber (.pcie 0) 0x9000 1 1 0 = true ∧ (u tState).reg Reg.bondMode = 0 ∧
      (m 1).grantsNumber (.pcie 0) 0x9000 1 1 0 = true ∧ (u (m 1)).reg Reg.bondMode ≠ 0 ∧
      (u (m 1)).takeoverPending = false ∧ t.grantsNumber (.pcie 0) 0x9000 1 1 0 = true ∧ (u t).takeoverPending = true ∧
      tState.grantsNumber (.pcie 0) 0x9000 6 7 1 = true ∧ wordChecks (2 ^ 108 + crc16 (leBytes 14 (2 ^ 108)) * 2 ^ 112) = true ∧
      2 ^ 108 + crc16 (leBytes 14 (2 ^ 108)) * 2 ^ 112 < 2 ^ 128 ∧ tState.power.mode = .run ∧ tState.awake = true := by
  decide +kernel
theorem test_BondsActTogether_pair :
    let s := (tRunning tPlan).setReg Reg.bondPartner 5
    let p := s.bondPorts
    let t := p.foldl (fun s k => (s.setReg (Reg.partnerDeviceId k) 5).setPort k { (s.port k).allLanes 2 with phase := 0 }) s
    let u := (p.foldl (fun s k => s.setReg (Reg.linkState k) 2) t).countRequest (.pcie 0)
    u.grantsNumber (.pcie 0) 0x9000 1 1 1 = true ∧ (u.countRequest (.pcie 0)).partnerUp = true ∧ u.planActive = true ∧
      u.anyPlan = some tPlan ∧ tPlan.sharesIngress = true ∧ u.blocker 8 0 = none ∧ u.limewash = false ∧
      u.power.mode = .run ∧ 1 ≠ u.reg Reg.bondMode := by decide +kernel
theorem test_BondsActTogether_states :
    let s (k : Nat) : State := (tState.setReg Reg.bondState k).setReg Reg.bondMode 2
    let d : State := { s 3 with bond := { (s 3).bond with keyDiffers := 64, bufferFilled := true } }
    let k : State := { s 2 with bond := { (s 2).bond with partner := some 0, missed := 9999 } }
    let e : Bytes := u8 6 ++ u8 1 ++ zeros 62
    (s 3).reg Reg.bondState = 3 ∧ 64 ≤ d.bond.keyDiffers ∧ (s 3).bond.keyDiffers < 64 ∧ d.bond.bufferFilled = true ∧
      d.bond.lagged = false ∧ (s 3).bond.bufferFilled = false ∧ k.reg Reg.bondState = 2 ∧ (s 2).keysEqual = false ∧
      mirrorOk e = true ∧ (s 3).awake = true ∧ byteAt e 0 = 6 ∧ (s 3).reg Reg.bondMode = 2 ∧
      (s 2).bond.missed < (s 2).reg Reg.heartbeatLimit ∧ k.reg Reg.heartbeatLimit ≤ k.bond.missed ∧
      k.keysEqual = true := by decide +kernel
theorem test_BondsActTogether_takeover :
    let s := (((tRunning tPlan).setReg Reg.bondMode 2).setReg Reg.bondState 3).setReg Reg.domainRole 1
    let q : State := s.setQp 3 { Qp.fresh with state := 1, record := u8 3 ++ zeros 63 }
    let t : State := { s with bond := { s.bond with takeover := some (0, 0), partner := some (2 ^ 103) } }
    let l : State := { s with bond := { s.bond with takeover := some (999999, 0) } }
    q.headHears 3 (zeros 64) = true ∧ q.reg Reg.bondState = 3 ∧ q.bond.takeover = none ∧ q.bond.tookOver = false ∧
      q.headHears 3 [] = false ∧ t.bond.takeover = some (0, 0) ∧ t.reg Reg.bondMode ≠ 0 ∧ t.haltDue = false ∧
      t.reachedCourses.any (fun c => decide (0 ≤ c)) = true ∧
      l.reachedCourses.any (fun c => decide (999999 ≤ c)) = false ∧ t.bond.partner.any hbTookOver = true := by
  decide +kernel

/-! FaultsAreRepaired -/

theorem test_FaultsAreRepaired :
    let w : TileWait := { consumer := .mQueue 0, address := moduleAddress 2 0 0 0 1024, fmt := 3, dest := 0, failed := false }
    let x : Suspension := { courses := 1, waiting := [w], edges := [], cause := 3 }
    let s : State := { tState with prog := { tState.prog with suspension := some x } }
    let g : Bytes := u8 1 ++ zeros 63
    tState.waitOf (.mQueue 0) false = none ∧ s.waitOf (.mQueue 0) false = some w ∧ s.awake = true ∧ s.limewash = false ∧
      s.inHold = false ∧ ({ s with power := { s.power with mode := .hold } } : State).inHold = true ∧
      s.portRole 2 ≤ 1 ∧ g.length = 64 ∧ byteAt g 0 = 1 ∧ s.requestedTile g = none := by decide +kernel
theorem test_FaultsAreRepaired_repairs :
    let x : Repair :=
      { consumer := .mQueue 0, address := 0, kind := 1, slot := 0, side := 0, generation := 0, sources := [], since := 0, tag := 7 }
    let s : State := { tState with repairs := [x] }
    let g (k : Nat) : Bytes := u8 k ++ zeros 3 ++ u16 7 ++ zeros 58
    let q := (s.setReg Reg.domainRole 1).setQp 3 { Qp.fresh with state := 1, record := u8 3 ++ zeros 63 }
    (s.repairs.find? fun x => x.tag != 0 && x.tag == field (g 2) 4 2) = some x ∧ (g 2).length = 64 ∧ byteAt (g 2) 0 = 2 ∧
      byteAt (g 3) 0 = 3 ∧ s.awake = true ∧ (tState.repairs.find? fun x => x.tag != 0 && x.tag == field (g 2) 4 2) = none ∧
      q.headHears 3 (zeros 64) = true ∧ tState.headHears 3 (zeros 64) = false ∧
      tState.grantsNumber (.pcie 0) 0xA602 0xB 1 9 = true := by decide +kernel
theorem test_FaultsAreRepaired_hard :
    let r := tRunning tPlan
    let h (s : State) : State := { s with start := { s.start with hard := [(3, 0, 0)] } }
    let a := moduleAddress 2 0 0 0 1024
    r.hardUnit 3 0 = true ∧ r.hardUnit 2 0 = true ∧ r.hardUnit 1 0 = true ∧ r.awake = true ∧ r.prog.running = true ∧
      tState.prog.running = false ∧ tState.start.hard = [] ∧ (h r).start.hard = [(3, 0, 0)] ∧ (h r).prog.running = true ∧
      addrSpace a = 2 ∧ a < 2 ^ 48 ∧ r.brickOn (addrBrick a) = true := by decide +kernel
set_option maxRecDepth 20000 in
theorem test_FaultsAreRepaired_tile :
    let a := moduleAddress 2 0 0 0 1024
    let r : Region :=
      { id := 1, space := 2, kind := 1, brick := 0, cluster := 0, position := 0, group := 0, granule := 16, size := 30,
        fmt := 14, slot := 0, base := a }
    let s := ((tRunning { tPlan with regions := [r] }).setReg (Reg.sideState 0) 3).setReg (Reg.sideGeneration 0) 7
    let t : State := { s with mem := Memory.write [] a (sideband false 14 1 0 (crc32c (zeros 948))) }
    let g : Bytes := u8 1 ++ u8 0 ++ u8 7 ++ zeros 5 ++ u64 a ++ zeros 48
    s.requestedTile g = some (a, 14) ∧ g.length = 64 ∧ byteAt g 0 = 1 ∧ t.requestedTile g = some (a, 14) ∧
      tileChecks (s.load a (tileBytes 14)) = false ∧ tileChecks (t.load a (tileBytes 14)) = true := by decide +kernel

/-! StartsAndFirmware -/

theorem test_StartsAndFirmware :
    let o : State := { tState with power := { tState.power with mode := .off } }
    let a := tState.setReg Reg.startState 1
    let c : State := { a with time := { a.time with localCount := 2 ^ 21 } }
    let m := (tState.setReg Reg.startState 3).setReg Reg.limewashReason 1
    let u (s : State) : State := s.countRequest (.pcie 0)
    let p := tState.setReg Reg.planState 2
    o.mayStart = true ∧ a.mayStart = false ∧ a.power.mode ≠ .off ∧ a.reg Reg.startState = 1 ∧
      c.start.operationalAt + 2 ^ 20 ≤ c.time.localCount ∧ a.time.localCount < a.start.operationalAt + 2 ^ 20 ∧
      a.awake = true ∧ tState.reg Reg.startState ≠ 1 ∧ tState.awake = true ∧
      m.grantsNumber (.pcie 0) 0xA600 5 7 1 = true ∧ (u m).limewash = true ∧ (u m).reg Reg.limewashReason ≠ 2 ∧
      tState.grantsNumber (.pcie 0) 0xA600 5 7 1 = true ∧ (u tState).limewash = false ∧
      tState.grantsNumber (.pcie 0) 0xA601 3 1 1 = true ∧ tState.grantsNumber (.pcie 0) 0xA601 3 1 0 = true ∧
      m.grantsNumber (.pcie 0) 0xA603 6 1 2 = true ∧ tState.grantsNumber (.pcie 0) 0xA603 6 1 2 = true ∧
      p.grantsNumber (.pcie 0) 0xA601 5 3 0 = true ∧ (u p).reg Reg.planState ≠ 0 := by
  decide +kernel
theorem test_StartsAndFirmware_slots :
    let s := tState.setReg Reg.slotSelect 1
    let u := s.countRequest (.pcie 0)
    s.grants (.pcie 0) 0xA601 4 9 (zeros 64) = true ∧ u.reg Reg.slotSelect ≠ u.reg Reg.runningSlot ∧
      s.grantsNumber (.pcie 0) 0xA601 5 3 0 = true ∧ u.reg Reg.planState = 0 ∧ u.staging.read 0 0 = [] ∧
      u.reg Reg.runningSlot = 0 := by decide +kernel
theorem test_StartsAndFirmware_activation :
    let u := tState.countRequest (.pcie 0)
    let s := tState.setReg Reg.activationState 1
    let a : State := { s with start := { s.start with firmwareAt := some 0 } }
    let k := tState.setReg Reg.activationState 2
    let p := (tState.setReg Reg.patchState 3)
    let q : State := { p with start := { p.start with patchAt := some 0, patch := some [] } }
    let r := tState.setReg Reg.patchState 2
    tState.grantsNumber (.pcie 0) 0x9020 1 4 0 = true ∧ u.activationCourse 0 64 = true ∧
      tState.grantsNumber (.pcie 0) 0x9020 1 4 7 = true ∧ u.activationCourse 7 64 = false ∧ u.limewash = false ∧
      tState.start.firmwareAt = none ∧ a.start.firmwareAt = some 0 ∧ a.reg Reg.activationState = 1 ∧
      a.serviceCourse 0 = true ∧ a.awake = true ∧ k.keystoneDown = true ∧ tState.keystoneDown = false ∧
      tState.grantsNumber (.pcie 0) 0x9020 3 3 64 = true ∧ u.reg Reg.planState = 0 ∧
      tState.grantsNumber (.pcie 0) 0x9020 5 4 0 = true ∧ u.reg Reg.patchState ≠ 2 ∧
      r.grantsNumber (.pcie 0) 0x9020 5 4 0 = true ∧ (r.countRequest (.pcie 0)).reg Reg.patchState = 2 ∧
      (r.countRequest (.pcie 0)).activationCourse 0 1 = true ∧ (r.countRequest (.pcie 0)).blocker 2 0 = none ∧
      q.start.patchAt = some 0 ∧ q.start.patch = some [] ∧ q.reg Reg.patchState = 3 ∧ q.serviceCourse 0 = true ∧
      tState.start.patchAt = none := by decide +kernel

/-! TritsOfATile -/

theorem test_TritsOfATile :
    byteAt [0x79] 0 = 1 + 3 * 1 + 9 * 1 + 27 * 1 + 81 * 1 ∧ byteAt [242] 0 = 2 + 3 * 2 + 9 * 2 + 27 * 2 + 81 * 2 ∧
      243 ≤ byteAt [243] 0 ∧ 243 ≤ byteAt [255] 0 ∧ byteAt [0] 0 = 0 ∧ byteAt (List.replicate 819 0 ++ [242]) 819 < 243 := by
  decide +kernel
theorem test_TritsOfATile_verdict :
    let rest : Bytes := zeros 128 ++ [243, 255, 242]
    let x : Front := { wt := 14, slot := none, expected := some 1 }
    let g := { tTile with
      fmt := 14, bytes := sideband false 14 1 0 (crc32c rest) ++ rest, front := some x, arrived := true }
    let s := tFill g
    let u := s.setArrayOf 0 0 { s.arrayOf 0 0 with fills := markArrived (s.arrayOf 0 0).fills }
    hasQueue 0 0 = true ∧ s.prog.works = true ∧ u.awaits (.feeder 0 0) = false ∧
      ((u.arrayOf 0 0).fills.find? fun g => g.verdict.isNone) = some g ∧ u.unchecked x = false ∧
      crc32c (g.bytes.drop 8) = tileCheck g.bytes ∧ tileFormat g.bytes = 14 ∧ tileReserved g.bytes = 0 ∧
      u.tintOk x g.bytes = true ∧ generationOk x g.bytes = true ∧
      ((tileElems 14 g.bytes).countP fun b => decide (243 ≤ b.toNat)) = 2 := by decide +kernel

/-! AllowedStates -/

theorem test_AllowedStates :
    let s := tState.setReg Reg.debugLevel 3
    let u := s.countRequest (.pcie 0)
    let sleep : State := { tState with power := { tState.power with mode := .sleep } }
    let doze : State := { tState with power := { tState.power with mode := .doze } }
    tState.keystoneDown = false ∧ sleep.power.mode = .sleep ∧ sleep.keystoneDown = false ∧
      s.serves (.pcie 0) = true ∧ doze.serves (.pcie 0) = true ∧
      (findEntry 0x2000 1).any (fun e => u.allowed (.pcie 0) e 0x2000 1 && u.unitPresent 0x2000 1 &&
        u.stateAllows e && e.access == 1 && typeLength e.typ == 1) = true ∧
      (findEntry 0x2020 1).any (fun e => e.access == 1 && e.states == 1 && typeLength e.typ == 8 &&
        (doze.countRequest (.pcie 0)).allowed (.pcie 0) e 0x2020 1 && bit e.states 2 == false) = true := by decide +kernel
theorem test_AllowedStates_limewash :
    let s := tState.setReg Reg.startState 3
    let u := s.countRequest (.pcie 0)
    s.serves (.pcie 0) = true ∧ s.keystoneDown = false ∧ u.limewash = true ∧
      (findEntry 0x2000 1).any (fun e => u.allowed (.pcie 0) e 0x2000 1 && bit e.states 3 && bit e.states 0) = true ∧
      (findEntry 0x2020 1).any (fun e => u.allowed (.pcie 0) e 0x2020 1 && !bit e.states 3) = true := by decide +kernel

end Sys2Proof.Tests
end

/-! PROOFS. Courses, signals, substitutions and ports: each command's operation branch by branch, and the statements
settled from the branches. -/

namespace Sys2Proof.Machine

/-! ### How a command of one operation ends -/

/-- An effect that leaves the queue alone, under another name, is the next state. -/
theorem done_of_eq {s t u : State} (hp : t.pending = s.pending) (h : t = u) : s.done t = .next u :=
  h ▸ done_eq hp

/-- A granted write that leaves the queue alone ends with what its entry answers. -/
theorem done_writeNumber {s t : State} {v : Via} {index sub typ value rc : Nat} {act : State → Nat × State}
    (h : s.grantsNumber v index sub typ value = true) (ha : act (s.countRequest v) = (rc, t))
    (hp : ∀ u, (act u).2.pending = u.pending) :
    s.done (s.writeNumber v index sub typ value act) = .next (t.respond v index sub 2 rc []) := by
  rw [done_eq (State.writeNumber_pending s v index sub typ value act hp), writeNumber_grants h, ha]

/-! ### Scrubbing (R201) -/

section
variable {s : State} {u : StoreUnit} {bank : Nat} {claimed : Bool} {ecc : Ecc}

theorem execScrubStep_next (hu : s.storeOn u = true) (hb : bank < (scrubGeometry u).1) :
    execScrubStep u bank claimed ecc s = .next (s.scrubOne u bank claimed ecc) :=
  onUnit_runs (by simp [hu, hb]) (State.scrubOne_pending ..)

theorem State.scrubOne_deferred (h : claimed = true ∨ s.lowPriorities = false) :
    s.scrubOne u bank claimed ecc = s.bump Reg.scrubDeferred := by
  unfold State.scrubOne
  rw [if_pos (by simpa using h)]

end

/-- Settles O26: the claim and the low priorities decide the one branch of a scrub step. -/
theorem scrubSteps : Obligations.ScrubSteps := by
  intro unit bank claimed ecc s hu hb
  rw [exec_scrubStep, execScrubStep_next hu hb]
  refine ⟨fun h => by rw [State.scrubOne_deferred h], fun hc hl => ?_⟩
  unfold State.scrubOne
  rw [if_neg (by simp [hc, hl])]

/-! ### Signals, inputs and arrivals (R158, R159, R254, R266) -/

section
variable {s : State} {t : TieTarget} {x : PointSource} {op operand : Nat}

/-- A tie signal of this module leaves as a packet. -/
theorem State.signalTo_own (h : t.path = 0xFFFF) :
    s.signalTo t x op operand = (s.bump Reg.signalsSent).emit (.packet
      (packetWord (t.brick * 64 + t.core % 64) 0 (s.prog.course + t.offset) 0 (signalMessage operand t.tie op) x)) := by
  unfold State.signalTo
  exact if_pos h

/-- A tie signal to another module leaves on the port of its path. -/
theorem State.signalTo_port {p : Nat} (h : t.path ≠ 0xFFFF)
    (hp : (s.bump Reg.signalsSent).routePort t.path = some p) :
    s.signalTo t x op operand = (s.bump Reg.signalsSent).outbound
      (outboundWord t.device p 0 (t.brick * 64 + t.core % 64) (s.prog.course + t.offset) t.tie op operand x) := by
  unfold State.signalTo
  dsimp only
  rw [if_neg h, hp]
  rfl

/-- Without a port on its path a tie signal is counted only. -/
theorem State.signalTo_nowhere (h : t.path ≠ 0xFFFF) (hp : (s.bump Reg.signalsSent).routePort t.path = none) :
    s.signalTo t x op operand = s.bump Reg.signalsSent := by
  unfold State.signalTo
  dsimp only
  rw [if_neg h, hp]

end

section
variable {s : State} {q : Issue} {f : Fields}

/-- DUE that its queue runs puts its granules on the list of inputs. -/
theorem execDue_next (h : s.runs q f (nShape [] .unused .unused 0 allImm) (fun g => bits g.imm 0 4 != 0) = true) :
    execDue q f s =
      let g := s.fieldsOf q f (nShape [] .unused .unused 0 allImm)
      let u := s.issue q 0x52
      .next ((u.mapProg fun p => { p with inputs := p.inputs ++ [{
        need := .granules (sendRouteNo g) (bits g.imm 4 16), due := p.course + bits g.imm 0 4,
        cause := u.routeCause (sendRouteNo g) }] }).advance q) :=
  instr_runs h (State.issue_pending s q 0x52)

/-- TSIG that its queue runs sends the signal of its tie. -/
theorem execTsig_next {t : TieTarget}
    (h : s.runs q f { bare [6, 7] with flags := 3, imm := allImm }
      (fun g => (s.tieTarget (bits g.imm 0 16)).isSome) = true) :
    let g := s.fieldsOf q f { bare [6, 7] with flags := 3, imm := allImm }
    let u := s.issue q 0x53
    u.tieTarget (bits g.imm 0 16) = some t →
    execTsig q f s =
      .next ((u.signalTo t (u.coreSource q.core) (g.flags % 4) (bits g.imm 16 16)).advance q) := by
  intro g u ht
  unfold execTsig
  rw [instr_runs h]
  · rw [ht]
  · rw [ht, State.signalTo_pending, State.issue_pending]

/-- LVA that its queue runs counts the core's arrival and tells the brick node. -/
theorem execLva_next (h : s.runs q f { bare [6] with imm := 0xFF } anyFields = true) :
    execLva q f s =
      let g := s.fieldsOf q f { bare [6] with imm := 0xFF }
      let u := (s.issue q 0x54).mapSeq q.core fun x =>
        { x with arrivals := Map.set x.arrivals 0 g.imm (Map.get x.arrivals 0 g.imm + 1) }
      .next ((u.emit (.packet (packetWord (q.core / 64 * 64) 2 u.prog.course 0 (levelMessage g.imm)
        (u.coreSource q.core)))).advance q) :=
  instr_runs h (State.issue_pending s q 0x54)

end

/-- Settles O29: each instruction issues, has its one effect, and its queue advances. -/
theorem signalsAndInputsLeave : Obligations.SignalsAndInputsLeave := by
  intro q f s
  refine ⟨execDue_next, ?_, execLva_next⟩
  intro sh g u op operand h t ht tag core x
  rw [exec_tsig, execTsig_next h ht]
  refine ⟨fun hp => ?_, fun p hp hr => ?_, fun hp hr => ?_⟩
  · rw [State.signalTo_own hp]
    rfl
  · rw [State.signalTo_port hp hr]
    rfl
  · rw [State.signalTo_nowhere hp hr]

/-! ### Substitutions (R50 to R54) -/

section
variable {s : State} {cluster bytes : Nat} {x : Subst} {fits : Bool}

theorem execMaintenanceMicrostep_next (hc : cluster < 128) :
    execMaintenanceMicrostep cluster bytes s = .next (s.copyPortion cluster bytes) :=
  onUnit_runs (decide_eq_true hc) (State.copyPortion_pending ..)

theorem execSubstitutionRegisterCopy_next (hc : cluster < 128) :
    execSubstitutionRegisterCopy cluster fits s = .next (s.copyRegisters cluster fits) :=
  onUnit_runs (decide_eq_true hc) (State.copyRegisters_pending ..)

theorem execSubstitutionSwap_next (hc : cluster < 128) :
    execSubstitutionSwap cluster s = .next (s.swapSpare cluster) :=
  onUnit_runs (decide_eq_true hc) (State.swapSpare_pending ..)

theorem execSpareFault_next (hc : cluster < 128) : execSpareFault cluster s = .next (s.abandon cluster 2 3) :=
  onUnit_runs (decide_eq_true hc) (State.abandon_pending ..)

/-- The state with a cluster's record replaced. -/
def State.putSubst (s : State) (cluster : Nat) (x : Subst) : State :=
  { s with units := { s.units with substitutions := Map.put s.units.substitutions cluster x } }

/-- The state with a cluster's record dropped. -/
def State.dropSubst (s : State) (cluster : Nat) : State :=
  { s with units := { s.units with substitutions := Map.drop s.units.substitutions cluster } }

/-- A micro-step of no bytes, or in a course without low priorities, is deferred. -/
theorem State.copyPortion_deferred (hx : Map.find s.units.substitutions cluster = some x)
    (hl : x.since < s.time.localCount) (hc : x.complete cluster = false) (h : s.lowPriorities = false ∨ bytes = 0) :
    s.copyPortion cluster bytes = s.bump Reg.maintenanceDeferred := by
  unfold State.copyPortion
  rw [hx]
  dsimp only
  rw [if_neg (by simp [hc, hl]), if_pos h]

/-- Any other micro-step adds its portion. -/
theorem State.copyPortion_copies (hx : Map.find s.units.substitutions cluster = some x)
    (hl : x.since < s.time.localCount) (hc : x.complete cluster = false) (h : s.lowPriorities = true)
    (hb : bytes ≠ 0) :
    s.copyPortion cluster bytes =
      s.putSubst cluster (x.copy cluster s.time.localCount s.copyLimit bytes) := by
  unfold State.copyPortion
  rw [hx]
  dsimp only
  rw [if_neg (by simp [hc, hl]), if_neg (by simp [h, hb])]
  rfl

/-- A register copy that is due and fits is marked with its course. -/
theorem State.copyRegisters_copies (hx : Map.find s.units.substitutions cluster = some x)
    (hc : x.complete cluster = true) (hd : s.registersDue x = true) (h : s.lowPriorities = true) :
    s.copyRegisters cluster true = s.putSubst cluster { x with registers := some s.time.localCount } := by
  unfold State.copyRegisters
  rw [hx]
  dsimp only
  rw [if_neg (by simp [hc, hd]), if_pos (by simp [h])]
  rfl

/-- A register copy that is due and does not fit is deferred. -/
theorem State.copyRegisters_deferred (hx : Map.find s.units.substitutions cluster = some x)
    (hc : x.complete cluster = true) (hd : s.registersDue x = true) (h : s.lowPriorities = false ∨ fits = false) :
    s.copyRegisters cluster fits = (s.putSubst cluster
      { x with deferred := if s.prog.running then some (s.prog.course + 1) else none }).bump
        Reg.maintenanceDeferred := by
  unfold State.copyRegisters
  rw [hx]
  dsimp only
  rw [if_neg (by simp [hc, hd]), if_neg (by rcases h with h | h <;> simp [h])]
  rfl

/-- In its time the spare of a substitution whose registers are copied takes the position. -/
theorem State.swapSpare_swaps {k : Nat} (hx : Map.find s.units.substitutions cluster = some x)
    (hk : x.registers = some k) (hr : s.prog.running = true → s.atQuoin = true)
    (hi : s.prog.running = false → k < s.time.localCount) :
    s.swapSpare cluster = x.others.foldl (fun t p => t.noticeExhausted cluster p)
      ((s.dropSubst cluster).spareTakes cluster x.position) := by
  have ht : (if s.prog.running then s.atQuoin else x.registers.any fun l => decide (l < s.time.localCount)) = true := by
    split
    · next h => exact hr h
    · next h => simpa [hk] using hi (Bool.eq_false_iff.mpr h)
  unfold State.swapSpare
  rw [hx]
  dsimp only
  rw [ht, if_neg (by simp [hk])]
  rfl

/-- An abandoned substitution is dropped, counted and reported. -/
theorem State.abandon_found {reason next : Nat} (hx : Map.find s.units.substitutions cluster = some x) :
    s.abandon cluster reason next =
      (((s.dropSubst cluster).setReg (spareReg cluster) next).bump Reg.substitutionsAbandoned).notice
        Note.substitutionAbandoned (srcCluster cluster) (u16 cluster ++ u8 x.position ++ u8 reason) := by
  unfold State.abandon
  rw [hx]
  rfl

end

/-- Settles O34, command by command, from the branches of the four operations. -/
theorem substitutionsRun : Obligations.SubstitutionsRun := by
  intro cluster x s hc hx put l
  refine ⟨fun hl hn => ⟨?_, fun bytes hb => ⟨fun hp => ?_, fun hp => ?_⟩⟩,
    fun hn hd => ⟨?_, fun hp => ?_, fun hp => ?_⟩, fun k hk hr hi => ?_, ?_⟩
  · exact (execMaintenanceMicrostep_next hc).trans (congrArg _ (State.copyPortion_deferred hx hl hn (.inr rfl)))
  · exact (execMaintenanceMicrostep_next hc).trans (congrArg _ (State.copyPortion_deferred hx hl hn (.inl hp)))
  · exact (execMaintenanceMicrostep_next hc).trans (congrArg _ (State.copyPortion_copies hx hl hn hp hb))
  · exact (execSubstitutionRegisterCopy_next hc).trans
      (congrArg _ (State.copyRegisters_deferred hx hn hd (.inr rfl)))
  · exact (execSubstitutionRegisterCopy_next hc).trans (congrArg _ (State.copyRegisters_deferred hx hn hd (.inl hp)))
  · exact (execSubstitutionRegisterCopy_next hc).trans (congrArg _ (State.copyRegisters_copies hx hn hd hp))
  · exact (execSubstitutionSwap_next hc).trans (congrArg _ (State.swapSpare_swaps hx hk hr hi))
  · exact (execSpareFault_next hc).trans (congrArg _ (State.abandon_found hx))

/-! ### Course source and load (R11, R12, R18) -/

section
variable {s : State} {v : Via} {n rc : Nat} {t : State}

/-- A granted write of CourseSource ends with what the entry answers. -/
theorem execCourseSourceWrite_next (h : s.grantsNumber v 0x2000 1 1 n = true)
    (ha : (s.countRequest v).setCourseSource n = (rc, t)) :
    execCourseSourceWrite v n s = .next (t.respond v 0x2000 1 2 rc []) :=
  done_writeNumber h ha fun u => State.setCourseSource_pending u n

/-- A granted write of CourseLoad ends with what the entry answers. -/
theorem execCourseLoad_next (h : s.grantsNumber v 0x2000 3 4 n = true)
    (ha : (s.countRequest v).loadCourse n = (rc, t)) :
    execCourseLoad v n s = .next (t.respond v 0x2000 3 2 rc []) :=
  done_writeNumber h ha fun u => State.loadCourse_pending u n

theorem State.setCourseSource_same (hp : s.planActive = false) (h : n = s.reg Reg.courseSource) :
    s.setCourseSource n = (rcOk, s) := by
  unfold State.setCourseSource
  rw [if_neg (by simp [hp]), if_pos h]

theorem State.setCourseSource_freeRun (hp : s.planActive = false) (h : 3 ≠ s.reg Reg.courseSource) :
    s.setCourseSource 3 = (rcOk, ((s.setReg Reg.courseSource 3).mapTime fun t =>
      { t with refValid := false, goodPulses := 0, lastPulse := none }).unlock) := by
  unfold State.setCourseSource
  rw [if_neg (by simp [hp]), if_neg h]
  rfl

theorem State.setCourseSource_other (hp : s.planActive = false) (h : n ≠ s.reg Reg.courseSource) (h3 : n ≠ 3) :
    s.setCourseSource n =
      let w := s.setReg Reg.courseSource n
      let x := if 2 ≤ n then w.mapTime fun t => { t with refValid := false, goodPulses := 0, lastPulse := none } else w
      (rcOk, ((x.setReg Reg.parentPort 0xFF).mapTime fun t =>
        { t with markless := 0, acquiring := none, step := none }).showSource) := by
  unfold State.setCourseSource
  dsimp only
  rw [if_neg (by simp [hp]), if_neg h, if_neg h3]

theorem State.loadCourse_range (h : n % 2 ^ 20 ≠ 0) : s.loadCourse n = (rcRangeError, s) := by
  unfold State.loadCourse
  rw [if_pos h]

theorem State.loadCourse_kept (h : n % 2 ^ 20 = 0) (hr : s.isRoot = true) (hp : s.planActive = false) :
    s.loadCourse n = (rcOk, s.mapTime fun t => { t with load := some n }) := by
  unfold State.loadCourse
  rw [if_neg (not_not.mpr h), if_neg (by simp [hr]), if_neg (by simp [hp])]

theorem State.loadCourse_refused (h : n % 2 ^ 20 = 0) (hr : s.isRoot = false ∨ s.planActive = true) :
    s.loadCourse n = (rcStateRefused, s) := by
  unfold State.loadCourse
  rw [if_neg (not_not.mpr h)]
  rcases hr with hr | hp
  · rw [if_pos (by simp [hr])]
  · rw [if_pos hp, ite_self]

end

/-- Settles O36, from what CourseSource and CourseLoad answer in each case. -/
theorem courseSourceRequests : Obligations.CourseSourceRequests := by
  intro v n s u
  refine ⟨fun h hp => ⟨fun hs => ?_, fun hs h3 => ?_, fun hs h3 => ?_⟩,
    fun h => ⟨fun hm => ?_, fun hm hr hp => ?_, fun hm hr => ?_⟩⟩
  · exact execCourseSourceWrite_next h (State.setCourseSource_same hp hs)
  · subst h3
    exact execCourseSourceWrite_next h (State.setCourseSource_freeRun hp hs)
  · exact execCourseSourceWrite_next h (State.setCourseSource_other hp hs h3)
  · exact execCourseLoad_next h (State.loadCourse_range hm)
  · exact execCourseLoad_next h (State.loadCourse_kept hm hr hp)
  · exact execCourseLoad_next h (State.loadCourse_refused hm hr)

/-! ### Lock, holdover, return and phase step (R10, R11, R18, R19) -/

section
variable {s : State}

theorem State.loseReference_marks (ha : s.awake = true) (h : s.reg Reg.courseSource ≤ 1) :
    s.loseReference = (s.mapTime fun t =>
      { t with refValid := false, goodPulses := 0, markless := 0, marked := false }).showSource := by
  unfold State.loseReference
  rw [if_pos ⟨ha, h⟩]

theorem State.loseReference_ignored (h : 1 < s.reg Reg.courseSource) : s.loseReference = s := by
  unfold State.loseReference
  rw [if_neg fun hs => absurd hs.2 (Nat.not_le.mpr h)]

theorem State.holdover_begins (h : s.holdoverDue = true) :
    s.holdover = ((s.setReg Reg.lockState 3).setReg Reg.parentPort 0xFF).notice Note.courseHoldover srcModule
      (u8 (s.reg Reg.parentPort)) := by
  unfold State.holdover
  rw [if_pos h]

theorem State.holdover_none (h : s.holdoverDue = false) : s.holdover = s := by
  unfold State.holdover
  rw [if_neg (by simp [h])]

/-- A settled module is Locked, shows its entries and sends CourseLocked. -/
theorem State.lock_settles (ha : s.awake = true) (hk : s.time.known = true) (hq : s.time.acquiring.isSome = true) :
    s.lock =
      let x := (s.setReg Reg.lockState 2).showRoot.mapTime fun t => { t with acquiring := none }
      x.notice Note.courseLocked srcModule
        (u8 (x.reg Reg.depth) ++ u16 (x.reg Reg.rootId) ++ u8 (x.reg Reg.parentPort)) := by
  unfold State.lock
  rw [if_pos (by simp [ha, hk, hq])]

@[simp] theorem State.showRoot_time : s.showRoot.time = s.time := by
  unfold State.showRoot
  split <;> rfl

@[simp] theorem State.showSource_time : s.showSource.time = s.time := by
  unfold State.showSource
  (repeat' split) <;> simp

variable {count : Nat} {phase8 : Int}

/-- The fabric returns to a fed module in Holdover. -/
theorem State.sourceReturns_fabric {e : Nat × Mark} (ha : s.awake = true) (hf : s.isFed = true)
    (hl : s.reg Reg.lockState = 3) (h3 : s.reg Reg.courseSource ≠ 3) (he : firstParent s.accepted = some e) :
    s.sourceReturns count phase8 = s.acceptParent e.1 e.2 := by
  unfold State.sourceReturns
  rw [if_neg (by simp [ha, h3]), if_pos (by simp [hf, hl]), he]

/-- The reference returns where the fabric does not. -/
theorem State.sourceReturns_reference (ha : s.awake = true) (hc : s.reg Reg.courseSource < 2)
    (h : s.isFed = false ∨ s.reg Reg.lockState ≠ 3 ∨ firstParent s.accepted = none) :
    s.sourceReturns count phase8 = s.referenceReturns count phase8 := by
  have hn : (if s.isFed && s.reg Reg.lockState == 3 then firstParent s.accepted else none) = none := by
    rcases h with h | h | h <;> simp [h]
  unfold State.sourceReturns
  rw [if_neg (by simp [ha]; omega), hn]
  exact if_neg (by omega)

theorem State.referenceReturns_unknown (h : s.time.known = false) :
    s.referenceReturns count phase8 =
      (s.mapTime fun t => { t with refValid := true, goodPulses := 2, markless := 0 }).showSource := by
  unfold State.referenceReturns
  exact if_neg (by simp [State.mapTime, h])

theorem State.referenceReturns_known (h : s.time.known = true) :
    s.referenceReturns count phase8 =
      (s.mapTime fun t =>
        { t with refValid := true, goodPulses := 2, markless := 0 }).showSource.compareSource count phase8 := by
  unfold State.referenceReturns
  exact if_pos (by simp [State.mapTime, h])

theorem State.phaseStep_none (h : s.time.step = none) : s.phaseStep = s := by
  unfold State.phaseStep
  rw [h]

/-- The phase step that waits puts the source's count in place. -/
theorem State.phaseStep_steps (h : s.time.step = some (count, phase8)) :
    s.phaseStep =
      let t := s.mapTime fun t => { t with
        step := none, slew := 0, count := count,
        acquiring := if s.reg Reg.lockState = 2 then t.acquiring else some t.localCount }
      let w := if t.prog.running && !t.prog.next.isRest then t.mapProg fun p => { p with next := .phase } else t
      w.notice Note.coursePhaseStep srcModule
        (u64 (ofSigned 64 ((count : Int) - (s.time.count : Int))) ++ u32 (ofSigned 32 phase8)) := by
  unfold State.phaseStep
  rw [h]

end

/-- Settles O37, from the branches of the five operations. -/
theorem lockAndHoldover : Obligations.LockAndHoldover := by
  intro count phase8 s ha
  refine ⟨⟨fun hc => ?_, fun hc => ?_⟩, fun h => ?_, fun h => ?_, fun hk hq => ?_,
    fun hc h => ⟨fun hk => ?_, fun hk => ⟨?_, ?_⟩⟩, fun e hf hl h3 he => ?_, fun h => ?_, fun h => ?_⟩
  · exact done_of_eq (State.loseReference_pending s) (State.loseReference_marks ha hc)
  · exact done_of_eq (State.loseReference_pending s) (State.loseReference_ignored hc)
  · exact done_of_eq (State.holdover_pending s) (State.holdover_begins h)
  · exact done_of_eq (State.holdover_pending s) (State.holdover_none h)
  · exact done_of_eq (State.lock_pending s) (State.lock_settles ha hk hq)
  · exact done_of_eq (State.sourceReturns_pending s count phase8)
      ((State.sourceReturns_reference ha hc h).trans (State.referenceReturns_unknown hk))
  · simpa using hk
  · exact done_of_eq (State.sourceReturns_pending s count phase8)
      ((State.sourceReturns_reference ha hc h).trans (State.referenceReturns_known hk))
  · exact done_of_eq (State.sourceReturns_pending s count phase8) (State.sourceReturns_fabric ha hf hl h3 he)
  · exact done_of_eq (State.phaseStep_pending s) (State.phaseStep_steps h)
  · exact done_of_eq (State.phaseStep_pending s) (State.phaseStep_none h)

/-! ### Course marks and parents (R13 to R15) -/

section
variable {s : State} {port w : Nat} {phase8 : Int}

theorem execCourseMark_next (hp : port < 64) (hw : w < 2 ^ 128) :
    execCourseMark port w phase8 s = .next (s.takeMark port w phase8) :=
  onUnit_runs (Bool.and_eq_true_iff.mpr ⟨decide_eq_true hp, decide_eq_true hw⟩) (State.takeMark_pending ..)

/-- The state with a port's latest mark replaced. -/
def State.withMark (s : State) (port w : Nat) (phase8 : Int) : State :=
  s.mapTime fun t => { t with marks := Map.put t.marks port (markOf w s.time.localCount phase8) }

/-- A root replaces the port's mark and does no more. -/
theorem State.takeMark_root (ha : s.awake = true) (hr : s.portRole port = 0) (hw : wordChecks w = true)
    (h : (s.withMark port w phase8).isRoot = true) :
    s.takeMark port w phase8 = s.withMark port w phase8 := by
  unfold State.takeMark
  rw [if_neg (by simp [ha, hr, hw])]
  exact if_pos h

/-- A fed module counts conflicts, and hears its parent. -/
theorem State.takeMark_parent (ha : s.awake = true) (hr : s.portRole port = 0) (hw : wordChecks w = true)
    (h : (s.withMark port w phase8).isRoot = false)
    (hp : (s.withMark port w phase8).countConflicts.reg Reg.parentPort = port) :
    s.takeMark port w phase8 =
      (s.withMark port w phase8).countConflicts.hearParent (markOf w s.time.localCount phase8) := by
  unfold State.withMark at *
  unfold State.takeMark
  dsimp only
  rw [if_neg (by simp [ha, hr, hw]), if_neg (Bool.eq_false_iff.mp h), if_pos hp]

/-- A fed module without a parent takes the first of the accepted group. -/
theorem State.takeMark_accepts {e : Nat × Mark} (ha : s.awake = true) (hr : s.portRole port = 0)
    (hw : wordChecks w = true) (h : (s.withMark port w phase8).isRoot = false) (h255 : port ≠ 0xFF)
    (hp : (s.withMark port w phase8).countConflicts.reg Reg.parentPort = 0xFF)
    (hl : (s.withMark port w phase8).countConflicts.reg Reg.lockState ≠ 2 ∨
      4 ≤ (s.withMark port w phase8).countConflicts.time.markless)
    (he : firstParent (s.withMark port w phase8).countConflicts.accepted = some e) :
    s.takeMark port w phase8 = (s.withMark port w phase8).countConflicts.acceptParent e.1 e.2 := by
  unfold State.withMark at *
  unfold State.takeMark
  dsimp only
  rw [if_neg (by simp [ha, hr, hw]), if_neg (Bool.eq_false_iff.mp h), if_neg fun hq => h255 (hq.symm.trans hp),
    if_pos ⟨hp, hl⟩, he]

/-- A standing parent in the accepted group gives its entries, its mark and its phase. -/
theorem State.hearParent_accepted {m : Mark} (h : s.isAccepted (s.reg Reg.parentPort) = true) :
    s.hearParent m = ((s.setReg Reg.depth (m.depth + 1)).setReg Reg.rootId m.rootId).mapTime fun t =>
      { t with markless := 0, marked := true, slew := m.phase8 } := by
  unfold State.hearParent
  rw [if_pos h]

theorem State.hearParent_outside {m : Mark} (h : s.isAccepted (s.reg Reg.parentPort) = false) :
    s.hearParent m = s := by
  unfold State.hearParent
  rw [if_neg (by simp [h])]

/-- After four courses without a mark a fed module takes the first of the accepted group. -/
theorem State.reselect_accepts {e : Nat × Mark} (hf : s.isFed = true) (ha : s.awake = true)
    (hk : s.time.known = true) (hm : 4 ≤ s.time.markless) (he : firstParent s.accepted = some e) :
    s.reselect = s.acceptParent e.1 e.2 := by
  unfold State.reselect
  rw [if_pos ⟨hf, ha, hk, hm⟩, he]

theorem State.reselect_none (he : firstParent s.accepted = none) : s.reselect = s := by
  unfold State.reselect
  rw [he, ite_self]

end

/-- Settles O38: a good mark's branches, and the selection after four courses without one. -/
theorem marksAndParents : Obligations.MarksAndParents := by
  intro port w phase8 s hp hw ha hr hc m t l b x
  have hm : exec (.courseMark port w phase8) s = .next (s.takeMark port w phase8) := execCourseMark_next hp hw
  rw [hm]
  refine ⟨fun h => ?_, fun h => ⟨fun hq hg => ?_, fun hq hg => ?_, fun e h255 hq hl he => ?_⟩,
    fun hf hk h4 => ⟨fun e he => ?_, fun he => ?_⟩⟩
  · rw [State.takeMark_root ha hr hc h]
    rfl
  · rw [State.takeMark_parent ha hr hc h hq]
    exact congrArg _ (State.hearParent_accepted (hq.symm ▸ hg))
  · rw [State.takeMark_parent ha hr hc h hq]
    exact congrArg _ (State.hearParent_outside (hq.symm ▸ hg))
  · rw [State.takeMark_accepts ha hr hc h h255 hq hl he]
    rfl
  · exact done_of_eq (State.reselect_pending s) (State.reselect_accepts hf ha hk h4 he)
  · exact done_of_eq (State.reselect_pending s) (State.reselect_none he)

/-! ### Courses and epoch courses (R8 to R13, R22, R453) -/

section
variable {s : State}

/-- A course of an awake module opens, or begins a lifecycle restart. -/
theorem State.startCourse_awake (ha : s.awake = true) :
    s.startCourse = if s.start.lifecycleRestart then (s.mapTime Time.tick).internalReset else s.openCourse := by
  unfold State.awake at ha
  unfold State.startCourse
  cases hm : s.power.mode <;> simp_all

/-- In Sleep and in reset the always-on island counts. -/
theorem State.startCourse_island (h : s.power.mode = .sleep ∨ s.power.mode = .inReset) :
    s.startCourse = s.islandCourse := by
  unfold State.startCourse
  rcases h with h | h <;> rw [h]

theorem State.startCourse_off (h : s.power.mode = .off) : s.startCourse = s := by
  unfold State.startCourse
  rw [h]

theorem State.epochCourse_asleep {phase8 offset : Int} {ber : List (Nat × Nat)} (h : s.awake = false) :
    s.epochCourse phase8 offset ber = s := by
  unfold State.epochCourse
  rw [if_neg (by simp [h])]

/-- An epoch course of an awake module: its own mark, the pulse, the root's count, clock and units, and the sweep. -/
theorem State.epochCourse_awake {phase8 offset : Int} {ber : List (Nat × Nat)} (h : s.awake = true) :
    s.epochCourse phase8 offset ber =
      let t := (s.mapTime fun t => { t with epoch := true }).countPulse phase8
      let w := (State.epochClock (if t.pulsed then t.rootEpoch else t).sendMarks phase8 offset).epochUnits ber
      if w.time.known then w.sweep else w := by
  unfold State.epochCourse
  rw [if_pos h]

end

/-- Settles O39, by the power mode of the course. -/
theorem coursesBegin : Obligations.CoursesBegin := by
  intro phase8 offset ber s
  refine ⟨fun ha hl => ?_, fun ha hl => ?_, fun h => ?_, fun h => ?_, fun ha => ?_, fun ha => ?_⟩
  · exact done_of_eq (State.startCourse_pending s) ((State.startCourse_awake ha).trans (if_neg (by simp [hl])))
  · exact done_of_eq (State.startCourse_pending s) ((State.startCourse_awake ha).trans (if_pos hl))
  · exact done_of_eq (State.startCourse_pending s) (State.startCourse_island h)
  · exact done_of_eq (State.startCourse_pending s) (State.startCourse_off h)
  · exact done_of_eq (State.epochCourse_pending s phase8 offset ber) (State.epochCourse_awake ha)
  · exact done_of_eq (State.epochCourse_pending s phase8 offset ber) (State.epochCourse_asleep ha)

/-! ### Lead and rest courses, cycle 543 and stalls (R19, R23, R27, R28) -/

section
variable {s : State}

theorem State.lead_due (hr : s.prog.running = true) (hc : s.time.count < s.prog.course) (hn : s.prog.next ≠ .phase) :
    s.lead = s.mapProg fun p => { p with next := .lead } := by
  unfold State.lead
  rw [if_pos ⟨hr, hc, hn⟩]

theorem State.lead_none (h : ¬(s.prog.running = true ∧ s.time.count < s.prog.course ∧ s.prog.next ≠ .phase)) :
    s.lead = s := by
  unfold State.lead
  rw [if_neg h]

/-- The state whose requests for a rest are taken. -/
def State.restTaken (s : State) : State := s.mapProg fun p => { p with restPower := false, restThermal := false }

section
variable (hr : s.prog.running = true) (hw : s.prog.restPower = true ∨ s.prog.restThermal = true)
include hr hw

/-- A lead course serves a requested rest. -/
theorem State.rest_lead (hc : s.time.count < s.prog.course) : s.rest = s.restTaken := by
  unfold State.rest
  rw [if_pos ⟨hr, hw⟩]
  exact if_pos hc

variable (hc : s.prog.course ≤ s.time.count)
include hc

/-- A grout course, idled or skipped next, serves a requested rest. -/
theorem State.rest_grout {g : Nat}
    (hn : s.prog.next = .grout g ∨ (s.prog.next = .work (s.prog.course + 2) ∧ g = s.prog.course + 1)) :
    s.rest = s.restTaken.serveRest s.prog.restThermal g := by
  have ht : ¬ s.restTaken.time.count < s.prog.course := Nat.not_lt.mpr hc
  have hk : s.restTaken.prog.next = s.prog.next := rfl
  unfold State.restTaken at *
  unfold State.rest
  dsimp only
  rw [if_pos ⟨hr, hw⟩, if_neg ht, hk]
  obtain hn | ⟨hn, rfl⟩ := hn
  · rw [hn]
  · rw [hn]
    exact if_pos rfl

/-- A requested rest takes the next course where it carries work without a skip, slips, or is a phase step or a
suspension. -/
theorem State.rest_forced (hn : (∃ n, s.prog.next = .work n ∧ n ≠ s.prog.course + 2) ∨ (∃ c, s.prog.next = .slip c) ∨
      s.prog.next = .phase ∨ (s.prog.next = .idle ∧ s.prog.suspension.isSome = true)) :
    s.rest = s.restTaken.forceRest s.prog.restPower s.prog.restThermal := by
  have ht : ¬ s.restTaken.time.count < s.prog.course := Nat.not_lt.mpr hc
  have hk : s.restTaken.prog.next = s.prog.next := rfl
  unfold State.restTaken at *
  unfold State.rest
  dsimp only
  rw [if_pos ⟨hr, hw⟩, if_neg ht, hk]
  obtain ⟨n, hn, hne⟩ | ⟨c, hn⟩ | hn | ⟨hn, hs⟩ := hn
  · rw [hn]
    exact if_neg hne
  · rw [hn]
  · rw [hn]
  · rw [hn]
    exact if_pos hs

end

/-- Cycle 543 up to its decision. -/
def State.beforeDecision (s : State) : State :=
  let t := s.runArrays.sendMarks.heartbeatEnd.applyPoint
  (if t.courseEnds then t.mirrorCourse else t).showProgress.capture.captureReport

theorem State.cycle543_awake (ha : s.awake = true) : s.cycle543 = s.beforeDecision.dueCheck := by
  unfold State.cycle543
  rw [if_pos ha]
  rfl

theorem State.dueCheck_settles (hr : s.prog.running = true) (hs : s.prog.suspension = none) :
    s.dueCheck = s.settleNext := by
  unfold State.dueCheck
  rw [if_pos (by simp [hr, hs])]

theorem State.dueCheck_waits (h : s.prog.running = false ∨ s.prog.suspension ≠ none) : s.dueCheck = s := by
  unfold State.dueCheck
  rw [if_neg (by rcases h with h | h <;> simp [h])]

/-- After StallLimit courses that slipped PlanStalled is sent, and the bond asks its partner to take over. -/
theorem State.planStalls_due (hr : s.prog.running = true) (hs : s.prog.stalled = false)
    (hl : s.reg Reg.stallLimit ≤ s.prog.stall) :
    s.planStalls =
      ((s.notice Note.planStalled srcModule (u64 (s.prog.course + 1) ++ u8 s.prog.counts.cause)).mapProg
        fun p => { p with stalled := true }).mapBond fun b => { b with yield := true } := by
  unfold State.planStalls
  rw [if_pos ⟨hr, hs, hl⟩]

theorem State.planStalls_none
    (h : ¬(s.prog.running = true ∧ s.prog.stalled = false ∧ s.reg Reg.stallLimit ≤ s.prog.stall)) :
    s.planStalls = s := by
  unfold State.planStalls
  rw [if_neg h]

end

/-- Settles O40, from the branches of the four operations. -/
theorem planCoursesDecided : Obligations.PlanCoursesDecided := by
  intro s
  refine ⟨fun hr hc hn => ?_, fun h => ?_, fun hr hw => ⟨fun hc => ?_, fun hc => ⟨fun n hn hne => ?_, fun hn => ?_,
    fun c hn => ?_, fun hn => ?_, fun hn hs => ?_, fun g hn => ?_⟩⟩, fun ha => ⟨fun hr hs => ?_, fun h => ?_⟩,
    fun hr hs hl => ?_, fun h => ?_⟩
  · exact done_of_eq (State.lead_pending s) (State.lead_due hr hc hn)
  · exact done_of_eq (State.lead_pending s) (State.lead_none h)
  · exact done_of_eq (State.rest_pending s) (State.rest_lead hr hw hc)
  · exact done_of_eq (State.rest_pending s) (State.rest_forced hr hw hc (.inl ⟨n, hn, hne⟩))
  · exact done_of_eq (State.rest_pending s) (State.rest_grout hr hw hc (.inr ⟨hn, rfl⟩))
  · exact done_of_eq (State.rest_pending s) (State.rest_forced hr hw hc (.inr (.inl ⟨c, hn⟩)))
  · exact done_of_eq (State.rest_pending s) (State.rest_forced hr hw hc (.inr (.inr (.inl hn))))
  · exact done_of_eq (State.rest_pending s) (State.rest_forced hr hw hc (.inr (.inr (.inr ⟨hn, hs⟩))))
  · exact done_of_eq (State.rest_pending s) (State.rest_grout hr hw hc (.inl hn))
  · exact done_of_eq (State.cycle543_pending s) ((State.cycle543_awake ha).trans (State.dueCheck_settles hr hs))
  · exact done_of_eq (State.cycle543_pending s) ((State.cycle543_awake ha).trans (State.dueCheck_waits h))
  · exact done_of_eq (State.planStalls_pending s) (State.planStalls_due hr hs hl)
  · exact done_of_eq (State.planStalls_pending s) (State.planStalls_none h)

/-! ### Launch (R31, R32, R568) -/

section
variable {s t : State} {v : Via} {n rc : Nat} {p : Plan}

/-- A granted write of LaunchCourse ends with what the entry answers. -/
theorem execLaunchCourseWrite_next (h : s.grantsNumber v 0x2020 1 4 n = true)
    (ha : (s.countRequest v).putLaunchCourse n = (rc, t)) :
    execLaunchCourseWrite v n s = .next (t.respond v 0x2020 1 2 rc []) :=
  done_writeNumber h ha fun u => State.putLaunchCourse_pending u n

/-- The state with the order and port of a launch's refusal recorded. -/
def State.launchJudged (s : State) (n : Nat) : State :=
  (s.setReg Reg.launchRefusal (s.judgeLaunch n).1).setReg Reg.launchRefusalPort (s.judgeLaunch n).2.1

theorem State.putLaunchCourse_arms (h : (s.judgeLaunch n).1 = 0) :
    s.putLaunchCourse n =
      (rcOk, ((s.launchJudged n).setReg Reg.launchCourse n).setReg Reg.launchState 1) := by
  unfold State.putLaunchCourse
  exact if_pos h

theorem State.putLaunchCourse_refuses (h : (s.judgeLaunch n).1 ≠ 0) :
    s.putLaunchCourse n = ((s.judgeLaunch n).2.2, s.launchJudged n) := by
  unfold State.putLaunchCourse
  exact if_neg h

theorem State.launchPlan_none (h : s.plan.loaded = none) : s.launchPlan = s := by
  unfold State.launchPlan
  rw [h]

theorem State.launchPlan_waits (hp : s.plan.loaded = some p) (hr : s.launchReady p = false) : s.launchPlan = s := by
  unfold State.launchPlan
  rw [hp]
  exact if_neg (by simp [hr])

/-- A module that is ready launches, reports its lag and runs the first plan course. -/
theorem State.launchPlan_launches (hp : s.plan.loaded = some p) (hr : s.launchReady p = true) :
    s.launchPlan =
      let late := s.time.count - s.reg Reg.launchCourse
      let u := if late = 0 then s.startPlan p else (s.startPlan p).notice Note.launchLate srcModule (u64 late)
      u.runCourse u.prog.launchCourse := by
  unfold State.launchPlan
  rw [hp]
  exact if_pos hr

theorem State.refuseLaunch_late (ha : s.reg Reg.launchState = 1) (hk : s.time.known = true)
    (hl : s.reg Reg.launchCourse + s.reg Reg.launchLateLimit ≤ s.time.count) :
    s.refuseLaunch =
      let t := s.setReg Reg.launchState 3
      t.notice Note.launchRefused srcModule (u64 (t.reg Reg.launchLateLimit + 1)) := by
  unfold State.refuseLaunch
  rw [if_pos ⟨ha, hk, hl⟩]

theorem State.refuseLaunch_none (h : ¬(s.reg Reg.launchState = 1 ∧ s.time.known = true ∧
      s.reg Reg.launchCourse + s.reg Reg.launchLateLimit ≤ s.time.count)) : s.refuseLaunch = s := by
  unfold State.refuseLaunch
  rw [if_neg h]

end

/-- Settles O41, from the checks of the write and the readiness of the module. -/
theorem plansLaunch : Obligations.PlansLaunch := by
  intro v n p s
  refine ⟨fun h => ⟨fun hj => ?_, fun hj => ?_⟩, fun hp hr => ?_, fun hp hr => ?_, fun hp => ?_, fun ha hk hl => ?_,
    fun h => ?_⟩
  · exact execLaunchCourseWrite_next h (State.putLaunchCourse_arms hj)
  · exact execLaunchCourseWrite_next h (State.putLaunchCourse_refuses hj)
  · exact done_of_eq (State.launchPlan_pending s) (State.launchPlan_launches hp hr)
  · exact done_of_eq (State.launchPlan_pending s) (State.launchPlan_waits hp hr)
  · exact done_of_eq (State.launchPlan_pending s) (State.launchPlan_none hp)
  · exact done_of_eq (State.refuseLaunch_pending s) (State.refuseLaunch_late ha hk hl)
  · exact done_of_eq (State.refuseLaunch_pending s) (State.refuseLaunch_none h)

/-! ### Lanes and retrains (R243, R246) -/

section
variable {s : State} {port lane cause : Nat} {full ok : Bool}

theorem execLaneDown_next (hp : port < 64) (hl : lane < 8) (hr : s.portRole port = 0) (hc : cause = 1 ∨ cause = 2) :
    execLaneDown port lane cause s = .next (s.laneFails port lane cause) :=
  onUnit_runs (by simp [portOk, laneOk, hp, hl, hr, hc]) (State.laneFails_pending ..)

theorem execLaneRetrainDone_next (hp : port < 64) (hl : lane < 8) (hr : s.portRole port = 0) :
    execLaneRetrainDone port lane full ok s = .next (s.laneTrained port lane full ok) :=
  onUnit_runs (by simp [portOk, laneOk, hp, hl, hr]) (State.laneTrained_pending ..)

/-- A lane that is up and fails retrains, counted and reported. -/
theorem State.laneFails_retrains (hs : ((s.port port).lane lane).status = 2)
    (he : cause = 2 → s.reg Reg.laneErrorLimit ≤ ((s.port port).lane lane).errors) :
    s.laneFails port lane cause =
      let u := s.setPort port ((s.port port).setLane lane { (s.port port).lane lane with status := 3 })
      (((u.bump Reg.laneDowns).bump (Reg.retrains port)).refreshLink port).noticeLinkDown port cause := by
  unfold State.laneFails
  refine if_neg ?_
  rintro (h | ⟨hc, h⟩)
  · exact h hs
  · exact Nat.not_lt.mpr (he hc) h

/-- A training that ends moves its lane; a full training that fails is reported. -/
theorem State.laneTrained_moves
    (hs : if full then ((s.port port).lane lane).status = 0 ∨ ((s.port port).lane lane).status = 1
      else ((s.port port).lane lane).status = 3) :
    s.laneTrained port lane full ok =
      let u := (s.setPort port ((s.port port).setLane lane { (s.port port).lane lane with
        status := if ok then 2 else if full then 0 else 1
        errors := if ok then 0 else ((s.port port).lane lane).errors })).refreshLink port
      if full && !ok then u.noticeLinkDown port 4 else u := by
  unfold State.laneTrained
  exact if_pos hs

/-- A granted Retrain of a link that is up and that no rule blocks begins. -/
theorem execRetrain_starts {v : Via} {value : Nat} (hp : port < 64)
    (h : s.grantsNumber v (0x7100 + port) 0x10 7 value = true)
    (hl : 1 < (s.countRequest v).reg (Reg.linkState port)) (hb : (s.countRequest v).blocker 7 port = none) :
    execRetrain v port value s = .next (((s.countRequest v).startRetrain port).answerOk v) := by
  have hj : State.judgeRetrain port (s.countRequest v) = rcOk := if_neg (by omega)
  have hd := done_writeNumber h (governed_starts (value := value) (start := State.startRetrain port) hj hb)
    fun u => State.governed_pending u _ 7 port value _ (State.startRetrain_pending port)
  unfold execRetrain
  rw [show portOk port = true from decide_eq_true hp, onUnit_true, hd, respond_ok]

end

/-! ### Partners and training (R245, R382 to R384) -/

section
variable {s : State} {port : Nat}

section
variable {device partnerPort : Nat}

theorem execPartnerChange_next (hp : port < 64) (hr : s.portRole port = 0) (hd : device < 2 ^ 15)
    (hq : partnerPort < 64) :
    execPartnerChange port device partnerPort s = .next (s.partnerChanges port device partnerPort) :=
  onUnit_runs (by simp only [portOk, hp, hr, hd, hq]; decide) (State.partnerChanges_pending ..)

/-- The state in which a port of another partner trains anew, as LinkDown has told. -/
def State.partnerLeft (s : State) (port : Nat) : State :=
  ((s.setPort port { (s.port port).allLanes 1 with phase := 1 }).refreshLink port).noticeLinkDown port 3

section
variable (hl : s.reg (Reg.linkState port) = 2)
  (hd : ¬(device = s.reg (Reg.partnerDeviceId port) ∧ partnerPort = s.reg (Reg.partnerPort port)))
include hl hd

/-- Where no plan expects another partner, the port trains anew and no more. -/
theorem State.partnerChanges_expected (h : ∀ n, (s.partnerLeft port).neighbour port = some n →
      n.partnerDevice = device ∧ n.partnerPort = partnerPort) :
    s.partnerChanges port device partnerPort = s.partnerLeft port := by
  unfold State.partnerLeft at *
  unfold State.partnerChanges
  dsimp only
  rw [if_neg (by simp [hl, hd])]
  split
  · rfl
  · next n hn => rw [if_pos (h n hn)]

/-- A partner that the plan does not expect is reported. -/
theorem State.partnerChanges_mismatch {n : Neighbour} (hn : (s.partnerLeft port).neighbour port = some n)
    (h : ¬(n.partnerDevice = device ∧ n.partnerPort = partnerPort)) :
    s.partnerChanges port device partnerPort = (s.partnerLeft port).notice Note.partnerMismatch (srcPort port)
      (u8 port ++ u16 n.partnerDevice ++ u16 device ++ u8 partnerPort) := by
  unfold State.partnerLeft at *
  unfold State.partnerChanges
  dsimp only
  rw [if_neg (by simp [hl, hd]), hn]
  exact if_neg h

end

end

section
variable {w : Nat}

theorem execTrainingPhase_next (hp : port < 64) (hr : s.portRole port = 0) (hw : w < 2 ^ 128) :
    execTrainingPhase port w s = .next (s.trainPhase port w) :=
  onUnit_runs (by simp only [portOk, word128Ok, hp, hr, hw]; decide) (State.trainPhase_pending ..)

theorem State.trainPhase_early (h : (s.port port).phase = 1 ∨ (s.port port).phase = 2) :
    s.trainPhase port w = s.toPhase port ((s.port port).phase + 1) := by
  unfold State.trainPhase
  exact if_pos h

theorem State.trainPhase_three (h : (s.port port).phase = 3) (hr : wordReady w 3 = true) :
    s.trainPhase port w = s.toPhase port 4 := by
  unfold State.trainPhase
  simp [h, hr]

theorem State.trainPhase_down (h : (s.port port).phase = 5) (hl : (s.port port).linkState = 0) :
    s.trainPhase port w = s := by
  unfold State.trainPhase
  simp [h, hl]

/-- In phase 5 the partner's identity is recorded. -/
theorem State.trainPhase_identity (h : (s.port port).phase = 5) (hl : (s.port port).linkState ≠ 0)
    (hr : wordReady w 5 = true) (hi : (wordIdentity w).1 = s.portRole port) (hd : (wordIdentity w).2.1 ≠ 0x7FFF)
    (ho : s.reg Reg.deviceId ≠ 0x7FFF) :
    s.trainPhase port w =
      (s.setPort port { s.port port with identity := some (wordIdentity w) }).toPhase port 6 := by
  unfold State.trainPhase
  simp [h, hl, hr, hi, hd, ho]

theorem State.trainPhase_six (h : (s.port port).phase = 6) (hr : wordReady w 6 = true) :
    s.trainPhase port w = s.portUp port := by
  unfold State.trainPhase
  simp [h, hr]

end

theorem execTrainingTimeout_next (hp : port < 64) (hr : s.portRole port = 0) :
    execTrainingTimeout port s = .next (s.trainTimeout port) :=
  onUnit_runs (by simp [portOk, hp, hr]) (State.trainTimeout_pending ..)

theorem State.trainTimeout_restarts (h1 : 1 ≤ (s.port port).phase) (h6 : (s.port port).phase ≤ 6) :
    s.trainTimeout port =
      ((s.bump Reg.trainingTimeouts).setPort port { (s.port port).allLanes 1 with phase := 1 }).refreshLink port := by
  unfold State.trainTimeout
  exact if_pos ⟨h1, h6⟩

section
variable {role device : Nat}

theorem execPortRoleMismatch_next (hp : port < 64) (hr : s.portRole port = 0) :
    execPortRoleMismatch port role device s = .next (s.roleMismatch port role device) :=
  onUnit_runs (by simp [portOk, hp, hr]) (State.roleMismatch_pending ..)

/-- A partner of another role is counted and reported, and every lane goes down. -/
theorem State.roleMismatch_stays (h : (s.port port).phase = 5) (hr : role ≠ s.portRole port) :
    s.roleMismatch port role device =
      (((s.bump Reg.roleMismatches).setPort port ((s.port port).allLanes 0)).refreshLink port).notice
        Note.portRoleMismatch (srcPort port) (u8 port ++ u8 role ++ u16 device) := by
  unfold State.roleMismatch
  exact if_pos ⟨h, hr⟩

end

end

/-! ### The delay of a port (R16, R233) -/

section
variable {s : State} {port trip turn : Nat}

theorem execDelayProbe_next (hp : port < 64) (hr : s.portRole port = 0) (ha : s.awake = true) :
    execDelayProbe port trip turn s = .next (s.probeDelay port trip turn) := by
  unfold execDelayProbe
  rw [if_pos ha]
  exact onUnit_runs (by simp [portOk, hp, hr]) (State.probeDelay_pending ..)

/-- The state with a port's delay measured and stored. -/
def State.delayStored (s : State) (port d : Nat) : State := (s.emit (.probe port)).setReg (Reg.portDelay port) d

theorem State.probeDelay_exceeds {n : Neighbour}
    (hn : (s.delayStored port ((trip - turn) / 2)).neighbour port = some n)
    (hr : s.prog.running = true) (hd : n.dmax < ceilDiv ((trip - turn) / 2) 8) :
    s.probeDelay port trip turn = (s.delayStored port ((trip - turn) / 2)).notice Note.delayExceeded (srcPort port)
      (u8 port ++ u32 ((trip - turn) / 2) ++ u32 n.dmax) := by
  unfold State.delayStored at *
  unfold State.probeDelay
  dsimp only
  rw [hn]
  exact if_pos ⟨hr, hd⟩

theorem State.probeDelay_within (h : ∀ n, (s.delayStored port ((trip - turn) / 2)).neighbour port = some n →
      ¬(s.prog.running = true ∧ n.dmax < ceilDiv ((trip - turn) / 2) 8)) :
    s.probeDelay port trip turn = s.delayStored port ((trip - turn) / 2) := by
  unfold State.delayStored at *
  unfold State.probeDelay
  dsimp only
  split
  · rfl
  · next n hn => exact if_neg (h n hn)

end

/-- Settles O43, command by command, from the branches of the eight operations. -/
theorem portsTrain : Obligations.PortsTrain := by
  intro port lane s hp hlane hr p l
  refine ⟨fun cause hc hs he => ?_, fun full ok hf hn => ?_, fun v value h => ?_,
    fun device q hd hq hl hne => ⟨fun hn => ?_, fun n hn h => ?_, fun n hn h => ?_⟩,
    fun w hw => ⟨fun h => ?_, fun h hk => ?_, fun h hl => ?_, fun h hl hk hi hd ho => ?_, fun h hk => ?_⟩,
    fun h1 h6 => ?_, fun role device h hne => ?_, fun trip turn ha => ⟨fun n hn hrun hx => ?_, fun h => ?_⟩⟩
  · exact (execLaneDown_next hp hlane hr hc).trans (congrArg _ (State.laneFails_retrains hs he))
  · refine (execLaneRetrainDone_next hp hlane hr).trans (congrArg _ (State.laneTrained_moves ?_))
    cases full
    · exact hn rfl
    · exact hf rfl
  · exact fun hl hb => execRetrain_starts hp h hl hb
  · exact (execPartnerChange_next hp hr hd hq).trans
      (congrArg _ (State.partnerChanges_expected hl hne fun n h => by cases hn.symm.trans h))
  · refine (execPartnerChange_next hp hr hd hq).trans
      (congrArg _ (State.partnerChanges_expected hl hne fun m hm => ?_))
    cases hn.symm.trans hm
    exact h
  · exact (execPartnerChange_next hp hr hd hq).trans (congrArg _ (State.partnerChanges_mismatch hl hne hn h))
  · exact (execTrainingPhase_next hp hr hw).trans (congrArg _ (State.trainPhase_early h))
  · exact (execTrainingPhase_next hp hr hw).trans (congrArg _ (State.trainPhase_three h hk))
  · exact (execTrainingPhase_next hp hr hw).trans (congrArg _ (State.trainPhase_down h hl))
  · exact (execTrainingPhase_next hp hr hw).trans
      (congrArg _ (State.trainPhase_identity h hl hk (hi.trans hr.symm) hd ho))
  · exact (execTrainingPhase_next hp hr hw).trans (congrArg _ (State.trainPhase_six h hk))
  · exact (execTrainingTimeout_next hp hr).trans (congrArg _ (State.trainTimeout_restarts h1 h6))
  · exact (execPortRoleMismatch_next hp hr).trans (congrArg _ (State.roleMismatch_stays h (hr.symm ▸ hne)))
  · exact (execDelayProbe_next hp hr ha).trans (congrArg _ (State.probeDelay_exceeds hn hrun hx))
  · exact (execDelayProbe_next hp hr ha).trans (congrArg _ (State.probeDelay_within h))

end Sys2Proof.Machine

/-! PROOFS. Units in service and their faults: spare substitution, retirement and the unit map, repairs, damage
reports, hard faults and plan stops. -/

namespace Sys2Proof.Machine

/-! ### Substitutions begin (R48, R53, R64) -/

section
variable {s : State} {cluster position : Nat}

theorem execCorrectedThreshold_next (hc : cluster < 128) (hp : position < 8) :
    execCorrectedThreshold cluster position s = .next (s.thresholdReached cluster position) :=
  onUnit_runs (by simp [clusterOk, positionOk, hc, hp]) (State.thresholdReached_pending ..)

section
variable (ht : s.atThreshold (8 * cluster + position) = true) (hm : s.power.mode = .run ∨ s.power.mode = .hold)
include ht hm

/-- In Run or Hold SpareState decides what a count at the threshold does. -/
theorem State.thresholdReached_due : s.thresholdReached cluster position =
    if s.reg (spareReg cluster) = 0 then
      if s.spareTaken cluster || s.thresholdHeld (8 * cluster + position) then s
      else (s.govern 3 1 (8 * cluster + position) (State.startSubstitution cluster position 1)).2
    else if s.reg (spareReg cluster) = 1 then
      (Map.find s.units.substitutions cluster).elim s fun x => s.putSubst cluster (x.record position)
    else s.noticeExhausted cluster position := by
  unfold State.thresholdReached
  dsimp only
  rw [if_neg (by rcases hm with hm | hm <;> simp [ht, hm])]
  cases Map.find s.units.substitutions cluster <;> rfl

/-- A free spare that nothing holds begins a substitution. -/
theorem State.thresholdReached_begins (hr : s.reg (spareReg cluster) = 0) (hs : s.spareTaken cluster = false)
    (hh : s.thresholdHeld (8 * cluster + position) = false) (hb : s.blocker 3 1 = none) :
    s.thresholdReached cluster position = State.startSubstitution cluster position 1 s := by
  rw [State.thresholdReached_due ht hm, if_pos hr, if_neg (by simp [hs, hh])]
  unfold State.govern
  rw [hb]

/-- A position met while a substitution of its cluster runs is recorded. -/
theorem State.thresholdReached_records {x : Subst} (hr : s.reg (spareReg cluster) = 1)
    (hx : Map.find s.units.substitutions cluster = some x) :
    s.thresholdReached cluster position = s.putSubst cluster (x.record position) := by
  rw [State.thresholdReached_due ht hm, if_neg (by simp [hr]), if_pos hr, hx]
  rfl

/-- Without a spare the position is reported as exhausted. -/
theorem State.thresholdReached_exhausted (hr : 1 < s.reg (spareReg cluster)) :
    s.thresholdReached cluster position = s.noticeExhausted cluster position := by
  rw [State.thresholdReached_due ht hm, if_neg (by omega), if_neg (by omega)]

end

theorem substCluster_core (hp : position < 8) : substCluster (8 * cluster + position) = cluster := by
  unfold substCluster
  omega

theorem substPosition_core (hp : position < 8) : substPosition (8 * cluster + position) = position := by
  unfold substPosition
  omega

/-- A SubstituteCore whose conditions hold is judged Ok. -/
theorem State.judgeSubstitute_ok (hc : cluster < 128) (hp : position < 8) (ho : s.clusterOn cluster = true)
    (hr : s.reg (spareReg cluster) = 0) (hs : s.spareTaken cluster = false) (hl : s.limewash = false) :
    State.judgeSubstitute (8 * cluster + position) s = rcOk := by
  unfold State.judgeSubstitute
  rw [substCluster_core hp]
  dsimp only
  rw [if_neg (by omega), if_neg (by simp [ho]), if_neg (by simp [hr, hs, hl])]

/-- A granted SubstituteCore that its conditions and the governor pass begins a substitution with trigger 2. -/
theorem execSubstituteCore_begins {v : Via} (hp : position < 8)
    (h : s.grantsNumber v 0x9041 1 2 (8 * cluster + position) = true)
    (hj : State.judgeSubstitute (8 * cluster + position) (s.countRequest v) = rcOk)
    (hb : (s.countRequest v).blocker 3 2 = none) :
    execSubstituteCore v (8 * cluster + position) s =
      .next ((State.startSubstitution cluster position 2 (s.countRequest v)).answerOk v) := by
  unfold execSubstituteCore
  rw [substCluster_core hp, substPosition_core hp]
  exact done_writeNumber h (governed_starts hj hb) fun u =>
    State.governed_pending u _ _ _ _ _ (State.startSubstitution_pending cluster position 2)

end

/-- Settles O33, from the branches of a count at the threshold and the conditions of the request. -/
theorem substitutionsBegin : Obligations.SubstitutionsBegin := by
  intro cluster position s hc hp _
  refine ⟨fun ht hm => ⟨fun hr hs hh hb => ?_, fun x hr hx => ?_, fun hr => ?_⟩, fun v h ho hr hs hl hb => ?_⟩
  · exact (execCorrectedThreshold_next hc hp).trans (congrArg _ (State.thresholdReached_begins ht hm hr hs hh hb))
  · exact (execCorrectedThreshold_next hc hp).trans (congrArg _ (State.thresholdReached_records ht hm hr hx))
  · exact (execCorrectedThreshold_next hc hp).trans (congrArg _ (State.thresholdReached_exhausted ht hm hr))
  · exact execSubstituteCore_begins hp h (State.judgeSubstitute_ok hc hp ho hr hs hl) hb

/-! ### Retirement and the unit map (R55 to R58, R294, R518) -/

section
variable {s t : State} {v : Via} {cluster rc : Nat}

/-- A granted write of RetireCluster ends with what the entry answers. -/
theorem execRetireCluster_next (h : s.grantsNumber v 0x9020 6 2 cluster = true)
    (ha : (s.countRequest v).retireRequest cluster = (rc, t)) :
    execRetireCluster v cluster s = .next (t.respond v 0x9020 6 2 rc []) :=
  done_writeNumber h ha fun u => State.retireRequest_pending u cluster

/-- With none pending an enabled cluster that the governor lets through becomes pending. -/
theorem State.retireRequest_pends (hc : cluster < 128) (ho : s.clusterOn cluster = true)
    (hp : s.reg Reg.retirePending = 0xFFFF) (hb : s.blocker 4 0 = none) :
    s.retireRequest cluster = (rcOk, s.pendRetirement cluster) := by
  have hj : State.judgeRetire cluster s = rcOk := by
    unfold State.judgeRetire
    rw [if_neg (by omega), if_neg (by simp [ho]), if_neg (by simp [hp])]
  unfold State.retireRequest
  dsimp only
  rw [if_neg (by omega), if_neg (by omega)]
  exact governed_starts hj hb

/-- 0xFFFF takes back a pending cluster that no loaded plan was placed against. -/
theorem State.retireRequest_cancels (hp : s.reg Reg.retirePending ≠ 0xFFFF)
    (hl : s.loadedAgainst (s.reg Reg.retirePending) = false) :
    s.retireRequest 0xFFFF = (rcOk, s.unpend (s.reg Reg.retirePending)) := by
  unfold State.retireRequest
  dsimp only
  rw [if_pos rfl, if_neg hp, if_neg (by simp [hl])]

theorem State.mapChange_none (h : s.dueRetirements = []) : s.mapChange = s := by
  unfold State.mapChange
  rw [h]
  rfl

/-- A change with clusters due changes the map, and refuses what is loaded. -/
theorem State.mapChange_due (h : s.dueRetirements ≠ []) : s.mapChange = s.changeUnitMap.unmapLoaded := by
  unfold State.mapChange
  rw [if_neg (by simpa using h)]

/-- Every due cluster retires, the serial counts up and UnitMapChanged is sent. -/
theorem State.changeUnitMap_due (h : s.dueRetirements ≠ []) :
    s.changeUnitMap =
      let u := s.dueRetirements.foldl State.retire s
      let w : State := { u with units := { u.units with mapSerial := u.units.mapSerial + 1 } }
      w.notice Note.unitMapChanged srcModule (u32 w.units.mapSerial ++ w.unitMapDigest) := by
  unfold State.changeUnitMap
  exact if_neg (by simpa using h)

theorem State.unmapLoaded_keeps (h : s.plan.loaded = none ∨ s.prog.running = true) : s.unmapLoaded = s := by
  unfold State.unmapLoaded
  rcases h with h | h
  · rw [h]
  · split
    · rfl
    · exact if_pos h

theorem State.unmapLoaded_refuses {p : Plan} (hp : s.plan.loaded = some p) (hr : s.prog.running = false) :
    s.unmapLoaded = s.forgetLaunch.refusePlan (7, rcNoRoom, siteOf 1 0 0) p.digest := by
  unfold State.unmapLoaded
  rw [hp]
  exact if_neg (by simp [hr])

end

/-- Settles O35: what the request answers, and the change of the map followed by the refusal of a loaded plan. -/
theorem clustersRetire : Obligations.ClustersRetire := by
  intro v cluster s
  refine ⟨fun h hc ho hp hb => ?_, fun h hp hl => ?_, fun h => ?_, fun h => ?_⟩
  · exact execRetireCluster_next h (State.retireRequest_pends hc ho hp hb)
  · exact execRetireCluster_next h (State.retireRequest_cancels hp hl)
  · exact done_of_eq (State.mapChange_pending s) (State.mapChange_none h)
  · intro u w x
    have hx : s.mapChange = x.unmapLoaded := by rw [State.mapChange_due h, State.changeUnitMap_due h]
    refine ⟨fun hk => ?_, fun p hp hr => ?_⟩
    · exact done_of_eq (State.mapChange_pending s) (hx.trans (State.unmapLoaded_keeps hk))
    · exact done_of_eq (State.mapChange_pending s) (hx.trans (State.unmapLoaded_refuses hp hr))

/-! ### The one re-read of a waiting tile (R121, R539) -/

section
variable {s : State} {c : Consumer} {err : Errors} {w : TileWait}

theorem State.reread_none (h : s.waitOf c false = none) : s.reread c err = s := by
  unfold State.reread
  rw [h]

/-- A Hold course re-reads nothing. -/
theorem State.reread_hold (h : s.waitOf c false = some w) (hh : s.inHold = true) : s.reread c err = s := by
  unfold State.reread
  rw [h]
  exact if_pos hh

/-- The check of the tile as received decides between its reader and a second failure. -/
theorem State.reread_waiting (h : s.waitOf c false = some w) (hh : s.inHold = false) :
    s.reread c err =
      let t := s.bump Reg.tileRereads
      let r := received (t.load w.address (tileBytes w.fmt)) err
      if tileChecks r then t.takeTile w r else t.failsTwice w := by
  unfold State.reread
  rw [h]
  exact if_neg (by simp [hh])

end

/-! ### What a holder answers (R541) -/

section
variable {s : State} {port : Nat} {g : Bytes}

theorem execRepairRequest_next (hp : port < 64) : execRepairRequest port g s = .next (s.serveRepair port g) :=
  onUnit_runs (decide_eq_true hp) (State.serveRepair_pending ..)

section
variable (ha : s.awake = true) (hl : s.limewash = false) (hr : s.portRole port ≤ 1) (hg : g.length = 64)
  (hk : byteAt g 0 = 1)
include ha hl hr hg hk

/-- Without a tile that passes its check the answer is a refusal. -/
theorem State.serveRepair_refuses
    (h : ∀ a fmt, s.requestedTile g = some (a, fmt) → tileChecks (s.load a (tileBytes fmt)) = false) :
    s.serveRepair port g = s.answerRepair (s.portRole port == 0) port g none := by
  unfold State.serveRepair
  rw [if_neg (by simp [ha, hl, hr, hg, hk])]
  dsimp only
  split
  · rfl
  · next a fmt hq => rw [if_neg (by simp [h a fmt hq])]

/-- A tile that passes its check is the answer. -/
theorem State.serveRepair_serves {a fmt : Nat} (hq : s.requestedTile g = some (a, fmt))
    (hc : tileChecks (s.load a (tileBytes fmt)) = true) :
    s.serveRepair port g = s.answerRepair (s.portRole port == 0) port g (some (s.load a (tileStride fmt))) := by
  unfold State.serveRepair
  rw [if_neg (by simp [ha, hl, hr, hg, hk]), hq]
  dsimp only
  rw [if_pos hc]

end

end

/-! ### What a requester takes (R540, R542) -/

/-- The repair whose Tag an answer carries. -/
def State.repairOfTag (s : State) (g : Bytes) : Option Repair :=
  s.repairs.find? fun x => x.tag != 0 && x.tag == field g 4 2

section
variable {s : State} {g tile : Bytes} {x : Repair}

theorem State.takeRepair_unknown (h : s.repairOfTag g = none) : s.takeRepair g tile = s := by
  unfold State.repairOfTag at h
  unfold State.takeRepair
  rw [h]

section
variable (hx : s.repairOfTag g = some x) (ha : s.awake = true) (hg : g.length = 64)
include hx ha hg

/-- Kind 2 delivers the tile, and Kind 3 asks the next source. -/
theorem State.takeRepair_known : s.takeRepair g tile =
    if byteAt g 0 = 2 then s.deliverRepair x (tile.take (64 * field g 22 2))
    else if byteAt g 0 = 3 then s.nextSource x
    else s := by
  unfold State.repairOfTag at hx
  unfold State.takeRepair
  rw [hx]
  exact if_neg (by simp [ha, hg])

theorem State.takeRepair_delivers (hk : byteAt g 0 = 2) :
    s.takeRepair g tile = s.deliverRepair x (tile.take (64 * field g 22 2)) :=
  (State.takeRepair_known hx ha hg).trans (if_pos hk)

theorem State.takeRepair_refused (hk : byteAt g 0 = 3) : s.takeRepair g tile = s.nextSource x := by
  rw [State.takeRepair_known hx ha hg, if_neg (by omega), if_pos hk]

end

end

/-! ### Damage reports (R544, R551) -/

section
variable {s : State} {n : Nat} {m : Bytes}

theorem execDamageReport_next (hn : n < 4096) : execDamageReport n m s = .next (s.takeDamageReport n m) :=
  onUnit_runs (decide_eq_true hn) (State.takeDamageReport_pending ..)

theorem State.takeDamageReport_heard (h : s.headHears n m = true) :
    s.takeDamageReport n m = s.setWithheld (byteAt m 5) true := by
  unfold State.takeDamageReport
  rw [if_pos h]

theorem State.takeDamageReport_unheard (h : s.headHears n m = false) : s.takeDamageReport n m = s := by
  unfold State.takeDamageReport
  rw [if_neg (by simp [h])]

/-- A granted CLEAR_WITHHELD clears the generation's bit. -/
theorem execClearWithheld_clears {v : Via} (h : s.grantsNumber v 0xA602 0xB 1 n = true) :
    execClearWithheld v n s = .next (((s.countRequest v).setWithheld n false).answerOk v) :=
  done_writeNumber (act := fun t => (rcOk, t.setWithheld n false)) h rfl fun u => State.setWithheld_pending u n false

end

/-! ### Hard faults (R54, R545, R546, R552) -/

section
variable {s : State} {kind unit : Nat}

theorem execHardFault_next (hu : s.hardUnit kind unit = true) (ha : s.awake = true) :
    execHardFault kind unit s = .next (s.hardFault kind unit) := by
  unfold execHardFault
  rw [if_pos ha]
  exact onUnit_runs hu (State.hardFault_pending ..)

/-- The plan course that a hard fault is stamped with; all ones with no plan running. -/
def State.faultCourse (s : State) : Nat := if s.prog.running then s.prog.course else allOnes64

/-- The state with a hard fault counted and kept, and what it does to its unit. -/
def State.faultCounted (s : State) (kind unit : Nat) : State :=
  let t := ((s.bump Reg.hardFaults).setReg Reg.lastHardFault (kind * 2 ^ 24 + unit % 2 ^ 24)).setReg
    Reg.lastHardFaultCourse s.faultCourse
  if kind = 1 then t.coreFault unit else if kind = 2 then t.pendRetirement unit else t

/-- With a plan running a hard fault waits for the boundary. -/
theorem State.hardFault_running (h : (s.faultCounted kind unit).prog.running = true) :
    s.hardFault kind unit =
      let t := s.faultCounted kind unit
      { t with start := { t.start with hard := t.start.hard ++ [(kind, unit, s.faultCourse)] } } := by
  unfold State.hardFault
  exact if_pos h

/-- With no plan running its notice is sent at once. -/
theorem State.hardFault_idle (h : (s.faultCounted kind unit).prog.running = false) :
    s.hardFault kind unit = (s.faultCounted kind unit).noticeHard kind unit s.faultCourse := by
  unfold State.hardFault
  exact if_neg (Bool.eq_false_iff.mp h)

end

/-! ### The plan stop (R545) -/

section
variable {s : State} {k unit course : Nat} {l : List (Nat × Nat × Nat)}

/-- The state whose hard faults are taken. -/
def State.faultsTaken (s : State) : State := { s with start := { s.start with hard := [] } }

/-- The tints that a plan stop ends: those at work that nothing has cancelled. -/
def State.liveTints (s : State) : Nat :=
  s.heldSlots.countP fun n => decide ((s.slot n).state ≤ 3) && !(s.slot n).cancelled

/-- The state in which a stopped plan's tints, program, arrivals and slots are gone and its lost granules are zero. -/
def State.planCleared (s : State) (course : Nat) (yields : Bool) : State :=
  let w := (((s.stopTints course yields).emptyPlan.endPlan).dropPoint).dropSlots
  let w := w.start.granules.foldl State.zeroGranule w
  { w with start := { w.start with granules := [] } }

theorem State.stopPlan_none (h : s.start.hard = []) : s.stopPlan = s := by
  unfold State.stopPlan
  rw [h]

/-- With no plan running the hard faults are taken and no more. -/
theorem State.stopPlan_idle (h : s.start.hard = (k, unit, course) :: l) (hr : s.prog.running = false) :
    s.stopPlan = s.faultsTaken := by
  unfold State.stopPlan
  rw [h]
  exact if_pos hr

/-- A running plan is cleared, then the notices of its faults and of its stop follow, then the spares swap in. -/
theorem State.stopPlan_stops (h : s.start.hard = (k, unit, course) :: l) (hr : s.prog.running = true) :
    s.stopPlan =
      let w := s.start.hard.foldl (fun t f => t.noticeHard f.1 f.2.1 f.2.2)
        (s.faultsTaken.planCleared course s.bondProtected)
      ((w.bump Reg.planStops).notice Note.planStopped srcModule (u64 s.prog.course ++
        u16 (if s.bondProtected then 0 else s.liveTints) ++ u8 (flagNat s.bondProtected))).doHardSwaps := by
  unfold State.stopPlan
  rw [h]
  exact if_neg (by simp [hr])

/-- A stuck granule of a brick in service is shown and sent. -/
theorem execStoreStuck_next {a : Nat} (hs : addrSpace a = 2) (ha : a < 2 ^ 48) (hb : s.brickOn (addrBrick a) = true)
    (hw : s.awake = true) :
    execStoreStuck a s = .next ((s.setReg Reg.stuckAddress a).notice Note.storeStuck (storeSource a) (u64 a)) := by
  unfold execStoreStuck
  rw [if_pos hw]
  exact onUnit_runs (by simp only [hs, ha, hb]; decide) (State.storeSticks_pending ..)

end

/-- Settles O57, command by command, from the branches of the operations on tiles, repairs and hard faults. -/
theorem faultsAreRepaired : Obligations.FaultsAreRepaired := by
  intro v n b tile s
  refine ⟨fun c err => ⟨fun h => ?_, fun w h => ⟨fun hh => ?_, fun hh => ⟨fun hc => ?_, fun hc => ?_⟩⟩⟩,
    fun hn ha hl hr hg hk => ⟨fun hq => ?_, fun a fmt hq => ⟨fun hc => ?_, fun hc => ?_⟩⟩,
    ⟨fun h => ?_, fun x hx ha hg => ⟨fun hk => ?_, fun hk => ?_⟩⟩, ?_, ?_,
    fun hn => ⟨fun h => ?_, fun h => ?_⟩, fun h => ?_,
    fun kind hu ha => ⟨fun h => ?_, fun h => ?_⟩, fun h => ?_,
    fun k unit course l h => ⟨fun hr => ?_, fun hr => ?_⟩, fun hs hn hb ha => ?_⟩
  · exact done_of_eq (State.reread_pending s c err) (State.reread_none h)
  · exact done_of_eq (State.reread_pending s c err) (State.reread_hold h hh)
  · exact done_of_eq (State.reread_pending s c err) ((State.reread_waiting h hh).trans (if_pos hc))
  · exact done_of_eq (State.reread_pending s c err) ((State.reread_waiting h hh).trans (if_neg (by simp [hc])))
  · exact (execRepairRequest_next hn).trans
      (congrArg _ (State.serveRepair_refuses ha hl hr hg hk fun a fmt h => by cases hq.symm.trans h))
  · refine (execRepairRequest_next hn).trans (congrArg _ (State.serveRepair_refuses ha hl hr hg hk fun a fmt h => ?_))
    cases hq.symm.trans h
    exact hc
  · exact (execRepairRequest_next hn).trans (congrArg _ (State.serveRepair_serves ha hl hr hg hk hq hc))
  · exact done_of_eq (State.takeRepair_pending s b tile) (State.takeRepair_unknown h)
  · exact done_of_eq (State.takeRepair_pending s b tile) (State.takeRepair_delivers hx ha hg hk)
  · exact done_of_eq (State.takeRepair_pending s b tile) (State.takeRepair_refused hx ha hg hk)
  · exact done_eq (State.repairsLate_pending s)
  · exact done_eq (State.giveUpRepairs_pending s)
  · exact (execDamageReport_next hn).trans (congrArg _ (State.takeDamageReport_heard h))
  · exact (execDamageReport_next hn).trans (congrArg _ (State.takeDamageReport_unheard h))
  · exact execClearWithheld_clears h
  · exact (execHardFault_next hu ha).trans (congrArg _ (State.hardFault_running h))
  · exact (execHardFault_next hu ha).trans (congrArg _ (State.hardFault_idle h))
  · exact done_of_eq (State.stopPlan_pending s) (State.stopPlan_none h)
  · exact done_of_eq (State.stopPlan_pending s) (State.stopPlan_idle h hr)
  · exact done_of_eq (State.stopPlan_pending s) (State.stopPlan_stops h hr)
  · exact execStoreStuck_next hs hn hb ha

end Sys2Proof.Machine

/-! PROOFS. How commands end, the trits of TRN5, the Glaze unit, the passes of an array, the moves of the M queue and the
engine flags: each operation branch by branch, and the statements settled from the branches. -/

namespace Sys2Proof.Machine

/-! ### How a command ends -/

/-- Every command ends in a next state or in one of the two refusals, arm by arm of `exec`. -/
theorem exec_ends (c : Instr) (s : State) : Ends (exec c s) :=
  match c with
  | .courseStart => execCourseStart_ends s
  | .epochCourse phase8 keeperOffset ber => execEpochCourse_ends phase8 keeperOffset ber s
  | .referenceInvalid => execReferenceInvalid_ends s
  | .courseSourceWrite v value => execCourseSourceWrite_ends v value s
  | .courseLoad v value => execCourseLoad_ends v value s
  | .courseMark port mark phase8 => execCourseMark_ends port mark phase8 s
  | .parentReselect => execParentReselect_ends s
  | .courseHoldover => execCourseHoldover_ends s
  | .courseLocked => execCourseLocked_ends s
  | .sourceReturn count phase8 => execSourceReturn_ends count phase8 s
  | .phaseStep => execPhaseStep_ends s
  | .leadCourse => execLeadCourse_ends s
  | .delayProbe port roundTrip8 turnaround8 => execDelayProbe_ends port roundTrip8 turnaround8 s
  | .dueCheck => execDueCheck_ends s
  | .planStalled => execPlanStalled_ends s
  | .restCourse => execRestCourse_ends s
  | .linkRetry port lane => execLinkRetry_ends port lane s
  | .tileReread consumer err => execTileReread_ends consumer err s
  | .scrubStep unit bank claimed ecc => execScrubStep_ends unit bank claimed ecc s
  | .pointingHousekeeping fits => execPointingHousekeeping_ends fits s
  | .sensorSample fits reading => execSensorSample_ends fits reading s
  | .maintenanceMicrostep cluster bytes => execMaintenanceMicrostep_ends cluster bytes s
  | .launchCourseWrite v value => execLaunchCourseWrite_ends v value s
  | .launch => execLaunch_ends s
  | .launchRefused => execLaunchRefused_ends s
  | .quoinCourse => execQuoinCourse_ends s
  | .correctedThreshold cluster position => execCorrectedThreshold_ends cluster position s
  | .substituteCore v value => execSubstituteCore_ends v value s
  | .substitutionRegisterCopy cluster fits => execSubstitutionRegisterCopy_ends cluster fits s
  | .substitutionSwap cluster => execSubstitutionSwap_ends cluster s
  | .unitMapChange => execUnitMapChange_ends s
  | .engineFlagsClear v cluster position engine value raised =>
    execEngineFlagsClear_ends v cluster position engine value raised s
  | .clearAllFlags v value raised => execClearAllFlags_ends v value raised s
  | .nop q f => execNop_ends q f s
  | .wait q f => execWait_ends q f s
  | .plumb q f => execPlumb_ends q f s
  | .plumbRelease core arrival => execPlumbRelease_ends core arrival s
  | .callRoutine q f => execCallRoutine_ends q f s
  | .ret q f => execRet_ends q f s
  | .endBundle q f => execEndBundle_ends q f s
  | .fmode q f => execFmode_ends q f s
  | .bundleStart core queue => execBundleStart_ends core queue s
  | .tset q f => execTset_ends q f s
  | .tfill q f batch err => execTfill_ends q f batch err s
  | .tileVerdict core engine => execTileVerdict_ends core engine s
  | .suspensionEnd => execSuspensionEnd_ends s
  | .mma q f batch => execMma_ends q f batch s
  | .vrd q f => execVrd_ends q f s
  | .addLane q f => execAddLane_ends q f s
  | .subLane q f => execSubLane_ends q f s
  | .mulLane q f => execMulLane_ends q f s
  | .fma q f => execFma_ends q f s
  | .divLane q f => execDivLane_ends q f s
  | .sqrt q f => execSqrt_ends q f s
  | .minLane q f => execMinLane_ends q f s
  | .maxLane q f => execMaxLane_ends q f s
  | .fn q f => execFn_ends q f s
  | .tbl q f => execTbl_ends q f s
  | .red q f => execRed_ends q f s
  | .sqa q f => execSqa_ends q f s
  | .rot q f => execRot_ends q f s
  | .amax q f => execAmax_ends q f s
  | .topk q f => execTopk_ends q f s
  | .rng q f => execRng_ends q f s
  | .cvt q f => execCvt_ends q f s
  | .dup q f => execDup_ends q f s
  | .ld q f ecc => execLd_ends q f ecc s
  | .st q f => execSt_ends q f s
  | .sta q f => execSta_ends q f s
  | .ldi q f ecc => execLdi_ends q f ecc s
  | .sti q f => execSti_ends q f s
  | .wcol q f => execWcol_ends q f s
  | .wrow q f => execWrow_ends q f s
  | .fill q f => execFill_ends q f s
  | .copy q f err => execCopy_ends q f err s
  | .snd q f => execSnd_ends q f s
  | .sndt q f err => execSndt_ends q f err s
  | .due q f => execDue_ends q f s
  | .tsig q f => execTsig_ends q f s
  | .lva q f => execLva_ends q f s
  | .rel q f => execRel_ends q f s
  | .lp q f => execLp_ends q f s
  | .setCount q f => execSetCount_ends q f s
  | .addc q f => execAddc_ends q f s
  | .kset q f => execKset_ends q f s
  | .bk q f => execBk_ends q f s
  | .wcrs q f => execWcrs_ends q f s
  | .ao q f => execAo_ends q f s
  | .twait q f => execTwait_ends q f s
  | .lvw q f => execLvw_ends q f s
  | .swapArm v value => execSwapArm_ends v value s
  | .bankSwap => execBankSwap_ends s
  | .handoffSwap cluster => execHandoffSwap_ends cluster s
  | .trowelFault cluster cause => execTrowelFault_ends cluster cause s
  | .slotClearingDone slot => execSlotClearingDone_ends slot s
  | .slotStampingDone slot => execSlotStampingDone_ends slot s
  | .edgeBlockFailure edge => execEdgeBlockFailure_ends edge s
  | .edgeRetrain edge => execEdgeRetrain_ends edge s
  | .flitReceived port lane slot flit fecOk corrected => execFlitReceived_ends port lane slot flit fecOk corrected s
  | .lateFlitWrite port => execLateFlitWrite_ends port s
  | .linkReport port lane word => execLinkReport_ends port lane word s
  | .reportTimeout port lane course => execReportTimeout_ends port lane course s
  | .relayForward port route flitIndex egress lane slot =>
    execRelayForward_ends port route flitIndex egress lane slot s
  | .laneDown port lane cause => execLaneDown_ends port lane cause s
  | .laneRetrainDone port lane full ok => execLaneRetrainDone_ends port lane full ok s
  | .retrain v port value => execRetrain_ends v port value s
  | .partnerChange port deviceId partnerPort => execPartnerChange_ends port deviceId partnerPort s
  | .pointingMessage port lane word => execPointingMessage_ends port lane word s
  | .pointingResend port => execPointingResend_ends port s
  | .signalArrival packet => execSignalArrival_ends packet s
  | .levelArrival packet => execLevelArrival_ends packet s
  | .levelRelease packet => execLevelRelease_ends packet s
  | .ingressRecord qp window record => execIngressRecord_ends qp window record s
  | .bar2Write offset data => execBar2Write_ends offset data s
  | .planLoad v value => execPlanLoad_ends v value s
  | .planLoaderDone schedule => execPlanLoaderDone_ends schedule s
  | .planDiscard v value => execPlanDiscard_ends v value s
  | .planHalt v value => execPlanHalt_ends v value s
  | .planHalted => execPlanHalted_ends s
  | .descriptor qp message => execDescriptor_ends qp message s
  | .batchBuild => execBatchBuild_ends s
  | .orderBatch qp message => execOrderBatch_ends qp message s
  | .orderApply => execOrderApply_ends s
  | .abortReport qp message => execAbortReport_ends qp message s
  | .governorEvaluation unprocessed => execGovernorEvaluation_ends unprocessed s
  | .tokenRecord record => execTokenRecord_ends record s
  | .recordSend qp => execRecordSend_ends qp s
  | .loadGeneration v value => execLoadGeneration_ends v value s
  | .loadAdapter v value => execLoadAdapter_ends v value s
  | .loadAbort v value => execLoadAbort_ends v value s
  | .weightRecord => execWeightRecord_ends s
  | .creditMessage message => execCreditMessage_ends message s
  | .creditSend => execCreditSend_ends s
  | .switchCourse v value => execSwitchCourse_ends v value s
  | .generationSwitch => execGenerationSwitch_ends s
  | .generationDiscard v value => execGenerationDiscard_ends v value s
  | .adapterUnload v value => execAdapterUnload_ends v value s
  | .trainingPhase port word => execTrainingPhase_ends port word s
  | .trainingTimeout port => execTrainingTimeout_ends port s
  | .portRoleMismatch port partnerRole partnerDevice => execPortRoleMismatch_ends port partnerRole partnerDevice s
  | .ethFrame ingress frame => execEthFrame_ends ingress frame s
  | .txSak v ingress value => execTxSak_ends v ingress value s
  | .rxSak v ingress value => execRxSak_ends v ingress value s
  | .rocePacket ingress qpn op icrcOk ce => execRocePacket_ends ingress qpn op icrcOk ce s
  | .rdmaWrite qp address rkey data => execRdmaWrite_ends qp address rkey data s
  | .qpConfig v value => execQpConfig_ends v value s
  | .qpReset v value => execQpReset_ends v value s
  | .qpRetryTimeout qp => execQpRetryTimeout_ends qp s
  | .functionReset kind => execFunctionReset_ends kind s
  | .claim node chainIn => execClaim_ends node chainIn s
  | .confirm node serial => execConfirm_ends node serial s
  | .claimTimeout => execClaimTimeout_ends s
  | .deviceIdWrite v value => execDeviceIdWrite_ends v value s
  | .dictionaryFrame mac frame => execDictionaryFrame_ends mac frame s
  | .gatewaySubmit slot => execGatewaySubmit_ends slot s
  | .readSegment v index sub typ offset => execReadSegment_ends v index sub typ offset s
  | .registerWrite v index sub typ offset total last value =>
    execRegisterWrite_ends v index sub typ offset total last value s
  | .writeSegmentTimeout v => execWriteSegmentTimeout_ends v s
  | .describe v index sub => execDescribe_ends v index sub s
  | .nextEntry v index sub => execNextEntry_ends v index sub s
  | .noticeRaise code cls source payload => execNoticeRaise_ends code cls source payload s
  | .noticeSendChain => execNoticeSendChain_ends s
  | .noticeRingWrite ok => execNoticeRingWrite_ends ok s
  | .ringControl value => execRingControl_ends value s
  | .powerRequest v value => execPowerRequest_ends v value s
  | .powerTransitionStart => execPowerTransitionStart_ends s
  | .powerTransitionDone => execPowerTransitionDone_ends s
  | .sleepEntry => execSleepEntry_ends s
  | .wakeAtCourse => execWakeAtCourse_ends s
  | .chainWakeFrame dest frame => execChainWakeFrame_ends dest frame s
  | .wakeNLow => execWakeNLow_ends s
  | .supplyLow lowest => execSupplyLow_ends lowest s
  | .supplyReturn => execSupplyReturn_ends s
  | .overVoltage => execOverVoltage_ends s
  | .sleepTempEvent => execSleepTempEvent_ends s
  | .woken source => execWoken_ends source s
  | .thermalShutdown => execThermalShutdown_ends s
  | .coolantFlowLow => execCoolantFlowLow_ends s
  | .attestNonce v value => execAttestNonce_ends v value s
  | .attestComplete => execAttestComplete_ends s
  | .spdmRequest request => execSpdmRequest_ends request s
  | .ownerEnroll v value => execOwnerEnroll_ends v value s
  | .ownerChange v value => execOwnerChange_ends v value s
  | .lifecycleToken v value => execLifecycleToken_ends v value s
  | .debugRequest v value => execDebugRequest_ends v value s
  | .debugToken v value => execDebugToken_ends v value s
  | .debugRead v => execDebugRead_ends v s
  | .debugWrite v value => execDebugWrite_ends v value s
  | .traceStart => execTraceStart_ends s
  | .securityVersionCommit v value => execSecurityVersionCommit_ends v value s
  | .notafterPassed => execNotafterPassed_ends s
  | .bondModeWrite v value => execBondModeWrite_ends v value s
  | .bondYield v value => execBondYield_ends v value s
  | .heartbeat bond lane word => execHeartbeat_ends bond lane word s
  | .partnerLost => execPartnerLost_ends s
  | .bondReport qp message => execBondReport_ends qp message s
  | .bondTakeover => execBondTakeover_ends s
  | .bondTakenOver => execBondTakenOver_ends s
  | .mirrorRecord record => execMirrorRecord_ends record s
  | .mirrorBufferFull => execMirrorBufferFull_ends s
  | .bondDegraded => execBondDegraded_ends s
  | .resyncDone => execResyncDone_ends s
  | .repairRequest port granule => execRepairRequest_ends port granule s
  | .repairTile granule tile => execRepairTile_ends granule tile s
  | .repairTimeout => execRepairTimeout_ends s
  | .noRepairSource => execNoRepairSource_ends s
  | .damageReport qp message => execDamageReport_ends qp message s
  | .firmwareActivate v value => execFirmwareActivate_ends v value s
  | .firmwareActivation => execFirmwareActivation_ends s
  | .keystoneRestartDone => execKeystoneRestartDone_ends s
  | .patchLoad v value => execPatchLoad_ends v value s
  | .patchActivate v value => execPatchActivate_ends v value s
  | .patchSwap => execPatchSwap_ends s
  | .retireCluster v value => execRetireCluster_ends v value s
  | .maintenanceRelease => execMaintenanceRelease_ends s
  | .attemptStart failing => execAttemptStart_ends failing s
  | .resetN low => execResetN_ends low s
  | .pwrGoodDeassert => execPwrGoodDeassert_ends s
  | .powerLoss => execPowerLoss_ends s
  | .startConfirmed => execStartConfirmed_ends s
  | .startFailed reason detail => execStartFailed_ends reason detail s
  | .startRetry v value => execStartRetry_ends v value s
  | .slotSelect v value => execSlotSelect_ends v value s
  | .slotImage v value => execSlotImage_ends v value s
  | .slotStage v value => execSlotStage_ends v value s
  | .diagnosticRun v value failing => execDiagnosticRun_ends v value failing s
  | .clearWithheld v value => execClearWithheld_ends v value s
  | .hardFault kind unit => execHardFault_ends kind unit s
  | .planStop => execPlanStop_ends s
  | .storeStuck address => execStoreStuck_ends address s
  | .fatalFault cause => execFatalFault_ends cause s
  | .bar0Write offset length value => execBar0Write_ends offset length value s
  | .ingressLinkChange ingress up => execIngressLinkChange_ends ingress up s
  | .pcieLinkChange state rate width => execPcieLinkChange_ends state rate width s
  | .ideKmExchange active => execIdeKmExchange_ends active s
  | .edgeLossOfLock edge => execEdgeLossOfLock_ends edge s
  | .edgeRetrainDone edge => execEdgeRetrainDone_ends edge s
  | .spareFault cluster => execSpareFault_ends cluster s
  | .trowelRestartDone cluster => execTrowelRestartDone_ends cluster s
/-- Settles O3, from how each command ends. -/
theorem commandsEnd : Obligations.CommandsEnd := exec_ends

/-! ### Instructions that run -/

/-- An instruction that its queue runs ends in what its effect leaves, its queue advanced. -/
theorem instr_runs_to {s t : State} {m : String} {op : Nat} {q : Issue} {f : Fields} {sh : Shape} {ok : Fields → Bool}
    {eff : Fields → State → State} (h : s.runs q f sh ok = true) (he : eff (s.fieldsOf q f sh) (s.issue q op) = t)
    (hp : t.pending = s.pending) : s.instr m op q f sh ok eff = .next (t.advance q) := by
  subst he
  exact instr_runs h hp

/-! ### TRN5 (R78) -/

/-- Element i of a byte of TRN5: a digit of a valid byte, the digit 1 of an invalid one. -/
theorem unpackElem_trit (bs : Bytes) (j : Nat) {i : Nat} (hi : i < 5) :
    unpackElem 14 bs (5 * j + i) = if 243 ≤ byteAt bs j then 1 else byteAt bs j / 3 ^ i % 3 := by
  have hd : (5 * j + i) / 5 = j := by omega
  have hm : (5 * j + i) % 5 = i := by omega
  unfold unpackElem
  simp only [hd, hm]
  rfl

theorem unpackElem_trit_valid {bs : Bytes} {j i : Nat} (hi : i < 5) (h : byteAt bs j < 243) :
    unpackElem 14 bs (5 * j + i) = byteAt bs j / 3 ^ i % 3 := by
  rw [unpackElem_trit bs j hi, if_neg (by omega)]

theorem unpackElem_trit_invalid {bs : Bytes} {j i : Nat} (hi : i < 5) (h : 243 ≤ byteAt bs j) :
    unpackElem 14 bs (5 * j + i) = 1 := by
  rw [unpackElem_trit bs j hi, if_pos h]

/-- A digit t stands for t - 1. -/
theorem elemValue_trit (book : Bytes) (c : Nat) : elemValue 14 book c = numOfInt ((c : Int) - 1) := rfl

/-- The elements of a byte of five digits are its digits. -/
theorem unpackElem_digits {bs : Bytes} {j t0 t1 t2 t3 t4 : Nat} (h0 : t0 < 3) (h1 : t1 < 3) (h2 : t2 < 3) (h3 : t3 < 3)
    (h4 : t4 < 3) (hb : byteAt bs j = t0 + 3 * t1 + 9 * t2 + 27 * t3 + 81 * t4) :
    ((List.range 5).map fun i => unpackElem 14 bs (5 * j + i)) = [t0, t1, t2, t3, t4] := by
  have hl : ((List.range 5).map fun i => unpackElem 14 bs (5 * j + i)) =
      (List.range 5).map fun i => byteAt bs j / 3 ^ i % 3 :=
    List.map_congr_left fun i hi => unpackElem_trit_valid (List.mem_range.mp hi) (by omega)
  rw [hl, hb]
  simp only [List.range_succ, List.range_zero, List.nil_append, List.cons_append, List.map_cons, List.map_nil,
    List.cons.injEq, and_true]
  omega

theorem unpackAll_length (fmt n : Nat) (bs : Bytes) : (unpackAll fmt n bs).length = n := by
  simp [unpackAll]

theorem unpackAll_getElem? {fmt n i : Nat} {bs : Bytes} (h : i < n) :
    (unpackAll fmt n bs)[i]? = some (unpackElem fmt bs i) := by
  simp [unpackAll, h]

/-- Of byte 819 of a tile the digit t0 is the last element. -/
theorem unpackAll_lastTrit {bs : Bytes} (h : byteAt bs 819 < 243) :
    (unpackAll 14 4096 bs)[4095]? = some (byteAt bs 819 % 3) := by
  have hv := unpackElem_trit_valid (j := 819) (i := 0) (by decide) h
  rw [pow_zero, Nat.div_one] at hv
  rw [unpackAll_getElem? (by decide), ← hv]

section
variable {s : State} {core eng : Nat} {g : Fill} {x : Front}

/-- A tile that passes checks 2 to 5 delivers data; its invalid TRN5 bytes are counted, and set IV. -/
theorem State.judgeRest_passes (hf : tileFormat g.bytes = x.wt) (hr : tileReserved g.bytes = 0)
    (hc : x.wt = 13 → codebookOk (tileStrip 13 g.bytes) = true) (ht : s.tintOk x g.bytes = true)
    (hg : generationOk x g.bytes = true) :
    s.judgeRest core eng g x = (true,
      if invalidTrits x.wt g.bytes = 0 then s
      else (s.bumpBy Reg.trnInvalidBytes (invalidTrits x.wt g.bytes)).raise core eng flIV) := by
  unfold State.judgeRest
  rw [if_neg (by simp [hf, hr]), if_neg (by rintro ⟨h, hb⟩; simp [hc h] at hb), if_neg (by simp [ht]),
    if_neg (by simp [hg])]

/-- A tile whose verdict is due and whose Check matches takes the verdict of checks 2 to 5. -/
theorem State.judgeFill_checks (hw : s.awaits (.feeder core eng) = false)
    (h : ((s.arrayOf core eng).fills.find? fun g => g.verdict.isNone) = some g) (hx : g.front = some x)
    (ha : g.arrived = true) (hu : s.unchecked x = false) (hc : tileChecks g.bytes = true) :
    s.judgeFill core eng = (s.judgeRest core eng g x).2.judged core eng (s.judgeRest core eng g x).1 := by
  unfold State.judgeFill
  rw [if_neg (by simp [hw]), h]
  dsimp only
  rw [hx]
  dsimp only
  rw [if_neg (by simp [ha]), if_neg (by simp [hu]), if_pos hc]

/-- In a plan course an array's first fill without one gets the cycle of its verdict, and the oldest is judged. -/
theorem execTileVerdict_works (hc : core < 1024) (he : eng < 4) (hq : hasQueue core eng = true)
    (hw : s.prog.works = true) :
    execTileVerdict core eng s = .next (State.judgeFill
      (s.setArrayOf core eng { s.arrayOf core eng with fills := markArrived (s.arrayOf core eng).fills }) core eng) := by
  unfold execTileVerdict
  rw [onUnit_runs (by simp [coreOk, hc, he, hq]) (State.tileVerdict_pending s core eng)]
  unfold State.tileVerdict
  rw [if_pos hw]

end

/-- Settles O59: the digits of a byte, and the branch of a tile's verdict in which all five checks pass. -/
theorem tritsOfATile : Obligations.TritsOfATile := by
  refine ⟨fun book bs j t0 t1 t2 t3 t4 h0 h1 h2 h3 h4 hb => ⟨unpackElem_digits h0 h1 h2 h3 h4 hb, ?_⟩, rfl,
    fun bs => ⟨unpackAll_length 14 4096 bs, unpackAll_lastTrit⟩,
    fun book bs j i hi => ⟨fun h => ?_, fun h => ?_, fun h => ?_⟩, ?_⟩
  · rw [← unpackElem_digits h0 h1 h2 h3 h4 hb, List.map_map]
    rfl
  · rw [unpackElem_trit_invalid hi h]
    rfl
  · rw [unpackElem_trit_valid hi (by omega), h]
    interval_cases i <;> rfl
  · rw [unpackElem_trit_valid hi (by omega), h, Nat.zero_div]
    rfl
  · intro core eng s g x hc he hq hw u ha hg hx hv hu hk hf ht hr hti hge n
    have hj : u.judgeRest core eng g x =
        (true, if n = 0 then u else (u.bumpBy Reg.trnInvalidBytes n).raise core eng flIV) := by
      have hn : invalidTrits x.wt g.bytes = n := by rw [hf]; rfl
      rw [State.judgeRest_passes (ht.trans hf.symm) hr (fun h => absurd (hf.symm.trans h) (by decide)) hti hge, hn]
    rw [exec_tileVerdict, execTileVerdict_works hc he hq hw,
      State.judgeFill_checks ha hg hx hv hu (beq_iff_eq.mpr hk), hj]

/-! ### Lane instructions whose hods hold their operands (R153, R154) -/

section
variable {s v : State} {q : Issue} {g : Fields} {b : List Nat} {fb : Nat}

/-- Operand B without broadcast: a lane vector. -/
theorem State.takesB_vector (h0 : flagOf g 0 = false) (hB : s.holds q.core g.srcB (laneEntries g.fmt) = true) :
    let w := s.popped q.core g.srcB (laneEntries g.fmt)
    let x := widenAll (w.vFlush q.core) g.fmt (s.front q.core g.srcB (laneEntries g.fmt))
    s.takesB q g w x.1 x.2 :=
  ⟨.inl ⟨h0, hB, rfl, rfl, rfl⟩⟩

/-- Operand B with broadcast: one scalar for every lane. -/
theorem State.takesB_scalar (h0 : flagOf g 0 = true) (hB : s.holds q.core g.srcB 1 = true) :
    let w := s.popped q.core g.srcB 1
    let x := widen (w.vFlush q.core) 0 (field ((s.front q.core g.srcB 1).headD []) 0 4)
    s.takesB q g w (List.replicate 128 x.1) x.2 :=
  ⟨.inr ⟨h0, hB, rfl, rfl, rfl⟩⟩

/-- Taking operand B leaves the queue of waiting commands alone. -/
theorem State.takesB_pending (h : s.takesB q g v b fb) : v.pending = s.pending := by
  obtain ⟨⟨-, -, rfl, -, -⟩ | ⟨-, -, rfl, -, -⟩⟩ := h <;> rfl

/-- A one-operand lane instruction pops its lane vector and pushes the operation of every lane. -/
theorem State.unary_holds {op : Bool → Nat → Flagged} (h : s.holds q.core g.srcA (laneEntries g.fmt) = true) :
    s.unary q g op =
      let v := s.popped q.core g.srcA (laneEntries g.fmt)
      let a := widenAll (v.vFlush q.core) g.fmt (s.front q.core g.srcA (laneEntries g.fmt))
      v.lanesOut q.core g.dst a.2 (a.1.map (op (v.vFlush q.core))) := by
  unfold State.unary
  rw [lanesIn_holds h]

/-- A two-operand lane instruction pops its lane vector, takes operand B and pushes the operation of every lane. -/
theorem State.binary_takes {op : Bool → Nat → Nat → Flagged}
    (h : s.holds q.core g.srcA (laneEntries g.fmt) = true)
    (hb : (s.popped q.core g.srcA (laneEntries g.fmt)).takesB q g v b fb) :
    s.binary q g op =
      let u := s.popped q.core g.srcA (laneEntries g.fmt)
      let a := widenAll (u.vFlush q.core) g.fmt (s.front q.core g.srcA (laneEntries g.fmt))
      v.lanesOut q.core g.dst (a.2 ||| fb) (List.zipWith (op (v.vFlush q.core)) a.1 b) := by
  unfold State.binary
  rw [lanesIn_holds h]
  dsimp only
  rw [lanesB_takes hb]

/-- A multi-chunk instruction goes on with the chunks that it pops, and takes its queue for a cycle a chunk. -/
theorem State.overChunks_holds {k : List (List Nat) → Nat → State → State}
    (h : s.holds q.core g.srcA (chunkCount g * laneEntries g.fmt) = true) :
    s.overChunks q g k =
      let v := s.popped q.core g.srcA (chunkCount g * laneEntries g.fmt)
      let x := chunksOf (v.vFlush q.core) g.fmt (chunkCount g)
        (s.front q.core g.srcA (chunkCount g * laneEntries g.fmt))
      (k x.1 x.2 v).occupy q (chunkCount g) := by
  unfold State.overChunks
  rw [chunksIn_holds h]

end

/-- A two-operand lane instruction that its queue runs, its operands in their hods. -/
theorem instr_binary {s v : State} {m : String} {code : Nat} {q : Issue} {f : Fields} {b : List Nat} {fb : Nat}
    {fn : Bool → Nat → Nat → Flagged} (h : s.runs q f (vShape .hod 1 0) anyFields = true) :
    let g := s.fieldsOf q f (vShape .hod 1 0)
    let n := laneEntries g.fmt
    let u := s.issue q code
    let t := u.popped q.core g.srcA n
    let a := widenAll (t.vFlush q.core) g.fmt (u.front q.core g.srcA n)
    u.holds q.core g.srcA n = true → t.takesB q g v b fb →
    s.instr m code q f (vShape .hod 1 0) anyFields (fun g s => s.binary q g fn) =
      .next ((v.lanesOut q.core g.dst (a.2 ||| fb) (List.zipWith (fn (v.vFlush q.core)) a.1 b)).advance q) := by
  intro g n u t a ha hb
  refine instr_runs_to h (State.binary_takes ha hb) ?_
  rw [State.lanesOut_pending, State.takesB_pending hb, State.popped_pending, State.issue_pending]

/-- Settles O12: the six instructions are one, with an operation and a code each. -/
theorem laneArithmetic : Obligations.LaneArithmetic := by
  intro i code fn hi q f s h g n u v a ha
  have he : ∃ m, exec (i q f) s = s.instr m code q f (vShape .hod 1 0) anyFields fun g s => s.binary q g fn := by
    simp only [List.mem_cons, Prod.mk.injEq, List.not_mem_nil, or_false] at hi
    obtain ⟨rfl, rfl, rfl⟩ | ⟨rfl, rfl, rfl⟩ | ⟨rfl, rfl, rfl⟩ | ⟨rfl, rfl, rfl⟩ | ⟨rfl, rfl, rfl⟩ | ⟨rfl, rfl, rfl⟩ := hi
      <;> exact ⟨_, rfl⟩
  obtain ⟨m, he⟩ := he
  rw [he]
  exact ⟨fun h0 hB => instr_binary h ha (State.takesB_vector h0 hB),
    fun h0 hB => instr_binary h ha (State.takesB_scalar h0 hB)⟩

/-- Settles O13: each pops one lane vector, and TBL then handles what the code found in its table. -/
theorem laneFunctions : Obligations.LaneFunctions := by
  intro q f s
  refine ⟨?_, fun fn => ?_, ?_⟩
  · intro h g n u v a ha
    rw [exec_sqrt]
    exact instr_runs_to h (State.unary_holds ha) (by simp [u, v])
  · intro h g n u v a hf ha
    rw [exec_fn]
    refine instr_runs_to h ?_ (by simp [u, v])
    rw [hf]
    exact State.unary_holds ha
  · intro h g n u v a z t ha
    rw [exec_tbl]
    exact instr_runs_to h (congrArg (State.eccFound · z 1044 q.ecc 0) (State.unary_holds ha)) (by simp [u, v])

/-- Settles O14: pop after pop, each from what the one before it left. -/
theorem laneCombinations : Obligations.LaneCombinations := by
  intro q f s v b fb
  constructor
  · intro h g n u t a ha hb hc hC w c
    rw [exec_fma]
    refine instr_runs_to h ?_ (by simp [w, State.takesB_pending hb, t, u])
    rw [lanesIn_holds ha]
    dsimp only
    rw [lanesB_takes hb, lanesIn_holds hC]
  · intro h g n u t a ha hb hc hC w hs hS x c sn y0 y1
    rw [exec_rot]
    refine instr_runs_to h ?_ (by simp [x, w, State.takesB_pending hb, t, u])
    rw [lanesIn_holds ha]
    dsimp only
    rw [lanesB_takes hb, lanesIn_holds hC]
    dsimp only
    rw [lanesIn_holds hS]
    rfl

/-- Settles O15: each is one effect on the chunks that it pops. -/
theorem laneReductions : Obligations.LaneReductions := by
  intro q f s
  refine ⟨?_, ?_, ?_, ?_⟩
  · intro h g n u v x op ha
    rw [exec_red]
    exact instr_runs_to h (State.overChunks_holds ha) (by simp [u, v])
  · intro h g n u v x y ha
    rw [exec_sqa]
    exact instr_runs_to h (State.overChunks_holds ha) (by simp [u, v])
  · intro h g n u v x l best fl ha
    rw [exec_amax]
    exact instr_runs_to h (State.overChunks_holds ha) (by simp [u, v])
  · intro h g n u v x l ha
    rw [exec_topk]
    exact instr_runs_to h (State.overChunks_holds ha) (by simp [u, v])

/-- Settles O16: each pops once, and pushes what it makes of the entries. -/
theorem laneSources : Obligations.LaneSources := by
  intro q f s
  refine ⟨?_, ?_, ?_⟩
  · intro h g u e lane ha
    rw [exec_rng]
    exact instr_runs_to h (popping_holds ha) (by simp [u])
  · intro h g n u v x vec y ha
    rw [exec_cvt]
    refine instr_runs_to h (lanesIn_holds ha) ?_
    split <;> simp [y, u, v]
  · intro h g n u v es ha
    rw [exec_dup]
    exact instr_runs_to h (popping_holds ha) (by simp [u, v])

/-! ### Passes (R113, R140, R150) -/

section
variable {c : Core} {q : Issue} {f : Fields} {p : Pass}

/-- Where no pass takes from its hod at its start, a pass begins a take of what is there. -/
theorem Core.joinTake_begins (h : c.takeOf p = none) :
    c.joinTake q f p =
      let n := entriesOf f.fmt (mmaVectors f)
      let t : Take := {
        hod := f.srcA, start := p.start, mask := mmaMask f, fmt := f.fmt, transposed := p.transposed, count := p.count,
        need := n, entries := (c.hod f.srcA).take n, joined := [q.queue], left := sharers q f }
      { c with takes := c.takes ++ [t] }.setHod f.srcA ((c.hod f.srcA).drop n) := by
  unfold Core.joinTake
  rw [h]

/-- A pass joins the take that stands for its hod and start. -/
theorem Core.joinTake_joins {t : Take} (h : c.takeOf p = some t) :
    c.joinTake q f p = { c with takes := c.takes.map fun x =>
      if x.hod = t.hod ∧ x.start = t.start then { x with joined := q.queue :: x.joined } else x } := by
  unfold Core.joinTake
  rw [h]

end

/-- Settles O18: the pass begins a take of its own, or joins the one that stands. -/
theorem passesOpen : Obligations.PassesOpen := by
  intro q f batch s sh hsh h g u d p opened c n
  subst hsh
  -- With the core that the take leaves, the rest of `openPass` is `opened`.
  have hx (k : Core) (hk : c.joinTake q g p = k) : exec (.mma q f batch) s = .next ((opened k).advance q) := by
    subst hk
    rw [exec_mma]
    exact instr_runs_to h rfl
      ((State.openPass_pending ..).trans ((State.runToNow_pending ..).trans (State.issue_pending ..)))
  exact ⟨fun ht => hx _ (Core.joinTake_begins ht), fun t ht => hx _ (Core.joinTake_joins ht)⟩

/-! ### Moves (R155, R194) -/

/-- Settles O22: the pops that an instruction makes, then its one access. -/
theorem loadsAndStores : Obligations.LoadsAndStores := by
  intro q f ecc s
  refine ⟨?_, ?_, ?_, ?_, ?_⟩
  · intro sh g n u a h
    rw [exec_ld]
    exact instr_runs_to h rfl (by simp [u])
  · intro sh g u a k v bs h ha
    rw [exec_st]
    exact instr_runs_to h (popping_holds ha) (by simp [u, v])
  · intro sh g u a k v bs w x h ha
    rw [exec_sta]
    exact instr_runs_to h (popping_holds ha) (by simp [x, w, v, u])
  · intro sh g n u v a h ha
    rw [exec_ldi]
    exact instr_runs_to h (popping_holds ha) (by simp [u, v])
  · intro sh g u k v w a bs h ha hb
    rw [exec_sti]
    refine instr_runs_to h ?_ (by simp [u, v, w])
    rw [popping_holds ha]
    exact popping_holds hb

/-! ### Engine flags (R103, R106, R107) -/

/-- The cluster of a core. -/
theorem coreCluster_position {cluster position : Nat} (h : position < 8) :
    coreCluster (8 * cluster + position) = cluster := by
  unfold coreCluster
  omega

/-- A W1C write of a core's flag byte clears the event counters of the core's cluster. -/
theorem State.clearFlags_position {s : State} {cluster position engine value raised : Nat} (h : position < 8) :
    s.clearFlags (8 * cluster + position) engine value raised =
      let r := flagReg (8 * cluster + position) engine
      ((s.setReg r (clearBits (s.reg r) value)).clearEvents cluster value).bumpBy Reg.clearCollisions
        (countBits 5 (value &&& raised)) := by
  unfold State.clearFlags
  rw [coreCluster_position h]

/-- A granted write of ones to an engine's flags clears them, is answered, and what the hardware raises follows. -/
theorem execEngineFlagsClear_grants {s : State} {v : Via} {cluster position engine value raised : Nat} (hc : cluster < 128)
    (hp : position < 8) (he : engine < 5) (hv : value < 2 ^ 64)
    (h : s.grantsNumber v (0xA100 + cluster) (1 + 5 * position + engine) 1 value = true) :
    execEngineFlagsClear v cluster position engine value raised s =
      .next ((((s.countRequest v).clearFlags (8 * cluster + position) engine value raised).answerOk v).raise
        (8 * cluster + position) engine raised) := by
  have hu : u64Ok value = true := decide_eq_true hv
  have hw := writeNumber_ok (act := fun s => (rcOk, s.clearFlags (8 * cluster + position) engine value raised)) h rfl
  unfold execEngineFlagsClear
  dsimp only
  rw [hw]
  exact onUnit_runs (by simp [clusterOk, positionOk, engineOk, hc, hp, he, hu]) (by simp)

/-- A granted CLEAR_ALL_FLAGS clears every engine's flags, is answered, and what the hardware raises follows. -/
theorem execClearAllFlags_grants {s : State} {v : Via} {value : Nat} {raised : List (Nat × Nat)} (hv : value < 2 ^ 64)
    (hr : ∀ e ∈ raised, e.1 < 5120) (h : s.grantsNumber v 0xA181 2 1 value = true) :
    execClearAllFlags v value raised s =
      let hits := raised.foldl (fun n e => n + countBits 5 (value &&& e.2)) 0
      .next (raised.foldl (fun (t : State) e => t.raise (e.1 / 5) (e.1 % 5) e.2)
        ((((s.countRequest v).clearEveryFlag value).bumpBy Reg.clearCollisions hits).answerOk v)) := by
  have hu : u64Ok value = true := decide_eq_true hv
  have hw (hits : Nat) := writeNumber_ok
    (act := fun s => (rcOk, (s.clearEveryFlag value).bumpBy Reg.clearCollisions hits)) h rfl
  unfold execClearAllFlags
  dsimp only
  rw [hw]
  exact onUnit_runs (by simpa [hu] using hr) (by simp)

/-- Settles O32: what the granted write leaves, and then the flags that the hardware raises. -/
theorem engineFlagsCleared : Obligations.EngineFlagsCleared := by
  intro v value s hv
  refine ⟨fun cluster position engine raised hc hp he h => ?_, fun raised hr h => ?_⟩
  · rw [exec_engineFlagsClear, execEngineFlagsClear_grants hc hp he hv h, State.clearFlags_position hp]
    rfl
  · rw [exec_clearAllFlags, execClearAllFlags_grants hv hr h]
    rfl

end Sys2Proof.Machine

namespace Sys2Proof.Machine

/-! ### Descriptors and fills (R149, R345, R350) -/

section
variable {s : State} {q : Issue} {f : Fields} {batch : Option Nat}

/-- A tile of a slot is taken from the address that the instruction names. -/
theorem State.fillAddress_slot (h : ((s.arrayOf q.core q.queue).desc f.dst).slotKind = true) :
    s.fillAddress q f batch = (s.instrAddress q f (tileBytes f.fmt)).getD 0 := by
  unfold State.fillAddress
  rw [if_pos h]

/-- A shared tile is taken from the side of its window that holds the generation expected. -/
theorem State.fillAddress_shared (h : ((s.arrayOf q.core q.queue).desc f.dst).slotKind = false) :
    s.fillAddress q f batch = s.sideAddress ((s.instrAddress q f (tileBytes f.fmt)).getD 0)
      (s.expectedGeneration ((s.arrayOf q.core q.queue).desc f.dst) batch) := by
  unfold State.fillAddress
  rw [if_neg (by simp [h])]

/-- A fill of a slot's tile expects no generation. -/
theorem State.startFill_slot {a : Nat} {err : Errors}
    (h : ((s.arrayOf q.core q.queue).desc f.dst).slotKind = true) :
    s.startFill q f a batch err =
      let x := s.arrayOf q.core q.queue
      let g : Fill := {
        address := a, fmt := f.fmt, shared := false, expected := none, batch := batch,
        bytes := received (s.load a (tileBytes f.fmt)) err, front := none, arrived := false, verdict := none,
        flush := false }
      s.setArrayOf q.core q.queue (ArrayState.bind { x with fills := x.fills ++ [g] }) := by
  unfold State.startFill
  dsimp only
  rw [h]
  rfl

/-- A fill of a shared tile expects the generation of its descriptor, of its batch, or in force. -/
theorem State.startFill_shared {a : Nat} {err : Errors}
    (h : ((s.arrayOf q.core q.queue).desc f.dst).slotKind = false) :
    s.startFill q f a batch err =
      let x := s.arrayOf q.core q.queue
      let g : Fill := {
        address := a, fmt := f.fmt, shared := true, expected := s.expectedGeneration (x.desc f.dst) batch,
        batch := batch, bytes := received (s.load a (tileBytes f.fmt)) err, front := none, arrived := false,
        verdict := none, flush := false }
      s.setArrayOf q.core q.queue (ArrayState.bind { x with fills := x.fills ++ [g] }) := by
  unfold State.startFill
  dsimp only
  rw [h]
  rfl

end

/-- Settles O17: TSET's one update, and the fill that TFILL starts, by the kind of its descriptor. -/
theorem tilesEnterArrays : Obligations.TilesEnterArrays := by
  intro q f batch err s
  refine ⟨?_, ?_⟩
  · intro sh g u a h
    rw [exec_tset]
    exact instr_runs_to h rfl (by simp [u])
  · intro sh g u a d at_ n h
    rw [exec_tfill]
    constructor
    · intro hd x
      refine instr_runs_to h ?_ (by simp [u])
      dsimp only
      rw [State.fillAddress_slot hd, State.startFill_slot hd]
    · intro hd e at2 x
      refine instr_runs_to h ?_ (by simp [u])
      dsimp only
      rw [State.fillAddress_shared hd, State.startFill_shared hd]

/-! ### Reads of a vat (R124, R151) -/

/-- Settles O19: the row leaves for the hod, and Flags [35] decides whether it stays opened. -/
theorem vatRowsRead : Obligations.VatRowsRead := by
  intro q f s sh hsh h g u a e
  subst hsh
  rw [exec_vrd]
  constructor
  · intro h3
    refine instr_runs_to h ?_ (by simp [u])
    dsimp only
    rw [if_neg (ne_true_of_eq_false h3)]
  · intro h3 v
    refine instr_runs_to h ?_ (by simp [v, u])
    dsimp only
    rw [if_pos h3]

/-! ### The five checks of a tile (R119, R120, R121) -/

section
variable {s : State} {core eng : Nat} {g : Fill} {x : Front}

/-- Check 2: another format than the pass's, or reserved bits that are set. -/
theorem State.judgeRest_format (h : tileFormat g.bytes ≠ x.wt ∨ tileReserved g.bytes ≠ 0) :
    s.judgeRest core eng g x = (false, s.formatFault core eng 1 (s.servedSlots g)) := by
  unfold State.judgeRest
  rw [if_pos h]

section
variable (hf : tileFormat g.bytes = x.wt) (hr : tileReserved g.bytes = 0)
include hf hr

/-- Check 3: a PAL4 tile with an invalid codebook. -/
theorem State.judgeRest_codebook (hc : x.wt = 13 ∧ codebookOk (tileStrip 13 g.bytes) = false) :
    s.judgeRest core eng g x = (false, s.formatFault core eng 2 (s.servedSlots g)) := by
  unfold State.judgeRest
  rw [if_neg (by simp [hf, hr]), if_pos hc]

/-- Check 4: a tint that the slot does not hold, or an owned tile where a shared one is expected. -/
theorem State.judgeRest_tint (hc : ¬(x.wt = 13 ∧ codebookOk (tileStrip 13 g.bytes) = false))
    (ht : s.tintOk x g.bytes = false) : s.judgeRest core eng g x = (false, s.tintMismatch core eng g x) := by
  unfold State.judgeRest
  rw [if_neg (by simp [hf, hr]), if_neg hc, if_pos ht]

/-- Check 5: a shared tile of another generation than its front expects. -/
theorem State.judgeRest_generation (hc : ¬(x.wt = 13 ∧ codebookOk (tileStrip 13 g.bytes) = false))
    (ht : s.tintOk x g.bytes = true) (hg : generationOk x g.bytes = false) :
    s.judgeRest core eng g x = (false, s.generationMismatch core eng g x) := by
  unfold State.judgeRest
  rw [if_neg (by simp [hf, hr]), if_neg hc, if_neg (by simp [ht]), if_pos hg]

end

section
variable (hw : s.awaits (.feeder core eng) = false)
  (h : ((s.arrayOf core eng).fills.find? fun g => g.verdict.isNone) = some g)
include hw h

/-- A verdict before its front waits for the front (assumption 23). -/
theorem State.judgeFill_waits (hx : g.front = none) : s.judgeFill core eng = s := by
  unfold State.judgeFill
  rw [if_neg (by simp [hw]), h]
  dsimp only
  rw [hx]

section
variable (hx : g.front = some x) (ha : g.arrived = true)
include hx ha

/-- Once its verdict is due and its front has issued, a tile meets the slot or generation of its front, then check 1,
then the others. -/
theorem State.judgeFill_due :
    s.judgeFill core eng =
      if s.unchecked x then (s.countUnchecked x).judged core eng false
      else if tileChecks g.bytes then (s.judgeRest core eng g x).2.judged core eng (s.judgeRest core eng g x).1
      else s.checkFailed core eng g := by
  unfold State.judgeFill
  rw [if_neg (by simp [hw]), h]
  dsimp only
  rw [hx]
  exact if_neg (by simp [ha])

/-- A pass that is not to read its tile gets no data, whatever the tile holds. -/
theorem State.judgeFill_unchecked (hu : s.unchecked x = true) :
    s.judgeFill core eng = (s.countUnchecked x).judged core eng false := by
  rw [State.judgeFill_due hw h hx ha, if_pos hu]

/-- Check 1: a tile whose Check does not match its bytes. -/
theorem State.judgeFill_checkFailed (hu : s.unchecked x = false) (hc : tileChecks g.bytes = false) :
    s.judgeFill core eng = s.checkFailed core eng g := by
  rw [State.judgeFill_due hw h hx ha, if_neg (ne_true_of_eq_false hu), if_neg (ne_true_of_eq_false hc)]

end

end

/-- A course without plan work takes no verdict. -/
theorem execTileVerdict_idle (hc : core < 1024) (he : eng < 4) (hq : hasQueue core eng = true)
    (hw : s.prog.works = false) : execTileVerdict core eng s = .next s := by
  unfold execTileVerdict
  rw [onUnit_runs (by simp [coreOk, hc, he, hq]) (State.tileVerdict_pending s core eng)]
  unfold State.tileVerdict
  rw [if_neg (by simp [hw])]

end

/-- Settles O20: the verdict on the oldest unjudged tile, check by check. -/
theorem tileVerdicts : Obligations.TileVerdicts := by
  intro core eng s hc he hq
  refine ⟨fun hw => execTileVerdict_idle hc he hq hw, fun hw => ?_⟩
  intro u ha g hg
  have judges {t : State} (h : u.judgeFill core eng = t) : exec (.tileVerdict core eng) s = .next t := by
    rw [exec_tileVerdict, execTileVerdict_works hc he hq hw, ← h]
  refine ⟨fun hn => judges (State.judgeFill_waits ha hg hn), fun x hx hr => ?_⟩
  refine ⟨fun hu => judges (State.judgeFill_unchecked ha hg hx hr hu), fun hu => ?_⟩
  refine ⟨fun hk => judges (State.judgeFill_checkFailed ha hg hx hr hu (beq_eq_false_iff_ne.mpr hk)), fun hk => ?_⟩
  have rest {v : Bool} {t : State} (h : u.judgeRest core eng g x = (v, t)) :
      exec (.tileVerdict core eng) s = .next (t.judged core eng v) :=
    judges (by rw [State.judgeFill_checks ha hg hx hr hu (beq_iff_eq.mpr hk), h])
  refine ⟨fun hf => rest (State.judgeRest_format hf), fun hf hz => ?_⟩
  refine ⟨fun hb => rest (State.judgeRest_codebook hf hz hb), fun hb => ?_⟩
  refine ⟨fun ht => rest (State.judgeRest_tint hf hz hb ht),
    fun ht hge => rest (State.judgeRest_generation hf hz hb ht hge),
    fun ht hge => rest (State.judgeRest_passes hf hz (fun h => ?_) ht hge)⟩
  simpa [h] using hb

/-! ### The end of a suspension (R121, R221) -/

section
variable {s : State} {x : Suspension}

theorem State.endSuspension_none (h : s.prog.suspension = none) : s.endSuspension = s := by
  unfold State.endSuspension
  rw [h]

/-- With nothing awaited the plan resumes. -/
theorem State.endSuspension_resumes (h : s.prog.suspension = some x) (hx : x.waiting = [] ∧ x.edges = []) :
    s.endSuspension = s.mapProg fun p => { p with suspension := none, resumed := true } := by
  unfold State.endSuspension
  rw [h]
  dsimp only
  rw [if_pos (by simp [hx])]

/-- A suspension that awaits something takes another course. -/
theorem State.endSuspension_goesOn (h : s.prog.suspension = some x) (hx : ¬(x.waiting = [] ∧ x.edges = [])) :
    s.endSuspension =
      (if x.courses = 1 then s.bumpBy Reg.rereadOverruns x.waiting.length else s).mapProg fun p =>
        { p with suspension := some { x with courses := x.courses + 1 } } := by
  unfold State.endSuspension
  rw [h]
  dsimp only
  rw [if_neg (by simpa using hx)]

end

/-- Settles O21: no suspension, one that awaits nothing, one that still waits. -/
theorem suspensionsEnd : Obligations.SuspensionsEnd := by
  intro s
  have ends : exec .suspensionEnd s = .next s.endSuspension := done_eq (State.endSuspension_pending s)
  rw [ends]
  refine ⟨fun h => by rw [State.endSuspension_none h], fun x h => ⟨fun hx => ?_, fun hx => ?_⟩⟩
  · rw [State.endSuspension_resumes h hx]
    rfl
  · rw [State.endSuspension_goesOn h hx]
    rfl

/-! ### Tiles on a route (R158, R193, R351) -/

section
variable {s : State} {core n g fmt a x : Nat} {err : Errors} {q : Issue} {e : Bytes} {ecc : Ecc}

/-- An address entry that names no address is not read. -/
theorem State.sndtEntry_noAddress (h : s.shortAddress q.core (field e 0 4) (tileBytes fmt) = none) :
    s.sndtEntry q n g fmt err ecc e = s := by
  unfold State.sndtEntry
  rw [h]
  rfl

/-- An address entry that names no whole tile of a window is not read (assumption 27). -/
theorem State.sndtEntry_noTile (h : s.shortAddress q.core (field e 0 4) (tileBytes fmt) = some x)
    (ht : s.tileAt fmt (s.entryTile x (byteAt e 4)) = false) : s.sndtEntry q n g fmt err ecc e = s := by
  unfold State.sndtEntry
  rw [h]
  exact if_neg (by simp [ht])

/-- The tile that an address entry names is sent, and what the code found on the read is counted. -/
theorem State.sndtEntry_tile (h : s.shortAddress q.core (field e 0 4) (tileBytes fmt) = some x)
    (ht : s.tileAt fmt (s.entryTile x (byteAt e 4)) = true) :
    s.sndtEntry q n g fmt err ecc e =
      (s.sndt q.core n g fmt (s.entryTile x (byteAt e 4)) err).eccFound (s.entryTile x (byteAt e 4))
        (tileBytes fmt) ecc 0 := by
  unfold State.sndtEntry
  rw [h]
  exact if_pos ht

/-- A tile of a slot without a Stamped tint is not read. -/
theorem State.sndt_refuses {slot : Nat} (h : ((s.slotAt a).find? fun i => !s.stamped i) = some slot) :
    s.sndt core n g fmt a err = s.refuseRead slot := by
  unfold State.sndt
  rw [h]

section
variable (h : ((s.slotAt a).find? fun i => !s.stamped i) = none)
include h

/-- A tile whose Check fails is awaited by the N queue. -/
theorem State.sndt_suspends (hk : tileChecks (received (s.load a (tileBytes fmt)) err) = false) :
    s.sndt core n g fmt a err = s.suspendFor {
      consumer := .nQueue core, address := a, fmt := fmt, dest := n * 2 ^ 25 + g, failed := false } := by
  unfold State.sndt
  rw [h]
  exact if_neg (by simp [hk])

/-- A tile whose Check matches goes on to check 2. -/
theorem State.sndt_checks (hk : tileChecks (received (s.load a (tileBytes fmt)) err) = true) :
    s.sndt core n g fmt a err =
      s.sendTile core n g fmt (received (s.load a (tileBytes fmt)) err) (s.slotAt a) := by
  unfold State.sndt
  rw [h]
  exact if_pos hk

end

variable {t : Bytes} {slots : List Nat}

/-- Check 2 on a tile to send; the fault names the N queue's number as its engine (assumption 23). -/
theorem State.sendTile_format (h : tileFormat t ≠ fmt ∨ tileReserved t ≠ 0) :
    s.sendTile core n g fmt t slots = s.formatFault core 6 1 slots := by
  unfold State.sendTile
  rw [if_pos h]

theorem State.sendTile_sends {r : Route} (hf : tileFormat t = fmt) (hz : tileReserved t = 0)
    (hr : s.route n = some r) :
    s.sendTile core n g fmt t slots = s.sendRoute core n r false g (tileGranules fmt t) := by
  unfold State.sendTile
  rw [if_neg (by simp [hf, hz]), hr]

end

/-- SNDT pops its address entry and sends the tile that the entry names. -/
theorem execSndt_runs {q : Issue} {f : Fields} {err : Errors} {s : State} :
    let sh := nShape (List.range 15) .unused .hod 8 allImm
    let g := s.fieldsOf q f sh
    let u := s.issue q 0x51
    let v := u.popped q.core g.srcB 1
    s.runs q f sh (fun g => (s.route (sendRouteNo g)).isSome) = true → u.holds q.core g.srcB 1 = true →
    execSndt q f err s = .next ((v.sndtEntry q (sendRouteNo g) (v.sendGranule q g) g.fmt err q.ecc
      ((u.front q.core g.srcB 1).getD 0 [])).advance q) := by
  intro sh g u v h hb
  exact instr_runs_to h (popping_holds hb) (by simp [v, u])

/-- Settles O28: what the entry names, then the tile's slot and its checks. -/
theorem tilesAreSentWhole : Obligations.TilesAreSentWhole := by
  intro q f err s r x sh g u v e n gr a t done h hb
  rw [exec_sndt, execSndt_runs h hb]
  refine ⟨fun hx => by rw [State.sndtEntry_noAddress hx], fun hx ht => by rw [State.sndtEntry_noTile hx ht],
    fun hx ht hr => ?_⟩
  rw [State.sndtEntry_tile hx ht]
  refine ⟨fun slot hs => by rw [State.sndt_refuses hs],
    fun hs => ⟨fun hk => ?_, fun hk hf => ?_, fun hk hf hz => ?_⟩⟩
  · rw [State.sndt_suspends hs hk]
  · rw [State.sndt_checks hs hk, State.sendTile_format hf]
  · rw [State.sndt_checks hs hk, State.sendTile_sends hf hz hr]

/-! ### Bank swaps and quoin courses (R126, R163, R170, R286, R292) -/

section
variable {s : State}

/-- SwapArm arms a loaded shadow. -/
theorem State.armSwap_arms (h : s.reg Reg.shadowState = 2) (hl : s.limewash = false) :
    s.armSwap = (rcOk, s.setReg Reg.shadowState 3) := by
  unfold State.armSwap
  rw [if_neg (by simp [h, hl])]

theorem State.armSwap_refuses (h : s.reg Reg.shadowState ≠ 2 ∨ s.limewash = true) :
    s.armSwap = (rcStateRefused, s) := by
  unfold State.armSwap
  rw [if_pos h]

theorem State.swapBanks_notArmed (h : s.reg Reg.shadowState ≠ 3) : s.swapBanks = s := by
  unfold State.swapBanks
  rw [if_pos h]

section
variable (h : s.reg Reg.shadowState = 3)
include h

/-- With no plan running an armed swap turns the banks (assumption 37). -/
theorem State.swapBanks_idle (hr : s.prog.running = false) : s.swapBanks = s.flipBanks := by
  unfold State.swapBanks
  rw [if_neg (by simp [h]), if_neg (by simp [hr])]

/-- With a plan running an armed swap waits for a quoin course. -/
theorem State.swapBanks_waits (hr : s.prog.running = true) (hq : s.atQuoinCourse = false) : s.swapBanks = s := by
  unfold State.swapBanks
  rw [if_neg (by simp [h]), if_pos hr, if_neg (by simp [hq])]

/-- At a quoin course a loaded successor takes over. -/
theorem State.swapBanks_takesOver {p : Plan} (hr : s.prog.running = true) (hq : s.atQuoinCourse = true)
    (hp : s.flipBanks.plan.loaded = some p) : s.swapBanks = s.flipBanks.takeOverPlan p := by
  unfold State.swapBanks
  rw [if_neg (by simp [h]), if_pos hr, if_pos hq]
  dsimp only
  rw [hp]

end

theorem State.switchVariant_none (h : s.prog.variant = none) : s.switchVariant = s := by
  unfold State.switchVariant
  rw [h]

section
variable {n k : Nat} (h : s.prog.variant = some (n, k))
include h

/-- An ordered switch waits for its course. -/
theorem State.switchVariant_early (hk : s.prog.course < k) : s.switchVariant = s := by
  unfold State.switchVariant
  rw [h]
  exact if_pos hk

/-- An ordered switch whose course has come, to another variant that the plan defines, takes effect. -/
theorem State.switchVariant_switches (hk : k ≤ s.prog.course) :
    let u := s.mapProg fun p => { p with variant := none }
    let w := ((u.setReg Reg.activeVariant n).bump Reg.variantSwitches).setReg Reg.lastSwitchCourse u.prog.course
    n ≠ u.reg Reg.activeVariant → (u.nextPlan.bind fun p => p.variant n).isSome = true →
    s.switchVariant =
      w.notice Note.variantSwitched srcModule (u8 (u.reg Reg.activeVariant) ++ u8 n ++ u64 w.prog.course) := by
  intro u w hn hv
  unfold State.switchVariant
  rw [h]
  dsimp only
  rw [if_neg (Nat.not_lt.mpr hk), if_neg]
  rintro (hn' | hv')
  · exact hn hn'
  · rw [Option.isNone_iff_eq_none.mp hv'] at hv
    cases hv

end

theorem execBankSwap_next : execBankSwap s = .next s.swapBanks := done_eq (State.swapBanks_pending s)

/-- A quoin course takes the ordered switch and restarts the queues. -/
theorem execQuoinCourse_quoin (h : s.atQuoinCourse = true) :
    execQuoinCourse s = .next s.switchVariant.restartQueues := by
  have hq : s.quoin = s.switchVariant.restartQueues := if_pos h
  exact done_of_eq (State.quoin_pending s) hq

theorem execQuoinCourse_other (h : s.atQuoinCourse = false) : execQuoinCourse s = .next s := by
  have hq : s.quoin = s := if_neg (by simp [h])
  exact done_of_eq (State.quoin_pending s) hq

end

/-- Settles O45: what SwapArm answers, what an armed swap turns, and what a quoin course restarts. -/
theorem banksAndQuoinsTurn : Obligations.BanksAndQuoinsTurn := by
  intro v s
  refine ⟨fun h => ?_, ?_, fun hq => ?_, fun hq => execQuoinCourse_other hq⟩
  · intro u
    have arms {rc : Nat} {t : State} (ha : u.armSwap = (rc, t)) :
        exec (.swapArm v 1) s = .next (t.respond v 0x4101 3 2 rc []) :=
      done_writeNumber h ha State.armSwap_pending
    exact ⟨fun hs hl => arms (State.armSwap_arms hs hl), fun hs => arms (State.armSwap_refuses hs)⟩
  · intro b t
    have turned : s.flipBanks = t := rfl
    rw [exec_bankSwap, execBankSwap_next]
    refine ⟨fun h hr => ?_, fun h hr hq => ?_, fun h hr hq p hp => ?_, fun h => ?_⟩
    · rw [State.swapBanks_idle h hr, turned]
    · rw [State.swapBanks_waits h hr hq]
    · rw [State.swapBanks_takesOver h hr hq (turned ▸ hp), turned]
    · rw [State.swapBanks_notArmed h]
  · rw [exec_quoinCourse, execQuoinCourse_quoin hq]
    refine ⟨fun h => ?_, fun n k h hk => ?_, fun n k h hk => ?_⟩
    · rw [State.switchVariant_none h]
    · rw [State.switchVariant_early h hk]
    · intro u old w hn hv
      rw [State.switchVariant_switches h hk hn hv]
      rfl

end Sys2Proof.Machine

namespace Sys2Proof.Machine

/-! ### What a move leaves of the stores (R155, R194) -/

@[simp] theorem State.popped_stores (s : State) (core h n : Nat) :
    (s.popped core h n).mem = s.mem ∧ (s.popped core h n).staging = s.staging := ⟨rfl, rfl⟩

@[simp] theorem State.popped_prog (s : State) (core h n : Nat) : (s.popped core h n).prog = s.prog := rfl

@[simp] theorem State.store_mem (s : State) (a : Nat) (bs : Bytes) : (s.store a bs).mem = s.mem.write a bs := rfl

@[simp] theorem State.accumulate_mem (s : State) (fmt a : Nat) (bs : Bytes) :
    (s.accumulate fmt a bs).mem = s.mem.write a (accBytes fmt (s.load a bs.length) bs) := by
  unfold State.accumulate
  simp

@[simp] theorem State.accumulate_prog (s : State) (fmt a : Nat) (bs : Bytes) : (s.accumulate fmt a bs).prog = s.prog := by
  unfold State.accumulate
  dsimp only
  split <;> simp

/-- An instruction on a queue that is not held leaves of the stores what its effect leaves. -/
theorem instr_stores_eq {s t : State} {m : String} {op : Nat} {q : Issue} {f : Fields} {sh : Shape} {ok : Fields → Bool}
    {eff : Fields → State → State} (hq : s.queueHeld q = false) (h : s.instr m op q f sh ok eff = .next t) :
    let u := eff (s.fieldsOf q f sh) (s.issue q op)
    t.mem = u.mem ∧ t.staging = u.staging := by
  unfold State.instr at h
  dsimp only at h
  split at h
  · rw [if_neg (by simp [hq])] at h
    rw [done_next h]
    exact State.advance_stores _ q
  · cases h

section
variable {s t : State} {a : Nat} {bs : Bytes}

/-- A run of bytes written leaves the bytes outside it, and reads back from canonical stores. -/
theorem State.written_reads (h : t.mem = s.mem.write a bs ∧ t.staging = s.staging) :
    (∀ c, c < a ∨ a + bs.length ≤ c → t.mem.byte c = s.mem.byte c) ∧
      (s.mem.wf = true → ∀ i, i < bs.length → t.mem.byte (a + i) = bs.getD i 0) ∧ t.staging = s.staging := by
  obtain ⟨hm, hs⟩ := h
  rw [hm]
  exact ⟨fun _ hc => Memory.byte_write_other hc, fun hw _ hi => Memory.byte_write hw hi, hs⟩

/-- An accumulation leaves the bytes outside those that are added. -/
theorem State.accumulated_reads {fmt : Nat} {old : Bytes}
    (h : t.mem = s.mem.write a (accBytes fmt old bs) ∧ t.staging = s.staging) :
    (∀ c, c < a ∨ a + bs.length ≤ c → t.mem.byte c = s.mem.byte c) ∧ t.staging = s.staging := by
  obtain ⟨hm, hs⟩ := h
  have hl := accBytes_length fmt old bs
  rw [hm]
  exact ⟨fun _ hc => Memory.byte_write_other (by omega), hs⟩

end

section
variable {s t : State} {q : Issue} {f : Fields} (hq : s.queueHeld q = false)
include hq

/-- ST writes its vectors at its address. -/
theorem execSt_stores :
    let g := s.fieldsOf q f (mShape moveFmts .unused .hod .num 15 allImm)
    let u := s.issue q 0x41
    let k := entriesOf g.fmt (g.srcB + 1)
    u.holds q.core g.srcA k = true → execSt q f s = .next t →
    t.mem = s.mem.write (u.moveAt q g (moveBytes g))
      ((fromEntries g.fmt (g.srcB + 1) (u.front q.core g.srcA k)).flatMap id) ∧ t.staging = s.staging := by
  intro g u k hk h
  have hs := instr_stores_eq hq h
  dsimp only at hs
  rw [popping_holds hk] at hs
  simpa [g, u] using hs

/-- STA adds its vectors to what stands at its address; with a plan running, what the memory code finds changes no
byte. -/
theorem execSta_stores :
    let g := s.fieldsOf q f (mShape accFmts .unused .hod .num 15 allImm)
    let u := s.issue q 0x42
    let k := entriesOf g.fmt (g.srcB + 1)
    let a := u.moveAt q g (moveBytes g)
    let bs := (fromEntries g.fmt (g.srcB + 1) (u.front q.core g.srcA k)).flatMap id
    u.holds q.core g.srcA k = true → execSta q f s = .next t →
    t.mem = s.mem.write a (accBytes g.fmt (s.load a bs.length) bs) ∧ t.staging = s.staging := by
  intro g u k a bs hk h
  have hs := instr_stores_eq hq h
  dsimp only at hs
  rw [popping_holds hk] at hs
  have hr : s.prog.running = true := State.running_of_issues (State.issues_of_runs hq)
  simpa [g, u, a, bs, State.eccFound_mem_running, hr, State.load] using hs

/-- STI writes its vector at the address that its index entry selects. -/
theorem execSti_stores :
    let g := s.fieldsOf q f (mShape moveFmts .num .hod .hod 0 allImm)
    let u := s.issue q 0x44
    let k := entriesOf g.fmt 1
    let v := u.popped q.core g.srcA k
    u.holds q.core g.srcA k = true → v.holds q.core g.srcB 1 = true → execSti q f s = .next t →
    t.mem = s.mem.write ((v.popped q.core g.srcB 1).indexedAt q g g.dst (v.front q.core g.srcB 1))
      (vecAt g.fmt (u.front q.core g.srcA k) 0) ∧ t.staging = s.staging := by
  intro g u k v hk hx h
  have hs := instr_stores_eq hq h
  dsimp only at hs
  rw [popping_holds hk, popping_holds hx] at hs
  simpa [g, u, v] using hs

end

/-- Settles O23: each answers the stores with one run of bytes written at its address. -/
theorem storesReachTheirBytesOnly : Obligations.StoresReachTheirBytesOnly := by
  intro q f s t
  refine ⟨?_, ?_, ?_⟩
  · intro sh g u k a bs hq hk h
    exact State.written_reads (execSt_stores hq hk h)
  · intro sh g u k a bs hq hk h
    exact State.accumulated_reads (execSta_stores hq hk h)
  · intro sh g u k v a bs hq hk hx h
    exact State.written_reads (execSti_stores hq hk hx h)

/-! ### Common instructions and calls (R135, R146 to R148, R165) -/

/-- Settles O7: each has its one effect, and the queue advances. -/
theorem queueInstructionsRun : Obligations.QueueInstructionsRun := by
  intro q f s
  refine ⟨fun h => ?_, fun h => ?_, fun h => ?_, fun h => ?_, fun h => ?_, fun h => ?_⟩
  · rw [exec_nop]
    exact instr_runs h (by simp)
  · rw [exec_wait]
    exact instr_runs h (by simp)
  · rw [exec_plumb]
    exact instr_runs h (by simp)
  · rw [exec_fmode]
    refine instr_runs h ?_
    dsimp only
    split <;> simp
  · rw [exec_ret]
    exact instr_runs h (by simp)
  · rw [exec_endBundle]
    exact instr_runs h (by simp)

section
variable {s : State} {q : Issue} {g : Fields}

/-- Routine 0 computes nothing. -/
theorem State.call_zero (h : callNumber g = 0) :
    s.call q g =
      let u := s.bump (Reg.calls (coreCluster q.core))
      u.occupy q (u.callCycles 0 (callWord g)) := by
  unfold State.call
  dsimp only
  rw [h]
  exact if_pos rfl

/-- A routine above those that R168 fixes opens a frame, whether the manifest describes it or not. -/
theorem State.bookRoutine_frame {n w c : Nat} (h : 0x100 ≤ n) : s.bookRoutine q g n w c = s.openFrame q g n w := by
  unfold State.bookRoutine
  split
  · rw [if_neg, if_neg, if_neg, if_neg, if_neg] <;> omega
  · rfl

theorem State.call_frame (h : 0x100 ≤ callNumber g) :
    s.call q g = (s.bump (Reg.calls (coreCluster q.core))).openFrame q g (callNumber g) (callWord g) := by
  unfold State.call
  dsimp only
  rw [if_neg, if_neg, if_neg, if_neg, if_neg, if_neg, if_neg, if_neg, if_neg, State.bookRoutine_frame h] <;> omega

end

/-- Settles O8: the branches of a call for routine 0 and for the routines from 0x100 on. -/
theorem routineCalls : Obligations.RoutineCalls := by
  intro q f s sh hsh h g u
  subst hsh
  rw [exec_callRoutine]
  exact ⟨fun hn => instr_runs_to h (State.call_zero hn) (by simp [u]),
    fun hn => instr_runs_to h (State.call_frame hn) (by simp [u])⟩

/-! ### Bundles and plumbs (R134, R146, R164) -/

section
variable {s : State} {core : Nat}

/-- The oldest released bundle of an idle queue starts. -/
theorem State.startBundle_starts {q : Issue} {b : Nat} {r : List Nat} (hb : (s.queueOf q).bundle = none)
    (hr : (s.queueOf q).released = b :: r) :
    s.startBundle q = s.setQueueOf q { s.queueOf q with bundle := some b, released := r, index := b } := by
  unfold State.startBundle
  dsimp only
  rw [hb, hr]

/-- A search for a value finds that of the first element that has one. -/
theorem findSome_of_find {α β : Type} {l : List α} {p : α → Bool} {f : α → Option β} {a : α}
    (hp : ∀ x, (f x).isSome = p x) (h : l.find? p = some a) : l.findSome? f = f a := by
  obtain ⟨ha, l₁, l₂, rfl, hn⟩ := List.find?_eq_some_iff_append.mp h
  rw [List.findSome?_append, List.findSome?_eq_none_iff.mpr, Option.none_or, List.findSome?_cons]
  · rw [← hp] at ha
    obtain ⟨b, hb⟩ := Option.isSome_iff_exists.mp ha
    rw [hb]
  · intro x hx
    have := hn x hx
    rw [← hp] at this
    simpa using this

/-- The queues of a plumb whose mark and mask all of them hold go on in the next cycle, and their cycles count. -/
theorem State.releasePlumb_releases {mark cycle i mask : Nat}
    (h : allQueues.find? (fun j => ((s.core core).queue j).plumb.any fun p =>
      p.1 == mark && (s.core core).arrived mark p.2) = some i)
    (hi : ((s.core core).queue i).plumb = some (mark, mask)) :
    s.releasePlumb core mark cycle =
      let position := s.prog.course * 512 + cycle
      (s.setCore core ((s.core core).release mask position)).bumpBy (Reg.plumbHeldCycles (coreCluster core))
        ((s.core core).heldCycles mask position) := by
  have ha := List.find?_some h
  rw [hi, Option.any_some] at ha
  unfold State.releasePlumb
  dsimp only
  rw [findSome_of_find (fun x => Option.isSome_filter) h, hi, Option.filter_some, if_pos ha]

end

/-- Settles O9: the release list, the start of its oldest bundle, and the queues of a plumb's mask. -/
theorem bundlesAndPlumbs : Obligations.BundlesAndPlumbs := by
  refine ⟨fun q f s h => ?_, fun core queue b r s hc hq hi hb hr => ?_,
    fun core mark cycle i mask s hc hm hy hi hf hp => ?_⟩
  · rw [exec_rel]
    exact instr_runs h (by simp)
  · rw [exec_bundleStart]
    unfold execBundleStart
    rw [if_pos hi, State.startBundle_starts hb hr]
    exact onUnit_runs (by simp [coreOk, hc, hq]) (by simp)
  · rw [exec_plumbRelease]
    unfold execPlumbRelease
    rw [if_pos hi, State.releasePlumb_releases hf hp]
    exact onUnit_runs (by simp only [coreOk, u16Ok, planCycleOk, hc, hm, hy]; decide) (by simp)

/-! ### The sequencer (R160 to R164, R145, R258) -/

@[simp] theorem State.issue_prog (s : State) (q : Issue) (op : Nat) : (s.issue q op).prog = s.prog := by simp

@[simp] theorem State.issue_core (s : State) (q : Issue) (op c : Nat) : (s.issue q op).core c = s.core c := by
  unfold State.core
  simp

/-- Settles O10: each is one change of the core's sequencer or of a queue, LP and BK by a condition. -/
theorem sequencerCounts : Obligations.SequencerCounts := by
  intro q f s
  refine ⟨fun h => ?_, fun h => ?_, fun h => ?_, fun h => ?_, fun h => ?_, fun h => ?_, fun h => ?_⟩
  · rw [exec_setCount]
    exact instr_runs h (by simp)
  · rw [exec_addc]
    exact instr_runs h (by simp)
  · rw [exec_kset]
    exact instr_runs h (by simp)
  · intro g u n i
    rw [exec_lp]
    exact ⟨fun hn => instr_runs_to h (if_pos hn) (by simp [u]),
      fun hn hg => instr_runs_to h (if_neg (not_or.mpr ⟨hn, hg⟩)) (by simp [u])⟩
  · intro g u
    rw [exec_bk]
    exact ⟨fun hk => instr_runs_to h (if_pos hk) (by simp [u]), fun hk => instr_runs_to h (if_neg hk) (by simp [u])⟩
  · rw [exec_wcrs]
    exact instr_runs_to h (by rw [State.issue_prog]) (by simp)
  · rw [exec_ao]
    exact instr_runs h (by simp)

/-- With a wait slot free the lowest is filled, and the need is an input due in the present plan course. -/
theorem State.waitFor_fills {s : State} {core k : Nat} {w : WaitSlot} {n : Need}
    (h : (s.core core).seq.freeWait = some k) :
    s.waitFor core w n = (s.mapSeq core fun x => { x with waits := Map.put x.waits k w }).mapProg fun p =>
      { p with inputs := p.inputs ++ [⟨n, p.course, 1⟩] } := by
  unfold State.waitFor
  rw [h]

/-- The loader's last condition holds of an instruction that its queue runs. -/
theorem State.ok_of_runs {s : State} {q : Issue} {f : Fields} {sh : Shape} {ok : Fields → Bool}
    (h : s.runs q f sh ok = true) : ok (s.fieldsOf q f sh) = true := by
  unfold State.runs at h
  simp only [Bool.and_eq_true] at h
  obtain ⟨⟨-, hok⟩, -⟩ := h
  exact hok

/-- Settles O11: both fill the lowest free wait slot; TWAIT marks it in the tie first. -/
theorem sequencerWaits : Obligations.SequencerWaits := by
  intro q f s
  have free (op : Nat) (h : (s.core q.core).seq.freeWait.isSome = true) :
      ((s.issue q op).core q.core).seq.freeWait = some ((s.core q.core).seq.freeWait.getD 0) := by
    obtain ⟨k, hk⟩ := Option.isSome_iff_exists.mp h
    rw [State.issue_core, hk, Option.getD_some]
  refine ⟨fun h => ?_, fun h => ?_⟩
  · intro k g u v t
    have hk := free 0x68 (Bool.and_eq_true_iff.mp (State.ok_of_runs h)).2
    rw [exec_twait]
    refine instr_runs_to h ?_ (by simp [u])
    dsimp only
    rw [hk]
    exact State.waitFor_fills hk
  · intro k g
    rw [exec_lvw]
    exact instr_runs_to h (State.waitFor_fills (free 0x69 (State.ok_of_runs h))) (by simp)

/-! ### Writes into tiles (R156, R191, R193) -/

section
variable {s : State} {q : Issue} {row : Bool} {fmt slot : Nat} {ecc : Ecc} {data entry : Bytes}

/-- A write into a tile of a slot that is not Stamped is counted, and nothing is written. -/
theorem State.tileWrite_idle (h : s.stamped slot = false) :
    s.tileWrite q row fmt slot ecc data entry = s.bump (Reg.idleSlotWrites (coreCluster q.core)) := by
  unfold State.tileWrite
  exact if_pos h

section
variable (h : s.stamped slot = true)
include h

/-- An entry that names no address is refused. -/
theorem State.tileWrite_noAddress (ha : s.shortAddress q.core (field entry 0 4) (tileBytes fmt) = none) :
    s.tileWrite q row fmt slot ecc data entry =
      (s.bump (Reg.kvWritesRefused (coreCluster q.core))).abortSlot whyTint s.prog.course slot := by
  unfold State.tileWrite
  dsimp only
  rw [if_neg (by simp [h]), ha]

variable {a : Nat} (ha : s.shortAddress q.core (field entry 0 4) (tileBytes fmt) = some a)
include ha

/-- Once what the code found in the tile has taken effect, the write is carried out and mirrored, or refused. -/
theorem State.tileWrite_address :
    s.tileWrite q row fmt slot ecc data entry =
      let x := s.eccFound a (tileBytes fmt) ecc 0
      if x.kvChecks slot (x.slot slot).tint fmt a then
        (x.kvWrite row fmt (field entry 4 2) a data).mirrorSlot 3 slot
          (u8 (if row then 0x46 else 0x45) ++ u8 fmt ++ u16 (field entry 4 2) ++ u64 a ++ data)
      else (x.bump (Reg.kvWritesRefused (coreCluster q.core))).abortSlot whyTint x.prog.course slot := by
  unfold State.tileWrite
  dsimp only
  rw [if_neg (by simp [h]), ha]

end

/-- WCOL pops one vector and one address entry, and WROW four vectors and one; both are one write into a tile. -/
theorem execTileWrite_runs {f : Fields} :
    let sh := mShape (if row then rowFmts else colFmts) .unused .hod .hod 0 0xFFF
    let g := s.fieldsOf q f sh
    let u := s.issue q (if row then 0x46 else 0x45)
    let n := if row then 4 else 1
    let k := entriesOf g.fmt n
    let v := u.popped q.core g.srcA k
    let es := u.front q.core g.srcA k
    s.runs q f sh anyFields = true → u.holds q.core g.srcA k = true → v.holds q.core g.srcB 1 = true →
    exec (if row then .wrow q f else .wcol q f) s =
      .next (((v.popped q.core g.srcB 1).tileWrite q row g.fmt g.imm q.ecc
        (if row then (fromEntries g.fmt 4 es).flatMap id else vecAt g.fmt es 0)
        ((v.front q.core g.srcB 1).getD 0 [])).advance q) := by
  cases row with
  | false =>
    simp only [Bool.false_eq_true, if_false, exec_wcol]
    intro h hA hB
    exact instr_runs_to h ((popping_holds hA).trans (popping_holds hB)) (by simp)
  | true =>
    simp only [if_true, exec_wrow]
    intro h hA hB
    exact instr_runs_to h ((popping_holds hA).trans (popping_holds hB)) (by simp)

end

/-- Settles O24: the slot, the address and the checks of one write into a tile. -/
theorem writesIntoTiles : Obligations.WritesIntoTiles := by
  intro row q f s sh g u n k v w es entry data i at_ h hA hB
  have hi : exec i s = .next ((w.tileWrite q row g.fmt g.imm q.ecc data entry).advance q) := execTileWrite_runs h hA hB
  rw [hi]
  refine ⟨fun hs => by rw [State.tileWrite_idle hs], fun hs => ⟨fun a ha => ?_, fun ha => ?_⟩⟩
  · intro x
    rw [State.tileWrite_address hs ha]
    exact ⟨fun hk => by rw [if_pos hk], fun hk => by rw [if_neg (ne_true_of_eq_false hk)]⟩
  · rw [State.tileWrite_noAddress hs ha]

/-! ### Fills and copies (R157, R192, R196 to R198) -/

section
variable {s : State} {core src dest granules : Nat} {err : Errors}
  (hs : addrSpace src = addrSpace dest) (hc : addrCore src = addrCore dest)
include hs hc

/-- A raw range is copied to a raw range of its store. -/
theorem State.copyRange_raw (ha : s.windowAt src = none) (hb : s.windowAt dest = none)
    (hr : s.raw src (granules * 64) = true) (hd : s.raw dest (granules * 64) = true) :
    s.copyRange core src dest granules err = s.store dest (s.load src (granules * 64)) := by
  unfold State.copyRange
  dsimp only
  rw [if_neg (by simp [hs, hc]), ha, hb]
  exact if_pos (by simp [hr, hd])

/-- Whole tiles go from a window to one of its format and kind in its store, unless the source is not to be read. -/
theorem State.copyRange_tiles {a b : Region} (ha : s.windowAt src = some a) (hb : s.windowAt dest = some b)
    (hf : a.fmt = b.fmt) (hk : a.kind = b.kind) (hr : a.holdsTiles src (granules * 64) = true)
    (hd : b.holdsTiles dest (granules * 64) = true) :
    s.copyRange core src dest granules err =
      match s.unstampedSlot a with
      | some slot => s.refuseRead slot
      | none => s.copyTiles core a.fmt src dest 0 (granules * 64 / tileStride a.fmt) err := by
  unfold State.copyRange
  dsimp only
  rw [if_neg (by simp [hs, hc]), ha, hb]
  exact if_pos ⟨hf, hk, hr, hd⟩

end

/-- FILL clears the whole tiles of an Owned window, and writes its constant over a raw range. -/
theorem execFill_runs {q : Issue} {f : Fields} {s : State} :
    let sh := mShape [] .unused .hod .num 0 allImm
    let g := s.fieldsOf q f sh
    let u := s.issue q 0x47
    let a := (u.fillAt q g).getD 0
    let v := u.popped q.core g.srcA 1
    s.runs q f sh (fun g => (s.fillAt q g).any fun a => s.fillOk a (fillGranules g * 64)) = true →
    u.holds q.core g.srcA 1 = true →
    execFill q f s = .next (State.advance
      (match v.windowAt a with
      | some r => v.clearTiles r.fmt (v.slot r.slot).tint a (fillGranules g * 64 / tileStride r.fmt)
      | none => v.store a ((List.replicate (fillGranules g * 16)
          (slice ((u.front q.core g.srcA 1).getD 0 []) 0 4)).flatMap id)) q) := by
  intro sh g u a v h hA
  refine instr_runs_to h (popping_holds hA) ?_
  split <;> simp [v, u]

/-- COPY pops its entry; a destination in the remote-tier space is none, and from any other source what the code found
takes effect after the copy. -/
theorem execCopy_runs {q : Issue} {f : Fields} {err : Errors} {s : State} :
    let sh := mShape [] .unused .hod .num 0 0
    let g := s.fieldsOf q f sh
    let u := s.issue q 0x48
    let v := u.popped q.core g.srcA 1
    let e := (u.front q.core g.srcA 1).getD 0 []
    s.runs q f sh anyFields = true → u.holds q.core g.srcA 1 = true →
    ∀ src dest, v.shortAddress q.core (field e 0 4) (fillGranules g * 64) = some src →
      v.shortAddress q.core (field e 4 4) (fillGranules g * 64) = some dest →
      execCopy q f err s = .next (State.advance
        (if bits (field e 4 4) 29 3 = 4 then v
        else (v.copyRange q.core src dest (fillGranules g) err).eccFound src (fillGranules g * 64) q.ecc 0) q) := by
  intro sh g u v e h hA src dest hsrc hdest
  refine instr_runs_to h ((popping_holds hA).trans ?_) (by simp [v, u])
  dsimp only
  rw [hsrc, hdest]

/-- Settles O25: the window that FILL names, and the two ranges that COPY names. -/
theorem fillsAndCopies : Obligations.FillsAndCopies := by
  intro q f err s
  refine ⟨?_, ?_⟩
  · intro sh g u a v word h hA
    rw [exec_fill, execFill_runs h hA]
    refine ⟨fun hw => ?_, fun r hw => ?_⟩
    · rw [hw]
      rfl
    · rw [hw]
  · intro sh g n u v e h hA src dest hsrc hdest
    rw [exec_copy, execCopy_runs h hA src dest hsrc hdest]
    refine ⟨fun h4 => by rw [if_pos h4], fun h4 hs hc => ?_⟩
    rw [if_neg h4]
    refine ⟨fun ha hb hr hd => ?_, fun a b ha hb hf hk hr hd => ?_⟩
    · rw [State.copyRange_raw hs hc ha hb hr hd]
      rfl
    · rw [State.copyRange_tiles hs hc ha hb hf hk hr hd]
      exact ⟨fun slot hu => by rw [hu], fun hu => by rw [hu]⟩

/-! ### Sends (R159, R216, R218, R236, R239) -/

section
variable {s : State} {core n g : Nat} {r : Route} {add : Bool} {gs : List Bytes}

/-- An ingress route takes one record a granule. -/
theorem State.sendRoute_ingress (h : r.kind = 3) :
    s.sendRoute core n r add g gs = gs.foldl (fun s x => s.emit (.token r.destBrick (padTo 64 x))) s := by
  unfold State.sendRoute
  exact if_pos h

section
variable (h : r.kind ≠ 3)
include h

/-- An adding send of a route with a tree enters the tree, flit by flit. -/
theorem State.sendRoute_tree (ht : r.tree ≠ 0xFFFF) (ha : add = true) :
    s.sendRoute core n r add g gs = (fours gs).zipIdx.foldl (fun s e =>
      s.enterNode 256 n r add (g + 4 * e.2) e.2 r.node (core / 64) (corePort core) e.1) s := by
  unfold State.sendRoute
  rw [if_neg h, if_pos ⟨ht, ha⟩]

/-- Without a tree the granules of a fabric route leave in flits. -/
theorem State.sendRoute_fabric (ht : ¬(r.tree ≠ 0xFFFF ∧ add = true)) (hk : r.kind = 2) :
    s.sendRoute core n r add g gs = s.sendFabric n r 0 gs := by
  unfold State.sendRoute State.deliverRoute
  rw [if_neg h, if_neg ht, if_pos hk]

/-- Without a tree the granules of any other route cross their edges and land at its store. -/
theorem State.sendRoute_lands (ht : ¬(r.tree ≠ 0xFFFF ∧ add = true)) (hk : r.kind ≠ 2) :
    s.sendRoute core n r add g gs =
      (s.crossEdges (core / 64) r.destBrick gs.length).landGranules r add g gs := by
  unfold State.sendRoute State.deliverRoute
  rw [if_neg h, if_neg ht, if_neg hk]

end

end

/-- SND pops its granules, sends them on its route, and takes its queue for a cycle for eight of them. -/
theorem execSnd_runs {q : Issue} {f : Fields} {s : State} {r : Route} :
    let sh := nShape (List.range 16) .hod .num 9 allImm
    let g := s.fieldsOf q f sh
    let u := s.issue q 0x50
    let v := u.popped q.core g.srcA (g.srcB + 1)
    s.runs q f sh (fun g => (s.route (sendRouteNo g)).isSome && (!flagOf g 0 || accFmts.contains g.fmt)) = true →
    u.holds q.core g.srcA (g.srcB + 1) = true → v.route (sendRouteNo g) = some r →
    execSnd q f s = .next ((State.occupy
      (v.sendRoute q.core (sendRouteNo g) r (flagOf g 0) (v.sendGranule q g) (u.front q.core g.srcA (g.srcB + 1)))
      q (ceilDiv (g.srcB + 1) 8)).advance q) := by
  intro sh g u v h hA hr
  refine instr_runs_to h (congrArg (State.occupy · q (ceilDiv (g.srcB + 1) 8)) ((popping_holds hA).trans ?_))
    (by simp [v, u])
  rw [hr]

/-- Settles O27: the one send of SND, by the kind of its route. -/
theorem sendsTakeTheirRoutes : Obligations.SendsTakeTheirRoutes := by
  intro q f s r sh g u k v es n gr add done h hA hr
  rw [exec_snd, execSnd_runs h hA hr]
  refine ⟨fun h3 => ?_, fun h3 ht ha => ?_, fun h3 ht => ⟨fun h2 => ?_, fun h2 => ?_⟩⟩
  · rw [State.sendRoute_ingress h3]
  · rw [State.sendRoute_tree h3 ht ha]
  · rw [State.sendRoute_fabric h3 ht h2]
  · rw [State.sendRoute_lands h3 ht h2]

/-! ### Handoff halves and Trowels (R173, R178, R321, R538) -/

section
variable {s : State} {cluster cause x : Nat}

/-- The state in which a cluster's swap at an admission course is marked and counted. -/
def State.markHandoff (s : State) (cluster x : Nat) : State :=
  State.bump { s with serving := { s.serving with handoff := Map.set s.serving.handoff 0 cluster (x + 1) } }
    (Reg.handoffSwaps cluster)

/-- Outside an admission course nothing swaps. -/
theorem State.swapHandoff_none (h : s.reachedAdmission = none) : s.swapHandoff cluster = s := by
  unfold State.swapHandoff
  rw [h]

section
variable (h : s.reachedAdmission = some x) (ht : s.reg (Reg.trowelState cluster) = 1)
  (hx : Map.get s.serving.handoff 0 cluster ≠ x + 1)
include h ht hx

/-- A swap not yet made turns the halves of a cluster that the plan has a half for. -/
theorem State.swapHandoff_turns {b : Bytes} (hb : (s.markHandoff cluster x).handoffHalf cluster x = some b) :
    s.swapHandoff cluster =
      let w := s.markHandoff cluster x
      (w.store (shadowHalf cluster) (w.load (activeHalf cluster) 0x1000)).store (activeHalf cluster) b := by
  unfold State.markHandoff at hb
  unfold State.swapHandoff
  rw [h]
  dsimp only
  rw [if_neg (by simp [ht, hx]), hb]
  rfl

/-- A swap of a cluster for which the plan has no half is counted only. -/
theorem State.swapHandoff_counts (hb : (s.markHandoff cluster x).handoffHalf cluster x = none) :
    s.swapHandoff cluster = s.markHandoff cluster x := by
  unfold State.markHandoff at hb
  unfold State.swapHandoff
  rw [h]
  dsimp only
  rw [if_neg (by simp [ht, hx]), hb]
  rfl

end

theorem State.trowelFaults_stops (h : s.reg (Reg.trowelState cluster) = 1) :
    s.trowelFaults cluster cause =
      (s.setReg (Reg.trowelState cluster) 3).notice Note.trowelFault (srcCluster cluster) (u16 cluster ++ u8 cause) := by
  unfold State.trowelFaults
  rw [if_neg (by simp [h])]

theorem State.trowelRestarts_restarts (h : s.reg (Reg.trowelState cluster) = 3) :
    s.trowelRestarts cluster = (s.setReg (Reg.trowelState cluster) 1).bump (Reg.trowelResets cluster) := by
  unfold State.trowelRestarts
  rw [if_neg (by simp [h])]

theorem State.trowelRestarts_running (h : s.reg (Reg.trowelState cluster) ≠ 3) : s.trowelRestarts cluster = s := by
  unfold State.trowelRestarts
  rw [if_pos h]

section
variable (hc : cluster < 128) (ho : s.clusterOn cluster = true)
include hc ho

theorem execHandoffSwap_next : execHandoffSwap cluster s = .next (s.swapHandoff cluster) :=
  onUnit_runs (by simp [clusterOk, hc, ho]) (State.swapHandoff_pending ..)

theorem execTrowelFault_next (h1 : 1 ≤ cause) (h3 : cause ≤ 3) :
    execTrowelFault cluster cause s = .next (s.trowelFaults cluster cause) :=
  onUnit_runs (by simp [clusterOk, hc, ho, h1, h3]) (State.trowelFaults_pending ..)

theorem execTrowelRestartDone_next : execTrowelRestartDone cluster s = .next (s.trowelRestarts cluster) :=
  onUnit_runs (by simp [clusterOk, hc, ho]) (State.trowelRestarts_pending ..)

end

end

/-! ### Clearing and stamping (R198, R207, R503, R508) -/

section
variable {s : State} {slot : Nat}

/-- In Hold and Doze the engines pause (R207). -/
theorem State.slotCleared_paused (h : s.power.mode ≠ .run) : s.slotCleared slot = s := by
  unfold State.slotCleared
  exact if_pos h

theorem State.slotStamped_paused (h : s.power.mode ≠ .run) : s.slotStamped slot = s := by
  unfold State.slotStamped
  exact if_pos (.inr (.inr h))

theorem State.slotStamped_noPlan (h : s.prog.running = false) : s.slotStamped slot = s := by
  unfold State.slotStamped
  exact if_pos (.inr (.inl h))

theorem State.slotStamped_other (h : (s.slot slot).state ≠ 2) : s.slotStamped slot = s := by
  unfold State.slotStamped
  exact if_pos (.inl h)

section
variable (hm : s.power.mode = .run)
include hm

/-- With no plan running a clearing that outlived its plan takes effect. -/
theorem State.slotCleared_noPlan (hr : s.prog.running = false) : s.slotCleared slot = s.clearLeft slot := by
  unfold State.slotCleared
  rw [if_neg (by simp [hm]), if_pos hr]

section
variable (hr : s.prog.running = true)
include hr

theorem State.slotCleared_other (h : (s.slot slot).state ≠ 1) : s.slotCleared slot = s := by
  unfold State.slotCleared
  rw [if_neg (by simp [hm]), if_neg (by simp [hr])]
  exact if_pos h

/-- A Clearing slot whose clearing is done is zeroed and Free. -/
theorem State.slotCleared_frees (h : (s.slot slot).state = 1) :
    s.slotCleared slot =
      let u := ((s.clearSlot slot).setSlot slot { s.slot slot with state := 0 }).bump Reg.clearsDone
      u.setReg Reg.lastClearCourses (u.time.localCount - (s.slot slot).releasedAt) := by
  unfold State.slotCleared
  rw [if_neg (by simp [hm]), if_neg (by simp [hr])]
  exact if_neg (by simp [h])

/-- A slot whose stamping is done is stamped, and Held or Mirrored by who owns it. -/
theorem State.slotStamped_stamps (h : (s.slot slot).state = 2) :
    s.slotStamped slot =
      let u := (s.stampSlot slot).bump Reg.stampsDone
      if u.owns slot then u.setSlot slot { s.slot slot with state := 3 }
      else (u.setSlot slot { s.slot slot with state := 6 }).applyWaiting slot := by
  unfold State.slotStamped
  exact if_neg (by simp [h, hr, hm])

end

end

theorem State.clearLeft_none (h : (s.serving.clearing.find? fun e => e.1 == slot) = none) : s.clearLeft slot = s := by
  unfold State.clearLeft
  rw [h]

theorem State.clearLeft_clears {e : Nat × Nat × List Region}
    (h : (s.serving.clearing.find? fun e => e.1 == slot) = some e) :
    s.clearLeft slot =
      let u : State := { s with
        serving := { s.serving with clearing := s.serving.clearing.filter fun x => x.1 != slot } }
      (e.2.2.foldl (fun t r => t.clearTiles r.fmt e.2.1 r.base r.tiles) u).bump Reg.clearsDone := by
  unfold State.clearLeft
  rw [h]

theorem execSlotClearingDone_next (h : slot < 4096) : execSlotClearingDone slot s = .next (s.slotCleared slot) :=
  onUnit_runs (decide_eq_true h) (State.slotCleared_pending ..)

theorem execSlotStampingDone_next (h : slot < 4096) : execSlotStampingDone slot s = .next (s.slotStamped slot) :=
  onUnit_runs (decide_eq_true h) (State.slotStamped_pending ..)

end

/-- Settles O46, command by command: the handoff and the Trowel, then the slots by power mode and plan. -/
theorem slotsAndTrowelsTurn : Obligations.SlotsAndTrowelsTurn := by
  intro cluster cause slot s
  refine ⟨fun hc ho => ?_, fun hs hm => ?_, fun hs hm => ?_, fun hs hm hr => ?_⟩
  · rw [exec_handoffSwap, execHandoffSwap_next hc ho, exec_trowelRestartDone, execTrowelRestartDone_next hc ho]
    refine ⟨fun x h ht hx => ?_, fun h => ?_, fun h1 h3 ht => ?_, fun ht => ?_, fun ht => ?_⟩
    · intro u w
      exact ⟨fun b hb => by rw [State.swapHandoff_turns h ht hx hb]; rfl,
        fun hb => by rw [State.swapHandoff_counts h ht hx hb]; rfl⟩
    · rw [State.swapHandoff_none h]
    · rw [exec_trowelFault, execTrowelFault_next hc ho h1 h3, State.trowelFaults_stops ht]
    · rw [State.trowelRestarts_restarts ht]
    · rw [State.trowelRestarts_running ht]
  · intro x hr
    rw [exec_slotClearingDone, execSlotClearingDone_next hs, exec_slotStampingDone, execSlotStampingDone_next hs]
    refine ⟨fun h => ?_, fun h => ?_, fun h => ?_, fun h => ?_⟩
    · rw [State.slotCleared_frees hm hr h]
    · rw [State.slotCleared_other hm hr h]
    · intro u
      rw [State.slotStamped_stamps hm hr h]
      exact ⟨fun hu => congrArg _ (if_pos hu), fun hu => congrArg _ (if_neg (ne_true_of_eq_false hu))⟩
    · rw [State.slotStamped_other h]
  · rw [exec_slotClearingDone, execSlotClearingDone_next hs, exec_slotStampingDone, execSlotStampingDone_next hs,
      State.slotCleared_paused hm, State.slotStamped_paused hm]
    exact ⟨rfl, rfl⟩
  · rw [exec_slotClearingDone, execSlotClearingDone_next hs, exec_slotStampingDone, execSlotStampingDone_next hs,
      State.slotCleared_noPlan hm hr, State.slotStamped_noPlan hr]
    exact ⟨rfl, fun h => by rw [State.clearLeft_none h], fun e h => by rw [State.clearLeft_clears h]⟩

/-! ### Staging and the loader's verdict (R275, R276, R293) -/

section
variable {s : State} {n : Nat} {data : Bytes} {x : Schedule} {v : Via}

section
variable (ha : s.awake = true)
include ha

/-- While the loader checks, bytes written are dropped and counted. -/
theorem State.stageBytes_drops (h : s.reg Reg.planState = 1) :
    s.stageBytes n data = s.bump Reg.stagingWritesDropped := by
  unfold State.stageBytes
  rw [if_neg (by simp [ha]), if_pos h]

/-- Otherwise they stand in the staging area. -/
theorem State.stageBytes_writes (h : s.reg Reg.planState ≠ 1) (hn : n + data.length ≤ 2 ^ 28) :
    s.stageBytes n data = { s with staging := s.staging.write n data } := by
  unfold State.stageBytes
  rw [if_neg (by simp [ha]), if_neg h, if_pos hn]

end

theorem State.loadPlan_range (h : n % 64 ≠ 0 ∨ 2 ^ 28 < n) : s.loadPlan n = (rcRangeError, s) := by
  unfold State.loadPlan
  exact if_pos h

section
variable (h64 : n % 64 = 0) (hn : n ≤ 2 ^ 28)
include h64 hn

theorem State.loadPlan_refuses (h : s.reg Reg.planState = 1 ∨ s.reg Reg.planState = 2 ∨ s.limewash = true) :
    s.loadPlan n = (rcStateRefused, s) := by
  unfold State.loadPlan
  rw [if_neg (not_or.mpr ⟨not_not.mpr h64, Nat.not_lt.mpr hn⟩)]
  exact if_pos h

/-- A load that nothing stands against begins the checks. -/
theorem State.loadPlan_begins (h1 : s.reg Reg.planState ≠ 1) (h2 : s.reg Reg.planState ≠ 2) (hl : s.limewash = false) :
    s.loadPlan n =
      let w := (s.setReg Reg.planState 1).setReg Reg.shadowState 1
      (rcOk, { w with plan := { w.plan with checking := some n } }) := by
  unfold State.loadPlan
  rw [if_neg (not_or.mpr ⟨not_not.mpr h64, Nat.not_lt.mpr hn⟩)]
  exact if_neg (by simp [h1, h2, hl])

end

theorem State.loaderDone_idle (h : s.plan.checking = none) : s.loaderDone x = s := by
  unfold State.loaderDone
  rw [h]

section
variable (h : s.plan.checking = some n)
include h

/-- A plan that fails is refused with its cause, result and site. -/
theorem State.loaderDone_refuses {e : Refusal3} :
    let i : Image := ⟨s.staging.read 0 n⟩
    let w := s.setBlob Blob.stagedDigest (sha3 i.bytes)
    w.judgeImage i x = .inl e → s.loaderDone x = w.refusePlan e (sha3 i.bytes) := by
  intro i w hj
  unfold State.loaderDone
  rw [h]
  dsimp only
  rw [hj]

/-- A plan that passes is installed. -/
theorem State.loaderDone_installs {p : Plan} :
    let i : Image := ⟨s.staging.read 0 n⟩
    let w := s.setBlob Blob.stagedDigest (sha3 i.bytes)
    w.judgeImage i x = .inr p → s.loaderDone x = w.installPlan p := by
  intro i w hj
  unfold State.loaderDone
  rw [h]
  dsimp only
  rw [hj]

end

/-! ### Discard and halt (R276, R294, R297) -/

theorem State.discardPlan_refuses (h : s.reg Reg.planState = 1) : s.discardPlan = (rcStateRefused, s) := by
  unfold State.discardPlan
  exact if_pos h

theorem State.discardPlan_empty (h : s.reg Reg.planState = 0) : s.discardPlan = (rcOk, s) := by
  unfold State.discardPlan
  dsimp only
  rw [if_neg (by omega), if_pos h]

theorem State.discardPlan_empties (h : 2 ≤ s.reg Reg.planState) : s.discardPlan = (rcOk, s.emptyPlan) := by
  unfold State.discardPlan
  dsimp only
  rw [if_neg (by omega), if_neg (by omega)]

theorem State.haltPlan_none (h : s.thePlan = none) : s.haltPlan n = (rcStateRefused, s) := by
  unfold State.haltPlan
  rw [h]

section
variable {p : Plan} (h : s.thePlan = some p)
include h

theorem State.haltPlan_range (hn : s.isQuoin n = false ∨ n < s.prog.course + p.period) :
    s.haltPlan n = (rcRangeError, s) := by
  unfold State.haltPlan
  rw [h]
  exact if_pos hn

/-- A halt at a quoin course a period ahead is kept. -/
theorem State.haltPlan_keeps (hq : s.isQuoin n = true) (hn : s.prog.course + p.period ≤ n) :
    s.haltPlan n = (rcOk, s.mapProg fun x => { x with halt := some n }) := by
  unfold State.haltPlan
  rw [h]
  exact if_neg (by simp [hq, hn])

end

/-- At its course a halt withdraws the batches, frees the tinted slots, answers the queue and ends the plan. -/
theorem State.haltNow_halts (hr : s.prog.running = true) (hk : s.prog.kind = .work s.prog.course)
    (hd : s.haltDue = true) :
    s.haltNow =
      let w := s.serving.batches.foldl State.withdrawBatch s
      let w := (w.tintedSlots.foldl State.haltAndFree w).answerQueue
      (w.notice Note.planHalted srcModule (u64 w.prog.course)).endPlan := by
  unfold State.haltNow
  exact if_pos (by simp [hr, hk, hd])

theorem State.haltNow_notDue (hd : s.haltDue = false) : s.haltNow = s := by
  unfold State.haltNow
  exact if_neg (by simp [hd])

/-! ### The commands -/

theorem execBar2Write_next : execBar2Write n data s = .next (s.stageBytes n data) :=
  done_eq (State.stageBytes_pending ..)

theorem execPlanLoad_next {rc : Nat} {t : State} (h : s.grantsNumber v 0x4000 1 3 n = true)
    (ha : (s.countRequest v).loadPlan n = (rc, t)) : execPlanLoad v n s = .next (t.respond v 0x4000 1 2 rc []) :=
  done_writeNumber (act := fun s => s.loadPlan n) h ha fun u => State.loadPlan_pending u n

theorem execPlanLoaderDone_next : execPlanLoaderDone x s = .next (s.loaderDone x) := done_eq (State.loaderDone_pending ..)

theorem execPlanDiscard_next {rc : Nat} {t : State} (h : s.grantsNumber v 0x4000 7 7 1 = true)
    (ha : (s.countRequest v).discardPlan = (rc, t)) :
    execPlanDiscard v 1 s = .next (t.respond v 0x4000 7 2 rc []) :=
  done_writeNumber h ha State.discardPlan_pending

theorem execPlanHalt_next {rc : Nat} {t : State} (h : s.grantsNumber v 0x4000 0xD 4 n = true)
    (ha : (s.countRequest v).haltPlan n = (rc, t)) : execPlanHalt v n s = .next (t.respond v 0x4000 0xD 2 rc []) :=
  done_writeNumber (act := fun s => s.haltPlan n) h ha fun u => State.haltPlan_pending u n

theorem execPlanHalted_next : execPlanHalted s = .next s.haltNow := done_eq (State.haltNow_pending s)

end

/-- Settles O47, command by command; what holds of a plan that passes is what the loader's checks found none against. -/
theorem plansAreLoaded : Obligations.PlansAreLoaded := by
  intro v n x data s u
  refine ⟨fun ha => ?_, fun h => ?_, fun k hk => ?_, fun hk => ?_, fun h => ?_, fun h => ?_, fun hr hk hd => ?_,
    fun hd => ?_⟩
  · rw [exec_bar2Write, execBar2Write_next]
    exact ⟨fun h => by rw [State.stageBytes_drops ha h], fun h hn => by rw [State.stageBytes_writes ha h hn]⟩
  · exact ⟨fun h64 hn h1 h2 hl => execPlanLoad_next h (State.loadPlan_begins h64 hn h1 h2 hl),
      fun hn => execPlanLoad_next h (State.loadPlan_range hn),
      fun h64 hn hs => execPlanLoad_next h (State.loadPlan_refuses h64 hn hs)⟩
  · intro i w
    rw [exec_planLoaderDone, execPlanLoaderDone_next]
    refine ⟨fun cause rc site hj => ?_, fun p hj => ⟨?_, ?_⟩⟩
    · rw [State.loaderDone_refuses hk hj]
      rfl
    · rw [State.loaderDone_installs hk hj]
    · obtain ⟨q, regions, hq, hr, hf⟩ := judgeImage_passes hj
      exact ⟨q, regions, hq, hr, fun r hy =>
        ⟨fun c hc => hods_kept hf hy hc, banks_kept hf hy, fun e he => latencies_kept hf hy e he⟩⟩
  · rw [exec_planLoaderDone, execPlanLoaderDone_next, State.loaderDone_idle hk]
  · exact ⟨fun h1 => execPlanDiscard_next h (State.discardPlan_refuses h1),
      fun h0 => execPlanDiscard_next h (State.discardPlan_empty h0),
      fun h2 => execPlanDiscard_next h (State.discardPlan_empties h2)⟩
  · exact ⟨fun hp => execPlanHalt_next h (State.haltPlan_none hp),
      fun p hp hn => execPlanHalt_next h (State.haltPlan_range hp hn),
      fun p hp hq hn => execPlanHalt_next h (State.haltPlan_keeps hp hq hn)⟩
  · rw [exec_planHalted, execPlanHalted_next, State.haltNow_halts hr hk hd]
  · rw [exec_planHalted, execPlanHalted_next, State.haltNow_notDue hd]

end Sys2Proof.Machine

namespace Sys2Proof.Machine

/-! ### Commands that write no store (R181, R398) -/

/-- The frame of `exec`, command by command. The cases left out are the storing commands, whose `c.storing = false` is
absurd. -/
theorem exec_stores {s t : State} : ∀ c : Instr, c.storing = false → exec c s = .next t →
    t.mem = s.mem ∧ t.staging = s.staging
  | .epochCourse phase8 keeperOffset ber, _, h => execEpochCourse_stores phase8 keeperOffset ber _ _ h
  | .referenceInvalid, _, h => execReferenceInvalid_stores _ _ h
  | .courseSourceWrite v value, _, h => execCourseSourceWrite_stores v value _ _ h
  | .courseLoad v value, _, h => execCourseLoad_stores v value _ _ h
  | .courseMark port mark phase8, _, h => execCourseMark_stores port mark phase8 _ _ h
  | .parentReselect, _, h => execParentReselect_stores _ _ h
  | .courseHoldover, _, h => execCourseHoldover_stores _ _ h
  | .courseLocked, _, h => execCourseLocked_stores _ _ h
  | .sourceReturn count phase8, _, h => execSourceReturn_stores count phase8 _ _ h
  | .phaseStep, _, h => execPhaseStep_stores _ _ h
  | .leadCourse, _, h => execLeadCourse_stores _ _ h
  | .delayProbe port roundTrip8 turnaround8, _, h => execDelayProbe_stores port roundTrip8 turnaround8 _ _ h
  | .dueCheck, _, h => execDueCheck_stores _ _ h
  | .planStalled, _, h => execPlanStalled_stores _ _ h
  | .restCourse, _, h => execRestCourse_stores _ _ h
  | .linkRetry port lane, _, h => execLinkRetry_stores port lane _ _ h
  | .pointingHousekeeping fits, _, h => execPointingHousekeeping_stores fits _ _ h
  | .sensorSample fits reading, _, h => execSensorSample_stores fits reading _ _ h
  | .maintenanceMicrostep cluster bytes, _, h => execMaintenanceMicrostep_stores cluster bytes _ _ h
  | .launchCourseWrite v value, _, h => execLaunchCourseWrite_stores v value _ _ h
  | .launchRefused, _, h => execLaunchRefused_stores _ _ h
  | .quoinCourse, _, h => execQuoinCourse_stores _ _ h
  | .correctedThreshold cluster position, _, h => execCorrectedThreshold_stores cluster position _ _ h
  | .substituteCore v value, _, h => execSubstituteCore_stores v value _ _ h
  | .substitutionRegisterCopy cluster fits, _, h => execSubstitutionRegisterCopy_stores cluster fits _ _ h
  | .substitutionSwap cluster, _, h => execSubstitutionSwap_stores cluster _ _ h
  | .engineFlagsClear v cluster position engine value raised, _, h =>
    execEngineFlagsClear_stores v cluster position engine value raised _ _ h
  | .clearAllFlags v value raised, _, h => execClearAllFlags_stores v value raised _ _ h
  | .nop q f, _, h => execNop_stores q f _ _ h
  | .wait q f, _, h => execWait_stores q f _ _ h
  | .plumb q f, _, h => execPlumb_stores q f _ _ h
  | .plumbRelease core arrival, _, h => execPlumbRelease_stores core arrival _ _ h
  | .ret q f, _, h => execRet_stores q f _ _ h
  | .endBundle q f, _, h => execEndBundle_stores q f _ _ h
  | .fmode q f, _, h => execFmode_stores q f _ _ h
  | .bundleStart core queue, _, h => execBundleStart_stores core queue _ _ h
  | .tset q f, _, h => execTset_stores q f _ _ h
  | .tileVerdict core engine, _, h => execTileVerdict_stores core engine _ _ h
  | .suspensionEnd, _, h => execSuspensionEnd_stores _ _ h
  | .mma q f batch, _, h => execMma_stores q f batch _ _ h
  | .vrd q f, _, h => execVrd_stores q f _ _ h
  | .addLane q f, _, h => execAddLane_stores q f _ _ h
  | .subLane q f, _, h => execSubLane_stores q f _ _ h
  | .mulLane q f, _, h => execMulLane_stores q f _ _ h
  | .fma q f, _, h => execFma_stores q f _ _ h
  | .divLane q f, _, h => execDivLane_stores q f _ _ h
  | .sqrt q f, _, h => execSqrt_stores q f _ _ h
  | .minLane q f, _, h => execMinLane_stores q f _ _ h
  | .maxLane q f, _, h => execMaxLane_stores q f _ _ h
  | .fn q f, _, h => execFn_stores q f _ _ h
  | .red q f, _, h => execRed_stores q f _ _ h
  | .sqa q f, _, h => execSqa_stores q f _ _ h
  | .rot q f, _, h => execRot_stores q f _ _ h
  | .amax q f, _, h => execAmax_stores q f _ _ h
  | .topk q f, _, h => execTopk_stores q f _ _ h
  | .rng q f, _, h => execRng_stores q f _ _ h
  | .cvt q f, _, h => execCvt_stores q f _ _ h
  | .dup q f, _, h => execDup_stores q f _ _ h
  | .due q f, _, h => execDue_stores q f _ _ h
  | .tsig q f, _, h => execTsig_stores q f _ _ h
  | .lva q f, _, h => execLva_stores q f _ _ h
  | .rel q f, _, h => execRel_stores q f _ _ h
  | .lp q f, _, h => execLp_stores q f _ _ h
  | .setCount q f, _, h => execSetCount_stores q f _ _ h
  | .addc q f, _, h => execAddc_stores q f _ _ h
  | .kset q f, _, h => execKset_stores q f _ _ h
  | .bk q f, _, h => execBk_stores q f _ _ h
  | .wcrs q f, _, h => execWcrs_stores q f _ _ h
  | .ao q f, _, h => execAo_stores q f _ _ h
  | .twait q f, _, h => execTwait_stores q f _ _ h
  | .lvw q f, _, h => execLvw_stores q f _ _ h
  | .swapArm v value, _, h => execSwapArm_stores v value _ _ h
  | .bankSwap, _, h => execBankSwap_stores _ _ h
  | .trowelFault cluster cause, _, h => execTrowelFault_stores cluster cause _ _ h
  | .edgeBlockFailure edge, _, h => execEdgeBlockFailure_stores edge _ _ h
  | .edgeRetrain edge, _, h => execEdgeRetrain_stores edge _ _ h
  | .linkReport port lane word, _, h => execLinkReport_stores port lane word _ _ h
  | .reportTimeout port lane course, _, h => execReportTimeout_stores port lane course _ _ h
  | .laneDown port lane cause, _, h => execLaneDown_stores port lane cause _ _ h
  | .laneRetrainDone port lane full ok, _, h => execLaneRetrainDone_stores port lane full ok _ _ h
  | .retrain v port value, _, h => execRetrain_stores v port value _ _ h
  | .partnerChange port deviceId partnerPort, _, h => execPartnerChange_stores port deviceId partnerPort _ _ h
  | .pointingMessage port lane word, _, h => execPointingMessage_stores port lane word _ _ h
  | .pointingResend port, _, h => execPointingResend_stores port _ _ h
  | .signalArrival packet, _, h => execSignalArrival_stores packet _ _ h
  | .levelArrival packet, _, h => execLevelArrival_stores packet _ _ h
  | .levelRelease packet, _, h => execLevelRelease_stores packet _ _ h
  | .planLoad v value, _, h => execPlanLoad_stores v value _ _ h
  | .planDiscard v value, _, h => execPlanDiscard_stores v value _ _ h
  | .planHalt v value, _, h => execPlanHalt_stores v value _ _ h
  | .planHalted, _, h => execPlanHalted_stores _ _ h
  | .descriptor qp message, _, h => execDescriptor_stores qp message _ _ h
  | .batchBuild, _, h => execBatchBuild_stores _ _ h
  | .orderBatch qp message, _, h => execOrderBatch_stores qp message _ _ h
  | .orderApply, _, h => execOrderApply_stores _ _ h
  | .abortReport qp message, _, h => execAbortReport_stores qp message _ _ h
  | .governorEvaluation unprocessed, _, h => execGovernorEvaluation_stores unprocessed _ _ h
  | .tokenRecord record, _, h => execTokenRecord_stores record _ _ h
  | .recordSend qp, _, h => execRecordSend_stores qp _ _ h
  | .loadGeneration v value, _, h => execLoadGeneration_stores v value _ _ h
  | .loadAdapter v value, _, h => execLoadAdapter_stores v value _ _ h
  | .loadAbort v value, _, h => execLoadAbort_stores v value _ _ h
  | .creditMessage message, _, h => execCreditMessage_stores message _ _ h
  | .creditSend, _, h => execCreditSend_stores _ _ h
  | .switchCourse v value, _, h => execSwitchCourse_stores v value _ _ h
  | .generationSwitch, _, h => execGenerationSwitch_stores _ _ h
  | .generationDiscard v value, _, h => execGenerationDiscard_stores v value _ _ h
  | .trainingPhase port word, _, h => execTrainingPhase_stores port word _ _ h
  | .trainingTimeout port, _, h => execTrainingTimeout_stores port _ _ h
  | .portRoleMismatch port partnerRole partnerDevice, _, h =>
    execPortRoleMismatch_stores port partnerRole partnerDevice _ _ h
  | .ethFrame ingress frame, _, h => execEthFrame_stores ingress frame _ _ h
  | .txSak v ingress value, _, h => execTxSak_stores v ingress value _ _ h
  | .rxSak v ingress value, _, h => execRxSak_stores v ingress value _ _ h
  | .qpConfig v value, _, h => execQpConfig_stores v value _ _ h
  | .qpReset v value, _, h => execQpReset_stores v value _ _ h
  | .qpRetryTimeout qp, _, h => execQpRetryTimeout_stores qp _ _ h
  | .functionReset kind, _, h => execFunctionReset_stores kind _ _ h
  | .claim node chainIn, _, h => execClaim_stores node chainIn _ _ h
  | .confirm node serial, _, h => execConfirm_stores node serial _ _ h
  | .claimTimeout, _, h => execClaimTimeout_stores _ _ h
  | .deviceIdWrite v value, _, h => execDeviceIdWrite_stores v value _ _ h
  | .writeSegmentTimeout v, _, h => execWriteSegmentTimeout_stores v _ _ h
  | .noticeRaise code cls source payload, _, h => execNoticeRaise_stores code cls source payload _ _ h
  | .noticeSendChain, _, h => execNoticeSendChain_stores _ _ h
  | .noticeRingWrite ok, _, h => execNoticeRingWrite_stores ok _ _ h
  | .ringControl value, _, h => execRingControl_stores value _ _ h
  | .powerRequest v value, _, h => execPowerRequest_stores v value _ _ h
  | .powerTransitionStart, _, h => execPowerTransitionStart_stores _ _ h
  | .powerTransitionDone, _, h => execPowerTransitionDone_stores _ _ h
  | .wakeAtCourse, _, h => execWakeAtCourse_stores _ _ h
  | .chainWakeFrame dest frame, _, h => execChainWakeFrame_stores dest frame _ _ h
  | .wakeNLow, _, h => execWakeNLow_stores _ _ h
  | .supplyReturn, _, h => execSupplyReturn_stores _ _ h
  | .sleepTempEvent, _, h => execSleepTempEvent_stores _ _ h
  | .coolantFlowLow, _, h => execCoolantFlowLow_stores _ _ h
  | .attestNonce v value, _, h => execAttestNonce_stores v value _ _ h
  | .attestComplete, _, h => execAttestComplete_stores _ _ h
  | .spdmRequest request, _, h => execSpdmRequest_stores request _ _ h
  | .ownerEnroll v value, _, h => execOwnerEnroll_stores v value _ _ h
  | .ownerChange v value, _, h => execOwnerChange_stores v value _ _ h
  | .lifecycleToken v value, _, h => execLifecycleToken_stores v value _ _ h
  | .debugRequest v value, _, h => execDebugRequest_stores v value _ _ h
  | .debugToken v value, _, h => execDebugToken_stores v value _ _ h
  | .traceStart, _, h => execTraceStart_stores _ _ h
  | .securityVersionCommit v value, _, h => execSecurityVersionCommit_stores v value _ _ h
  | .notafterPassed, _, h => execNotafterPassed_stores _ _ h
  | .bondModeWrite v value, _, h => execBondModeWrite_stores v value _ _ h
  | .bondYield v value, _, h => execBondYield_stores v value _ _ h
  | .heartbeat bond lane word, _, h => execHeartbeat_stores bond lane word _ _ h
  | .partnerLost, _, h => execPartnerLost_stores _ _ h
  | .bondReport qp message, _, h => execBondReport_stores qp message _ _ h
  | .bondTakeover, _, h => execBondTakeover_stores _ _ h
  | .bondTakenOver, _, h => execBondTakenOver_stores _ _ h
  | .mirrorBufferFull, _, h => execMirrorBufferFull_stores _ _ h
  | .bondDegraded, _, h => execBondDegraded_stores _ _ h
  | .resyncDone, _, h => execResyncDone_stores _ _ h
  | .repairRequest port granule, _, h => execRepairRequest_stores port granule _ _ h
  | .repairTimeout, _, h => execRepairTimeout_stores _ _ h
  | .noRepairSource, _, h => execNoRepairSource_stores _ _ h
  | .damageReport qp message, _, h => execDamageReport_stores qp message _ _ h
  | .firmwareActivate v value, _, h => execFirmwareActivate_stores v value _ _ h
  | .firmwareActivation, _, h => execFirmwareActivation_stores _ _ h
  | .patchLoad v value, _, h => execPatchLoad_stores v value _ _ h
  | .patchActivate v value, _, h => execPatchActivate_stores v value _ _ h
  | .patchSwap, _, h => execPatchSwap_stores _ _ h
  | .retireCluster v value, _, h => execRetireCluster_stores v value _ _ h
  | .maintenanceRelease, _, h => execMaintenanceRelease_stores _ _ h
  | .startConfirmed, _, h => execStartConfirmed_stores _ _ h
  | .slotSelect v value, _, h => execSlotSelect_stores v value _ _ h
  | .slotImage v value, _, h => execSlotImage_stores v value _ _ h
  | .slotStage v value, _, h => execSlotStage_stores v value _ _ h
  | .clearWithheld v value, _, h => execClearWithheld_stores v value _ _ h
  | .hardFault kind unit, _, h => execHardFault_stores kind unit _ _ h
  | .storeStuck address, _, h => execStoreStuck_stores address _ _ h
  | .ingressLinkChange ingress up, _, h => execIngressLinkChange_stores ingress up _ _ h
  | .pcieLinkChange state rate width, _, h => execPcieLinkChange_stores state rate width _ _ h
  | .ideKmExchange active, _, h => execIdeKmExchange_stores active _ _ h
  | .edgeLossOfLock edge, _, h => execEdgeLossOfLock_stores edge _ _ h
  | .edgeRetrainDone edge, _, h => execEdgeRetrainDone_stores edge _ _ h
  | .spareFault cluster, _, h => execSpareFault_stores cluster _ _ h
  | .trowelRestartDone cluster, _, h => execTrowelRestartDone_stores cluster _ _ h

/-- Settles O6: the two memories are as they were, and so is every byte of them. -/
theorem storesLeftAlone : Obligations.StoresLeftAlone := by
  intro c s t hc h a
  obtain ⟨hm, hg⟩ := exec_stores c hc h
  exact ⟨congrArg (·.byte a) hm, congrArg (·.byte a) hg⟩

end Sys2Proof.Machine

/-! PROOFS. Fabric links and edges: flits received, written late, reported, sent again and relayed, and the die-to-die
edges, each operation branch by branch, and the statements settled from the branches. -/

namespace Sys2Proof.Machine

/-! ### Flits received (R224, R225, R228, R229, R232) -/

section
variable {s : State} {port lane slot : Nat} {b : Bytes} {fecOk : Bool} {corrected : Nat}

theorem execFlitReceived_next (hp : port < 64) (hl : lane < 8) (hs : slot < 29) (hb : b.length = 264) :
    execFlitReceived port lane slot b fecOk corrected s = .next (s.takeFlit port lane slot b fecOk corrected) :=
  onUnit_runs (by simp [portOk, laneOk, flitSlotOk, hp, hl, hs, hb]) (State.takeFlit_pending ..)

/-- The state in which a flit of a slot is judged good on its lane (R227). -/
def State.judgedGood (s : State) (port lane slot : Nat) (f : Flit) : State :=
  s.setPort port ((s.port port).setLane lane
    (((s.port port).lane lane).judge (s.slotCourse port lane slot (some f)) slot false))

/-- The keys of a port's landed flits that a tag of 5 bits can still name (R229). -/
def State.recentlySeen (s : State) (port : Nat) : List (Nat × Nat × Nat) :=
  (s.port port).seen.filter fun x => decide (s.prog.course ≤ nearestCourse s.prog.course 5 x.2.2 + 12)

section
variable (hm : s.power.mode = .run ∨ s.power.mode = .hold) (hr : s.portRole port = 0) (hw : s.limewash = false)
include hm hr hw

/-- What turns a flit away unread does not hold on a fabric port in Run or Hold outside Limewash. -/
theorem State.flits_taken :
    ¬(s.power.mode ≠ .run ∧ s.power.mode ≠ .hold ∨ s.portRole port ≠ 0 ∨ s.limewash = true) := by
  rintro (⟨hrun, hhold⟩ | h | h)
  · exact hm.elim hrun hhold
  · exact h hr
  · simp [hw] at h

/-- A flit of a wrong codeword is an error of its lane, and fails. -/
theorem State.takeFlit_uncorrectable :
    s.takeFlit port lane slot b false corrected =
      let u := s.bumpBy (Reg.fecCorrected port) corrected
      let p := u.port port
      let v := (u.bump (Reg.fecUncorrectable port)).setPort port
        (p.setLane lane { p.lane lane with errors := (p.lane lane).errors + 1 })
      v.failFlit port lane slot slot v.prog.course none :=
  if_neg (State.flits_taken hm hr hw)

/-- A flit of a right codeword whose check is wrong fails. -/
theorem State.takeFlit_checkFailed (hc : flitChecks b = false) :
    s.takeFlit port lane slot b true corrected =
      let u := s.bumpBy (Reg.fecCorrected port) corrected
      u.failFlit port lane slot slot u.prog.course none := by
  unfold State.takeFlit
  rw [if_neg (State.flits_taken hm hr hw)]
  exact if_neg (by simp [hc])

section
variable (hc : flitChecks b = true)
include hc

/-- A flit of slot 31 carries nothing. -/
theorem State.takeFlit_idle (hi : (flitOf b).slot = 31) :
    s.takeFlit port lane slot b true corrected = s.bumpBy (Reg.fecCorrected port) corrected := by
  unfold State.takeFlit
  rw [if_neg (State.flits_taken hm hr hw)]
  simp only [hc, Bool.and_self, if_true, if_pos hi]

/-- A flit that the landing map does not expect fails. -/
theorem State.takeFlit_unexpected (hi : (flitOf b).slot ≠ 31) :
    let u := s.bumpBy (Reg.fecCorrected port) corrected
    let f := flitOf b
    u.landingAt port lane f.slot (u.flitCourse f) = none →
    s.takeFlit port lane slot b true corrected =
      u.failFlit port lane slot f.slot (u.flitCourse f) (some f) := by
  intro u f hn
  unfold State.takeFlit
  rw [if_neg (State.flits_taken hm hr hw)]
  simp only [hc, Bool.and_self, if_true, if_neg hi]
  rw [hn]

/-- A flit that the landing map expects is judged good, and goes to its set or, where it is new, to its course. -/
theorem State.takeFlit_expected {l : Landing} (hi : (flitOf b).slot < 28) (hroute : l.route = (flitOf b).route) :
    let u := s.bumpBy (Reg.fecCorrected port) corrected
    let f := flitOf b
    let dist := (u.route l.route).any u.distribution
    let t := u.judgedGood port lane slot f
    u.landingAt port lane f.slot (u.flitCourse f) = some l → (dist = false → l.flit = f.index) →
    s.takeFlit port lane slot b true corrected =
      if dist then (t.bump (Reg.flitsLanded port)).takeDistribution port (u.flitCourse f) lane f.slot f.granules
      else if (t.port port).seen.contains (f.route, f.index, f.tag) then t
      else (t.setPort port { t.port port with seen := (f.route, f.index, f.tag) :: t.recentlySeen port }).fileFlit
        port slot f l := by
  intro u f dist t hn hx
  have hmatch : ¬(l.route ≠ f.route ∨ (l.flit ≠ f.index ∧ (!dist) = true) ∨ 28 ≤ f.slot) := by
    rintro (h | ⟨h, hd⟩ | h)
    · exact h hroute
    · exact h (hx (by simpa using hd))
    · exact absurd h (Nat.not_le.mpr hi)
  unfold State.takeFlit
  rw [if_neg (State.flits_taken hm hr hw)]
  simp only [hc, Bool.and_self, if_true]
  rw [if_neg (by omega : ¬(flitOf b).slot = 31), hn]
  exact if_neg hmatch

end

end

end

/-! ### Late flits, reports and retries (R227 to R230, R232) -/

section
variable {s : State} {port lane : Nat}

theorem execLateFlitWrite_next (hp : port < 64) (hr : s.portRole port = 0) :
    execLateFlitWrite port s = .next (s.writeLate port) :=
  onUnit_runs (by simp [portOk, hp, hr]) (State.writeLate_pending ..)

/-- The first late flit of a port leaves its list, and its granules are counted and written. -/
theorem State.writeLate_first {f : Flit} {r : List Flit} (h : (s.port port).late = f :: r) :
    s.writeLate port =
      ((s.setPort port { s.port port with late := r }).bumpBy (Reg.lateGranules port) f.count).writeFlit port f := by
  unfold State.writeLate
  dsimp only
  rw [h]

theorem execLinkReport_next {w : Nat} (hp : port < 64) (hl : lane < 8) (hw : w < 2 ^ 128) (hr : s.portRole port = 0) :
    execLinkReport port lane w s = .next (s.takeReport port lane w) :=
  onUnit_runs (by simp only [portOk, laneOk, word128Ok, hp, hl, hw, hr]; decide) (State.takeReport_pending ..)

/-- A report that checks applies its first part, then its second. -/
theorem State.takeReport_applies {w : Nat} (ha : s.awake = true) (hc : wordChecks w = true) :
    s.takeReport port lane w =
      let u := if bit w 76 then s.applyReport port lane (bits w 71 5) (bits w 42 29) else s
      if bit w 111 then u.applyReport port lane (bits w 106 5) (bits w 77 29) else u :=
  if_neg (by simp [ha, hc])

theorem execReportTimeout_next {course : Nat} (hp : port < 64) (hl : lane < 8) (hr : s.portRole port = 0) :
    execReportTimeout port lane course s = .next (s.reportLate port lane course) :=
  onUnit_runs (by simp [portOk, laneOk, hp, hl, hr]) (State.reportLate_pending ..)

/-- A course still unreported four courses after it left is taken as a report that names every flit failed. -/
theorem State.reportLate_queues {course : Nat} :
    let l := (s.port port).lane lane
    let old (t : Nat) : Bool := decide (t + 4 ≤ s.time.localCount)
    (l.sent.any fun e => e.2.tag == course % 32 && old e.1) = true ∨
      (old l.resent.1 = true ∧ (l.retried.any fun e => e.1 == course % 32) = true) →
    s.reportLate port lane course =
      (s.applyReport port lane (course % 32) (2 ^ 29 - 1)).bump (Reg.reportTimeouts port) := by
  intro l old h
  exact if_pos (by simpa only [Bool.or_eq_true, Bool.and_eq_true] using h)

theorem execLinkRetry_next (hp : port < 64) (hl : lane < 8) (hr : s.portRole port = 0) :
    execLinkRetry port lane s = .next (s.retryFlit port lane) :=
  onUnit_runs (by simp [portOk, laneOk, hp, hl, hr]) (State.retryFlit_pending ..)

/-- The first queued flit of an up lane goes again while the course has room for it (R226, R228). -/
theorem State.retryFlit_resends {f : Flit} {r : List Flit}
    (hq : ((s.port port).lane lane).retries = f :: r) (hu : ((s.port port).lane lane).status = 2)
    (hm : s.power.mode = .run ∨ s.power.mode = .hold) (hw : s.limewash = false)
    (hk : s.resentNow ((s.port port).lane lane) < (if s.working then 1 else 30)) :
    s.retryFlit port lane =
      let l := (s.port port).lane lane
      let k := s.resentNow l
      let pos := if s.working then 28 else k
      let u := s.setPort port ((s.port port).setLane lane
        { l with
          retries := r
          retried := l.retried ++ [(s.prog.course % 32, pos, f)]
          resent := (s.time.localCount, k + 1) })
      (((u.bump (Reg.flitsSent port)).bump (Reg.retriesSent port)).bumpBy Reg.retryFlits (flagNat u.working)).emit
        (.flit port lane pos f) := by
  unfold State.retryFlit
  dsimp only
  rw [hq]
  refine if_neg ?_
  rintro (h | ⟨hrun, hhold⟩ | h | h)
  · exact h hu
  · exact hm.elim hrun hhold
  · simp [hw] at h
  · exact Nat.not_le.mpr hk h

end

/-! ### Relays (R235) -/

section
variable {s : State} {port route index egress lane slot : Nat} {f : Flit}

theorem execRelayForward_next (hp : port < 64) (he : egress < 64) (hl : lane < 8) (hs : slot < 28)
    (hr : s.portRole port = 0) (hre : s.portRole egress = 0) :
    execRelayForward port route index egress lane slot s =
      .next (s.relayFlit port route index egress lane slot) :=
  onUnit_runs (by simp [portOk, laneOk, hp, he, hl, hs, hr, hre]) (State.relayFlit_pending ..)

/-- The state in which a landed flit is taken for its relay, landed and counted. -/
def State.relayTaken (s : State) (port : Nat) (f : Flit) : State :=
  ((s.setPort port { s.port port with landing := (s.port port).landing.erase f }).bump (Reg.flitsLanded port)).bump
    Reg.relayFlits

/-- A flit that is relayed enters the node of this module at the port's interface where a tree adds to it, and
otherwise leaves under its new slot and tag. -/
theorem State.relayFlit_landed (hr : s.relays route = true) (hi : s.issues = true)
    (hf : (s.port port).landing.find? (fun x => x.route == route && x.index == index) = some f) :
    s.relayFlit port route index egress lane slot =
      let v := s.relayTaken port f
      ((v.route route).filter fun r => r.tree != 0xFFFF && r.add).elim
        (v.sendFlit egress lane 0 { f with slot := slot, tag := v.prog.course % 32 })
        fun r => v.enterNode 256 route r true (4 * index) index r.node (port / 4) (100 + port % 4) f.granules := by
  unfold State.relayTaken State.relayFlit
  dsimp only
  rw [if_neg (by simp [hr, hi]), hf]
  dsimp only
  split
  · next r hn => rw [hn, Option.elim_some]
  · next hn => rw [hn, Option.elim_none]

end

/-- Settles O42, command by command, from the branches of the six operations. That a flit of a wrong check or codeword
is filed under the receiver's plan course, that RetryFlits counts in work courses only, and that a course without plan
work has a thirtieth position, are assumption 33. -/
theorem flitsLandAndGoAgain : Obligations.FlitsLandAndGoAgain := by
  intro port lane slot s hp hlane hr ha
  refine ⟨fun b fecOk corrected hb hslot hm hw => ?_, fun f r h => ?_, fun w hlt hc => ?_, fun course h => ?_,
    fun f r h hu hm hw hk => ?_, fun route index egress f he hre hslot hrel hi hf => ⟨fun hn => ?_, fun r hn => ?_⟩⟩
  · rw [exec_flitReceived, execFlitReceived_next hp hlane hslot hb]
    refine ⟨fun hfec => ?_, fun hfec hc => ?_, fun hfec hc => ?_⟩
    all_goals subst hfec
    · rw [State.takeFlit_uncorrectable hm hr hw]
    · rw [State.takeFlit_checkFailed hm hr hw hc]
    · refine ⟨fun hi => ?_, fun hi hn => ?_, fun l hn hd hroute hi => ?_,
        fun l hn hd hroute hx hi => ⟨fun hseen => ?_, fun hnew => ?_⟩⟩
      · rw [State.takeFlit_idle hm hr hw hc hi]
      · rw [State.takeFlit_unexpected hm hr hw hc hi hn]
      · rw [State.takeFlit_expected hm hr hw hc hi hroute hn (by simp [hd])]
        exact congrArg _ (if_pos hd)
      all_goals rw [State.takeFlit_expected hm hr hw hc hi hroute hn fun _ => hx]
      · exact congrArg _ ((if_neg (by simp [hd])).trans (if_pos hseen))
      · exact congrArg _ ((if_neg (by simp [hd])).trans (if_neg (ne_true_of_eq_false hnew)))
  · exact (execLateFlitWrite_next hp hr).trans (congrArg _ (State.writeLate_first h))
  · exact (execLinkReport_next hp hlane hlt hr).trans (congrArg _ (State.takeReport_applies ha hc))
  · exact (execReportTimeout_next hp hlane hr).trans (congrArg _ (State.reportLate_queues h))
  · exact (execLinkRetry_next hp hlane hr).trans (congrArg _ (State.retryFlit_resends h hu hm hw hk))
  all_goals
    refine (execRelayForward_next hp he hlane hslot hr hre).trans (congrArg _ ?_)
    exact (State.relayFlit_landed hrel hi hf).trans (congrArg (Option.elim · _ _) hn)

/-! ### Edges (R221, R249) -/

section
variable {s : State} {e : Nat}

theorem execEdgeBlockFailure_next (he : e < 24) (ho : s.edgeOn e = true) :
    execEdgeBlockFailure e s = .next ((s.bump (Reg.blockFailures e)).suspendEdge) :=
  onUnit_runs (by simp [edgeOk, he, ho]) (by simp)

theorem execEdgeRetrain_next (he : e < 24) (ho : s.edgeOn e = true) :
    execEdgeRetrain e s = .next (s.edgeFailsAgain e) :=
  onUnit_runs (by simp [edgeOk, he, ho]) (State.edgeFailsAgain_pending ..)

theorem execEdgeLossOfLock_next (he : e < 24) (ho : s.edgeOn e = true) :
    execEdgeLossOfLock e s = .next (s.retrainEdge e 2) :=
  onUnit_runs (by simp [edgeOk, he, ho]) (State.retrainEdge_pending ..)

theorem execEdgeRetrainDone_next (he : e < 24) (ho : s.edgeOn e = true) :
    execEdgeRetrainDone e s = .next (s.edgeUp e) :=
  onUnit_runs (by simp [edgeOk, he, ho]) (State.edgeUp_pending ..)

/-- A running plan that is not suspended is suspended for a course. -/
theorem State.suspendEdge_suspends (hr : s.prog.running = true) (hn : s.prog.suspension = none) :
    s.suspendEdge =
      s.mapProg fun p => { p with suspension := some { waiting := [], edges := [], courses := 1, cause := 1 } } :=
  if_neg (by simp [hr, hn])

/-- Without a running plan there is nothing to suspend, and a suspension that stands is shared. -/
theorem State.suspendEdge_stands (h : s.prog.running = false ∨ s.prog.suspension ≠ none) : s.suspendEdge = s :=
  if_pos (by simpa [Option.isSome_iff_ne_none] using h)

theorem State.retrainEdge_retraining {cause : Nat} (h : s.reg (Reg.edgeState e) = 2) : s.retrainEdge e cause = s :=
  if_pos h

/-- An edge that was not retraining retrains, counted and reported. -/
theorem State.retrainEdge_begins {cause : Nat} (h : s.reg (Reg.edgeState e) ≠ 2) :
    s.retrainEdge e cause = ((s.setReg (Reg.edgeState e) 2).bump (Reg.edgeRetrains e)).notice Note.edgeRetrain
      (srcEdge e) (u8 e ++ u8 cause) :=
  if_neg h

end

/-- Settles O44, command by command. That a loss of lock retrains the edge and suspends no plan is assumption 33. -/
theorem edgesFailAndRetrain : Obligations.EdgesFailAndRetrain := by
  intro e s he ho
  refine ⟨fun hr hn => ?_, fun h => ?_, execEdgeRetrain_next he ho, fun h => ?_, fun h => ?_,
    execEdgeRetrainDone_next he ho⟩
  · exact (execEdgeBlockFailure_next he ho).trans (congrArg _ (State.suspendEdge_suspends hr hn))
  · exact (execEdgeBlockFailure_next he ho).trans (congrArg _ (State.suspendEdge_stands h))
  · exact (execEdgeLossOfLock_next he ho).trans (congrArg _ (State.retrainEdge_retraining h))
  · exact (execEdgeLossOfLock_next he ho).trans (congrArg _ (State.retrainEdge_begins h))

end Sys2Proof.Machine

/-! PROOFS. The pointing network: packets at their routers and messages of slot 2, and the statements settled from the
branches of each operation. -/

namespace Sys2Proof.Machine

/-! ### Packets at their routers (R251, R254, R259, R265, R268, R274) -/

section
variable {s : State} {w : Nat}

theorem execSignalArrival_next (hw : w < 2 ^ 128) : execSignalArrival w s = .next (s.signalArrives w) :=
  onUnit_runs (decide_eq_true hw) (State.signalArrives_pending ..)

theorem execLevelArrival_next (hw : w < 2 ^ 128) : execLevelArrival w s = .next (s.levelArrives w) :=
  onUnit_runs (decide_eq_true hw) (State.levelArrives_pending ..)

theorem execLevelRelease_next (hw : w < 2 ^ 128) : execLevelRelease w s = .next (s.levelReleased w) :=
  onUnit_runs (decide_eq_true hw) (State.levelReleased_pending ..)

section
variable (ho : s.pointingOpen = true) (hd : s.declared w = true)
include ho hd

theorem State.signalArrives_waits (h2 : bits w 83 3 ≠ 2) (h4 : bits w 83 3 ≠ 4) :
    s.signalArrives w = s.holdSignal w := by
  unfold State.signalArrives
  rw [if_pos (by simp [ho, hd]), if_neg h2, if_neg h4]

theorem State.signalArrives_leaves (h4 : bits w 83 3 = 4) : s.signalArrives w = s.outbound w := by
  unfold State.signalArrives
  rw [if_pos (by simp [ho, hd]), if_neg (by omega), if_pos h4]

/-- An arrival counts at the brick node, or at the root node where a node sent it. -/
theorem State.levelArrives_counts {d : LevelDecl} (h2 : bits w 83 3 = 2) (hl : s.levelDecl (bits w 32 8) = some d) :
    s.levelArrives w = s.countArrival d
      (if bits w 5 2 = 0 then brickNode (bits w 92 4) d.level else rootNode d.level)
      (nearestCourse s.prog.course 16 (bits w 67 16)) := by
  unfold State.levelArrives
  rw [if_pos (by simp [ho, hd, h2]), hl]

/-- A release goes on to the child modules unless it is this module's own, and waits at the brick nodes and the root
node. -/
theorem State.levelReleased_waits {d : LevelDecl} (h3 : bits w 83 3 = 3) (hl : s.levelDecl (bits w 32 8) = some d) :
    s.levelReleased w =
      let l := nearestCourse s.prog.course 16 (bits w 67 16)
      let own := bits w 17 15 == s.reg Reg.deviceId
      let u := if own then s else d.children.foldl (fun t c =>
        t.outbound (outboundWord c.2.1 c.1 3 (c.2.2 * 64) l 0 0 d.level (t.nodeSource (t.rootBrick d.level)))) s
      let bricks := (List.range 16).filter fun b => (u.level (brickNode b d.level)).expected != 0
      let one (t : Nat) : Signal :=
        { kind := 3, target := t, number := d.level, op := 0, operand := 0, landing := l, device := bits w 17 15,
          brick := bits w 13 4, cluster := 0, position := 0, source := 2, counted := false }
      { u with point := { u.point with signals := u.point.signals ++ (bricks ++ [255]).map one } } := by
  unfold State.levelReleased
  rw [if_pos (by simp [ho, hd, h3]), hl]

end

section
variable (h : s.pointingOpen = false ∨ s.declared w = false)
include h

theorem State.signalArrives_stray : s.signalArrives w = s.stray w :=
  if_neg (by rcases h with h | h <;> simp [h])

theorem State.levelArrives_stray : s.levelArrives w = s.stray w :=
  if_neg (by rcases h with h | h <;> simp [h])

theorem State.levelReleased_stray : s.levelReleased w = s.stray w :=
  if_neg (by rcases h with h | h <;> simp [h])

end

/-- Housekeeping that fits a course with low priorities changes nothing. -/
theorem execPointingHousekeeping_fits (h : s.lowPriorities = true) : execPointingHousekeeping true s = .next s :=
  done_of_eq (by simp [h]) (if_pos (by simp [h]))

/-- Other housekeeping is deferred and counted. -/
theorem execPointingHousekeeping_defers {fits : Bool} (h : fits = false ∨ s.lowPriorities = false) :
    execPointingHousekeeping fits s = .next (s.bump Reg.housekeepingDeferred) := by
  have hn : ¬(fits && s.lowPriorities) = true := by rcases h with h | h <;> simp [h]
  exact done_of_eq (by rw [if_neg hn, State.bump_pending]) (if_neg hn)

end

/-- Settles O30, command by command. That a release is taken at the root node and carried to every brick node there,
and which packets count as declared, is assumption 31. -/
theorem signalsReachTheirRouters : Obligations.SignalsReachTheirRouters := by
  intro w s hw
  refine ⟨fun ho hd h2 h4 => ?_, fun ho hd h4 => ?_, fun d ho h2 hd hl => ?_, fun d ho h3 hd hl => ?_,
    fun h => ⟨?_, ?_, ?_⟩, execPointingHousekeeping_fits, fun h => execPointingHousekeeping_defers (.inr h),
    execPointingHousekeeping_defers (.inl rfl)⟩
  · exact (execSignalArrival_next hw).trans (congrArg _ (State.signalArrives_waits ho hd h2 h4))
  · exact (execSignalArrival_next hw).trans (congrArg _ (State.signalArrives_leaves ho hd h4))
  · exact (execLevelArrival_next hw).trans (congrArg _ (State.levelArrives_counts ho hd h2 hl))
  · exact (execLevelRelease_next hw).trans (congrArg _ (State.levelReleased_waits ho hd h3 hl))
  · exact (execSignalArrival_next hw).trans (congrArg _ (State.signalArrives_stray h))
  · exact (execLevelArrival_next hw).trans (congrArg _ (State.levelArrives_stray h))
  · exact (execLevelRelease_next hw).trans (congrArg _ (State.levelReleased_stray h))

/-! ### Messages of slot 2 (R252 to R254) -/

section
variable {s : State} {port lane w : Nat}

theorem execPointingMessage_next (hp : port < 64) (hl : lane < 8) (hw : w < 2 ^ 128) :
    execPointingMessage port lane w s = .next (s.takeMessage port w) :=
  onUnit_runs (by simpa [portOk, laneOk, word128Ok, hp, hl] using hw) (State.takeMessage_pending ..)

theorem execPointingResend_next (hp : port < 64) (hr : s.portRole port = 0) :
    execPointingResend port s = .next (s.resendMessages port) :=
  onUnit_runs (by simp [portOk, hp, hr]) (State.resendMessages_pending ..)

/-- The Seq that a port takes next (R253). -/
def Port.nextSeqIn (p : Port) : Nat :=
  match p.lastSeq with
  | none => 0
  | some n => (n + 1) % 128

variable (ha : s.awake = true) (hr : s.portRole port = 0)
include ha hr

theorem State.takeMessage_damaged (hc : wordChecks w = false) :
    s.takeMessage port w = s.bump Reg.pointingDiscards := by
  unfold State.takeMessage
  rw [if_neg (by simp [ha, hr]), if_pos hc]

/-- A word that checks has its acknowledgement applied, and its message judged by its Seq. -/
theorem State.takeMessage_checks (hc : wordChecks w = true) :
    s.takeMessage port w =
      let p := (s.port port).acknowledge (bits w 97 7)
      let u := s.setPort port p
      if bit w 111 = false then u
      else if bits w 104 7 ≠ p.nextSeqIn then u.bump Reg.pointingDiscards
      else (u.setPort port { p with lastSeq := some p.nextSeqIn }).deliverMessage w := by
  unfold State.takeMessage
  rw [if_neg (by simp [ha, hr]), if_neg (by simp [hc])]
  rfl

end

/-- Settles O31: a slot 2 is decided by its check, its Valid bit and its Seq, in this order. -/
theorem slotMessagesTakenInOrder : Obligations.SlotMessagesTakenInOrder := by
  intro port lane w s hp hl hw ha hr p u expected
  refine ⟨fun hc => ?_, fun hc hv => ?_, fun hc hv hn => ?_, fun hc hv hn => ?_, execPointingResend_next hp hr⟩
  · exact (execPointingMessage_next hp hl hw).trans (congrArg _ (State.takeMessage_damaged ha hr hc))
  all_goals
    refine (execPointingMessage_next hp hl hw).trans (congrArg _ ((State.takeMessage_checks ha hr hc).trans ?_))
  · exact if_pos hv
  · exact (if_neg (by simp [hv])).trans (if_pos hn)
  · exact (if_neg (by simp [hv])).trans (if_neg (not_not.mpr hn))

end Sys2Proof.Machine

/-! PROOFS. Requests: descriptors, batches, orders, abort reports, the governor of variants and token records, each
operation branch by branch. -/

namespace Sys2Proof.Machine

/-! ### Sequence numbers (R263) -/

section
variable {c n : Nat}

theorem judgeSeq_next (h : n = (c + 1) % 2 ^ 32) : judgeSeq c n = 0 := if_pos h

theorem judgeSeq_duplicate (h : n ≠ (c + 1) % 2 ^ 32) (hn : n ≤ c) : judgeSeq c n = 1 :=
  (if_neg h).trans (if_pos hn)

theorem judgeSeq_gap (h : n ≠ (c + 1) % 2 ^ 32) (hn : c < n) : judgeSeq c n = 2 :=
  (if_neg h).trans (if_neg (Nat.not_le.mpr hn))

end

/-! ### Descriptors (R311) -/

section
variable {s : State} {qp : Nat} {d : Bytes}

theorem execDescriptor_next (hq : qp < 4096) : execDescriptor qp d s = .next (s.takeDescriptor qp d) :=
  onUnit_runs (decide_eq_true hq) (State.takeDescriptor_pending ..)

/-- On the head in Run or Hold a descriptor joins a queue that has room. -/
theorem State.queueDescriptor_queues (ho : s.onAir = true) (hl : s.limewash = false) (hr : s.reg Reg.domainRole = 1)
    (hq : s.serving.queue.length < 256) :
    s.queueDescriptor qp d =
      State.bump { s with serving := { s.serving with queue := s.serving.queue ++ [(qp, d)] } }
        Reg.descriptorsReceived := by
  unfold State.queueDescriptor
  rw [if_neg (by simp [ho, hl, hr]), if_neg (by omega)]

variable (hs : (s.qp qp).state = 1) (hp : (s.qp qp).purpose = 1) (ha : s.awake = true)
include hs hp ha

theorem State.takeDescriptor_malformed (hl : d.length ≠ 256) :
    s.takeDescriptor qp d = s.bump Reg.descriptorsMalformed := by
  unfold State.takeDescriptor
  dsimp only
  rw [if_neg (by simp [hs, hp, ha]), if_pos hl]

variable (hl : d.length = 256)
include hl

/-- A descriptor of 256 bytes is judged by its Sequence. -/
theorem State.takeDescriptor_judges :
    s.takeDescriptor qp d =
      if judgeSeq (s.qp qp).received (field d 0 4) = 1 then s.bump Reg.descriptorDuplicates
      else if judgeSeq (s.qp qp).received (field d 0 4) = 2 then s.bump Reg.descriptorGaps
      else (s.setQp qp { s.qp qp with received := field d 0 4 }).queueDescriptor qp d := by
  unfold State.takeDescriptor
  dsimp only
  rw [if_neg (by simp [hs, hp, ha]), if_neg (not_not.mpr hl)]

theorem State.takeDescriptor_repeated (hn : field d 0 4 ≠ ((s.qp qp).received + 1) % 2 ^ 32)
    (hc : field d 0 4 ≤ (s.qp qp).received) : s.takeDescriptor qp d = s.bump Reg.descriptorDuplicates := by
  rw [State.takeDescriptor_judges hs hp ha hl, if_pos (judgeSeq_duplicate hn hc)]

theorem State.takeDescriptor_gap (hn : field d 0 4 ≠ ((s.qp qp).received + 1) % 2 ^ 32)
    (hc : (s.qp qp).received < field d 0 4) : s.takeDescriptor qp d = s.bump Reg.descriptorGaps := by
  rw [State.takeDescriptor_judges hs hp ha hl, judgeSeq_gap hn hc, if_neg (by decide), if_pos rfl]

theorem State.takeDescriptor_next (hn : field d 0 4 = ((s.qp qp).received + 1) % 2 ^ 32) :
    s.takeDescriptor qp d = (s.setQp qp { s.qp qp with received := field d 0 4 }).queueDescriptor qp d := by
  rw [State.takeDescriptor_judges hs hp ha hl, judgeSeq_next hn, if_neg (by decide), if_neg (by decide)]

end

/-! ### Batches and orders (R312, R315, R316) -/

section
variable {s : State} {qp x : Nat} {m : Bytes}

theorem execBatchBuild_next : execBatchBuild s = .next s.buildBatch := done_eq (State.buildBatch_pending s)

theorem State.buildBatch_builds (hr : s.prog.running = true) (hd : s.reg Reg.domainRole = 1)
    (hm : s.power.mode = .run) (hx : s.nextBatch ≤ s.prog.course + s.reg Reg.orderLead) :
    s.buildBatch = s.buildFor s.nextBatch :=
  if_pos ⟨hr, hd, hm, hx⟩

theorem State.buildBatch_waits (hx : s.prog.course + s.reg Reg.orderLead < s.nextBatch) : s.buildBatch = s :=
  if_neg fun ⟨_, _, _, h⟩ => absurd h (Nat.not_le.mpr hx)

theorem execOrderBatch_next (hq : qp < 4096) : execOrderBatch qp m s = .next (s.takeBatch qp m) :=
  onUnit_runs (decide_eq_true hq) (State.takeBatch_pending ..)

/-- A whole batch that a member's head sends on its order queue pair is judged by its sequence number. -/
theorem State.takeBatch_judges (hs : (s.qp qp).state = 1) (hp : (s.qp qp).purpose = 3) (ho : s.onAir = true)
    (hd : s.reg Reg.domainRole = 2) (hh : field m 6 2 = s.reg Reg.headDeviceId) (ha : s.planActive = true)
    (hl : m.length = 64 + 64 * field m 4 2) (hn : field m 4 2 ≤ 63) : s.takeBatch qp m = s.judgeBatch m := by
  unfold State.takeBatch
  dsimp only
  rw [if_neg (by simp [hs, hp, ho]), if_neg (by simp [hd, hh, ha, hl, hn])]

theorem State.judgeBatch_next (hn : field m 0 4 = (s.serving.batchIn + 1) % 2 ^ 32) :
    s.judgeBatch m =
      let b : Batch :=
        { seq := field m 0 4, effect := field m 8 8, orders := decodeOrders (field m 4 2) (m.drop 64) }
      { s with serving := { s.serving with batchIn := field m 0 4, batches := s.serving.batches ++ [b] } } := by
  unfold State.judgeBatch
  dsimp only
  rw [if_pos (judgeSeq_next hn)]

theorem State.judgeBatch_repeated (hn : field m 0 4 ≠ (s.serving.batchIn + 1) % 2 ^ 32)
    (hc : field m 0 4 ≤ s.serving.batchIn) : s.judgeBatch m = s.bump Reg.batchDiscards := by
  unfold State.judgeBatch
  dsimp only
  rw [judgeSeq_duplicate hn hc, if_neg (by decide), if_neg (by decide)]

theorem State.judgeBatch_gap (hn : field m 0 4 ≠ (s.serving.batchIn + 1) % 2 ^ 32)
    (hc : s.serving.batchIn < field m 0 4) :
    s.judgeBatch m = (s.bump Reg.batchDiscards).notice Note.batchSequenceGap srcModule
      (u32 (s.serving.batchIn + 1) ++ u32 (field m 0 4)) := by
  unfold State.judgeBatch
  dsimp only
  rw [judgeSeq_gap hn hc, if_neg (by decide), if_pos rfl]

theorem execOrderApply_next : execOrderApply s = .next s.applyOrders := done_eq (State.applyOrders_pending s)

theorem State.applyOrders_between (h : s.reachedAdmission = none) : s.applyOrders = s := by
  unfold State.applyOrders
  rw [h]

/-- At an admission course before the halt the batch that landed decides. -/
theorem State.applyOrders_admission (h : s.reachedAdmission = some x) (hh : s.haltDue = false) :
    s.applyOrders = (s.batchFor x).elim s.unbind.settleWeights fun b =>
      if b.admits.all s.admitReady then (s.applyBatch b).settleWeights else s := by
  unfold State.applyOrders
  rw [h]
  dsimp only
  rw [if_neg (by simp [hh])]
  cases s.batchFor x <;> rfl

end

/-! ### Abort reports (R317) -/

section
variable {s : State} {qp : Nat} {m : Bytes}

theorem execAbortReport_next (hq : qp < 4096) : execAbortReport qp m s = .next (s.takeAbortReport qp m) :=
  onUnit_runs (decide_eq_true hq) (State.takeAbortReport_pending ..)

variable (hh : s.headHears qp m = true)
include hh

/-- A report that names a slot and the tint it holds marks the slot aborted. -/
theorem State.takeAbortReport_marks :
    let t := s.bump Reg.abortReportsReceived
    field m 4 2 < t.tintSlots → (t.slot (field m 4 2)).tint = field m 6 2 →
    s.takeAbortReport qp m = t.markAborted (field m 4 2) (byteAt m 8) (field m 16 8) (field m 24 2) := by
  intro t hn ht
  unfold State.takeAbortReport
  rw [if_pos hh]
  exact if_pos ⟨hn, ht⟩

/-- A report of a slot that does not exist is counted only. -/
theorem State.takeAbortReport_noSlot :
    let t := s.bump Reg.abortReportsReceived
    t.tintSlots ≤ field m 4 2 → s.takeAbortReport qp m = t := by
  intro t hn
  unfold State.takeAbortReport
  rw [if_pos hh]
  exact if_neg fun h => absurd h.1 (Nat.not_lt.mpr hn)

end

/-! ### The governor of variants (R323) -/

/-- The state in which the governor weighs the share: both of its counts shown. -/
def State.weighs (s : State) (unprocessed : Nat) : State :=
  (s.setReg Reg.prefillTokensPending unprocessed).setReg Reg.decodeStreams
    (s.serving.slots.countP fun e => e.2.phase == 3)

/-- The variant nearest the share. -/
def State.nearestVariant (s : State) (plan : Plan) (unprocessed : Nat) : Option Nat :=
  plan.nearest ((s.weighs unprocessed).prefillShare unprocessed)

/-- The state that remembers the nearest variant as the last choice. -/
def State.weighed (s : State) (plan : Plan) (unprocessed : Nat) : State :=
  { s.weighs unprocessed with
    serving := { (s.weighs unprocessed).serving with lastChoice := s.nearestVariant plan unprocessed } }

section
variable {s : State} {p : Nat} {plan : Plan}

theorem execGovernorEvaluation_next : execGovernorEvaluation p s = .next (s.evaluate p) :=
  done_eq (State.evaluate_pending s p)

theorem State.evaluate_noPlan (h : s.thePlan = none) : s.evaluate p = s := by
  unfold State.evaluate
  rw [h]

variable (h : s.thePlan = some plan) (hd : s.reg Reg.domainRole = 1)
  (hc : s.reachedCourses.any (fun c => s.position plan c == plan.period / 2) = true)
include h hd hc

/-- At half a period the head chooses: the forced variant in Forced mode, else one that is nearest twice in a row. -/
theorem State.evaluate_chooses :
    let t := s.weighs p
    let w := s.weighed plan p
    let f := t.prefillShare p
    let best := s.nearestVariant plan p
    let now := t.reg Reg.activeVariant
    s.evaluate p =
      if w.reg Reg.governorMode = 1 then
        (if w.reg Reg.forcedVariant ≠ now then w.choose (w.reg Reg.forcedVariant) f else w)
      else if best.isSome && best == t.serving.lastChoice && best != some now then w.choose (best.getD now) f
      else w := by
  intro t w f best now
  unfold State.evaluate
  rw [h]
  dsimp only
  rw [if_neg (by simp [hd, hc])]
  rfl

theorem State.evaluate_forces (hm : (s.weighed plan p).reg Reg.governorMode = 1)
    (hf : (s.weighed plan p).reg Reg.forcedVariant ≠ (s.weighs p).reg Reg.activeVariant) :
    s.evaluate p = (s.weighed plan p).choose ((s.weighed plan p).reg Reg.forcedVariant)
      ((s.weighs p).prefillShare p) :=
  (State.evaluate_chooses h hd hc).trans ((if_pos hm).trans (if_pos hf))

theorem State.evaluate_forcedActive (hm : (s.weighed plan p).reg Reg.governorMode = 1)
    (hf : (s.weighed plan p).reg Reg.forcedVariant = (s.weighs p).reg Reg.activeVariant) :
    s.evaluate p = s.weighed plan p :=
  (State.evaluate_chooses h hd hc).trans ((if_pos hm).trans (if_neg (not_not.mpr hf)))

theorem State.evaluate_twice {b : Nat} (hm : (s.weighed plan p).reg Reg.governorMode ≠ 1)
    (hb : s.nearestVariant plan p = some b) (hl : (s.weighs p).serving.lastChoice = some b)
    (ha : b ≠ (s.weighs p).reg Reg.activeVariant) :
    s.evaluate p = (s.weighed plan p).choose b ((s.weighs p).prefillShare p) := by
  refine (State.evaluate_chooses h hd hc).trans ((if_neg hm).trans ?_)
  rw [hb, hl]
  exact if_pos (by simp [ha])

theorem State.evaluate_once (hm : (s.weighed plan p).reg Reg.governorMode ≠ 1)
    (hb : s.nearestVariant plan p ≠ (s.weighs p).serving.lastChoice) : s.evaluate p = s.weighed plan p :=
  (State.evaluate_chooses h hd hc).trans ((if_neg hm).trans (if_neg (by simp [hb])))

end

/-! ### Token records and their SENDs (R329, R332, R333) -/

section
variable {s : State} {r : Bytes} {n : Nat}

theorem execTokenRecord_next : execTokenRecord r s = .next (s.takeRecord r) := done_eq (State.takeRecord_pending s r)

section
variable (hl : r.length = 16) (hv : bit (byteAt r 14) 2 = false)
include hl hv

theorem State.takeRecord_discards (hs : s.liveSlot (field r 12 2) = false) :
    s.takeRecord r = s.bump Reg.recordsDiscarded := by
  unfold State.takeRecord
  dsimp only
  rw [if_neg (by simp [hl, hv]), if_pos hs]

/-- A record of a stream in service overruns where it stops nothing and its places are full, else it passes. -/
theorem State.takeRecord_live (hs : s.liveSlot (field r 12 2) = true) :
    let slot := field r 12 2
    let x := s.slot slot
    let reason := x.stopReason (field r 0 4)
    s.takeRecord r =
      if reason = 0 ∧ (s.qp x.qp).tokenFits = false then s.overrun slot
      else s.passRecord slot (field r 0 4) (field r 4 4) (byteAt r 14) reason := by
  unfold State.takeRecord
  dsimp only
  rw [if_neg (by simp [hl, hv]), if_neg (by simp [hs])]

end

theorem execRecordSend_next (hq : n < 4096) : execRecordSend n s = .next (s.sendRecords n) :=
  onUnit_runs (decide_eq_true hq) (State.sendRecords_pending ..)

/-- With the ingress link down the records wait. -/
theorem State.sendRecords_linkDown (h : s.reg (Reg.ethLinkState (s.qp n).ingress) = 0) : s.sendRecords n = s :=
  if_pos (.inr (.inr (.inr h)))

/-- The placed records that one SEND carries leave the buffer together. -/
theorem State.sendRecords_sends (hs : (s.qp n).state = 1) (hh : (s.qp n).isHeld = false) :
    let q := s.qp n
    let l := q.placed.take q.sendRecords
    l ≠ [] → s.reg (Reg.ethLinkState q.ingress) ≠ 0 →
    let t := s.setQp n { q with buffer := q.buffer.drop l.length }
    let t := t.bumpBy Reg.tokensEmitted (l.countP fun e => decide (e.kind ≤ 1))
    let t := t.bumpBy Reg.streamsEnded (l.countP fun e => e.kind == 1 || e.kind == 2)
    s.sendRecords n = t.sendQp n 2 (l.flatMap (·.data)) := by
  intro q l hl hu
  have hq : ¬(q.state ≠ 1 ∨ q.isHeld = true ∨ l.isEmpty = true ∨ s.reg (Reg.ethLinkState q.ingress) = 0) := by
    simpa [q, hs, hh, hl] using hu
  exact if_neg hq

end

/-- Settles O48, command by command, from the branches of each operation. Which order queue pair serves a module is
assumption 20; that D counts the slots whose published Phase is 3, and that batches are taken while a plan is armed, is
assumption 41. -/
theorem requestsAreServed : Obligations.RequestsAreServed := by
  intro qp m p s q
  refine ⟨fun hq hs hp ha => ⟨fun hl => ?_, fun hl => ⟨fun hn hc => ?_, fun hn hc => ?_, fun hn ho hw hr hlen => ?_⟩⟩,
    ⟨fun hr hd hm hx => ?_, fun hx => ?_⟩,
    fun hq hs hp ho hd hh ha hl hk => ⟨fun hc => ?_, fun hn hc => ?_, fun hn hc => ?_⟩,
    ⟨fun h => ?_, fun x h hh => ⟨fun hb => ?_, fun b hb hr => ?_, fun b hb hr => ?_⟩⟩,
    fun hq hh => ⟨fun hn ht => ?_, fun hn => ?_⟩,
    ⟨fun h => ?_, fun plan h hd hc => ⟨fun hm => ⟨fun hf => ?_, fun hf => ?_⟩,
      fun hm => ⟨fun b hb hl ha => ?_, fun hb => ?_⟩⟩⟩,
    fun hl hv => ⟨fun hs => ?_, fun hs => ⟨fun hf => ?_, fun hz hf => ?_⟩⟩,
    fun hq hs hh => ⟨fun hu => ?_, fun hl hu => ?_⟩⟩
  · exact (execDescriptor_next hq).trans (congrArg _ (State.takeDescriptor_malformed hs hp ha hl))
  · exact (execDescriptor_next hq).trans (congrArg _ (State.takeDescriptor_repeated hs hp ha hl hn hc))
  · exact (execDescriptor_next hq).trans (congrArg _ (State.takeDescriptor_gap hs hp ha hl hn hc))
  · exact (execDescriptor_next hq).trans (congrArg _ ((State.takeDescriptor_next hs hp ha hl hn).trans
      (State.queueDescriptor_queues ho hw hr hlen)))
  · exact execBatchBuild_next.trans (congrArg _ (State.buildBatch_builds hr hd hm hx))
  · exact execBatchBuild_next.trans (congrArg _ (State.buildBatch_waits hx))
  · exact (execOrderBatch_next hq).trans (congrArg _ ((State.takeBatch_judges hs hp ho hd hh ha hl hk).trans
      (State.judgeBatch_next hc)))
  · exact (execOrderBatch_next hq).trans (congrArg _ ((State.takeBatch_judges hs hp ho hd hh ha hl hk).trans
      (State.judgeBatch_repeated hn hc)))
  · exact (execOrderBatch_next hq).trans (congrArg _ ((State.takeBatch_judges hs hp ho hd hh ha hl hk).trans
      (State.judgeBatch_gap hn hc)))
  · exact execOrderApply_next.trans (congrArg _ (State.applyOrders_between h))
  · exact execOrderApply_next.trans (congrArg _ ((State.applyOrders_admission h hh).trans (by rw [hb]; rfl)))
  · exact execOrderApply_next.trans (congrArg _ ((State.applyOrders_admission h hh).trans
      (by rw [hb]; exact if_pos hr)))
  · exact execOrderApply_next.trans (congrArg _ ((State.applyOrders_admission h hh).trans
      (by rw [hb]; exact if_neg (by simp [hr]))))
  · exact (execAbortReport_next hq).trans (congrArg _ (State.takeAbortReport_marks hh hn ht))
  · exact (execAbortReport_next hq).trans (congrArg _ (State.takeAbortReport_noSlot hh hn))
  · exact execGovernorEvaluation_next.trans (congrArg _ (State.evaluate_noPlan h))
  · exact execGovernorEvaluation_next.trans (congrArg _ (State.evaluate_forces h hd hc hm hf))
  · exact execGovernorEvaluation_next.trans (congrArg _ (State.evaluate_forcedActive h hd hc hm hf))
  · exact execGovernorEvaluation_next.trans (congrArg _ (State.evaluate_twice h hd hc hm hb hl ha))
  · exact execGovernorEvaluation_next.trans (congrArg _ (State.evaluate_once h hd hc hm hb))
  · exact execTokenRecord_next.trans (congrArg _ (State.takeRecord_discards hl hv hs))
  · exact execTokenRecord_next.trans (congrArg _ ((State.takeRecord_live hl hv hs).trans
      (if_neg fun h => hf.elim (· h.1) (ne_true_of_eq_false h.2))))
  · exact execTokenRecord_next.trans (congrArg _ ((State.takeRecord_live hl hv hs).trans (if_pos ⟨hz, hf⟩)))
  · exact (execRecordSend_next hq).trans (congrArg _ (State.sendRecords_linkDown hu))
  · exact (execRecordSend_next hq).trans (congrArg _ (State.sendRecords_sends hs hh hl hu))

end Sys2Proof.Machine

/-! PROOFS. Weights: loads, records, credit, switches, discards and unloads, what each request is judged and what each
record leaves. -/

namespace Sys2Proof.Machine

/-! ### Requests under the governor (R520) -/

section
variable {s : State} {own : State → Nat} {a port value : Nat} {start : State → State}

/-- A request whose own conditions fail is refused with their code. -/
theorem governed_refuses {rc : Nat} (ho : own s = rc) (hr : rc ≠ rcOk) :
    s.governed own a port value start = (rc, s) := by
  subst ho
  exact if_pos hr

/-- A request that another activity blocks is held, counted and reported while the queue has room. -/
theorem governed_holds {b : Nat} (ho : own s = rcOk) (hb : s.blocker a port = some b) (hl : s.held.length < 8) :
    s.governed own a port value start =
      let w : State := { s with held := s.held ++ [{ activity := a, port := port, value := value }] }
      let w := (w.bump Reg.governedTotal).setReg Reg.lastGoverned (a * 256 + b)
      (rcGoverned, w.notice Note.maintenanceGoverned srcModule (u8 a ++ u8 b)) := by
  unfold State.governed State.govern State.holdRequest
  dsimp only
  rw [if_neg (by simp [ho]), hb]
  exact if_neg (by omega)

end

/-! ### Loads (R354, R361, R365) -/

section
variable {s t : State} {v : Via} {n rc : Nat} {p : Plan} {keep : List Keep}

theorem execLoadGeneration_next (h : s.grantsNumber v 0x6000 1 1 n = true)
    (ha : (s.countRequest v).governed (State.judgeGeneration n) 5 0 n (State.startGeneration n) = (rc, t)) :
    execLoadGeneration v n s = .next (t.respond v 0x6000 1 2 rc []) :=
  done_writeNumber (act := fun s => s.governed (State.judgeGeneration n) 5 0 n (State.startGeneration n)) h ha fun u =>
    State.governed_pending u _ _ _ _ _ (State.startGeneration_pending n)

theorem execLoadAdapter_next (h : s.grantsNumber v 0x6000 2 3 n = true)
    (ha : (s.countRequest v).governed (State.judgeAdapter n) 5 1 n (State.startAdapter n) = (rc, t)) :
    execLoadAdapter v n s = .next (t.respond v 0x6000 2 2 rc []) :=
  done_writeNumber (act := fun s => s.governed (State.judgeAdapter n) 5 1 n (State.startAdapter n)) h ha fun u =>
    State.governed_pending u _ _ _ _ _ (State.startAdapter_pending n)

theorem execLoadAbort_next (h : s.grantsNumber v 0x6000 8 7 1 = true) :
    execLoadAbort v 1 s = .next ((s.countRequest v).endSession.answerOk v) :=
  done_writeNumber (act := fun s => (rcOk, s.endSession)) h rfl State.endSession_pending

theorem State.sessionFree_of_unbarred (hb : s.sessionBarred = false) : s.weights.session.isSome = false := by
  unfold State.sessionBarred at hb
  simp only [Bool.or_eq_false_iff] at hb
  obtain ⟨⟨-, hfree⟩, -⟩ := hb
  exact hfree

section
variable (hp : s.anyPlan = some p)
include hp

/-- A LoadGeneration whose conditions hold is judged Ok. -/
theorem State.judgeGeneration_ok (h0 : n ≠ 0) (hn : s.sideOf n = none) (hb : s.sessionBarred = false)
    (hr : s.prog.running = true ∨ s.reg (Reg.sideState 0) ≠ 2 ∧ s.reg (Reg.sideState 1) ≠ 2)
    (hk : s.keepFor p true = some keep) {side : Nat} (he : s.emptySide = some side) :
    State.judgeGeneration n s = rcOk := by
  have hstopped : ¬(s.prog.running = false ∧ (s.reg (Reg.sideState 0) = 2 ∨ s.reg (Reg.sideState 1) = 2)) := by
    rcases hr with hr | ⟨h0, h1⟩
    · simp [hr]
    · simp [h0, h1]
  unfold State.judgeGeneration
  rw [if_neg (by simp [h0, hn]), if_neg (by simp [hb]), if_neg hstopped, hp]
  dsimp only
  rw [if_neg (by simp [hk]), if_neg (by simp [he])]

theorem State.startGeneration_begins (hk : s.keepFor p true = some keep) {side : Nat} (he : s.emptySide = some side) :
    State.startGeneration n s = s.beginSession p true n side 0 keep := by
  unfold State.startGeneration
  rw [hp, he]
  dsimp only
  rw [hk, Option.getD_some]

/-- A LoadAdapter whose conditions hold is judged Ok. -/
theorem State.judgeAdapter_ok (hv : n = adapterId n + adapterBase n * 2 ^ 16) (h0 : adapterBase n ≠ 0)
    (ha : s.adapterState (adapterId n) = 0) (hb : s.sessionBarred = false)
    (hr : p.regions.any (fun r => r.kind == 6) = true) (hk : s.keepFor p false = some keep) :
    State.judgeAdapter n s = rcOk := by
  unfold State.judgeAdapter
  rw [if_neg (not_or.mpr ⟨not_not.mpr hv, h0⟩), if_neg (by simp [ha, State.sessionFree_of_unbarred hb]), hp]
  dsimp only
  rw [if_neg (by simp only [hr, Bool.not_true, Bool.false_eq_true, not_false_iff]), if_neg (by simp [hb]),
    if_neg (by simp [hk])]

theorem State.startAdapter_begins (hk : s.keepFor p false = some keep) :
    State.startAdapter n s = s.beginSession p false (adapterId n) 0 (adapterBase n) keep := by
  unfold State.startAdapter
  rw [hp]
  dsimp only
  rw [hk, Option.getD_some]

end

end

/-! ### Weight records and credit (R357 to R361) -/

section
variable {s : State} {x : Session} {m : Bytes}

theorem execWeightRecord_next : execWeightRecord s = .next s.processRecord := done_eq (State.processRecord_pending s)

theorem execCreditSend_next : execCreditSend s = .next s.creditTick := done_eq (State.creditTick_pending s)

section
variable (hx : s.weights.session = some x)
include hx

theorem State.creditTick_sends : s.creditTick = s.sendCredit x := by
  unfold State.creditTick
  rw [hx]

/-- Nothing is processed before a record has landed, and outside Run. -/
theorem State.processRecord_waits (h : x.accepted < x.processed + 1 ∨ s.power.mode ≠ .run) : s.processRecord = s := by
  unfold State.processRecord
  rw [hx]
  exact if_pos h

/-- The bytes of the next record at the ring, with its check. -/
def State.nextRecord (s : State) (x : Session) : Bytes :=
  s.load (x.ring + (x.processed + 1) % max 1 x.positions * (x.granules * 64)) (x.granules * 64)

variable (ha : x.processed + 1 ≤ x.accepted) (hm : s.power.mode = .run)
include ha hm

/-- On the fabric a record whose check is wrong is asked for again and reported. -/
theorem State.processRecord_goesBack (hf : x.fabric = true)
    (hc : field (s.nextRecord x) 16 4 ≠ crc32c (coveredBytes x (s.nextRecord x))) :
    s.processRecord =
      let t := s.bump Reg.recordCheckFailures
      let t : State := { t with weights := { t.weights with
        session := some { x with accepted := x.processed, resend := x.processed + 1 } } }
      t.notice Note.weightRecordFault srcModule (u32 (x.processed + 1) ++ u16 x.upstream) := by
  unfold State.processRecord
  rw [hx]
  dsimp only
  rw [if_neg (not_or.mpr ⟨Nat.not_lt.mpr ha, not_not.mpr hm⟩)]
  exact if_pos ⟨hf, hc⟩

/-- Any other record is kept, counted and forwarded, and the last one completes the session. -/
theorem State.processRecord_keeps
    (hc : x.fabric = false ∨ field (s.nextRecord x) 16 4 = crc32c (coveredBytes x (s.nextRecord x))) :
    let i := x.processed + 1
    let a := x.ring + i % max 1 x.positions * (x.granules * 64)
    let r := s.nextRecord x
    let crc := crc32c (coveredBytes x r)
    let r' := slice r 0 16 ++ leBytes 4 crc ++ r.drop 20
    let y : Session := { x with
      processed := i, resend := 0,
      digest := x.digest.absorb (if x.generation then u8 (byteAt r 7) ++ coveredBytes x r else coveredBytes x r) }
    let t := ((s.store a r').keepRecord x r' crc).setReg Reg.processedCount i
    let t := State.queueForward { t with weights := { t.weights with session := some y } } i r'
    s.processRecord = if i = x.total then t.completeSession y else t := by
  intro i a r crc r' y t' t
  unfold State.processRecord
  rw [hx]
  dsimp only
  rw [if_neg (not_or.mpr ⟨Nat.not_lt.mpr ha, not_not.mpr hm⟩)]
  exact if_neg fun h => hc.elim (fun hf => by simp [hf] at h) h.2

end

theorem State.sendCredit_fabric (hf : x.fabric = true) : s.sendCredit x = s := if_pos hf

/-- What a credit message leaves of the records on their way downstream (R360). -/
def Forward.credited (w : Forward) (m : Bytes) : Forward :=
  let again := field m 16 4
  { records := w.records.filter fun e => decide (field m 8 4 < e.1), processed := field m 8 4,
    released := field m 12 4, positions := field m 20 4,
    next := if again ≠ 0 ∧ again ≤ w.next then again else w.next,
    sent := if again ≠ 0 ∧ again ≤ w.next then 0 else w.sent }

theorem State.takeCredit_credits :
    s.takeCredit m = { s with weights := { s.weights with forward := s.weights.forward.credited m } } := by
  unfold State.takeCredit Forward.credited
  simp

theorem execCreditMessage_next (hl : m.length = 64) (ha : s.awake = true) :
    execCreditMessage m s = .next (s.takeCredit m) :=
  done_of_eq (by rw [if_pos ⟨hl, ha⟩, State.takeCredit_pending]) (if_pos ⟨hl, ha⟩)

end

/-! ### Switches, discards and unloads (R362 to R366) -/

section
variable {s t : State} {v : Via} {n rc : Nat}

theorem execSwitchCourse_next (h : s.grantsNumber v 0x6020 1 4 n = true)
    (ha : (s.countRequest v).governed (State.judgeSwitch n) 6 0 n (fun s => s.setReg Reg.pendingSwitch n) = (rc, t)) :
    execSwitchCourse v n s = .next (t.respond v 0x6020 1 2 rc []) :=
  done_writeNumber
    (act := fun s => s.governed (State.judgeSwitch n) 6 0 n fun s => s.setReg Reg.pendingSwitch n) h ha fun u =>
    State.governed_pending u _ _ _ _ _ fun w => State.setReg_pending w _ n

section
variable (hp : s.thePlan.isSome = true)
include hp

/-- While a plan runs the course decides first, then the sides and the switch that is pending. -/
theorem State.judgeSwitch_running :
    State.judgeSwitch n s =
      if !s.isAdmission n ∨ n < s.prog.course + s.reg Reg.orderLead + 16 then rcRangeError
      else if (s.sideIn 2).isNone ∨ s.reg Reg.pendingSwitch ≠ allOnes64 then rcStateRefused
      else rcOk := by
  obtain ⟨p, hp⟩ := Option.isSome_iff_exists.mp hp
  unfold State.judgeSwitch
  rw [hp]

theorem State.judgeSwitch_ok (ha : s.isAdmission n = true) (hn : s.prog.course + s.reg Reg.orderLead + 16 ≤ n)
    (hs : (s.sideIn 2).isSome = true) (hw : s.reg Reg.pendingSwitch = allOnes64) : State.judgeSwitch n s = rcOk := by
  have hside : ¬((s.sideIn 2).isNone = true ∨ s.reg Reg.pendingSwitch ≠ allOnes64) := by
    rw [← Option.not_isSome, hs]
    simp [hw]
  rw [State.judgeSwitch_running hp, if_neg (not_or.mpr ⟨by simp [ha], Nat.not_lt.mpr hn⟩), if_neg hside]

theorem State.judgeSwitch_range (h : s.isAdmission n = false ∨ n < s.prog.course + s.reg Reg.orderLead + 16) :
    State.judgeSwitch n s = rcRangeError := by
  rw [State.judgeSwitch_running hp, if_pos (by simpa using h)]

end

theorem execGenerationSwitch_next : execGenerationSwitch s = .next s.switchGeneration :=
  done_eq (State.switchGeneration_pending s)

theorem State.switchGeneration_waits
    (h : s.reg Reg.pendingSwitch = allOnes64 ∨ s.prog.course < s.reg Reg.pendingSwitch) : s.switchGeneration = s :=
  if_pos (.inr h)

/-- At the switch course the complete side comes into force, counted and reported. -/
theorem State.switchGeneration_switches {side : Nat} (hr : s.prog.running = true)
    (hn : s.reg Reg.pendingSwitch ≠ allOnes64) (hc : s.reg Reg.pendingSwitch ≤ s.prog.course) :
    let t := s.setReg Reg.pendingSwitch allOnes64
    t.sideIn 2 = some side →
    let w := (t.putInForce side).bump Reg.switches
    s.switchGeneration = w.notice Note.generationSwitched srcModule
      (u8 (w.reg Reg.inForce) ++ u8 (t.reg Reg.inForce) ++ u64 (s.reg Reg.pendingSwitch)) := by
  intro t hs w
  unfold State.switchGeneration
  dsimp only
  rw [if_neg (by simp [hr, hn, hc]), hs]

theorem execGenerationDiscard_next (h : s.grantsNumber v 0x6020 5 1 n = true)
    (ha : (s.countRequest v).discardGeneration n = (rc, t)) :
    execGenerationDiscard v n s = .next (t.respond v 0x6020 5 2 rc []) :=
  done_writeNumber (act := fun s => s.discardGeneration n) h ha fun u => State.discardGeneration_pending u n

theorem State.discardGeneration_absent (h : s.sideOf n = none) : s.discardGeneration n = (rcAbsent, s) := by
  unfold State.discardGeneration
  rw [h]

/-- A complete generation that nothing is bound to, with no switch pending, is to be discarded. -/
theorem State.discardGeneration_discards {i : Nat} (h : s.sideOf n = some i) (hs : s.reg (Reg.sideState i) = 2)
    (hb : s.boundCount n = 0) (hw : s.reg Reg.pendingSwitch = allOnes64) :
    s.discardGeneration n = (rcOk, { s with weights := { s.weights with discard := some i } }) := by
  unfold State.discardGeneration
  rw [h]
  exact if_neg (by simp [hs, hb, hw])

theorem execAdapterUnload_next (h : s.grantsNumber v 0x6030 5 2 n = true)
    (ha : (s.countRequest v).unloadAdapter n = (rc, t)) :
    execAdapterUnload v n s = .next (t.respond v 0x6030 5 2 rc []) :=
  done_writeNumber (act := fun s => s.unloadAdapter n) h ha fun u => State.unloadAdapter_pending u n

theorem State.unloadAdapter_refuses (hn : n < 1024) (h : s.adapterState n ≠ 2) :
    s.unloadAdapter n = (rcStateRefused, s) := by
  unfold State.unloadAdapter
  rw [if_neg (by omega), if_pos (.inl h)]

/-- An Available adapter that no stream and no order uses is cleared and unloads. -/
theorem State.unloadAdapter_clears (hn : n < 1024) (h : s.adapterState n = 2) (hb : s.adapterBound n = false)
    (hr : s.reg Reg.domainRole ≠ 1) :
    s.unloadAdapter n =
      let t := (s.setBlobByte Blob.adapterStates n 3).clearPlaces n
      (rcOk, { t with weights := { t.weights with unloading := t.weights.unloading ++ [n] } }) := by
  unfold State.unloadAdapter
  rw [if_neg (by omega), if_neg (by simp [h, hb, hr])]

end

/-- Settles O49, command by command, from what each request is judged and what each record leaves. That an unload of an
adapter that is not Available answers StateRefused, that a record whose check fails on the fabric is not accepted, and
that an adapter's session is governed as any load, is assumption 32. -/
theorem weightsLoadAndSwitch : Obligations.WeightsLoadAndSwitch := by
  intro v n m s u
  refine ⟨fun h h0 hn hb hr p keep side hp hk he => ⟨fun hg => ?_, fun b hg hl => ?_⟩,
    fun h hv h0 ha hb p keep hp hr hk hg => ?_, fun h => execLoadAbort_next h,
    fun x hx => ⟨fun hw => ?_, fun hi hm => ⟨fun hf hc => ?_, fun hc => ⟨fun hi => ?_, fun hi => ?_⟩⟩,
      fun hf => ?_, fun hf => ?_⟩,
    fun hl ha => ?_, fun h hp => ⟨fun ha hn hs hw hg => ?_, fun ho => ?_⟩,
    ⟨fun hw => ?_, fun hr hn hc side hs => ?_⟩, fun h => ⟨fun hn => ?_, fun i hi hs hb hw => ?_⟩,
    fun h => ⟨fun hn ha => ?_, fun hn ha hb hr => ?_⟩⟩
  · refine (execLoadGeneration_next h (governed_starts (State.judgeGeneration_ok hp h0 hn hb hr hk he) hg)).trans ?_
    rw [State.startGeneration_begins hp hk he, respond_ok]
  · exact execLoadGeneration_next h (governed_holds (State.judgeGeneration_ok hp h0 hn hb hr hk he) hg hl)
  · refine (execLoadAdapter_next h (governed_starts (State.judgeAdapter_ok hp hv h0 ha hb hr hk) hg)).trans ?_
    rw [State.startAdapter_begins hp hk, respond_ok]
  · exact execWeightRecord_next.trans (congrArg _ (State.processRecord_waits hx hw))
  · exact execWeightRecord_next.trans (congrArg _ (State.processRecord_goesBack hx hi hm hf hc))
  · exact execWeightRecord_next.trans (congrArg _ ((State.processRecord_keeps hx ‹_› hm hc).trans (if_pos hi)))
  · exact execWeightRecord_next.trans (congrArg _ ((State.processRecord_keeps hx ‹_› hm hc).trans (if_neg hi)))
  · exact execCreditSend_next.trans (congrArg _ (State.creditTick_sends hx))
  · exact execCreditSend_next.trans (congrArg _ ((State.creditTick_sends hx).trans (State.sendCredit_fabric hf)))
  · exact (execCreditMessage_next hl ha).trans (congrArg _ State.takeCredit_credits)
  · exact execSwitchCourse_next h (governed_starts (State.judgeSwitch_ok hp ha hn hs hw) hg)
  · exact execSwitchCourse_next h (governed_refuses (State.judgeSwitch_range hp ho) (by decide))
  · exact execGenerationSwitch_next.trans (congrArg _ (State.switchGeneration_waits hw))
  · exact execGenerationSwitch_next.trans (congrArg _ (State.switchGeneration_switches hr hn hc hs))
  · exact execGenerationDiscard_next h (State.discardGeneration_absent hn)
  · exact execGenerationDiscard_next h (State.discardGeneration_discards hi hs hb hw)
  · exact execAdapterUnload_next h (State.unloadAdapter_refuses hn ha)
  · exact execAdapterUnload_next h (State.unloadAdapter_clears hn ha hb hr)

end Sys2Proof.Machine

/-! PROOFS. Ingress: records of windows, frames, keys, packets, WRITEs, queue pairs and links, each operation branch by
branch. -/

namespace Sys2Proof.Machine

/-! ### Records of ingress windows (R263, R264) -/

section
variable {s : State} {qp w : Nat} {x : IngressWindow} {pos : Option Nat} {r : Bytes}

theorem execIngressRecord_next (hq : qp < 4096) (hw : w < 16) :
    execIngressRecord qp w r s = .next (s.takeIngress qp w r) :=
  onUnit_runs (by simp [qpOk, windowOk, hq, hw]) (State.takeIngress_pending ..)

/-- A record of the window's size, on a queue pair that may write there, is judged by its number. -/
theorem State.takeIngress_judges (hx : s.window w = some x) (hm : s.mayWrite qp w = true)
    (hl : r.length = x.granules * 64) : s.takeIngress qp w r = s.judgeRecord qp x none r := by
  unfold State.takeIngress
  rw [hx]
  exact if_pos (by simp [hm, hl])

theorem State.judgeRecord_repeated
    (hn : field r 0 4 ≠ (s.reg (Reg.landingCounter x.window) + 1) % 2 ^ 32)
    (hc : field r 0 4 ≤ s.reg (Reg.landingCounter x.window)) :
    s.judgeRecord qp x pos r = s.bump (Reg.duplicates x.window) := by
  unfold State.judgeRecord
  dsimp only
  rw [if_pos (judgeSeq_duplicate hn hc)]

theorem State.judgeRecord_gap
    (hn : field r 0 4 ≠ (s.reg (Reg.landingCounter x.window) + 1) % 2 ^ 32)
    (hc : s.reg (Reg.landingCounter x.window) < field r 0 4) :
    s.judgeRecord qp x pos r = s.windowGap qp x (field r 0 4) := by
  unfold State.judgeRecord
  dsimp only
  rw [judgeSeq_gap hn hc, if_neg (by decide), if_pos rfl]

section
variable (hn : field r 0 4 = (s.reg (Reg.landingCounter x.window) + 1) % 2 ^ 32)
include hn

/-- The next number beyond the credit overruns. -/
theorem State.judgeRecord_overruns (hk : s.creditOf x + x.positions < field r 0 4) :
    s.judgeRecord qp x pos r =
      ((s.bump (Reg.overruns x.window)).notice Note.ingressOverrun srcModule
        (u8 x.window ++ u32 (field r 0 4) ++ u32 (s.creditOf x))).wantStatus qp x.window 2 (field r 0 4) := by
  unfold State.judgeRecord
  dsimp only
  rw [judgeSeq_next hn, if_neg (by decide), if_neg (by decide), if_pos hk]

/-- The next number within the credit, addressed to no position, is stored. -/
theorem State.judgeRecord_stores (hk : field r 0 4 ≤ s.creditOf x + x.positions) :
    s.judgeRecord qp x none r =
      ((s.store (s.recordAddress x (field r 0 4)) r).setReg (Reg.landingCounter x.window) (field r 0 4)).ingressSet x
        (field r 0 4) := by
  unfold State.judgeRecord
  dsimp only
  rw [judgeSeq_next hn, if_neg (by decide), if_neg (by decide), if_neg (by omega)]
  rfl

end

end

/-! ### Frames and keys (R386 to R388, R411) -/

/-- A granted request of an ingress port ends with what its entry answers. -/
theorem onUnit_writeRequest {s t : State} {m : String} {ok : Bool} {v : Via} {index sub typ rc : Nat} {value : Bytes}
    {act : State → Nat × State} (hk : ok = true) (h : s.grants v index sub typ value = true)
    (ha : act (s.countRequest v) = (rc, t)) (hp : ∀ u, (act u).2.pending = u.pending) :
    s.onUnit m ok (s.writeRequest v index sub typ value act) = .next (t.respond v index sub 2 rc []) := by
  rw [onUnit_runs hk (State.writeRequest_pending s v index sub typ value act hp), writeRequest_grants h, ha]

section
variable {s t : State} {v : Via} {n rc : Nat} {f : EthFrame} {k : Bytes}

theorem execEthFrame_next (hn : n < 4) : execEthFrame n f s = .next (s.takeFrame n f) :=
  onUnit_runs (decide_eq_true hn) (State.takeFrame_pending ..)

section
variable (hu : s.reg (Reg.ethLinkState n) ≠ 0) (ho : s.onAir = true)
include hu ho

/-- A frame without a SecTAG on a port that is up passes unless MACsec is required. -/
theorem State.takeFrame_plain (hf : f.secAn = none) :
    s.takeFrame n f =
      if s.reg (Reg.macsecRequired n) = 1 then s.bump (Reg.macsecDropped n) else s.passFrame n f := by
  unfold State.takeFrame
  rw [if_neg (by simp [hu, ho]), hf]

/-- A frame under a SecTAG passes if a key in use accepts it. -/
theorem State.takeFrame_tagged {an : Nat} (hf : f.secAn = some an) :
    s.takeFrame n f = ((s.macsecOf n).accept an).elim
      (s.bump (if s.reg (Reg.macsecRequired n) = 1 then Reg.macsecDropped n else Reg.framesDropped n))
      fun m => (s.setMacsec n m).passFrame n f := by
  unfold State.takeFrame
  rw [if_neg (by simp [hu, ho]), hf]
  dsimp only
  cases (s.macsecOf n).accept an <;> rfl

end

theorem execTxSak_next (hn : n < 4) (h : s.grants v (0x7420 + n) 2 9 k = true)
    (ha : (s.countRequest v).putTxSak n k = (rc, t)) :
    execTxSak v n k s = .next (t.respond v (0x7420 + n) 2 2 rc []) :=
  onUnit_writeRequest (act := fun s => s.putTxSak n k) (decide_eq_true hn) h ha fun u => State.putTxSak_pending u n k

theorem execRxSak_next (hn : n < 4) (h : s.grants v (0x7420 + n) 3 9 k = true)
    (ha : (s.countRequest v).putRxSak n k = (rc, t)) :
    execRxSak v n k s = .next (t.respond v (0x7420 + n) 3 2 rc []) :=
  onUnit_writeRequest (act := fun s => s.putRxSak n k) (decide_eq_true hn) h ha fun u => State.putRxSak_pending u n k

theorem State.putTxSak_good (hk : keyRecordOk k = true) :
    s.putTxSak n k = (rcOk, ((s.setMacsec n { s.macsecOf n with tx := some k }).setReg (Reg.txAn n) (keyAn k)).setReg
      (Reg.txPacketNumber n) 1) :=
  if_pos hk

theorem State.putTxSak_bad (hk : keyRecordOk k = false) : s.putTxSak n k = (rcRangeError, s) :=
  if_neg (by simp [hk])

theorem State.putRxSak_good (hk : keyRecordOk k = true) :
    s.putRxSak n k = (rcOk, s.setMacsec n { s.macsecOf n with rx := some k, rxOld := (s.macsecOf n).rx }) :=
  if_pos hk

theorem State.putRxSak_bad (hk : keyRecordOk k = false) : s.putRxSak n k = (rcRangeError, s) :=
  if_neg (by simp [hk])

end

/-! ### Packets (R389, R395) -/

section
variable {s : State} {n qp : Nat} {op : RoceOp} {icrcOk ce : Bool}

theorem execRocePacket_next {qpn : Nat} (hn : n < 4) :
    execRocePacket n qpn op icrcOk ce s = .next (s.takePacket n qpn op icrcOk ce) :=
  onUnit_runs (decide_eq_true hn) (State.takePacket_pending ..)

variable (hu : s.reg (Reg.ethLinkState n) ≠ 0) (ho : s.onAir = true)
include hu ho

theorem State.takePacket_damaged {qpn : Nat} : s.takePacket n qpn op false ce = s.bump (Reg.icrcFailures n) := by
  unfold State.takePacket
  dsimp only
  rw [if_neg (by simp [hu, ho]), if_pos rfl]

/-- A sound packet acts on a Ready queue pair of its port, and is dropped otherwise. -/
theorem State.takePacket_sound :
    s.takePacket n (0x100000 + qp) op true ce =
      if 4096 ≤ qp ∨ (s.qp qp).state ≠ 1 ∨ (s.qp qp).ingress ≠ n then s.bump (Reg.framesDropped n)
      else (if ce then s.answerCe qp else s).takeOp qp op := by
  unfold State.takePacket
  dsimp only
  have hbelow : ¬0x100000 + qp < 0x100000 := by omega
  have habove : 0x101000 ≤ 0x100000 + qp ↔ 4096 ≤ qp := by omega
  rw [if_neg (by simp [hu, ho]), if_neg (by decide), Nat.add_sub_cancel_left]
  simp only [hbelow, habove, false_or]

end

/-! ### WRITEs (R392) -/

section
variable {s : State} {qp address rkey : Nat} {r : Bytes} {x : IngressWindow}

/-- An order queue pair takes no WRITE. -/
theorem execRdmaWrite_order (hq : qp < 4096) (hs : (s.qp qp).state = 1) (hp : (s.qp qp).purpose = 3) :
    execRdmaWrite qp address rkey r s = .next (s.nakQp qp 1) := by
  unfold execRdmaWrite
  rw [if_pos ⟨hs, hp⟩]
  exact onUnit_runs (decide_eq_true hq) (State.nakQp_pending ..)

/-- Any other queue pair judges it. -/
theorem execRdmaWrite_next (hq : qp < 4096) (hp : (s.qp qp).purpose ≠ 3) :
    execRdmaWrite qp address rkey r s = .next (s.takeWrite qp address rkey r) := by
  unfold execRdmaWrite
  rw [if_neg fun h => hp h.2]
  exact onUnit_runs (decide_eq_true hq) (State.takeWrite_pending ..)

variable (hs : (s.qp qp).state = 1) (ho : s.onAir = true)
include hs ho

theorem State.takeWrite_wrongKey (hk : rkey ≠ (s.qp qp).rkey) : s.takeWrite qp address rkey r = s.nakQp qp 3 := by
  unfold State.takeWrite
  dsimp only
  rw [if_neg (by simp [hs, ho]), if_pos hk]

/-- A WRITE of a request queue pair to a window it may write is a record of a position, or misses the window. -/
theorem State.takeWrite_window (hk : rkey = (s.qp qp).rkey) (hp : (s.qp qp).purpose = 1)
    (ht : address / 2 ^ 56 % 256 < 16) (hb : bit (field (s.qp qp).record 4 2) (address / 2 ^ 56 % 256) = true)
    (hx : s.window (address / 2 ^ 56 % 256) = some x) :
    s.takeWrite qp address rkey r =
      let off := address % 2 ^ 56
      if inTarget (x.granules * 64) x.positions off r.length then
        (s.transmit (s.qp qp).ingress (.ack qp)).judgeRecord qp x (some (off / (x.granules * 64))) r
      else s.nakQp qp 3 := by
  unfold State.takeWrite
  dsimp only
  rw [if_neg (by simp [hs, ho]), if_neg (not_not.mpr hk), if_pos ⟨hp, ht, hb⟩, hx]

end

/-! ### Queue pairs (R390, R391, R395) -/

section
variable {s t : State} {v : Via} {r : Bytes} {rc : Nat}

theorem execQpConfig_next (h : s.grants v 0x7400 2 9 r = true) (ha : (s.countRequest v).configQp r = (rc, t)) :
    execQpConfig v r s = .next (t.respond v 0x7400 2 2 rc []) :=
  onUnit_writeRequest (m := "QP_CONFIG") (act := fun s => s.configQp r) rfl h ha fun u => State.configQp_pending u r

theorem execQpReset_next (h : s.grantsNumber v 0x7400 4 7 1 = true) :
    execQpReset v 1 s =
      .next (((s.countRequest v).resetQp ((s.countRequest v).reg Reg.qpSelect)).answerOk v) :=
  done_writeNumber (act := fun s => (rcOk, s.resetQp (s.reg Reg.qpSelect))) h rfl fun _ => State.resetQp_pending ..

theorem State.configQp_range (h : r.length ≠ 64 ∨ qpRecordOk r = false) : s.configQp r = (rcRangeError, s) := by
  unfold State.configQp
  exact if_pos h

section
variable (hl : r.length = 64) (hk : qpRecordOk r = true) (hs : (s.qp (s.reg Reg.qpSelect)).state ≠ 1)
  (hi : allZero (s.blob (Blob.ipAddress (byteAt r 1))) = false)
include hl hk hs hi

/-- A request queue pair whose quota its port has no room for is refused. -/
theorem State.configQp_noRoom (hp : byteAt r 0 = 1) (hq : 65536 < s.quotaOf (byteAt r 1) + field r 26 4) :
    s.configQp r = (rcNoRoom, s) := by
  unfold State.configQp
  dsimp only
  rw [if_neg (by simp [hl, hk]), if_neg (by simp [hs, hi]), if_pos ⟨hp, hq⟩]

/-- Another record than the one held makes the queue pair Ready. -/
theorem State.configQp_readies (hr : (s.qp (s.reg Reg.qpSelect)).record ≠ r)
    (hq : byteAt r 0 ≠ 1 ∨ s.quotaOf (byteAt r 1) + field r 26 4 ≤ 65536) :
    s.configQp r = (rcOk, s.readyQp (s.reg Reg.qpSelect) r) := by
  unfold State.configQp
  dsimp only
  rw [if_neg (by simp [hl, hk]), if_neg (by simp [hs, hi]), if_neg (by omega), if_neg hr]

end

section
variable {qp imm : Nat} {data : Bytes} {l : List (Nat × Bytes)}

theorem execQpRetryTimeout_next (hq : qp < 4096) : execQpRetryTimeout qp s = .next (s.retryQp qp) :=
  onUnit_runs (decide_eq_true hq) (State.retryQp_pending ..)

theorem State.retryQp_idle (h : (s.qp qp).outstanding = []) : s.retryQp qp = s := by
  unfold State.retryQp
  dsimp only
  rw [h]

/-- The oldest unanswered message of a queue pair that is not paused goes again, up to seven times. -/
theorem State.retryQp_retries (h : (s.qp qp).outstanding = (imm, data) :: l) (hs : (s.qp qp).state = 1)
    (hp : (s.qp qp).paused = false) :
    s.retryQp qp =
      if 7 ≤ (s.qp qp).retries then s.qpFails qp 2
      else (s.setQp qp { s.qp qp with retries := (s.qp qp).retries + 1 }).transmit (s.qp qp).ingress
        (.send qp imm data) := by
  unfold State.retryQp
  dsimp only
  rw [h]
  exact if_neg (by simp [hs, hp])

end

end

/-! ### Links (R405) -/

section
variable {s : State} {n : Nat} {up : Bool}

theorem execIngressLinkChange_next (hn : n < 4) : execIngressLinkChange n up s = .next (s.ingressLink n up) :=
  onUnit_runs (decide_eq_true hn) (State.ingressLink_pending ..)

theorem State.ingressLink_same (h : s.reg (Reg.ethLinkState n) = flagNat up) : s.ingressLink n up = s :=
  if_pos (.inl h)

/-- A link that goes down, or comes up in Run or Hold outside Limewash, is shown and reported. -/
theorem State.ingressLink_changes (h : s.reg (Reg.ethLinkState n) ≠ flagNat up)
    (hu : up = true → s.onAir = true ∧ s.limewash = false) :
    s.ingressLink n up = (s.setReg (Reg.ethLinkState n) (flagNat up)).notice Note.ingressLinkChange (srcRole n)
      (u8 n ++ u8 (flagNat up)) := by
  have hn : ¬(s.reg (Reg.ethLinkState n) = flagNat up ∨ up = true ∧ (s.onAir = false ∨ s.limewash = true)) := by
    rintro (he | ⟨hup, hd⟩)
    · exact h he
    · simp [hu hup] at hd
  exact if_neg hn

end

/-- Settles O50, command by command, from the branches of each operation. That a frame whose SecTAG no key accepts
counts in FramesDropped where MACsec is not required, and that packet numbers begin at 1, is assumption 43. -/
theorem ingressServes : Obligations.IngressServes := by
  intro v n qp w r s u q
  refine ⟨fun x hq hw hx hm hl => ?_,
    fun f hn hu ho => ⟨fun hf hr => ?_, fun hf hr => ?_, fun an hf ha => ?_, fun an m hf ha => ?_⟩,
    fun hn => ⟨fun h => ⟨fun hk => ?_, fun hk => ?_⟩, fun h => ⟨fun hk => ?_, fun hk => ?_⟩⟩,
    fun op ce hn hu ho => ⟨?_, fun hq hs hi => ?_, fun hd => ?_⟩,
    fun address rkey hq hs => ⟨fun hp => ?_, fun hp ho hk => ?_,
      fun ho hk hp ht hb x hx => ⟨fun hi => ?_, fun hi => ?_⟩⟩,
    fun h => ⟨fun hb => ?_, fun hl hk hs hi hr => ⟨fun hp hq => ?_, fun hq => ?_⟩⟩, fun h => execQpReset_next h,
    fun hq => ⟨fun ho => ?_, fun imm data l ho hs hp => ⟨fun hr => ?_, fun hr => ?_⟩⟩,
    fun up hn => ⟨fun he => ?_, fun he hu => ?_⟩⟩
  · rw [exec_ingressRecord, execIngressRecord_next hq hw, State.takeIngress_judges hx hm hl]
    exact ⟨fun hn hc => congrArg _ (State.judgeRecord_repeated hn hc),
      fun hn hc => congrArg _ (State.judgeRecord_gap hn hc), fun hn hk => congrArg _ (State.judgeRecord_overruns hn hk),
      fun hn hk => congrArg _ (State.judgeRecord_stores hn hk)⟩
  · exact (execEthFrame_next hn).trans (congrArg _ ((State.takeFrame_plain hu ho hf).trans (if_pos hr)))
  · exact (execEthFrame_next hn).trans (congrArg _ ((State.takeFrame_plain hu ho hf).trans (if_neg hr)))
  · exact (execEthFrame_next hn).trans (congrArg _ ((State.takeFrame_tagged hu ho hf).trans (by rw [ha]; rfl)))
  · exact (execEthFrame_next hn).trans (congrArg _ ((State.takeFrame_tagged hu ho hf).trans (by rw [ha]; rfl)))
  · exact execTxSak_next hn h (State.putTxSak_good hk)
  · exact execTxSak_next hn h (State.putTxSak_bad hk)
  · exact execRxSak_next hn h (State.putRxSak_good hk)
  · exact execRxSak_next hn h (State.putRxSak_bad hk)
  · exact (execRocePacket_next hn).trans (congrArg _ (State.takePacket_damaged hu ho))
  · exact (execRocePacket_next hn).trans (congrArg _ ((State.takePacket_sound hu ho).trans
      (if_neg (by simp only [not_or, not_not]; exact ⟨Nat.not_le.mpr hq, hs, hi⟩))))
  · exact (execRocePacket_next hn).trans (congrArg _ ((State.takePacket_sound hu ho).trans (if_pos hd)))
  · exact execRdmaWrite_order hq hs hp
  · exact (execRdmaWrite_next hq hp).trans (congrArg _ (State.takeWrite_wrongKey hs ho hk))
  · exact (execRdmaWrite_next hq fun h3 => absurd (hp.symm.trans h3) (by decide)).trans
      (congrArg _ ((State.takeWrite_window hs ho hk hp ht hb hx).trans (if_pos hi)))
  · exact (execRdmaWrite_next hq fun h3 => absurd (hp.symm.trans h3) (by decide)).trans
      (congrArg _ ((State.takeWrite_window hs ho hk hp ht hb hx).trans (if_neg (ne_true_of_eq_false hi))))
  · exact execQpConfig_next h (State.configQp_range hb)
  · exact execQpConfig_next h (State.configQp_noRoom hl hk hs hi hp hq)
  · exact execQpConfig_next h (State.configQp_readies hl hk hs hi hr hq)
  · exact (execQpRetryTimeout_next hq).trans (congrArg _ (State.retryQp_idle ho))
  · exact (execQpRetryTimeout_next hq).trans (congrArg _ ((State.retryQp_retries ho hs hp).trans (if_pos hr)))
  · exact (execQpRetryTimeout_next hq).trans
      (congrArg _ ((State.retryQp_retries ho hs hp).trans (if_neg (Nat.not_le.mpr hr))))
  · exact (execIngressLinkChange_next hn).trans (congrArg _ (State.ingressLink_same he))
  · exact (execIngressLinkChange_next hn).trans (congrArg _ (State.ingressLink_changes he hu))

end Sys2Proof.Machine

/-! PROOFS. The host's function, the chain's enumeration, the DeviceId, and notices on both paths, each operation branch
by branch. -/

namespace Sys2Proof.Machine

/-! ### The function and its link (R396, R399, R407) -/

section
variable {s : State} {kind : FunctionReset} {state rate width : Nat}

/-- A function reset of any kind is the one reset. -/
theorem execFunctionReset_next : execFunctionReset kind s = .next s.resetFunction := by
  cases kind <;> exact done_eq (State.resetFunction_pending s)

/-- A reset of an awake module is counted and clears what the function holds. -/
theorem State.resetFunction_clears (ha : s.awake = true) :
    s.resetFunction =
      let t := s.bump Reg.functionResets
      { t with
        paths := { t.paths with
          ring := Ring.clear, gateway := [], msix := [],
          waiting := t.paths.waiting.filter fun w => !w.viaFunction } } :=
  if_pos ha

theorem execPcieLinkChange_next (hk : pcieOk state rate width = true) :
    execPcieLinkChange state rate width s = .next (s.linkTo state rate width) :=
  onUnit_runs hk (State.linkTo_pending ..)

/-- Another state, rate or width of the link is shown and reported. -/
theorem State.linkTo_changes (ha : s.awake = true)
    (h : (s.reg Reg.pcieLinkState, s.reg Reg.pcieRate, s.reg Reg.pcieWidth) ≠ (state, rate, width)) :
    s.linkTo state rate width =
      (((s.setReg Reg.pcieLinkState state).setReg Reg.pcieRate rate).setReg Reg.pcieWidth width).notice
        Note.pcieLinkChange srcModule (u8 state ++ u8 rate ++ u8 width) :=
  if_pos ⟨ha, h⟩

theorem State.linkTo_same
    (h : (s.reg Reg.pcieLinkState, s.reg Reg.pcieRate, s.reg Reg.pcieWidth) = (state, rate, width)) :
    s.linkTo state rate width = s :=
  if_neg fun hn => hn.2 h

theorem execIdeKmExchange_next {active : Bool} (ha : s.awake = true) :
    execIdeKmExchange active s = .next (s.setReg Reg.ideActive (flagNat active)) :=
  done_of_eq (by rw [if_pos ha]; exact State.setReg_pending ..) (if_pos ha)

end

/-! ### Enumeration (R401, R402) -/

section
variable {s : State} {node at_ : Nat} {serial : Bytes} {chainIn : Bool}

theorem execClaim_next : execClaim node chainIn s = .next (s.claimed node chainIn) := done_eq (State.claimed_pending ..)

theorem execConfirm_next : execConfirm node serial s = .next (s.confirmed node serial) :=
  done_eq (State.confirmed_pending ..)

theorem execClaimTimeout_next : execClaimTimeout s = .next s.claimLapses := done_eq (State.claimLapses_pending s)

theorem State.claimed_unselected : s.claimed node false = s := if_neg (by simp)

theorem State.confirmed_other (h : serial ≠ padTo 12 (s.blob Blob.serialNumber)) : s.confirmed node serial = s :=
  if_neg fun hn => h hn.2.2.1

section
variable (ha : s.awake = true) (hc : s.reg Reg.chainState ≠ 2) (h1 : 1 ≤ node) (h32 : node ≤ 32)
include ha hc h1 h32

/-- An unaddressed module with CHAIN_IN asserted answers a Claim, and remembers when. -/
theorem State.claimed_answers :
    s.claimed node true =
      let t := (s.setReg Reg.chainState 1).bump Reg.claimsAnswered
      let t : State := { t with paths := { t.paths with answered := some t.time.localCount } }
      t.emit (.chain broadcast (chainBytes 0x21 0 0 0 9 0 0 0 t.answerValue)) :=
  if_pos ⟨ha, hc, rfl, h1, h32⟩

/-- A Confirm with the module's serial number addresses it. -/
theorem State.confirmed_addresses (h : serial = padTo 12 (s.blob Blob.serialNumber)) :
    s.confirmed node serial =
      let t := ((s.setReg Reg.chainState 2).setReg Reg.chainNode node).setReg Reg.chainOut 1
      let t : State := { t with paths := { t.paths with answered := none } }
      let t := t.emit (.chainOut true)
      t.notice Note.chainAddressed srcModule (u8 node ++ padTo 6 (t.blob Blob.chainMac)) :=
  if_pos ⟨ha, hc, h, h1, h32⟩

end

/-- An Answer that no Confirm followed within 2¹⁶ courses lapses. -/
theorem State.claimLapses_late (h : s.paths.answered = some at_) (hc : s.reg Reg.chainState = 1)
    (hl : at_ + 65536 ≤ s.time.localCount) :
    s.claimLapses =
      let t := s.setReg Reg.chainState 0
      { t with paths := { t.paths with answered := none } } := by
  unfold State.claimLapses
  rw [h]
  exact if_pos ⟨hc, hl⟩

theorem State.claimLapses_idle (h : s.paths.answered = none) : s.claimLapses = s := by
  unfold State.claimLapses
  rw [h]

end

/-! ### DeviceId (R404) -/

section
variable {s t : State} {v : Via} {n rc : Nat}

theorem execDeviceIdWrite_next (h : s.grantsNumber v 0x1100 5 2 n = true)
    (ha : (s.countRequest v).writeDeviceId n = (rc, t)) :
    execDeviceIdWrite v n s = .next (t.respond v 0x1100 5 2 rc []) :=
  done_writeNumber (act := fun s => s.writeDeviceId n) h ha fun u => State.writeDeviceId_pending u n

theorem State.writeDeviceId_planned (h : s.planActive = true) : s.writeDeviceId n = (rcStateRefused, s) := if_pos h

theorem State.writeDeviceId_same (h : s.planActive = false) (hn : n = s.reg Reg.deviceId) :
    s.writeDeviceId n = (rcOk, s) :=
  (if_neg (ne_true_of_eq_false h)).trans (if_pos hn)

/-- Another DeviceId is taken and reported, and every trained port of the fabric and the bond retrains. -/
theorem State.writeDeviceId_changes (h : s.planActive = false) (hn : n ≠ s.reg Reg.deviceId) :
    s.writeDeviceId n =
      (rcOk, (List.range 64).foldl State.retrainIdentity ((s.setReg Reg.deviceId n).notice Note.deviceIdSet srcModule
        (u16 (s.reg Reg.deviceId) ++ u16 n))) :=
  (if_neg (ne_true_of_eq_false h)).trans (if_neg hn)

end

/-! ### Notices on the chain (R434, R437, R438) -/

section
variable {s : State} {code cls source : Nat} {payload : Bytes}

theorem execNoticeRaise_next (ha : s.awake = true) (hc : code < 2 ^ 16) (hk : cls ≤ 3) (hp : payload.length ≤ 48) :
    execNoticeRaise code cls source payload s = .next (s.raiseNotice code cls source payload) := by
  unfold execNoticeRaise
  rw [if_pos ha]
  exact onUnit_runs (by simp only [noticeOk, hc, hk, hp, decide_true, Bool.and_self]) (State.raiseNotice_pending ..)

end

section
variable {s : State} {mac : Nat} {f : Bytes} {l : List (Nat × Bytes)} {x : Notice} {q : List Notice}

theorem execNoticeSendChain_next : execNoticeSendChain s = .next s.chainTurn := done_eq (State.chainTurn_pending s)

variable (ha : s.awake = true) (hc : s.reg Reg.chainState = 2) (hk : s.keystoneDown = false)
include ha hc hk

/-- The turn of an addressed module goes to a response, then to a notice. -/
theorem State.chainTurn_response (hr : s.paths.responses = (mac, f) :: l) :
    s.chainTurn = State.emit { s with paths := { s.paths with responses := l } } (.chain mac f) := by
  unfold State.chainTurn
  rw [if_neg (by simp [ha, hc, hk]), hr]
  rfl

theorem State.chainTurn_idle (hr : s.paths.responses = []) (hq : s.paths.chainQueue = []) : s.chainTurn = s := by
  unfold State.chainTurn
  rw [if_neg (by simp [ha, hc, hk]), hr, hq]

/-- ChainNotices decides whether the oldest notice goes. -/
theorem State.chainTurn_notice (hr : s.paths.responses = []) (hq : s.paths.chainQueue = x :: q) :
    s.chainTurn =
      if s.reg Reg.chainNotices = 1 then
        State.emit { s with paths := { s.paths with chainQueue := q } } (.chain (leVal (s.blob Blob.noticeMac)) x.frame)
      else s := by
  unfold State.chainTurn
  rw [if_neg (by simp [ha, hc, hk]), hr, hq]
  rfl

end

/-! ### Notices in the ring (R435, R436, R445) -/

section
variable {s : State} {ok : Bool} {x : Notice} {l : List Notice}

theorem execNoticeRingWrite_next : execNoticeRingWrite ok s = .next (s.ringTurn ok) :=
  done_eq (State.ringTurn_pending ..)

variable (hq : s.paths.ringQueue = x :: l)
include hq

theorem State.ringTurn_full (hr : s.paths.ring.room = false) : s.ringTurn ok = s := by
  unfold State.ringTurn
  dsimp only
  rw [hq]
  exact if_pos (.inr (.inr (.inr hr)))

variable (ha : s.awake = true) (hk : s.keystoneDown = false) (he : s.paths.ring.state = 1)
  (hr : s.paths.ring.room = true)
include ha hk he hr

/-- A posted write that fails is a fault of the ring; else the oldest notice goes to host memory, then the producer
index, then the interrupt of its class. -/
theorem State.ringTurn_room :
    s.ringTurn ok =
      if ok = false then s.ringFaults
      else
        let r := s.paths.ring
        let next := (r.producer + 1) % 2 ^ 32
        let t : State := { s with paths := { s.paths with ringQueue := l, ring := { r with producer := next } } }
        let t := t.emit (.host (r.base + 128 * (r.producer % r.entries)) x.bytes)
        let t := t.emit (.host (r.base + 128 * r.entries) (u32 next))
        if bit r.vectorMask x.cls then t else t.emit (.msix x.cls) := by
  unfold State.ringTurn
  dsimp only
  rw [hq]
  exact if_neg (by simp [ha, hk, he, hr])

end

section
variable {s : State} {n : Nat}

theorem execRingControl_next (ha : s.awake = true) : execRingControl n s = .next (s.writeRingControl n) :=
  done_of_eq (by rw [if_pos ha]; exact State.writeRingControl_pending ..) (if_pos ha)

theorem State.writeRingControl_off (h : bit n 0 = false) :
    s.writeRingControl n =
      { s with paths := { s.paths with ring := { s.paths.ring with control := 0, state := 0 } } } :=
  if_pos h

/-- Enable has no effect on a ring that is enabled. -/
theorem State.writeRingControl_on (h : bit n 0 = true) (hc : s.paths.ring.control = 1) : s.writeRingControl n = s :=
  (if_neg (by simp [h])).trans (if_pos hc)

/-- Enable starts an empty ring, and one that is not valid faults. -/
theorem State.writeRingControl_starts (h : bit n 0 = true) (hc : s.paths.ring.control ≠ 1) :
    s.writeRingControl n =
      let t : State := { s with
        paths := { s.paths with ring := { s.paths.ring with control := 1, producer := 0, consumer := 0, state := 1 } } }
      if t.paths.ring.valid then t else t.ringFaults :=
  (if_neg (by simp [h])).trans (if_neg hc)

end

/-- Settles O51, command by command, from the branches of each operation. That Enable written to an enabled ring has no
effect, that a queued notice waits while ChainNotices is 0, that a Confirm is taken whatever became of its Answer, and
that CHAIN_OUT is asserted at once, is assumption 44. -/
theorem hostAndChainServe : Obligations.HostAndChainServe := by
  intro v n b s
  refine ⟨fun ha => ⟨fun kind => ?_, fun h1 h32 hc => ⟨?_, ?_, fun hb => ?_, fun hb => ?_⟩,
      fun state rate width hk => ⟨fun h => ?_, fun h => ?_⟩, fun active => execIdeKmExchange_next ha,
      fun code cls source hc hk hb => execNoticeRaise_next ha hc hk hb,
      fun h => ?_, fun h hc => ?_, fun h hc => ⟨fun hv => ?_, fun hv => ?_⟩⟩,
    fun at_ hs hc hl => ?_, fun hs => ?_,
    fun h => ⟨fun hp => ?_, fun hp hn => ?_, fun hp hn => ?_⟩,
    fun ha hc hk => ⟨fun mac f l hr => ?_, fun hr hq => ?_, fun x l hr hq => ⟨fun hn => ?_, fun hn => ?_⟩⟩,
    fun x l hq ha hk he => ⟨fun hr ok => ?_, fun hr => ⟨?_, ?_⟩⟩⟩
  · exact execFunctionReset_next.trans (congrArg _ (State.resetFunction_clears ha))
  · exact execClaim_next.trans (congrArg _ (State.claimed_answers ha hc h1 h32))
  · exact execClaim_next.trans (congrArg _ State.claimed_unselected)
  · exact execConfirm_next.trans (congrArg _ (State.confirmed_addresses ha hc h1 h32 hb))
  · exact execConfirm_next.trans (congrArg _ (State.confirmed_other hb))
  · exact (execPcieLinkChange_next hk).trans (congrArg _ (State.linkTo_changes ha h))
  · exact (execPcieLinkChange_next hk).trans (congrArg _ (State.linkTo_same h))
  · exact (execRingControl_next ha).trans (congrArg _ (State.writeRingControl_off h))
  · exact (execRingControl_next ha).trans (congrArg _ (State.writeRingControl_on h hc))
  · exact (execRingControl_next ha).trans (congrArg _ ((State.writeRingControl_starts h hc).trans (if_pos hv)))
  · exact (execRingControl_next ha).trans
      (congrArg _ ((State.writeRingControl_starts h hc).trans (if_neg (ne_true_of_eq_false hv))))
  · exact execClaimTimeout_next.trans (congrArg _ (State.claimLapses_late hs hc hl))
  · exact execClaimTimeout_next.trans (congrArg _ (State.claimLapses_idle hs))
  · exact execDeviceIdWrite_next h (State.writeDeviceId_planned hp)
  · exact execDeviceIdWrite_next h (State.writeDeviceId_same hp hn)
  · exact execDeviceIdWrite_next h (State.writeDeviceId_changes hp hn)
  · exact execNoticeSendChain_next.trans (congrArg _ (State.chainTurn_response ha hc hk hr))
  · exact execNoticeSendChain_next.trans (congrArg _ (State.chainTurn_idle ha hc hk hr hq))
  · exact execNoticeSendChain_next.trans (congrArg _ ((State.chainTurn_notice ha hc hk hr hq).trans (if_pos hn)))
  · exact execNoticeSendChain_next.trans (congrArg _ ((State.chainTurn_notice ha hc hk hr hq).trans (if_neg hn)))
  · exact execNoticeRingWrite_next.trans (congrArg _ (State.ringTurn_full hq hr))
  · exact execNoticeRingWrite_next.trans (congrArg _ ((State.ringTurn_room hq ha hk he hr).trans (if_pos rfl)))
  · exact execNoticeRingWrite_next.trans
      (congrArg _ ((State.ringTurn_room hq ha hk he hr).trans (if_neg (by decide))))

end Sys2Proof.Machine

/-! PROOFS. Requests on both paths: frames on the chain, gateway slots and BAR0, and reads, writes, Describe and Next,
each operation branch by branch. -/

namespace Sys2Proof.Machine

/-! ### Frames (R401, R426, R428) -/

section
variable {s : State} {mac : Nat} {f r : Bytes}

theorem execDictionaryFrame_next : execDictionaryFrame mac f s = .next (s.frameArrives mac f) :=
  done_eq (State.frameArrives_pending ..)

/-- A frame shorter than its header is dropped and counted. -/
theorem State.frameArrives_short (ha : s.awake = true) (hl : f.length < 24) :
    s.frameArrives mac f = s.bump Reg.chainFramesDropped := by
  unfold State.frameArrives
  rw [if_neg (by simp [ha]), if_neg (by omega), if_pos (.inl hl)]

/-- A whole frame that is not an enumeration frame is answered at an addressed module. -/
theorem State.frameArrives_answers (ha : s.awake = true) (hk : s.keystoneDown = false) (hc : s.reg Reg.chainState = 2)
    (hl : 24 ≤ f.length) (ho : hdOp f < 0x20 ∨ 0x22 < hdOp f) : s.frameArrives mac f = s.answerFrame mac f := by
  unfold State.frameArrives
  rw [if_neg (by simp [ha]), if_neg (by omega), if_neg (by omega), if_neg (by simp [hk])]

/-- A frame whose pair stands among the last 64 responses gets its response again. -/
theorem State.answerFrame_replays (h : s.storedReply mac (hdSeq f) = some r) :
    s.answerFrame mac f =
      let t := s.bump Reg.repliesReplayed
      { t with paths := { t.paths with responses := t.paths.responses ++ [(mac, r)] } } := by
  unfold State.answerFrame
  rw [h]
  rfl

theorem State.answerFrame_executes (h : s.storedReply mac (hdSeq f) = none) :
    s.answerFrame mac f =
      let r := s.headed (.chain mac) f ((f.drop 24).take (hdLength f))
        (headerOk f 1024 && decide (24 + hdLength f ≤ f.length))
      r.2.storeReply mac (hdSeq f) (responseFrame f r.1) := by
  unfold State.answerFrame
  rw [h]

end

/-! ### The gateway and BAR0 (R397, R429, R435) -/

section
variable {s : State} {i : Nat}

theorem execGatewaySubmit_next (hi : i < 16) : execGatewaySubmit i s = .next (s.submitSlot i) :=
  onUnit_runs (decide_eq_true hi) (State.submitSlot_pending ..)

variable (ha : s.awake = true)
include ha

theorem State.submitSlot_owned (ho : (s.gatewaySlot i).owner = true) :
    s.submitSlot i = s.bump Reg.gatewayWritesDiscarded := by
  unfold State.submitSlot
  rw [if_neg (by simp [ha]), if_pos ho]

/-- Owner is set, which no restart of the Keystone sees, and the slot is executed. -/
theorem State.submitSlot_executes (hk : s.keystoneDown = false) (ho : (s.gatewaySlot i).owner = false) :
    s.submitSlot i = (s.setGateway i { s.gatewaySlot i with owner := true }).runSlot i := by
  have hd : (s.setGateway i { s.gatewaySlot i with owner := true }).keystoneDown = false := hk
  unfold State.submitSlot
  dsimp only
  rw [if_neg (by simp [ha]), if_neg (by simp [ho]), if_neg (by simp [hd])]

end

section
variable {s : State} {n len value : Nat} {b : Bytes}

theorem execBar0Write_next (h : bar0Ok n len value = true) :
    execBar0Write n len value s = .next (s.writeBar0 n (leBytes len value)) :=
  onUnit_runs h (State.writeBar0_pending ..)

/-- What a write to BAR0 reaches at an awake module, by its offset. -/
theorem State.writeBar0_awake (ha : s.awake = true) :
    s.writeBar0 n b =
      if n < 0x10000 then s.writeSlotBytes (n / 0x1000) (n % 0x1000) b
      else if n < 0x11000 then s.writeRing (n - 0x10000) b
      else if 0x20000 ≤ n ∧ n < 0x20400 then s.writeMsix (n - 0x20000) b
      else if 0x21000 ≤ n ∧ n < 0x21008 then s
      else s.bump Reg.bar0WritesDiscarded :=
  if_neg (by simp [ha])

end

/-! ### A request (R419) -/

section
variable {s t : State} {v : Via} {op index sub typ offset total len : Nat} {last : Bool} {value b : Bytes} {a : Answer}

/-- A well-formed request that is served answers what it was served, with the state word for StateRefused, and its
result is counted. -/
theorem State.submit_answers (hk : s.keystoneDown = false) (hs : s.serves v = true) (ho : 1 ≤ op ∧ op ≤ 4)
    (hshape : shapeOk op index sub offset total last value.length = true)
    (h : (s.countRequest v).serve v op index sub typ offset total last value = (a, t))
    (hx : a.result = rcAbsent → op = 4) :
    s.submit v op index sub typ offset total last value =
      (t.countResult a.result).emit (.response v a.result
        (if a.result = rcStateRefused then u32 (s.countRequest v).stateWord else a.value)) := by
  have hop : ¬(op < 1 ∨ 4 < op) := by omega
  have hx' : ¬(a.result = rcAbsent ∧ op ≠ 4) := fun hn => hn.2 (hx hn.1)
  unfold State.submit State.requestNow State.request
  rw [if_neg (by simp [hk]), if_pos hs]
  simp only [hop, decide_false, hshape, Bool.not_true, Bool.or_self, Bool.false_eq_true, if_false, h, if_neg hx']
  split
  next hr => rw [hr]
  next => rfl

/-- A request served with Ok sends what it was served. -/
theorem State.submit_ok (hk : s.keystoneDown = false) (hs : s.serves v = true) (ho : 1 ≤ op ∧ op ≤ 4)
    (hshape : shapeOk op index sub offset total last value.length = true)
    (h : (s.countRequest v).serve v op index sub typ offset total last value = (⟨rcOk, b, len⟩, t)) :
    s.submit v op index sub typ offset total last value = t.emit (.response v rcOk b) :=
  State.submit_answers hk hs ho hshape h fun hx => absurd (show rcOk = rcAbsent from hx) (by decide)

end

section
variable {s : State} {v : Via} {index sub typ offset rc : Nat} {e : Entry} {b : Bytes}

/-! #### Reads (R424) -/

theorem execReadSegment_next :
    execReadSegment v index sub typ offset s = .next (s.submit v 1 index sub typ offset 0 false []) :=
  done_eq (State.submit_pending ..)

theorem execDebugRead_next : execDebugRead v s = .next (s.submit v 1 0x8100 3 9 0 0 false []) :=
  done_eq (State.submit_pending ..)

/-- A read that the checks allow reaches its entry. -/
theorem State.serve_read (h : s.judgeAccess v index sub typ false none = (rcOk, some e)) :
    s.serve v 1 index sub typ offset 0 false [] = s.readEntry v e index sub offset := by
  simp [State.serve, h]

/-- A read that a check refuses answers its code alone. -/
theorem State.serve_readRefused (h : s.judgeAccess v index sub typ false none = (rc, none)) :
    s.serve v 1 index sub typ offset 0 false [] = (Answer.code rc, s) := by
  simp [State.serve, h]

theorem State.readEntry_fixed (h : typeLength e.typ ≠ 0) :
    s.readEntry v e index sub offset = (⟨rcOk, leBytes (typeLength e.typ) (s.readFixed e index sub), 0⟩, s) :=
  if_neg h

theorem State.readEntry_first (h : typeLength e.typ = 0) : s.readEntry v e index sub 0 = s.latchValue v index sub :=
  (if_pos h).trans (if_pos rfl)

/-- A whole value that reads Ok is latched, and its first segment is answered. -/
theorem State.latchValue_ok (h : s.wholeValue index sub = (rcOk, b)) :
    s.latchValue v index sub =
      let x : Latch := { via := v, key := entryKey index sub, value := b, at_ := s.time.localCount }
      (⟨rcOk, b.take (segmentLimit v), b.length⟩,
        { s with paths := { s.paths with latches := (s.paths.latches.filter fun y => y.via != v) ++ [x] } }) := by
  unfold State.latchValue
  rw [h]
  rfl

/-- A whole value that is StateRefused latches nothing. -/
theorem State.latchValue_stateRefused (h : s.wholeValue index sub = (rcStateRefused, b)) :
    s.latchValue v index sub = (Answer.code rcStateRefused, s) := by
  unfold State.latchValue
  rw [h]
  rfl

theorem State.wholeValue_debugRead (h : s.debugValue.1 = rcOk) :
    s.wholeValue 0x8100 3 = (rcOk, s.debugValue.2) :=
  (if_pos ⟨rfl, rfl⟩).trans (Prod.ext h rfl)

/-- AttestReport on a Retired part is StateRefused (R485). -/
theorem State.wholeValue_retired (h : s.reg Reg.lifecycle = 3) : s.wholeValue 0x8010 2 = (rcStateRefused, []) :=
  (if_neg (by decide)).trans (if_pos ⟨rfl, rfl, h⟩)

theorem State.wholeValue_blob (hd : (index, sub) ≠ (0x8100, 3))
    (hr : ¬(index = 0x8010 ∧ sub = 2 ∧ s.reg Reg.lifecycle = 3)) :
    s.wholeValue index sub = (rcOk, s.readBlob index sub) :=
  (if_neg fun hn => hd (Prod.ext hn.1 hn.2)).trans (if_neg hr)

end

section
variable {s : State} {v : Via} {index sub typ offset : Nat} {e : Entry} {b : Bytes}
  (hk : s.keystoneDown = false) (hs : s.serves v = true)
include hk hs

/-- A read of a fixed-type entry answers its value. -/
theorem State.submit_readFixed (h : (s.countRequest v).judgeAccess v index sub typ false none = (rcOk, some e))
    (ht : typeLength e.typ ≠ 0) :
    s.submit v 1 index sub typ 0 0 false [] =
      (s.countRequest v).emit (.response v rcOk
        (leBytes (typeLength e.typ) ((s.countRequest v).readFixed e index sub))) :=
  State.submit_ok hk hs (by decide) rfl ((State.serve_read h).trans (State.readEntry_fixed ht))

/-- A read of a STR or BLOB entry from its start answers what it latches. -/
theorem State.submit_readLatched (h : (s.countRequest v).judgeAccess v index sub typ false none = (rcOk, some e))
    (ht : typeLength e.typ = 0) (hw : (s.countRequest v).wholeValue index sub = (rcOk, b)) :
    s.submit v 1 index sub typ 0 0 false [] =
      let u := s.countRequest v
      let x : Latch := { via := v, key := entryKey index sub, value := b, at_ := u.time.localCount }
      let t : State :=
        { u with paths := { u.paths with latches := (u.paths.latches.filter fun y => y.via != v) ++ [x] } }
      t.emit (.response v rcOk (b.take (segmentLimit v))) :=
  State.submit_ok hk hs (by decide) rfl
    ((State.serve_read h).trans ((State.readEntry_first ht).trans (State.latchValue_ok hw)))

/-- A STR or BLOB entry that is StateRefused answers the state word. -/
theorem State.submit_readStateRefused
    (h : (s.countRequest v).judgeAccess v index sub typ false none = (rcOk, some e)) (ht : typeLength e.typ = 0)
    (hw : (s.countRequest v).wholeValue index sub = (rcStateRefused, b)) :
    s.submit v 1 index sub typ 0 0 false [] =
      ((s.countRequest v).bump Reg.stateRefusals).emit
        (.response v rcStateRefused (u32 (s.countRequest v).stateWord)) :=
  State.submit_answers hk hs (by decide) rfl
    ((State.serve_read h).trans ((State.readEntry_first ht).trans (State.latchValue_stateRefused hw)))
    fun hx => absurd hx (by decide)

/-- A read that check 4 refuses answers AccessDenied, and is counted. -/
theorem State.submit_readDenied
    (h : (s.countRequest v).judgeAccess v index sub typ false none = (rcAccessDenied, none)) :
    s.submit v 1 index sub typ offset 0 false [] =
      ((s.countRequest v).bump Reg.accessDenials).emit (.response v rcAccessDenied []) :=
  State.submit_answers hk hs (by decide) rfl (State.serve_readRefused h) fun hx => absurd hx (by decide)

end

/-! #### Writes (R425) -/

section
variable {s t : State} {v : Via} {index sub typ offset total : Nat} {last : Bool} {e : Entry} {value : Bytes}

theorem execRegisterWrite_next :
    execRegisterWrite v index sub typ offset total last value s =
      .next (s.submit v 2 index sub typ offset total last value) :=
  done_eq (State.submit_pending ..)

/-- A value in one segment is well formed for every entry. -/
theorem shapeOk_whole (index sub len : Nat) : shapeOk 2 index sub 0 len true len = true := by
  unfold shapeOk
  cases findEntry index sub <;> simp

theorem State.serve_write (h : s.judgeAccess v index sub typ true (some value.length) = (rcOk, some e)) :
    s.serve v 2 index sub typ offset total last value =
      let r := s.writeValue v e index sub offset total last value
      (Answer.code r.1, r.2) := by
  simp [State.serve, h]

/-- A fixed value in range, and not the 0 of an action, reaches its entry. -/
theorem State.writeValue_fixed (ht : typeLength e.typ ≠ 0) (hv : valueOk e index sub value = true)
    (hz : ¬(e.typ = 7 ∧ e.access = 2 ∧ leVal value = 0)) :
    s.writeValue v e index sub offset total last value = s.writeEntry v e index sub value := by
  unfold State.writeValue State.applyWhole
  rw [if_neg ht, if_neg (by simp [hv]), if_neg (by simpa using hz)]

theorem State.submit_writesFixed (hk : s.keystoneDown = false) (hs : s.serves v = true)
    (h : (s.countRequest v).judgeAccess v index sub typ true (some value.length) = (rcOk, some e))
    (ht : typeLength e.typ ≠ 0) (hv : valueOk e index sub value = true)
    (hz : ¬(e.typ = 7 ∧ e.access = 2 ∧ leVal value = 0))
    (hw : (s.countRequest v).writeEntry v e index sub value = (rcOk, t)) :
    s.submit v 2 index sub typ 0 value.length true value = t.emit (.response v rcOk []) := by
  refine State.submit_ok hk hs (by decide) (shapeOk_whole ..) (len := 0) ?_
  rw [State.serve_write h, State.writeValue_fixed ht hv hz, hw]
  rfl

end

section
variable {s : State} {v : Via} {x : Partial}

theorem execWriteSegmentTimeout_next : execWriteSegmentTimeout v s = .next (s.expirePartial v) :=
  done_eq (State.expirePartial_pending ..)

/-- An incomplete value is discarded when it is stale, and not before. -/
theorem State.expirePartial_held (ha : s.awake = true) (hx : s.partialOf v = some x) :
    s.expirePartial v = if s.stale x then s.dropPartial v true else s := by
  unfold State.expirePartial
  rw [ha, hx]
  rfl

end

/-! #### Describe and Next (R427) -/

section
variable {s : State} {v : Via} {index sub k : Nat} {e : Entry}

theorem execDescribe_next : execDescribe v index sub s = .next (s.submit v 3 index sub 10 0 0 false []) :=
  done_eq (State.submit_pending ..)

theorem execNextEntry_next : execNextEntry v index sub s = .next (s.submit v 4 index sub 10 0 0 false []) :=
  done_eq (State.submit_pending ..)

theorem State.serve_describe : s.serve v 3 index sub 10 0 0 false [] = (s.describeEntry index sub, s) := if_pos rfl

theorem State.serve_next : s.serve v 4 index sub 10 0 0 false [] = (s.describeNext index sub, s) :=
  (if_neg (by decide)).trans (if_pos rfl)

theorem State.describeEntry_defined (h : findEntry index sub = some e) :
    s.describeEntry index sub = ⟨rcOk, s.descriptor e index sub, 0⟩ := by
  unfold State.describeEntry
  rw [h]

theorem State.describeEntry_undefined (h : findEntry index sub = none) :
    s.describeEntry index sub = Answer.code rcRangeError := by
  unfold State.describeEntry
  rw [h]

theorem State.describeNext_last (h : nextKey (entryKey index sub) = none) :
    s.describeNext index sub = Answer.code rcAbsent := by
  unfold State.describeNext
  rw [h]

theorem State.describeNext_defined (h : nextKey (entryKey index sub) = some k)
    (he : findEntry (k / 256) (k % 256) = some e) :
    s.describeNext index sub = ⟨rcOk, s.descriptor e (k / 256) (k % 256), 0⟩ := by
  unfold State.describeNext
  rw [h]
  exact State.describeEntry_defined he

variable (hk : s.keystoneDown = false) (hs : s.serves v = true)
include hk hs

theorem State.submit_describes (h : findEntry index sub = some e) :
    s.submit v 3 index sub 10 0 0 false [] =
      (s.countRequest v).emit (.response v rcOk ((s.countRequest v).descriptor e index sub)) :=
  State.submit_ok hk hs (by decide) rfl (by rw [State.serve_describe, State.describeEntry_defined h])

theorem State.submit_describesNothing (h : findEntry index sub = none) :
    s.submit v 3 index sub 10 0 0 false [] =
      ((s.countRequest v).bump Reg.rangeErrors).emit (.response v rcRangeError []) :=
  State.submit_answers (a := Answer.code rcRangeError) hk hs (by decide) rfl
    (by rw [State.serve_describe, State.describeEntry_undefined h]) fun hx => absurd hx (by decide)

theorem State.submit_nextLast (h : nextKey (entryKey index sub) = none) :
    s.submit v 4 index sub 10 0 0 false [] = (s.countRequest v).emit (.response v rcAbsent []) :=
  State.submit_answers hk hs (by decide) rfl (by rw [State.serve_next, State.describeNext_last h]) fun _ => rfl

theorem State.submit_nextDescribes (h : nextKey (entryKey index sub) = some k)
    (he : findEntry (k / 256) (k % 256) = some e) :
    s.submit v 4 index sub 10 0 0 false [] =
      (s.countRequest v).emit (.response v rcOk ((s.countRequest v).descriptor e (k / 256) (k % 256))) :=
  State.submit_ok hk hs (by decide) rfl (by rw [State.serve_next, State.describeNext_defined h he])

end

/-- Settles O52: the frame and the slot, then each request by what its checks and its entry answer, then BAR0 by offset.
That a Describe and a Next count as requests, and that a write to the pending bits does not count, is assumption 47. -/
theorem requestsAreAnswered : Obligations.RequestsAreAnswered := by
  intro v n m b s ha hk
  refine ⟨fun hc hl ho => ⟨fun r hr => ?_, fun hr => ?_⟩, fun hl => ?_,
    fun hn => ⟨fun ho => ?_, fun ho => ?_⟩,
    fun hs => ⟨fun typ e h => ⟨fun ht => ?_, fun ht h1 h2 hr => ?_, fun ht hd hr => ?_⟩, fun typ off h => ?_,
      fun e h ht hd => ?_, fun typ e rc t h _ ht hv hz hw hrc => ?_, fun e h => ?_, fun h => ?_, fun h => ?_,
      fun k e h he => ?_⟩,
    fun x hx => ⟨fun h => ?_, fun h => ?_⟩,
    fun len value h => ⟨fun hn => ?_, fun hlo hhi => ?_, fun hlo hhi => ?_, fun hlo hhi => ?_, fun hn => ?_⟩⟩
  · exact execDictionaryFrame_next.trans (congrArg _
      ((State.frameArrives_answers ha hk hc hl ho).trans (State.answerFrame_replays hr)))
  · exact execDictionaryFrame_next.trans (congrArg _
      ((State.frameArrives_answers ha hk hc hl ho).trans (State.answerFrame_executes hr)))
  · exact execDictionaryFrame_next.trans (congrArg _ (State.frameArrives_short ha hl))
  · exact (execGatewaySubmit_next hn).trans (congrArg _ (State.submitSlot_owned ha ho))
  · exact (execGatewaySubmit_next hn).trans (congrArg _ (State.submitSlot_executes ha hk ho))
  · exact execReadSegment_next.trans (congrArg _ (State.submit_readFixed hk hs h ht))
  · subst h1 h2
    exact execReadSegment_next.trans (congrArg _
      (State.submit_readStateRefused hk hs h ht (State.wholeValue_retired hr)))
  · exact execReadSegment_next.trans (congrArg _
      (State.submit_readLatched hk hs h ht (State.wholeValue_blob hd hr)))
  · exact execReadSegment_next.trans (congrArg _ (State.submit_readDenied hk hs h))
  · exact execDebugRead_next.trans (congrArg _
      (State.submit_readLatched hk hs h ht (State.wholeValue_debugRead hd)))
  · subst hrc
    exact execRegisterWrite_next.trans (congrArg _ (State.submit_writesFixed hk hs h ht hv hz hw))
  · exact execDescribe_next.trans (congrArg _ (State.submit_describes hk hs h))
  · exact execDescribe_next.trans (congrArg _ (State.submit_describesNothing hk hs h))
  · exact execNextEntry_next.trans (congrArg _ (State.submit_nextLast hk hs h))
  · exact execNextEntry_next.trans (congrArg _ (State.submit_nextDescribes hk hs h he))
  · exact execWriteSegmentTimeout_next.trans (congrArg _ ((State.expirePartial_held ha hx).trans (if_pos h)))
  · exact execWriteSegmentTimeout_next.trans
      (congrArg _ ((State.expirePartial_held ha hx).trans (if_neg (ne_true_of_eq_false h))))
  · exact (execBar0Write_next h).trans (congrArg _ ((State.writeBar0_awake ha).trans (if_pos hn)))
  · rw [exec_bar0Write, execBar0Write_next h, State.writeBar0_awake ha, if_neg (by omega), if_pos hhi]
  · rw [exec_bar0Write, execBar0Write_next h, State.writeBar0_awake ha, if_neg (by omega), if_neg (by omega),
      if_pos ⟨hlo, hhi⟩]
  · rw [exec_bar0Write, execBar0Write_next h, State.writeBar0_awake ha, if_neg (by omega), if_neg (by omega),
      if_neg (by omega), if_pos ⟨hlo, hhi⟩]
  · rw [exec_bar0Write, execBar0Write_next h, State.writeBar0_awake ha, if_neg (by omega), if_neg (by omega),
      if_neg (by omega), if_neg (by omega)]

end Sys2Proof.Machine

/-! PROOFS. The state after reset, the soundness that every step keeps, and the states in which an entry can be
reached. -/

namespace Sys2Proof.Machine

/-! ### The state after reset (R208, R417) -/

/-- A memory in which nothing has been written reads 0 everywhere (R208, assumption 5). -/
theorem Memory.read_nil (a n : Nat) : Memory.read [] a n = List.replicate n 0 := by
  induction n generalizing a with
  | zero => rfl
  | succ n ih => rw [Memory.read, ih, List.replicate_succ]; rfl

/-- A state that lists no register reads every default (R417). -/
theorem State.reg_unlisted {s : State} (h : s.regs = []) (r : RegId) : s.reg r = r.dflt := by
  rw [State.reg, h, Map.get]

/-- While the count is not known, a stamp reads all ones (R8). -/
theorem State.stamp_unknown {s : State} (h : s.time.known = false) : s.stamp = 0xFFFFFFFFFFFFFFFF :=
  if_neg (ne_true_of_eq_false h)

/-- Nothing is listed in either memory, and no notice waits. -/
theorem State.reset_sound : State.reset.sound = true := by
  rw [State.sound_iff, Paths.bounded_iff]
  exact ⟨Memory.wf_nil, Memory.wf_nil, Nat.zero_le _, Nat.zero_le _⟩

/-- Settles O4, by what an unlisted register, an unwritten byte and an unknown count read. The defaults that the spec
calls per part, per firmware or per start are those of assumption 4. -/
theorem resetState : Obligations.ResetState :=
  ⟨State.reset_sound, rfl, State.reg_unlisted rfl, Memory.read_nil, State.stamp_unknown rfl, rfl, rfl, rfl⟩

/-! ### Every step keeps a sound state sound (R437, R181, R398) -/

/-- `exec`, command by command: each arm is a command of one operation, whose soundness is a lemma of its own. -/
theorem exec_sound {s t : State} (hs : s.sound = true) : ∀ c : Instr, exec c s = .next t → t.sound = true
  | .courseStart, h => execCourseStart_sound _ _ h hs
  | .epochCourse phase8 keeperOffset ber, h => execEpochCourse_sound phase8 keeperOffset ber _ _ h hs
  | .referenceInvalid, h => execReferenceInvalid_sound _ _ h hs
  | .courseSourceWrite v value, h => execCourseSourceWrite_sound v value _ _ h hs
  | .courseLoad v value, h => execCourseLoad_sound v value _ _ h hs
  | .courseMark port mark phase8, h => execCourseMark_sound port mark phase8 _ _ h hs
  | .parentReselect, h => execParentReselect_sound _ _ h hs
  | .courseHoldover, h => execCourseHoldover_sound _ _ h hs
  | .courseLocked, h => execCourseLocked_sound _ _ h hs
  | .sourceReturn count phase8, h => execSourceReturn_sound count phase8 _ _ h hs
  | .phaseStep, h => execPhaseStep_sound _ _ h hs
  | .leadCourse, h => execLeadCourse_sound _ _ h hs
  | .delayProbe port roundTrip8 turnaround8, h => execDelayProbe_sound port roundTrip8 turnaround8 _ _ h hs
  | .dueCheck, h => execDueCheck_sound _ _ h hs
  | .planStalled, h => execPlanStalled_sound _ _ h hs
  | .restCourse, h => execRestCourse_sound _ _ h hs
  | .linkRetry port lane, h => execLinkRetry_sound port lane _ _ h hs
  | .tileReread consumer err, h => execTileReread_sound consumer err _ _ h hs
  | .scrubStep unit bank claimed ecc, h => execScrubStep_sound unit bank claimed ecc _ _ h hs
  | .pointingHousekeeping fits, h => execPointingHousekeeping_sound fits _ _ h hs
  | .sensorSample fits reading, h => execSensorSample_sound fits reading _ _ h hs
  | .maintenanceMicrostep cluster bytes, h => execMaintenanceMicrostep_sound cluster bytes _ _ h hs
  | .launchCourseWrite v value, h => execLaunchCourseWrite_sound v value _ _ h hs
  | .launch, h => execLaunch_sound _ _ h hs
  | .launchRefused, h => execLaunchRefused_sound _ _ h hs
  | .quoinCourse, h => execQuoinCourse_sound _ _ h hs
  | .correctedThreshold cluster position, h => execCorrectedThreshold_sound cluster position _ _ h hs
  | .substituteCore v value, h => execSubstituteCore_sound v value _ _ h hs
  | .substitutionRegisterCopy cluster fits, h => execSubstitutionRegisterCopy_sound cluster fits _ _ h hs
  | .substitutionSwap cluster, h => execSubstitutionSwap_sound cluster _ _ h hs
  | .unitMapChange, h => execUnitMapChange_sound _ _ h hs
  | .engineFlagsClear v cluster position engine value raised, h =>
    execEngineFlagsClear_sound v cluster position engine value raised _ _ h hs
  | .clearAllFlags v value raised, h => execClearAllFlags_sound v value raised _ _ h hs
  | .nop q f, h => execNop_sound q f _ _ h hs
  | .wait q f, h => execWait_sound q f _ _ h hs
  | .plumb q f, h => execPlumb_sound q f _ _ h hs
  | .plumbRelease core arrival, h => execPlumbRelease_sound core arrival _ _ h hs
  | .callRoutine q f, h => execCallRoutine_sound q f _ _ h hs
  | .ret q f, h => execRet_sound q f _ _ h hs
  | .endBundle q f, h => execEndBundle_sound q f _ _ h hs
  | .fmode q f, h => execFmode_sound q f _ _ h hs
  | .bundleStart core queue, h => execBundleStart_sound core queue _ _ h hs
  | .tset q f, h => execTset_sound q f _ _ h hs
  | .tfill q f batch err, h => execTfill_sound q f batch err _ _ h hs
  | .tileVerdict core engine, h => execTileVerdict_sound core engine _ _ h hs
  | .suspensionEnd, h => execSuspensionEnd_sound _ _ h hs
  | .mma q f batch, h => execMma_sound q f batch _ _ h hs
  | .vrd q f, h => execVrd_sound q f _ _ h hs
  | .addLane q f, h => execAddLane_sound q f _ _ h hs
  | .subLane q f, h => execSubLane_sound q f _ _ h hs
  | .mulLane q f, h => execMulLane_sound q f _ _ h hs
  | .fma q f, h => execFma_sound q f _ _ h hs
  | .divLane q f, h => execDivLane_sound q f _ _ h hs
  | .sqrt q f, h => execSqrt_sound q f _ _ h hs
  | .minLane q f, h => execMinLane_sound q f _ _ h hs
  | .maxLane q f, h => execMaxLane_sound q f _ _ h hs
  | .fn q f, h => execFn_sound q f _ _ h hs
  | .tbl q f, h => execTbl_sound q f _ _ h hs
  | .red q f, h => execRed_sound q f _ _ h hs
  | .sqa q f, h => execSqa_sound q f _ _ h hs
  | .rot q f, h => execRot_sound q f _ _ h hs
  | .amax q f, h => execAmax_sound q f _ _ h hs
  | .topk q f, h => execTopk_sound q f _ _ h hs
  | .rng q f, h => execRng_sound q f _ _ h hs
  | .cvt q f, h => execCvt_sound q f _ _ h hs
  | .dup q f, h => execDup_sound q f _ _ h hs
  | .ld q f ecc, h => execLd_sound q f ecc _ _ h hs
  | .st q f, h => execSt_sound q f _ _ h hs
  | .sta q f, h => execSta_sound q f _ _ h hs
  | .ldi q f ecc, h => execLdi_sound q f ecc _ _ h hs
  | .sti q f, h => execSti_sound q f _ _ h hs
  | .wcol q f, h => execWcol_sound q f _ _ h hs
  | .wrow q f, h => execWrow_sound q f _ _ h hs
  | .fill q f, h => execFill_sound q f _ _ h hs
  | .copy q f err, h => execCopy_sound q f err _ _ h hs
  | .snd q f, h => execSnd_sound q f _ _ h hs
  | .sndt q f err, h => execSndt_sound q f err _ _ h hs
  | .due q f, h => execDue_sound q f _ _ h hs
  | .tsig q f, h => execTsig_sound q f _ _ h hs
  | .lva q f, h => execLva_sound q f _ _ h hs
  | .rel q f, h => execRel_sound q f _ _ h hs
  | .lp q f, h => execLp_sound q f _ _ h hs
  | .setCount q f, h => execSetCount_sound q f _ _ h hs
  | .addc q f, h => execAddc_sound q f _ _ h hs
  | .kset q f, h => execKset_sound q f _ _ h hs
  | .bk q f, h => execBk_sound q f _ _ h hs
  | .wcrs q f, h => execWcrs_sound q f _ _ h hs
  | .ao q f, h => execAo_sound q f _ _ h hs
  | .twait q f, h => execTwait_sound q f _ _ h hs
  | .lvw q f, h => execLvw_sound q f _ _ h hs
  | .swapArm v value, h => execSwapArm_sound v value _ _ h hs
  | .bankSwap, h => execBankSwap_sound _ _ h hs
  | .handoffSwap cluster, h => execHandoffSwap_sound cluster _ _ h hs
  | .trowelFault cluster cause, h => execTrowelFault_sound cluster cause _ _ h hs
  | .slotClearingDone slot, h => execSlotClearingDone_sound slot _ _ h hs
  | .slotStampingDone slot, h => execSlotStampingDone_sound slot _ _ h hs
  | .edgeBlockFailure edge, h => execEdgeBlockFailure_sound edge _ _ h hs
  | .edgeRetrain edge, h => execEdgeRetrain_sound edge _ _ h hs
  | .flitReceived port lane slot flit fecOk corrected, h =>
    execFlitReceived_sound port lane slot flit fecOk corrected _ _ h hs
  | .lateFlitWrite port, h => execLateFlitWrite_sound port _ _ h hs
  | .linkReport port lane word, h => execLinkReport_sound port lane word _ _ h hs
  | .reportTimeout port lane course, h => execReportTimeout_sound port lane course _ _ h hs
  | .relayForward port route flitIndex egress lane slot, h =>
    execRelayForward_sound port route flitIndex egress lane slot _ _ h hs
  | .laneDown port lane cause, h => execLaneDown_sound port lane cause _ _ h hs
  | .laneRetrainDone port lane full ok, h => execLaneRetrainDone_sound port lane full ok _ _ h hs
  | .retrain v port value, h => execRetrain_sound v port value _ _ h hs
  | .partnerChange port deviceId partnerPort, h => execPartnerChange_sound port deviceId partnerPort _ _ h hs
  | .pointingMessage port lane word, h => execPointingMessage_sound port lane word _ _ h hs
  | .pointingResend port, h => execPointingResend_sound port _ _ h hs
  | .signalArrival packet, h => execSignalArrival_sound packet _ _ h hs
  | .levelArrival packet, h => execLevelArrival_sound packet _ _ h hs
  | .levelRelease packet, h => execLevelRelease_sound packet _ _ h hs
  | .ingressRecord qp window record, h => execIngressRecord_sound qp window record _ _ h hs
  | .bar2Write offset data, h => execBar2Write_sound offset data _ _ h hs
  | .planLoad v value, h => execPlanLoad_sound v value _ _ h hs
  | .planLoaderDone schedule, h => execPlanLoaderDone_sound schedule _ _ h hs
  | .planDiscard v value, h => execPlanDiscard_sound v value _ _ h hs
  | .planHalt v value, h => execPlanHalt_sound v value _ _ h hs
  | .planHalted, h => execPlanHalted_sound _ _ h hs
  | .descriptor qp message, h => execDescriptor_sound qp message _ _ h hs
  | .batchBuild, h => execBatchBuild_sound _ _ h hs
  | .orderBatch qp message, h => execOrderBatch_sound qp message _ _ h hs
  | .orderApply, h => execOrderApply_sound _ _ h hs
  | .abortReport qp message, h => execAbortReport_sound qp message _ _ h hs
  | .governorEvaluation unprocessed, h => execGovernorEvaluation_sound unprocessed _ _ h hs
  | .tokenRecord record, h => execTokenRecord_sound record _ _ h hs
  | .recordSend qp, h => execRecordSend_sound qp _ _ h hs
  | .loadGeneration v value, h => execLoadGeneration_sound v value _ _ h hs
  | .loadAdapter v value, h => execLoadAdapter_sound v value _ _ h hs
  | .loadAbort v value, h => execLoadAbort_sound v value _ _ h hs
  | .weightRecord, h => execWeightRecord_sound _ _ h hs
  | .creditMessage message, h => execCreditMessage_sound message _ _ h hs
  | .creditSend, h => execCreditSend_sound _ _ h hs
  | .switchCourse v value, h => execSwitchCourse_sound v value _ _ h hs
  | .generationSwitch, h => execGenerationSwitch_sound _ _ h hs
  | .generationDiscard v value, h => execGenerationDiscard_sound v value _ _ h hs
  | .adapterUnload v value, h => execAdapterUnload_sound v value _ _ h hs
  | .trainingPhase port word, h => execTrainingPhase_sound port word _ _ h hs
  | .trainingTimeout port, h => execTrainingTimeout_sound port _ _ h hs
  | .portRoleMismatch port partnerRole partnerDevice, h =>
    execPortRoleMismatch_sound port partnerRole partnerDevice _ _ h hs
  | .ethFrame ingress frame, h => execEthFrame_sound ingress frame _ _ h hs
  | .txSak v ingress value, h => execTxSak_sound v ingress value _ _ h hs
  | .rxSak v ingress value, h => execRxSak_sound v ingress value _ _ h hs
  | .rocePacket ingress qpn op icrcOk ce, h => execRocePacket_sound ingress qpn op icrcOk ce _ _ h hs
  | .rdmaWrite qp address rkey data, h => execRdmaWrite_sound qp address rkey data _ _ h hs
  | .qpConfig v value, h => execQpConfig_sound v value _ _ h hs
  | .qpReset v value, h => execQpReset_sound v value _ _ h hs
  | .qpRetryTimeout qp, h => execQpRetryTimeout_sound qp _ _ h hs
  | .functionReset kind, h => execFunctionReset_sound kind _ _ h hs
  | .claim node chainIn, h => execClaim_sound node chainIn _ _ h hs
  | .confirm node serial, h => execConfirm_sound node serial _ _ h hs
  | .claimTimeout, h => execClaimTimeout_sound _ _ h hs
  | .deviceIdWrite v value, h => execDeviceIdWrite_sound v value _ _ h hs
  | .dictionaryFrame mac frame, h => execDictionaryFrame_sound mac frame _ _ h hs
  | .gatewaySubmit slot, h => execGatewaySubmit_sound slot _ _ h hs
  | .readSegment v index sub typ offset, h => execReadSegment_sound v index sub typ offset _ _ h hs
  | .registerWrite v index sub typ offset total last value, h =>
    execRegisterWrite_sound v index sub typ offset total last value _ _ h hs
  | .writeSegmentTimeout v, h => execWriteSegmentTimeout_sound v _ _ h hs
  | .describe v index sub, h => execDescribe_sound v index sub _ _ h hs
  | .nextEntry v index sub, h => execNextEntry_sound v index sub _ _ h hs
  | .noticeRaise code cls source payload, h => execNoticeRaise_sound code cls source payload _ _ h hs
  | .noticeSendChain, h => execNoticeSendChain_sound _ _ h hs
  | .noticeRingWrite ok, h => execNoticeRingWrite_sound ok _ _ h hs
  | .ringControl value, h => execRingControl_sound value _ _ h hs
  | .powerRequest v value, h => execPowerRequest_sound v value _ _ h hs
  | .powerTransitionStart, h => execPowerTransitionStart_sound _ _ h hs
  | .powerTransitionDone, h => execPowerTransitionDone_sound _ _ h hs
  | .sleepEntry, h => execSleepEntry_sound _ _ h hs
  | .wakeAtCourse, h => execWakeAtCourse_sound _ _ h hs
  | .chainWakeFrame dest frame, h => execChainWakeFrame_sound dest frame _ _ h hs
  | .wakeNLow, h => execWakeNLow_sound _ _ h hs
  | .supplyLow lowest, h => execSupplyLow_sound lowest _ _ h hs
  | .supplyReturn, h => execSupplyReturn_sound _ _ h hs
  | .overVoltage, h => execOverVoltage_sound _ _ h hs
  | .sleepTempEvent, h => execSleepTempEvent_sound _ _ h hs
  | .woken source, h => execWoken_sound source _ _ h hs
  | .thermalShutdown, h => execThermalShutdown_sound _ _ h hs
  | .coolantFlowLow, h => execCoolantFlowLow_sound _ _ h hs
  | .attestNonce v value, h => execAttestNonce_sound v value _ _ h hs
  | .attestComplete, h => execAttestComplete_sound _ _ h hs
  | .spdmRequest request, h => execSpdmRequest_sound request _ _ h hs
  | .ownerEnroll v value, h => execOwnerEnroll_sound v value _ _ h hs
  | .ownerChange v value, h => execOwnerChange_sound v value _ _ h hs
  | .lifecycleToken v value, h => execLifecycleToken_sound v value _ _ h hs
  | .debugRequest v value, h => execDebugRequest_sound v value _ _ h hs
  | .debugToken v value, h => execDebugToken_sound v value _ _ h hs
  | .debugRead v, h => execDebugRead_sound v _ _ h hs
  | .debugWrite v value, h => execDebugWrite_sound v value _ _ h hs
  | .traceStart, h => execTraceStart_sound _ _ h hs
  | .securityVersionCommit v value, h => execSecurityVersionCommit_sound v value _ _ h hs
  | .notafterPassed, h => execNotafterPassed_sound _ _ h hs
  | .bondModeWrite v value, h => execBondModeWrite_sound v value _ _ h hs
  | .bondYield v value, h => execBondYield_sound v value _ _ h hs
  | .heartbeat bond lane word, h => execHeartbeat_sound bond lane word _ _ h hs
  | .partnerLost, h => execPartnerLost_sound _ _ h hs
  | .bondReport qp message, h => execBondReport_sound qp message _ _ h hs
  | .bondTakeover, h => execBondTakeover_sound _ _ h hs
  | .bondTakenOver, h => execBondTakenOver_sound _ _ h hs
  | .mirrorRecord record, h => execMirrorRecord_sound record _ _ h hs
  | .mirrorBufferFull, h => execMirrorBufferFull_sound _ _ h hs
  | .bondDegraded, h => execBondDegraded_sound _ _ h hs
  | .resyncDone, h => execResyncDone_sound _ _ h hs
  | .repairRequest port granule, h => execRepairRequest_sound port granule _ _ h hs
  | .repairTile granule tile, h => execRepairTile_sound granule tile _ _ h hs
  | .repairTimeout, h => execRepairTimeout_sound _ _ h hs
  | .noRepairSource, h => execNoRepairSource_sound _ _ h hs
  | .damageReport qp message, h => execDamageReport_sound qp message _ _ h hs
  | .firmwareActivate v value, h => execFirmwareActivate_sound v value _ _ h hs
  | .firmwareActivation, h => execFirmwareActivation_sound _ _ h hs
  | .keystoneRestartDone, h => execKeystoneRestartDone_sound _ _ h hs
  | .patchLoad v value, h => execPatchLoad_sound v value _ _ h hs
  | .patchActivate v value, h => execPatchActivate_sound v value _ _ h hs
  | .patchSwap, h => execPatchSwap_sound _ _ h hs
  | .retireCluster v value, h => execRetireCluster_sound v value _ _ h hs
  | .maintenanceRelease, h => execMaintenanceRelease_sound _ _ h hs
  | .attemptStart failing, h => execAttemptStart_sound failing _ _ h hs
  | .resetN low, h => execResetN_sound low _ _ h hs
  | .pwrGoodDeassert, h => execPwrGoodDeassert_sound _ _ h hs
  | .powerLoss, h => execPowerLoss_sound _ _ h hs
  | .startConfirmed, h => execStartConfirmed_sound _ _ h hs
  | .startFailed reason detail, h => execStartFailed_sound reason detail _ _ h hs
  | .startRetry v value, h => execStartRetry_sound v value _ _ h hs
  | .slotSelect v value, h => execSlotSelect_sound v value _ _ h hs
  | .slotImage v value, h => execSlotImage_sound v value _ _ h hs
  | .slotStage v value, h => execSlotStage_sound v value _ _ h hs
  | .diagnosticRun v value failing, h => execDiagnosticRun_sound v value failing _ _ h hs
  | .clearWithheld v value, h => execClearWithheld_sound v value _ _ h hs
  | .hardFault kind unit, h => execHardFault_sound kind unit _ _ h hs
  | .planStop, h => execPlanStop_sound _ _ h hs
  | .storeStuck address, h => execStoreStuck_sound address _ _ h hs
  | .fatalFault cause, h => execFatalFault_sound cause _ _ h hs
  | .bar0Write offset length value, h => execBar0Write_sound offset length value _ _ h hs
  | .ingressLinkChange ingress up, h => execIngressLinkChange_sound ingress up _ _ h hs
  | .pcieLinkChange state rate width, h => execPcieLinkChange_sound state rate width _ _ h hs
  | .ideKmExchange active, h => execIdeKmExchange_sound active _ _ h hs
  | .edgeLossOfLock edge, h => execEdgeLossOfLock_sound edge _ _ h hs
  | .edgeRetrainDone edge, h => execEdgeRetrainDone_sound edge _ _ h hs
  | .spareFault cluster, h => execSpareFault_sound cluster _ _ h hs
  | .trowelRestartDone cluster, h => execTrowelRestartDone_sound cluster _ _ h hs

/-- Settles O5: an idle step leaves the state, and a step that runs a command runs it from a state that is sound, since
soundness does not read the queue. -/
theorem soundKept : Obligations.SoundKept := by
  intro s t hs h
  unfold step at h
  split at h
  case h_1 =>
    cases h
    exact hs
  case h_2 c rest _ => exact exec_sound (s := { s with pending := rest }) hs c h

/-! ### The allowed states of an entry (R416) -/

/-- The masks of the rows: Awake, or some of Run, Hold and Doze. -/
theorem dictionary_states : ∀ e ∈ dictionary, e.states = 0x0F ∨ e.states < 8 := by decide +kernel

section
variable {s : State} {v : Via} {index sub typ offset total : Nat} {last w : Bool} {len : Option Nat} {e : Entry}
  {b : Bytes}

theorem State.awake_iff : s.awake = true ↔ s.power.mode = .run ∨ s.power.mode = .hold ∨ s.power.mode = .doze := by
  unfold State.awake
  cases s.power.mode <;> simp

/-- A module that is not awake serves no path. -/
theorem State.serves_asleep (h : s.awake = false) : s.serves v = false := by rw [State.serves, h, Bool.false_and]

/-- In Sleep and in Off the module is not awake. -/
theorem State.awake_asleep (h : s.power.mode = .sleep ∨ s.power.mode = .off) : s.awake = false := by
  unfold State.awake
  rcases h with h | h <;> rw [h]

/-- A request to a module that does not serve its path goes unheard. -/
theorem State.submit_unserved {op : Nat} (hk : s.keystoneDown = false) (h : s.serves v = false) :
    s.submit v op index sub typ offset total last b = s :=
  (if_neg (ne_true_of_eq_false hk)).trans (if_neg (ne_true_of_eq_false h))

theorem State.submit_asleep {op : Nat} (hk : s.keystoneDown = false) (h : s.power.mode = .sleep ∨ s.power.mode = .off) :
    s.submit v op index sub typ offset total last b = s :=
  State.submit_unserved hk (State.serves_asleep (State.awake_asleep h))

/-- Check 8: the bit of the power state, and in Limewash bit 3 as well. -/
theorem State.stateAllows_iff :
    s.stateAllows e = true ↔
      (s.limewash = false ∧ bit e.states (powerCode s.power.mode) = true) ∨
        (s.limewash = true ∧ bit e.states 3 = true ∧ bit e.states (powerCode s.power.mode) = true) := by
  unfold State.stateAllows
  cases s.limewash <;> simp [and_comm]

/-- When checks 3 to 7 are passed, check 8 decides (R419). -/
theorem State.judgeAccess_passed (hi : index < 0xF000) (he : findEntry index sub = some e)
    (ha : s.allowed v e index sub = true) (hacc : if w then e.access ≠ 0 ∧ e.access ≠ 4 else e.access ≠ 2)
    (hl : typeLength e.typ ≠ 0 → len = none ∨ len = some (typeLength e.typ)) (hu : s.unitPresent index sub = true) :
    s.judgeAccess v index sub e.typ w len = if s.stateAllows e then (rcOk, some e) else (rcStateRefused, none) := by
  have hacc' : ¬(if w then e.access = 0 || e.access = 4 else e.access = 2 : Bool) = true := by
    cases w <;> simpa using hacc
  have hl' : ¬(typeLength e.typ ≠ 0 ∧ len ≠ none ∧ len ≠ some (typeLength e.typ)) := fun ⟨h, h1, h2⟩ =>
    (hl h).elim h1 h2
  unfold State.judgeAccess
  rw [if_neg (by omega), he]
  dsimp only
  rw [if_neg (by simp [ha]), if_neg hacc', if_neg (by simp), if_neg hl', if_neg (by simp [hu])]
  cases s.stateAllows e <;> rfl

/-- A write that a check refuses answers its code alone. -/
theorem State.serve_writeRefused {rc : Nat} (h : s.judgeAccess v index sub typ true (some b.length) = (rc, none)) :
    s.serve v 2 index sub typ offset total last b = (Answer.code rc, s) := by
  simp [State.serve, h]

variable (hk : s.keystoneDown = false) (hs : s.serves v = true)
include hk hs

/-- A read that check 8 refuses answers the state word, and is counted. -/
theorem State.submit_readDisallowed
    (h : (s.countRequest v).judgeAccess v index sub typ false none = (rcStateRefused, none)) :
    s.submit v 1 index sub typ offset 0 false [] =
      ((s.countRequest v).bump Reg.stateRefusals).emit
        (.response v rcStateRefused (u32 (s.countRequest v).stateWord)) :=
  State.submit_answers hk hs (by decide) rfl (State.serve_readRefused h) fun hx => absurd hx (by decide)

/-- A whole write that check 8 refuses answers the state word, and is counted. -/
theorem State.submit_writeDisallowed
    (h : (s.countRequest v).judgeAccess v index sub typ true (some b.length) = (rcStateRefused, none)) :
    s.submit v 2 index sub typ 0 b.length true b =
      ((s.countRequest v).bump Reg.stateRefusals).emit
        (.response v rcStateRefused (u32 (s.countRequest v).stateWord)) :=
  State.submit_answers hk hs (by decide) (shapeOk_whole ..) (State.serve_writeRefused h) fun hx => absurd hx (by decide)

end

/-- Settles O60: of the checks that an access passes, check 8 is the last, and what it decides is what the request
answers (R419, R421). -/
theorem allowedStates : Obligations.AllowedStates := by
  refine ⟨dictionary_states, fun v index sub off b s e hk => ⟨fun h typ tot last => ⟨?_, ?_⟩, fun hs hi he => ?_⟩⟩
  · exact execReadSegment_next.trans (congrArg _ (State.submit_asleep hk h))
  · exact execRegisterWrite_next.trans (congrArg _ (State.submit_asleep hk h))
  · intro u here reached refused ha hu
    have hhere : here = bit e.states (powerCode u.power.mode) := by
      have hp : u.power = s.power := rfl
      rcases State.awake_iff.mp (Bool.and_eq_true_iff.mp hs).1 with hm | hm | hm <;>
        simp only [here, hp, hm, powerCode]
    have hreach : reached ↔ u.stateAllows e = true := by
      rw [State.stateAllows_iff, ← hhere]
    refine ⟨fun hacc => ?_, fun h0 h4 hl => ?_⟩
    · have hj := State.judgeAccess_passed (w := false) (len := none) hi he ha hacc (fun _ => .inl rfl) hu
      refine ⟨fun hr => ?_, fun hr ht => ?_, fun hr => ?_⟩
      · rw [hj, if_pos (hreach.mp hr)]
      · rw [if_pos (hreach.mp hr)] at hj
        exact execReadSegment_next.trans (congrArg _ (State.submit_readFixed hk hs hj ht))
      · rw [if_neg fun h => hr (hreach.mpr h)] at hj
        exact execReadSegment_next.trans (congrArg _ (State.submit_readDisallowed hk hs hj))
    · have hj := State.judgeAccess_passed (w := true) (len := some b.length) hi he ha ⟨h0, h4⟩
        (fun h => .inr (congrArg some (hl h))) hu
      refine ⟨fun hr => ?_, fun hr => ?_⟩
      · rw [hj, if_pos (hreach.mp hr)]
      · rw [if_neg fun h => hr (hreach.mpr h)] at hj
        exact execRegisterWrite_next.trans (congrArg _ (State.submit_writeDisallowed hk hs hj))

end Sys2Proof.Machine

/-! PROOFS. Power states: requests, transitions, Sleep, wakes, supply, and the samples and events of an awake module,
each operation branch by branch. -/

namespace Sys2Proof.Machine

/-! ### Requests (R450, R451) -/

section
variable {s t : State} {v : Via} {n rc : Nat}

theorem execPowerRequest_next (h : s.grantsNumber v 0x3000 2 1 n = true)
    (ha : (s.countRequest v).requestPower n = (rc, t)) :
    execPowerRequest v n s = .next (t.respond v 0x3000 2 2 rc []) :=
  done_writeNumber (act := fun s => s.requestPower n) h ha fun u => State.requestPower_pending u n

/-- A request with other bits set, or for Sleep with no wake source enabled, is out of range. -/
theorem State.requestPower_range (h : n / 4 % 32 ≠ 0 ∨ n % 4 = 3 ∧ s.reg Reg.wakeSources = 0) :
    s.requestPower n = (rcRangeError, s) :=
  if_pos h

/-- One in range is judged by the transition under way first, then by the present state. -/
theorem State.requestPower_judged (h0 : n / 4 % 32 = 0) (hw : n % 4 = 3 → s.reg Reg.wakeSources ≠ 0) :
    s.requestPower n =
      if s.power.target.isSome then (rcStateRefused, s)
      else if n % 4 = powerCode s.power.mode then (rcOk, s)
      else if decide (2 ≤ n % 4) && !bit n 7 && (s.reg Reg.bondMode != 0 || s.planActive) then (rcStateRefused, s)
      else if n % 4 = 0 ∧ (s.reg Reg.thermalLevel = 3 ∨ s.power.tripped) then (rcStateRefused, s)
      else (rcOk, { s.setReg Reg.pendingTransition (n % 4) with
        power := { s.power with
          target := some (n % 4), startsAt := s.time.localCount + 2, started := false, cause := 1 } }) :=
  if_neg fun h => h.elim (absurd h0) fun h => hw h.1 h.2

section
variable (h0 : n / 4 % 32 = 0) (hw : n % 4 = 3 → s.reg Reg.wakeSources ≠ 0)
include h0 hw

theorem State.requestPower_underway (ht : s.power.target.isSome = true) : s.requestPower n = (rcStateRefused, s) :=
  (State.requestPower_judged h0 hw).trans (if_pos ht)

theorem State.requestPower_same (ht : s.power.target = none) (hm : n % 4 = powerCode s.power.mode) :
    s.requestPower n = (rcOk, s) := by
  rw [State.requestPower_judged h0 hw, if_neg (by simp [ht]), if_pos hm]

/-- A request that neither a plan or bond nor the temperature stops arms its transition two courses ahead. -/
theorem State.requestPower_arms (ht : s.power.target = none) (hm : n % 4 ≠ powerCode s.power.mode)
    (hdeep : n % 4 < 2 ∨ bit n 7 = true ∨ s.reg Reg.bondMode = 0 ∧ s.planActive = false)
    (hcool : n % 4 = 0 → s.reg Reg.thermalLevel ≠ 3 ∧ s.power.tripped = false) :
    s.requestPower n = (rcOk, { s.setReg Reg.pendingTransition (n % 4) with
      power := { s.power with
        target := some (n % 4), startsAt := s.time.localCount + 2, started := false, cause := 1 } }) := by
  have hfree : ¬(decide (2 ≤ n % 4) && !bit n 7 && (s.reg Reg.bondMode != 0 || s.planActive)) = true := by
    rcases hdeep with h | h | ⟨hb, hp⟩
    · simp [Nat.not_le.mpr h]
    · simp [h]
    · simp [hb, hp]
  have hcold : ¬(n % 4 = 0 ∧ (s.reg Reg.thermalLevel = 3 ∨ s.power.tripped = true)) := fun ⟨hz, hh⟩ =>
    hh.elim (hcool hz).1 (ne_true_of_eq_false (hcool hz).2)
  rw [State.requestPower_judged h0 hw, if_neg (by simp [ht]), if_neg hm, if_neg hfree, if_neg hcold]

end

end

/-! ### Transitions (R449, R450) -/

section
variable {s : State} {t : Nat}

theorem execPowerTransitionStart_next : execPowerTransitionStart s = .next s.startTransition :=
  done_eq (State.startTransition_pending s)

theorem execPowerTransitionDone_next : execPowerTransitionDone s = .next s.endTransition :=
  done_eq (State.endTransition_pending s)

theorem execSleepEntry_next : execSleepEntry s = .next s.sleepNow := done_eq (State.sleepNow_pending s)

/-- A transition whose course has come starts, and records its cause and its course. -/
theorem State.startTransition_starts (ht : s.power.target = some t) (ha : s.awake = true)
    (hs : s.power.started = false) (hc : s.power.startsAt ≤ s.time.localCount) :
    s.startTransition =
      let w : State := { s with power := { s.power with started := true } }
      ((w.setReg Reg.lastTransitionCause w.power.cause).setReg Reg.lastTransitionCourse w.stamp).announceSleep :=
  if_neg (by simp [ht, ha, hs, hc])

theorem State.startTransition_early (h : s.time.localCount < s.power.startsAt) : s.startTransition = s :=
  if_pos (.inr (.inr (.inl h)))

/-- A leg that is not the end of the way to Sleep enters its state; the last one ends the transition. -/
theorem State.endTransition_leg (ht : s.power.target = some t) (ha : s.awake = true) (hs : s.power.started = true)
    (hm : nextMode s.power.mode t ≠ s.power.mode) :
    s.endTransition =
      let m := nextMode s.power.mode t
      let w := s.enterAwake m s.power.cause
      if powerCode m = t then
        { w.setReg Reg.pendingTransition 0xFF with power := { w.power with target := none, started := false } }
      else w.announceSleep := by
  unfold State.endTransition
  rw [ht]
  dsimp only
  rw [if_neg (by simp [hs, ha, hm]), if_neg hm]

/-- Sleep is reached once both notice queues are empty or the wait is over. -/
theorem State.sleepNow_sleeps (hm : s.power.mode = .doze) (ht : s.power.target = some 3) (hs : s.power.started = true)
    (hq : s.paths.chainQueue = [] ∧ s.paths.ringQueue = [] ∨ s.power.startsAt + 3125 ≤ s.time.localCount) :
    s.sleepNow = s.enterSleep s.power.cause := by
  refine if_pos ⟨hm, ht, hs, hq.imp_left fun ⟨hc, hr⟩ => ?_⟩
  rw [hc, hr]
  rfl

theorem State.sleepNow_elsewhere (h : s.power.mode ≠ .doze) : s.sleepNow = s := if_neg fun hx => h hx.1

end

/-! ### Wakes (R452, R453, R454) -/

section
variable {s : State} {src n : Nat} {b : Bytes} {count : Option Nat}

theorem execWakeAtCourse_next : execWakeAtCourse s = .next s.wakeAtCourse := done_eq (State.wakeAtCourse_pending s)

theorem execChainWakeFrame_next : execChainWakeFrame n b s = .next (s.wakeFrame n b) :=
  done_eq (State.wakeFrame_pending ..)

theorem execWakeNLow_next : execWakeNLow s = .next (s.startWake 3) := done_eq (State.startWake_pending ..)

theorem execSupplyReturn_next : execSupplyReturn s = .next s.supplyReturns := done_eq (State.supplyReturns_pending s)

theorem execWoken_next : execWoken count s = .next (s.wake count) := done_eq (State.wake_pending ..)

theorem execSleepTempEvent_next : execSleepTempEvent s = .next s.sleepTemp := done_eq (State.sleepTemp_pending s)

/-- In Sleep, with the input in range and no wake under way, an enabled source begins a wake. -/
theorem State.startWake_wakes (h : s.power.mode = .sleep ∧ s.power.waking = none ∧
      bit (s.reg Reg.wakeSources) (src - 1) = true ∧ s.power.pwrGood = true ∧ s.power.supplyLow = false) :
    s.startWake src =
      let w : State := { s with power := { s.power with waking := some src } }
      (w.setReg Reg.lastWakeSource src).setReg Reg.lastTransitionCourse w.stamp :=
  if_pos (h.imp_right (And.imp_left Option.isNone_iff_eq_none.mpr))

theorem State.startWake_elsewhere (h : s.power.mode ≠ .sleep) : s.startWake src = s := if_neg fun hx => h hx.1

theorem State.wakeAtCourse_comes (h : s.reg Reg.wakeCourse ≠ allOnes64)
    (hc : s.reg Reg.wakeCourse ≤ s.time.keeper + s.reg Reg.wakeLead + s.keeperBound) :
    s.wakeAtCourse = s.startWake 1 :=
  if_pos ⟨h, hc⟩

theorem State.wakeAtCourse_unset (h : s.reg Reg.wakeCourse = allOnes64) : s.wakeAtCourse = s :=
  if_neg fun hx => hx.1 h

/-- A wake frame to the module's own address or to all is heard. -/
theorem State.wakeFrame_heard (hf : isWakeFrame b = true) (hn : n = leVal (s.blob Blob.chainMac) ∨ n = 2 ^ 48 - 1) :
    s.wakeFrame n b = s.startWake 2 :=
  if_pos ⟨hn, hf⟩

theorem State.wakeFrame_other (hf : isWakeFrame b = false) : s.wakeFrame n b = s :=
  if_neg fun hx => ne_true_of_eq_false hf hx.2

/-- A supply that returns in Sleep after a loss is counted, and is a wake source. -/
theorem State.supplyReturns_wakes (hl : s.power.supplyLow = true) (hm : s.power.mode = .sleep) :
    s.supplyReturns =
      let w : State := { s with power := { s.power with supplyLow := false, pwrGood := true } }
      (w.bump Reg.supplyLosses).startWake 4 :=
  if_pos ⟨hl, hm⟩

/-- Else the input is in range again, and that is all. -/
theorem State.supplyReturns_restores (h : s.power.supplyLow = false ∨ s.power.mode ≠ .sleep) :
    s.supplyReturns = { s with power := { s.power with supplyLow := false, pwrGood := true } } :=
  if_neg fun hx => h.elim (fun hl => ne_true_of_eq_false hl hx.1) (· hx.2)

/-- The end of a wake in Sleep runs an attempt. -/
theorem State.wake_attempts (hm : s.power.mode = .sleep) (h : s.power.waking = some src) :
    s.wake count = (s.attempt none).endWake src count := by
  unfold State.wake
  rw [hm, h]

theorem State.wake_idle (h : s.power.waking = none) : s.wake count = s := by
  unfold State.wake
  rw [h]
  split
  · contradiction
  · rfl

theorem State.sleepTemp_alerts (hm : s.power.mode = .sleep) :
    s.sleepTemp =
      let w := s.bump Reg.sleepTempEvents
      State.driveAlert { w with power := { w.power with sleepAlert := true } } :=
  if_pos hm

end

/-! ### What forces Sleep, and samples (R454, R457, R458, R529, R560, R563) -/

theorem execPowerLoss_next {s : State} : execPowerLoss s = .next (s.cold false .off) := done_eq (State.cold_pending ..)

section
variable {s : State} {n cause : Nat} {fits : Bool} {r : Sensors}

theorem execSensorSample_next : execSensorSample fits r s = .next (s.sample fits r) := done_eq (State.sample_pending ..)

theorem execCoolantFlowLow_next : execCoolantFlowLow s = .next s.noticeFlow := done_eq (State.noticeFlow_pending s)

theorem State.noticeFlow_normal (h : s.power.flowLow < 3125) : s.noticeFlow = s := if_neg fun hx => by omega

variable (ha : s.awake = true)
include ha

/-- An awake module falls asleep at once, and records the course. -/
theorem State.forceSleep_awake :
    s.forceSleep cause = (s.setReg Reg.lastTransitionCourse s.stamp).enterSleep cause :=
  if_pos ha

theorem execThermalShutdown_next :
    execThermalShutdown s = .next ((s.setReg Reg.lastTransitionCourse s.stamp).enterSleep 2) :=
  done_of_eq (State.forceSleep_pending ..) (State.forceSleep_awake ha)

/-- An awake module whose supply is lost keeps the lowest voltage seen. -/
theorem State.supplyLost_awake :
    s.supplyLost n =
      let l := (s.power.lowest.map fun x => min x n).getD n
      State.forceSleep { s with power := { s.power with supplyLow := true, lowest := some l } } 3 := by
  unfold State.supplyLost
  rcases State.awake_iff.mp ha with hm | hm | hm <;> rw [hm]

theorem execSupplyLow_next :
    let l := (s.power.lowest.map fun x => min x n).getD n
    let w : State := { s with power := { s.power with supplyLow := true, lowest := some l } }
    execSupplyLow n s = .next ((w.setReg Reg.lastTransitionCourse w.stamp).enterSleep 3) :=
  done_of_eq (State.supplyLost_pending ..) ((State.supplyLost_awake ha).trans (State.forceSleep_awake ha))

theorem execOverVoltage_next :
    let w := s.bump Reg.overVoltageEvents
    execOverVoltage s = .next ((w.setReg Reg.lastTransitionCourse w.stamp).enterSleep 3) :=
  done_of_eq (by simp) ((if_pos ha).trans (State.forceSleep_awake ha))

theorem execPwrGoodDeassert_next :
    let w : State := { s with power := { s.power with pwrGood := false } }
    execPwrGoodDeassert s = .next ((w.setReg Reg.lastTransitionCourse w.stamp).enterSleep 3) :=
  done_of_eq (by simp) ((if_pos ha).trans (State.forceSleep_awake ha))

theorem State.noticeFlow_low (h : 3125 ≤ s.power.flowLow) :
    s.noticeFlow = s.notice Note.coolantFlowLow srcModule
      (u32 (s.reg Reg.coolantFlow) ++ u32 (s.reg Reg.inletTemperature) ++ u32 (s.reg Reg.outletTemperature)) :=
  if_pos ⟨ha, h⟩

/-- A sample that fits its course is shown and judged; a deferred one is the previous energy once more. -/
theorem State.sample_awake :
    s.sample fits r =
      if fits then ((((s.showSensors r).takeEnergy r.energy).noteFlow r.flowLow).takeTemperature r).thermalRests
      else ((s.bump Reg.sensorDeferred).takeEnergy (s.power.energy.headD 0)).thermalRests :=
  if_neg (by simp [ha])

end

/-- Settles O53, command by command, from the branches of each operation. That a loss of supply is counted when the
input returns in Sleep, and that the change to Sleep is announced before the notice queues drain, is assumption 39. -/
theorem powerStatesChange : Obligations.PowerStatesChange := by
  intro v n b s
  refine ⟨fun h => ⟨fun hr => ?_, fun h0 hw => ⟨fun ht => ?_, fun ht hm => ?_, fun ht hm hdeep hcool => ?_⟩⟩,
    fun t ht ha => ⟨fun hs hc => ?_, fun hc => ?_, fun hs => ⟨fun hm hl => ?_, fun hm hl => ?_, fun hm h3 hq => ?_⟩⟩,
    fun hm => ?_,
    ⟨fun hmay hu hc => ?_, fun hu => ?_, fun hmay hf hn => ?_, fun hf => ?_, fun hmay => ?_, fun hm => ?_,
      fun hl hm => ?_, fun h => ?_⟩,
    fun hm => ⟨fun src count hw => ?_, fun hw count => ?_, ?_⟩,
    fun ha => ⟨execSupplyLow_next ha, execOverVoltage_next ha, execPwrGoodDeassert_next ha, execThermalShutdown_next ha,
      fun hf => ?_, fun hf => ?_, fun r => ⟨?_, ?_⟩⟩,
    execPowerLoss_next⟩
  · exact execPowerRequest_next h (State.requestPower_range hr)
  · exact execPowerRequest_next h (State.requestPower_underway h0 hw ht)
  · exact execPowerRequest_next h (State.requestPower_same h0 hw ht hm)
  · exact execPowerRequest_next h (State.requestPower_arms h0 hw ht hm hdeep hcool)
  · exact execPowerTransitionStart_next.trans (congrArg _ (State.startTransition_starts ht ha hs hc))
  · exact execPowerTransitionStart_next.trans (congrArg _ (State.startTransition_early hc))
  · exact execPowerTransitionDone_next.trans (congrArg _ ((State.endTransition_leg ht ha hs hm).trans (if_pos hl)))
  · exact execPowerTransitionDone_next.trans (congrArg _ ((State.endTransition_leg ht ha hs hm).trans (if_neg hl)))
  · subst h3
    exact execSleepEntry_next.trans (congrArg _ (State.sleepNow_sleeps hm ht hs hq))
  · exact execSleepEntry_next.trans (congrArg _ (State.sleepNow_elsewhere hm))
  · exact execWakeAtCourse_next.trans
      (congrArg _ ((State.wakeAtCourse_comes hu hc).trans (State.startWake_wakes hmay)))
  · exact execWakeAtCourse_next.trans (congrArg _ (State.wakeAtCourse_unset hu))
  · exact execChainWakeFrame_next.trans
      (congrArg _ ((State.wakeFrame_heard hf hn).trans (State.startWake_wakes hmay)))
  · exact execChainWakeFrame_next.trans (congrArg _ (State.wakeFrame_other hf))
  · exact execWakeNLow_next.trans (congrArg _ (State.startWake_wakes hmay))
  · exact execWakeNLow_next.trans (congrArg _ (State.startWake_elsewhere hm))
  · exact execSupplyReturn_next.trans (congrArg _ (State.supplyReturns_wakes hl hm))
  · exact execSupplyReturn_next.trans (congrArg _ (State.supplyReturns_restores h))
  · exact execWoken_next.trans (congrArg _ (State.wake_attempts hm hw))
  · exact execWoken_next.trans (congrArg _ (State.wake_idle hw))
  · exact execSleepTempEvent_next.trans (congrArg _ (State.sleepTemp_alerts hm))
  · exact execCoolantFlowLow_next.trans (congrArg _ (State.noticeFlow_low ha hf))
  · exact execCoolantFlowLow_next.trans (congrArg _ (State.noticeFlow_normal hf))
  · exact execSensorSample_next.trans (congrArg _ ((State.sample_awake ha).trans (if_pos rfl)))
  · exact execSensorSample_next.trans (congrArg _ ((State.sample_awake ha).trans (if_neg (by decide))))

end Sys2Proof.Machine

/-! PROOFS. The queue of waiting commands: a step takes its front, and no command changes it. -/

namespace Sys2Proof.Machine

/-- Settles O1, by the two forms of the queue. The queue and the idle step are assumption 1. -/
theorem stepRunsFront : Obligations.StepRunsFront := by
  refine ⟨fun c rest s => rfl, fun s h => ?_⟩
  unfold step
  rw [h]

/-- `exec`, command by command: each arm is a command of one operation, and what it keeps of the queue is a lemma of its
own. -/
theorem exec_pending {s t : State} : ∀ c : Instr, exec c s = .next t → t.pending = s.pending
  | .courseStart, h => execCourseStart_pending _ _ h
  | .epochCourse phase8 keeperOffset ber, h => execEpochCourse_pending phase8 keeperOffset ber _ _ h
  | .referenceInvalid, h => execReferenceInvalid_pending _ _ h
  | .courseSourceWrite v value, h => execCourseSourceWrite_pending v value _ _ h
  | .courseLoad v value, h => execCourseLoad_pending v value _ _ h
  | .courseMark port mark phase8, h => execCourseMark_pending port mark phase8 _ _ h
  | .parentReselect, h => execParentReselect_pending _ _ h
  | .courseHoldover, h => execCourseHoldover_pending _ _ h
  | .courseLocked, h => execCourseLocked_pending _ _ h
  | .sourceReturn count phase8, h => execSourceReturn_pending count phase8 _ _ h
  | .phaseStep, h => execPhaseStep_pending _ _ h
  | .leadCourse, h => execLeadCourse_pending _ _ h
  | .delayProbe port roundTrip8 turnaround8, h => execDelayProbe_pending port roundTrip8 turnaround8 _ _ h
  | .dueCheck, h => execDueCheck_pending _ _ h
  | .planStalled, h => execPlanStalled_pending _ _ h
  | .restCourse, h => execRestCourse_pending _ _ h
  | .linkRetry port lane, h => execLinkRetry_pending port lane _ _ h
  | .tileReread consumer err, h => execTileReread_pending consumer err _ _ h
  | .scrubStep unit bank claimed ecc, h => execScrubStep_pending unit bank claimed ecc _ _ h
  | .pointingHousekeeping fits, h => execPointingHousekeeping_pending fits _ _ h
  | .sensorSample fits reading, h => execSensorSample_pending fits reading _ _ h
  | .maintenanceMicrostep cluster bytes, h => execMaintenanceMicrostep_pending cluster bytes _ _ h
  | .launchCourseWrite v value, h => execLaunchCourseWrite_pending v value _ _ h
  | .launch, h => execLaunch_pending _ _ h
  | .launchRefused, h => execLaunchRefused_pending _ _ h
  | .quoinCourse, h => execQuoinCourse_pending _ _ h
  | .correctedThreshold cluster position, h => execCorrectedThreshold_pending cluster position _ _ h
  | .substituteCore v value, h => execSubstituteCore_pending v value _ _ h
  | .substitutionRegisterCopy cluster fits, h => execSubstitutionRegisterCopy_pending cluster fits _ _ h
  | .substitutionSwap cluster, h => execSubstitutionSwap_pending cluster _ _ h
  | .unitMapChange, h => execUnitMapChange_pending _ _ h
  | .engineFlagsClear v cluster position engine value raised, h =>
    execEngineFlagsClear_pending v cluster position engine value raised _ _ h
  | .clearAllFlags v value raised, h => execClearAllFlags_pending v value raised _ _ h
  | .nop q f, h => execNop_pending q f _ _ h
  | .wait q f, h => execWait_pending q f _ _ h
  | .plumb q f, h => execPlumb_pending q f _ _ h
  | .plumbRelease core arrival, h => execPlumbRelease_pending core arrival _ _ h
  | .callRoutine q f, h => execCallRoutine_pending q f _ _ h
  | .ret q f, h => execRet_pending q f _ _ h
  | .endBundle q f, h => execEndBundle_pending q f _ _ h
  | .fmode q f, h => execFmode_pending q f _ _ h
  | .bundleStart core queue, h => execBundleStart_pending core queue _ _ h
  | .tset q f, h => execTset_pending q f _ _ h
  | .tfill q f batch err, h => execTfill_pending q f batch err _ _ h
  | .tileVerdict core engine, h => execTileVerdict_pending core engine _ _ h
  | .suspensionEnd, h => execSuspensionEnd_pending _ _ h
  | .mma q f batch, h => execMma_pending q f batch _ _ h
  | .vrd q f, h => execVrd_pending q f _ _ h
  | .addLane q f, h => execAddLane_pending q f _ _ h
  | .subLane q f, h => execSubLane_pending q f _ _ h
  | .mulLane q f, h => execMulLane_pending q f _ _ h
  | .fma q f, h => execFma_pending q f _ _ h
  | .divLane q f, h => execDivLane_pending q f _ _ h
  | .sqrt q f, h => execSqrt_pending q f _ _ h
  | .minLane q f, h => execMinLane_pending q f _ _ h
  | .maxLane q f, h => execMaxLane_pending q f _ _ h
  | .fn q f, h => execFn_pending q f _ _ h
  | .tbl q f, h => execTbl_pending q f _ _ h
  | .red q f, h => execRed_pending q f _ _ h
  | .sqa q f, h => execSqa_pending q f _ _ h
  | .rot q f, h => execRot_pending q f _ _ h
  | .amax q f, h => execAmax_pending q f _ _ h
  | .topk q f, h => execTopk_pending q f _ _ h
  | .rng q f, h => execRng_pending q f _ _ h
  | .cvt q f, h => execCvt_pending q f _ _ h
  | .dup q f, h => execDup_pending q f _ _ h
  | .ld q f ecc, h => execLd_pending q f ecc _ _ h
  | .st q f, h => execSt_pending q f _ _ h
  | .sta q f, h => execSta_pending q f _ _ h
  | .ldi q f ecc, h => execLdi_pending q f ecc _ _ h
  | .sti q f, h => execSti_pending q f _ _ h
  | .wcol q f, h => execWcol_pending q f _ _ h
  | .wrow q f, h => execWrow_pending q f _ _ h
  | .fill q f, h => execFill_pending q f _ _ h
  | .copy q f err, h => execCopy_pending q f err _ _ h
  | .snd q f, h => execSnd_pending q f _ _ h
  | .sndt q f err, h => execSndt_pending q f err _ _ h
  | .due q f, h => execDue_pending q f _ _ h
  | .tsig q f, h => execTsig_pending q f _ _ h
  | .lva q f, h => execLva_pending q f _ _ h
  | .rel q f, h => execRel_pending q f _ _ h
  | .lp q f, h => execLp_pending q f _ _ h
  | .setCount q f, h => execSetCount_pending q f _ _ h
  | .addc q f, h => execAddc_pending q f _ _ h
  | .kset q f, h => execKset_pending q f _ _ h
  | .bk q f, h => execBk_pending q f _ _ h
  | .wcrs q f, h => execWcrs_pending q f _ _ h
  | .ao q f, h => execAo_pending q f _ _ h
  | .twait q f, h => execTwait_pending q f _ _ h
  | .lvw q f, h => execLvw_pending q f _ _ h
  | .swapArm v value, h => execSwapArm_pending v value _ _ h
  | .bankSwap, h => execBankSwap_pending _ _ h
  | .handoffSwap cluster, h => execHandoffSwap_pending cluster _ _ h
  | .trowelFault cluster cause, h => execTrowelFault_pending cluster cause _ _ h
  | .slotClearingDone slot, h => execSlotClearingDone_pending slot _ _ h
  | .slotStampingDone slot, h => execSlotStampingDone_pending slot _ _ h
  | .edgeBlockFailure edge, h => execEdgeBlockFailure_pending edge _ _ h
  | .edgeRetrain edge, h => execEdgeRetrain_pending edge _ _ h
  | .flitReceived port lane slot flit fecOk corrected, h =>
    execFlitReceived_pending port lane slot flit fecOk corrected _ _ h
  | .lateFlitWrite port, h => execLateFlitWrite_pending port _ _ h
  | .linkReport port lane word, h => execLinkReport_pending port lane word _ _ h
  | .reportTimeout port lane course, h => execReportTimeout_pending port lane course _ _ h
  | .relayForward port route flitIndex egress lane slot, h =>
    execRelayForward_pending port route flitIndex egress lane slot _ _ h
  | .laneDown port lane cause, h => execLaneDown_pending port lane cause _ _ h
  | .laneRetrainDone port lane full ok, h => execLaneRetrainDone_pending port lane full ok _ _ h
  | .retrain v port value, h => execRetrain_pending v port value _ _ h
  | .partnerChange port deviceId partnerPort, h => execPartnerChange_pending port deviceId partnerPort _ _ h
  | .pointingMessage port lane word, h => execPointingMessage_pending port lane word _ _ h
  | .pointingResend port, h => execPointingResend_pending port _ _ h
  | .signalArrival packet, h => execSignalArrival_pending packet _ _ h
  | .levelArrival packet, h => execLevelArrival_pending packet _ _ h
  | .levelRelease packet, h => execLevelRelease_pending packet _ _ h
  | .ingressRecord qp window record, h => execIngressRecord_pending qp window record _ _ h
  | .bar2Write offset data, h => execBar2Write_pending offset data _ _ h
  | .planLoad v value, h => execPlanLoad_pending v value _ _ h
  | .planLoaderDone schedule, h => execPlanLoaderDone_pending schedule _ _ h
  | .planDiscard v value, h => execPlanDiscard_pending v value _ _ h
  | .planHalt v value, h => execPlanHalt_pending v value _ _ h
  | .planHalted, h => execPlanHalted_pending _ _ h
  | .descriptor qp message, h => execDescriptor_pending qp message _ _ h
  | .batchBuild, h => execBatchBuild_pending _ _ h
  | .orderBatch qp message, h => execOrderBatch_pending qp message _ _ h
  | .orderApply, h => execOrderApply_pending _ _ h
  | .abortReport qp message, h => execAbortReport_pending qp message _ _ h
  | .governorEvaluation unprocessed, h => execGovernorEvaluation_pending unprocessed _ _ h
  | .tokenRecord record, h => execTokenRecord_pending record _ _ h
  | .recordSend qp, h => execRecordSend_pending qp _ _ h
  | .loadGeneration v value, h => execLoadGeneration_pending v value _ _ h
  | .loadAdapter v value, h => execLoadAdapter_pending v value _ _ h
  | .loadAbort v value, h => execLoadAbort_pending v value _ _ h
  | .weightRecord, h => execWeightRecord_pending _ _ h
  | .creditMessage message, h => execCreditMessage_pending message _ _ h
  | .creditSend, h => execCreditSend_pending _ _ h
  | .switchCourse v value, h => execSwitchCourse_pending v value _ _ h
  | .generationSwitch, h => execGenerationSwitch_pending _ _ h
  | .generationDiscard v value, h => execGenerationDiscard_pending v value _ _ h
  | .adapterUnload v value, h => execAdapterUnload_pending v value _ _ h
  | .trainingPhase port word, h => execTrainingPhase_pending port word _ _ h
  | .trainingTimeout port, h => execTrainingTimeout_pending port _ _ h
  | .portRoleMismatch port partnerRole partnerDevice, h =>
    execPortRoleMismatch_pending port partnerRole partnerDevice _ _ h
  | .ethFrame ingress frame, h => execEthFrame_pending ingress frame _ _ h
  | .txSak v ingress value, h => execTxSak_pending v ingress value _ _ h
  | .rxSak v ingress value, h => execRxSak_pending v ingress value _ _ h
  | .rocePacket ingress qpn op icrcOk ce, h => execRocePacket_pending ingress qpn op icrcOk ce _ _ h
  | .rdmaWrite qp address rkey data, h => execRdmaWrite_pending qp address rkey data _ _ h
  | .qpConfig v value, h => execQpConfig_pending v value _ _ h
  | .qpReset v value, h => execQpReset_pending v value _ _ h
  | .qpRetryTimeout qp, h => execQpRetryTimeout_pending qp _ _ h
  | .functionReset kind, h => execFunctionReset_pending kind _ _ h
  | .claim node chainIn, h => execClaim_pending node chainIn _ _ h
  | .confirm node serial, h => execConfirm_pending node serial _ _ h
  | .claimTimeout, h => execClaimTimeout_pending _ _ h
  | .deviceIdWrite v value, h => execDeviceIdWrite_pending v value _ _ h
  | .dictionaryFrame mac frame, h => execDictionaryFrame_pending mac frame _ _ h
  | .gatewaySubmit slot, h => execGatewaySubmit_pending slot _ _ h
  | .readSegment v index sub typ offset, h => execReadSegment_pending v index sub typ offset _ _ h
  | .registerWrite v index sub typ offset total last value, h =>
    execRegisterWrite_pending v index sub typ offset total last value _ _ h
  | .writeSegmentTimeout v, h => execWriteSegmentTimeout_pending v _ _ h
  | .describe v index sub, h => execDescribe_pending v index sub _ _ h
  | .nextEntry v index sub, h => execNextEntry_pending v index sub _ _ h
  | .noticeRaise code cls source payload, h => execNoticeRaise_pending code cls source payload _ _ h
  | .noticeSendChain, h => execNoticeSendChain_pending _ _ h
  | .noticeRingWrite ok, h => execNoticeRingWrite_pending ok _ _ h
  | .ringControl value, h => execRingControl_pending value _ _ h
  | .powerRequest v value, h => execPowerRequest_pending v value _ _ h
  | .powerTransitionStart, h => execPowerTransitionStart_pending _ _ h
  | .powerTransitionDone, h => execPowerTransitionDone_pending _ _ h
  | .sleepEntry, h => execSleepEntry_pending _ _ h
  | .wakeAtCourse, h => execWakeAtCourse_pending _ _ h
  | .chainWakeFrame dest frame, h => execChainWakeFrame_pending dest frame _ _ h
  | .wakeNLow, h => execWakeNLow_pending _ _ h
  | .supplyLow lowest, h => execSupplyLow_pending lowest _ _ h
  | .supplyReturn, h => execSupplyReturn_pending _ _ h
  | .overVoltage, h => execOverVoltage_pending _ _ h
  | .sleepTempEvent, h => execSleepTempEvent_pending _ _ h
  | .woken source, h => execWoken_pending source _ _ h
  | .thermalShutdown, h => execThermalShutdown_pending _ _ h
  | .coolantFlowLow, h => execCoolantFlowLow_pending _ _ h
  | .attestNonce v value, h => execAttestNonce_pending v value _ _ h
  | .attestComplete, h => execAttestComplete_pending _ _ h
  | .spdmRequest request, h => execSpdmRequest_pending request _ _ h
  | .ownerEnroll v value, h => execOwnerEnroll_pending v value _ _ h
  | .ownerChange v value, h => execOwnerChange_pending v value _ _ h
  | .lifecycleToken v value, h => execLifecycleToken_pending v value _ _ h
  | .debugRequest v value, h => execDebugRequest_pending v value _ _ h
  | .debugToken v value, h => execDebugToken_pending v value _ _ h
  | .debugRead v, h => execDebugRead_pending v _ _ h
  | .debugWrite v value, h => execDebugWrite_pending v value _ _ h
  | .traceStart, h => execTraceStart_pending _ _ h
  | .securityVersionCommit v value, h => execSecurityVersionCommit_pending v value _ _ h
  | .notafterPassed, h => execNotafterPassed_pending _ _ h
  | .bondModeWrite v value, h => execBondModeWrite_pending v value _ _ h
  | .bondYield v value, h => execBondYield_pending v value _ _ h
  | .heartbeat bond lane word, h => execHeartbeat_pending bond lane word _ _ h
  | .partnerLost, h => execPartnerLost_pending _ _ h
  | .bondReport qp message, h => execBondReport_pending qp message _ _ h
  | .bondTakeover, h => execBondTakeover_pending _ _ h
  | .bondTakenOver, h => execBondTakenOver_pending _ _ h
  | .mirrorRecord record, h => execMirrorRecord_pending record _ _ h
  | .mirrorBufferFull, h => execMirrorBufferFull_pending _ _ h
  | .bondDegraded, h => execBondDegraded_pending _ _ h
  | .resyncDone, h => execResyncDone_pending _ _ h
  | .repairRequest port granule, h => execRepairRequest_pending port granule _ _ h
  | .repairTile granule tile, h => execRepairTile_pending granule tile _ _ h
  | .repairTimeout, h => execRepairTimeout_pending _ _ h
  | .noRepairSource, h => execNoRepairSource_pending _ _ h
  | .damageReport qp message, h => execDamageReport_pending qp message _ _ h
  | .firmwareActivate v value, h => execFirmwareActivate_pending v value _ _ h
  | .firmwareActivation, h => execFirmwareActivation_pending _ _ h
  | .keystoneRestartDone, h => execKeystoneRestartDone_pending _ _ h
  | .patchLoad v value, h => execPatchLoad_pending v value _ _ h
  | .patchActivate v value, h => execPatchActivate_pending v value _ _ h
  | .patchSwap, h => execPatchSwap_pending _ _ h
  | .retireCluster v value, h => execRetireCluster_pending v value _ _ h
  | .maintenanceRelease, h => execMaintenanceRelease_pending _ _ h
  | .attemptStart failing, h => execAttemptStart_pending failing _ _ h
  | .resetN low, h => execResetN_pending low _ _ h
  | .pwrGoodDeassert, h => execPwrGoodDeassert_pending _ _ h
  | .powerLoss, h => execPowerLoss_pending _ _ h
  | .startConfirmed, h => execStartConfirmed_pending _ _ h
  | .startFailed reason detail, h => execStartFailed_pending reason detail _ _ h
  | .startRetry v value, h => execStartRetry_pending v value _ _ h
  | .slotSelect v value, h => execSlotSelect_pending v value _ _ h
  | .slotImage v value, h => execSlotImage_pending v value _ _ h
  | .slotStage v value, h => execSlotStage_pending v value _ _ h
  | .diagnosticRun v value failing, h => execDiagnosticRun_pending v value failing _ _ h
  | .clearWithheld v value, h => execClearWithheld_pending v value _ _ h
  | .hardFault kind unit, h => execHardFault_pending kind unit _ _ h
  | .planStop, h => execPlanStop_pending _ _ h
  | .storeStuck address, h => execStoreStuck_pending address _ _ h
  | .fatalFault cause, h => execFatalFault_pending cause _ _ h
  | .bar0Write offset length value, h => execBar0Write_pending offset length value _ _ h
  | .ingressLinkChange ingress up, h => execIngressLinkChange_pending ingress up _ _ h
  | .pcieLinkChange state rate width, h => execPcieLinkChange_pending state rate width _ _ h
  | .ideKmExchange active, h => execIdeKmExchange_pending active _ _ h
  | .edgeLossOfLock edge, h => execEdgeLossOfLock_pending edge _ _ h
  | .edgeRetrainDone edge, h => execEdgeRetrainDone_pending edge _ _ h
  | .spareFault cluster, h => execSpareFault_pending cluster _ _ h
  | .trowelRestartDone cluster, h => execTrowelRestartDone_pending cluster _ _ h

/-- Settles O2, from what each command keeps. -/
theorem commandsKeepQueue : Obligations.CommandsKeepQueue := fun c _ _ => exec_pending c

end Sys2Proof.Machine

/-! PROOFS. Security and debug: reports, SPDM answers, traces and NotAfter, then the owner, the lifecycle, debug levels,
DebugWrite and the fused version, each operation branch by branch. -/

namespace Sys2Proof.Machine

/-- A granted write of a whole value that leaves the queue alone ends with what its entry answers. -/
theorem done_writeRequest {s t : State} {v : Via} {index sub typ rc : Nat} {value : Bytes} {act : State → Nat × State}
    (h : s.grants v index sub typ value = true) (ha : act (s.countRequest v) = (rc, t))
    (hp : ∀ u, (act u).2.pending = u.pending) :
    s.done (s.writeRequest v index sub typ value act) = .next (t.respond v index sub 2 rc []) :=
  onUnit_writeRequest (m := "") rfl h ha hp

/-! ### Reports (R479, R480, R485) -/

section
variable {s t : State} {v : Via} {b : Bytes} {rc : Nat}

theorem execAttestNonce_next (h : s.grants v 0x8010 1 9 b = true) (ha : (s.countRequest v).beginReport b = (rc, t)) :
    execAttestNonce v b s = .next (t.respond v 0x8010 1 2 rc []) :=
  done_writeRequest (act := fun s => s.beginReport b) h ha fun u => State.beginReport_pending u b

/-- With no report under way a module that is not Retired begins one. -/
theorem State.beginReport_begins (ha : s.reg Reg.attestState ≠ 1) (hl : s.reg Reg.lifecycle ≠ 3) :
    s.beginReport b =
      (rcOk, { s.setReg Reg.attestState 1 with security := { s.security with attest := some ⟨b, []⟩ } }) :=
  if_neg (not_or.mpr ⟨ha, hl⟩)

theorem State.beginReport_refused (h : s.reg Reg.attestState = 1 ∨ s.reg Reg.lifecycle = 3) :
    s.beginReport b = (rcStateRefused, s) :=
  if_pos h

theorem execAttestComplete_next : execAttestComplete s = .next s.reportDone := done_eq (State.reportDone_pending s)

/-- The body of a report under way: the one captured, or one of the present values. -/
def State.bodyOf (s : State) (a : Attest) : Bytes := if a.body.isEmpty then s.reportBody a.nonce else a.body

/-- A capture gives the report under way its body; one that has a body keeps it. -/
theorem State.captureReport_underway {a : Attest} (h : s.security.attest = some a) :
    s.captureReport = { s with security := { s.security with attest := some { a with body := s.bodyOf a } } } := by
  unfold State.captureReport State.bodyOf
  rw [h]
  dsimp only
  by_cases hb : a.body.isEmpty = true
  · rw [if_pos hb, if_pos hb]
  · rw [if_neg hb, if_neg hb, ← h]

/-- A report under way is signed, shown and counted. -/
theorem State.reportDone_signs {a : Attest} (h : s.security.attest = some a) :
    s.reportDone =
      let t : State := { s with security := { s.security with attest := some { a with body := s.bodyOf a } } }
      let t := ((t.setBlob Blob.attestReport (t.signReport (s.bodyOf a))).setReg Reg.attestState 2).bump
        Reg.attestReports
      { t with security := { t.security with attest := none } } := by
  unfold State.reportDone
  rw [State.captureReport_underway h]

theorem State.reportDone_none (h : s.security.attest = none) : s.reportDone = s := by
  unfold State.reportDone State.captureReport
  rw [h]
  dsimp only
  rw [h]

end

/-! ### SPDM answers (R481, R485) -/

section
variable {s : State} {r : SpdmRequest} (ha : s.awake = true)

theorem execSpdmRequest_next : execSpdmRequest r s = .next (s.answerSpdm r) := done_eq (State.answerSpdm_pending s r)

include ha

/-- In Retired every request is answered with nothing. -/
theorem State.answerSpdm_retired (hl : s.reg Reg.lifecycle = 3) : s.answerSpdm r = s.emit (.spdm []) := by
  unfold State.answerSpdm
  rw [if_neg (by simp [ha]), if_pos hl]

section
variable (hl : s.reg Reg.lifecycle ≠ 3)
include hl

theorem State.answerSpdm_certificate : s.answerSpdm (.getCertificate 0) = s.emit (.spdm (s.certificate false)) := by
  unfold State.answerSpdm
  rw [if_neg (by simp [ha]), if_neg hl]
  rfl

/-- Index 0x10 asks for all blocks, a signed report; any other index for its block. -/
theorem State.answerSpdm_measurements {index : Nat} {nonce : Bytes} :
    s.answerSpdm (.getMeasurements index nonce) =
      if index = 0x10 then (s.bump Reg.attestReports).emit (.spdm (s.signReport (s.reportBody nonce)))
      else s.emit (.spdm (s.measurementBlock index)) := by
  unfold State.answerSpdm
  rw [if_neg (by simp [ha]), if_neg hl]

end

end

/-! ### The trace and NotAfter (R473, R492) -/

section
variable {s : State}

theorem execTraceStart_next : execTraceStart s = .next s.startTrace := done_eq (State.startTrace_pending s)

/-- A configured trace starts in the running plan once its course has come. -/
theorem State.startTrace_starts (hc : s.reg Reg.traceState = 1) (hr : s.prog.running = true)
    (hs : s.reg Reg.traceStart ≤ s.prog.course) :
    s.startTrace =
      let t := s.setReg Reg.traceState 2
      { t with security := { t.security with trace := [], traceUntil := t.prog.course + t.reg Reg.traceCourses } } :=
  if_pos ⟨hc, hr, hs⟩

theorem State.startTrace_early (h : s.prog.course < s.reg Reg.traceStart) : s.startTrace = s :=
  if_neg fun hx => Nat.not_le.mpr h hx.2.2

theorem execNotafterPassed_next : execNotafterPassed s = .next s.judgeNotAfter :=
  done_eq (State.judgeNotAfter_pending s)

/-- An awake module with a known count judges its running image once. -/
theorem State.judgeNotAfter_judges (hk : s.time.known = true) (hs : s.security.notAfterSeen = false)
    (hl : s.limewash = false) (ha : s.awake = true) :
    s.judgeNotAfter =
      let i : Item := ⟨s.security.image⟩
      let t : State := { s with security := { s.security with notAfterSeen := true } }
      if i.notAfter = 0 ∨ s.time.count ≤ i.notAfter then t
      else t.notice Note.imageRefused srcModule (u8 1 ++ u8 9 ++ u8 i.securityVersion ++ u8 2) :=
  if_neg (by simp [hk, hs, hl, ha])

end

/-- Settles O54, command by command. That an SPDM error is an empty response is assumption 39. -/
theorem reportsAndTraces : Obligations.ReportsAndTraces := by
  intro v b s
  refine ⟨fun h => ⟨fun ha hl => ?_, fun hr => ?_⟩, fun a h => ?_, fun h => ?_,
    fun ha hl => ⟨?_, fun index nonce hi => ?_, fun nonce => ?_⟩, fun ha hl r => ?_,
    fun hc hr hs => ?_, fun h => ?_, fun hk hs hl ha => ⟨fun hi => ?_, fun h0 hi => ?_⟩⟩
  · exact execAttestNonce_next h (State.beginReport_begins ha hl)
  · exact execAttestNonce_next h (State.beginReport_refused hr)
  · exact execAttestComplete_next.trans (congrArg _ (State.reportDone_signs h))
  · exact execAttestComplete_next.trans (congrArg _ (State.reportDone_none h))
  · exact execSpdmRequest_next.trans (congrArg _ (State.answerSpdm_certificate ha hl))
  · exact execSpdmRequest_next.trans (congrArg _ ((State.answerSpdm_measurements ha hl).trans (if_neg hi)))
  · exact execSpdmRequest_next.trans (congrArg _ ((State.answerSpdm_measurements ha hl).trans (if_pos rfl)))
  · exact execSpdmRequest_next.trans (congrArg _ (State.answerSpdm_retired ha hl))
  · exact execTraceStart_next.trans (congrArg _ (State.startTrace_starts hc hr hs))
  · exact execTraceStart_next.trans (congrArg _ (State.startTrace_early h))
  · exact execNotafterPassed_next.trans (congrArg _ ((State.judgeNotAfter_judges hk hs hl ha).trans (if_pos hi)))
  · exact execNotafterPassed_next.trans
      (congrArg _ ((State.judgeNotAfter_judges hk hs hl ha).trans (if_neg (not_or.mpr ⟨h0, Nat.not_le.mpr hi⟩))))

/-! ### Signed items (R472) -/

section
variable {s : State} {i : Item} {kinds : List Nat} {path cause rc : Nat} {act : State → Nat × State}

/-- An item that verifies acts. -/
theorem State.accept_verified (h : s.verify i kinds false = none) : s.accept i kinds path act = act s := by
  unfold State.accept
  rw [h]

/-- One that does not is refused with its cause and result. -/
theorem State.accept_refused (h : s.verify i kinds false = some (cause, rc)) :
    s.accept i kinds path act = (rc, s.refuseItem i cause path) := by
  unfold State.accept
  rw [h]

end

/-! ### The owner and the lifecycle (R477, R483) -/

section
variable {s t : State} {v : Via} {b : Bytes} {rc path cause : Nat}

theorem execOwnerEnroll_next (h : s.grants v 0x8010 7 9 b = true) (ha : (s.countRequest v).enroll b = (rc, t)) :
    execOwnerEnroll v b s = .next (t.respond v 0x8010 7 2 rc []) :=
  done_writeRequest (act := fun s => s.enroll b) h ha fun u => State.enroll_pending u b

theorem State.enroll_enrols (hl : s.reg Reg.lifecycle = 1) (ho : s.owned = false) :
    s.enroll b = (rcOk, s.setOwner (some b) 1) :=
  if_neg (by simp [hl, ho])

theorem State.enroll_refused (h : s.reg Reg.lifecycle ≠ 1 ∨ s.owned = true) : s.enroll b = (rcStateRefused, s) :=
  if_pos h

theorem execOwnerChange_next (h : s.grants v 0x8010 8 9 b = true)
    (ha : (s.countRequest v).changeOwner (viaCode v) b = (rc, t)) :
    execOwnerChange v b s = .next (t.respond v 0x8010 8 2 rc []) :=
  done_writeRequest (act := fun s => s.changeOwner (viaCode v) b) h ha fun _ => State.changeOwner_pending ..

/-- A verified change enrols the digests it carries, or ends the enrolment where they are zero. -/
theorem State.changeOwner_verified (hv : s.verify ⟨b⟩ [4] false = none) :
    s.changeOwner path b =
      let e := slice (⟨b⟩ : Item).body 64 64
      (rcOk, (if allZero e then s.setOwner none 3 else s.setOwner (some e) 2).freshNonce) := by
  unfold State.changeOwner
  exact State.accept_verified hv

theorem State.changeOwner_unverified (hv : s.verify ⟨b⟩ [4] false = some (cause, rc)) :
    s.changeOwner path b = (rc, s.refuseItem ⟨b⟩ cause path) := by
  unfold State.changeOwner
  exact State.accept_refused hv

theorem State.changeOwner_sets (hv : s.verify ⟨b⟩ [4] false = none)
    (hz : allZero (slice (⟨b⟩ : Item).body 64 64) = false) :
    s.changeOwner path b = (rcOk, (s.setOwner (some (slice (⟨b⟩ : Item).body 64 64)) 2).freshNonce) := by
  rw [State.changeOwner_verified hv]
  dsimp only
  rw [if_neg (ne_true_of_eq_false hz)]

theorem State.changeOwner_removes (hv : s.verify ⟨b⟩ [4] false = none)
    (hz : allZero (slice (⟨b⟩ : Item).body 64 64) = true) :
    s.changeOwner path b = (rcOk, (s.setOwner none 3).freshNonce) := by
  rw [State.changeOwner_verified hv]
  dsimp only
  rw [if_pos hz]

theorem execLifecycleToken_next (h : s.grants v 0x8020 2 9 b = true)
    (ha : (s.countRequest v).takeLifecycle (viaCode v) b = (rc, t)) :
    execLifecycleToken v b s = .next (t.respond v 0x8020 2 2 rc []) :=
  done_writeRequest (act := fun s => s.takeLifecycle (viaCode v) b) h ha fun _ => State.takeLifecycle_pending ..

/-- A verified token moves the lifecycle where R483 has the move. -/
theorem State.takeLifecycle_verified (hv : s.verify ⟨b⟩ [5] false = none) :
    s.takeLifecycle path b =
      let i : Item := ⟨b⟩
      if s.moveAllowed i.request then (rcOk, s.moveLifecycle i.request) else (rcStateRefused, s) := by
  unfold State.takeLifecycle
  exact State.accept_verified hv

theorem State.takeLifecycle_unverified (hv : s.verify ⟨b⟩ [5] false = some (cause, rc)) :
    s.takeLifecycle path b = (rc, s.refuseItem ⟨b⟩ cause path) := by
  unfold State.takeLifecycle
  exact State.accept_refused hv

end

/-! ### Debug levels (R491, R493) -/

section
variable {s t : State} {v : Via} {b : Bytes} {n rc cause : Nat}

theorem execDebugRequest_next (h : s.grantsNumber v 0x8020 5 1 n = true)
    (ha : (s.countRequest v).requestLevel v n = (rc, t)) :
    execDebugRequest v n s = .next (t.respond v 0x8020 5 2 rc []) :=
  done_writeNumber (act := fun s => s.requestLevel v n) h ha fun u => State.requestLevel_pending u v n

theorem State.requestLevel_lowers (h : n ≤ s.reg Reg.debugLevel) (h3 : n ≤ 3) :
    s.requestLevel v n = (rcOk, s.setDebugLevel n (viaCode v) 1) := by
  unfold State.requestLevel
  rw [if_neg (Nat.not_lt.mpr h3), if_pos h]

/-- A request never raises the level to 3. -/
theorem State.requestLevel_full (h : s.reg Reg.debugLevel < 3) : s.requestLevel v 3 = (rcStateRefused, s) := by
  unfold State.requestLevel
  rw [if_neg (by decide), if_neg (Nat.not_le.mpr h), if_pos rfl]

/-- A higher level below 3 is entered where the state allows it, level 2 on a secure path with no owner. -/
theorem State.requestLevel_raises (h : s.reg Reg.debugLevel < n) (h3 : n < 3)
    (h2 : n = 2 → s.secure v = true ∧ s.owned = false) (hl : s.levelAllowed n = true) :
    s.requestLevel v n = (rcOk, s.setDebugLevel n (viaCode v) 1) := by
  have hpath : ¬(n = 2 ∧ s.secure v = false) := fun ⟨hn, hs⟩ => ne_true_of_eq_false hs (h2 hn).1
  have hfree : ¬((n = 2 ∧ s.owned = true) ∨ s.levelAllowed n = false) := by
    rintro (⟨hn, ho⟩ | hx)
    · exact ne_true_of_eq_false (h2 hn).2 ho
    · exact ne_true_of_eq_false hx hl
  unfold State.requestLevel
  rw [if_neg (by omega), if_neg (Nat.not_le.mpr h), if_neg (by omega), if_neg hpath, if_neg hfree]

theorem execDebugToken_next (h : s.grants v 0x8020 6 9 b = true) (ha : (s.countRequest v).takeToken v b = (rc, t)) :
    execDebugToken v b s = .next (t.respond v 0x8020 6 2 rc []) :=
  done_writeRequest (act := fun s => s.takeToken v b) h ha fun u => State.takeToken_pending u v b

/-- A verified token is judged by the level it asks for. -/
theorem State.takeToken_verified (hv : s.verify ⟨b⟩ [3] false = none) :
    s.takeToken v b =
      let l := (⟨b⟩ : Item).request
      if 3 < l then (rcRangeError, s)
      else if l ≤ s.reg Reg.debugLevel then (rcOk, s.freshNonce)
      else if s.levelAllowed l then (rcOk, (s.setDebugLevel l (viaCode v) 2).freshNonce)
      else (rcStateRefused, s) := by
  unfold State.takeToken
  exact State.accept_verified hv

theorem State.takeToken_unverified (hv : s.verify ⟨b⟩ [3] false = some (cause, rc)) :
    s.takeToken v b = (rc, s.refuseItem ⟨b⟩ cause (viaCode v)) := by
  unfold State.takeToken
  exact State.accept_refused hv

end

/-! ### DebugWrite and the fused version (R476, R492) -/

section
variable {s t : State} {v : Via} {b : Bytes} {rc : Nat}

theorem execDebugWrite_next (h : s.grants v 0x8100 4 9 b = true) (ha : (s.countRequest v).debugWrite b = (rc, t)) :
    execDebugWrite v b s = .next (t.respond v 0x8100 4 2 rc []) :=
  done_writeRequest (act := fun s => s.debugWrite b) h ha fun u => State.debugWrite_pending u b

/-- In Hold with no plan active the bytes go to a range that exists. -/
theorem State.debugWrite_stores {a : Nat} (hm : s.power.mode = .hold) (hp : s.planActive = false)
    (hr : s.debugRange (s.reg Reg.debugAddress) b.length = (rcOk, a)) : s.debugWrite b = (rcOk, s.store a b) := by
  unfold State.debugWrite
  rw [if_neg (by simp [hm, hp]), hr]
  rfl

theorem State.debugWrite_refused (h : s.power.mode ≠ .hold ∨ s.planActive = true) :
    s.debugWrite b = (rcStateRefused, s) :=
  if_pos h

theorem execSecurityVersionCommit_next (h : s.grantsNumber v 0x8000 3 7 1 = true)
    (ha : (s.countRequest v).commitVersion = (rc, t)) :
    execSecurityVersionCommit v 1 s = .next (t.respond v 0x8000 3 2 rc []) :=
  done_writeNumber (act := State.commitVersion) h ha State.commitVersion_pending

/-- A running version above the fused one is fused, unless the other slot would be left behind. -/
theorem State.commitVersion_fuses (hl : s.limewash = false)
    (hv : s.reg Reg.securityVersionFused < s.reg Reg.securityVersionRunning) (ho : s.olderImage = false) :
    s.commitVersion =
      let w := s.reg Reg.securityVersionRunning
      (rcOk, (s.setReg Reg.securityVersionFused w).notice Note.securityVersionCommitted srcModule (u8 w)) :=
  if_neg (by simp [hl, ho, hv])

theorem State.commitVersion_refused (h : s.limewash = true ∨
      s.reg Reg.securityVersionRunning ≤ s.reg Reg.securityVersionFused ∨ s.olderImage = true) :
    s.commitVersion = (rcStateRefused, s) :=
  if_pos h

end

/-- Settles O55, command by command, from what each entry answers. -/
theorem securityCommandsAct : Obligations.SecurityCommandsAct := by
  intro v n b s u i refuse
  refine ⟨fun h => ⟨fun hl ho => ?_, fun hr => ?_⟩,
    fun h => ⟨fun hv hz => ?_, fun hv hz => ?_, fun cause rc hv => ?_⟩,
    fun h => ⟨fun hv hm => ?_, fun hv hm => ?_, fun cause rc hv => ?_⟩,
    fun h => ⟨fun hl h3 => ?_, fun hl h3 h2 ha => ?_, fun hl h3 => ?_⟩,
    fun h => ⟨fun hv h3 hl ha => ?_, fun hv h3 hl => ?_, fun hv h3 => ?_, fun cause rc hv => ?_⟩,
    fun h => ⟨fun hm hp a hr => ?_, fun hr => ?_⟩,
    fun h => ⟨fun hl hv ho => ?_, fun hr => ?_⟩⟩
  · exact execOwnerEnroll_next h (State.enroll_enrols hl ho)
  · exact execOwnerEnroll_next h (State.enroll_refused hr)
  · exact execOwnerChange_next h (State.changeOwner_sets hv hz)
  · exact execOwnerChange_next h (State.changeOwner_removes hv hz)
  · exact execOwnerChange_next h (State.changeOwner_unverified hv)
  · exact execLifecycleToken_next h ((State.takeLifecycle_verified hv).trans (if_pos hm))
  · exact execLifecycleToken_next h ((State.takeLifecycle_verified hv).trans (if_neg (ne_true_of_eq_false hm)))
  · exact execLifecycleToken_next h (State.takeLifecycle_unverified hv)
  · exact execDebugRequest_next h (State.requestLevel_lowers hl h3)
  · exact execDebugRequest_next h (State.requestLevel_raises hl h3 h2 ha)
  · subst h3
    exact execDebugRequest_next h (State.requestLevel_full hl)
  · exact execDebugToken_next h ((State.takeToken_verified hv).trans
      ((if_neg (Nat.not_lt.mpr h3)).trans ((if_neg (Nat.not_le.mpr hl)).trans (if_pos ha))))
  · exact execDebugToken_next h ((State.takeToken_verified hv).trans ((if_neg (Nat.not_lt.mpr h3)).trans (if_pos hl)))
  · exact execDebugToken_next h ((State.takeToken_verified hv).trans (if_pos h3))
  · exact execDebugToken_next h (State.takeToken_unverified hv)
  · exact execDebugWrite_next h (State.debugWrite_stores hm hp hr)
  · exact execDebugWrite_next h (State.debugWrite_refused hr)
  · exact execSecurityVersionCommit_next h (State.commitVersion_fuses hl hv ho)
  · exact execSecurityVersionCommit_next h (State.commitVersion_refused hr)

end Sys2Proof.Machine

/-! PROOFS. Starts and firmware: attempts and resets, slots and diagnostics, activations and patches, each operation
branch by branch. -/

namespace Sys2Proof.Machine

/-! ### Attempts and resets (R529, R531, R535, R547) -/

section
variable {s t : State} {v : Via} {n rc reason detail cause : Nat} {l : List Nat}

theorem execAttemptStart_next : execAttemptStart l s = .next (s.startUp l) := done_eq (State.startUp_pending s l)

theorem State.startUp_attempts (h : s.mayStart = true) : s.startUp l = (s.attempt (some l)).wakeClock := if_pos h

theorem State.startUp_elsewhere (h : s.mayStart = false) : s.startUp l = s := if_neg (ne_true_of_eq_false h)

theorem execResetN_next : execResetN n s = .next (s.resetPin n) := done_eq (State.resetPin_pending s n)

/-- In every power mode but Off a pulse of 16 courses resets, and a shorter one does nothing. -/
theorem State.resetPin_eq :
    s.resetPin n = if s.power.mode ≠ .off ∧ 16 ≤ n then s.cold true .inReset else s := by
  unfold State.resetPin
  cases s.power.mode <;> simp

theorem execStartConfirmed_next : execStartConfirmed s = .next s.confirmStart :=
  done_eq (State.confirmStart_pending s)

/-- An Operational module that has stood for 2²⁰ courses confirms its start. -/
theorem State.confirmStart_confirms (hs : s.reg Reg.startState = 1)
    (hc : s.start.operationalAt + 2 ^ 20 ≤ s.time.localCount) :
    s.confirmStart =
      let t := (s.setReg Reg.startState 2).setReg Reg.failedStarts 0
      let t := t.recordStart 0 (t.reg Reg.runningSlot) 7 0
      let t : State := { t with start := { t.start with unfinished := false } }
      t.notice Note.startConfirmed srcModule
        (u8 (t.reg Reg.runningSlot) ++ u32 (t.reg Reg.firmwareVersion) ++ u32 (t.reg Reg.lastStartCourses)) :=
  if_pos ⟨hs, hc⟩

theorem State.confirmStart_early (h : s.time.localCount < s.start.operationalAt + 2 ^ 20) : s.confirmStart = s :=
  if_neg fun hx => Nat.not_le.mpr h hx.2

theorem execStartFailed_next : execStartFailed reason detail s = .next (s.startFails reason detail) :=
  done_eq (State.startFails_pending ..)

/-- A failure of reason 2 to 5 fails an attempt that is Operational and not yet confirmed. -/
theorem State.startFails_fails (hm : s.mayStart = false) (ha : s.awake = true) (hs : s.reg Reg.startState = 1)
    (h2 : 2 ≤ reason) (h5 : reason ≤ 5) :
    s.startFails reason detail = s.failAttempt reason (s.reg Reg.runningSlot) s.stepReached detail := by
  unfold State.startFails
  rw [if_neg (by omega), if_neg (ne_true_of_eq_false hm), if_pos ⟨ha, hs⟩]

theorem execFatalFault_next : execFatalFault cause s = .next (s.fatalFault cause) :=
  done_eq (State.fatalFault_pending ..)

/-- A fatal fault is counted and kept with its stamp; it fails an attempt not yet confirmed, else it restarts. -/
theorem State.fatalFault_restarts (ha : s.awake = true) (h1 : 1 ≤ cause) (h5 : cause ≤ 5) :
    s.fatalFault cause =
      let t := s.bump Reg.fatalResets
      let t : State := { t with start := { t.start with fatal := some (cause, t.stamp) } }
      if t.reg Reg.startState = 1 then t.failAttempt 6 (t.reg Reg.runningSlot) t.stepReached cause
      else t.internalReset := by
  have hfatal : ¬(s.awake = false ∨ cause = 0 ∨ 5 < cause) := by
    rintro (h | h)
    · exact ne_true_of_eq_false h ha
    · omega
  exact if_neg hfatal

theorem execStartRetry_next (h : s.grantsNumber v 0xA600 5 7 1 = true) (ha : (s.countRequest v).retryStart = (rc, t)) :
    execStartRetry v 1 s = .next (t.respond v 0xA600 5 2 rc []) :=
  done_writeNumber (act := State.retryStart) h ha State.retryStart_pending

theorem State.retryStart_restarts (hl : s.limewash = true) (hr : s.reg Reg.limewashReason ≠ 2) :
    s.retryStart = (rcOk, (s.setReg Reg.failedStarts 0).internalReset) :=
  if_neg (by simp [hl, hr])

theorem State.retryStart_refused (h : s.limewash = false ∨ s.reg Reg.limewashReason = 2) :
    s.retryStart = (rcStateRefused, s) :=
  if_pos h

end

/-! ### Firmware slots and diagnostics (R532, R550, R552) -/

section
variable {s t : State} {v : Via} {b : Bytes} {n rc path : Nat} {l : List Nat}

theorem execSlotSelect_next (h : s.grantsNumber v 0xA601 3 1 n = true)
    (ha : (s.countRequest v).selectSlot n = (rc, t)) :
    execSlotSelect v n s = .next (t.respond v 0xA601 3 2 rc []) :=
  done_writeNumber (act := fun s => s.selectSlot n) h ha fun u => State.selectSlot_pending u n

theorem State.selectSlot_selects (h : s.limewash = true ∨ n ≠ s.reg Reg.runningSlot) :
    s.selectSlot n = (rcOk, s.setReg Reg.slotSelect n) :=
  if_neg fun ⟨hl, hn⟩ => h.elim (ne_true_of_eq_false hl) (· hn)

theorem State.selectSlot_running (hl : s.limewash = false) (hn : n = s.reg Reg.runningSlot) :
    s.selectSlot n = (rcStateRefused, s) :=
  if_pos ⟨hl, hn⟩

theorem execSlotImage_next (h : s.grants v 0xA601 4 9 b = true)
    (ha : (s.countRequest v).writeSlot (viaCode v) b = (rc, t)) :
    execSlotImage v b s = .next (t.respond v 0xA601 4 2 rc []) :=
  done_writeRequest (act := fun s => s.writeSlot (viaCode v) b) h ha fun _ => State.writeSlot_pending ..

/-- What a write of the selected slot leaves, and its result: the item kept, verified, and shown Valid or refused. -/
def State.slotStored (s : State) (path : Nat) (b : Bytes) : Nat × State :=
  let slot := s.reg Reg.slotSelect
  let t : State := { s with start := { s.start with flash := Map.set s.start.flash [] slot b } }
  match t.verify ⟨b⟩ [1] false with
  | some (cause, rc) => (rc, (t.showSlot slot 3 0).refuseItem ⟨b⟩ cause path)
  | none => (rcOk, t.showSlot slot 2 (⟨b⟩ : Item).firmwareVersion)

/-- A slot that does not run is written; in Limewash either is. -/
theorem State.writeSlot_writes (h : s.limewash = true ∨ s.reg Reg.slotSelect ≠ s.reg Reg.runningSlot) :
    s.writeSlot path b = s.slotStored path b :=
  if_neg fun ⟨hl, hs⟩ => h.elim (ne_true_of_eq_false hl) (· hs)

theorem execSlotStage_next (h : s.grantsNumber v 0xA601 5 3 n = true)
    (ha : (s.countRequest v).stageSlot (viaCode v) n = (rc, t)) :
    execSlotStage v n s = .next (t.respond v 0xA601 5 2 rc []) :=
  done_writeNumber (act := fun s => s.stageSlot (viaCode v) n) h ha fun _ => State.stageSlot_pending ..

/-- With no plan kept the staged bytes are written as the slot's image. -/
theorem State.stageSlot_writes (hn : n ≤ 2 ^ 24) (hp : s.reg Reg.planState = 0) :
    s.stageSlot path n = s.writeSlot path (s.staging.read 0 n) := by
  unfold State.stageSlot
  rw [if_neg (Nat.not_lt.mpr hn), if_neg (not_not.mpr hp)]

theorem State.stageSlot_refused (hn : n ≤ 2 ^ 24) (hp : s.reg Reg.planState ≠ 0) :
    s.stageSlot path n = (rcStateRefused, s) := by
  unfold State.stageSlot
  rw [if_neg (Nat.not_lt.mpr hn), if_pos hp]

theorem execDiagnosticRun_next (h : s.grantsNumber v 0xA603 6 1 n = true)
    (ha : (s.countRequest v).diagnose n l = (rc, t)) :
    execDiagnosticRun v n l s = .next (t.respond v 0xA603 6 2 rc []) :=
  done_writeNumber (act := fun s => s.diagnose n l) h ha fun u => State.diagnose_pending u n l

theorem State.diagnose_refused (h : s.limewash = false) : s.diagnose n l = (rcStateRefused, s) := if_pos h

/-- In Limewash a test shows its result; test 2 leaves the stores zero. -/
theorem State.diagnose_shows (h : s.limewash = true) :
    s.diagnose n l =
      let t : State := if n = 2 then { s with mem := [] } else s
      (rcOk, t.setBlob Blob.diagnosticResult ((u8 n ++ u8 (flagNat l.isEmpty) ++ l.flatMap u32).take 4096)) :=
  if_neg (ne_false_of_eq_true h)

end

/-! ### Firmware activation (R516) -/

section
variable {s t : State} {v : Via} {n c rc path : Nat}

theorem execFirmwareActivate_next (h : s.grantsNumber v 0x9020 1 4 n = true)
    (ha : (s.countRequest v).activateFirmware (viaCode v) n = (rc, t)) :
    execFirmwareActivate v n s = .next (t.respond v 0x9020 1 2 rc []) :=
  done_writeNumber (act := fun s => s.activateFirmware (viaCode v) n) h ha fun _ => State.activateFirmware_pending ..

theorem State.activateFirmware_range (hl : s.limewash = false) (hc : s.activationCourse c 64 = false) :
    s.activateFirmware path c = (rcRangeError, s) := by
  unfold State.activateFirmware
  rw [if_neg (ne_true_of_eq_false hl), if_pos hc]

/-- At a course that may be named, the other slot's image is verified, then its books and the activation under way are
judged, then the governor. -/
theorem State.activateFirmware_judges (hl : s.limewash = false) (hc : s.activationCourse c 64 = true) :
    s.activateFirmware path c =
      let i := s.slotItem s.otherSlot
      match s.verify i [1] false with
      | some (cause, rc) => (rc, s.refuseItem i cause path)
      | none =>
        if s.prog.running = true ∧ i.bookVersion ≠ s.reg Reg.patternBookVersion then (rcStateRefused, s)
        else if s.reg Reg.activationState ≠ 0 then (rcStateRefused, s)
        else s.govern 1 path c (State.armFirmware c) :=
  (if_neg (ne_true_of_eq_false hl)).trans (if_neg (ne_false_of_eq_true hc))

theorem execFirmwareActivation_next : execFirmwareActivation s = .next s.activate := done_eq (State.activate_pending s)

theorem State.activate_none (h : s.start.firmwareAt = none) : s.activate = s := by
  unfold State.activate
  rw [h]

/-- A Trowel of a cluster goes over to its other bank. -/
def State.swapTrowel (s : State) (c : Nat) : State := s.setReg (Reg.trowelBank c) (1 - s.reg (Reg.trowelBank c))

/-- An armed activation whose course has come swaps the Trowels' banks and takes the patches; the restart begins. -/
theorem State.activate_swaps (h : s.start.firmwareAt = some c) (ha : s.reg Reg.activationState = 1)
    (hc : s.serviceCourse c = true) (hw : s.awake = true) :
    s.activate =
      let patches := Config.imagePatches (s.slotItem s.otherSlot).body
      let t := (((List.range 128).filter s.clusterOn).foldl State.swapTrowel s).trowelImages
        (s.slotItem s.otherSlot).header
      let t : State := { t with start := { t.start with firmwareAt := some t.serviceStamp, patchRam := patches } }
      (t.setReg Reg.patchedRoutines (manifestRecords (Config.patchRecords patches)).length).setReg
        Reg.activationState 2 := by
  unfold State.activate
  rw [h]
  exact if_neg (by simp [ha, hc, hw])

theorem execKeystoneRestartDone_next : execKeystoneRestartDone s = .next s.endRestart :=
  done_eq (State.endRestart_pending s)

/-- The end of a restart runs the requests that waited, then announces the firmware. -/
theorem State.endRestart_runs (ha : s.awake = true) (hk : s.keystoneDown = true) :
    s.endRestart =
      let t := s.restartDone
      let t : State := { t with paths := { t.paths with waiting := [] } }
      (s.paths.waiting.foldl State.runWaiting t).noticeActivated (s.start.firmwareAt.getD allOnes64) :=
  if_pos ⟨ha, hk⟩

theorem State.endRestart_idle (h : s.keystoneDown = false) : s.endRestart = s :=
  if_neg fun hx => ne_true_of_eq_false h hx.2

end

/-! ### Pattern Book patches (R517) -/

section
variable {s t : State} {v : Via} {body : Bytes} {n c rc path : Nat}

theorem execPatchLoad_next (h : s.grantsNumber v 0x9020 3 3 n = true)
    (ha : (s.countRequest v).loadPatch (viaCode v) n = (rc, t)) :
    execPatchLoad v n s = .next (t.respond v 0x9020 3 2 rc []) :=
  done_writeNumber (act := fun s => s.loadPatch (viaCode v) n) h ha fun _ => State.loadPatch_pending ..

theorem State.loadPatch_refused (h : s.reg Reg.planState ≠ 0 ∨ s.limewash = true) :
    s.loadPatch path n = (rcStateRefused, s) :=
  if_pos h

section
variable (hp : s.reg Reg.planState = 0) (hl : s.limewash = false) (hn : n ≤ 2 ^ 28)
include hp hl hn

/-- A staged patch that does not verify is refused with its cause and result. -/
theorem State.loadPatch_unverified {cause : Nat}
    (h : s.verify ⟨s.staging.read 0 n⟩ [2] false = some (cause, rc)) :
    s.loadPatch path n = (rc, (s.setReg Reg.patchState 4).refuseItem ⟨s.staging.read 0 n⟩ cause path) := by
  unfold State.loadPatch
  rw [if_neg (by simp [hp, hl]), if_neg (Nat.not_lt.mpr hn)]
  dsimp only
  rw [h]

/-- A verified one is kept where it fits. -/
theorem State.loadPatch_verified (h : s.verify ⟨s.staging.read 0 n⟩ [2] false = none) :
    s.loadPatch path n =
      let i : Item := ⟨s.staging.read 0 n⟩
      if s.patchFits i then
        (rcOk, { s.setReg Reg.patchState 2 with start := { s.start with patch := some i.body, patchAt := none } })
      else (rcRangeError, s.setReg Reg.patchState 4) := by
  unfold State.loadPatch
  rw [if_neg (by simp [hp, hl]), if_neg (Nat.not_lt.mpr hn)]
  dsimp only
  rw [h]

end

theorem execPatchActivate_next (h : s.grantsNumber v 0x9020 5 4 n = true)
    (ha : (s.countRequest v).governed (State.judgePatch n) 2 0 n (State.armPatch n) = (rc, t)) :
    execPatchActivate v n s = .next (t.respond v 0x9020 5 2 rc []) :=
  done_writeNumber h ha fun u => State.governed_pending u _ _ _ _ _ fun _ => rfl

/-- A request that its own conditions refuse does not reach the governor. -/
theorem State.governed_refused {own : State → Nat} {a port value : Nat} {start : State → State} (ho : own s = rc)
    (hr : rc ≠ rcOk) : s.governed own a port value start = (rc, s) := by
  subst ho
  exact if_pos hr

theorem State.judgePatch_unloaded (h : s.reg Reg.patchState ≠ 2) : State.judgePatch c s = rcStateRefused := if_pos h

theorem State.judgePatch_ok (h : s.reg Reg.patchState = 2) (hc : s.activationCourse c 1 = true) :
    State.judgePatch c s = rcOk := by
  unfold State.judgePatch
  rw [if_neg (not_not.mpr h), if_pos hc]

theorem execPatchSwap_next : execPatchSwap s = .next s.swapPatch := done_eq (State.swapPatch_pending s)

/-- An armed patch whose course has come is in force, and announced. -/
theorem State.swapPatch_swaps (ha : s.start.patchAt = some c) (hb : s.start.patch = some body)
    (hs : s.reg Reg.patchState = 3) (hc : s.serviceCourse c = true) (hw : s.awake = true) :
    s.swapPatch =
      let t : State := { s with start := { s.start with patchRam := body, patch := none, patchAt := none } }
      let t := (t.setReg Reg.patchState 0).setReg Reg.patchedRoutines
        (manifestRecords (Config.patchRecords body)).length
      t.notice Note.patchActivated srcModule (u16 (t.reg Reg.patchedRoutines) ++ u64 s.serviceStamp) := by
  unfold State.swapPatch
  rw [ha, hb]
  exact if_neg (by simp [hs, hc, hw])

theorem State.swapPatch_none (h : s.start.patchAt = none) : s.swapPatch = s := by
  unfold State.swapPatch
  rw [h]

end

/-- Settles O58, command by command, from the branches of each operation. The step that an unconfirmed attempt has
reached is assumption 39; where an attempt may start, that a failed PatchLoad leaves PatchState 4, and that SlotImage
and SlotStage answer with the result of their item, are assumption 40. -/
theorem startsAndFirmware : Obligations.StartsAndFirmware := by
  intro v n b l s u stored
  refine ⟨fun h => ?_, fun h => ?_, fun hm hn => ?_, fun hn => ?_,
    fun hs => ⟨fun hc => ?_, fun hc => ?_, fun hm ha reason detail h2 h5 => ?_⟩,
    fun ha h1 h5 => ⟨fun hs => ?_, fun hs => ?_⟩,
    fun h => ⟨fun hl hr => ?_, fun hr => ?_⟩,
    fun h => ⟨fun hr => ?_, fun hl hn => ?_⟩,
    fun h hr => ?_,
    fun h => ⟨fun hn hp hb hr => ?_, fun hn hp => ?_⟩,
    fun h => ⟨fun hl => ?_, fun hl => ?_⟩,
    fun h hl => ⟨fun hc => ?_, fun hc => ?_⟩,
    fun h => ?_, fun c h ha hc hw => ?_, fun ha hk => ?_, fun hk => ?_,
    fun h hn => ⟨fun hr => ?_, fun hp hl => ?_⟩,
    fun h => ⟨fun hs => ?_, fun hs hc hb => ?_⟩,
    fun c body ha hb hs hc hw => ?_, fun h => ?_⟩
  · exact execAttemptStart_next.trans (congrArg _ (State.startUp_attempts h))
  · exact execAttemptStart_next.trans (congrArg _ (State.startUp_elsewhere h))
  · exact execResetN_next.trans (congrArg _ (State.resetPin_eq.trans (if_pos ⟨hm, hn⟩)))
  · exact execResetN_next.trans (congrArg _ (State.resetPin_eq.trans (if_neg fun hx => Nat.not_le.mpr hn hx.2)))
  · exact execStartConfirmed_next.trans (congrArg _ (State.confirmStart_confirms hs hc))
  · exact execStartConfirmed_next.trans (congrArg _ (State.confirmStart_early hc))
  · exact execStartFailed_next.trans (congrArg _ (State.startFails_fails hm ha hs h2 h5))
  · exact execFatalFault_next.trans (congrArg _ ((State.fatalFault_restarts ha h1 h5).trans (if_pos hs)))
  · exact execFatalFault_next.trans (congrArg _ ((State.fatalFault_restarts ha h1 h5).trans (if_neg hs)))
  · exact execStartRetry_next h (State.retryStart_restarts hl hr)
  · exact execStartRetry_next h (State.retryStart_refused hr)
  · exact execSlotSelect_next h (State.selectSlot_selects hr)
  · exact execSlotSelect_next h (State.selectSlot_running hl hn)
  · exact execSlotImage_next h (State.writeSlot_writes hr)
  · subst hb
    exact execSlotStage_next h ((State.stageSlot_writes hn hp).trans (State.writeSlot_writes hr))
  · exact execSlotStage_next h (State.stageSlot_refused hn hp)
  · exact execDiagnosticRun_next h (State.diagnose_refused hl)
  · exact execDiagnosticRun_next h (State.diagnose_shows hl)
  · exact execFirmwareActivate_next h (State.activateFirmware_range hl hc)
  · exact execFirmwareActivate_next h (State.activateFirmware_judges hl hc)
  · exact execFirmwareActivation_next.trans (congrArg _ (State.activate_none h))
  · exact execFirmwareActivation_next.trans (congrArg _ (State.activate_swaps h ha hc hw))
  · exact execKeystoneRestartDone_next.trans (congrArg _ (State.endRestart_runs ha hk))
  · exact execKeystoneRestartDone_next.trans (congrArg _ (State.endRestart_idle hk))
  · exact execPatchLoad_next h (State.loadPatch_refused hr)
  · intro i
    split
    case h_1 cause rc hv => exact execPatchLoad_next h (State.loadPatch_unverified hp hl hn hv)
    case h_2 hv =>
      have hj := State.loadPatch_verified (path := viaCode v) hp hl hn hv
      split
      case isTrue hf => exact execPatchLoad_next h (hj.trans (if_pos hf))
      case isFalse hf => exact execPatchLoad_next h (hj.trans (if_neg hf))
  · exact execPatchActivate_next h (State.governed_refused (State.judgePatch_unloaded hs) (by decide))
  · exact execPatchActivate_next h (governed_starts (State.judgePatch_ok hs hc) hb)
  · exact execPatchSwap_next.trans (congrArg _ (State.swapPatch_swaps ha hb hs hc hw))
  · exact execPatchSwap_next.trans (congrArg _ (State.swapPatch_none h))

end Sys2Proof.Machine

/-! PROOFS. Bond pairs: modes, heartbeats, bond states, mirror records, loss, takeover and the requests that the
governor holds, each operation branch by branch. -/

namespace Sys2Proof.Machine

/-! ### Modes (R501, R502, R505) -/

section
variable {s t : State} {v : Via} {n rc : Nat}

theorem execBondModeWrite_next (h : s.grantsNumber v 0x9000 1 1 n = true)
    (ha : (s.countRequest v).writeBondMode n = (rc, t)) :
    execBondModeWrite v n s = .next (t.respond v 0x9000 1 2 rc []) :=
  done_writeNumber (act := fun s => s.writeBondMode n) h ha fun u => State.writeBondMode_pending u n

/-- Solo written to Solo changes nothing; on a pair it ends it, unless a takeover is pending. -/
theorem State.writeBondMode_solo :
    s.writeBondMode 0 =
      if s.reg Reg.bondMode = 0 then (rcOk, s)
      else if s.takeoverPending then (rcStateRefused, s)
      else (rcOk, { s with bond := { s.bond with ending := true } }) :=
  if_pos rfl

/-- The conditions of a paired mode, met. -/
theorem State.judgePair_ok {p : Plan} (hl : s.limewash = false) (hm : s.power.mode = .run) (ha : s.planActive = true)
    (hu : s.partnerUp = true) (hp : s.anyPlan = some p) (hd : n = 3 → p.divides = true)
    (hi : p.sharesIngress = true) : State.judgePair n s = rcOk := by
  have hdiv : ¬(n = 3 ∧ p.divides = false) := fun ⟨hn, hf⟩ => ne_true_of_eq_false hf (hd hn)
  unfold State.judgePair
  rw [if_neg (by simp [hl, hm, ha]), if_neg (ne_false_of_eq_true hu), hp]
  dsimp only
  rw [if_neg hdiv, if_neg (ne_false_of_eq_true hi)]

/-- Another paired mode whose conditions hold and that nothing blocks begins a pair. -/
theorem State.writeBondMode_pairs (h0 : n ≠ 0) (hn : n ≠ s.reg Reg.bondMode) (hj : State.judgePair n s = rcOk)
    (hb : s.blocker 8 0 = none) : s.writeBondMode n = (rcOk, State.pair n s) :=
  (if_neg h0).trans ((if_neg hn).trans (governed_starts hj hb))

theorem execBondYield_next (h : s.grantsNumber v 0x9000 6 7 1 = true) :
    execBondYield v 1 s = .next (State.answerOk
      { s.countRequest v with bond := { (s.countRequest v).bond with yield := true } } v) :=
  done_writeNumber (act := fun s => (rcOk, s.mapBond fun b => { b with yield := true })) h rfl fun _ => rfl

end

/-! ### Heartbeats and bond states (R504, R508, R509, R514) -/

section
variable {s : State} {bond lane w : Nat}

theorem execHeartbeat_next (hb : bond < 4) (hl : lane < 8) (hw : w < 2 ^ 128) :
    execHeartbeat bond lane w s = .next (s.hear w) :=
  onUnit_runs (by simp only [laneOk, word128Ok, hb, hl, hw, decide_true, Bool.and_self]) (State.hear_pending s w)

/-- In Run or Hold a word that checks is kept; on a pair it moves the mirror's mark and the bond's state. -/
theorem State.hear_keeps (hc : wordChecks w = true) (hm : s.power.mode = .run ∨ s.power.mode = .hold) :
    s.hear w =
      let y := if s.bond.seen then s.bond.yieldSeen || hbYield w else hbYield w
      let t : State := { s with bond := { s.bond with partner := some w, seen := true, yieldSeen := y } }
      if s.reg Reg.bondMode = 0 then t else (t.takeMarkOf w).meetPartner w :=
  if_neg (by rcases hm with hm | hm <;> simp [hm, hc])

theorem execBondDegraded_next : execBondDegraded s = .next s.degrade := done_eq (State.degrade_pending s)

theorem State.degrade_degrades (hs : s.reg Reg.bondState = 3) (hk : 64 ≤ s.bond.keyDiffers) :
    s.degrade = (s.setReg Reg.bondState 4).notice Note.bondDegraded srcModule (u8 1) :=
  if_pos ⟨hs, hk⟩

theorem State.degrade_early (hk : s.bond.keyDiffers < 64) : s.degrade = s := if_neg fun hx => Nat.not_le.mpr hk hx.2

theorem execMirrorBufferFull_next : execMirrorBufferFull s = .next s.mirrorFull := done_eq (State.mirrorFull_pending s)

/-- A full buffer on a protected pair is reported once, and the pair is Degraded. -/
theorem State.mirrorFull_lags (hs : s.reg Reg.bondState = 3) (hf : s.bond.bufferFilled = true)
    (hl : s.bond.lagged = false) :
    s.mirrorFull =
      let t := s.setReg Reg.bondState 4
      let t : State := { t with bond := { t.bond with lagged := true } }
      (t.notice Note.mirrorLagging srcModule (u64 (t.reg Reg.mirrorMark) ++ u32 t.bond.buffered)).notice
        Note.bondDegraded srcModule (u8 2) :=
  (if_pos ⟨hf, hl, by omega, by omega⟩).trans (if_neg (by omega))

theorem State.mirrorFull_room (hf : s.bond.bufferFilled = false) : s.mirrorFull = s :=
  if_neg fun hx => ne_true_of_eq_false hf hx.1

theorem execResyncDone_next : execResyncDone s = .next s.resyncEnds := done_eq (State.resyncEnds_pending s)

/-- A resync whose tiles are sent ends in Protected where the keys agree. -/
theorem State.resyncEnds_protects (hs : s.reg Reg.bondState = 2) (hk : s.keysEqual = true) (hr : s.bond.resync = []) :
    s.resyncEnds = ((s.setReg Reg.resyncTilesLeft 0).notice Note.resyncDone srcModule
      (u16 s.bond.copied ++ u32 (s.time.localCount + 1 - s.bond.resyncAt))).protect :=
  if_pos ⟨hs, hk, hr⟩

theorem State.resyncEnds_waits (h : s.keysEqual = false ∨ s.bond.resync ≠ []) : s.resyncEnds = s :=
  if_neg fun ⟨_, hk, hr⟩ => h.elim (fun hf => ne_true_of_eq_false hf hk) (· hr)

end

/-! ### Mirror records (R507, R508) -/

section
variable {s : State} {r : Bytes}

theorem execMirrorRecord_next : execMirrorRecord r s = .next (s.takeMirror r) := done_eq (State.takeMirror_pending s r)

/-- In a mode that receives, a record of a slot that the partner owns is applied. -/
theorem State.takeMirror_applies (hr : mirrorOk r = true) (ha : s.awake = true) (h1 : 1 ≤ s.reg Reg.bondState)
    (h4 : s.reg Reg.bondState ≤ 4) (hm : s.reg Reg.bondMode = 2 ∨ s.reg Reg.bondMode = 3)
    (ho : byteAt r 0 = 6 ∨ field r 2 2 < s.tintSlots ∧ s.owns (field r 2 2) = false) :
    s.takeMirror r = s.applyMirror r :=
  if_pos ⟨hr, ha, hm, h1, h4, ho⟩

theorem State.takeMirror_sender (hm : s.reg Reg.bondMode ≤ 1) : s.takeMirror r = s :=
  if_neg fun ⟨_, _, hx, _⟩ => by omega

end

/-! ### Loss of the partner (R505, R510, R511) -/

section
variable {s : State} {n : Nat} {m : Bytes}

theorem execPartnerLost_next : execPartnerLost s = .next s.losePartner := done_eq (State.losePartner_pending s)

theorem State.losePartner_early (h : s.bond.missed < s.reg Reg.heartbeatLimit) : s.losePartner = s :=
  if_pos (.inr (.inr (.inr h)))

/-- A partner missed for the limit is lost: a bond that protects takes over, another ends. -/
theorem State.losePartner_loses (hm : s.reg Reg.bondMode ≠ 0) (h0 : s.reg Reg.bondState ≠ 0)
    (h5 : s.reg Reg.bondState ≠ 5) (h : s.reg Reg.heartbeatLimit ≤ s.bond.missed) :
    s.losePartner =
      let t := s.notice Note.bondLost srcModule (u8 s.bond.cause ++ u64 (s.reg Reg.appliedMark))
      let t := if s.reg Reg.bondState = 3 ∨ s.reg Reg.bondState = 4 then t.lossTakeover s.bond.cause else t.solo
      (t.repairs.filter fun x => x.sources.head? == some 1).foldl State.nextSource t :=
  if_neg (by simp [hm, h0, h5, h])

theorem execBondReport_next (hn : n < 4096) : execBondReport n m s = .next (s.takeBondReport n m) :=
  onUnit_runs (decide_eq_true hn) (State.takeBondReport_pending ..)

theorem State.takeBondReport_wants (hh : s.headHears n m = true)
    (hs : s.reg Reg.bondState = 3 ∨ s.reg Reg.bondState = 4) (ht : s.bond.takeover = none)
    (ho : s.bond.tookOver = false) : s.takeBondReport n m = { s with bond := { s.bond with lost := true } } :=
  (if_pos hh).trans (if_pos ⟨hs, Option.isNone_iff_eq_none.mpr ht, ho⟩)

theorem State.takeBondReport_unheard (hh : s.headHears n m = false) : s.takeBondReport n m = s :=
  if_neg (ne_true_of_eq_false hh)

end

/-! ### Takeover (R511 to R513) -/

section
variable {s : State} {t rm : Nat}

theorem execBondTakeover_next : execBondTakeover s = .next s.takeOver := done_eq (State.takeOver_pending s)

theorem State.takeOver_none (h : s.bond.takeover = none) : s.takeOver = s := by
  unfold State.takeOver
  rw [h]

theorem State.takeOver_early (h : s.bond.takeover = some (t, rm))
    (hc : s.reachedCourses.any (fun c => decide (t ≤ c)) = false) : s.takeOver = s := by
  unfold State.takeOver
  rw [h]
  exact if_pos (.inr (.inr (by rw [hc]; rfl)))

/-- At T each mirrored slot meets its fate, the module is Solo, and the takeover is counted and announced. -/
theorem State.takeOver_takes (h : s.bond.takeover = some (t, rm)) (hm : s.reg Reg.bondMode ≠ 0)
    (hd : s.haltDue = false) (hc : s.reachedCourses.any (fun c => decide (t ≤ c)) = true) :
    s.takeOver =
      let r := ((s.serving.slots.filter fun e => e.2.state == 6).map (·.1)).foldl (State.takeSlot t rm) (s, 0, 0)
      let w := r.1.solo
      let w : State := { w with bond := { w.bond with tookOver := true } }
      (((w.bump Reg.takeovers).setReg Reg.lastTakeover t).setReg Reg.lastResumeMark rm).notice Note.bondTakeover
        srcModule (u64 t ++ u64 rm ++ u16 r.2.1 ++ u16 r.2.2) := by
  have hdue : ¬(s.reg Reg.bondMode = 0 ∨ s.haltDue = true ∨
      (!s.reachedCourses.any fun c => decide (t ≤ c)) = true) := by
    rw [hd, hc]
    simp [hm]
  unfold State.takeOver
  rw [h]
  exact if_neg hdue

theorem execBondTakenOver_next : execBondTakenOver s = .next s.takenOver := done_eq (State.takenOver_pending s)

/-- A module whose partner has taken over goes Solo and says so. -/
theorem State.takenOver_yields (hm : s.reg Reg.bondMode ≠ 0) (hp : s.bond.partner.any hbTookOver = true) :
    s.takenOver =
      let t := (s.drew 1).solo
      t.notice Note.bondTakenOver srcModule (u16 (t.reg Reg.bondPartner) ++ u64 (Config.freeWord s.drawn).toNat) :=
  if_pos ⟨hm, hp⟩

theorem State.takenOver_solo (hm : s.reg Reg.bondMode = 0) : s.takenOver = s := if_neg fun hx => hx.1 hm

theorem execMaintenanceRelease_next (ha : s.awake = true) :
    execMaintenanceRelease s = .next (s.held.foldl State.releaseHeldRequest s) :=
  done_of_eq (State.releaseRequests_pending s) (if_pos ha)

end

/-- Settles O56, command by command, from the branches of each operation. That a paired module may pair anew, that Yield
and TookOver last, that BondDegraded is sent on leaving Protected only, and that the partner's T in BondTakenOver is a
free value, are assumption 45. -/
theorem bondsActTogether : Obligations.BondsActTogether := by
  intro v n b s u
  refine ⟨fun h => ⟨fun h0 hm => ?_, fun h0 hm ht => ?_, fun h0 hm ht => ?_,
      fun h0 hn hl hr ha hu p hp hd hi hb => ?_⟩,
    execBondYield_next,
    fun bond lane hbond hl hn hc hr => ⟨fun hm => ?_, fun hm => ?_⟩,
    fun hs => ⟨fun hk => ?_, fun hk => ?_, fun hf hl => ?_, fun hf => ?_⟩,
    fun hs => ⟨fun hk hr => ?_, fun hr => ?_⟩,
    fun hr ha h1 h4 => ⟨fun hm ho => ?_, fun hm => ?_⟩,
    fun hm h0 h5 => ⟨fun hc => ?_, fun hc => ?_⟩,
    fun hn hh hs ht ho => ?_, fun hn hh => ?_, fun h => ?_,
    fun t rm h hm hd => ⟨fun hc => ?_, fun hc => ?_⟩,
    fun hm hp => ?_, fun hm => ?_, execMaintenanceRelease_next⟩
  · subst h0
    exact execBondModeWrite_next h (State.writeBondMode_solo.trans (if_pos hm))
  · subst h0
    exact execBondModeWrite_next h (State.writeBondMode_solo.trans ((if_neg hm).trans (if_pos ht)))
  · subst h0
    exact execBondModeWrite_next h
      (State.writeBondMode_solo.trans ((if_neg hm).trans (if_neg (ne_true_of_eq_false ht))))
  · exact execBondModeWrite_next h
      (State.writeBondMode_pairs h0 hn (State.judgePair_ok hl hr ha hu hp hd hi) hb)
  · exact (execHeartbeat_next hbond hl hn).trans (congrArg _ ((State.hear_keeps hc hr).trans (if_pos hm)))
  · exact (execHeartbeat_next hbond hl hn).trans (congrArg _ ((State.hear_keeps hc hr).trans (if_neg hm)))
  · exact execBondDegraded_next.trans (congrArg _ (State.degrade_degrades hs hk))
  · exact execBondDegraded_next.trans (congrArg _ (State.degrade_early hk))
  · exact execMirrorBufferFull_next.trans (congrArg _ (State.mirrorFull_lags hs hf hl))
  · exact execMirrorBufferFull_next.trans (congrArg _ (State.mirrorFull_room hf))
  · exact execResyncDone_next.trans (congrArg _ (State.resyncEnds_protects hs hk hr))
  · exact execResyncDone_next.trans (congrArg _ (State.resyncEnds_waits hr))
  · exact execMirrorRecord_next.trans (congrArg _ (State.takeMirror_applies hr ha h1 h4 hm ho))
  · exact execMirrorRecord_next.trans (congrArg _ (State.takeMirror_sender hm))
  · exact execPartnerLost_next.trans (congrArg _ (State.losePartner_early hc))
  · exact execPartnerLost_next.trans (congrArg _ (State.losePartner_loses hm h0 h5 hc))
  · exact (execBondReport_next hn).trans (congrArg _ (State.takeBondReport_wants hh hs ht ho))
  · exact (execBondReport_next hn).trans (congrArg _ (State.takeBondReport_unheard hh))
  · exact execBondTakeover_next.trans (congrArg _ (State.takeOver_none h))
  · exact execBondTakeover_next.trans (congrArg _ (State.takeOver_early h hc))
  · exact execBondTakeover_next.trans (congrArg _ (State.takeOver_takes h hm hd hc))
  · exact execBondTakenOver_next.trans (congrArg _ (State.takenOver_yields hm hp))
  · exact execBondTakenOver_next.trans (congrArg _ (State.takenOver_solo hm))

end Sys2Proof.Machine
